-- ==== Sys2Proof/Word.lean ====
section
/-! DEFINITION. The word types of the device: bytes, 32-bit words, the raw patterns of binary32 and binary64 values, and the sparse table type that every indexed piece of state uses. -/

namespace Sys2Proof

/-- A byte; bit 0 is the least significant bit (R1). -/
abbrev Byte := BitVec 8

/-- A 32-bit register word (R2) or a point value pattern (R116). -/
abbrev Word := BitVec 32

/-- The bit pattern of an IEEE 754 binary32 value (R17). -/
abbrev F32 := BitVec 32

/-- The bit pattern of an IEEE 754 binary64 value (used where R195 states a real-valued formula). -/
abbrev F64 := BitVec 64

/-- A sparse table: key and value pairs in strictly rising key order; an unlisted key holds the table's default. -/
abbrev Tab (α : Type) := List (Nat × α)

end Sys2Proof
end

