-- ==== Sys2Proof/Machine/Types/Host.lean ====
section
/-! DEFINITION. Host interface state: command references, completion records, rings, the shared window, interrupts, the Steward and the Ethernet transport (chapter 18, R458 to R481; chapter 17, R435 to R437). -/

namespace Sys2Proof.Machine

/-- The reference by which a ring command is answered: its ring, handle (R465), tag, flags and buffer (R464). -/
structure CmdRef where
  /-- Ring number 0–127 (R465). -/
  ring : Nat
  /-- 32-bit handle (R465). -/
  handle : Nat
  /-- Host tag returned in every record (R464). -/
  tag : Nat
  /-- FLAGS bit 0: interrupt at the final record (R464). -/
  irq : Bool := false
  /-- FLAGS bit 1: fence (R464). -/
  fence : Bool := false
  /-- The command came relayed from another device (R360, R466). -/
  relayed : Bool := false
  /-- Opcode returned in every record (R466). -/
  op : Nat := 0
  /-- Device from which a relayed command came (R360). -/
  origin : Option Nat := none
  /-- Times the ring had been reset when the command was fetched (R459, R478). -/
  gen : Nat := 0
  /-- The ring engine counts it as a long operation fetched (R463). -/
  long : Bool := false
  /-- BUF_ADDR, a window offset, or a host bus address when bufHost (R464). -/
  bufAddr : Nat := 0
  /-- BUF_LEN in bytes (R464). -/
  bufLen : Nat := 0
  /-- FLAGS bit 2: BUF_HOST (R464). -/
  bufHost : Bool := false
  /-- The command came in a manifest: its records are the active's to send (R389). -/
  replayed : Bool := false
deriving DecidableEq, Repr

/-- The completion status codes (R468). -/
inductive Status where
  | ok | acceptedLong | busy | denied | needsSecond | invalid | collision | torn | certFail | absent | overflow | timeout | aborted
deriving DecidableEq, Repr

/-- A completion record that is due (R466); the phase and the write stamp are set when it is written. -/
structure Cpl where
  /-- The command answered. -/
  ref : CmdRef
  status : Status
  final : Bool
  stwRestart : Bool := false
  detail : Nat
  result : Nat
  /-- Output bytes written to the command's buffer before the record (R466). -/
  data : List Byte
deriving DecidableEq, Repr

/-- The executors of R469. -/
inductive Executor where
  | ringEngine | pointEngine | historian | acquisition | converter | steward
deriving DecidableEq, Repr

/-- A decoded command record (R464). -/
structure CmdRecord where
  opcode : Nat
  irq : Bool
  fence : Bool
  bufHost : Bool
  tag : Nat
  bufAddr : Nat
  bufLen : Nat
  /-- The 40 argument bytes. -/
  args : List Byte
deriving DecidableEq, Repr

/-- A command fetched from a ring and waiting at its executor, with its argument words (R463, R469). -/
structure Fetched where
  ref : CmdRef
  args : List Nat
  executor : Executor
deriving DecidableEq, Repr

/-- The part of a ring's state that no register shows (R461–R464, R472). -/
structure Ring where
  /-- Records due and not yet written, in due order (R463, R467). -/
  due : List Cpl := []
  /-- Records written since the ring became READY; its pass gives PHASE (R466). -/
  written : Nat := 0
  /-- Handle of the fenced command whose final record is awaited (R464). -/
  fence : Option Nat := none
  /-- Handles fetched and not finally completed, in fetch order (R464, R477). -/
  open_ : List Nat := []
  /-- Handles among them that are long operations, fetched and awaiting their final record (R463). -/
  longs : List Nat := []
  /-- Long operations whose acknowledgement is not yet written: each reserves a second completion slot (R463). -/
  acks : List Nat := []
  /-- Resets of the ring so far; records of commands fetched before the last are discarded (R459, R478). -/
  gen : Nat := 0
  /-- Messages due since the last message sent (R472). -/
  irqDue : Nat := 0
  /-- Run time in ns of the first message due since then (R472). -/
  irqFirst : Option Nat := none
  /-- Whether the present wait for a free slot was counted (R463). -/
  waitCounted : Bool := false
deriving DecidableEq, Repr

/-- A datagram sent over an Ethernet-bound ring and not yet acknowledged (R476, R477). -/
structure Datagram where
  ty : Nat
  dseq : Nat
  handle : Nat
  offset : Nat
  payload : List Byte
  /-- Run time in ns of its last sending. -/
  sentAt : Nat
deriving DecidableEq, Repr

/-- The Ethernet transport of one ring (R475–R478). -/
structure EthRing where
  /-- DSEQ of the next datagram accepted from the host. -/
  dseqIn : Nat := 0
  /-- DSEQ of the next datagram sent to the host. -/
  dseqOut : Nat := 0
  /-- Sent and not acknowledged, oldest first. -/
  unacked : List Datagram := []
  /-- An acknowledgement is owed since this run time (ns). -/
  ackDue : Option Nat := none
  /-- ACK datagrams sent, a count the model keeps so that sending is visible. -/
  acksSent : Nat := 0
deriving DecidableEq, Repr

/-- The Steward as the host interface sees it (R469, R471). -/
structure Steward where
  /-- Commands waiting for the Steward, in fetch order within each ring (R469). -/
  queue : List Fetched := []
  /-- The ring after which the round-robin turn continues (R469). -/
  turn : Nat := 0
  /-- The command it is executing (R471). -/
  current : Option Fetched := none
  /-- Whether it stopped serving its watchdog (R471). -/
  hung : Bool := false
  /-- A clause open for the interrupted command was torn (R86, R87). -/
  tornClause : Bool := false
deriving DecidableEq, Repr

/-- A command sent on to another device and awaiting its completion (R360). -/
structure Relay where
  dev : Nat
  ref : CmdRef
  op : Nat
  args : List Nat
  /-- Run time in ns of its departure. -/
  sentAt : Nat
  /-- Its frames have left. -/
  sent : Bool := false
  /-- Its acknowledgement as a long operation came. -/
  accepted : Bool := false
deriving DecidableEq, Repr

/-- One device's answer to its part of a command. -/
structure Answer where
  status : Status
  detail : Nat
  result : Nat
  data : List Byte
deriving DecidableEq, Repr

/-- A point command over several devices: for each device its part, and its answer when one came (R127). -/
structure PointJob where
  ref : CmdRef
  op : Nat
  /-- Identifiers with their values, in the order of the command. -/
  items : List (Nat × Word)
  /-- Mark of a CONST_WRITE (R362). -/
  mark : Nat := 0
  /-- Run time in ns of the departure of its requests. -/
  sentAt : Nat
  /-- Devices whose answer is awaited. -/
  waiting : List Nat
  /-- Answers come, by device. -/
  answers : Tab Answer
deriving DecidableEq, Repr

/-- Host interface (chapter 18). -/
structure HostIf where
  /-- PCIe function answers configuration requests (R458). -/
  ready : Bool := false
  /-- PCIe link is up and PERST# released. -/
  perst : Bool := true
  /-- Per-ring state. -/
  rings : Tab Ring := []
  /-- Per-ring Ethernet transport state. -/
  eth : Tab EthRing := []
  /-- The 4 MiB shared window, sparse; an unlisted byte reads as 0 (R435, R577). -/
  window : Tab Byte := []
  /-- MSI-X table words that differ from their reset (R480): key entry × 4 + word. -/
  msix : Tab Word := []
  /-- MSI-X pending bits (R472, R474). -/
  pba : List Nat := []
  /-- Stamp of each vector's last pending (R474). -/
  stamps : Tab Nat := []
  /-- Latched halves of RNG_VEC_STAMP_v (R474). -/
  stampLatch : Tab Nat := []
  /-- Messages sent, newest first: the vector numbers (R472, R473). -/
  sent : List Nat := []
  /-- Commands waiting at the ring engine, point engine, historian, acquisition and converter block (R469). -/
  waiting : List Fetched := []
  steward : Steward := {}
  /-- Commands relayed to other devices (R360). -/
  relays : List Relay := []
  /-- Point commands over several devices (R127, R360). -/
  jobs : List PointJob := []
  /-- Records of relayed commands that await a frame to their originating device (R360). -/
  remote : List Cpl := []
  /-- Records of commands received on the maintenance port (R505). -/
  mnt : List Cpl := []
  /-- Input placed over the maintenance port, and the number of commands taken from it (R477, R505; log entry 30). -/
  mntArea : Tab Byte := []
  mntSeq : Nat := 0
  /-- Writes made to host bus addresses, newest first: address and bytes (R464, R466). -/
  toHost : List (Nat × List Byte) := []
  /-- Bytes returned by the last BAR0 read, in ascending order (R2, R576). -/
  readData : List Byte := []
deriving DecidableEq, Repr

/-- One of the 1,024 event counters (R447, R448, R449). -/
structure Counter where
  /-- The 48-bit count. -/
  value : BitVec 48 := 0
  /-- Wrapped since the last latch (R448). -/
  wrap : Bool := false
  /-- Wrapped since the last snapshot (R449). -/
  snapWrap : Bool := false
deriving DecidableEq, Repr

/-- A counter snapshot value (R449). -/
structure SnapVal where
  value : BitVec 48 := 0
  wrap : Bool := false
deriving DecidableEq, Repr

/-- A bandwidth port (R452). -/
structure BwPort where
  /-- WIN_US in effect, in µs. -/
  win : Nat := 1000
deriving DecidableEq, Repr

/-- The event counters and their snapshot (R447–R452). -/
structure Counters where
  tab : Tab Counter := []
  /-- The shadow register read by CTR_HI_n (R448): value and wrap of the last latch of each counter. -/
  latch : Tab SnapVal := []
  /-- Snapshot registers (R449). -/
  snap : Tab SnapVal := []
  /-- Values captured for the snapshot in progress (R449). -/
  filling : Option (Tab SnapVal) := none
  /-- Commands waiting for the snapshot in progress, with the numbers asked for (0x0F21). -/
  waiters : List (CmdRef × List Nat) := []
  bw : Tab BwPort := []
deriving DecidableEq, Repr

end Sys2Proof.Machine
end

