-- ==== Sys2Proof/Machine/Types/Ageing.lean ====
section
/-! DEFINITION. The event recorder, the voltage, migration and probe engines and the spare map (chapter 20, R509 to R533). -/

namespace Sys2Proof.Machine

/-- The live summary of an event code (R525). -/
structure Summary where
  count : Nat := 0
  min : Int := 0
  max : Int := 0
  bins : List Nat := [0, 0, 0, 0, 0, 0, 0, 0, 0, 0, 0, 0, 0, 0, 0, 0]
  /-- OP_HOURS and PCYCLES when first seen. -/
  first : Nat × Nat := (0, 0)
  last : Nat × Nat := (0, 0)
deriving DecidableEq, Repr

/-- A record of the recorder log (R527). -/
structure RecRecord where
  seq : Nat
  code : Nat
  /-- 1 epoch, 2 count crossing, 3 before RESTART, 4 base at clear, 5 power fail. -/
  kind : Nat
  limited : Bool
  sum : Summary
  /-- stamp64 of D at the append. -/
  t : Nat
deriving DecidableEq, Repr

/-- The event recorder (R525–R530). -/
structure Recorder where
  live : Tab Summary := []
  /-- Codes changed since their last append. -/
  changed : List Nat := []
  /-- Codes whose COUNT reached a power of two and whose append is due (R528). -/
  crossing : List Nat := []
  /-- Records in MRAM, oldest first (R527). -/
  log : List RecRecord := []
  /-- SEQ of the first record. -/
  baseSeq : Nat := 0
  /-- LO and SHIFT of host codes (R526). -/
  hostCodes : Tab (Int × Nat) := []
  /-- Codes already appended in this epoch (R529). -/
  epochDone : List Nat := []
  /-- Codes whose crossing was deferred to the epoch's append (R529). -/
  deferred : List Nat := []
  /-- Least index of a record that holds an uncorrectable error: the boot scan ends there (R434, R527). -/
  bad : Option Nat := none
deriving DecidableEq, Repr

/-- A migration or return under way (R515, R517): home, executing cell, effect mark and the command that asked. -/
structure Migration where
  home : Nat
  exec : Nat
  mark : Nat
  ref : Option CmdRef := none
deriving DecidableEq, Repr

/-- A margin probe (R518): operating hours and U_top by cell. -/
structure Probe where
  hours : Nat
  utop : Tab Nat
deriving DecidableEq, Repr

/-- What a pending setpoint write is for: a voltage step, a lowering, a probe, a changed bound, VFIX, or the boot value (R512, R513, R518, R520, R541). -/
inductive VoltFor where
  | raise | lower | probeUp | probeDown | bound (up : Bool) | fix | boot
deriving DecidableEq, Repr

/-- How a transaction on the regulator bus ended: answered, not acknowledged, or with a wrong PEC (R540, R542). -/
inductive PmbEnd where
  | ok | nack | pec
deriving DecidableEq, Repr

/-- A setpoint write awaiting the regulator (R512, R542). -/
structure VoltPend where
  for_ : VoltFor
  target : Nat
  /-- Run time in ns of the write. -/
  at_ : Nat
  /-- Settled; its measurement decides. -/
  settled : Bool := false
  /-- Consecutive readings within ±10 mV. -/
  good : Nat := 0
deriving DecidableEq, Repr

/-- The ageing engine (R509–R523). -/
structure AgeState where
  volt : Option VoltPend := none
  /-- Run time in ns of the last change of VSET. -/
  lastChange : Nat := 0
  /-- Consecutive measurements, up to 3, in which every cell stood at 780 permille or less (R513). -/
  easy : Nat := 0
  /-- Run time in ns at which LOWER_HOLD ends. -/
  holdUntil : Nat := 0
  migrations : List Migration := []
  probes : List Probe := []
  /-- A probe is wanted: it starts at a base mark (R518). -/
  probeDue : Bool := false
  /-- VSET to restore, while a probe is in progress (R518). -/
  probe : Option Nat := none
  /-- Commands that end with the probe. -/
  probeRefs : List CmdRef := []
  /-- VOUT exponent Nx of the regulator, and the last VOUT_COMMAND written (R540). -/
  pmbExp : Int := 0
  voutCmd : Nat := 0
  /-- Logical cells for which a swap-in is wanted (R521). -/
  swapWant : List Nat := []
  /-- A swap-in copy in progress: logical cell, physical cell, spare logical cell, ready for its mark (R521). -/
  swap : Option (Nat × Nat × Nat × Bool) := none
  /-- Consecutive aborts of a march segment, by bank number × 1,024 + segment (R444). -/
  aborts : Tab Nat := []
  /-- MEM_TEST commands in progress: the command, the memory and the first failing address (R457). -/
  memTests : List (CmdRef × Nat × Option Nat) := []
  /-- Run time in ns of the last corrected error of a segment, by bank number × 1,024 + segment (R523). -/
  corrected : Tab Nat := []
deriving DecidableEq, Repr

end Sys2Proof.Machine
end

