-- ==== Sys2Proof/Machine/Types/Fabric.lean ====
section
/-! DEFINITION. State of the cells as step engines, of the fabric lanes and clauses and of the tell-tale measurement (chapter 03, R66 to R89). Register-visible values stand in the register file; here is what no register shows. -/

namespace Sys2Proof.Machine

/-- The owner of a request or clause: those that CEL_TORN_SRC names, and the blocks that no reset of R86 touches (R79, R88). -/
inductive ClauseOwner where
  | cell (c : Nat) | steward | host | acq (u : Nat) | debug
  /-- A bridge, link, port, historian, station assembly, parser, checkpoint writer, telemetry, scrub or march test. -/
  | other
deriving DecidableEq, Repr

/-- Where a clause or request is aimed (R79). -/
inductive Target where
  /-- Bank 0–2 of a cell's SRAM. -/
  | bank (cell bank : Nat)
  /-- Bank of the shared window. -/
  | window (bank : Nat)
  /-- DDR5 channel. -/
  | ddr (ch : Nat)
  | mram
deriving DecidableEq, Repr

/-- The arbiters of the device (R79). -/
inductive Arb where
  /-- Cell SRAM bank 0–2. -/
  | bank (cell bank : Nat)
  /-- Router output of a cell: 0 N, 1 E, 2 S, 3 W, 4 local. -/
  | router (cell out : Nat)
  /-- Edge input into the mesh. -/
  | edge (n : Nat)
  /-- Fabric port of a bank of the shared window. -/
  | window (bank : Nat)
  /-- DDR5 controller. -/
  | ddr (ch : Nat)
  /-- MRAM main port. -/
  | mram
deriving DecidableEq, Repr

/-- The ports by which requests enter arbiters (R79). -/
inductive Port where
  | seal | own | mesh | scrub | march | borrow
  /-- A router's input from a neighbour: 0 N, 1 E, 2 S, 3 W. -/
  | neighbour (dir : Nat)
  | bridge | mboquel | ethernet | canFd | acquisition | historian | host | steward | stations | telemetry
  | cells | parser | flush
  /-- The emergency requesters. -/
  | debug | refresh
deriving DecidableEq, Repr

/-- Classes of requests (R81). -/
inductive ReqClass where
  | ordinary | lock | emergency
deriving DecidableEq, Repr

/-- What a request is for, which gives its class (R81, R83). -/
inductive ReqUse where
  /-- Transfer i of the four of a 32-byte point entry. -/
  | pointEntry (i : Nat)
  /-- A seal transfer or a transfer of a checkpoint record, with the transfers of it that follow. -/
  | clauseOf (left : Nat)
  /-- A transfer that a role chapter or a block issues with class LOCK. -/
  | locked
  | plain
deriving DecidableEq, Repr

/-- A request that waits at an arbiter, or the transfer granted to it (R78, R81). -/
structure ArbReq where
  port : Port
  owner : ClauseOwner
  target : Target
  cls : ReqClass
  /-- Byte offset within the target's memory. -/
  addr : Nat := 0
  write : Bool := false
  /-- Local point indices whose entries the transfer writes (R87). -/
  points : List Nat := []
  /-- It has waited a handshake period behind another port (R446). -/
  conflict : Bool := false
  /-- The access of a debug request: its word's number within the debug port's reach, the word written, and the bytes read (R504). -/
  word : Nat × Word × Nat := (0, 0, 4)
deriving DecidableEq, Repr

/-- An open clause at an arbiter (R81, R82). -/
structure Clause where
  port : Port
  owner : ClauseOwner
  target : Target
  /-- Transfers granted, 1–32. -/
  count : Nat
  /-- Byte offset of the first transfer (CEL_TORN_ADDR). -/
  addr : Nat
  /-- Local point indices that its completed transfers have written (R87). -/
  points : List Nat := []
deriving DecidableEq, Repr

/-- An arbiter (R78 to R85). -/
structure Arbiter where
  /-- Waiting requests, in the order in which they entered. -/
  queue : List ArbReq := []
  /-- The transfer granted, and whether it has reached phase 2 (R66, R86). -/
  active : Option (ArbReq × Bool) := none
  clause : Option Clause := none
  /-- Rotation pointers by rank: places in the rank's port order (R78). -/
  turn : Tab Nat := []
  /-- Handshake periods since the clause owner's last transfer (R82). -/
  silent : Nat := 0
  /-- Handshake periods since the last debug grant, up to 64 (R85). -/
  sinceDebug : Nat := 64
deriving DecidableEq, Repr

/-- What happens at an arbiter between two rows, as a row carries it (R66, R78; log entry 10). -/
inductive FabEvent where
  /-- A request enters an arbiter's queue. -/
  | enter (a : Arb) (port : Port) (owner : ClauseOwner) (target : Target) (use : ReqUse) (write : Bool) (addr : Nat) (points : List Nat)
  /-- The transfer granted reaches phase 2. -/
  | phase2 (a : Arb)
  /-- Handshake periods pass. -/
  | periods (a : Arb) (n : Nat)
deriving DecidableEq, Repr

/-- A command on role state latched for a base mark (R73, R561): its opcode, the home cell, the object and further arguments. -/
structure Latched where
  op : Nat
  home : Nat
  obj : Nat
  args : List Nat
  ref : CmdRef
deriving DecidableEq, Repr

/-- A running tell-tale measurement (R69, R71). -/
structure Measurement where
  /-- N of the base mark that started it. -/
  startN : Nat
  /-- Base marks since then, up to 8. -/
  cycles : Nat := 0
  /-- The smallest count so far of each tell-tale, cell × 4 + k (R69). -/
  counts : List Nat := []
  /-- It was started by a temperature or setpoint change (R71). -/
  byChange : Bool := false
  /-- The parser waits for it (R53). -/
  forLoad : Bool := false
  /-- It belongs to a margin probe (R518). -/
  probe : Bool := false
  /-- The settled report of the pending setpoint write asked for it (R512). -/
  forVolt : Bool := false
  /-- Commands that end with it (0x0F02, 0x1002). -/
  waiters : List (CmdRef × Nat) := []
deriving DecidableEq, Repr

/-- Role work in progress: none, the axes of a fast sub-cycle, or the base-rate work of a home cell (R73, R75). -/
inductive Stage where
  | none | fast (home : Nat) | base (home : Nat)
deriving DecidableEq, Repr

/-- What leaves a fast sub-cycle when it completes in time (R75). -/
inductive FastEffect where
  /-- A completion that stands with the sub-cycle. -/
  | cpl (c : Cpl)
  /-- The completion of an axis enable or disable, which stands with the base cycle (R73). -/
  | able (c : Cpl)
  /-- The end of a move of verb MOVE, and whether it completed OK (R195). -/
  | moved (v : Nat × Nat × Nat × Nat) (ok : Bool)
  /-- A logged event and its value. -/
  | event (code : Nat) (v : Int)
deriving DecidableEq, Repr

/-- What a cell holds beside its registers (R73–R77). -/
structure CellState where
  /-- The cell sealed the cycle in progress (R73). -/
  sealed : Bool := false
  /-- Base overrun forced: an uncorrectable error abandoned the cycle (R434). -/
  abandoned : Bool := false
  /-- Release took effect; its outputs keep safe values until the next seal (R77). -/
  releasing : Bool := false
  /-- The seal due at this mark is replaced by the first SAFE cut (R76). -/
  firstSafe : Bool := false
  /-- Steps of the cycle in progress that its role engine has waited at arbiters (R88). -/
  waits : Nat := 0
  /-- The cell entered SAFE: its points freeze (R76). -/
  frozen : Bool := false
deriving DecidableEq, Repr

/-- Who read the word that holds an uncorrectable error, and what of it is at stake (R434). -/
inductive EccReader where
  /-- The cell's own role engine. -/
  | own
  /-- Another reader of point entries, with their local indices. -/
  | points (l : List Nat)
  /-- The host, over BAR2, or the scrubber. -/
  | none_
  /-- The operation of a ring command, by its ring and handle. -/
  | command (ring handle : Nat)
  /-- The parser, in its staging buffer. -/
  | staging
deriving DecidableEq, Repr

/-- How a borrowed segment ends: tested, given back to a foreground request, or with a failing word. -/
inductive MarchEnd where
  | passed
  | aborted
  /-- Byte address of the word within the memory. -/
  | failed (addr : Nat)
deriving DecidableEq, Repr

/-- Fabric-wide state (chapter 03). -/
structure Fabric where
  /-- From the freeze mark on: no role work starts and nothing leaves the device (R375). -/
  frozen : Bool := false
  cells : Tab CellState := []
  /-- Commands latched for the next base mark, in arrival order (R470, R561). -/
  latched : List Latched := []
  /-- Commands applied at the mark that started this cycle, to be applied again after an overrun (R73). -/
  applied : List Latched := []
  /-- Completions decided by the cycle's role work, by home cell; they stand when the cell seals in time (R73, R147). -/
  done : List (Nat × Cpl) := []
  /-- Ends of moves that verb MOVE issued: home cell, flow, verb, entry time of its step, and whether the request completed OK (R195). -/
  moveDone : List ((Nat × Nat × Nat × Nat) × Bool) := []
  /-- Those that a flow has taken in the cycle in progress (R73). -/
  moveTaken : List ((Nat × Nat × Nat × Nat) × Bool) := []
  /-- Ends of moves decided by the base-rate work of the cycle in progress, by the generator's home cell (R73). -/
  baseMoved : List (Nat × (Nat × Nat × Nat × Nat) × Bool) := []
  /-- What the fast sub-cycle in progress gives out when it completes in time, by home cell (R75). -/
  fastOut : List (Nat × FastEffect) := []
  stage : Stage := .none
  /-- Points whose owner item was disabled in the cycle in progress, by home cell: the cell reports them to the historian at its seal (R254). -/
  reports : List (Nat × Nat) := []
  /-- Failed lanes, by lane number: cell × 4 + direction (0 N, 1 E, 2 S, 3 W) (R68). -/
  failed : List Nat := []
  /-- The arbiters that hold anything, by number (R78, R79). -/
  arbs : Tab Arbiter := []
  /-- Refreshes that a DDR channel owes (R84). -/
  refreshOwed : Tab Nat := []
  /-- Refresh commands that a DDR channel has performed (R84, R441). -/
  refreshes : Tab Nat := []
  meas : Option Measurement := none
  /-- The measurement requested for the next base mark at which none runs (R71). -/
  measNext : Option Measurement := none
  /-- A probe's measurement waits; whether its setpoint changed for it (R71, R518). -/
  measProbe : Option Bool := none
  /-- Die temperature at the start of the previous measurement (R71). -/
  measTemp : Option Int := none
  /-- A measurement has completed since reset: CEL_BUDGET.B holds (R53). -/
  measured : Bool := false
  /-- CEL_CTL.PEAK_CLR writes awaiting the next base mark (R88). -/
  peakClr : List Nat := []
  /-- MEM_CONF_CLR.CLR awaits the next base mark (R446). -/
  confClr : Bool := false
  /-- Words that the debug port wrote into cell SRAM or seal buffers, by their debug address (R504, log entry 25). -/
  dbgWords : Tab Word := []
deriving DecidableEq, Repr

end Sys2Proof.Machine
end

