-- ==== Sys2Proof/Machine/Types/Field.lean ====
section
/-! DEFINITION. Ethernet ports, stations, CAN buses and identity memories: sections and state (chapter 13, R314 to R345). -/

namespace Sys2Proof.Machine

/-- A port record of the Ethernet section (R319). -/
structure EthPortDef where
  port : Nat
  gclEn : Bool
  ptpDom : Nat
  staPcp : Nat
  fastPcp : Nat
  staVid : Nat
  gclFirst : Nat
  gclCount : Nat
  txNs : Nat
  rxNs : Nat
deriving DecidableEq, Repr

/-- The Ethernet, TSN and PRP section (R319): ports, and gate-list entries as gate mask and interval in ns (R314). -/
structure EthSec where
  ports : List EthPortDef
  gcl : List (Nat × Nat)
deriving DecidableEq, Repr

/-- A module record (R320). -/
structure ModuleDef where
  module : Nat
  /-- 0 refuse, 1 degrade, 2 accept. -/
  policy : Nat
  fast : Bool
  vendor : Nat
  type : Nat
  ins : Nat
  outs : Nat
deriving DecidableEq, Repr

/-- A station record with its modules (R320). -/
structure StationDef where
  station : Nat
  port : Nat
  fast : Bool
  period : Nat
  phase : Nat
  ipv4 : Nat
  holdMs : Nat
  launchUs : Nat
  missMax : Nat
  modules : List ModuleDef
deriving DecidableEq, Repr

/-- The station topology section (R320). -/
structure StationSec where
  udp : Nat
  stations : List StationDef
deriving DecidableEq, Repr

/-- A CAN bus record (R333). -/
structure CanBusDef where
  bus : Nat
  mode : Nat
  ttPrio : Nat
  cycles : Nat
  nbrp : Nat
  nseg1 : Nat
  nseg2 : Nat
  nsjw : Nat
  dbrp : Nat
  dseg1 : Nat
  dseg2 : Nat
  dsjw : Nat
  tdco : Nat
  bcBase : Nat
  firstWin : Nat
  winCount : Nat
  firstFrame : Nat
  frameCount : Nat
  refId : Nat
deriving DecidableEq, Repr

/-- A window record (R333). -/
structure CanWinDef where
  start : Nat
  len : Nat
  /-- 0 exclusive, 1 arbitrating, 2 free. -/
  type : Nat
deriving DecidableEq, Repr

/-- A frame record (R333). -/
structure CanFrameDef where
  /-- Bit 31 IDE, bits 28:0 the identifier. -/
  id : Nat
  transmit : Bool
  fdf : Bool
  brs : Bool
  bytes : Nat
  win : Nat
  period : Nat
  cycBase : Nat
  repeat_ : Nat
deriving DecidableEq, Repr

/-- A bind record (R333). -/
structure CanBindDef where
  frame : Nat
  word : Nat
  point : Nat
deriving DecidableEq, Repr

/-- The CAN schedule section (R333). -/
structure CanSec where
  buses : List CanBusDef
  windows : List CanWinDef
  frames : List CanFrameDef
  binds : List CanBindDef
deriving DecidableEq, Repr

/-- A local identity expectation (R340). -/
structure IdentDef where
  bus : Nat
  addr : Nat
  vendor : Nat
  type : Nat
  policy : Nat
  ain : Nat × Nat
  dac : Nat × Nat
  enc : Nat × Nat
  dio : Nat × Nat
deriving DecidableEq, Repr

/-- Station states (R330, R343). -/
inductive StaSt where
  | absent | waiting | resync | online | refused
deriving DecidableEq, Repr

/-- The sequence check of one series of a station (R323): the last accepted SEQ and its accepted fragments. -/
structure SeqCheck where
  last : Option Nat := none
  frags : List Nat := []
deriving DecidableEq, Repr

/-- One station. -/
structure StaState where
  st : StaSt := .absent
  /-- The pending request's module blocks (R328), the refused request, and the last one received. -/
  request : List Byte := []
  refused : Option (List Byte) := none
  lastReq : List Byte := []
  /-- SEQ and fragments of a request arriving in parts. -/
  parts : Nat × Tab (List Byte) := (0, [])
  /-- Modules not driven after an admission with DEGRADED (R328). -/
  notDriven : List Nat := []
  /-- STATUS bytes last received, by module. -/
  status : Tab Nat := []
  base : SeqCheck := {}
  fast : SeqCheck := {}
  /-- A base fragment of a new SEQ was accepted since the previous period mark (R327). -/
  fresh : Bool := false
  /-- Period marks since the GRANT (R327). -/
  marks : Nat := 0
  miss : Nat := 0
  /-- Base cycle of the first input frame after admission (R238). -/
  firstIn : Option Nat := none
  /-- Output points whose owner has completed an execution after that cycle (R238). -/
  executed : List Nat := []
  /-- The first output frame set is due from the resync cut (R238). -/
  firstOut : Bool := false
  /-- A LEAVE or STATION_DROP awaits the next base mark; the commands among them. -/
  leaving : Bool := false
  dropRefs : List CmdRef := []
  /-- Fast input values by signal, whether new ones came since the last fast mark, and consecutive misses (R326). -/
  fastIn : Tab Word := []
  fastFresh : Bool := false
  fastMiss : Nat := 0
deriving DecidableEq, Repr

/-- Where a frame with a launch time is enqueued: an Ethernet port or a CAN controller (R108, R109). -/
inductive LaunchNet where
  | eth (port : Fin 6)
  | can (bus : Fin 8)
deriving DecidableEq, Repr

/-- A frame that is enqueued with a launch time, as its descriptor gives it (R108, R109; log entry 12). -/
structure LaunchDesc where
  /-- Whom its completion answers. -/
  ref : CmdRef
  /-- Launch time, stamp64 in D. -/
  stamp : Nat
  /-- Ethernet transmit queue. -/
  queue : Fin 8
  /-- CAN: bit 31 IDE, bits 28:0 the identifier. -/
  id : Nat
  /-- Ethernet: the frame without its FCS; CAN: the data field. -/
  data : List Byte
deriving DecidableEq, Repr

/-- An Ethernet frame in a launch queue: a station frame, or one whose descriptor carried a launch time (R108, R325). -/
structure Launch where
  port : Nat
  station : Nat
  /-- Launch time in D (ns since the epoch). -/
  at_ : Nat
  /-- Cut from which it was assembled. -/
  cut : Nat
  queue : Nat
  data : List Byte
  /-- Whom its completion answers; none for a station frame. -/
  ref : Option CmdRef := none
deriving DecidableEq, Repr

/-- What a frame sent by the device is. -/
inductive TxKind where
  | station | arpReply | arpRequest | neighbourAdvert | supervision | ring | maintenance | launched
deriving DecidableEq, Repr

/-- A frame sent: port, kind, PRP sequence number when the port is of a PRP node, UDP payload or address. -/
structure TxFrame where
  port : Nat
  kind : TxKind
  prpSeq : Option Nat
  data : List Byte
deriving DecidableEq, Repr

/-- A next-hop entry (R318): the address it answered with, whether it ever did, and the run time of a request not answered. -/
structure HopEntry where
  mac : Nat := 0
  resolved : Bool := false
  asked : Option Nat := none
deriving DecidableEq, Repr

/-- A frame queued for transmission on a CAN bus: identifier word, data, and for a frame with a launch time whom its completion answers and the time in ns of D (R109, R334). -/
structure CanQueued where
  id : Nat
  data : List Byte
  launch : Option (CmdRef × Nat) := none
deriving DecidableEq, Repr

/-- One CAN bus. -/
structure CanState where
  /-- Frames with a launch time that are not yet eligible, in enqueue order (R109). -/
  launches : List CanQueued := []
  /-- Frames queued for transmission (R109, R334, R335). -/
  queue : List CanQueued := []
  /-- Frames sent, newest first: identifier word and data. -/
  sent : List (Nat × List Byte) := []
deriving DecidableEq, Repr

/-- Field buses and stations. -/
structure FieldState where
  /-- The start-up filter has ended (R316). -/
  filterEnded : Bool := false
  /-- PTP_DOM writes awaiting the next base mark (R315). -/
  ptpPend : Tab Nat := []
  stations : Tab StaState := []
  launches : List Launch := []
  /-- Frames sent on Ethernet, newest first. -/
  sent : List TxFrame := []
  /-- PRP sequence number of the next frame, by pair; and received source and number with the run time of arrival (R317). -/
  prpSeq : Tab Nat := []
  prpSeen : List (Nat × Nat × Nat × Nat) := []
  /-- Gate lists in effect, by port: gate mask and interval in ns; a port not listed has every gate open (R314, R319). -/
  gcl : Tab (List (Nat × Nat)) := []
  /-- Next hops, by port × 2^32 + address (R318). -/
  hops : Tab HopEntry := []
  can : Tab CanState := []
  /-- Records last read of local identity memories, by expectation (R341). -/
  idents : Tab (List Byte) := []
  /-- Expectations that do not match and are not driven since the last base mark (R341). -/
  notDriven : List Nat := []
deriving DecidableEq, Repr

end Sys2Proof.Machine
end

