-- ==== Sys2Proof/Machine/Types/Link.lean ====
section
/-! DEFINITION. Mboquel links, membership, routes and subscriptions (chapter 14, R346 to R367). -/

namespace Sys2Proof.Machine

/-- A link frame's header fields and payload (R348); the trailer's CRC has passed. -/
structure LinkFrame where
  typ : Nat
  flags : Nat := 0
  src : Nat
  dst : Nat
  hop : Nat := 0
  pathLen : Nat := 0
  path : Nat := 0xFFFF
  lseq : Nat := 0
  tag : Nat := 0
  payload : List Byte
deriving DecidableEq, Repr

/-- A frame sent and not acknowledged, with its repeats (R350). -/
structure Replay where
  frame : LinkFrame
  repeats : Nat := 0
deriving DecidableEq, Repr

/-- One Mboquel port (R347, R350). -/
structure LinkPort where
  /-- Lanes up. -/
  lanes : Nat := 0
  /-- The spare lane carries a failed lane's blocks (R570). -/
  spare : Bool := false
  lseq : Nat := 0
  replay : List Replay := []
  /-- Frames sent, newest first. -/
  sent : List LinkFrame := []
  /-- Neighbour device and port trained, none before its first HELLO. -/
  nb : Option (Nat × Nat) := none
  nbFlags : Nat := 0
  nbId : Nat := 0
  /-- T_TX of the last HELLO received and the run time of its arrival. -/
  echo : Nat × Nat := (0, 0)
deriving DecidableEq, Repr

/-- A member record (R352). -/
structure MemberDef where
  dev : Nat
  paired : Bool
  serialMin : Nat
  digest8 : Nat
deriving DecidableEq, Repr

/-- A declared link (R352): device and port at each end. -/
structure LinkDef where
  a : Nat × Nat
  b : Nat × Nat
deriving DecidableEq, Repr

/-- The membership section (R352). -/
structure MemberSec where
  members : List MemberDef
  links : List LinkDef
deriving DecidableEq, Repr

/-- A subscription of this importer (R354): entries as local index and remote identifier. -/
structure ImportSub where
  exporter : Nat
  req : Nat
  /-- Subscription number once accepted. -/
  no : Option Nat := none
  /-- Status of the refusal; 0 otherwise. -/
  status : Nat := 0
  bad : Nat := 0xFFFFFFFF
  entries : List (Nat × Nat)
deriving DecidableEq, Repr

/-- A subscription that this exporter accepted (R354): number, importer, local indices in order. -/
structure ExportSub where
  no : Nat
  importer : Nat
  ids : List Nat
deriving DecidableEq, Repr

/-- Entries received of one cut of one subscription (R359), from one unit of the exporter: index to value, quality code and time. -/
structure ImportBuf where
  exporter : Nat
  no : Nat
  unit : Bool
  cut : Nat
  entries : Tab (Word × Nat × Nat) := []
deriving DecidableEq, Repr

/-- A route table: effect mark, members, and by destination the path's length and nibbles (R351, R363). -/
structure RouteTab where
  n : Nat
  members : List Nat
  paths : Tab (Nat × Nat)
deriving DecidableEq, Repr

/-- A set of fragments that is not complete (R351): source, unit, type and tag, run time of the first, fragments by index, and their number. -/
structure FragSet where
  src : Nat
  unit : Bool
  typ : Nat
  tag : Nat
  first : Nat
  total : Nat
  parts : Tab (List Byte)
deriving DecidableEq, Repr

/-- A relayed command or completion whose frames are arriving (R351, R360): the record, and the data received by offset. -/
structure HostSet where
  src : Nat
  handle : Nat
  /-- A command for this device; otherwise a completion for it. -/
  command : Bool
  first : Nat
  record : Option (List Byte) := none
  data : Tab (List Byte) := []
deriving DecidableEq, Repr

/-- A CONST_WRITE in progress (R362): the writes by identifier, the mark, the devices whose check or write is awaited, and whether the writes have been sent. -/
structure ConstJob where
  ref : CmdRef
  n : Nat
  writes : List (Nat × Word)
  waiting : List Nat
  written : Bool := false
deriving DecidableEq, Repr

/-- Host-owned points to write at a mark for a CONST_WRITE (R362): local indices and values. -/
structure ConstPend where
  n : Nat
  writes : List (Nat × Word)
  ref : CmdRef
deriving DecidableEq, Repr

/-- Links, membership and routes. -/
structure LinkState where
  ports : Tab LinkPort := []
  /-- The last 64 flooded frames forwarded: type, source, tag (R349). -/
  seen : List (Nat × Nat × Nat) := []
  /-- TAG of the next LINK_STATE, JOIN_REQ and ALIGN frame, and the next SUB_REQ. -/
  stateTag : Nat := 0
  joinTag : Nat := 0
  alignTag : Nat := 0
  subReq : Nat := 0
  /-- Upstream port with the hops and interval of its beacon (R355). -/
  upstream : Option (Nat × Nat × Nat) := none
  /-- Run time of the last beacon, and earlier beacons as run time and beacon time in ns (R356). -/
  lastBeacon : Option Nat := none
  beacons : List (Nat × Nat) := []
  /-- A beacon came in the present interval (R366). -/
  heard : Bool := false
  /-- The worker's slot is open: a JOIN_REQ is due (R357). -/
  slot : Bool := false
  /-- Run time and tag of the request awaiting its JOIN_ACK. -/
  asked : Option (Nat × Nat) := none
  /-- N_j of the admission that awaits its mark. -/
  joinAt : Option Nat := none
  /-- Run time at which a refused worker retries. -/
  retryAt : Option Nat := none
  /-- The table in effect, and the one that waits for its mark (R363). -/
  table : RouteTab := { n := 0, members := [], paths := [] }
  next : Option RouteTab := none
  frags : List FragSet := []
  hosts : List HostSet := []
  subs : List ImportSub := []
  exports : List ExportSub := []
  subNo : Nat := 0
  bufs : List ImportBuf := []
  /-- Entries of accepted subscriptions that cross this device: importer, exporter, request, entries, exit port once accepted (R361). -/
  crossing : List (Nat × Nat × Nat × Nat × Option Nat) := []
  /-- On the manager: what each unit reports of its ports, by device × 2 + unit: up, neighbour device and port. -/
  reports : Tab (List (Bool × Nat × Nat)) := []
  /-- On the manager: units joined, by device × 2 + unit; requests in the present interval and its N; a re-plan is due; members to drop. -/
  units : List Nat := []
  joinCount : Nat := 0
  intervalN : Nat := 0
  planDue : Bool := false
  drops : List Nat := []
  consts : List ConstJob := []
  constPend : List ConstPend := []
deriving DecidableEq, Repr

end Sys2Proof.Machine
end

