-- ==== Sys2Proof/Machine/Types/Logic.lean ====
section
/-! DEFINITION. Logic programs and their state (chapter 09, R212 to R241), and the key switch (R229, R230). -/

namespace Sys2Proof.Machine

/-- A task record (R215). -/
structure TaskDef where
  task : Nat
  start : Nat
  period : Nat
  phase : Nat
  imgCount : Nat
  imgFirst : Nat
  entry : Nat
  statusPt : Nat
deriving DecidableEq, Repr

/-- An image record (R215). -/
structure ImageRec where
  point : Nat
  task : Nat
  dir : Nat
  holdOff : Bool
  offVal : Word
deriving DecidableEq, Repr

/-- Object kinds (R215). -/
inductive ObjKind where
  | ton | tof | tp | ctu | ctd | ctud | rising | falling | both
deriving DecidableEq, Repr

/-- An object record (R215). -/
structure ObjDef where
  objId : Nat
  kind : ObjKind
  msBase : Bool
  outageAdd : Bool
  warmEdge : Bool
  p0 : Word
  p1 : Word
deriving DecidableEq, Repr

/-- A LOGIC cell's section (R215). -/
structure LogicSec where
  mBits : Nat
  wWords : Nat
  tasks : List TaskDef
  images : List ImageRec
  objects : List ObjDef
  wInit : List (Nat × Word)
  code : List Word
deriving DecidableEq, Repr

/-- A timer's state (R223); times in ns of run time. -/
structure TimerSt where
  start : Int := 0
  running : Bool := false
  q : Bool := false
  inPrev : Bool := false
  done : Bool := false
  /-- PT in the unit of its record. -/
  pt : Nat
  /-- ET in µs kept while its task is stopped or disabled (R232). -/
  kept : Option Nat := none
  /-- PT of a changed record, which the next evaluation takes (R235). -/
  newPt : Option Nat := none
  /-- Seconds of the checkpoint while OUTAGE_ADD awaits the timer's first scan (R234). -/
  outage : Option Nat := none
deriving DecidableEq, Repr

/-- A counter's state (R225). -/
structure CounterSt where
  cv : Word
  pv : Word
  cu : Bool := false
  cd : Bool := false
deriving DecidableEq, Repr

/-- An edge object's state (R226). -/
structure EdgeSt where
  prev : Bool := false
  first : Bool := true
deriving DecidableEq, Repr

/-- An object's state. -/
inductive ObjState where
  | timer (t : TimerSt)
  | counter (c : CounterSt)
  | edge (e : EdgeSt)
deriving DecidableEq, Repr

/-- A task's state. -/
structure TaskState where
  enabled : Bool := true
  /-- FIRST_SCAN due (R222). -/
  first : Bool := true
  warm : Bool := false
  spliced : Bool := false
  arithErr : Bool := false
  staleIn : Bool := false
  absOut : Bool := false
  /-- The cell had a base overrun since the previous scan (R222). -/
  cellOvr : Bool := false
  /-- T_s and N of the previous scan. -/
  prevTs : Option Nat := none
  lastN : Nat := 0
deriving DecidableEq, Repr

/-- How a stack entry combines at POP (R220). -/
inductive StackOp where
  | and | or | none
deriving DecidableEq, Repr

/-- An image entry in a scan: value, quality code, format, output (R213, R219). -/
structure ImgVal where
  value : Word
  quality : Nat
  usable : Bool
  format : Nat
  output : Bool
deriving DecidableEq, Repr

/-- The scan context of a cell: accumulator, word register, stack, program counter (R213, R218–R222). -/
structure Scan where
  task : Nat := 0
  acc : Bool := true
  wacc : Word := 0
  stack : List (Bool × StackOp) := []
  pc : Nat := 0
  calls : List Nat := []
  /-- The task's image range, by INDEX. -/
  img : List ImgVal := []
  ended : Bool := true
  /-- T_s of the scan (R213). -/
  ts : Nat := 0
  n : Nat := 0
  /-- S area: bits and the interval word (R222). -/
  sBits : Nat := 0
  period : Nat := 0
  interval : Nat := 0
deriving DecidableEq, Repr

/-- A LOGIC cell's run-time state. -/
structure LogicState where
  markers : Tab Word := []
  words : Tab Word := []
  objs : Tab ObjState := []
  tasks : Tab TaskState := []
  /-- Values of output image entries, by image record index (R213). -/
  outImg : Tab Word := []
  scan : Scan := {}
  /-- R_k of the cycle in progress. -/
  rk : Nat := 0
  /-- Stopped by the key (R232). -/
  stopped : Bool := false
  /-- Restarted warm: timers resume at the first mark outside STOP (R234). -/
  restart : Bool := false
deriving DecidableEq, Repr

/-- The key switch (R229, R230): raw pairs are in GLB_KEY. -/
structure KeyState where
  /-- Agreed position code (EFFECTIVE coding), none before the first agreement. -/
  agreed : Option Nat := none
  /-- Samples that showed the same consistent code, and that code. -/
  run : Nat := 0
  runCode : Nat := 0
  /-- An agreed position waiting for the next base mark after its tick. -/
  pending : Option Nat := none
  /-- The sample that agreed fell in this very tick; the mark of that tick is skipped. -/
  pendingTick : Nat := 0
  between : Bool := false
  /-- Run time in ns since which BETWEEN reads 1. -/
  betweenSince : Nat := 0
  sampled : Bool := false
  /-- The position last applied to role work (R566). -/
  applied : Nat := 0
  /-- A flow or axis is held by STOP and awaits a request (R563, GLB_MODE.KEY_HELD). -/
  held : Bool := false
deriving DecidableEq, Repr

end Sys2Proof.Machine
end

