-- ==== Sys2Proof/Machine/Types/Loops.lean ====
section
/-! DEFINITION. Loop and axis definitions and state (chapters 06 and 07, R132 to R186). -/

namespace Sys2Proof.Machine

/-- A loop-definition record (R135). -/
structure LoopDef where
  loop : Nat
  flags0 : Nat
  flags1 : Nat
  divisor : Nat
  phase : Nat
  pv : Nat
  sp : Nat
  out : Nat
  ff : Nat
  pos : Nat
  vref : Nat
  mode : Nat
  man : Nat
  cas : Nat
  trig : Nat
  gainTab : Nat
  fricTab : Nat
  cogTab : Nat
  badAct : Nat
  initMode : Nat
  ti : F32
  td : F32
  tf : F32
  kff : F32
  outLo : F32
  outHi : F32
  roc : F32
  deadband : F32
  disableVal : F32
  badVal : F32
  v0 : F32
  traceMask : Nat
  traceDepth : Nat
  trigMask : Nat
  start : Nat
deriving DecidableEq, Repr

/-- A gain, friction or cogging table (R137): gain breakpoints in `pairs`, position entries in `entries`. -/
structure TableDef where
  tabId : Nat
  kind : Nat
  wrap : Bool
  x0 : F32
  span : F32
  pairs : List (F32 × F32)
  entries : List F32
deriving DecidableEq, Repr

/-- The coefficient overlay (R145, R146). -/
structure Coefs where
  gainTab : Nat
  ti : F32
  td : F32
  tf : F32
  kff : F32
  outLo : F32
  outHi : F32
  roc : F32
  deadband : F32
deriving DecidableEq, Repr

/-- Control modes of a loop (R145). -/
inductive LoopMode where
  | man | auto | cas
deriving DecidableEq, Repr

/-- A latched coefficient swap (R147). -/
structure Swap where
  mask : Nat
  coefs : Coefs
  ref : CmdRef
deriving DecidableEq, Repr

/-- Trace states (R155). -/
inductive TraceSt where
  | idle | armed | post | frozen
deriving DecidableEq, Repr

/-- A loop's trace (R153–R156). -/
structure Trace where
  st : TraceSt := .idle
  postN : Nat := 0
  /-- Rows, oldest first: N and the selected nodes. -/
  rows : List (Nat × List Word) := []
  /-- Rows written since it was armed. -/
  written : Nat := 0
  preValid : Nat := 0
  /-- Rows written after the trigger row. -/
  after : Nat := 0
  trigRow : Option Nat := none
  trigN : Nat := 0
  endCause : Nat := 0
  /-- Previous state of TRIG_PT and previous status word. -/
  prevTrig : Bool := false
  prevStatus : Nat := 0
  /-- A TRACE_TRIGGER is latched. -/
  cmdTrig : Bool := false
deriving DecidableEq, Repr

/-- The state of one loop (R145). -/
structure LoopState where
  i : F32 := 0
  uPrev : F32 := 0
  dFilt : F32 := 0
  pvPrev : F32 := 0
  spHold : F32 := 0
  coefs : Coefs
  mode : LoopMode := .man
  /-- The next execution preloads with u_ref = U_PREV (R144). -/
  resume : Bool := false
  disabled : Bool := false
  /-- Disables (false) and enables (true) latched for the next execution, in arrival order (R151, R152); one recorded while the cell was SAFE has been answered. -/
  able : List (Bool × Option CmdRef) := []
  /-- Latched swaps, in arrival order (R147). -/
  swaps : List Swap := []
  /-- Limits that a splice brought act at the next execution (R150). -/
  relimit : Bool := false
  /-- Mode from LOOP_SET_MODE (R175). -/
  modeReq : Option LoopMode := none
  manHold : Bool := false
  track : Bool := false
  /-- Values of trace nodes 0–15 at the last execution (R154). -/
  nodes : List Word := List.replicate 16 0
  trace : Trace := {}
  /-- Status of the last execution, and the sticky I_CLAMP and RESUMED (R159). -/
  satHi : Bool := false
  satLo : Bool := false
  rateLim : Bool := false
  iHold : Bool := false
  iClamp : Bool := false
  resumed : Bool := false
  badIn : Bool := false
  badSp : Bool := false
  outForced : Bool := false
deriving DecidableEq, Repr

/-- An axis record (R163). -/
structure AxisDef where
  axis : Nat
  flags : Nat
  pg : Nat
  encCh : Nat
  initMode : Nat
  start : Nat
  gainTab : Nat
  fb : Nat
  out : Nat
  modePt : Nat
  jog : Nat
  trq : Nat
  posOut : Nat
  drv : Nat
  unitPerCount : F32
  posOffset : F32
  kp : F32
  kvf : F32
  kaf : F32
  ti : F32
  tvf : F32
  outLo : F32
  outHi : F32
  disableVal : F32
  feMax : F32
  vFault : F32
  posLimLo : F32
  posLimHi : F32
  aQstop : F32
  jQstop : F32
  v0 : F32
  fricTab : Nat
  cogTab : Nat
  satTicks : Nat
  react : Nat
deriving DecidableEq, Repr

/-- A profile-generator record (R167). -/
structure PgDef where
  pg : Nat
  rate : Nat
  refPt : Nat
  vMax : F32
  aMax : F32
  jMax : F32
  tgt : Nat
  done : Nat
deriving DecidableEq, Repr

/-- Axis modes (R179). -/
inductive AxisMode where
  | pos | vel | trq
deriving DecidableEq, Repr

/-- Axis states (R181). -/
inductive AxisSt where
  | off | run | qstop | halt | tripped
deriving DecidableEq, Repr

/-- The fault classes, in the order of bits 15 to 10 of CEL_AXIS_STAT_a (R180, R185). -/
inductive AxisFault where
  | enc | fe | ovs | sat | soft | drv
deriving DecidableEq, Repr

/-- One axis (R161–R182). -/
structure AxisState where
  st : AxisSt := .off
  mode : AxisMode := .pos
  vFilt : F32 := 0
  i : F32 := 0
  uPrev : F32 := 0
  countPrev : Word := 0
  xPrev : F32 := 0
  x : F32 := 0
  posOffset : F32 := 0
  vc : F32 := 0
  vcPrev : F32 := 0
  /-- Latched faults. -/
  faults : List AxisFault := []
  /-- Causes present in the last sub-cycle (R181). -/
  causes : List AxisFault := []
  satRun : Nat := 0
  trqHold : Bool := false
  trqEntry : F32 := 0
  refLost : Bool := false
  sat : Bool := false
  iHold : Bool := false
  resumed : Bool := false
  /-- The next execution preloads with this reference (R144). -/
  preload : Option F32 := none
  /-- Mode from AXIS_SET_MODE (R179). -/
  modeReq : Option AxisMode := none
  /-- Enables (true) and disables latched for sub-cycle 0, in arrival order (R181). -/
  able : List (Bool × CmdRef) := []
  /-- AXIS_STOP, due in the next sub-cycle (R174). -/
  stopReq : Bool := false
  /-- AXIS_SET_POS, due in the next sub-cycle (R166). -/
  setPos : Option F32 := none
  /-- FB_PT as the station engine delivered it: value and usability (R165). -/
  fbIn : F32 × Bool := (0, false)
  /-- Held by STOP until a new request (R563, R572). -/
  keyHeld : Bool := false
deriving DecidableEq, Repr

/-- Generator states (R172). -/
inductive PgSt where
  | idle | moving | stopping
deriving DecidableEq, Repr

/-- One segment of a plan: its start in the plan's time, its jerk, and position, velocity and acceleration at its start, the position relative to the plan's (R170). -/
structure Seg where
  at_ : F32
  jerk : F32
  x : F32
  v : F32
  a : F32
deriving DecidableEq, Repr

/-- A plan in progress (R169, R170). -/
structure Plan where
  x0 : F32
  segs : List Seg
  total : F32
  endPos : F32
  /-- The stop ends with an acceleration step. -/
  cut : Bool
  /-- Fast ticks since PLL lock at its start. -/
  start : Nat
deriving DecidableEq, Repr

/-- A move request (R171). -/
structure MoveReq where
  target : F32
  /-- The PG_MOVE that made it. -/
  ref : Option CmdRef := none
  /-- The verb MOVE that made it: home cell, flow, verb, and the entry time of its step (R195). -/
  verb : Option (Nat × Nat × Nat × Nat) := none
deriving DecidableEq, Repr

/-- A plan whose start tick is named and has not come (R171, R172). -/
inductive PgDue where
  | none | move | stop
deriving DecidableEq, Repr

/-- One profile generator (R169–R173). -/
structure PgState where
  st : PgSt := .idle
  plan : Option Plan := none
  due : PgDue := .none
  /-- Base marks since PLL lock at the start tick of the plan that is due (R171). -/
  dueAt : Nat := 0
  xRef : F32 := 0
  vRef : F32 := 0
  aRef : F32 := 0
  seg : Nat := 0
  quick : Bool := false
  jerkCut : Bool := false
  /-- V_MAX, A_MAX and J_MAX in effect. -/
  v : F32 := 0
  a : F32 := 0
  j : F32 := 0
  limPend : Option (F32 × F32 × F32) := none
  /-- Requests that arrived by command in this cycle, in arrival order (R171). -/
  arrived : List MoveReq := []
  /-- A request by TGT_PT in this cycle. -/
  tgtReq : Option F32 := none
  /-- The request latched at this base mark that meets the state after the tick (R171, R172). -/
  latched : Option MoveReq := none
  /-- The request latched at the mark that started this cycle (R73). -/
  took : Option MoveReq := none
  /-- The request whose move is in progress. -/
  current : Option MoveReq := none
  /-- The request that waits in PEND. -/
  pend : Option MoveReq := none
  /-- Value of TGT_PT at the last base-cycle read (R171). -/
  tgtPrev : Option Word := none
  done : Bool := false
  /-- x_ref takes the actual position at the first sub-cycle: cold start, or new at a splice (R173). -/
  seed : Bool := false
deriving DecidableEq, Repr

end Sys2Proof.Machine
end

