-- ==== Sys2Proof/Machine/Types/Points.lean ====
section
/-! DEFINITION. Point definitions and entries (chapter 05, R113 to R131). -/

namespace Sys2Proof.Machine

/-- Quality codes (R118). -/
inductive Quality where
  | good | notYet | stale | forced | substituted | outOfRange | absent
deriving DecidableEq, Repr

/-- A point definition record (R122), with the bits it carries. -/
structure PointDef where
  slot : Nat
  format : Nat
  flags : Nat
  owner : Nat
  init : Word
  lo : Word
  hi : Word
  safe : Word
  maxAge : Nat
  recPolicy : Nat
  enumCount : Nat
deriving DecidableEq, Repr

/-- A sealed 32-byte point entry's changing fields (R116); its static fields are those of its definition. -/
structure PointEntry where
  value : Word := 0
  quality : Quality := .notYet
  shadow : Word := 0
  shadowQ : Quality := .notYet
  /-- stamp64 (R121). -/
  time : Nat := 0
  /-- Bits 31:0 of N of the owner's last write. -/
  update : Nat := 0
deriving DecidableEq, Repr

/-- The working state of a point between seals (R119–R126). -/
structure PointWork where
  /-- The owner's last written value. -/
  own : Word := 0
  /-- The owner has written since the point came into being (R119). -/
  written : Bool := false
  /-- Time of the owner's last write (R121). -/
  ownTime : Nat := 0
  /-- Full N of the owner's last write. -/
  updateN : Nat := 0
  /-- Bound module or station missing (order 3). -/
  absent : Bool := false
  /-- A torn clause touched the entry (R87). -/
  torn : Bool := false
  /-- Its station dropped out or its route failed (order 4). -/
  dropped : Bool := false
  /-- Quality with which an import was delivered (R128, R359). -/
  inQ : Quality := .good
  /-- The active force (R125). -/
  force : Option Word := none
  /-- The owner wrote since the last seal (R121). -/
  wrote : Bool := false
deriving DecidableEq, Repr

/-- A host write latched for the next base mark (R124). -/
structure HostWrite where
  idx : Nat
  value : Word
  ref : CmdRef
deriving DecidableEq, Repr

/-- A force or unforce latched for the next base mark (R125); value none is an unforce. -/
structure ForceReq where
  idx : Nat
  value : Option Word
  ref : CmdRef
deriving DecidableEq, Repr

/-- Point state of the device: keys are local indices (R24). -/
structure Points where
  /-- Working state: what cells read of their own points. -/
  work : Tab PointWork := []
  /-- The last sealed cut (R32). -/
  cut : Tab PointEntry := []
  /-- Entries sealed in the cycle in progress; they join the cut at its end (R370). -/
  next : Tab PointEntry := []
  /-- N of the last sealed cut. -/
  cutN : Nat := 0
  /-- Host writes awaiting the next base mark, in arrival order (R124). -/
  hostWrites : List HostWrite := []
  /-- Forces and unforces awaiting the next base mark (R125). -/
  forceReqs : List ForceReq := []
  /-- Points whose entry of the last cut holds an uncorrectable error (R434). -/
  bad : List Nat := []
deriving DecidableEq, Repr

end Sys2Proof.Machine
end

