-- ==== Sys2Proof/Machine/Types/Recipes.lean ====
section
/-! DEFINITION. Recipe graphs and flow state (chapter 08, R187 to R211). -/

namespace Sys2Proof.Machine

/-- A graph record (R190). -/
structure GraphDef where
  graph : Nat
  firstStep : Nat
  stepCount : Nat
  abortStep : Nat
  resumeAuto : Bool
deriving DecidableEq, Repr

/-- A step record (R190). -/
structure StepDef where
  stepId : Nat
  firstVerb : Nat
  verbCount : Nat
  reentry : Nat
  timeout : Nat
  tmoAct : Nat
  retired : Bool
  successor : Nat
deriving DecidableEq, Repr

/-- The verb opcodes (R193). -/
inductive VerbOp where
  | set | get | calc | delay | wait | branch | merge | move | ramp | fork | mark | next | finish
deriving DecidableEq, Repr

/-- A verb record (R191); inputs hold verb number and port. -/
structure VerbDef where
  verb : Nat
  op : VerbOp
  sub : Nat
  dst : Nat
  src : Nat
  inputs : List (Nat × Nat)
  a : Nat
  b : F32
  c : Nat
deriving DecidableEq, Repr

/-- A disable record (R190): point and value. -/
structure DisableDef where
  point : Nat
  value : Word
deriving DecidableEq, Repr

/-- A flow record (R190). -/
structure FlowDef where
  flow : Nat
  graph : Nat
  start : Nat
  firstDis : Nat
  disCount : Nat
  stepPt : Nat
  statePt : Nat
  markPt : Nat
deriving DecidableEq, Repr

/-- A SEQUENCE cell's section (R189). -/
structure RecipeSec where
  timers : Nat
  dMax : Nat
  wMax : Nat
  rampMax : Nat
  graphs : List GraphDef
  steps : List StepDef
  verbs : List VerbDef
  flows : List FlowDef
  disables : List DisableDef
deriving DecidableEq, Repr

/-- Flow states (R202, CEL_FLOW_STAT_f). -/
inductive FlowSt where
  | disabled | idle | running | holding | held | aborting
deriving DecidableEq, Repr

/-- Verb states within a step (R196–R200). -/
inductive VerbSt where
  /-- Inputs not all resolved. -/
  | waiting
  /-- All inputs resolved at a logical time; `skip`: they carry no token to it (R200). -/
  | ready (t : Nat) (skip : Bool)
  /-- Dispatched, its outcome open: DELAY, WAIT, a RAMP or MOVE released. -/
  | flight
  /-- An effecting verb complete at a logical time, awaiting its release (R199). -/
  | done (t : Nat)
  /-- Resolved at a logical time with a token on a port. -/
  | resolved (port : Nat) (t : Nat)
  /-- Skipped at a logical time: no token. -/
  | skipped (t : Nat)
deriving DecidableEq, Repr

/-- A verb's run in the current step. -/
structure VerbRun where
  st : VerbSt := .waiting
  /-- Operand computed at dispatch (R199). -/
  operand : F32 := 0
  /-- The effect was released (R199). -/
  released : Bool := false
  /-- RAMP: value at dispatch or at a resume, start and length in ns, last value written (R195, R203). -/
  rampFrom : F32 := 0
  rampT0 : Nat := 0
  rampLen : Nat := 0
  rampLast : F32 := 0
deriving DecidableEq, Repr

/-- An entry of the delay list: due time, flow, verb (16,384 for a step timeout) (R197). -/
structure DelayEntry where
  due : Nat
  flow : Nat
  verb : Nat
deriving DecidableEq, Repr

/-- One flow (R188, R196–R206). -/
structure FlowState where
  st : FlowSt := .idle
  fv : List F32 := [0, 0, 0, 0, 0, 0, 0, 0]
  /-- Current step identifier. -/
  step : Option Nat := none
  /-- The current step is open. -/
  live : Bool := false
  /-- A step pending for the next mark. -/
  pending : Option Nat := none
  /-- An END released: the flow is IDLE at the next mark (R200). -/
  ended : Bool := false
  /-- Verb runs of the current step, by verb number. -/
  verbs : Tab VerbRun := []
  /-- Entry time of the current step (R196). -/
  entry : Nat := 0
  /-- Release time of the last release (R199). -/
  tLast : Nat := 0
  /-- The step that FLOW_RESUME enters: after a step fault, or held at a re-entry (R201, R206). -/
  resumeStep : Option Nat := none
  /-- Time of the hold, or of the resume while entries it paused await a timer; and those entries: remaining time, below 0 when overdue, and verb (R203). -/
  heldAt : Nat := 0
  paused : List (Int × Nat) := []
  /-- Value that STEP_PT takes (R190). -/
  stepVal : Int := -1
  /-- Values last written to STEP_PT and STATE_PT. -/
  shown : Option (Int × Nat) := none
  late : Bool := false
  stepTmo : Bool := false
  deadEnd : Bool := false
  calcErr : Bool := false
  resumeWait : Bool := false
  /-- Held by STOP (R563). -/
  keyHeld : Bool := false
deriving DecidableEq, Repr

/-- A SEQUENCE cell's run-time state. -/
structure SeqState where
  flows : Tab FlowState := []
  delays : List DelayEntry := []
  /-- Dispatches of the cycle in progress and of the last cycle (CEL_SEQ_DISP). -/
  disp : Nat := 0
  last : Nat := 0
  /-- Key of the standing release on each point written in the cycle, by local point number (R198). -/
  wrote : Tab (Nat × Nat × Nat) := []
  /-- R_k of the cycle in progress (R196). -/
  rk : Nat := 0
  /-- The cell was released from SAFE or restarted: R206 applies at the mark. -/
  restart : Bool := false
deriving DecidableEq, Repr

end Sys2Proof.Machine
end

