-- ==== Sys2Proof/Machine/Types/Pair.lean ====
section
/-! DEFINITION. Sealed cuts, checkpoint banks and the redundant pair (chapter 15, R368 to R402). -/

namespace Sys2Proof.Machine

/-- The sealed halves of the cells: role state and the owners' half of the points as the last cut holds them (R32, R73, R370). -/
structure RoleCut where
  loops : Tab LoopState := []
  axes : Tab AxisState := []
  pgs : Tab PgState := []
  seqs : Tab SeqState := []
  logics : Tab LogicState := []
  work : Tab PointWork := []
deriving DecidableEq, Repr

/-- A sealed cut as a bank or an alignment carries it (R369 to R371): role state, point entries, and each cell's state and cause. -/
structure SealedCut where
  n : Nat
  /-- Cell time at base mark N (R390). -/
  rMark : Nat
  role : RoleCut
  entries : Tab PointEntry
  cells : Tab (Nat × Nat) := []
  /-- Seconds of D at the mark, for OUTAGE_ADD (R234). -/
  sec : Nat := 0
  /-- Base marks since PLL lock at mark N, from which the plans of generators count (R169). -/
  cycles : Nat := 0
  /-- The key position applied to role work (R565). -/
  key : Nat := 0
deriving DecidableEq, Repr

/-- The sealed state of one cell, from which its plane is written (R369). -/
structure Plane where
  /-- The 64 bytes of each loop (R145). -/
  loops : Tab (List Byte)
  axes : Tab AxisState
  pgs : Tab PgState
  seqs : Tab SeqState
  logics : Tab LogicState
  entries : Tab PointEntry
deriving DecidableEq, Repr

/-- A checkpoint bank (R371). -/
structure Bank where
  kind : Nat
  devnum : Nat
  seq : Nat
  flags : Nat
  forces : Nat
  tMark : Nat
  digest : List Byte
  serial : Nat
  bytes : Nat
  hours : Nat
  pcycles : Nat
  cut : SealedCut
  /-- COMMIT is the inverse of SEQ and the CRC matches (R372). -/
  committed : Bool
deriving DecidableEq, Repr

/-- A checkpoint write in progress (R372, R373): bank (true B), what it writes, the commands it answers. -/
structure CkptWrite where
  b : Bool
  bank : Bank
  refs : List CmdRef
deriving DecidableEq, Repr

/-- A point record of a manifest (R383). -/
structure ManPoint where
  idx : Nat
  value : Word
  quality : Quality
  time : Nat
deriving DecidableEq, Repr

/-- A fast record of a manifest (R383): channel or axis (cell × 32 + axis), sub-cycle, kind (0 encoder count, 1 encoder not usable, 2 FB_PT value, 3 FB_PT not usable), value. -/
structure ManFast where
  chan : Nat
  sub : Nat
  kind : Nat
  value : Word
deriving DecidableEq, Repr

/-- A command latched at a mark, as a manifest carries it (R388, R396, R565). -/
inductive ManCmd where
  | role (op home obj : Nat) (args : List Nat)
  | write (idx : Nat) (value : Word)
  | force (idx : Nat) (value : Option Word)
  | key (position : Nat)
  | splice (mark : Nat) (digest : List Byte)
  | migrate (home exec : Nat)
deriving DecidableEq, Repr

/-- A manifest, or one fragment of it (R383, R388). -/
structure Manifest where
  n : Nat
  cellTime : Nat
  last : Bool := true
  giveUp : Bool := false
  handover : Bool := false
  overflow : Bool := false
  points : List ManPoint := []
  fast : List ManFast := []
  cmds : List ManCmd := []
deriving DecidableEq, Repr

/-- An alignment in progress (R392): cut named, bytes received, the cut once complete, and whether it has been adopted. -/
structure Align where
  cut : Nat
  got : Nat := 0
  full : Option SealedCut := none
  adopted : Bool := false
deriving DecidableEq, Repr

/-- What goes over the pair link as records whose bytes the spec leaves to the units: manifests and alignment transfers (R383). -/
inductive PairSent where
  | manifest (m : Manifest)
  | align (cut : SealedCut)
deriving DecidableEq, Repr

/-- Checkpoints, restart and the pair. -/
structure PairState where
  bankA : Option Bank := none
  bankB : Option Bank := none
  writing : Option CkptWrite := none
  /-- CKPT_WRITE and warm RESTART commands that take the cut of the next mark. -/
  hostCkpt : List CmdRef := []
  restartCkpt : List CmdRef := []
  /-- A reset is due (R377, R402): its CAUSE (R545) and whether the restart may be warm. -/
  restartDue : Option (Nat × Bool) := none
  /-- Run time at which the next background checkpoint falls due (R373). -/
  bgDue : Option Nat := none
  /-- Both feeds went low: the next base mark freezes (R374). -/
  freezeDue : Bool := false
  flushed : Bool := false
  /-- The next restart is cold: IMAGE_LOAD or a cold RESTART asked for it (R378). -/
  coldAsked : Bool := false
  /-- Level of LEASE_OUT, run time and epoch of the last own renewal (R384). -/
  out : Bool := false
  renewed : Option Nat := none
  epoch : Nat := 0
  /-- Run times of the last toggle of LEASE_IN and the last RENEW received (R385). -/
  toggle : Option Nat := none
  renewIn : Option Nat := none
  /-- Run time at which the listen time ends (R385). -/
  listenEnd : Option Nat := none
  /-- PAIR_OFFSET in ns (R390). -/
  offset : Int := 0
  /-- A cut was adopted since the start (R398). -/
  adopted : Bool := false
  manifests : List Manifest := []
  part : Option Manifest := none
  crcs : Tab (List (BitVec 32)) := []
  /-- Non-cell points of the replayed cut (R389). -/
  mirror : Tab PointEntry := []
  /-- The cut that the present cycle replays, its cell time, the feedback it uses and the active's key position (R389, R565). -/
  replay : Nat := 0
  replayCell : Nat := 0
  replayFast : List ManFast := []
  replayKey : Nat := 0
  /-- Own run time at each of the last 64 base marks, by N (R390). -/
  markRuns : Tab Nat := []
  /-- Base marks by which the active's count since PLL lock leads this unit's at the same N. -/
  cycOff : Int := 0
  /-- A splice of the replayed cut: N_s and digest (R396). -/
  splice : Option (Nat × List Byte) := none
  /-- The last manifest held after a loss (R393), or the last before a handover mark (R394). -/
  liveAfter : Option Nat := none
  /-- Mark h of a planned handover (R394), and the commands that wait for it. -/
  hand : Option Nat := none
  handRefs : List CmdRef := []
  align : Option Align := none
  /-- Run time of the last mismatch, by cell (R391). -/
  mismatch : Tab Nat := []
  /-- The partner's last STATUS: GLB_PAIR and digest (R383). -/
  partner : Option (Nat × Nat) := none
  /-- Run time of the next exercise (R395). -/
  exerAt : Option Nat := none
  /-- The first self-diagnosis cause that arose in the cycle in progress (R387). -/
  cause : Option Nat := none
  /-- What the manifest of the cycle in progress will carry (R388). -/
  fastUsed : List ManFast := []
  cmds : List ManCmd := []
  /-- Migrations that took effect at this mark, before the manifest of the cut before it left (R517). -/
  cmdsNow : List ManCmd := []
  sent : List PairSent := []
deriving DecidableEq, Repr

end Sys2Proof.Machine
end

