-- ==== Sys2Proof/Machine/Types/Safety.lean ====
section
/-! DEFINITION. State of the Conjunction safety island: its configuration set, both channels' pairs, functions and outputs, the proposal, the password and the change log (chapter 16, R403 to R431). -/

namespace Sys2Proof.Machine

/-- A pair record of a configuration set (R422). -/
structure SafPairDef where
  kind : Nat
  filter : Nat
  /-- Test sources, 0xFF for none. -/
  tpX : Nat
  tpY : Nat
  disc : Nat
deriving DecidableEq, Repr

/-- A function record (R422). -/
structure SafFuncDef where
  kind : Nat
  pair0 : Nat
  pair1 : Nat
  restart : Nat
  reset : Nat
deriving DecidableEq, Repr

/-- An output record (R422). -/
structure SafOutDef where
  enabled : Bool
  edmEn : Bool
  mainLoss : Bool
  lane : Bool
  reset : Nat
  width : Nat
  interval : Nat
  edmMs : Nat
  funcs : Nat
  cells : Nat
deriving DecidableEq, Repr

/-- A configuration set as the channels use it (R422). -/
structure SafCfg where
  seq : Nat
  bank : Nat
  digest : List Byte
  /-- The 1,472 bytes. -/
  bytes : List Byte
  pairs : List SafPairDef
  funcs : List SafFuncDef
  outs : List SafOutDef
deriving DecidableEq, Repr

/-- A filtered input (R406). -/
structure SafContact where
  /-- Filtered level; none until the filter has first settled. -/
  level : Option Bool := none
  raw : Bool := false
  /-- Consecutive unpulsed samples that showed `raw`. -/
  run : Nat := 0
  /-- It read 1 at its last pulsed sample (R407, R408). -/
  pulseHigh : Bool := false
deriving DecidableEq, Repr

/-- Pair states, coded as SAF_PAIR_p.STATE (R408, R429). -/
inductive SafPairSt where
  | unused | healthy | demand | ret | fault
deriving DecidableEq, Repr

/-- A pair in one channel (R408, R410). -/
structure SafPair where
  st : SafPairSt := .unused
  /-- 0 none, 1 DISC, 2 XSHORT. -/
  cause : Nat := 0
  bothOpen : Bool := true
  s1 : Nat := 0
  x : SafContact := {}
  y : SafContact := {}
  /-- Raw levels at the last sample. -/
  rawX : Bool := false
  rawY : Bool := false
  /-- SINGLE: sample at which closed was accepted (R410). -/
  closedAt : Option Nat := none
  /-- SINGLE: seen open since island start (R410). -/
  seenOpen : Bool := false
  /-- SINGLE: a press was accepted at this sample. -/
  press : Bool := false
deriving DecidableEq, Repr

/-- Function states, coded as SAF_FUNC_f.STATE (R409, R411, R429). -/
inductive SafFuncSt where
  | unused | demand | waitReset | permit | waitRelease | ready | one
deriving DecidableEq, Repr

/-- A function in one channel. -/
structure SafFunc where
  st : SafFuncSt := .unused
  /-- Sample of the first actuation, and whether it was PAIR0's (R411). -/
  a : Nat := 0
  firstIs0 : Bool := false
  syncFail : Bool := false
deriving DecidableEq, Repr

/-- Output states, coded as SAF_OUT_n.STATE (R412, R429). -/
inductive SafOutSt where
  | off | on | test | fault
deriving DecidableEq, Repr

/-- What the EDM timer awaits (R412, R414). -/
inductive EdmPhase where
  | idle | pullIn | release
deriving DecidableEq, Repr

/-- An output in one channel. -/
structure SafOut where
  st : SafOutSt := .off
  /-- 0 none, 1 STUCK_ON, 2 STUCK_OFF, 3 TEST, 4 EDM. -/
  cause : Nat := 0
  mainDemand : Bool := false
  rb : SafContact := {}
  edm : SafContact := {}
  edmPhase : EdmPhase := .idle
  /-- Sample at which the EDM timer started. -/
  edmFrom : Nat := 0
  /-- Pull-in was seen since entry to ON. -/
  pulled : Bool := false
  /-- Sample at which it entered ON from OFF. -/
  entered : Nat := 0
  /-- Sample at which it left ON or TEST. -/
  left : Nat := 0
  /-- Consecutive judged samples whose readback was wrong. -/
  wrong : Nat := 0
  /-- Sample from which a test is due (R413). -/
  due : Nat := 0
  nextB : Bool := false
  /-- A test pulse in progress: due sample, whether on pin B, and the readback at its check. -/
  pulse : Option (Nat × Bool × Option Bool) := none
  pinA : Bool := false
  pinB : Bool := false
  /-- Sample at which a mapped signal or heartbeat loss last arrived (R415). -/
  signalAt : Option Nat := none
deriving DecidableEq, Repr

/-- One channel's evaluation. -/
structure SafChannel where
  pairs : List SafPair := []
  funcs : List SafFunc := []
  outs : List SafOut := []
deriving DecidableEq, Repr

/-- The raw inputs of one channel at a sample: bit n is pin n (R403). -/
structure SafRaw where
  x : BitVec 32
  y : BitVec 32
  /-- SAF_RBnn: 1 shows on. -/
  rb : BitVec 12
  /-- SAF_EDMnn: 1 shows released. -/
  edm : BitVec 12
  /-- Readback of the channel's own control pins agrees with their commands (R418). -/
  pinsOk : Bool
deriving DecidableEq, Repr

/-- A fault signal of the main die (R415). -/
inductive MainSignal where
  | cellSafe (cell : Fin 64)
  | laneFault
deriving DecidableEq, Repr

/-- What a safety proposal changes (R425). -/
inductive SafChange where
  | config (set : List Byte)
  | password (salt hash : List Byte)
  | restart
deriving DecidableEq, Repr

/-- The pending safety proposal (R425). -/
structure SafProposal where
  change : SafChange
  digest : List Byte
  propSeq : Nat
  /-- Run time in ns of its acceptance. -/
  at_ : Nat
  /-- Authority slots that approved. -/
  slots : List Nat := []
deriving DecidableEq, Repr

/-- An approved configuration on its way to the channels (R426). -/
structure SafSwitch where
  ref : CmdRef
  cfg : SafCfg
  slots : List Nat
  /-- The channels have read and agreed on the set. -/
  ready : Bool := false
  /-- First configuration: it is selected at the restart. -/
  first : Bool := false
deriving DecidableEq, Repr

/-- The Conjunction and the safety area of MRAM. -/
structure SafIsland where
  /-- Feeds in range (R403). -/
  feedA : Bool := false
  feedB : Bool := false
  /-- Start-up has ended: sample 0 is next or past. -/
  running : Bool := false
  /-- SAFETY_FAULT cause, 0 for none (R418). -/
  cause : Nat := 0
  cfg : Option SafCfg := none
  /-- Index of the last sample (R404). -/
  s : Option Nat := none
  a : SafChannel := {}
  b : SafChannel := {}
  /-- Quantities on which the channels differed, for each sample since the last compare and the one before it, oldest first (R417). -/
  diffs : List (List Nat) := []
  /-- Fault signals that arrived since the last sample (R415). -/
  arrived : List MainSignal := []
  /-- Samples since the last heartbeat; the loss is in force. -/
  sinceHb : Nat := 0
  lost : Bool := false
  /-- A loss has been counted and acted on. -/
  lossCounted : Bool := false
  /-- Run time in ns of the last status the main die received (R429). -/
  statusAt : Option Nat := none
  /-- SAFETY_FAULT cause to be logged when the bridge delivers it (R418). -/
  logDue : Option Nat := none
  /-- Run time in ns of a restart due (R426). -/
  restartDue : Option Nat := none
  /-- MRAM: the two configuration banks (R422). -/
  bankA : Option (List Byte) := none
  bankB : Option (List Byte) := none
  /-- MRAM: SALT and HASH (R424). -/
  password : Option (List Byte × List Byte) := none
  /-- Copies of the password record that hold an uncorrectable error (R434, R440). -/
  pwdBad : List Nat := []
  /-- MRAM: change log, oldest first, at most 256 entries of 64 bytes (R427). -/
  log : List (List Byte) := []
  /-- SEQ of the last log entry. -/
  logSeq : Nat := 0
  proposal : Option SafProposal := none
  switch : Option SafSwitch := none
  /-- Digest of the last proposal that expired (R425). -/
  expired : List Byte := []
  /-- Consecutive wrong passwords, and the end of a lockout in run-time ns (R424). -/
  wrongs : Nat := 0
  lockEnd : Option Nat := none
deriving DecidableEq, Repr

end Sys2Proof.Machine
end

