-- ==== Sys2Proof/Syntax.lean ====
section
/-! DEFINITION. The commands and events of the block: one constructor a row of the table of operations, with its operands. -/

namespace Sys2Proof

open Sys2Proof.Machine

/-- A command or event of the block. A ring command carries its reference and its argument words in order (log entry 2). -/
inductive Instr where
  /-- IMAGE_WRITE_SLOT (R65): Command 0x0101 writes and verifies an image into the slot that is not running and records its digest. -/
  | imageWriteSlot (ref : CmdRef) (args : List Nat)
  /-- IMAGE_LOAD (R65): Command 0x0102 performs a cold restart onto the named slot. -/
  | imageLoad (ref : CmdRef) (args : List Nat)
  /-- IMAGE_CHECK (R65): Command 0x0103 runs all checks and the certificate without effect. -/
  | imageCheck (ref : CmdRef) (args : List Nat)
  /-- SPLICE_PREPARE (R59): Command 0x0104 stages and checks a new image for a splice and lists the changed cells. -/
  | splicePrepare (ref : CmdRef) (args : List Nat)
  /-- SPLICE_COMMIT (R62): Command 0x0105 names the mark N_s at which a prepared splice takes effect and writes ACTIVE_SLOT. -/
  | spliceCommit (ref : CmdRef) (args : List Nat)
  /-- SPLICE_CANCEL (R63): Command 0x0106 discards a prepared splice before its mark. -/
  | spliceCancel (ref : CmdRef) (args : List Nat)
  /-- REPORT_READ (R58): Command 0x0107 returns the rejection report. -/
  | reportRead (ref : CmdRef) (args : List Nat)
  /-- CERT_READ (R57): Command 0x0108 returns the certificate record. -/
  | certRead (ref : CmdRef) (args : List Nat)
  /-- SET_ACTIVE_SLOT (R65): Command 0x0109 writes ACTIVE_SLOT without loading. -/
  | setActiveSlot (ref : CmdRef) (args : List Nat)
  /-- TIME_STEP (R99): Command 0x0A01 schedules a step of D at mark N_t. -/
  | timeStep (ref : CmdRef) (args : List Nat)
  /-- TIME_READ (R111): Command 0x0A02 returns D, A, B, run time, capture stamp and N from one tick. -/
  | timeRead (ref : CmdRef) (args : List Nat)
  /-- SOURCE_SELECT (R111): Command 0x0A03 writes DSEL. -/
  | sourceSelect (ref : CmdRef) (args : List Nat)
  /-- POINT_READ (R127): Command 0x0201 returns the entries of up to 64 points from one sealed cut per device. -/
  | pointRead (ref : CmdRef) (args : List Nat)
  /-- POINT_WRITE (R124): Command 0x0202 writes host-owned points, taking effect at the next base mark. -/
  | pointWrite (ref : CmdRef) (args : List Nat)
  /-- POINT_FORCE (R125): Command 0x0203 forces points from the next base mark within the 1,024 limit. -/
  | pointForce (ref : CmdRef) (args : List Nat)
  /-- POINT_UNFORCE (R125): Command 0x0204 removes forces at the next base mark. -/
  | pointUnforce (ref : CmdRef) (args : List Nat)
  /-- FORCE_LIST (R127): Command 0x0205 returns the forced points of a device. -/
  | forceList (ref : CmdRef) (args : List Nat)
  /-- DEFINE_READ (R127): Command 0x0206 returns the definition records of up to 64 points. -/
  | defineRead (ref : CmdRef) (args : List Nat)
  /-- LOOP_READ (R160): Command 0x0301 returns the nodes and status of 1–16 loops. -/
  | loopRead (ref : CmdRef) (args : List Nat)
  /-- LOOP_SET_COEF (R146): Command 0x0302 latches a coefficient swap for a loop. -/
  | loopSetCoef (ref : CmdRef) (args : List Nat)
  /-- LOOP_DISABLE (R151): Command 0x0303 disables a loop from its next execution, writing DISABLE_VAL. -/
  | loopDisable (ref : CmdRef) (args : List Nat)
  /-- LOOP_ENABLE (R152): Command 0x0304 enables a loop with a resume preload. -/
  | loopEnable (ref : CmdRef) (args : List Nat)
  /-- TRACE_ARM (R155): Command 0x0305 arms a loop trace with POST. -/
  | traceArm (ref : CmdRef) (args : List Nat)
  /-- TRACE_TRIGGER (R155): Command 0x0306 latches a trace trigger for the loop's next execution. -/
  | traceTrigger (ref : CmdRef) (args : List Nat)
  /-- TRACE_READ (R156): Command 0x0307 returns a frozen trace. -/
  | traceRead (ref : CmdRef) (args : List Nat)
  /-- TABLE_READ (R160): Command 0x0308 returns a gain or position table. -/
  | tableRead (ref : CmdRef) (args : List Nat)
  /-- LOOP_SET_MODE (R175): Command 0x0309 latches a loop mode when MODE_PT is NONE. -/
  | loopSetMode (ref : CmdRef) (args : List Nat)
  /-- AXIS_READ (R186): Command 0x0310 returns the state of 1–32 axes. -/
  | axisRead (ref : CmdRef) (args : List Nat)
  /-- PG_MOVE (R171): Command 0x0311 requests a move of a generator to a target. -/
  | pgMove (ref : CmdRef) (args : List Nat)
  /-- AXIS_STOP (R174): Command 0x0312 quick-stops an axis. -/
  | axisStop (ref : CmdRef) (args : List Nat)
  /-- AXIS_SET_MODE (R179): Command 0x0313 sets an axis mode when MODE_PT is NONE. -/
  | axisSetMode (ref : CmdRef) (args : List Nat)
  /-- AXIS_ENABLE (R181): Command 0x0314 enables an axis at the next sub-cycle 0. -/
  | axisEnable (ref : CmdRef) (args : List Nat)
  /-- AXIS_DISABLE (R181): Command 0x0315 disables an axis at the next sub-cycle 0. -/
  | axisDisable (ref : CmdRef) (args : List Nat)
  /-- AXIS_RESET (R181): Command 0x0316 clears latched axis faults when no cause is present. -/
  | axisReset (ref : CmdRef) (args : List Nat)
  /-- AXIS_SET_POS (R166): Command 0x0317 sets POS_OFFSET of an OFF axis and clears REF_LOST. -/
  | axisSetPos (ref : CmdRef) (args : List Nat)
  /-- PG_SET_LIMITS (R173): Command 0x0318 sets or latches a generator's limits. -/
  | pgSetLimits (ref : CmdRef) (args : List Nat)
  /-- FLOW_START (R202): Command 0x0401 starts an IDLE flow at a step. -/
  | flowStart (ref : CmdRef) (args : List Nat)
  /-- FLOW_HOLD (R203): Command 0x0402 holds a flow and pauses its timers and ramps. -/
  | flowHold (ref : CmdRef) (args : List Nat)
  /-- FLOW_RESUME (R203): Command 0x0403 resumes a held flow, re-inserting its timers. -/
  | flowResume (ref : CmdRef) (args : List Nat)
  /-- FLOW_ABORT (R202): Command 0x0404 aborts a flow into ABORT_STEP or IDLE. -/
  | flowAbort (ref : CmdRef) (args : List Nat)
  /-- FLOW_DISABLE (R205): Command 0x0405 disables a flow and writes its disable records. -/
  | flowDisable (ref : CmdRef) (args : List Nat)
  /-- FLOW_ENABLE (R202): Command 0x0406 moves a DISABLED flow to IDLE. -/
  | flowEnable (ref : CmdRef) (args : List Nat)
  /-- FLOW_READ (R211): Command 0x0407 returns the state of 1–64 flows. -/
  | flowRead (ref : CmdRef) (args : List Nat)
  /-- TASK_READ (R241): Command 0x0501 returns task status of 1–64 tasks. -/
  | taskRead (ref : CmdRef) (args : List Nat)
  /-- TASK_DISABLE (R233): Command 0x0502 disables a task from the next mark. -/
  | taskDisable (ref : CmdRef) (args : List Nat)
  /-- TASK_ENABLE (R233): Command 0x0503 enables a task, resuming its timers. -/
  | taskEnable (ref : CmdRef) (args : List Nat)
  /-- MEM_READ (R241): Command 0x0504 returns markers, words or objects of a LOGIC cell. -/
  | memRead (ref : CmdRef) (args : List Nat)
  /-- MEM_WRITE (R241): Command 0x0505 writes words or markers at the next mark. -/
  | memWrite (ref : CmdRef) (args : List Nat)
  /-- OBJ_SET (R241): Command 0x0506 sets a timer PT or counter CV or PV at the next mark. -/
  | objSet (ref : CmdRef) (args : List Nat)
  /-- SEG_DRAIN (R258): Command 0x0601 transfers a sealed segment to a host buffer. -/
  | segDrain (ref : CmdRef) (args : List Nat)
  /-- SEG_RELEASE (R259): Command 0x0602 frees a segment and every older one. -/
  | segRelease (ref : CmdRef) (args : List Nat)
  /-- SEG_CUT (R266): Command 0x0603 seals the filling segment at the next base mark. -/
  | segCut (ref : CmdRef) (args : List Nat)
  /-- GROUP_READ (R253): Command 0x0604 returns the dense group table. -/
  | groupRead (ref : CmdRef) (args : List Nat)
  /-- POLICY_READ (R266): Command 0x0605 returns policy records as in effect. -/
  | policyRead (ref : CmdRef) (args : List Nat)
  /-- POLICY_SET (R261): Command 0x0606 replaces BOUND and MAX_GAP of a policy at the next mark. -/
  | policySet (ref : CmdRef) (args : List Nat)
  /-- SEG_LIST (R266): Command 0x0607 lists segments. -/
  | segList (ref : CmdRef) (args : List Nat)
  /-- ACQ_ARM (R274): Command 0x0701 arms a unit or group at the next base mark. -/
  | acqArm (ref : CmdRef) (args : List Nat)
  /-- ACQ_STOP (R274): Command 0x0702 stops a unit or group. -/
  | acqStop (ref : CmdRef) (args : List Nat)
  /-- ACQ_FIRE (R273): Command 0x0703 triggers a unit. -/
  | acqFire (ref : CmdRef) (args : List Nat)
  /-- ACQ_SELECT (R277): Command 0x0704 selects a unit's preset. -/
  | acqSelect (ref : CmdRef) (args : List Nat)
  /-- ACQ_CONFIG (R277): Command 0x0705 loads a preset record into a unit. -/
  | acqConfig (ref : CmdRef) (args : List Nat)
  /-- ACQ_ALIGN (R281): Command 0x0706 sends an alignment request with an instant T. -/
  | acqAlign (ref : CmdRef) (args : List Nat)
  /-- ACQ_READ (R290): Command 0x0707 transfers a READY record to a host buffer. -/
  | acqRead (ref : CmdRef) (args : List Nat)
  /-- ACQ_RELEASE (R290): Command 0x0708 frees a record and every older record. -/
  | acqRelease (ref : CmdRef) (args : List Nat)
  /-- ACQ_LIST (R290): Command 0x0709 lists records of a unit. -/
  | acqList (ref : CmdRef) (args : List Nat)
  /-- ADC_READ (R313): Command 0x0801 returns results of a logical converter. -/
  | adcRead (ref : CmdRef) (args : List Nat)
  /-- ADC_URGENT (R299): Command 0x0802 triggers an urgent sequence. -/
  | adcUrgent (ref : CmdRef) (args : List Nat)
  /-- ADC_CAL (R313): Command 0x0803 moves a core to the head of rotation for full calibration. -/
  | adcCal (ref : CmdRef) (args : List Nat)
  /-- ENC_READ (R313): Command 0x0804 returns encoder status and counts. -/
  | encRead (ref : CmdRef) (args : List Nat)
  /-- ENC_SET_COUNT (R306): Command 0x0805 presets a quadrature count at the next fast mark. -/
  | encSetCount (ref : CmdRef) (args : List Nat)
  /-- DAC_READ (R313): Command 0x0806 returns the status of all DAC channels. -/
  | dacRead (ref : CmdRef) (args : List Nat)
  /-- STATION_READ (R345): Command 0x0901 returns station status. -/
  | stationRead (ref : CmdRef) (args : List Nat)
  /-- STATION_DROP (R330): Command 0x0902 declares a station ABSENT. -/
  | stationDrop (ref : CmdRef) (args : List Nat)
  /-- IDENT_READ (R345): Command 0x0903 reads a local or station identity record. -/
  | identRead (ref : CmdRef) (args : List Nat) (mem : List Byte) (stretch : Bool)
  /-- IDENT_SCAN (R341): Command 0x0904 rereads every local expectation now. -/
  | identScan (ref : CmdRef) (args : List Nat) (reads : List (Nat × List Byte))
  /-- CAN_READ (R345): Command 0x0905 returns CAN status of all buses. -/
  | canRead (ref : CmdRef) (args : List Nat)
  /-- ETH_READ (R345): Command 0x0906 returns Ethernet port and station summary registers. -/
  | ethRead (ref : CmdRef) (args : List Nat)
  /-- CONST_READ (R367): Command 0x0B01 returns link state of a named device. -/
  | constRead (ref : CmdRef) (args : List Nat)
  /-- ROUTE_READ (R367): Command 0x0B02 returns the paths in effect on a device. -/
  | routeRead (ref : CmdRef) (args : List Nat)
  /-- IMPORT_READ (R367): Command 0x0B03 returns import records. -/
  | importRead (ref : CmdRef) (args : List Nat)
  /-- CONST_WRITE (R362): Command 0x0B04 writes host-owned points on joined devices at one mark. -/
  | constWrite (ref : CmdRef) (args : List Nat)
  /-- MEMBER_DROP (R367): Command 0x0B05 removes a worker at the next re-plan. -/
  | memberDrop (ref : CmdRef) (args : List Nat)
  /-- LINK_RETRAIN (R367): Command 0x0B06 retrains a port. -/
  | linkRetrain (ref : CmdRef) (args : List Nat)
  /-- CKPT_WRITE (R373): Command 0x0C01 takes a host checkpoint at the next base mark. -/
  | ckptWrite (ref : CmdRef) (args : List Nat)
  /-- CKPT_INFO (R402): Command 0x0C02 returns both bank headers. -/
  | ckptInfo (ref : CmdRef) (args : List Nat)
  /-- CKPT_INVALIDATE (R402): Command 0x0C03 writes COMMIT 0 in both banks. -/
  | ckptInvalidate (ref : CmdRef) (args : List Nat)
  /-- RESTART (R402): Command 0x0C04 restarts the main die warm or cold. -/
  | restart (ref : CmdRef) (args : List Nat)
  /-- PAIR_READ (R402): Command 0x0C05 returns the pair registers and the partner's STATUS. -/
  | pairRead (ref : CmdRef) (args : List Nat)
  /-- PAIR_HANDOVER (R394): Command 0x0C06 starts a planned handover. -/
  | pairHandover (ref : CmdRef) (args : List Nat)
  /-- PAIR_CLEAR (R402): Command 0x0C07 moves a FAULTY unit to ALIGNING. -/
  | pairClear (ref : CmdRef) (args : List Nat)
  /-- SAF_READ (R431): Command 0x0D01 returns all SAF registers. -/
  | safRead (ref : CmdRef) (args : List Nat)
  /-- SAF_CFG_READ (R431): Command 0x0D02 returns the active safety set. -/
  | safCfgRead (ref : CmdRef) (args : List Nat)
  /-- SAF_LOG_READ (R431): Command 0x0D03 returns change-log entries. -/
  | safLogRead (ref : CmdRef) (args : List Nat)
  /-- SAF_PROPOSE (R423): Command 0x0D04 proposes a safety configuration. -/
  | safPropose (ref : CmdRef) (args : List Nat)
  /-- SAF_APPROVE (R425): Command 0x0D05 approves a pending safety proposal. -/
  | safApprove (ref : CmdRef) (args : List Nat)
  /-- SAF_PASSWORD (R424): Command 0x0D06 proposes a new safety password. -/
  | safPassword (ref : CmdRef) (args : List Nat)
  /-- SAF_RESTART (R425): Command 0x0D07 proposes an island restart. -/
  | safRestart (ref : CmdRef) (args : List Nat)
  /-- SAF_CANCEL (R425): Command 0x0D08 withdraws the pending safety proposal. -/
  | safCancel (ref : CmdRef) (args : List Nat)
  /-- CTR_READ (R451): Command 0x0F20 reads 1–64 counters under permission. -/
  | ctrRead (ref : CmdRef) (args : List Nat)
  /-- CTR_SNAPSHOT (R449): Command 0x0F21 takes a snapshot and returns values. -/
  | ctrSnapshot (ref : CmdRef) (args : List Nat)
  /-- BW_READ (R457): Command 0x0F22 returns bandwidth values of all ports. -/
  | bwRead (ref : CmdRef) (args : List Nat)
  /-- MEM_TEST (R457): Command 0x1001 runs a full march pass of one memory. -/
  | memTest (ref : CmdRef) (args : List Nat)
  /-- SEC_STATUS (R508): Command 0x0E01 returns all SEC registers. -/
  | secStatus (ref : CmdRef) (args : List Nat)
  /-- SEC_PROPOSE (R494): Command 0x0E02 creates a device proposal. -/
  | secPropose (ref : CmdRef) (args : List Nat)
  /-- SEC_APPROVE (R496): Command 0x0E03 approves a pending device proposal. -/
  | secApprove (ref : CmdRef) (args : List Nat)
  /-- SEC_CANCEL (R497): Command 0x0E04 cancels the pending device proposal. -/
  | secCancel (ref : CmdRef) (args : List Nat)
  /-- SEC_ATTEST (R492): Command 0x0E05 returns a signed attestation report. -/
  | secAttest (ref : CmdRef) (args : List Nat)
  /-- SEC_IDENTITY (R491): Command 0x0E06 returns the self-signed identity record. -/
  | secIdentity (ref : CmdRef) (args : List Nat)
  /-- SEC_PROVISION (R499): Command 0x0E07 provisions a BLANK device. -/
  | secProvision (ref : CmdRef) (args : List Nat)
  /-- SEC_FW_WRITE (R486): Command 0x0E08 writes and verifies firmware into the slot not running. -/
  | secFwWrite (ref : CmdRef) (args : List Nat)
  /-- SEC_DBG_CLOSE (R503): Command 0x0E09 closes the debug gate at the next base mark. -/
  | secDbgClose (ref : CmdRef) (args : List Nat)
  /-- AGE_READ (R533): Command 0x0F01 returns the AGE registers and forecast. -/
  | ageRead (ref : CmdRef) (args : List Nat)
  /-- MARGIN_MEASURE (R533): Command 0x0F02 requests a measurement. -/
  | marginMeasure (ref : CmdRef) (args : List Nat)
  /-- MARGIN_PROBE (R518): Command 0x0F03 runs a margin probe. -/
  | marginProbe (ref : CmdRef) (args : List Nat)
  /-- MIGRATE_BACK (R517): Command 0x0F04 returns a cell's work to its home at mark N + 8. -/
  | migrateBack (ref : CmdRef) (args : List Nat)
  /-- REC_READ (R533): Command 0x0F10 returns recorder records from a SEQ. -/
  | recRead (ref : CmdRef) (args : List Nat)
  /-- REC_SUMMARY (R533): Command 0x0F11 returns live summaries. -/
  | recSummary (ref : CmdRef) (args : List Nat)
  /-- REC_CLEAR (R530): Command 0x0F12 starts a new log with base records. -/
  | recClear (ref : CmdRef) (args : List Nat)
  /-- REC_LOG (R533): Command 0x0F13 logs a host code occurrence. -/
  | recLog (ref : CmdRef) (args : List Nat)
  /-- REC_CODE_SET (R533): Command 0x0F14 sets LO and SHIFT of a host code. -/
  | recCodeSet (ref : CmdRef) (args : List Nat)
  /-- REC_CODE_INFO (R533): Command 0x0F15 returns LO and SHIFT of codes. -/
  | recCodeInfo (ref : CmdRef) (args : List Nat)
  /-- TT_CHECK (R533): Command 0x1002 runs one measurement and returns all tell-tale counts. -/
  | ttCheck (ref : CmdRef) (args : List Nat)
  /-- BASE_MARK (R31): At each base mark inputs are captured, sealed outputs appear at the pins and every cell starts its cycle work. -/
  | baseMark (traffic : List FabEvent) (tt : List Nat) (late : List Nat) (skip : List Nat) (drop : List Nat) (full : List Nat)
  /-- FAST_MARK (R161): At each fast mark the role engine suspends base work and executes every axis of the cell. -/
  | fastMark (late : List Nat)
  /-- CONVERTER_START (R296): At each converter-start tick every enabled logical converter starts its scheduled conversion and encoder counts are sampled. -/
  | converterStart (full : List Nat)
  /-- TIO_PULSE_DUE (R107): When D reaches an output pulse's due time the edge is produced and MODE returns to 0 after WIDTH. -/
  | tioPulseDue (pin : Fin 8)
  /-- LAUNCH_TIME_REACHED (R108): A queued Ethernet or CAN frame with a launch time becomes eligible when D reaches it, or is discarded as late. -/
  | launchTimeReached (net : LaunchNet) (enq : List LaunchDesc)
  /-- PRP_SUPERVISION (R317): Every 2,000 ms a PRP node sends its supervision frames. -/
  | prpSupervision (pair : Fin 3)
  /-- STATION_OUTPUT_ASSEMBLY (R325): In a station's period an OUTPUT frame set is assembled from the cut and queued for launch. -/
  | stationOutputAssembly (station : Fin 512)
  /-- CAN_REFERENCE_SEND (R336): The current master launches a reference at base marks with N mod BC_BASE = 0. -/
  | canReferenceSend (bus : Fin 8)
  /-- HELLO_SEND (R347): Every 1 s a port sends HELLO to repeat the delay measurement. -/
  | helloSend (port : Fin 6)
  /-- REMOTE_COMMAND_TIMEOUT (R360): No completion within 1 ms completes a relayed command TIMEOUT. -/
  | remoteCommandTimeout (handle : Nat)
  /-- COMPLETION_RECORD_WRITE (R466): A due completion record is written into a free completion slot. -/
  | completionRecordWrite (ring : Fin 129)
  /-- IRQ_TIME_LIMIT (R472): TIME_US after the first due record the ring message is sent. -/
  | irqTimeLimit (ring : Fin 128)
  /-- DATAGRAM_RESEND (R477): An unacknowledged datagram is resent 5 ms after its last sending. -/
  | datagramResend (ring : Fin 128)
  /-- DATAGRAM_ACK_TIMER (R477): Within 1 ms of receipt the device sends an ACK when no other datagram carries it. -/
  | datagramAckTimer (ring : Fin 129)
  /-- PTP_SYNC_TIMEOUT (R96): No Sync of the domain's PTP_DOMAIN within TMO × 100 ms makes domain A or B not OK, possibly giving HOLDOVER. -/
  | ptpSyncTimeout (dom : Fin 2)
  /-- REGISTER_WRITE (R5): A host BAR0 write to a register with no behaviour of its own updates each field whose access condition is met. -/
  | registerWrite (addr : BitVec 25) (bytes : List Byte) (hw : List Word)
  /-- UNASSIGNED_ACCESS (R574): A read or write in the unassigned BAR0 range returns 0 or has no effect and is counted under 0x200. -/
  | unassignedAccess (addr : BitVec 25) (write : Bool) (len : Nat)
  /-- BAR2_WRITE (R436): A host write into the shared window commits per word, and a word that collides with a differing fabric write is dropped and counted. -/
  | bar2Write (addr : BitVec 22) (bytes : List Byte) (fabric : List (Nat × Byte))
  /-- CEL_RELEASE_WRITE (R77): A write of 1 to CEL_CTL.RELEASE while the cell is SAFE requests its release. -/
  | celReleaseWrite (cell : Fin 64)
  /-- PEAK_CLR_WRITE (R88): A write of 1 to CEL_CTL.PEAK_CLR clears CEL_STEP_PEAK and CEL_WAIT_PEAK at the next base mark. -/
  | peakClrWrite (cell : Fin 64)
  /-- INCR_COMMIT_WRITE (R94): A write of TNS_x_INCR_HI commits the domain increment at the next tick, or sets REJ when out of range. -/
  | incrCommitWrite (dom : Fin 2) (value : Word)
  /-- DOMAIN_STEP_WRITE (R94): A write of 1 to TNS_x_CTL.STEP adds ADJ_SEC and ADJ_NS to the domain at the next tick, or sets REJ. -/
  | domainStepWrite (dom : Fin 2) (value : Word)
  /-- DSEL_WRITE (R96): A host write of TNS_CTL.DSEL selects the source that D follows from the next base mark, or is ignored with REJ. -/
  | dselWrite (value : Word)
  /-- TNS_NS_READ (R92): A read of TNS_NS captures D, run time, capture stamp and N into the snapshot registers. -/
  | tnsNsRead (off : Fin 4) (len : Nat)
  /-- TNS_DOMAIN_NS_READ (R92): A read of TNS_x_NS captures the domain seconds into TNS_x_SEC_LO and TNS_x_SEC_HI. -/
  | tnsDomainNsRead (dom : Fin 2) (off : Fin 4) (len : Nat)
  /-- TIO_SEC_READ (R107): A read of TNS_TIO_SEC_n clears VALID of that time pin. -/
  | tioSecRead (pin : Fin 8) (off : Fin 4) (len : Nat)
  /-- TIO_MODE_WRITE (R107): A write of TNS_TIO_CFG_n.MODE arms a capture, an output pulse or PPS, and sets LATE when a pulse due time is already past. -/
  | tioModeWrite (pin : Fin 8) (value : Word) (hw : Word)
  /-- ADC_RES_READ (R297): A read of ADC_RES_c_e captures the entry's OVR, DISP and number into ADC_RES_STAT_c. -/
  | adcResRead (conv : Fin 16) (entry : Fin 32) (off : Fin 4) (len : Nat)
  /-- ENC_INDEX_READ (R304): A read of ENC_INDEX_n clears INDEX_VALID. -/
  | encIndexRead (ch : Fin 32) (off : Fin 4) (len : Nat)
  /-- ADC_URG_GO_WRITE (R299): A write of 1 to ADC_URG_CTL_c.GO triggers the converter's urgent sequence. -/
  | adcUrgGoWrite (conv : Fin 16)
  /-- CTR_LO_READ (R448): A read of CTR_LO_n latches counter n into the shadow and clears its sticky wrap. -/
  | ctrLoRead (n : Fin 1024) (off : Fin 4) (len : Nat)
  /-- PRESET_GO_WRITE (R450): A write of CTR_PRE_CTL.GO writes the preset value into counter NUM and clears its wrap, counting any lost increment in CTR_SLIP. -/
  | presetGoWrite (value : Word) (lost : Bool)
  /-- BW_PEAK_CLR_WRITE (R455): A write of 1 to CTR_BW_CFG_p.PEAK_CLR clears PEAK and SAT of the port. -/
  | bwPeakClrWrite (port : Fin 48)
  /-- TAIL_WRITE (R461): A host write of RNG_CMD_TAIL_r announces commands, or is ignored and counted when it breaks the index rule or the ring is not READY. -/
  | tailWrite (ring : Fin 128) (value : Word)
  /-- CHEAD_WRITE (R461): A host write of RNG_CPL_HEAD_r frees completion slots, or is ignored with IDX_ERR. -/
  | cheadWrite (ring : Fin 128) (value : Word)
  /-- RING_EN_WRITE (R462): A write of RNG_CTL_r.EN moves the ring between INIT and READY. -/
  | ringEnWrite (ring : Fin 128) (en : Bool)
  /-- VEC_STAMP_READ (R474): A read of RNG_VEC_STAMP_LO_v latches both halves of the vector stamp. -/
  | vecStampRead (vec : Fin 144) (off : Fin 4) (len : Nat)
  /-- DEBUG_BLOCK_ACCESS (R504): An access to the DBG block or aperture performs one emergency transfer into the selected bank while the gate is open, and otherwise reads 0 and is counted under 0x1F6. -/
  | debugBlockAccess (addr : BitVec 25) (write : Bool) (size : Nat) (value : BitVec 64) (traffic : List FabEvent)
  /-- CELL_SEAL (R370): When a cell's work of the cycle is complete it seals its half of the cut, setting each point's quality. -/
  | cellSeal (cell : Fin 64) (steps : Nat) (traffic : List FabEvent)
  /-- RESET_RELEASE (R545): Reset release samples the straps, starts link training, key sampling and the boot ROM. -/
  | resetRelease (mgr : Bool) (pair : Fin 4) (plp : Fin 8) (pmb : Fin 8)
  /-- DDR_TRAINING_DONE (R441): DDR5 training from the platform record completes and the channel reads TRAINED. -/
  | ddrTrainingDone (ch : Fin 2) (gib : Fin 256) (mts : Fin 65536)
  /-- IMAGE_PARSE_COMPLETE (R48): The parser finishes streaming, verifying, checking and certifying an image, admitting it for the next base mark or refusing it. -/
  | imageParseComplete (reads : List (Nat × List Byte))
  /-- LANE_CODEWORD_ERROR (R68): A codeword with both rails of a bit pair high makes the sender repeat the transfer, and a second failure fails the lane. -/
  | laneCodewordError (lane : Fin 256) (again : Bool)
  /-- LANE_HANDSHAKE_TIMEOUT (R68): A handshake not reaching phase 4 within 2 µs makes the sender repeat, and a second failure fails the lane. -/
  | laneHandshakeTimeout (lane : Fin 256) (again : Bool)
  /-- CLAUSE_LAPSE (R82): No owner request within 8 handshake periods ends the clause and counts 0x083. -/
  | clauseLapse (a : Arb)
  /-- REFRESH_EMERGENCY (R84): DDR5 refresh debt at its limit enters an EMERGENCY refresh request at the controller. -/
  | refreshEmergency (ch : Fin 2)
  /-- TIO_EDGE (R107): An edge on a time pin is stamped in capture mode and may trigger acquisition units or urgent sequences. -/
  | tioEdge (pin : Fin 8) (rising : Bool) (sub : Fin 8)
  /-- PTP_EVENT_RX (R103): A received PTP event message is stamped in its domain and refreshes the domain's Sync timeout. -/
  | ptpEventRx (port : Fin 6) (domainNumber : Fin 256) (isSync : Bool)
  /-- DELAY_LIST_EXPIRY (R197): The delay-list head falls due and completes its verb at its due time. -/
  | delayListExpiry (cell : Fin 64)
  /-- STEP_TIMEOUT (R201): A step's timer falls due and the step ends in fault, acting by TMO_ACT. -/
  | stepTimeout (cell : Fin 64) (flow : Nat)
  /-- SEQ_SET (R193): Verb SET writes its operand to a point at release. -/
  | vbSeqSet (cell : Fin 64) (flow : Nat) (verb : Nat)
  /-- GET (R194): Verb GET reads a point into a flow variable. -/
  | vbGet (cell : Fin 64) (flow : Nat) (verb : Nat)
  /-- CALC (R193): Verb CALC computes a flow variable from another and an operand. -/
  | vbCalc (cell : Fin 64) (flow : Nat) (verb : Nat)
  /-- DELAY (R196): Verb DELAY enters a delay-list entry due C ticks after dispatch. -/
  | vbDelay (cell : Fin 64) (flow : Nat) (verb : Nat)
  /-- WAIT (R198): Verb WAIT compares a point with an operand, with an optional timeout. -/
  | vbWait (cell : Fin 64) (flow : Nat) (verb : Nat)
  /-- BRANCH (R193): Verb BRANCH tests a flow variable and produces a token on one port. -/
  | vbBranch (cell : Fin 64) (flow : Nat) (verb : Nat)
  /-- MERGE (R200): Verb MERGE fires when all inputs are resolved and one is live. -/
  | vbMerge (cell : Fin 64) (flow : Nat) (verb : Nat)
  /-- MOVE (R195): Verb MOVE issues a move request to a generator at release. -/
  | vbMove (cell : Fin 64) (flow : Nat) (verb : Nat)
  /-- RAMP (R195): Verb RAMP ramps a point to its target over C ticks. -/
  | vbRamp (cell : Fin 64) (flow : Nat) (verb : Nat)
  /-- FORK (R202): Verb FORK starts another flow of the cell at a step. -/
  | vbFork (cell : Fin 64) (flow : Nat) (verb : Nat)
  /-- MARK (R193): Verb MARK writes C to the flow's MARK_PT. -/
  | vbMark (cell : Fin 64) (flow : Nat) (verb : Nat)
  /-- NEXT (R200): Verb NEXT closes the step and makes the named step pending. -/
  | vbNext (cell : Fin 64) (flow : Nat) (verb : Nat)
  /-- SEQ_END (R200): Verb END closes the step and takes the flow to IDLE. -/
  | vbSeqEnd (cell : Fin 64) (flow : Nat) (verb : Nat)
  /-- NOP (R220): Instruction NOP does nothing. -/
  | lgNop (cell : Fin 64) (w : Word)
  /-- LD (R220): Instruction LD loads a bit operand into ACC. -/
  | lgLd (cell : Fin 64) (w : Word)
  /-- AND (R220): Instruction AND ands a bit operand into ACC. -/
  | lgAnd (cell : Fin 64) (w : Word)
  /-- OR (R220): Instruction OR ors a bit operand into ACC. -/
  | lgOr (cell : Fin 64) (w : Word)
  /-- XOR (R220): Instruction XOR xors a bit operand into ACC. -/
  | lgXor (cell : Fin 64) (w : Word)
  /-- ST (R220): Instruction ST stores ACC into a bit operand. -/
  | lgSt (cell : Fin 64) (w : Word)
  /-- SET (R220): Instruction SET sets a bit operand when ACC is 1. -/
  | lgSet (cell : Fin 64) (w : Word)
  /-- RST (R220): Instruction RST clears a bit operand when ACC is 1. -/
  | lgRst (cell : Fin 64) (w : Word)
  /-- NOT (R220): Instruction NOT inverts ACC. -/
  | lgNot (cell : Fin 64) (w : Word)
  /-- ANDP (R220): Instruction ANDP pushes ACC with AND and loads an operand. -/
  | lgAndp (cell : Fin 64) (w : Word)
  /-- ORP (R220): Instruction ORP pushes ACC with OR and loads an operand. -/
  | lgOrp (cell : Fin 64) (w : Word)
  /-- POP (R220): Instruction POP combines the stack top into ACC. -/
  | lgPop (cell : Fin 64) (w : Word)
  /-- DUP (R220): Instruction DUP pushes ACC with NONE. -/
  | lgDup (cell : Fin 64) (w : Word)
  /-- PEEK (R220): Instruction PEEK loads the stack top into ACC. -/
  | lgPeek (cell : Fin 64) (w : Word)
  /-- DROP (R220): Instruction DROP pops and discards the stack top. -/
  | lgDrop (cell : Fin 64) (w : Word)
  /-- EDG (R226): Instruction EDG evaluates an edge object on ACC. -/
  | lgEdg (cell : Fin 64) (w : Word)
  /-- TMR (R224): Instruction TMR evaluates a timer object with IN = ACC. -/
  | lgTmr (cell : Fin 64) (w : Word)
  /-- TPT (R224): Instruction TPT sets a timer's PT from WACC. -/
  | lgTpt (cell : Fin 64) (w : Word)
  /-- CNT (R225): Instruction CNT evaluates a counter object on rising inputs. -/
  | lgCnt (cell : Fin 64) (w : Word)
  /-- CRST (R225): Instruction CRST resets a counter when ACC is 1. -/
  | lgCrst (cell : Fin 64) (w : Word)
  /-- LDW (R220): Instruction LDW loads a word operand into WACC. -/
  | lgLdw (cell : Fin 64) (w : Word)
  /-- STW (R220): Instruction STW stores WACC into a word operand. -/
  | lgStw (cell : Fin 64) (w : Word)
  /-- ADD (R220): Instruction ADD adds a word operand to WACC. -/
  | lgAdd (cell : Fin 64) (w : Word)
  /-- SUB (R220): Instruction SUB subtracts a word operand from WACC. -/
  | lgSub (cell : Fin 64) (w : Word)
  /-- MUL (R220): Instruction MUL multiplies WACC by a word operand. -/
  | lgMul (cell : Fin 64) (w : Word)
  /-- DIV (R220): Instruction DIV divides WACC by a word operand, setting ARITH_ERR on division by 0. -/
  | lgDiv (cell : Fin 64) (w : Word)
  /-- CMP (R220): Instruction CMP compares WACC with a word operand into ACC. -/
  | lgCmp (cell : Fin 64) (w : Word)
  /-- CVT (R220): Instruction CVT converts WACC between INT32 and FLOAT32. -/
  | lgCvt (cell : Fin 64) (w : Word)
  /-- ANDW (R220): Instruction ANDW ands a word operand into WACC. -/
  | lgAndw (cell : Fin 64) (w : Word)
  /-- ORW (R220): Instruction ORW ors a word operand into WACC. -/
  | lgOrw (cell : Fin 64) (w : Word)
  /-- XORW (R220): Instruction XORW xors a word operand into WACC. -/
  | lgXorw (cell : Fin 64) (w : Word)
  /-- JMP (R220): Instruction JMP jumps to TARGET. -/
  | lgJmp (cell : Fin 64) (w : Word)
  /-- JMPC (R220): Instruction JMPC jumps when ACC is 1. -/
  | lgJmpc (cell : Fin 64) (w : Word)
  /-- JMPCN (R220): Instruction JMPCN jumps when ACC is 0. -/
  | lgJmpcn (cell : Fin 64) (w : Word)
  /-- CALL (R220): Instruction CALL calls a subroutine. -/
  | lgCall (cell : Fin 64) (w : Word)
  /-- RET (R220): Instruction RET returns from a subroutine. -/
  | lgRet (cell : Fin 64) (w : Word)
  /-- END (R220): Instruction END ends the scan. -/
  | lgEnd (cell : Fin 64) (w : Word)
  /-- KEY_SAMPLE (R229): Every 1 ms the companion die samples both key pin pairs and updates agreement and BETWEEN. -/
  | keySample (a : Fin 4) (b : Fin 4)
  /-- DRAIN_COMPLETE (R257): A drain transfer completes, setting DRAINED and completing the command OK. -/
  | drainComplete (seg : Fin 65536)
  /-- DRAIN_FAIL (R257): A drain transfer fails and the command completes ABORTED. -/
  | drainFail (seg : Fin 65536)
  /-- RECORD_READY (R285): A closed record becomes READY for reading. -/
  | recordReady (unit : Fin 24)
  /-- ALIGN_FRAME (R282): A received ALIGN frame delivers an alignment request to subscribing units and is flooded on. -/
  | alignFrame (port : Fin 6) (f : LinkFrame)
  /-- CONVERSION_RESULT (R297): A conversion writes its result register and OVR and NEW bits 250 ns after its sampling instant. -/
  | conversionResult (conv : Fin 16) (lsb : Int) (full : List Nat)
  /-- ROTATION_BOUNDARY (R292): At every 16,000th base mark the calibrating core takes over logical converter NEXT unless the shadow comparison fails. -/
  | rotationBoundary (mean : Nat) (peak : Nat)
  /-- FULL_CAL_DONE (R292): An outgoing core completes its full calibration. -/
  | fullCalDone (good : Bool)
  /-- DAC_READBACK (R303): 2 µs after an update the channel compares output with code and counts readback faults. -/
  | dacReadback (ch : Fin 16) (err : Nat)
  /-- ENC_EDGE (R304): A qualified quadrature transition changes the count or sets ILLEGAL. -/
  | encEdge (ch : Fin 32) (a : Bool) (b : Bool)
  /-- ENC_INDEX_EDGE (R304): A rising Z edge captures the count into ENC_INDEX_n. -/
  | encIndexEdge (ch : Fin 32)
  /-- SSI_FRAME_START (R305): LEAD before a fast mark an SSI frame starts and latches the position. -/
  | ssiFrameStart (ch : Fin 32) (low : Bool)
  /-- SSI_FRAME_END (R305): A completed SSI frame updates the count or reports a fault. -/
  | ssiFrameEnd (ch : Fin 32) (data : Word) (par : Bool) (high : Bool)
  /-- ETH_FRAME_RX (R316): A received Ethernet frame is filtered, PRP duplicate-checked and passed to its handler. -/
  | ethFrameRx (port : Fin 6) (frame : List Byte)
  /-- ARP_REQUEST (R318): An ARP request for a port's IPv4 address is answered. -/
  | arpRequest (port : Fin 6) (ip : Word)
  /-- NEIGHBOR_SOLICITATION (R318): An IPv6 neighbour solicitation for the link-local address is answered. -/
  | neighborSolicitation (port : Fin 6) (addr : List Byte)
  /-- STATION_INPUT_FRAME (R324): An accepted station INPUT fragment writes its module values into the cut. -/
  | stationInputFrame (port : Fin 6) (data : List Byte)
  /-- STATION_FAST_INPUT (R326): An accepted fast INPUT frame is delivered to the axis at the next fast mark. -/
  | stationFastInput (port : Fin 6) (data : List Byte)
  /-- ADMIT_REQ (R328): A received ADMIT_REQ is held as the station's pending request. -/
  | admitReq (port : Fin 6) (data : List Byte)
  /-- LEAVE (R327): A LEAVE frame declares the station ABSENT at the next base mark. -/
  | leave (port : Fin 6) (data : List Byte)
  /-- IDENT_REREAD (R341): Every 1 s the Steward rereads local identity memories and applies mismatch policy. -/
  | identReread (reads : List (Nat × List Byte))
  /-- CAN_FRAME_RX (R334): A received CAN frame writes its bound words into the cut. -/
  | canFrameRx (bus : Fin 8) (id : Nat) (data : List Byte) (ago : Nat) (lost : Bool)
  /-- CAN_REFERENCE_RX (R336): A valid reference message starts a basic cycle or demotes a lower-priority master. -/
  | canReferenceRx (bus : Fin 8) (prio : Fin 8) (cycle : Fin 64)
  /-- CAN_REF_TIMEOUT (R336): No reference within the failover time makes a potential master send one, or a slave set REF_LOST. -/
  | canRefTimeout (bus : Fin 8)
  /-- CAN_WINDOW_START (R335): At the start of an exclusive window its transmit frame is assembled and sent. -/
  | canWindowStart (bus : Fin 8) (window : Nat) (won : Nat)
  /-- CAN_BUS_ERROR (R337): A bus error updates the error counts and may enter bus-off. -/
  | canBusError (bus : Fin 8) (dTec : Nat) (dRec : Nat)
  /-- CAN_BUSOFF_RECOVERY (R337): After 128 occurrences of 11 recessive bits the controller leaves bus-off. -/
  | canBusoffRecovery (bus : Fin 8)
  /-- LINK_TRAINING_DONE (R347): A Mboquel port completes training and begins HELLO exchange. -/
  | linkTrainingDone (port : Fin 6) (lanes : Fin 3)
  /-- HELLO (R347): A received HELLO gives the neighbour's identity and the link delay measurement. -/
  | hello (port : Fin 6) (f : LinkFrame)
  /-- LACK (R350): A received link acknowledge frees the frame from the replay buffer. -/
  | lack (port : Fin 6) (f : LinkFrame)
  /-- LACK_TIMEOUT (R350): A missing LACK after 1 µs, or a CRC failure, makes the sender repeat the frame. -/
  | lackTimeout (port : Fin 6) (lseq : Nat)
  /-- LINK_SILENCE (R350): Neither lane receiving a block for 2 µs puts the port DOWN. -/
  | linkSilence (port : Fin 6)
  /-- LANE_LOSS (R347): A failed lane leaves the port running on one lane, or in forerunner mode swaps in the spare lane. -/
  | laneLoss (port : Fin 6) (lane : Fin 2)
  /-- BEACON (R356): A received beacon disciplines LINK and is forwarded with its correction. -/
  | beacon (port : Fin 6) (f : LinkFrame)
  /-- LINK_STATE (R363): A received LINK_STATE makes the manager re-plan and send route tables. -/
  | linkState (port : Fin 6) (f : LinkFrame)
  /-- JOIN_REQ (R357): The manager answers a received JOIN_REQ with a JOIN_ACK status. -/
  | joinReq (port : Fin 6) (f : LinkFrame)
  /-- JOIN_ACK (R357): A received JOIN_ACK admits, refuses or defers the worker. -/
  | joinAck (port : Fin 6) (f : LinkFrame)
  /-- ROUTE_TABLE (R363): A received route table is held for its effect mark N_r. -/
  | routeTable (port : Fin 6) (f : LinkFrame)
  /-- SUBSCRIBE (R354): An exporter answers a received subscription with SUB_ACK. -/
  | subscribe (port : Fin 6) (f : LinkFrame)
  /-- SUB_ACK (R354): A received SUB_ACK accepts or refuses an importer's subscription. -/
  | subAck (port : Fin 6) (f : LinkFrame)
  /-- EXPORT (R359): A received EXPORT frame is accepted for its cut or discarded as late. -/
  | exportRx (port : Fin 6) (f : LinkFrame)
  /-- POINT_REQ (R360): A received POINT_REQ executes a point command for a remote originator. -/
  | pointReq (port : Fin 6) (f : LinkFrame)
  /-- POINT_RSP (R360): A received POINT_RSP completes the originating point command. -/
  | pointRsp (port : Fin 6) (f : LinkFrame)
  /-- HOST_FRAME (R360): A received HOST frame carries a relayed command, its data or its completion. -/
  | hostFrame (port : Fin 6) (f : LinkFrame)
  /-- VRET_FEED_LOW (R374): A VRET feed below 2.9 V is logged, and both low begin a freeze at the next base mark. -/
  | vretFeedLow (feed : Fin 2)
  /-- VRET_FEED_RESTORED (R374): A VRET feed rising above 3.0 V clears its low state. -/
  | vretFeedRestored (feed : Fin 2)
  /-- RENEW (R385): A received RENEW frame records the partner's renewal. -/
  | renew (f : LinkFrame)
  /-- MANIFEST (R388): A received MANIFEST is buffered for replay. -/
  | manifest (lseq : Nat) (m : Manifest)
  /-- CUT_CRC (R391): A received CUT_CRC is held for comparison with the replayed cut. -/
  | cutCrc (f : LinkFrame)
  /-- STATE (R392): A received STATE frame carries part of the alignment cut. -/
  | stateRx (lseq : Nat) (n : Nat) (off : Nat) (len : Nat) (cut : Option SealedCut)
  /-- HANDOVER (R394): A received HANDOVER frame names the mark h of a planned handover. -/
  | handover (f : LinkFrame)
  /-- STATUS (R383): A received STATUS frame reports the partner's pair state and digest. -/
  | status (f : LinkFrame)
  /-- SAFETY_STROBE (R404): Channel B issues a strobe every 50 µs and channel A checks its interval. -/
  | safetyStrobe (interval : Nat)
  /-- SAFETY_SAMPLE (R404): At each sample instant both channels latch inputs and evaluate pairs, functions and outputs. -/
  | safetySample (a : SafRaw) (b : SafRaw)
  /-- TEST_READBACK_CHECK (R413): At pulse start plus TP_WIDTH − 25 µs the readback is checked. -/
  | testReadbackCheck (out : Fin 12) (onA : Bool) (onB : Bool)
  /-- TEST_PULSE_END (R413): At pulse end the output returns to ON or enters FAULT. -/
  | testPulseEnd (out : Fin 12)
  /-- VSAFE_FEED_FAULT (R403): A safety feed leaving 3.0–3.6 V drives that channel's pins low and gives SAFETY_FAULT 0x05. -/
  | vsafeFeedFault (chanB : Bool)
  /-- MAIN_FAULT_SIGNAL (R415): A mapped main-die fault signal latches MAIN_DEMAND on the outputs that name it. -/
  | mainFaultSignal (m : MainSignal)
  /-- ISLAND_START (R421): At power-up of both feeds or an approved restart the island self-tests, selects its configuration and reaches sample 0. -/
  | islandStart (ramOk : Bool) (agree : Bool)
  /-- CONFIG_DIGEST_CHECK (R422): Every 10 s each channel recomputes the configuration digest. -/
  | configDigestCheck (ok : Bool)
  /-- SAF_CONFIG_WRITTEN (R426): After the Steward writes an approved set the channels check it and switch at the next compare sample, or abort. -/
  | safConfigWritten (agree : Bool)
  /-- ECC_UNCORRECTABLE (R434): An uncorrectable ECC error is handled by memory and reader, logged and latched. -/
  | eccUncorrectable (mem : Fin 7) (cell : Fin 64) (addr : BitVec 37) (r : EccReader)
  /-- SCRUB_STEP (R443): The background scrubber reads a word at rank 3 and writes back any correction. -/
  | scrubStep (mem : Fin 7) (cell : Fin 64) (addr : BitVec 37) (corrected : Bool) (passEnd : Bool)
  /-- MARCH_SEGMENT (R444): The march test borrows a segment, runs March C− and restores it. -/
  | marchSegment (mem : Fin 3) (cell : Fin 64) (bank : Fin 8) (seg : Fin 256) (e : MarchEnd) (memEnd : Bool) (passEnd : Bool)
  /-- DDR_REFRESH (R441): A DDR5 controller issues its periodic refresh. -/
  | ddrRefresh (ch : Fin 2)
  /-- BW_WINDOW_END (R452): At each window boundary a port's byte count is reported and PEAK updated. -/
  | bwWindowEnd (port : Fin 48) (bytes : Nat)
  /-- COMMAND_FETCH (R463): The ring engine fetches the command at HEAD when room and fences allow, and hands it to its executor. -/
  | commandFetch (ring : Fin 128) (hostBuf : List Byte)
  /-- FUNCTION_LEVEL_RESET (R459): A function-level or hot reset returns every ring to INIT and tears host clauses. -/
  | functionLevelReset (traffic : List FabEvent)
  /-- STEWARD_WATCHDOG (R471): A Steward that has not served its watchdog for 1 s is reset. -/
  | stewardWatchdog (traffic : List FabEvent)
  /-- CMD (R477): A received CMD datagram delivers command records to an Ethernet ring, or is dropped for backpressure. -/
  | cmd (port : Fin 6) (src : Word) (udp : BitVec 16) (data : List Byte)
  /-- DATA_IN (R478): A received DATA_IN datagram places input data in the ring's data area. -/
  | dataIn (port : Fin 6) (src : Word) (udp : BitVec 16) (data : List Byte)
  /-- ACK (R477): A received ACK acknowledges datagrams sent by the device. -/
  | ack (port : Fin 6) (src : Word) (udp : BitVec 16) (data : List Byte)
  /-- RESYNC (R478): A received RESYNC restarts both directions and the sequence number at 0. -/
  | resync (port : Fin 6) (src : Word) (udp : BitVec 16) (data : List Byte)
  /-- MAINTENANCE_DATAGRAM (R505): A datagram on the maintenance port carries SEC_STATUS, SEC_APPROVE or SEC_DBG_CLOSE in MAINTENANCE, or is dropped. -/
  | maintenanceDatagram (data : List Byte)
  /-- TAMPER_DETECT (R502): A tamper monitor detection sets LATCH, wipes the secure region, closes the gate and cancels a proposal. -/
  | tamperDetect (sensor : Fin 4) (onVbat : Bool)
  /-- DEVICE_CHANGE_COMMIT (R496): A verified second approval makes the proposed change in the system bank. -/
  | deviceChangeCommit (detecting : Bool)
  /-- REGULATOR_SETTLE_TIMEOUT (R512): No settled report within 5 ms sets PMB_FAULT. -/
  | regulatorSettleTimeout (e : PmbEnd)
  /-- PMBUS_SETTLE_POLL (R542): Every 200 µs after a setpoint write the engine reads READ_VOUT and STATUS_WORD. -/
  | pmbusSettlePoll (vout : BitVec 16) (status : BitVec 16) (e : PmbEnd)
  /-- PMBUS_TELEMETRY_POLL (R543): Every 10 ms the engine reads VOUT, IOUT and temperature. -/
  | pmbusTelemetryPoll (vout : BitVec 16) (iout : BitVec 16) (temp : BitVec 8) (e : PmbEnd)
  /-- PMB_ALERT (R543): A falling PMB_ALERT_N makes the engine read and clear the regulator's faults. -/
  | pmbAlert (status : BitVec 16) (e : PmbEnd)
  /-- PMBUS_BOOT_READ (R541): After reset release the engine reads VOUT_MODE and READ_VOUT and writes VSET. -/
  | pmbusBootRead (mode : BitVec 8) (vout : BitVec 16) (e : PmbEnd)
  /-- RETENTION_SWITCH (R538): The retention domain switches between the VRET feeds and VBAT. -/
  | retentionSwitch (toVbat : Bool) (lost : Bool)
  /-- VBAT_SAMPLE (R551): Every 1 s the running main die samples VBAT and sets VBAT_LOW. -/
  | vbatSample (low : Bool)
  /-- TJ_SAMPLE (R554): Every 1 ms the die sensors update TJ_MAX, setting HOT and starting a measurement on a 5 °C change. -/
  | tjSample (tj : BitVec 8)
  /-- PERST_N_ASSERT (R545): Assertion of the PERST_N pin resets the host interface only, returning every ring to INIT as R459 gives. -/
  | perstNAssert (traffic : List FabEvent)
  /-- MSIX_VECTOR_UNMASK (R472): A host write that unmasks an MSI-X vector whose pending bit is set sends the pending message. -/
  | msixVectorUnmask (vec : Fin 144)
  /-- ACQ_READ_COMPLETE (R290): The transfer of an acquisition record to the host buffer ends, and ACQ_READ completes OK or ABORTED. -/
  | acqReadComplete (unit : Fin 24) (ok : Bool)
  /-- CHANNEL_FEED_RETURN (R421): When only one safety channel's feed returns after being cycled, that channel starts and joins the other in SAFETY_FAULT. -/
  | channelFeedReturn (chanB : Bool)
  /-- ISLAND_MEMORY_TEST (R420): Each safety channel's background RAM march and program-memory CRC advances, giving SAFETY_FAULT 0x04 on a failure within 8 s per pass. -/
  | islandMemoryTest (ok : Bool)
  /-- ETH_LINK_CHANGE (R343): An Ethernet port's link comes up or goes down, updating ETH_PORT_CFG_p.LINK and SPEED. -/
  | ethLinkChange (port : Fin 6) (speed : Fin 4)
  /-- HST_CUT_WRITE (R256): A write of 1 to HST_CTL.CUT seals the filling segment at the next base mark. -/
  | hstCutWrite
  /-- SNAPSHOT_FREEZE_WRITE (R449): A write of CTR_SNAP_CTL.FREEZE captures all counters into the snapshot registers, or sets DROPPED while BUSY. -/
  | snapshotFreezeWrite
  /-- SNAPSHOT_COMPLETE (R449): When all 1,024 snapshot values are in place, BUSY clears and SEQ rises by 1. -/
  | snapshotComplete
  /-- CONF_CLR_WRITE (R446): A write of MEM_CONF_CLR.CLR clears every arbiter conflict counter at the next base mark. -/
  | confClrWrite
  /-- SEC_CARRY (R90): When NS reaches 1,000,000,000 SEC advances, the retention seconds count is written and PPS outputs rise. -/
  | secCarry
  /-- MAIN_POWER_ON_RESET (R537): A main-die rail falling below its threshold for 1 µs puts the main die into reset with cause power-on. -/
  | mainPowerOnReset
  /-- PORST_N_ASSERT (R545): PORST_N held low for 10 µs resets the main die, abandoning any flush in progress. -/
  | porstNAssert
  /-- PLL_LOCK (R93): At the first tick after PLL lock D, the domains and run time start and the first base mark occurs. -/
  | pllLock
  /-- REF_CLOCK_LOST (R93): TNS_REF absent for more than 4 µs makes the PLL hold frequency and sets REF_LOST. -/
  | refClockLost
  /-- REF_CLOCK_RETURN (R93): The returning reference makes the PLL relock without a phase step and clears REF_LOST. -/
  | refClockReturn
  /-- FIRMWARE_START (R485): The boot ROM verifies a firmware slot and starts it, or stays in ROM with RECOVERY set. -/
  | firmwareStart
  /-- PCIE_FUNCTION_READY (R458): The PCIe function stops answering with retry status and every ring reports READY. -/
  | pcieFunctionReady
  /-- SPLICE_TIMEOUT (R61): SPLICE_TIMEOUT passing without a mark at which every changed flow is between steps ends the commit with TIMEOUT. -/
  | spliceTimeout
  /-- MEASUREMENT_COMPLETE (R69): At the end of the eighth cycle each cell's budget B(c) is set and the certificate is re-checked against it. -/
  | measurementComplete
  /-- PERIODIC_MEASUREMENT (R509): Every 80,000 run cycles a tell-tale measurement is requested. -/
  | periodicMeasurement
  /-- KEY_DISCREPANCY (R230): BETWEEN lasting 200 ms sets DISC and logs the discrepancy. -/
  | keyDiscrepancy
  /-- QUICK_CAL_DONE (R292): The quick calibration of all cores completes and READY sets. -/
  | quickCalDone
  /-- VANA_LOW (R535): VANA below 4.5 V holds converters, DACs and encoders in reset and makes their points ABSENT. -/
  | vanaLow
  /-- VANA_RETURN (R535): VANA above 4.6 V restarts the quick calibration. -/
  | vanaReturn
  /-- STARTUP_FILTER_END (R316): 500 ms after reset release the start-up filter ends on all ports. -/
  | startupFilterEnd
  /-- ARP_REFRESH (R318): Every 60 s each next-hop entry is refreshed, and a stale entry expires after 3 s unanswered. -/
  | arpRefresh
  /-- ADMISSION_WINDOW (R329): At base marks with N mod 80 = 0 up to 32 pending requests are compared and admitted or refused. -/
  | admissionWindow
  /-- BEACON_SEND (R355): The manager floods a BEACON at each base mark with N mod 8 = 0. -/
  | beaconSend
  /-- LINK_LOSS (R364): No beacon for 3 ms makes LINK not OK and a joined worker ISOLATED. -/
  | linkLoss
  /-- JOIN_REQ_SEND (R357): A worker sends a JOIN_REQ in its beacon slot. -/
  | joinReqSend
  /-- JOIN_RETRY (R357): No JOIN_ACK within 2 ms, or 1 s after a refusal, makes the worker retry. -/
  | joinRetry
  /-- FRAGMENT_SET_TIMEOUT (R351): An incomplete fragment set 1 ms after its first fragment is discarded. -/
  | fragmentSetTimeout
  /-- BACKGROUND_CHECKPOINT (R373): Every 10 s of run time the sealed cut becomes the hold plane and is written to MRAM. -/
  | backgroundCheckpoint
  /-- CKPT_WRITE_DONE (R372): A checkpoint write completes with COMMIT written last. -/
  | ckptWriteDone
  /-- FLUSH_DONE (R375): The power-fail flush writes its COMMIT and the recorder appends follow. -/
  | flushDone
  /-- POWER_RETURN (R377): Both feeds above 3.0 V for 10 ms after a flush make an internal reset and warm restart. -/
  | powerReturn
  /-- LEASE_RENEW (R384): The lease holder toggles LEASE_OUT and sends RENEW at base marks with N mod 80 = 0. -/
  | leaseRenew
  /-- LEASE_IN_TOGGLE (R385): A toggle of LEASE_IN marks the partner's renewal, or sets DUAL on a holder. -/
  | leaseInToggle
  /-- LEASE_EXPIRY (R384): 50 ms after the last renewal the holder's lease ends and it releases the gated outputs. -/
  | leaseExpiry
  /-- LEASE_TAKE (R385): A non-holder seeing no toggle and no RENEW for 52 ms takes the lease. -/
  | leaseTake
  /-- LISTEN_END (R385): At the end of the listen time a unit becomes ACTIVE or ALIGNING. -/
  | listenEnd
  /-- MANIFEST_LOSS (R393): A manifest missing by mark k + 2 makes the standby go LIVE after its held manifests. -/
  | manifestLoss
  /-- STATUS_SEND (R383): Every 100 ms a paired unit sends STATUS. -/
  | statusSend
  /-- HANDOVER_EXERCISE (R395): Every 1 h the active runs a planned handover or defers it. -/
  | handoverExercise
  /-- COMPARE_BLOCK_TIMEOUT (R417): A compare block not received within 100 µs gives SAFETY_FAULT 0x03. -/
  | compareBlockTimeout
  /-- MAIN_HEARTBEAT (R415): Every 1 ms the main die sends a heartbeat and its active fault signals to the island. -/
  | mainHeartbeat
  /-- HEARTBEAT_LOSS (R415): 10 ms without a heartbeat latches MAIN_DEMAND where MAIN_LOSS is set. -/
  | heartbeatLoss
  /-- SAF_PROPOSAL_EXPIRY (R425): A safety proposal expires 600 s after acceptance and is logged. -/
  | safProposalExpiry
  /-- PASSWORD_LOCKOUT_END (R424): 10 minutes after lockout password commands are accepted again. -/
  | passwordLockoutEnd
  /-- STEWARD_TAKE_COMMAND (R469): The Steward takes a waiting command in round-robin order over the rings. -/
  | stewardTakeCommand
  /-- STEWARD_RESTARTED (R471): The Steward resumes serving, and interrupted commands complete ABORTED or TORN. -/
  | stewardRestarted
  /-- DEBUG_GATE_TIMEOUT (R503): The approved minutes of run time ending close the debug gate. -/
  | debugGateTimeout
  /-- SEC_PROPOSAL_EXPIRY (R497): A device proposal expires 600 s after acceptance. -/
  | secProposalExpiry
  /-- REGULATOR_SETTLED (R542): Two readings within ±10 mV complete the raise and start a measurement. -/
  | regulatorSettled
  /-- LOWER_HOLD_EXPIRY (R513): 1 h after a failed lowering LOWER_HOLD clears. -/
  | lowerHoldExpiry
  /-- MARGIN_PROBE_DUE (R518): Every 24 h of run time a margin probe runs. -/
  | marginProbeDue
  /-- SWAP_IN_COPY_DONE (R521): In forerunner mode a finished SRAM copy swaps the spare physical cell in at the next mark. -/
  | swapInCopyDone
  /-- OP_SECOND (R524): Each second of operating time advances OP_SEC and OP_HOURS. -/
  | opSecond
  /-- RECORDER_APPEND (R528): Within 1 ms of COUNT reaching a power of two the code's summary is appended to the log. -/
  | recorderAppend
  /-- RECORDER_EPOCH (R528): At each epoch boundary every changed summary is appended. -/
  | recorderEpoch
  /-- CHANNEL_B_CLOCK_FAULT (R28): Channel B's clock stops, leaves 99–101 MHz or its PLL loses lock, and the island enters SAFETY_FAULT with cause 0x02. -/
  | channelBClockFault
  /-- COMPANION_BRIDGE_ERROR (R387): A companion-bridge transfer error is latched, and on a paired active it is self-diagnosis cause 0x05. -/
  | companionBridgeError
deriving DecidableEq, Repr

end Sys2Proof
end

