-- ==== Sys2Proof/Decode.lean ====
section
/-! DEFINITION. The command that a word of the table of operations spells. The table gives no row any bits: commands reach the block as bus accesses, pin events, frames and records, and the record of a ring command is decoded where the ring engine fetches it. -/

namespace Sys2Proof

/-- The command that an instruction word spells; no row of the table has a word (log entry 2). -/
def decodeTableWord (_nbits _w : Nat) : Option Instr := none

end Sys2Proof
end

