-- ==== Sys2Proof/Config.lean ====
section
/-! DEFINITION. What an implementation fixes and the spec leaves open: opaque free values with no body, applied to a counter of State so that each use is fresh. -/

namespace Sys2Proof.Config

/-- Sign and payload bits of a NaN result (bits 31 and 21:0), by operation and operand patterns; IEEE 754 leaves them open (R17, log entry 6). -/
opaque nanBits : Nat → Nat → Nat → BitVec 32

/-- Bytes drawn from the on-die random source (R424, R490, R491), by draw number (log entry 7). -/
opaque randomByte : Nat → BitVec 8

/-- A signature by the device's own private key, a 384-byte number, by draw number (R490, R492; log entry 7). -/
opaque deviceSignature : Nat → BitVec 3072

/-- The modulus of a generated device key, by draw number (R490; log entry 7). -/
opaque deviceModulus : Nat → BitVec 3072

/-- DIE_SERIAL, 16 bytes written at manufacture, byte 0 in bits 7:0 (R482, log entry 7). -/
opaque dieSerial : BitVec 128

/-- ROOT_HASH_0 and ROOT_HASH_1, written at manufacture, byte 0 in bits 7:0 (R482, log entry 7). -/
opaque rootHash : Fin 2 → BitVec 256

/-- The fixed 16-byte label of an island restart proposal, whose bytes the spec does not state (R425, log entry 22). -/
opaque restartLabel : BitVec 128

/-- Whether a changed cell's new configuration fits into its free SRAM beside the old one, by role code and the bytes of the old and new sections, where the spec gives no areas (R59, log entry 23). -/
opaque sramFits : Nat → Nat → Nat → Bool

/-- A tell-tale's count of a cycle that no row carries, by use and tell-tale (R69, log entry 10). -/
opaque tellTale : Nat → Nat → Nat

/-- PCRC of a cell's plane: the bytes of role state within a plane are not laid out by the spec (R371, log entry 20). -/
opaque planeCrc : Machine.Plane → BitVec 32

/-- CRC of a checkpoint bank, over planes whose bytes the spec does not lay out (R371, log entry 20). -/
opaque bankCrc : Machine.Bank → BitVec 32

/-- A word of cell SRAM or of a seal buffer that the debug port reads, by use and address, where the spec does not lay the bytes out (R504, log entry 25). -/
opaque sramWord : Nat → Nat → BitVec 32

end Sys2Proof.Config
end

