-- ==== Sys2Proof/Machine/Bits.lean ====
section
/-! DEFINITION. Bit, byte and table helpers: sparse tables with strictly rising keys, little-endian byte lists (R1), bit fields of a natural number. -/

namespace Sys2Proof

/-- The entry of a sparse table at a key, if listed. -/
def Tab.look {α : Type} : Tab α → Nat → Option α
  | [], _ => none
  | (k, v) :: t, a => if k = a then some v else Tab.look t a

/-- The entry of a sparse table at a key, or the default. -/
def Tab.at' {α : Type} (t : Tab α) (a : Nat) (d : α) : α :=
  match t.look a with
  | some v => v
  | none => d

/-- A sparse table without a key. -/
def Tab.drop' {α : Type} : Tab α → Nat → Tab α
  | [], _ => []
  | (k, v) :: t, a => if k = a then Tab.drop' t a else (k, v) :: Tab.drop' t a

/-- A sparse table with a key set; keys stay strictly rising. -/
def Tab.put {α : Type} : Tab α → Nat → α → Tab α
  | [], a, x => [(a, x)]
  | (k, v) :: t, a, x =>
    if k = a then (a, x) :: t
    else if a < k then (a, x) :: (k, v) :: t
    else (k, v) :: Tab.put t a x

/-- A sparse table with a key set in canonical form: a value equal to the default of unlisted keys is not listed. -/
def Tab.store {α : Type} [DecidableEq α] (d : α) (t : Tab α) (a : Nat) (x : α) : Tab α :=
  if x = d then t.drop' a else t.put a x

/-- A sparse table with one entry changed by a function. -/
def Tab.upd {α : Type} (t : Tab α) (a : Nat) (d : α) (f : α → α) : Tab α :=
  t.put a (f (t.at' a d))

/-- The keys of a sparse table rise strictly from a bound. -/
def Tab.sortedFrom {α : Type} : Nat → Tab α → Bool
  | _, [] => true
  | b, (k, _) :: t => decide (b ≤ k) && Tab.sortedFrom (k + 1) t

/-- The canonical form of a sparse table with a default: keys strictly rising, no entry equal to the default. -/
def Tab.wf {α : Type} [DecidableEq α] (d : α) (t : Tab α) : Bool :=
  t.sortedFrom 0 && t.all (fun e => decide (e.2 ≠ d))

/-- The field hi:lo of a number. -/
def bitsOf (x hi lo : Nat) : Nat := (x / 2 ^ lo) % 2 ^ (hi + 1 - lo)

/-- A number with the field hi:lo replaced; a value wider than the field loses its high bits. -/
def setBits (x hi lo v : Nat) : Nat :=
  x - bitsOf x hi lo * 2 ^ lo + (v % 2 ^ (hi + 1 - lo)) * 2 ^ lo

/-- Bit i of a number. -/
def bitOf (x i : Nat) : Bool := (x / 2 ^ i) % 2 = 1

/-- 1 for true. -/
def b2n (b : Bool) : Nat := if b then 1 else 0

/-- The number a little-endian byte list spells (R1). -/
def leNat : List Byte → Nat
  | [] => 0
  | b :: t => b.toNat + 256 * leNat t

/-- The n little-endian bytes of a number (R1). -/
def leBytes : Nat → Nat → List Byte
  | 0, _ => []
  | n + 1, x => BitVec.ofNat 8 x :: leBytes n (x / 256)

/-- The n big-endian bytes of a number. -/
def beBytes (n x : Nat) : List Byte := (leBytes n x).reverse

/-- The number a big-endian byte list spells. -/
def beNat (l : List Byte) : Nat := leNat l.reverse

/-- n bytes of a list from an offset; absent bytes are 0. -/
def slice (l : List Byte) (off n : Nat) : List Byte :=
  let r := (l.drop off).take n
  r ++ List.replicate (n - r.length) 0

/-- The little-endian field of n bytes at an offset of a record. -/
def fieldLE (l : List Byte) (off n : Nat) : Nat := leNat (slice l off n)

/-- The 32-bit word at an offset of a record. -/
def wordLE (l : List Byte) (off : Nat) : Word := BitVec.ofNat 32 (fieldLE l off 4)

/-- The signed value of the low n bits. -/
def signed (n x : Nat) : Int :=
  let y := x % 2 ^ n
  if y < 2 ^ (n - 1) then (y : Int) else (y : Int) - (2 ^ n : Nat)

/-- The n-bit two's complement pattern of an integer. -/
def twos (n : Nat) (x : Int) : Nat := (x % ((2 ^ n : Nat) : Int)).toNat

/-- A list with its i-th element changed. -/
def modAt {α : Type} (f : α → α) : List α → Nat → List α
  | [], _ => []
  | a :: t, 0 => f a :: t
  | a :: t, n + 1 => a :: modAt f t n

/-- The little-endian bytes of a list of words. -/
def wordsBytes (l : List Word) : List Byte := (l.map (fun w => leBytes 4 w.toNat)).flatten

/-- The little-endian words of a byte list. -/
def bytesWords (n : Nat) (l : List Byte) : List Word := (List.range n).map (fun i => wordLE l (4 * i))

/-- Whether a list has no repeats. -/
def distinct {α : Type} [DecidableEq α] : List α → Bool
  | [] => true
  | a :: t => decide (a ∉ t) && distinct t

/-- Whether a list of numbers ascends strictly. -/
def ascending : List Nat → Bool
  | [] => true
  | [_] => true
  | a :: b :: t => decide (a < b) && ascending (b :: t)

/-- The first element that satisfies a test, with its position. -/
def findIdx' {α : Type} (p : α → Bool) : List α → Nat → Option (Nat × α)
  | [], _ => none
  | a :: t, n => if p a then some (n, a) else findIdx' p t (n + 1)

/-- Fold over the numbers 0 to n − 1, lowest first. -/
def forN {α : Type} : Nat → (Nat → α → α) → α → α
  | 0, _, a => a
  | n + 1, f, a => f n (forN n f a)

/-- Fold over a list from its first element, the state last. -/
def forL {β α : Type} (l : List β) (f : β → α → α) (a : α) : α := l.foldl (fun s x => f x s) a

/-- The quotient rounded up. -/
def ceilDiv (a b : Nat) : Nat := (a + b - 1) / b

end Sys2Proof
end

