-- ==== Sys2Proof/Machine/Float.lean ====
section
/-! DEFINITION. IEEE 754 binary32 and binary64 arithmetic, rounded to nearest with ties to even (R17): a value is unpacked to a sign, an integer significand and a power of two, the exact result is formed, and one rounding packs it. -/

namespace Sys2Proof

/-- A floating-point format: its precision with the hidden bit and its least exponent. -/
structure Fmt where
  /-- Significand bits, the hidden bit included. -/
  p : Nat
  /-- Minus the exponent of the least subnormal. -/
  emin : Nat
  /-- Exponent field bits. -/
  eb : Nat
deriving DecidableEq, Repr

/-- binary32. -/
def fmt32 : Fmt := ⟨24, 149, 8⟩

/-- binary64. -/
def fmt64 : Fmt := ⟨53, 1074, 11⟩

/-- A number read from a pattern: finite with value (−1)^neg × m × 2^e. -/
inductive FVal where
  | nan
  | inf (neg : Bool)
  | fin (neg : Bool) (m : Nat) (e : Int)
deriving DecidableEq, Repr

/-- The number a pattern stands for. -/
def Fmt.unpack (f : Fmt) (x : Nat) : FVal :=
  let fr := x % 2 ^ (f.p - 1)
  let ex := (x / 2 ^ (f.p - 1)) % 2 ^ f.eb
  let neg := decide ((x / 2 ^ (f.p - 1 + f.eb)) % 2 = 1)
  if ex = 2 ^ f.eb - 1 then (if fr = 0 then .inf neg else .nan)
  else if ex = 0 then .fin neg fr (-(f.emin : Int))
  else .fin neg (fr + 2 ^ (f.p - 1)) ((ex : Int) - 1 - f.emin)

/-- The sign bit of a pattern. -/
def Fmt.signBit (f : Fmt) (neg : Bool) : Nat := if neg then 2 ^ (f.p - 1 + f.eb) else 0

/-- The pattern of infinity. -/
def Fmt.infBits (f : Fmt) : Nat := (2 ^ f.eb - 1) * 2 ^ (f.p - 1)

/-- The pattern of a NaN result: quiet, its sign and payload free, by operation (0 conversion, 1 sum, 2 product, 3 quotient, 4 and 5 roots) and operands (log entry 6). -/
def Fmt.nanPat (f : Fmt) (op x y : Nat) : Nat :=
  let c := (Sys2Proof.Config.nanBits op x y).toNat
  f.signBit (bitOf c 31) + f.infBits + 2 ^ (f.p - 2) + c % 2 ^ 22

/-- The pattern nearest to m × 2^e, ties to even; `sticky` says that the exact value lies strictly above by less than one unit of m. -/
def Fmt.round (f : Fmt) (neg : Bool) (m : Nat) (e : Int) (sticky : Bool) : Nat :=
  if m = 0 then f.signBit neg
  else
    let len : Int := (Nat.log2 m : Int) + 1
    let q := max (e + len - f.p) (-(f.emin : Int))
    let r :=
      if q ≤ e then m * 2 ^ (e - q).toNat
      else
        let sh := (q - e).toNat
        let r := m / 2 ^ sh
        let rem := m % 2 ^ sh
        let half := 2 ^ (sh - 1)
        if half < rem || (rem = half && (sticky || r % 2 = 1)) then r + 1 else r
    let bits := (q + f.emin).toNat * 2 ^ (f.p - 1) + r
    f.signBit neg + (if f.infBits ≤ bits then f.infBits else bits)

/-- The pattern of a value already exact. -/
def Fmt.pack (f : Fmt) : FVal → Nat
  | .nan => f.nanPat 0 0 0
  | .inf neg => f.signBit neg + f.infBits
  | .fin neg m e => f.round neg m e false

/-- The signed integer significands of two values at the smaller of their exponents. -/
def alignInt (na : Bool) (ma : Nat) (ea : Int) (nb : Bool) (mb : Nat) (eb : Int) : Int × Int × Int :=
  let e := min ea eb
  let a : Int := (ma * 2 ^ (ea - e).toNat : Nat)
  let b : Int := (mb * 2 ^ (eb - e).toNat : Nat)
  (if na then -a else a, if nb then -b else b, e)

/-- Sum. -/
def Fmt.add (f : Fmt) (x y : Nat) : Nat :=
  match f.unpack x, f.unpack y with
  | .nan, _ => f.nanPat 1 x y
  | _, .nan => f.nanPat 1 x y
  | .inf a, .inf b => if a = b then f.signBit a + f.infBits else f.nanPat 1 x y
  | .inf a, _ => f.signBit a + f.infBits
  | _, .inf b => f.signBit b + f.infBits
  | .fin na ma ea, .fin nb mb eb =>
    let (a, b, e) := alignInt na ma ea nb mb eb
    let c := a + b
    if c = 0 then f.signBit (na && nb) else f.round (decide (c < 0)) c.natAbs e false

/-- The pattern with the sign changed. -/
def Fmt.neg (f : Fmt) (x : Nat) : Nat :=
  let s := 2 ^ (f.p - 1 + f.eb)
  if (x / s) % 2 = 1 then x - s else x + s

/-- Product. -/
def Fmt.mul (f : Fmt) (x y : Nat) : Nat :=
  match f.unpack x, f.unpack y with
  | .nan, _ => f.nanPat 2 x y
  | _, .nan => f.nanPat 2 x y
  | .inf a, .inf b => f.signBit (a != b) + f.infBits
  | .inf a, .fin b m _ => if m = 0 then f.nanPat 2 x y else f.signBit (a != b) + f.infBits
  | .fin a m _, .inf b => if m = 0 then f.nanPat 2 x y else f.signBit (a != b) + f.infBits
  | .fin na ma ea, .fin nb mb eb => f.round (na != nb) (ma * mb) (ea + eb) false

/-- Quotient. -/
def Fmt.div (f : Fmt) (x y : Nat) : Nat :=
  match f.unpack x, f.unpack y with
  | .nan, _ => f.nanPat 3 x y
  | _, .nan => f.nanPat 3 x y
  | .inf _, .inf _ => f.nanPat 3 x y
  | .inf a, .fin b _ _ => f.signBit (a != b) + f.infBits
  | .fin a _ _, .inf b => f.signBit (a != b)
  | .fin na ma ea, .fin nb mb eb =>
    if mb = 0 then (if ma = 0 then f.nanPat 3 x y else f.signBit (na != nb) + f.infBits)
    else
      let sh := 2 * f.p + 2
      let n := ma * 2 ^ sh
      f.round (na != nb) (n / mb) (ea - eb - sh) (decide (n % mb ≠ 0))

/-- Integer root by bits: the largest r below 2^n with r^k ≤ x. -/
def rootBits (k x : Nat) : Nat → Nat → Nat
  | 0, r => r
  | n + 1, r =>
    let c := r + 2 ^ n
    if c ^ k ≤ x then rootBits k x n c else rootBits k x n r

/-- The integer square root. -/
def isqrt (x : Nat) : Nat := rootBits 2 x (Nat.log2 x / 2 + 1) 0

/-- Square root. -/
def Fmt.sqrt (f : Fmt) (x : Nat) : Nat :=
  match f.unpack x with
  | .nan => f.nanPat 4 x 0
  | .inf neg => if neg then f.nanPat 4 x 0 else f.infBits
  | .fin neg m e =>
    if m = 0 then f.signBit neg
    else if neg then f.nanPat 4 x 0
    else
      let sh := 2 * f.p + 4 + (if (e % 2 = 0) then 0 else 1)
      let n := m * 2 ^ sh
      let r := isqrt n
      f.round false r ((e - sh) / 2) (decide (r * r ≠ n))

/-- Cube root of a value, rounded once. -/
def Fmt.cbrt (f : Fmt) (x : Nat) : Nat :=
  match f.unpack x with
  | .nan => f.nanPat 5 x 0
  | .inf neg => f.signBit neg + f.infBits
  | .fin neg m e =>
    if m = 0 then f.signBit neg
    else
      let sh := 3 * f.p + ((e - 3 * f.p) % 3).toNat
      let n := m * 2 ^ sh
      let r := rootBits 3 n (Nat.log2 n / 3 + 1) 0
      f.round neg r ((e - sh) / 3) (decide (r * r * r ≠ n))

/-- Order of two patterns: none when either is a NaN. -/
def Fmt.cmp (f : Fmt) (x y : Nat) : Option Ordering :=
  match f.unpack x, f.unpack y with
  | .nan, _ => none
  | _, .nan => none
  | .inf a, .inf b => some (if a = b then .eq else if a then .lt else .gt)
  | .inf a, .fin _ _ _ => some (if a then .lt else .gt)
  | .fin _ _ _, .inf b => some (if b then .gt else .lt)
  | .fin na ma ea, .fin nb mb eb =>
    let (a, b, _) := alignInt na ma ea nb mb eb
    some (if a < b then .lt else if a = b then .eq else .gt)

/-- Whether a pattern is neither a NaN nor an infinity. -/
def Fmt.finite (f : Fmt) (x : Nat) : Bool :=
  match f.unpack x with
  | .fin _ _ _ => true
  | _ => false

/-- The pattern nearest to the rational n / d, d positive. -/
def Fmt.ofRat (f : Fmt) (n : Int) (d : Nat) : Nat :=
  let sh := 2 * f.p + 2 + Nat.log2 (d + 1)
  let m := n.natAbs * 2 ^ sh
  f.round (decide (n < 0)) (m / d) (-(sh : Int)) (decide (m % d ≠ 0))

/-- A finite value as a rational (numerator, denominator); 0 for a NaN or an infinity. -/
def Fmt.toRat (f : Fmt) (x : Nat) : Int × Nat :=
  match f.unpack x with
  | .fin neg m e =>
    let s : Int := if neg then -1 else 1
    if 0 ≤ e then (s * ((m * 2 ^ e.toNat : Nat) : Int), 1) else (s * (m : Int), 2 ^ (-e).toNat)
  | _ => (0, 1)

/-- The integer part of a finite value, toward zero. -/
def Fmt.trunc (f : Fmt) (x : Nat) : Int :=
  let (n, d) := f.toRat x
  Int.tdiv n d

/-- The largest integer not above a finite value. -/
def Fmt.floor (f : Fmt) (x : Nat) : Int :=
  let (n, d) := f.toRat x
  Int.fdiv n d

/-- The integer nearest to a rational, ties to even. -/
def ratRound (n : Int) (d : Nat) : Int :=
  let q := Int.fdiv n d
  let r := n - q * d
  if 2 * r < d then q else if 2 * r = d then (if q % 2 = 0 then q else q + 1) else q + 1

/-- The integer nearest to a finite value, ties to even. -/
def Fmt.nearest (f : Fmt) (x : Nat) : Int :=
  let (n, d) := f.toRat x
  ratRound n d

/-- binary32 sum (R17). -/
def F32.add (x y : F32) : F32 := BitVec.ofNat 32 (fmt32.add x.toNat y.toNat)
/-- binary32 negation. -/
def F32.neg (x : F32) : F32 := BitVec.ofNat 32 (fmt32.neg x.toNat)
/-- binary32 difference. -/
def F32.sub (x y : F32) : F32 := F32.add x (F32.neg y)
/-- binary32 product. -/
def F32.mul (x y : F32) : F32 := BitVec.ofNat 32 (fmt32.mul x.toNat y.toNat)
/-- binary32 quotient. -/
def F32.div (x y : F32) : F32 := BitVec.ofNat 32 (fmt32.div x.toNat y.toNat)
/-- binary32 square root. -/
def F32.sqrt (x : F32) : F32 := BitVec.ofNat 32 (fmt32.sqrt x.toNat)
/-- binary32 cube root. -/
def F32.cbrt (x : F32) : F32 := BitVec.ofNat 32 (fmt32.cbrt x.toNat)
/-- x < y. -/
def F32.lt (x y : F32) : Bool := fmt32.cmp x.toNat y.toNat == some .lt
/-- x ≤ y. -/
def F32.le (x y : F32) : Bool := match fmt32.cmp x.toNat y.toNat with | some .gt => false | none => false | _ => true
/-- x = y as numbers. -/
def F32.eq (x y : F32) : Bool := fmt32.cmp x.toNat y.toNat == some .eq
/-- Neither a NaN nor an infinity. -/
def F32.fin (x : F32) : Bool := fmt32.finite x.toNat
/-- A NaN. -/
def F32.isNan (x : F32) : Bool := fmt32.unpack x.toNat == .nan
/-- Magnitude. -/
def F32.abs (x : F32) : F32 := x &&& 0x7FFFFFFF#32
/-- The smaller of two. -/
def F32.min (x y : F32) : F32 := if F32.lt y x then y else x
/-- The larger of two. -/
def F32.max (x y : F32) : F32 := if F32.lt x y then y else x
/-- x held within lo and hi. -/
def F32.clamp (x lo hi : F32) : F32 := F32.min (F32.max x lo) hi
/-- The nearest binary32 value to an integer. -/
def F32.ofInt (x : Int) : F32 := BitVec.ofNat 32 (fmt32.ofRat x 1)
/-- The nearest binary32 value to n / d. -/
def F32.ofRat (n : Int) (d : Nat) : F32 := BitVec.ofNat 32 (fmt32.ofRat n d)
/-- 0.0. -/
def F32.zero : F32 := 0#32
/-- 1.0. -/
def F32.one : F32 := 0x3F800000#32
/-- Sign: −1.0, 0.0 or 1.0. -/
def F32.sgn (x : F32) : F32 := if F32.lt F32.zero x then F32.one else if F32.lt x F32.zero then 0xBF800000#32 else F32.zero

/-- binary64 sum. -/
def F64.add (x y : F64) : F64 := BitVec.ofNat 64 (fmt64.add x.toNat y.toNat)
/-- binary64 negation. -/
def F64.neg (x : F64) : F64 := BitVec.ofNat 64 (fmt64.neg x.toNat)
/-- binary64 difference. -/
def F64.sub (x y : F64) : F64 := F64.add x (F64.neg y)
/-- binary64 product. -/
def F64.mul (x y : F64) : F64 := BitVec.ofNat 64 (fmt64.mul x.toNat y.toNat)
/-- binary64 quotient. -/
def F64.div (x y : F64) : F64 := BitVec.ofNat 64 (fmt64.div x.toNat y.toNat)
/-- binary64 square root. -/
def F64.sqrt (x : F64) : F64 := BitVec.ofNat 64 (fmt64.sqrt x.toNat)
/-- x < y. -/
def F64.lt (x y : F64) : Bool := fmt64.cmp x.toNat y.toNat == some .lt
/-- x ≤ y. -/
def F64.le (x y : F64) : Bool := match fmt64.cmp x.toNat y.toNat with | some .gt => false | none => false | _ => true
/-- The smaller of two. -/
def F64.min (x y : F64) : F64 := if F64.lt y x then y else x
/-- The larger of two. -/
def F64.max (x y : F64) : F64 := if F64.lt x y then y else x
/-- The nearest binary64 value to an integer. -/
def F64.ofInt (x : Int) : F64 := BitVec.ofNat 64 (fmt64.ofRat x 1)
/-- The nearest binary64 value to n / d. -/
def F64.ofRat (n : Int) (d : Nat) : F64 := BitVec.ofNat 64 (fmt64.ofRat n d)
/-- A binary32 value in binary64, exact. -/
def F64.of32 (x : F32) : F64 := BitVec.ofNat 64 (fmt64.pack (fmt32.unpack x.toNat))
/-- Positive zero. -/
def F64.zero : F64 := 0#64
/-- A binary64 value rounded to binary32. -/
def F32.of64 (x : F64) : F32 := BitVec.ofNat 32 (fmt32.pack (fmt64.unpack x.toNat))
/-- Neither a NaN nor an infinity. -/
def F64.fin (x : F64) : Bool := fmt64.finite x.toNat

/-- An INT32 pattern from an integer, held at the ends of its range. -/
def satInt32 (x : Int) : Word :=
  BitVec.ofNat 32 (twos 32 (max (-2147483648) (min 2147483647 x)))

/-- A binary32 value rounded to the nearest INT32, ties to even, saturating, an infinity too; none for a NaN. -/
def F32.toInt32 (x : F32) : Option Word :=
  match fmt32.unpack x.toNat with
  | .nan => none
  | .inf neg => some (satInt32 (if neg then -2147483648 else 2147483647))
  | .fin _ _ _ => some (satInt32 (fmt32.nearest x.toNat))


end Sys2Proof
end

