-- ==== Sys2Proof/Machine/RegDesc.lean ====
section
/-! DEFINITION. What a register description holds: base offset, index steps and counts, and its fields with access code and power-on value (R2 to R6, R578). -/

namespace Sys2Proof.Machine

/-- The access code of a field (R5). -/
inductive Access where
  /-- Read only. -/
  | ro
  /-- Read and write. -/
  | rw
  /-- Write only, reads 0. -/
  | wo
  /-- Write 1 to clear. -/
  | w1c
  /-- Write 1 to set. -/
  | w1s
  /-- Writable only under a completed two-party approval (R8). -/
  | rwa
  /-- Writable only with the key in RUN-PROGRAM or MAINTENANCE (R9). -/
  | rwk
deriving DecidableEq, Repr

/-- One field of a register: high bit, low bit, access code, power-on value (R4). -/
structure FieldDesc where
  hi : Nat
  lo : Nat
  acc : Access
  reset : Nat
deriving DecidableEq, Repr

/-- A register or an indexed group of registers: BAR0 offset of the first instance, the (step, count) pairs of its indices, its fields. Bits no field covers are reserved (R3). -/
structure RegDesc where
  base : Nat
  dims : List (Nat × Nat)
  fields : List FieldDesc
deriving DecidableEq, Repr

/-- A named field of a register: the register, its high and its low bit. -/
structure Fld where
  reg : RegDesc
  hi : Nat
  lo : Nat
deriving DecidableEq, Repr

end Sys2Proof.Machine
end

