-- ==== Sys2Proof/Machine/RegTable.lean ====
section
/-! DEFINITION. The register table: every BAR0 register of the register index (R578, 23_address_map.md), its offset, its index steps and its fields with access code and power-on value, one definition a register, written from the field tables of the chapters named beside each. A power-on value the spec gives as loaded at boot stands here as 0 (log entry 3); a value that depends on the index stands in RegDesc.resetOf. -/

namespace Sys2Proof.Machine.Reg
open Access

/-- GLB_PART_ID (R33, 01_architecture.md). -/
def GLB_PART_ID : RegDesc := ⟨0x0, [], [⟨31, 16, ro, 0x4830⟩, ⟨15, 8, ro, 2⟩, ⟨7, 0, ro, 1⟩]⟩
/-- GLB_ROLE (R34, 01_architecture.md). -/
def GLB_ROLE : RegDesc := ⟨0x4, [], [⟨15, 8, ro, 0⟩, ⟨2, 1, ro, 0⟩, ⟨0, 0, ro, 0⟩]⟩
/-- GLB_CELL_ROLE_n (R34, 01_architecture.md). -/
def GLB_CELL_ROLE : RegDesc := ⟨0x10, [(0x4, 4)], [⟨31, 30, ro, 0⟩, ⟨29, 28, ro, 0⟩, ⟨27, 26, ro, 0⟩, ⟨25, 24, ro, 0⟩, ⟨23, 22, ro, 0⟩, ⟨21, 20, ro, 0⟩, ⟨19, 18, ro, 0⟩, ⟨17, 16, ro, 0⟩, ⟨15, 14, ro, 0⟩, ⟨13, 12, ro, 0⟩, ⟨11, 10, ro, 0⟩, ⟨9, 8, ro, 0⟩, ⟨7, 6, ro, 0⟩, ⟨5, 4, ro, 0⟩, ⟨3, 2, ro, 0⟩, ⟨1, 0, ro, 0⟩]⟩
/-- GLB_IMG_STATUS (R64, 02_syntax_image.md). -/
def GLB_IMG_STATUS : RegDesc := ⟨0x100, [], [⟨19, 16, ro, 0⟩, ⟨11, 11, ro, 0⟩, ⟨10, 10, ro, 0⟩, ⟨9, 8, ro, 0⟩, ⟨0, 0, ro, 0⟩]⟩
/-- GLB_IMG_REJECT (R64, 02_syntax_image.md). -/
def GLB_IMG_REJECT : RegDesc := ⟨0x104, [], [⟨31, 16, ro, 0⟩, ⟨15, 0, ro, 0⟩]⟩
/-- GLB_IMG_SERIAL (R64, 02_syntax_image.md). -/
def GLB_IMG_SERIAL : RegDesc := ⟨0x108, [], [⟨31, 0, ro, 0⟩]⟩
/-- GLB_IMG_SERIAL_FLOOR (R64, 02_syntax_image.md). -/
def GLB_IMG_SERIAL_FLOOR : RegDesc := ⟨0x10c, [], [⟨31, 0, rwa, 0⟩]⟩
/-- GLB_CERT_STATUS (R64, 02_syntax_image.md). -/
def GLB_CERT_STATUS : RegDesc := ⟨0x110, [], [⟨31, 30, ro, 0⟩, ⟨29, 24, ro, 0⟩, ⟨15, 0, ro, 0⟩]⟩
/-- GLB_IMG_DIGEST_n (R64, 02_syntax_image.md). -/
def GLB_IMG_DIGEST : RegDesc := ⟨0x120, [(0x4, 8)], [⟨31, 0, ro, 0⟩]⟩
/-- GLB_SPLICE_MARK_LO (R64, 02_syntax_image.md). -/
def GLB_SPLICE_MARK_LO : RegDesc := ⟨0x140, [], [⟨31, 0, ro, 0⟩]⟩
/-- GLB_SPLICE_MARK_HI (R64, 02_syntax_image.md). -/
def GLB_SPLICE_MARK_HI : RegDesc := ⟨0x144, [], [⟨31, 0, ro, 0⟩]⟩
/-- GLB_PT_FORCE (R130, 05_points.md). -/
def GLB_PT_FORCE : RegDesc := ⟨0x200, [], [⟨11, 11, w1c, 0⟩, ⟨10, 0, ro, 0⟩]⟩
/-- GLB_KEY (R239, 09_logic_cells.md). -/
def GLB_KEY : RegDesc := ⟨0x300, [], [⟨7, 7, w1c, 0⟩, ⟨6, 6, ro, 0⟩, ⟨5, 4, ro, 0⟩, ⟨3, 2, ro, 0⟩, ⟨1, 0, ro, 0⟩]⟩
/-- GLB_IDENT_MIS_m (R343, 13_field_buses_and_stations.md). -/
def GLB_IDENT_MIS : RegDesc := ⟨0x400, [(0x4, 2)], [⟨31, 0, ro, 0⟩]⟩
/-- GLB_PAIR (R399, 15_redundancy_and_restart.md). -/
def GLB_PAIR : RegDesc := ⟨0x500, [], [⟨31, 29, ro, 0⟩, ⟨28, 28, ro, 0⟩, ⟨27, 27, ro, 0⟩, ⟨26, 26, w1c, 0⟩, ⟨25, 25, w1c, 0⟩, ⟨24, 24, w1c, 0⟩, ⟨23, 23, ro, 0⟩, ⟨22, 22, ro, 0⟩, ⟨20, 18, ro, 0⟩, ⟨17, 16, ro, 0⟩, ⟨15, 8, ro, 0⟩]⟩
/-- GLB_PAIR_REPLAY (R399, 15_redundancy_and_restart.md). -/
def GLB_PAIR_REPLAY : RegDesc := ⟨0x504, [], [⟨31, 16, ro, 0⟩, ⟨5, 0, ro, 0⟩]⟩
/-- GLB_PAIR_XCHK (R399, 15_redundancy_and_restart.md). -/
def GLB_PAIR_XCHK : RegDesc := ⟨0x508, [], [⟨31, 16, ro, 0⟩, ⟨6, 6, ro, 0⟩, ⟨5, 0, ro, 0⟩]⟩
/-- GLB_PAIR_EXER (R399, 15_redundancy_and_restart.md). -/
def GLB_PAIR_EXER : RegDesc := ⟨0x50c, [], [⟨31, 0, ro, 0⟩]⟩
/-- GLB_MODE (R572, 22_mode_matrix.md). -/
def GLB_MODE : RegDesc := ⟨0x600, [], [⟨31, 29, ro, 0⟩, ⟨28, 26, ro, 0⟩, ⟨25, 24, ro, 0⟩, ⟨23, 22, ro, 1⟩, ⟨21, 20, ro, 0⟩, ⟨19, 19, ro, 0⟩, ⟨18, 18, ro, 0⟩, ⟨17, 17, ro, 0⟩, ⟨16, 16, ro, 0⟩, ⟨15, 15, ro, 0⟩]⟩
/-- TNS_CTL (R112, 04_tense_unit_and_time.md). -/
def TNS_CTL : RegDesc := ⟨0x100000, [], [⟨24, 16, rw, 0x64⟩, ⟨4, 4, rw, 1⟩, ⟨1, 0, rw, 0⟩]⟩
/-- TNS_STATUS (R112, 04_tense_unit_and_time.md). -/
def TNS_STATUS : RegDesc := ⟨0x100004, [], [⟨31, 30, ro, 0⟩, ⟨29, 29, ro, 0⟩, ⟨28, 28, ro, 0⟩, ⟨27, 27, ro, 0⟩, ⟨26, 26, ro, 0⟩, ⟨25, 25, ro, 0⟩, ⟨24, 24, ro, 0⟩, ⟨23, 23, ro, 0⟩, ⟨19, 19, ro, 0⟩, ⟨18, 18, w1c, 0⟩, ⟨17, 17, w1c, 0⟩, ⟨16, 16, w1c, 0⟩]⟩
/-- TNS_NS (R112, 04_tense_unit_and_time.md). -/
def TNS_NS : RegDesc := ⟨0x100010, [], [⟨29, 0, ro, 0⟩]⟩
/-- TNS_SEC_LO (R112, 04_tense_unit_and_time.md). -/
def TNS_SEC_LO : RegDesc := ⟨0x100014, [], [⟨31, 0, ro, 0⟩]⟩
/-- TNS_SEC_HI (R112, 04_tense_unit_and_time.md). -/
def TNS_SEC_HI : RegDesc := ⟨0x100018, [], [⟨15, 0, ro, 0⟩]⟩
/-- TNS_RUN_LO (R112, 04_tense_unit_and_time.md). -/
def TNS_RUN_LO : RegDesc := ⟨0x10001c, [], [⟨31, 0, ro, 0⟩]⟩
/-- TNS_RUN_HI (R112, 04_tense_unit_and_time.md). -/
def TNS_RUN_HI : RegDesc := ⟨0x100020, [], [⟨31, 0, ro, 0⟩]⟩
/-- TNS_STAMP32 (R112, 04_tense_unit_and_time.md). -/
def TNS_STAMP32 : RegDesc := ⟨0x100024, [], [⟨31, 0, ro, 0⟩]⟩
/-- TNS_CYCLE_LO (R112, 04_tense_unit_and_time.md). -/
def TNS_CYCLE_LO : RegDesc := ⟨0x100028, [], [⟨31, 0, ro, 0⟩]⟩
/-- TNS_CYCLE_HI (R112, 04_tense_unit_and_time.md). -/
def TNS_CYCLE_HI : RegDesc := ⟨0x10002c, [], [⟨31, 0, ro, 0⟩]⟩
/-- TNS_x_INCR_LO (R112, 04_tense_unit_and_time.md). -/
def TNS_X_INCR_LO : RegDesc := ⟨0x100040, [(0x20, 2)], [⟨31, 0, rw, 0⟩]⟩
/-- TNS_x_INCR_HI (R112, 04_tense_unit_and_time.md). -/
def TNS_X_INCR_HI : RegDesc := ⟨0x100044, [(0x20, 2)], [⟨1, 0, rw, 2⟩]⟩
/-- TNS_x_NS (R112, 04_tense_unit_and_time.md). -/
def TNS_X_NS : RegDesc := ⟨0x100048, [(0x20, 2)], [⟨29, 0, ro, 0⟩]⟩
/-- TNS_x_SEC_LO (R112, 04_tense_unit_and_time.md). -/
def TNS_X_SEC_LO : RegDesc := ⟨0x10004c, [(0x20, 2)], [⟨31, 0, ro, 0⟩]⟩
/-- TNS_x_SEC_HI (R112, 04_tense_unit_and_time.md). -/
def TNS_X_SEC_HI : RegDesc := ⟨0x100050, [(0x20, 2)], [⟨15, 0, ro, 0⟩]⟩
/-- TNS_x_ADJ_SEC (R112, 04_tense_unit_and_time.md). -/
def TNS_X_ADJ_SEC : RegDesc := ⟨0x100054, [(0x20, 2)], [⟨31, 0, rw, 0⟩]⟩
/-- TNS_x_ADJ_NS (R112, 04_tense_unit_and_time.md). -/
def TNS_X_ADJ_NS : RegDesc := ⟨0x100058, [(0x20, 2)], [⟨31, 0, rw, 0⟩]⟩
/-- TNS_x_CTL (R112, 04_tense_unit_and_time.md). -/
def TNS_X_CTL : RegDesc := ⟨0x10005c, [(0x20, 2)], [⟨23, 16, rw, 0⟩, ⟨15, 8, rw, 0x1e⟩, ⟨1, 1, rw, 0⟩, ⟨0, 0, wo, 0⟩]⟩
/-- TNS_TIO_CFG_n (R112, 04_tense_unit_and_time.md). -/
def TNS_TIO_CFG : RegDesc := ⟨0x100100, [(0x10, 8)], [⟨31, 16, rw, 1⟩, ⟨11, 9, rw, 0⟩, ⟨8, 8, w1c, 0⟩, ⟨7, 7, w1c, 0⟩, ⟨6, 6, ro, 0⟩, ⟨2, 0, rw, 0⟩]⟩
/-- TNS_TIO_NS_n (R112, 04_tense_unit_and_time.md). -/
def TNS_TIO_NS : RegDesc := ⟨0x100104, [(0x10, 8)], [⟨29, 0, rw, 0⟩]⟩
/-- TNS_TIO_SEC_n (R112, 04_tense_unit_and_time.md). -/
def TNS_TIO_SEC : RegDesc := ⟨0x100108, [(0x10, 8)], [⟨31, 0, rw, 0⟩]⟩
/-- RNG_CTL_r (R480, 18_host_interface.md). -/
def RNG_CTL : RegDesc := ⟨0x200000, [(0x1000, 128)], [⟨8, 8, rwa, 0⟩, ⟨0, 0, rw, 1⟩]⟩
/-- RNG_STAT_r (R480, 18_host_interface.md). -/
def RNG_STAT : RegDesc := ⟨0x200004, [(0x1000, 128)], [⟨31, 30, ro, 0⟩, ⟨29, 29, ro, 0⟩, ⟨28, 28, w1c, 0⟩, ⟨6, 0, ro, 0⟩]⟩
/-- RNG_CMD_TAIL_r (R480, 18_host_interface.md). -/
def RNG_CMD_TAIL : RegDesc := ⟨0x200008, [(0x1000, 128)], [⟨15, 0, rw, 0⟩]⟩
/-- RNG_CMD_HEAD_r (R480, 18_host_interface.md). -/
def RNG_CMD_HEAD : RegDesc := ⟨0x20000c, [(0x1000, 128)], [⟨15, 0, ro, 0⟩]⟩
/-- RNG_CPL_TAIL_r (R480, 18_host_interface.md). -/
def RNG_CPL_TAIL : RegDesc := ⟨0x200010, [(0x1000, 128)], [⟨15, 0, ro, 0⟩]⟩
/-- RNG_CPL_HEAD_r (R480, 18_host_interface.md). -/
def RNG_CPL_HEAD : RegDesc := ⟨0x200014, [(0x1000, 128)], [⟨15, 0, rw, 0⟩]⟩
/-- RNG_SEQ_r (R480, 18_host_interface.md). -/
def RNG_SEQ : RegDesc := ⟨0x200018, [(0x1000, 128)], [⟨31, 25, ro, 0⟩, ⟨24, 0, ro, 0⟩]⟩
/-- RNG_IRQ_CFG_r (R480, 18_host_interface.md). -/
def RNG_IRQ_CFG : RegDesc := ⟨0x20001c, [(0x1000, 128)], [⟨31, 31, rw, 0⟩, ⟨23, 16, rw, 1⟩, ⟨15, 0, rw, 0⟩]⟩
/-- RNG_DEV_CAUSE (R480, 18_host_interface.md). -/
def RNG_DEV_CAUSE : RegDesc := ⟨0x280000, [], [⟨15, 0, w1c, 0⟩]⟩
/-- RNG_DEV_MASK (R480, 18_host_interface.md). -/
def RNG_DEV_MASK : RegDesc := ⟨0x280004, [], [⟨15, 0, rw, 0⟩]⟩
/-- RNG_GLB_STAT (R480, 18_host_interface.md). -/
def RNG_GLB_STAT : RegDesc := ⟨0x280008, [], [⟨31, 31, ro, 0⟩, ⟨15, 0, ro, 0⟩]⟩
/-- RNG_ETH_PEER (R480, 18_host_interface.md). -/
def RNG_ETH_PEER : RegDesc := ⟨0x280010, [], [⟨31, 0, rwa, 0⟩]⟩
/-- RNG_ETH_CFG (R480, 18_host_interface.md). -/
def RNG_ETH_CFG : RegDesc := ⟨0x280014, [], [⟨19, 16, rwa, 0⟩, ⟨15, 0, rwa, 0⟩]⟩
/-- RNG_VEC_STAMP_LO_v (R480, 18_host_interface.md). -/
def RNG_VEC_STAMP_LO : RegDesc := ⟨0x2e0000, [(0x8, 144)], [⟨31, 0, ro, 0⟩]⟩
/-- RNG_VEC_STAMP_HI_v (R480, 18_host_interface.md). -/
def RNG_VEC_STAMP_HI : RegDesc := ⟨0x2e0004, [(0x8, 144)], [⟨31, 0, ro, 0⟩]⟩
/-- CEL_STATUS (R88, 03_fabric_and_arbitration.md). -/
def CEL_STATUS : RegDesc := ⟨0x800000, [(0x10000, 64)], [⟨31, 30, ro, 0⟩, ⟨25, 24, ro, 0⟩, ⟨23, 22, ro, 0⟩, ⟨21, 21, w1c, 0⟩, ⟨20, 20, ro, 0⟩, ⟨17, 16, ro, 0⟩]⟩
/-- CEL_CTL (R88, 03_fabric_and_arbitration.md). -/
def CEL_CTL : RegDesc := ⟨0x800004, [(0x10000, 64)], [⟨1, 1, wo, 0⟩, ⟨0, 0, rwk, 0⟩]⟩
/-- CEL_CERT_BASE (R64, 02_syntax_image.md). -/
def CEL_CERT_BASE : RegDesc := ⟨0x800040, [(0x10000, 64)], [⟨19, 0, ro, 0⟩]⟩
/-- CEL_CERT_LIMIT (R64, 02_syntax_image.md). -/
def CEL_CERT_LIMIT : RegDesc := ⟨0x800044, [(0x10000, 64)], [⟨19, 0, ro, 0⟩]⟩
/-- CEL_CERT_FAST (R64, 02_syntax_image.md). -/
def CEL_CERT_FAST : RegDesc := ⟨0x800048, [(0x10000, 64)], [⟨19, 0, ro, 0⟩]⟩
/-- CEL_CERT_FLIM (R64, 02_syntax_image.md). -/
def CEL_CERT_FLIM : RegDesc := ⟨0x80004c, [(0x10000, 64)], [⟨19, 0, ro, 0⟩]⟩
/-- CEL_BUDGET (R88, 03_fabric_and_arbitration.md). -/
def CEL_BUDGET : RegDesc := ⟨0x800050, [(0x10000, 64)], [⟨23, 23, ro, 0⟩, ⟨22, 21, ro, 0⟩, ⟨19, 0, ro, 0⟩]⟩
/-- CEL_STEP_USED (R88, 03_fabric_and_arbitration.md). -/
def CEL_STEP_USED : RegDesc := ⟨0x800054, [(0x10000, 64)], [⟨19, 0, ro, 0⟩]⟩
/-- CEL_STEP_PEAK (R88, 03_fabric_and_arbitration.md). -/
def CEL_STEP_PEAK : RegDesc := ⟨0x800058, [(0x10000, 64)], [⟨19, 0, ro, 0⟩]⟩
/-- CEL_WAIT_PEAK (R88, 03_fabric_and_arbitration.md). -/
def CEL_WAIT_PEAK : RegDesc := ⟨0x80005c, [(0x10000, 64)], [⟨19, 0, ro, 0⟩]⟩
/-- CEL_TT_k (R88, 03_fabric_and_arbitration.md). -/
def CEL_TT : RegDesc := ⟨0x800060, [(0x10000, 64), (0x4, 4)], [⟨19, 0, ro, 0⟩]⟩
/-- CEL_OVR_LAST (R88, 03_fabric_and_arbitration.md). -/
def CEL_OVR_LAST : RegDesc := ⟨0x800070, [(0x10000, 64)], [⟨31, 0, ro, 0⟩]⟩
/-- CEL_TORN_ADDR (R88, 03_fabric_and_arbitration.md). -/
def CEL_TORN_ADDR : RegDesc := ⟨0x800074, [(0x10000, 64)], [⟨20, 0, ro, 0⟩]⟩
/-- CEL_TORN_SRC (R88, 03_fabric_and_arbitration.md). -/
def CEL_TORN_SRC : RegDesc := ⟨0x800078, [(0x10000, 64)], [⟨7, 0, ro, 0⟩]⟩
/-- CEL_CONF_b_m (R454, 17_memory_and_counters.md). -/
def CEL_CONF : RegDesc := ⟨0x800080, [(0x10000, 64), (0x20, 3), (0x4, 5)], [⟨31, 0, ro, 0⟩]⟩
/-- CEL_LOOP_SUM (R159, 06_loop_cells.md). -/
def CEL_LOOP_SUM : RegDesc := ⟨0x800100, [(0x10000, 64)], [⟨31, 31, ro, 0⟩, ⟨30, 30, ro, 0⟩, ⟨29, 29, ro, 0⟩, ⟨28, 28, ro, 0⟩, ⟨24, 16, ro, 0⟩, ⟨8, 0, ro, 0⟩]⟩
/-- CEL_TRACE_SUM (R159, 06_loop_cells.md). -/
def CEL_TRACE_SUM : RegDesc := ⟨0x800104, [(0x10000, 64)], [⟨27, 19, ro, 0⟩, ⟨18, 0, ro, 0⟩]⟩
/-- CEL_LOOP_MANHOLD_m (R185, 07_motion_and_transfer.md). -/
def CEL_LOOP_MANHOLD : RegDesc := ⟨0x800140, [(0x10000, 64), (0x4, 8)], [⟨31, 0, ro, 0⟩]⟩
/-- CEL_LOOP_TRACK_m (R185, 07_motion_and_transfer.md). -/
def CEL_LOOP_TRACK : RegDesc := ⟨0x800160, [(0x10000, 64), (0x4, 8)], [⟨31, 0, ro, 0⟩]⟩
/-- CEL_SEQ_SUM (R210, 08_recipe_sequencer.md). -/
def CEL_SEQ_SUM : RegDesc := ⟨0x800180, [(0x10000, 64)], [⟨31, 31, ro, 0⟩, ⟨30, 30, ro, 0⟩, ⟨21, 11, ro, 0⟩, ⟨10, 0, ro, 0⟩]⟩
/-- CEL_SEQ_RES (R210, 08_recipe_sequencer.md). -/
def CEL_SEQ_RES : RegDesc := ⟨0x800184, [(0x10000, 64)], [⟨19, 11, ro, 0⟩, ⟨10, 0, ro, 0⟩]⟩
/-- CEL_SEQ_TMR (R210, 08_recipe_sequencer.md). -/
def CEL_SEQ_TMR : RegDesc := ⟨0x800188, [(0x10000, 64)], [⟨12, 0, ro, 0⟩]⟩
/-- CEL_SEQ_DISP (R210, 08_recipe_sequencer.md). -/
def CEL_SEQ_DISP : RegDesc := ⟨0x80018c, [(0x10000, 64)], [⟨28, 16, ro, 0⟩, ⟨12, 0, ro, 0⟩]⟩
/-- CEL_SEQ_LATE (R210, 08_recipe_sequencer.md). -/
def CEL_SEQ_LATE : RegDesc := ⟨0x800190, [(0x10000, 64)], [⟨31, 0, ro, 0⟩]⟩
/-- CEL_LOGIC_SUM (R240, 09_logic_cells.md). -/
def CEL_LOGIC_SUM : RegDesc := ⟨0x8001c0, [(0x10000, 64)], [⟨31, 31, ro, 0⟩, ⟨30, 30, ro, 0⟩, ⟨29, 29, ro, 0⟩, ⟨14, 8, ro, 0⟩, ⟨6, 0, ro, 0⟩]⟩
/-- CEL_LOGIC_CODE (R240, 09_logic_cells.md). -/
def CEL_LOGIC_CODE : RegDesc := ⟨0x8001c4, [(0x10000, 64)], [⟨18, 0, ro, 0⟩]⟩
/-- CEL_TASK_STAT_t (R240, 09_logic_cells.md). -/
def CEL_TASK_STAT : RegDesc := ⟨0x800200, [(0x10000, 64), (0x4, 64)], [⟨31, 31, ro, 0⟩, ⟨30, 30, ro, 0⟩, ⟨29, 29, ro, 0⟩, ⟨28, 28, w1c, 0⟩, ⟨27, 27, ro, 0⟩, ⟨26, 26, ro, 0⟩, ⟨9, 0, ro, 0⟩]⟩
/-- CEL_LOOP_STAT_k (R159, 06_loop_cells.md). -/
def CEL_LOOP_STAT : RegDesc := ⟨0x800400, [(0x10000, 64), (0x4, 256)], [⟨15, 15, ro, 0⟩, ⟨14, 14, ro, 0⟩, ⟨13, 12, ro, 0⟩, ⟨11, 11, ro, 0⟩, ⟨10, 10, ro, 0⟩, ⟨9, 9, ro, 0⟩, ⟨8, 8, ro, 0⟩, ⟨7, 7, ro, 0⟩, ⟨6, 6, ro, 0⟩, ⟨5, 5, ro, 0⟩, ⟨4, 4, w1c, 0⟩, ⟨3, 3, w1c, 0⟩, ⟨2, 2, ro, 0⟩, ⟨1, 0, ro, 0⟩]⟩
/-- CEL_AXIS_STAT_a (R185, 07_motion_and_transfer.md). -/
def CEL_AXIS_STAT : RegDesc := ⟨0x800800, [(0x10000, 64), (0x4, 32)], [⟨31, 31, ro, 0⟩, ⟨30, 28, ro, 0⟩, ⟨27, 26, ro, 0⟩, ⟨25, 25, ro, 0⟩, ⟨24, 24, ro, 0⟩, ⟨23, 23, ro, 0⟩, ⟨22, 22, ro, 0⟩, ⟨21, 21, w1c, 0⟩, ⟨15, 15, ro, 0⟩, ⟨14, 14, ro, 0⟩, ⟨13, 13, ro, 0⟩, ⟨12, 12, ro, 0⟩, ⟨11, 11, ro, 0⟩, ⟨10, 10, ro, 0⟩, ⟨2, 0, ro, 0⟩]⟩
/-- CEL_PG_STAT_g (R185, 07_motion_and_transfer.md). -/
def CEL_PG_STAT : RegDesc := ⟨0x800880, [(0x10000, 64), (0x4, 8)], [⟨31, 31, ro, 0⟩, ⟨30, 29, ro, 0⟩, ⟨28, 28, ro, 0⟩, ⟨27, 27, ro, 0⟩, ⟨26, 26, w1c, 0⟩, ⟨25, 25, ro, 0⟩, ⟨24, 24, ro, 0⟩, ⟨2, 0, ro, 0⟩]⟩
/-- CEL_FLOW_STAT_f (R210, 08_recipe_sequencer.md). -/
def CEL_FLOW_STAT : RegDesc := ⟨0x801000, [(0x10000, 64), (0x4, 1024)], [⟨31, 31, ro, 0⟩, ⟨30, 28, ro, 0⟩, ⟨27, 27, w1c, 0⟩, ⟨26, 26, w1c, 0⟩, ⟨25, 25, w1c, 0⟩, ⟨24, 24, w1c, 0⟩, ⟨23, 23, ro, 0⟩, ⟨22, 22, ro, 0⟩, ⟨15, 0, ro, 0xffff⟩]⟩
/-- ADC_ROT (R311, 12_converters.md). -/
def ADC_ROT : RegDesc := ⟨0xc00000, [], [⟨31, 31, ro, 0⟩, ⟨30, 30, w1c, 0⟩, ⟨29, 29, ro, 0⟩, ⟨24, 20, ro, 0x10⟩, ⟨19, 16, ro, 0⟩]⟩
/-- ADC_CORE (R311, 12_converters.md). -/
def ADC_CORE : RegDesc := ⟨0xc00004, [], [⟨16, 0, ro, 0⟩]⟩
/-- ADC_CORE_FULL (R311, 12_converters.md). -/
def ADC_CORE_FULL : RegDesc := ⟨0xc00008, [], [⟨16, 0, ro, 0⟩]⟩
/-- ADC_MAP_m (R311, 12_converters.md). -/
def ADC_MAP : RegDesc := ⟨0xc00010, [(0x4, 4)], [⟨28, 24, ro, 0⟩, ⟨20, 16, ro, 0⟩, ⟨12, 8, ro, 0⟩, ⟨4, 0, ro, 0⟩]⟩
/-- ADC_SEQ_CTL_c (R311, 12_converters.md). -/
def ADC_SEQ_CTL : RegDesc := ⟨0xc00100, [(0x100, 16)], [⟨31, 31, ro, 0⟩, ⟨24, 20, ro, 0⟩, ⟨18, 16, ro, 0⟩, ⟨0, 0, rw, 0⟩]⟩
/-- ADC_OVR_c (R311, 12_converters.md). -/
def ADC_OVR : RegDesc := ⟨0xc00104, [(0x100, 16)], [⟨31, 0, ro, 0⟩]⟩
/-- ADC_NEW_c (R311, 12_converters.md). -/
def ADC_NEW : RegDesc := ⟨0xc00108, [(0x100, 16)], [⟨31, 0, w1c, 0⟩]⟩
/-- ADC_RES_STAT_c (R311, 12_converters.md). -/
def ADC_RES_STAT : RegDesc := ⟨0xc0010c, [(0x100, 16)], [⟨31, 31, ro, 0⟩, ⟨30, 30, ro, 0⟩, ⟨4, 0, ro, 0⟩]⟩
/-- ADC_URG_CTL_c (R311, 12_converters.md). -/
def ADC_URG_CTL : RegDesc := ⟨0xc00110, [(0x100, 16)], [⟨31, 31, wo, 0⟩, ⟨30, 30, ro, 0⟩, ⟨29, 29, ro, 0⟩, ⟨28, 28, w1c, 0⟩, ⟨27, 27, w1c, 0⟩, ⟨3, 0, ro, 0⟩]⟩
/-- ADC_URG_STAMP_c (R311, 12_converters.md). -/
def ADC_URG_STAMP : RegDesc := ⟨0xc00114, [(0x100, 16)], [⟨31, 0, ro, 0⟩]⟩
/-- ADC_URES_c_i (R311, 12_converters.md). -/
def ADC_URES : RegDesc := ⟨0xc00120, [(0x100, 16), (0x4, 4)], [⟨31, 0, ro, 0⟩]⟩
/-- ADC_RES_c_e (R311, 12_converters.md). -/
def ADC_RES : RegDesc := ⟨0xc00180, [(0x100, 16), (0x4, 32)], [⟨31, 0, ro, 0⟩]⟩
/-- DAC_STAT_d (R311, 12_converters.md). -/
def DAC_STAT : RegDesc := ⟨0xc02000, [(0x8, 16)], [⟨31, 31, ro, 0⟩, ⟨30, 30, ro, 0⟩, ⟨29, 29, ro, 0⟩, ⟨28, 28, w1c, 0⟩, ⟨27, 27, w1c, 0⟩, ⟨15, 0, ro, 0⟩]⟩
/-- DAC_SRC_d (R311, 12_converters.md). -/
def DAC_SRC : RegDesc := ⟨0xc02004, [(0x8, 16)], [⟨31, 0, ro, 0⟩]⟩
/-- ENC_STAT_n (R311, 12_converters.md). -/
def ENC_STAT : RegDesc := ⟨0xc03000, [(0x10, 32)], [⟨31, 30, ro, 0⟩, ⟨29, 29, ro, 0⟩, ⟨28, 28, w1c, 0⟩, ⟨27, 27, w1c, 0⟩, ⟨26, 26, w1c, 0⟩, ⟨25, 25, ro, 0⟩, ⟨24, 24, ro, 0⟩]⟩
/-- ENC_COUNT_n (R311, 12_converters.md). -/
def ENC_COUNT : RegDesc := ⟨0xc03004, [(0x10, 32)], [⟨31, 0, ro, 0⟩]⟩
/-- ENC_INDEX_n (R311, 12_converters.md). -/
def ENC_INDEX : RegDesc := ⟨0xc03008, [(0x10, 32)], [⟨31, 0, ro, 0⟩]⟩
/-- ENC_RAW_n (R311, 12_converters.md). -/
def ENC_RAW : RegDesc := ⟨0xc0300c, [(0x10, 32)], [⟨31, 0, ro, 0⟩]⟩
/-- ACQ_ARMED (R288, 11_acquisition.md). -/
def ACQ_ARMED : RegDesc := ⟨0xd00000, [], [⟨23, 0, ro, 0⟩]⟩
/-- ACQ_OVF (R288, 11_acquisition.md). -/
def ACQ_OVF : RegDesc := ⟨0xd00004, [], [⟨23, 0, w1c, 0⟩]⟩
/-- ACQ_GROUP_g (R288, 11_acquisition.md). -/
def ACQ_GROUP : RegDesc := ⟨0xd00010, [(0x4, 8)], [⟨28, 24, ro, 0⟩, ⟨23, 0, ro, 0⟩]⟩
/-- ACQ_STAT_u (R288, 11_acquisition.md). -/
def ACQ_STAT : RegDesc := ⟨0xd00100, [(0x20, 24)], [⟨31, 29, ro, 0⟩, ⟨28, 28, ro, 0⟩, ⟨27, 27, ro, 0⟩, ⟨26, 26, ro, 0⟩, ⟨25, 25, ro, 0⟩, ⟨24, 22, ro, 0⟩, ⟨7, 0, ro, 0⟩]⟩
/-- ACQ_FILL_u (R288, 11_acquisition.md). -/
def ACQ_FILL : RegDesc := ⟨0xd00104, [(0x20, 24)], [⟨20, 0, ro, 0⟩]⟩
/-- ACQ_IGN_u (R288, 11_acquisition.md). -/
def ACQ_IGN : RegDesc := ⟨0xd00108, [(0x20, 24)], [⟨31, 0, ro, 0⟩]⟩
/-- ACQ_REC_u (R288, 11_acquisition.md). -/
def ACQ_REC : RegDesc := ⟨0xd0010c, [(0x20, 24)], [⟨31, 0, ro, 0⟩]⟩
/-- ACQ_BUF_u (R288, 11_acquisition.md). -/
def ACQ_BUF : RegDesc := ⟨0xd00110, [(0x20, 24)], [⟨28, 16, ro, 0⟩, ⟨12, 0, ro, 0⟩]⟩
/-- HST_CTL (R264, 10_historian.md). -/
def HST_CTL : RegDesc := ⟨0xd80000, [], [⟨0, 0, wo, 0⟩]⟩
/-- HST_STATUS (R264, 10_historian.md). -/
def HST_STATUS : RegDesc := ⟨0xd80004, [], [⟨31, 30, ro, 0⟩, ⟨29, 29, ro, 0⟩, ⟨28, 28, w1c, 0⟩, ⟨27, 27, w1c, 0⟩, ⟨26, 26, w1c, 0⟩, ⟨6, 0, ro, 0⟩]⟩
/-- HST_RING_LO (R264, 10_historian.md). -/
def HST_RING_LO : RegDesc := ⟨0xd80008, [], [⟨31, 0, ro, 0⟩]⟩
/-- HST_RING_HI (R264, 10_historian.md). -/
def HST_RING_HI : RegDesc := ⟨0xd8000c, [], [⟨31, 0, ro, 0⟩]⟩
/-- HST_RING_CFG (R264, 10_historian.md). -/
def HST_RING_CFG : RegDesc := ⟨0xd80010, [], [⟨28, 24, ro, 0⟩, ⟨16, 0, ro, 0⟩]⟩
/-- HST_SEQ_FILL (R264, 10_historian.md). -/
def HST_SEQ_FILL : RegDesc := ⟨0xd80014, [], [⟨31, 0, ro, 0⟩]⟩
/-- HST_SEQ_OLDEST (R264, 10_historian.md). -/
def HST_SEQ_OLDEST : RegDesc := ⟨0xd80018, [], [⟨31, 0, ro, 0⟩]⟩
/-- HST_SEG_USE (R264, 10_historian.md). -/
def HST_SEG_USE : RegDesc := ⟨0xd8001c, [], [⟨18, 16, ro, 0⟩, ⟨15, 0, ro, 0⟩]⟩
/-- HST_LAST_N (R264, 10_historian.md). -/
def HST_LAST_N : RegDesc := ⟨0xd80020, [], [⟨31, 0, ro, 0⟩]⟩
/-- HST_LOST (R264, 10_historian.md). -/
def HST_LOST : RegDesc := ⟨0xd80024, [], [⟨31, 0, ro, 0⟩]⟩
/-- HST_RATE (R264, 10_historian.md). -/
def HST_RATE : RegDesc := ⟨0xd80028, [], [⟨31, 0, ro, 0⟩]⟩
/-- CAN_STAT_b (R342, 13_field_buses_and_stations.md). -/
def CAN_STAT : RegDesc := ⟨0xe00000, [(0x100, 8)], [⟨31, 30, ro, 0⟩, ⟨29, 28, ro, 0⟩, ⟨26, 24, ro, 0⟩, ⟨21, 16, ro, 0⟩, ⟨15, 8, ro, 0⟩, ⟨7, 0, ro, 0⟩]⟩
/-- CAN_ERR_b (R342, 13_field_buses_and_stations.md). -/
def CAN_ERR : RegDesc := ⟨0xe00004, [(0x100, 8)], [⟨31, 16, ro, 0⟩, ⟨3, 3, w1c, 0⟩, ⟨2, 2, w1c, 0⟩, ⟨1, 1, w1c, 0⟩, ⟨0, 0, w1c, 0⟩]⟩
/-- ETH_PORT_CFG_p (R343, 13_field_buses_and_stations.md). -/
def ETH_PORT_CFG : RegDesc := ⟨0xf00000, [(0x100, 6)], [⟨31, 31, ro, 0⟩, ⟨30, 29, ro, 0⟩, ⟨28, 28, ro, 1⟩, ⟨25, 24, rw, 0⟩, ⟨17, 16, ro, 0⟩]⟩
/-- ETH_LAT_p (R343, 13_field_buses_and_stations.md). -/
def ETH_LAT : RegDesc := ⟨0xf00004, [(0x100, 6)], [⟨31, 16, rw, 0⟩, ⟨15, 0, rw, 0⟩]⟩
/-- ETH_DROP_p (R343, 13_field_buses_and_stations.md). -/
def ETH_DROP : RegDesc := ⟨0xf00008, [(0x100, 6)], [⟨31, 0, ro, 0⟩]⟩
/-- ETH_STA_SUM (R343, 13_field_buses_and_stations.md). -/
def ETH_STA_SUM : RegDesc := ⟨0xf01000, [], [⟨31, 31, ro, 0⟩, ⟨25, 16, ro, 0⟩, ⟨9, 0, ro, 0⟩]⟩
/-- ETH_STA_STAT_s (R343, 13_field_buses_and_stations.md). -/
def ETH_STA_STAT : RegDesc := ⟨0xf02000, [(0x4, 512)], [⟨31, 31, ro, 0⟩, ⟨30, 28, ro, 0⟩, ⟨27, 27, ro, 0⟩, ⟨26, 26, w1c, 0⟩, ⟨25, 22, ro, 0⟩, ⟨15, 0, ro, 0⟩]⟩
/-- LNK_STATE (R365, 14_constellation.md). -/
def LNK_STATE : RegDesc := ⟨0x1000000, [], [⟨31, 29, ro, 0⟩, ⟨28, 26, ro, 0⟩, ⟨25, 25, ro, 0⟩, ⟨24, 16, ro, 0⟩, ⟨2, 0, ro, 0⟩]⟩
/-- LNK_ROUTE_LO (R365, 14_constellation.md). -/
def LNK_ROUTE_LO : RegDesc := ⟨0x1000010, [], [⟨31, 0, ro, 0⟩]⟩
/-- LNK_ROUTE_HI (R365, 14_constellation.md). -/
def LNK_ROUTE_HI : RegDesc := ⟨0x1000014, [], [⟨31, 0, ro, 0⟩]⟩
/-- LNK_IMPORT (R365, 14_constellation.md). -/
def LNK_IMPORT : RegDesc := ⟨0x1000018, [], [⟨14, 0, ro, 0⟩]⟩
/-- LNK_LATE (R365, 14_constellation.md). -/
def LNK_LATE : RegDesc := ⟨0x100001c, [], [⟨31, 0, ro, 0⟩]⟩
/-- LNK_PORT_p (R365, 14_constellation.md). -/
def LNK_PORT : RegDesc := ⟨0x1000100, [(0x20, 6)], [⟨31, 30, ro, 0⟩, ⟨29, 29, ro, 0⟩, ⟨28, 28, ro, 0⟩, ⟨27, 20, ro, 0xff⟩, ⟨19, 16, ro, 0xf⟩, ⟨15, 0, ro, 0⟩]⟩
/-- LNK_PORT_ERR_p (R365, 14_constellation.md). -/
def LNK_PORT_ERR : RegDesc := ⟨0x1000104, [(0x20, 6)], [⟨31, 16, ro, 0⟩, ⟨15, 0, ro, 0⟩]⟩
/-- LNK_PORT_LOAD_p (R365, 14_constellation.md). -/
def LNK_PORT_LOAD : RegDesc := ⟨0x1000108, [(0x20, 6)], [⟨14, 0, ro, 0⟩]⟩
/-- LNK_MEMBER_m (R365, 14_constellation.md). -/
def LNK_MEMBER : RegDesc := ⟨0x1001000, [(0x4, 8)], [⟨31, 0, ro, 0⟩]⟩
/-- CTR_LO_n (R455, 17_memory_and_counters.md). -/
def CTR_LO : RegDesc := ⟨0x1100000, [(0x8, 1024)], [⟨31, 0, ro, 0⟩]⟩
/-- CTR_HI_n (R455, 17_memory_and_counters.md). -/
def CTR_HI : RegDesc := ⟨0x1100004, [(0x8, 1024)], [⟨31, 31, ro, 0⟩, ⟨15, 0, ro, 0⟩]⟩
/-- CTR_SNAP_LO_n (R455, 17_memory_and_counters.md). -/
def CTR_SNAP_LO : RegDesc := ⟨0x1102000, [(0x8, 1024)], [⟨31, 0, ro, 0⟩]⟩
/-- CTR_SNAP_HI_n (R455, 17_memory_and_counters.md). -/
def CTR_SNAP_HI : RegDesc := ⟨0x1102004, [(0x8, 1024)], [⟨31, 31, ro, 0⟩, ⟨15, 0, ro, 0⟩]⟩
/-- CTR_SNAP_CTL (R455, 17_memory_and_counters.md). -/
def CTR_SNAP_CTL : RegDesc := ⟨0x1104000, [], [⟨31, 31, ro, 0⟩, ⟨30, 30, w1c, 0⟩, ⟨0, 0, wo, 0⟩]⟩
/-- CTR_SNAP_SEQ (R455, 17_memory_and_counters.md). -/
def CTR_SNAP_SEQ : RegDesc := ⟨0x1104004, [], [⟨31, 0, ro, 0⟩]⟩
/-- CTR_SNAP_T_LO (R455, 17_memory_and_counters.md). -/
def CTR_SNAP_T_LO : RegDesc := ⟨0x1104008, [], [⟨31, 0, ro, 0⟩]⟩
/-- CTR_SNAP_T_HI (R455, 17_memory_and_counters.md). -/
def CTR_SNAP_T_HI : RegDesc := ⟨0x110400c, [], [⟨31, 0, ro, 0⟩]⟩
/-- CTR_PRE_LO (R455, 17_memory_and_counters.md). -/
def CTR_PRE_LO : RegDesc := ⟨0x1104010, [], [⟨31, 0, rw, 0⟩]⟩
/-- CTR_PRE_HI (R455, 17_memory_and_counters.md). -/
def CTR_PRE_HI : RegDesc := ⟨0x1104014, [], [⟨15, 0, rw, 0⟩]⟩
/-- CTR_PRE_CTL (R455, 17_memory_and_counters.md). -/
def CTR_PRE_CTL : RegDesc := ⟨0x1104018, [], [⟨31, 31, wo, 0⟩, ⟨9, 0, rw, 0⟩]⟩
/-- CTR_SLIP (R455, 17_memory_and_counters.md). -/
def CTR_SLIP : RegDesc := ⟨0x110401c, [], [⟨31, 0, ro, 0⟩]⟩
/-- CTR_SLIP_LAST (R455, 17_memory_and_counters.md). -/
def CTR_SLIP_LAST : RegDesc := ⟨0x1104020, [], [⟨9, 0, ro, 0⟩]⟩
/-- CTR_BW_CFG_p (R455, 17_memory_and_counters.md). -/
def CTR_BW_CFG : RegDesc := ⟨0x1105000, [(0x10, 48)], [⟨31, 31, rw, 0⟩, ⟨30, 30, rw, 0⟩, ⟨29, 29, wo, 0⟩, ⟨19, 0, rw, 0x3e8⟩]⟩
/-- CTR_BW_LAST_p (R455, 17_memory_and_counters.md). -/
def CTR_BW_LAST : RegDesc := ⟨0x1105004, [(0x10, 48)], [⟨31, 0, ro, 0⟩]⟩
/-- CTR_BW_PEAK_p (R455, 17_memory_and_counters.md). -/
def CTR_BW_PEAK : RegDesc := ⟨0x1105008, [(0x10, 48)], [⟨31, 0, ro, 0⟩]⟩
/-- CTR_BW_WIN_p (R455, 17_memory_and_counters.md). -/
def CTR_BW_WIN : RegDesc := ⟨0x110500c, [(0x10, 48)], [⟨31, 31, w1c, 0⟩, ⟨30, 0, ro, 0⟩]⟩
/-- CTR_PERM_r_w (R455, 17_memory_and_counters.md). -/
def CTR_PERM : RegDesc := ⟨0x1108000, [(0x80, 128), (0x4, 32)], [⟨31, 0, rwa, 0⟩]⟩
/-- SAF_STATE (R429, 16_safety_island.md). -/
def SAF_STATE : RegDesc := ⟨0x1200000, [], [⟨31, 30, ro, 1⟩, ⟨29, 29, ro, 1⟩, ⟨28, 28, ro, 0⟩, ⟨27, 27, ro, 0⟩, ⟨26, 26, ro, 0⟩, ⟨25, 25, ro, 0⟩, ⟨24, 24, ro, 0⟩, ⟨15, 8, ro, 0⟩, ⟨1, 0, ro, 0⟩]⟩
/-- SAF_PAIRS (R429, 16_safety_island.md). -/
def SAF_PAIRS : RegDesc := ⟨0x1200004, [], [⟨31, 0, ro, 0⟩]⟩
/-- SAF_PAIR_FLT (R429, 16_safety_island.md). -/
def SAF_PAIR_FLT : RegDesc := ⟨0x1200008, [], [⟨31, 0, ro, 0⟩]⟩
/-- SAF_FUNCS (R429, 16_safety_island.md). -/
def SAF_FUNCS : RegDesc := ⟨0x120000c, [], [⟨31, 0, ro, 0⟩]⟩
/-- SAF_OUTS (R429, 16_safety_island.md). -/
def SAF_OUTS : RegDesc := ⟨0x1200010, [], [⟨27, 16, ro, 0⟩, ⟨11, 0, ro, 0⟩]⟩
/-- SAF_SAMPLE (R429, 16_safety_island.md). -/
def SAF_SAMPLE : RegDesc := ⟨0x1200014, [], [⟨31, 0, ro, 0⟩]⟩
/-- SAF_CFG_SEQ (R429, 16_safety_island.md). -/
def SAF_CFG_SEQ : RegDesc := ⟨0x1200018, [], [⟨31, 0, ro, 0⟩]⟩
/-- SAF_CFG_BANK (R429, 16_safety_island.md). -/
def SAF_CFG_BANK : RegDesc := ⟨0x120001c, [], [⟨0, 0, ro, 0⟩]⟩
/-- SAF_DIGEST_n (R429, 16_safety_island.md). -/
def SAF_DIGEST : RegDesc := ⟨0x1200040, [(0x4, 8)], [⟨31, 0, ro, 0⟩]⟩
/-- SAF_PAIR_p (R429, 16_safety_island.md). -/
def SAF_PAIR : RegDesc := ⟨0x1200100, [(0x4, 32)], [⟨31, 29, ro, 0⟩, ⟨28, 27, ro, 0⟩, ⟨26, 26, ro, 0⟩, ⟨25, 25, ro, 0⟩, ⟨24, 24, ro, 0⟩, ⟨23, 23, ro, 0⟩, ⟨22, 22, ro, 0⟩, ⟨21, 21, ro, 0⟩, ⟨20, 20, ro, 0⟩, ⟨13, 0, ro, 0⟩]⟩
/-- SAF_FUNC_f (R429, 16_safety_island.md). -/
def SAF_FUNC : RegDesc := ⟨0x1200200, [(0x4, 32)], [⟨31, 29, ro, 0⟩, ⟨28, 28, ro, 0⟩]⟩
/-- SAF_OUT_n (R429, 16_safety_island.md). -/
def SAF_OUT : RegDesc := ⟨0x1200300, [(0x4, 12)], [⟨31, 30, ro, 0⟩, ⟨29, 27, ro, 0⟩, ⟨26, 26, ro, 0⟩, ⟨25, 25, ro, 0⟩, ⟨24, 24, ro, 0⟩, ⟨23, 23, ro, 0⟩, ⟨22, 22, ro, 0⟩, ⟨21, 21, ro, 0⟩, ⟨5, 0, ro, 0⟩]⟩
/-- MEM_WIN_STAT (R453, 17_memory_and_counters.md). -/
def MEM_WIN_STAT : RegDesc := ⟨0x1300000, [], [⟨31, 31, w1c, 0⟩]⟩
/-- MEM_WIN_COLL (R453, 17_memory_and_counters.md). -/
def MEM_WIN_COLL : RegDesc := ⟨0x1300004, [], [⟨31, 0, ro, 0⟩]⟩
/-- MEM_WIN_COLL_ADDR (R453, 17_memory_and_counters.md). -/
def MEM_WIN_COLL_ADDR : RegDesc := ⟨0x1300008, [], [⟨21, 0, ro, 0⟩]⟩
/-- MEM_SEC_STAT (R453, 17_memory_and_counters.md). -/
def MEM_SEC_STAT : RegDesc := ⟨0x1300100, [], [⟨31, 31, ro, 0⟩, ⟨30, 28, ro, 0⟩, ⟨15, 0, ro, 0⟩]⟩
/-- MEM_ECC_LAST (R453, 17_memory_and_counters.md). -/
def MEM_ECC_LAST : RegDesc := ⟨0x1300200, [], [⟨31, 28, ro, 0⟩, ⟨27, 22, ro, 0⟩, ⟨21, 21, w1c, 0⟩]⟩
/-- MEM_ECC_ADDR_LO (R453, 17_memory_and_counters.md). -/
def MEM_ECC_ADDR_LO : RegDesc := ⟨0x1300204, [], [⟨31, 0, ro, 0⟩]⟩
/-- MEM_ECC_ADDR_HI (R453, 17_memory_and_counters.md). -/
def MEM_ECC_ADDR_HI : RegDesc := ⟨0x1300208, [], [⟨4, 0, ro, 0⟩]⟩
/-- MEM_MARCH_CTL (R453, 17_memory_and_counters.md). -/
def MEM_MARCH_CTL : RegDesc := ⟨0x1300400, [], [⟨0, 0, rwk, 1⟩]⟩
/-- MEM_MARCH_STAT (R453, 17_memory_and_counters.md). -/
def MEM_MARCH_STAT : RegDesc := ⟨0x1300404, [], [⟨31, 31, w1c, 0⟩, ⟨15, 0, ro, 0⟩]⟩
/-- MEM_MARCH_FAIL (R453, 17_memory_and_counters.md). -/
def MEM_MARCH_FAIL : RegDesc := ⟨0x1300408, [], [⟨28, 27, ro, 0⟩, ⟨26, 0, ro, 0⟩]⟩
/-- MEM_CONF_CLR (R453, 17_memory_and_counters.md). -/
def MEM_CONF_CLR : RegDesc := ⟨0x1300410, [], [⟨0, 0, wo, 0⟩]⟩
/-- MEM_CKPT_CTL (R400, 15_redundancy_and_restart.md). -/
def MEM_CKPT_CTL : RegDesc := ⟨0x1300800, [], [⟨0, 0, rwk, 1⟩]⟩
/-- MEM_CKPT_STAT (R400, 15_redundancy_and_restart.md). -/
def MEM_CKPT_STAT : RegDesc := ⟨0x1300804, [], [⟨31, 31, ro, 0⟩, ⟨30, 28, ro, 0⟩, ⟨27, 27, ro, 0⟩, ⟨26, 26, ro, 0⟩, ⟨25, 25, ro, 0⟩, ⟨24, 24, ro, 0⟩, ⟨23, 23, w1c, 0⟩, ⟨22, 22, w1c, 0⟩, ⟨21, 21, ro, 0⟩, ⟨20, 20, ro, 0⟩]⟩
/-- MEM_CKPT_SEQ (R400, 15_redundancy_and_restart.md). -/
def MEM_CKPT_SEQ : RegDesc := ⟨0x1300808, [], [⟨31, 0, ro, 0⟩]⟩
/-- MEM_CKPT_N_LO (R400, 15_redundancy_and_restart.md). -/
def MEM_CKPT_N_LO : RegDesc := ⟨0x130080c, [], [⟨31, 0, ro, 0⟩]⟩
/-- MEM_CKPT_N_HI (R400, 15_redundancy_and_restart.md). -/
def MEM_CKPT_N_HI : RegDesc := ⟨0x1300810, [], [⟨31, 0, ro, 0⟩]⟩
/-- MEM_CKPT_BYTES (R400, 15_redundancy_and_restart.md). -/
def MEM_CKPT_BYTES : RegDesc := ⟨0x1300814, [], [⟨22, 0, ro, 0⟩]⟩
/-- MEM_WIN_CONF_k_m (R453, 17_memory_and_counters.md). -/
def MEM_WIN_CONF : RegDesc := ⟨0x1301000, [(0x10, 8), (0x4, 4)], [⟨31, 0, ro, 0⟩]⟩
/-- DDR_STAT_ch (R453, 17_memory_and_counters.md). -/
def DDR_STAT : RegDesc := ⟨0x1304000, [(0x100, 2)], [⟨31, 31, ro, 0⟩, ⟨30, 30, ro, 0⟩, ⟨23, 16, ro, 0⟩, ⟨15, 0, ro, 0⟩]⟩
/-- DDR_SCRUB_ch (R453, 17_memory_and_counters.md). -/
def DDR_SCRUB : RegDesc := ⟨0x1304004, [(0x100, 2)], [⟨31, 0, ro, 0⟩]⟩
/-- SEC_LC (R506, 19_security_lifecycle.md). -/
def SEC_LC : RegDesc := ⟨0x1400000, [], [⟨31, 29, ro, 0⟩, ⟨28, 28, ro, 0⟩, ⟨27, 27, ro, 0⟩, ⟨26, 26, ro, 0⟩, ⟨25, 24, ro, 0⟩, ⟨7, 4, ro, 0⟩, ⟨3, 0, ro, 0⟩]⟩
/-- SEC_FW_VER (R506, 19_security_lifecycle.md). -/
def SEC_FW_VER : RegDesc := ⟨0x1400004, [], [⟨31, 0, ro, 0⟩]⟩
/-- SEC_FW_SVN (R506, 19_security_lifecycle.md). -/
def SEC_FW_SVN : RegDesc := ⟨0x1400008, [], [⟨31, 16, rwa, 0⟩, ⟨15, 0, ro, 0⟩]⟩
/-- SEC_PROP (R506, 19_security_lifecycle.md). -/
def SEC_PROP : RegDesc := ⟨0x140000c, [], [⟨31, 31, ro, 0⟩, ⟨30, 29, ro, 0⟩, ⟨28, 28, ro, 0⟩, ⟨22, 20, ro, 0⟩, ⟨19, 16, ro, 0⟩, ⟨9, 0, ro, 0⟩]⟩
/-- SEC_PROP_SEQ (R506, 19_security_lifecycle.md). -/
def SEC_PROP_SEQ : RegDesc := ⟨0x1400010, [], [⟨31, 0, ro, 0⟩]⟩
/-- SEC_TAMPER (R506, 19_security_lifecycle.md). -/
def SEC_TAMPER : RegDesc := ⟨0x1400014, [], [⟨31, 31, ro, 0⟩, ⟨30, 30, ro, 0⟩, ⟨29, 29, ro, 0⟩, ⟨28, 28, ro, 0⟩, ⟨27, 27, ro, 0⟩, ⟨26, 26, ro, 0⟩, ⟨15, 0, ro, 0⟩]⟩
/-- SEC_SERIAL_n (R506, 19_security_lifecycle.md). -/
def SEC_SERIAL : RegDesc := ⟨0x1400020, [(0x4, 4)], [⟨31, 0, ro, 0⟩]⟩
/-- SEC_DBG (R506, 19_security_lifecycle.md). -/
def SEC_DBG : RegDesc := ⟨0x1400030, [], [⟨31, 31, ro, 0⟩, ⟨30, 28, ro, 0⟩, ⟨13, 0, ro, 0⟩]⟩
/-- AGE_STAT (R531, 20_ageing_and_recorder.md). -/
def AGE_STAT : RegDesc := ⟨0x1500000, [], [⟨31, 31, w1c, 0⟩, ⟨30, 30, ro, 0⟩, ⟨29, 29, w1c, 0⟩, ⟨28, 28, ro, 0⟩, ⟨27, 27, ro, 0⟩, ⟨22, 16, ro, 0⟩, ⟨9, 0, ro, 0⟩]⟩
/-- AGE_VCFG (R531, 20_ageing_and_recorder.md). -/
def AGE_VCFG : RegDesc := ⟨0x1500004, [], [⟨25, 16, rwa, 0x370⟩, ⟨9, 0, rwa, 0x26c⟩]⟩
/-- AGE_VFIX (R531, 20_ageing_and_recorder.md). -/
def AGE_VFIX : RegDesc := ⟨0x1500008, [], [⟨9, 0, rwa, 0x352⟩]⟩
/-- AGE_HOURS (R531, 20_ageing_and_recorder.md). -/
def AGE_HOURS : RegDesc := ⟨0x1500020, [], [⟨31, 0, ro, 0⟩]⟩
/-- AGE_OPSEC (R531, 20_ageing_and_recorder.md). -/
def AGE_OPSEC : RegDesc := ⟨0x1500024, [], [⟨11, 0, ro, 0⟩]⟩
/-- AGE_PCYC (R531, 20_ageing_and_recorder.md). -/
def AGE_PCYC : RegDesc := ⟨0x1500028, [], [⟨31, 0, ro, 0⟩]⟩
/-- AGE_REC_CFG (R531, 20_ageing_and_recorder.md). -/
def AGE_REC_CFG : RegDesc := ⟨0x1500030, [], [⟨10, 0, rwk, 0x3c⟩]⟩
/-- AGE_REC_STAT (R531, 20_ageing_and_recorder.md). -/
def AGE_REC_STAT : RegDesc := ⟨0x1500034, [], [⟨31, 31, ro, 0⟩, ⟨30, 30, ro, 0⟩, ⟨15, 0, ro, 0⟩]⟩
/-- AGE_REC_SEQ (R531, 20_ageing_and_recorder.md). -/
def AGE_REC_SEQ : RegDesc := ⟨0x1500038, [], [⟨31, 0, ro, 0⟩]⟩
/-- AGE_FCAST_n (R531, 20_ageing_and_recorder.md). -/
def AGE_FCAST : RegDesc := ⟨0x1500040, [(0x4, 4)], [⟨31, 0, ro, 0⟩]⟩
/-- AGE_MAP_c (R531, 20_ageing_and_recorder.md). -/
def AGE_MAP : RegDesc := ⟨0x1500100, [(0x4, 64)], [⟨31, 31, ro, 0⟩, ⟨30, 30, ro, 0⟩, ⟨29, 29, ro, 0⟩, ⟨13, 8, ro, 0⟩, ⟨5, 0, ro, 0⟩]⟩
/-- AGE_SPARE (R531, 20_ageing_and_recorder.md). -/
def AGE_SPARE : RegDesc := ⟨0x1500300, [], [⟨18, 16, ro, 0⟩, ⟨13, 8, ro, 0⟩, ⟨5, 0, ro, 0⟩]⟩
/-- PWR_STAT (R558, 21_power_reset_package.md). -/
def PWR_STAT : RegDesc := ⟨0x1600000, [], [⟨31, 31, w1c, 0⟩, ⟨30, 30, ro, 0⟩, ⟨29, 29, ro, 0⟩, ⟨28, 28, ro, 0⟩, ⟨27, 27, ro, 0⟩, ⟨26, 26, w1c, 0⟩, ⟨25, 25, w1c, 0⟩, ⟨24, 24, ro, 0⟩]⟩
/-- PWR_RST (R558, 21_power_reset_package.md). -/
def PWR_RST : RegDesc := ⟨0x1600004, [], [⟨31, 29, ro, 0⟩, ⟨2, 0, ro, 0⟩]⟩
/-- PWR_VCORE (R558, 21_power_reset_package.md). -/
def PWR_VCORE : RegDesc := ⟨0x1600008, [], [⟨31, 16, ro, 0⟩, ⟨9, 0, ro, 0⟩]⟩
/-- PWR_TEMP (R558, 21_power_reset_package.md). -/
def PWR_TEMP : RegDesc := ⟨0x160000c, [], [⟨15, 8, ro, 0x80⟩, ⟨7, 0, ro, 0x80⟩]⟩
/-- PWR_PMB (R558, 21_power_reset_package.md). -/
def PWR_PMB : RegDesc := ⟨0x1600010, [], [⟨31, 31, ro, 0⟩, ⟨30, 30, w1c, 0⟩, ⟨29, 29, w1c, 0⟩, ⟨22, 16, ro, 0⟩, ⟨15, 0, ro, 0⟩]⟩
/-- DBG_SEL (R506, 19_security_lifecycle.md). -/
def DBG_SEL : RegDesc := ⟨0x1f00000, [], [⟨10, 8, rw, 0⟩, ⟨7, 6, rw, 0⟩, ⟨5, 0, rw, 0⟩]⟩

/-- Registers 0 to 39 of the table, in address order of their first instance. -/
def table0 : List RegDesc := [GLB_PART_ID, GLB_ROLE, GLB_CELL_ROLE, GLB_IMG_STATUS, GLB_IMG_REJECT, GLB_IMG_SERIAL, GLB_IMG_SERIAL_FLOOR, GLB_CERT_STATUS, GLB_IMG_DIGEST, GLB_SPLICE_MARK_LO, GLB_SPLICE_MARK_HI, GLB_PT_FORCE, GLB_KEY, GLB_IDENT_MIS, GLB_PAIR, GLB_PAIR_REPLAY, GLB_PAIR_XCHK, GLB_PAIR_EXER, GLB_MODE, TNS_CTL, TNS_STATUS, TNS_NS, TNS_SEC_LO, TNS_SEC_HI, TNS_RUN_LO, TNS_RUN_HI, TNS_STAMP32, TNS_CYCLE_LO, TNS_CYCLE_HI, TNS_X_INCR_LO, TNS_X_INCR_HI, TNS_X_NS, TNS_X_SEC_LO, TNS_X_SEC_HI, TNS_X_ADJ_SEC, TNS_X_ADJ_NS, TNS_X_CTL, TNS_TIO_CFG, TNS_TIO_NS, TNS_TIO_SEC]
/-- Registers 40 to 79 of the table, in address order of their first instance. -/
def table1 : List RegDesc := [RNG_CTL, RNG_STAT, RNG_CMD_TAIL, RNG_CMD_HEAD, RNG_CPL_TAIL, RNG_CPL_HEAD, RNG_SEQ, RNG_IRQ_CFG, RNG_DEV_CAUSE, RNG_DEV_MASK, RNG_GLB_STAT, RNG_ETH_PEER, RNG_ETH_CFG, RNG_VEC_STAMP_LO, RNG_VEC_STAMP_HI, CEL_STATUS, CEL_CTL, CEL_CERT_BASE, CEL_CERT_LIMIT, CEL_CERT_FAST, CEL_CERT_FLIM, CEL_BUDGET, CEL_STEP_USED, CEL_STEP_PEAK, CEL_WAIT_PEAK, CEL_TT, CEL_OVR_LAST, CEL_TORN_ADDR, CEL_TORN_SRC, CEL_CONF, CEL_LOOP_SUM, CEL_TRACE_SUM, CEL_LOOP_MANHOLD, CEL_LOOP_TRACK, CEL_SEQ_SUM, CEL_SEQ_RES, CEL_SEQ_TMR, CEL_SEQ_DISP, CEL_SEQ_LATE, CEL_LOGIC_SUM]
/-- Registers 80 to 119 of the table, in address order of their first instance. -/
def table2 : List RegDesc := [CEL_LOGIC_CODE, CEL_TASK_STAT, CEL_LOOP_STAT, CEL_AXIS_STAT, CEL_PG_STAT, CEL_FLOW_STAT, ADC_ROT, ADC_CORE, ADC_CORE_FULL, ADC_MAP, ADC_SEQ_CTL, ADC_OVR, ADC_NEW, ADC_RES_STAT, ADC_URG_CTL, ADC_URG_STAMP, ADC_URES, ADC_RES, DAC_STAT, DAC_SRC, ENC_STAT, ENC_COUNT, ENC_INDEX, ENC_RAW, ACQ_ARMED, ACQ_OVF, ACQ_GROUP, ACQ_STAT, ACQ_FILL, ACQ_IGN, ACQ_REC, ACQ_BUF, HST_CTL, HST_STATUS, HST_RING_LO, HST_RING_HI, HST_RING_CFG, HST_SEQ_FILL, HST_SEQ_OLDEST, HST_SEG_USE]
/-- Registers 120 to 159 of the table, in address order of their first instance. -/
def table3 : List RegDesc := [HST_LAST_N, HST_LOST, HST_RATE, CAN_STAT, CAN_ERR, ETH_PORT_CFG, ETH_LAT, ETH_DROP, ETH_STA_SUM, ETH_STA_STAT, LNK_STATE, LNK_ROUTE_LO, LNK_ROUTE_HI, LNK_IMPORT, LNK_LATE, LNK_PORT, LNK_PORT_ERR, LNK_PORT_LOAD, LNK_MEMBER, CTR_LO, CTR_HI, CTR_SNAP_LO, CTR_SNAP_HI, CTR_SNAP_CTL, CTR_SNAP_SEQ, CTR_SNAP_T_LO, CTR_SNAP_T_HI, CTR_PRE_LO, CTR_PRE_HI, CTR_PRE_CTL, CTR_SLIP, CTR_SLIP_LAST, CTR_BW_CFG, CTR_BW_LAST, CTR_BW_PEAK, CTR_BW_WIN, CTR_PERM, SAF_STATE, SAF_PAIRS, SAF_PAIR_FLT]
/-- Registers 160 to 199 of the table, in address order of their first instance. -/
def table4 : List RegDesc := [SAF_FUNCS, SAF_OUTS, SAF_SAMPLE, SAF_CFG_SEQ, SAF_CFG_BANK, SAF_DIGEST, SAF_PAIR, SAF_FUNC, SAF_OUT, MEM_WIN_STAT, MEM_WIN_COLL, MEM_WIN_COLL_ADDR, MEM_SEC_STAT, MEM_ECC_LAST, MEM_ECC_ADDR_LO, MEM_ECC_ADDR_HI, MEM_MARCH_CTL, MEM_MARCH_STAT, MEM_MARCH_FAIL, MEM_CONF_CLR, MEM_CKPT_CTL, MEM_CKPT_STAT, MEM_CKPT_SEQ, MEM_CKPT_N_LO, MEM_CKPT_N_HI, MEM_CKPT_BYTES, MEM_WIN_CONF, DDR_STAT, DDR_SCRUB, SEC_LC, SEC_FW_VER, SEC_FW_SVN, SEC_PROP, SEC_PROP_SEQ, SEC_TAMPER, SEC_SERIAL, SEC_DBG, AGE_STAT, AGE_VCFG, AGE_VFIX]
/-- Registers 200 to 214 of the table, in address order of their first instance. -/
def table5 : List RegDesc := [AGE_HOURS, AGE_OPSEC, AGE_PCYC, AGE_REC_CFG, AGE_REC_STAT, AGE_REC_SEQ, AGE_FCAST, AGE_MAP, AGE_SPARE, PWR_STAT, PWR_RST, PWR_VCORE, PWR_TEMP, PWR_PMB, DBG_SEL]
/-- Every register of the device (R578). -/
def table : List RegDesc := table0 ++ table1 ++ table2 ++ table3 ++ table4 ++ table5

/-! Named fields: register, high and low bit. -/

def GLB_PART_ID_PART : Fld := ⟨GLB_PART_ID, 31, 16⟩
def GLB_PART_ID_STEPPING : Fld := ⟨GLB_PART_ID, 15, 8⟩
def GLB_PART_ID_PACKAGE : Fld := ⟨GLB_PART_ID, 7, 0⟩
def GLB_ROLE_DEVNUM : Fld := ⟨GLB_ROLE, 15, 8⟩
def GLB_ROLE_ROLE : Fld := ⟨GLB_ROLE, 2, 1⟩
def GLB_ROLE_MGR_STRAP : Fld := ⟨GLB_ROLE, 0, 0⟩
def GLB_CELL_ROLE_ROLE_15 : Fld := ⟨GLB_CELL_ROLE, 31, 30⟩
def GLB_CELL_ROLE_ROLE_14 : Fld := ⟨GLB_CELL_ROLE, 29, 28⟩
def GLB_CELL_ROLE_ROLE_13 : Fld := ⟨GLB_CELL_ROLE, 27, 26⟩
def GLB_CELL_ROLE_ROLE_12 : Fld := ⟨GLB_CELL_ROLE, 25, 24⟩
def GLB_CELL_ROLE_ROLE_11 : Fld := ⟨GLB_CELL_ROLE, 23, 22⟩
def GLB_CELL_ROLE_ROLE_10 : Fld := ⟨GLB_CELL_ROLE, 21, 20⟩
def GLB_CELL_ROLE_ROLE_9 : Fld := ⟨GLB_CELL_ROLE, 19, 18⟩
def GLB_CELL_ROLE_ROLE_8 : Fld := ⟨GLB_CELL_ROLE, 17, 16⟩
def GLB_CELL_ROLE_ROLE_7 : Fld := ⟨GLB_CELL_ROLE, 15, 14⟩
def GLB_CELL_ROLE_ROLE_6 : Fld := ⟨GLB_CELL_ROLE, 13, 12⟩
def GLB_CELL_ROLE_ROLE_5 : Fld := ⟨GLB_CELL_ROLE, 11, 10⟩
def GLB_CELL_ROLE_ROLE_4 : Fld := ⟨GLB_CELL_ROLE, 9, 8⟩
def GLB_CELL_ROLE_ROLE_3 : Fld := ⟨GLB_CELL_ROLE, 7, 6⟩
def GLB_CELL_ROLE_ROLE_2 : Fld := ⟨GLB_CELL_ROLE, 5, 4⟩
def GLB_CELL_ROLE_ROLE_1 : Fld := ⟨GLB_CELL_ROLE, 3, 2⟩
def GLB_CELL_ROLE_ROLE_0 : Fld := ⟨GLB_CELL_ROLE, 1, 0⟩
def GLB_IMG_STATUS_LOAD_STATE : Fld := ⟨GLB_IMG_STATUS, 19, 16⟩
def GLB_IMG_STATUS_FALLBACK : Fld := ⟨GLB_IMG_STATUS, 11, 11⟩
def GLB_IMG_STATUS_WARM : Fld := ⟨GLB_IMG_STATUS, 10, 10⟩
def GLB_IMG_STATUS_SLOT : Fld := ⟨GLB_IMG_STATUS, 9, 8⟩
def GLB_IMG_STATUS_COMPAT : Fld := ⟨GLB_IMG_STATUS, 0, 0⟩
def GLB_IMG_REJECT_COUNT : Fld := ⟨GLB_IMG_REJECT, 31, 16⟩
def GLB_IMG_REJECT_REASON : Fld := ⟨GLB_IMG_REJECT, 15, 0⟩
def GLB_IMG_SERIAL_SERIAL : Fld := ⟨GLB_IMG_SERIAL, 31, 0⟩
def GLB_IMG_SERIAL_FLOOR_FLOOR : Fld := ⟨GLB_IMG_SERIAL_FLOOR, 31, 0⟩
def GLB_CERT_STATUS_STATE : Fld := ⟨GLB_CERT_STATUS, 31, 30⟩
def GLB_CERT_STATUS_WORST_CELL : Fld := ⟨GLB_CERT_STATUS, 29, 24⟩
def GLB_CERT_STATUS_UTIL_PM : Fld := ⟨GLB_CERT_STATUS, 15, 0⟩
def GLB_IMG_DIGEST_DIGEST : Fld := ⟨GLB_IMG_DIGEST, 31, 0⟩
def GLB_SPLICE_MARK_LO_MARK_LO : Fld := ⟨GLB_SPLICE_MARK_LO, 31, 0⟩
def GLB_SPLICE_MARK_HI_MARK_HI : Fld := ⟨GLB_SPLICE_MARK_HI, 31, 0⟩
def GLB_PT_FORCE_LIMIT : Fld := ⟨GLB_PT_FORCE, 11, 11⟩
def GLB_PT_FORCE_COUNT : Fld := ⟨GLB_PT_FORCE, 10, 0⟩
def GLB_KEY_DISC : Fld := ⟨GLB_KEY, 7, 7⟩
def GLB_KEY_BETWEEN : Fld := ⟨GLB_KEY, 6, 6⟩
def GLB_KEY_EFFECTIVE : Fld := ⟨GLB_KEY, 5, 4⟩
def GLB_KEY_RAW_A : Fld := ⟨GLB_KEY, 3, 2⟩
def GLB_KEY_RAW_B : Fld := ⟨GLB_KEY, 1, 0⟩
def GLB_IDENT_MIS_MIS : Fld := ⟨GLB_IDENT_MIS, 31, 0⟩
def GLB_PAIR_STATE : Fld := ⟨GLB_PAIR, 31, 29⟩
def GLB_PAIR_LEASE : Fld := ⟨GLB_PAIR, 28, 28⟩
def GLB_PAIR_LINK_UP : Fld := ⟨GLB_PAIR, 27, 27⟩
def GLB_PAIR_PIN_FAULT : Fld := ⟨GLB_PAIR, 26, 26⟩
def GLB_PAIR_DUAL : Fld := ⟨GLB_PAIR, 25, 25⟩
def GLB_PAIR_MISMATCH : Fld := ⟨GLB_PAIR, 24, 24⟩
def GLB_PAIR_DIGEST_DIFF : Fld := ⟨GLB_PAIR, 23, 23⟩
def GLB_PAIR_STRAP_ERR : Fld := ⟨GLB_PAIR, 22, 22⟩
def GLB_PAIR_PORT : Fld := ⟨GLB_PAIR, 20, 18⟩
def GLB_PAIR_STRAP : Fld := ⟨GLB_PAIR, 17, 16⟩
def GLB_PAIR_CAUSE : Fld := ⟨GLB_PAIR, 15, 8⟩
def GLB_PAIR_REPLAY_MAN_RECS : Fld := ⟨GLB_PAIR_REPLAY, 31, 16⟩
def GLB_PAIR_REPLAY_LAG : Fld := ⟨GLB_PAIR_REPLAY, 5, 0⟩
def GLB_PAIR_XCHK_COUNT : Fld := ⟨GLB_PAIR_XCHK, 31, 16⟩
def GLB_PAIR_XCHK_VALID : Fld := ⟨GLB_PAIR_XCHK, 6, 6⟩
def GLB_PAIR_XCHK_CELL : Fld := ⟨GLB_PAIR_XCHK, 5, 0⟩
def GLB_PAIR_EXER_DUE_S : Fld := ⟨GLB_PAIR_EXER, 31, 0⟩
def GLB_MODE_LC : Fld := ⟨GLB_MODE, 31, 29⟩
def GLB_MODE_PAIR : Fld := ⟨GLB_MODE, 28, 26⟩
def GLB_MODE_KEY : Fld := ⟨GLB_MODE, 25, 24⟩
def GLB_MODE_SAFETY : Fld := ⟨GLB_MODE, 23, 22⟩
def GLB_MODE_ROLE : Fld := ⟨GLB_MODE, 21, 20⟩
def GLB_MODE_COMPAT : Fld := ⟨GLB_MODE, 19, 19⟩
def GLB_MODE_WARM : Fld := ⟨GLB_MODE, 18, 18⟩
def GLB_MODE_JOINED : Fld := ⟨GLB_MODE, 17, 17⟩
def GLB_MODE_KEY_HELD : Fld := ⟨GLB_MODE, 16, 16⟩
def GLB_MODE_REPLAY_KEY : Fld := ⟨GLB_MODE, 15, 15⟩
def TNS_CTL_SLEW_PPM : Fld := ⟨TNS_CTL, 24, 16⟩
def TNS_CTL_AUTO : Fld := ⟨TNS_CTL, 4, 4⟩
def TNS_CTL_DSEL : Fld := ⟨TNS_CTL, 1, 0⟩
def TNS_STATUS_ACTIVE : Fld := ⟨TNS_STATUS, 31, 30⟩
def TNS_STATUS_HOLDOVER : Fld := ⟨TNS_STATUS, 29, 29⟩
def TNS_STATUS_SYNC : Fld := ⟨TNS_STATUS, 28, 28⟩
def TNS_STATUS_SLEWING : Fld := ⟨TNS_STATUS, 27, 27⟩
def TNS_STATUS_A_OK : Fld := ⟨TNS_STATUS, 26, 26⟩
def TNS_STATUS_B_OK : Fld := ⟨TNS_STATUS, 25, 25⟩
def TNS_STATUS_LINK_OK : Fld := ⟨TNS_STATUS, 24, 24⟩
def TNS_STATUS_REF_LOST : Fld := ⟨TNS_STATUS, 23, 23⟩
def TNS_STATUS_STEP_PEND : Fld := ⟨TNS_STATUS, 19, 19⟩
def TNS_STATUS_STEPPED : Fld := ⟨TNS_STATUS, 18, 18⟩
def TNS_STATUS_SWITCHED : Fld := ⟨TNS_STATUS, 17, 17⟩
def TNS_STATUS_REJ : Fld := ⟨TNS_STATUS, 16, 16⟩
def TNS_NS_NS : Fld := ⟨TNS_NS, 29, 0⟩
def TNS_SEC_LO_SEC_LO : Fld := ⟨TNS_SEC_LO, 31, 0⟩
def TNS_SEC_HI_SEC_HI : Fld := ⟨TNS_SEC_HI, 15, 0⟩
def TNS_RUN_LO_RUN_LO : Fld := ⟨TNS_RUN_LO, 31, 0⟩
def TNS_RUN_HI_RUN_HI : Fld := ⟨TNS_RUN_HI, 31, 0⟩
def TNS_STAMP32_STAMP : Fld := ⟨TNS_STAMP32, 31, 0⟩
def TNS_CYCLE_LO_N_LO : Fld := ⟨TNS_CYCLE_LO, 31, 0⟩
def TNS_CYCLE_HI_N_HI : Fld := ⟨TNS_CYCLE_HI, 31, 0⟩
def TNS_X_INCR_LO_FRAC : Fld := ⟨TNS_X_INCR_LO, 31, 0⟩
def TNS_X_INCR_HI_INT : Fld := ⟨TNS_X_INCR_HI, 1, 0⟩
def TNS_X_NS_NS : Fld := ⟨TNS_X_NS, 29, 0⟩
def TNS_X_SEC_LO_SEC_LO : Fld := ⟨TNS_X_SEC_LO, 31, 0⟩
def TNS_X_SEC_HI_SEC_HI : Fld := ⟨TNS_X_SEC_HI, 15, 0⟩
def TNS_X_ADJ_SEC_ADJ_SEC : Fld := ⟨TNS_X_ADJ_SEC, 31, 0⟩
def TNS_X_ADJ_NS_ADJ_NS : Fld := ⟨TNS_X_ADJ_NS, 31, 0⟩
def TNS_X_CTL_PTP_DOMAIN : Fld := ⟨TNS_X_CTL, 23, 16⟩
def TNS_X_CTL_TMO : Fld := ⟨TNS_X_CTL, 15, 8⟩
def TNS_X_CTL_OK : Fld := ⟨TNS_X_CTL, 1, 1⟩
def TNS_X_CTL_STEP : Fld := ⟨TNS_X_CTL, 0, 0⟩
def TNS_TIO_CFG_WIDTH : Fld := ⟨TNS_TIO_CFG, 31, 16⟩
def TNS_TIO_CFG_SUB : Fld := ⟨TNS_TIO_CFG, 11, 9⟩
def TNS_TIO_CFG_LATE : Fld := ⟨TNS_TIO_CFG, 8, 8⟩
def TNS_TIO_CFG_OVF : Fld := ⟨TNS_TIO_CFG, 7, 7⟩
def TNS_TIO_CFG_VALID : Fld := ⟨TNS_TIO_CFG, 6, 6⟩
def TNS_TIO_CFG_MODE : Fld := ⟨TNS_TIO_CFG, 2, 0⟩
def TNS_TIO_NS_NS : Fld := ⟨TNS_TIO_NS, 29, 0⟩
def TNS_TIO_SEC_SEC : Fld := ⟨TNS_TIO_SEC, 31, 0⟩
def RNG_CTL_TRANSPORT : Fld := ⟨RNG_CTL, 8, 8⟩
def RNG_CTL_EN : Fld := ⟨RNG_CTL, 0, 0⟩
def RNG_STAT_STATE : Fld := ⟨RNG_STAT, 31, 30⟩
def RNG_STAT_CPL_FULL : Fld := ⟨RNG_STAT, 29, 29⟩
def RNG_STAT_IDX_ERR : Fld := ⟨RNG_STAT, 28, 28⟩
def RNG_STAT_LONG : Fld := ⟨RNG_STAT, 6, 0⟩
def RNG_CMD_TAIL_TAIL : Fld := ⟨RNG_CMD_TAIL, 15, 0⟩
def RNG_CMD_HEAD_HEAD : Fld := ⟨RNG_CMD_HEAD, 15, 0⟩
def RNG_CPL_TAIL_CTAIL : Fld := ⟨RNG_CPL_TAIL, 15, 0⟩
def RNG_CPL_HEAD_CHEAD : Fld := ⟨RNG_CPL_HEAD, 15, 0⟩
def RNG_SEQ_RING : Fld := ⟨RNG_SEQ, 31, 25⟩
def RNG_SEQ_SEQ : Fld := ⟨RNG_SEQ, 24, 0⟩
def RNG_IRQ_CFG_ALL : Fld := ⟨RNG_IRQ_CFG, 31, 31⟩
def RNG_IRQ_CFG_COUNT : Fld := ⟨RNG_IRQ_CFG, 23, 16⟩
def RNG_IRQ_CFG_TIME_US : Fld := ⟨RNG_IRQ_CFG, 15, 0⟩
def RNG_DEV_CAUSE_CAUSE : Fld := ⟨RNG_DEV_CAUSE, 15, 0⟩
def RNG_DEV_MASK_MASK : Fld := ⟨RNG_DEV_MASK, 15, 0⟩
def RNG_GLB_STAT_STW_OK : Fld := ⟨RNG_GLB_STAT, 31, 31⟩
def RNG_GLB_STAT_STW_RESTARTS : Fld := ⟨RNG_GLB_STAT, 15, 0⟩
def RNG_ETH_PEER_IPV4 : Fld := ⟨RNG_ETH_PEER, 31, 0⟩
def RNG_ETH_CFG_PORT : Fld := ⟨RNG_ETH_CFG, 19, 16⟩
def RNG_ETH_CFG_UDP : Fld := ⟨RNG_ETH_CFG, 15, 0⟩
def RNG_VEC_STAMP_LO_T_LO : Fld := ⟨RNG_VEC_STAMP_LO, 31, 0⟩
def RNG_VEC_STAMP_HI_T_HI : Fld := ⟨RNG_VEC_STAMP_HI, 31, 0⟩
def CEL_STATUS_STATE : Fld := ⟨CEL_STATUS, 31, 30⟩
def CEL_STATUS_OVR_RUN : Fld := ⟨CEL_STATUS, 25, 24⟩
def CEL_STATUS_FOVR_RUN : Fld := ⟨CEL_STATUS, 23, 22⟩
def CEL_STATUS_TORN : Fld := ⟨CEL_STATUS, 21, 21⟩
def CEL_STATUS_LANE_FAIL : Fld := ⟨CEL_STATUS, 20, 20⟩
def CEL_STATUS_SAFE_CAUSE : Fld := ⟨CEL_STATUS, 17, 16⟩
def CEL_CTL_PEAK_CLR : Fld := ⟨CEL_CTL, 1, 1⟩
def CEL_CTL_RELEASE : Fld := ⟨CEL_CTL, 0, 0⟩
def CEL_CERT_BASE_W_BASE : Fld := ⟨CEL_CERT_BASE, 19, 0⟩
def CEL_CERT_LIMIT_LIMIT : Fld := ⟨CEL_CERT_LIMIT, 19, 0⟩
def CEL_CERT_FAST_W_FAST : Fld := ⟨CEL_CERT_FAST, 19, 0⟩
def CEL_CERT_FLIM_FAST_LIMIT : Fld := ⟨CEL_CERT_FLIM, 19, 0⟩
def CEL_BUDGET_TT_EXCL : Fld := ⟨CEL_BUDGET, 23, 23⟩
def CEL_BUDGET_TT_IDX : Fld := ⟨CEL_BUDGET, 22, 21⟩
def CEL_BUDGET_B : Fld := ⟨CEL_BUDGET, 19, 0⟩
def CEL_STEP_USED_LAST : Fld := ⟨CEL_STEP_USED, 19, 0⟩
def CEL_STEP_PEAK_PEAK : Fld := ⟨CEL_STEP_PEAK, 19, 0⟩
def CEL_WAIT_PEAK_WAIT : Fld := ⟨CEL_WAIT_PEAK, 19, 0⟩
def CEL_TT_COUNT : Fld := ⟨CEL_TT, 19, 0⟩
def CEL_OVR_LAST_CYCLE : Fld := ⟨CEL_OVR_LAST, 31, 0⟩
def CEL_TORN_ADDR_ADDR : Fld := ⟨CEL_TORN_ADDR, 20, 0⟩
def CEL_TORN_SRC_SRC : Fld := ⟨CEL_TORN_SRC, 7, 0⟩
def CEL_CONF_COUNT : Fld := ⟨CEL_CONF, 31, 0⟩
def CEL_LOOP_SUM_SAT_ANY : Fld := ⟨CEL_LOOP_SUM, 31, 31⟩
def CEL_LOOP_SUM_BAD_ANY : Fld := ⟨CEL_LOOP_SUM, 30, 30⟩
def CEL_LOOP_SUM_CLAMP_ANY : Fld := ⟨CEL_LOOP_SUM, 29, 29⟩
def CEL_LOOP_SUM_DIS_ANY : Fld := ⟨CEL_LOOP_SUM, 28, 28⟩
def CEL_LOOP_SUM_SLOTS : Fld := ⟨CEL_LOOP_SUM, 24, 16⟩
def CEL_LOOP_SUM_LOOPS : Fld := ⟨CEL_LOOP_SUM, 8, 0⟩
def CEL_TRACE_SUM_FROZEN : Fld := ⟨CEL_TRACE_SUM, 27, 19⟩
def CEL_TRACE_SUM_BYTES : Fld := ⟨CEL_TRACE_SUM, 18, 0⟩
def CEL_LOOP_MANHOLD_HOLD : Fld := ⟨CEL_LOOP_MANHOLD, 31, 0⟩
def CEL_LOOP_TRACK_TRACK : Fld := ⟨CEL_LOOP_TRACK, 31, 0⟩
def CEL_SEQ_SUM_LATE_ANY : Fld := ⟨CEL_SEQ_SUM, 31, 31⟩
def CEL_SEQ_SUM_FAULT_ANY : Fld := ⟨CEL_SEQ_SUM, 30, 30⟩
def CEL_SEQ_SUM_HELD : Fld := ⟨CEL_SEQ_SUM, 21, 11⟩
def CEL_SEQ_SUM_RUNNING : Fld := ⟨CEL_SEQ_SUM, 10, 0⟩
def CEL_SEQ_RES_RAMPS : Fld := ⟨CEL_SEQ_RES, 19, 11⟩
def CEL_SEQ_RES_WAITS : Fld := ⟨CEL_SEQ_RES, 10, 0⟩
def CEL_SEQ_TMR_TIMERS : Fld := ⟨CEL_SEQ_TMR, 12, 0⟩
def CEL_SEQ_DISP_PEAK : Fld := ⟨CEL_SEQ_DISP, 28, 16⟩
def CEL_SEQ_DISP_LAST : Fld := ⟨CEL_SEQ_DISP, 12, 0⟩
def CEL_SEQ_LATE_COUNT : Fld := ⟨CEL_SEQ_LATE, 31, 0⟩
def CEL_LOGIC_SUM_ERR_ANY : Fld := ⟨CEL_LOGIC_SUM, 31, 31⟩
def CEL_LOGIC_SUM_STOPPED : Fld := ⟨CEL_LOGIC_SUM, 30, 30⟩
def CEL_LOGIC_SUM_RESYNC_ANY : Fld := ⟨CEL_LOGIC_SUM, 29, 29⟩
def CEL_LOGIC_SUM_ENABLED : Fld := ⟨CEL_LOGIC_SUM, 14, 8⟩
def CEL_LOGIC_SUM_TASKS : Fld := ⟨CEL_LOGIC_SUM, 6, 0⟩
def CEL_LOGIC_CODE_WORDS : Fld := ⟨CEL_LOGIC_CODE, 18, 0⟩
def CEL_TASK_STAT_DEFINED : Fld := ⟨CEL_TASK_STAT, 31, 31⟩
def CEL_TASK_STAT_ENABLED : Fld := ⟨CEL_TASK_STAT, 30, 30⟩
def CEL_TASK_STAT_FIRST : Fld := ⟨CEL_TASK_STAT, 29, 29⟩
def CEL_TASK_STAT_ARITH_ERR : Fld := ⟨CEL_TASK_STAT, 28, 28⟩
def CEL_TASK_STAT_STALE_IN : Fld := ⟨CEL_TASK_STAT, 27, 27⟩
def CEL_TASK_STAT_ABS_OUT : Fld := ⟨CEL_TASK_STAT, 26, 26⟩
def CEL_TASK_STAT_PERIOD : Fld := ⟨CEL_TASK_STAT, 9, 0⟩
def CEL_LOOP_STAT_DEFINED : Fld := ⟨CEL_LOOP_STAT, 15, 15⟩
def CEL_LOOP_STAT_ENABLED : Fld := ⟨CEL_LOOP_STAT, 14, 14⟩
def CEL_LOOP_STAT_MODE : Fld := ⟨CEL_LOOP_STAT, 13, 12⟩
def CEL_LOOP_STAT_OUT_FORCED : Fld := ⟨CEL_LOOP_STAT, 11, 11⟩
def CEL_LOOP_STAT_BAD_IN : Fld := ⟨CEL_LOOP_STAT, 10, 10⟩
def CEL_LOOP_STAT_BAD_SP : Fld := ⟨CEL_LOOP_STAT, 9, 9⟩
def CEL_LOOP_STAT_SAT_HI : Fld := ⟨CEL_LOOP_STAT, 8, 8⟩
def CEL_LOOP_STAT_SAT_LO : Fld := ⟨CEL_LOOP_STAT, 7, 7⟩
def CEL_LOOP_STAT_RATE_LIM : Fld := ⟨CEL_LOOP_STAT, 6, 6⟩
def CEL_LOOP_STAT_I_HOLD : Fld := ⟨CEL_LOOP_STAT, 5, 5⟩
def CEL_LOOP_STAT_I_CLAMP : Fld := ⟨CEL_LOOP_STAT, 4, 4⟩
def CEL_LOOP_STAT_RESUMED : Fld := ⟨CEL_LOOP_STAT, 3, 3⟩
def CEL_LOOP_STAT_SWAP_PEND : Fld := ⟨CEL_LOOP_STAT, 2, 2⟩
def CEL_LOOP_STAT_TRACE : Fld := ⟨CEL_LOOP_STAT, 1, 0⟩
def CEL_AXIS_STAT_DEFINED : Fld := ⟨CEL_AXIS_STAT, 31, 31⟩
def CEL_AXIS_STAT_STATE : Fld := ⟨CEL_AXIS_STAT, 30, 28⟩
def CEL_AXIS_STAT_MODE : Fld := ⟨CEL_AXIS_STAT, 27, 26⟩
def CEL_AXIS_STAT_TRQ_HOLD : Fld := ⟨CEL_AXIS_STAT, 25, 25⟩
def CEL_AXIS_STAT_REF_LOST : Fld := ⟨CEL_AXIS_STAT, 24, 24⟩
def CEL_AXIS_STAT_SAT : Fld := ⟨CEL_AXIS_STAT, 23, 23⟩
def CEL_AXIS_STAT_I_HOLD : Fld := ⟨CEL_AXIS_STAT, 22, 22⟩
def CEL_AXIS_STAT_RESUMED : Fld := ⟨CEL_AXIS_STAT, 21, 21⟩
def CEL_AXIS_STAT_F_ENC : Fld := ⟨CEL_AXIS_STAT, 15, 15⟩
def CEL_AXIS_STAT_F_FE : Fld := ⟨CEL_AXIS_STAT, 14, 14⟩
def CEL_AXIS_STAT_F_OVS : Fld := ⟨CEL_AXIS_STAT, 13, 13⟩
def CEL_AXIS_STAT_F_SAT : Fld := ⟨CEL_AXIS_STAT, 12, 12⟩
def CEL_AXIS_STAT_F_SOFT : Fld := ⟨CEL_AXIS_STAT, 11, 11⟩
def CEL_AXIS_STAT_F_DRV : Fld := ⟨CEL_AXIS_STAT, 10, 10⟩
def CEL_AXIS_STAT_PG : Fld := ⟨CEL_AXIS_STAT, 2, 0⟩
def CEL_PG_STAT_DEFINED : Fld := ⟨CEL_PG_STAT, 31, 31⟩
def CEL_PG_STAT_STATE : Fld := ⟨CEL_PG_STAT, 30, 29⟩
def CEL_PG_STAT_PEND : Fld := ⟨CEL_PG_STAT, 28, 28⟩
def CEL_PG_STAT_QUICK : Fld := ⟨CEL_PG_STAT, 27, 27⟩
def CEL_PG_STAT_JERK_CUT : Fld := ⟨CEL_PG_STAT, 26, 26⟩
def CEL_PG_STAT_RATE : Fld := ⟨CEL_PG_STAT, 25, 25⟩
def CEL_PG_STAT_LIM_PEND : Fld := ⟨CEL_PG_STAT, 24, 24⟩
def CEL_PG_STAT_SEG : Fld := ⟨CEL_PG_STAT, 2, 0⟩
def CEL_FLOW_STAT_DEFINED : Fld := ⟨CEL_FLOW_STAT, 31, 31⟩
def CEL_FLOW_STAT_STATE : Fld := ⟨CEL_FLOW_STAT, 30, 28⟩
def CEL_FLOW_STAT_LATE : Fld := ⟨CEL_FLOW_STAT, 27, 27⟩
def CEL_FLOW_STAT_STEP_TMO : Fld := ⟨CEL_FLOW_STAT, 26, 26⟩
def CEL_FLOW_STAT_DEAD_END : Fld := ⟨CEL_FLOW_STAT, 25, 25⟩
def CEL_FLOW_STAT_CALC_ERR : Fld := ⟨CEL_FLOW_STAT, 24, 24⟩
def CEL_FLOW_STAT_RESUME_WAIT : Fld := ⟨CEL_FLOW_STAT, 23, 23⟩
def CEL_FLOW_STAT_PENDING : Fld := ⟨CEL_FLOW_STAT, 22, 22⟩
def CEL_FLOW_STAT_STEP : Fld := ⟨CEL_FLOW_STAT, 15, 0⟩
def ADC_ROT_DEGRADED : Fld := ⟨ADC_ROT, 31, 31⟩
def ADC_ROT_MISMATCH : Fld := ⟨ADC_ROT, 30, 30⟩
def ADC_ROT_READY : Fld := ⟨ADC_ROT, 29, 29⟩
def ADC_ROT_CAL_CORE : Fld := ⟨ADC_ROT, 24, 20⟩
def ADC_ROT_NEXT : Fld := ⟨ADC_ROT, 19, 16⟩
def ADC_CORE_FAIL : Fld := ⟨ADC_CORE, 16, 0⟩
def ADC_CORE_FULL_FULL : Fld := ⟨ADC_CORE_FULL, 16, 0⟩
def ADC_MAP_PHYS_3 : Fld := ⟨ADC_MAP, 28, 24⟩
def ADC_MAP_PHYS_2 : Fld := ⟨ADC_MAP, 20, 16⟩
def ADC_MAP_PHYS_1 : Fld := ⟨ADC_MAP, 12, 8⟩
def ADC_MAP_PHYS_0 : Fld := ⟨ADC_MAP, 4, 0⟩
def ADC_SEQ_CTL_ENABLED : Fld := ⟨ADC_SEQ_CTL, 31, 31⟩
def ADC_SEQ_CTL_LEN_M1 : Fld := ⟨ADC_SEQ_CTL, 24, 20⟩
def ADC_SEQ_CTL_URG_COUNT : Fld := ⟨ADC_SEQ_CTL, 18, 16⟩
def ADC_SEQ_CTL_ALIGN : Fld := ⟨ADC_SEQ_CTL, 0, 0⟩
def ADC_OVR_OVR : Fld := ⟨ADC_OVR, 31, 0⟩
def ADC_NEW_NEW : Fld := ⟨ADC_NEW, 31, 0⟩
def ADC_RES_STAT_OVR : Fld := ⟨ADC_RES_STAT, 31, 31⟩
def ADC_RES_STAT_DISP : Fld := ⟨ADC_RES_STAT, 30, 30⟩
def ADC_RES_STAT_ENTRY : Fld := ⟨ADC_RES_STAT, 4, 0⟩
def ADC_URG_CTL_GO : Fld := ⟨ADC_URG_CTL, 31, 31⟩
def ADC_URG_CTL_BUSY : Fld := ⟨ADC_URG_CTL, 30, 30⟩
def ADC_URG_CTL_PEND : Fld := ⟨ADC_URG_CTL, 29, 29⟩
def ADC_URG_CTL_DONE : Fld := ⟨ADC_URG_CTL, 28, 28⟩
def ADC_URG_CTL_LOST : Fld := ⟨ADC_URG_CTL, 27, 27⟩
def ADC_URG_CTL_OVR_U : Fld := ⟨ADC_URG_CTL, 3, 0⟩
def ADC_URG_STAMP_STAMP : Fld := ⟨ADC_URG_STAMP, 31, 0⟩
def ADC_URES_RESULT : Fld := ⟨ADC_URES, 31, 0⟩
def ADC_RES_RESULT : Fld := ⟨ADC_RES, 31, 0⟩
def DAC_STAT_ENABLED : Fld := ⟨DAC_STAT, 31, 31⟩
def DAC_STAT_FAST : Fld := ⟨DAC_STAT, 30, 30⟩
def DAC_STAT_DRIVEN : Fld := ⟨DAC_STAT, 29, 29⟩
def DAC_STAT_LIMIT : Fld := ⟨DAC_STAT, 28, 28⟩
def DAC_STAT_RB_FAULT : Fld := ⟨DAC_STAT, 27, 27⟩
def DAC_STAT_CODE : Fld := ⟨DAC_STAT, 15, 0⟩
def DAC_SRC_SRC_PT : Fld := ⟨DAC_SRC, 31, 0⟩
def ENC_STAT_MODE : Fld := ⟨ENC_STAT, 31, 30⟩
def ENC_STAT_FAULT_NOW : Fld := ⟨ENC_STAT, 29, 29⟩
def ENC_STAT_FAULT : Fld := ⟨ENC_STAT, 28, 28⟩
def ENC_STAT_ILLEGAL : Fld := ⟨ENC_STAT, 27, 27⟩
def ENC_STAT_FRAME : Fld := ⟨ENC_STAT, 26, 26⟩
def ENC_STAT_INDEX_VALID : Fld := ⟨ENC_STAT, 25, 25⟩
def ENC_STAT_AXIS : Fld := ⟨ENC_STAT, 24, 24⟩
def ENC_COUNT_COUNT : Fld := ⟨ENC_COUNT, 31, 0⟩
def ENC_INDEX_INDEX : Fld := ⟨ENC_INDEX, 31, 0⟩
def ENC_RAW_RAW : Fld := ⟨ENC_RAW, 31, 0⟩
def ACQ_ARMED_ARMED : Fld := ⟨ACQ_ARMED, 23, 0⟩
def ACQ_OVF_OVF : Fld := ⟨ACQ_OVF, 23, 0⟩
def ACQ_GROUP_MASTER : Fld := ⟨ACQ_GROUP, 28, 24⟩
def ACQ_GROUP_MEMBERS : Fld := ⟨ACQ_GROUP, 23, 0⟩
def ACQ_STAT_STATE : Fld := ⟨ACQ_STAT, 31, 29⟩
def ACQ_STAT_SHORT : Fld := ⟨ACQ_STAT, 28, 28⟩
def ACQ_STAT_ALIGN : Fld := ⟨ACQ_STAT, 27, 27⟩
def ACQ_STAT_MASTER : Fld := ⟨ACQ_STAT, 26, 26⟩
def ACQ_STAT_GROUPED : Fld := ⟨ACQ_STAT, 25, 25⟩
def ACQ_STAT_GROUP : Fld := ⟨ACQ_STAT, 24, 22⟩
def ACQ_STAT_PRESET : Fld := ⟨ACQ_STAT, 7, 0⟩
def ACQ_FILL_COUNT : Fld := ⟨ACQ_FILL, 20, 0⟩
def ACQ_IGN_IGNORED : Fld := ⟨ACQ_IGN, 31, 0⟩
def ACQ_REC_SEQ : Fld := ⟨ACQ_REC, 31, 0⟩
def ACQ_BUF_FREE : Fld := ⟨ACQ_BUF, 28, 16⟩
def ACQ_BUF_BUFS : Fld := ⟨ACQ_BUF, 12, 0⟩
def HST_CTL_CUT : Fld := ⟨HST_CTL, 0, 0⟩
def HST_STATUS_STATE : Fld := ⟨HST_STATUS, 31, 30⟩
def HST_STATUS_FULL_ACT : Fld := ⟨HST_STATUS, 29, 29⟩
def HST_STATUS_LOSS : Fld := ⟨HST_STATUS, 28, 28⟩
def HST_STATUS_SKIP : Fld := ⟨HST_STATUS, 27, 27⟩
def HST_STATUS_OVERWROTE : Fld := ⟨HST_STATUS, 26, 26⟩
def HST_STATUS_RESYNC_LEFT : Fld := ⟨HST_STATUS, 6, 0⟩
def HST_RING_LO_BASE_LO : Fld := ⟨HST_RING_LO, 31, 0⟩
def HST_RING_HI_BASE_HI : Fld := ⟨HST_RING_HI, 31, 0⟩
def HST_RING_CFG_SEG_LOG2 : Fld := ⟨HST_RING_CFG, 28, 24⟩
def HST_RING_CFG_SEG_COUNT : Fld := ⟨HST_RING_CFG, 16, 0⟩
def HST_SEQ_FILL_SEQ : Fld := ⟨HST_SEQ_FILL, 31, 0⟩
def HST_SEQ_OLDEST_SEQ : Fld := ⟨HST_SEQ_OLDEST, 31, 0⟩
def HST_SEG_USE_DRAINING : Fld := ⟨HST_SEG_USE, 18, 16⟩
def HST_SEG_USE_SEALED : Fld := ⟨HST_SEG_USE, 15, 0⟩
def HST_LAST_N_N_LO : Fld := ⟨HST_LAST_N, 31, 0⟩
def HST_LOST_CUTS : Fld := ⟨HST_LOST, 31, 0⟩
def HST_RATE_KIB_S : Fld := ⟨HST_RATE, 31, 0⟩
def CAN_STAT_MODE : Fld := ⟨CAN_STAT, 31, 30⟩
def CAN_STAT_TT : Fld := ⟨CAN_STAT, 29, 28⟩
def CAN_STAT_MASTER : Fld := ⟨CAN_STAT, 26, 24⟩
def CAN_STAT_CYCLE : Fld := ⟨CAN_STAT, 21, 16⟩
def CAN_STAT_TEC : Fld := ⟨CAN_STAT, 15, 8⟩
def CAN_STAT_REC : Fld := ⟨CAN_STAT, 7, 0⟩
def CAN_ERR_BUSOFF_CNT : Fld := ⟨CAN_ERR, 31, 16⟩
def CAN_ERR_TX_MISS : Fld := ⟨CAN_ERR, 3, 3⟩
def CAN_ERR_REF_LOST : Fld := ⟨CAN_ERR, 2, 2⟩
def CAN_ERR_OVR : Fld := ⟨CAN_ERR, 1, 1⟩
def CAN_ERR_BUSOFF : Fld := ⟨CAN_ERR, 0, 0⟩
def ETH_PORT_CFG_LINK : Fld := ⟨ETH_PORT_CFG, 31, 31⟩
def ETH_PORT_CFG_SPEED : Fld := ⟨ETH_PORT_CFG, 30, 29⟩
def ETH_PORT_CFG_FILTER : Fld := ⟨ETH_PORT_CFG, 28, 28⟩
def ETH_PORT_CFG_PTP_DOM : Fld := ⟨ETH_PORT_CFG, 25, 24⟩
def ETH_PORT_CFG_PRP : Fld := ⟨ETH_PORT_CFG, 17, 16⟩
def ETH_LAT_TX_NS : Fld := ⟨ETH_LAT, 31, 16⟩
def ETH_LAT_RX_NS : Fld := ⟨ETH_LAT, 15, 0⟩
def ETH_DROP_COUNT : Fld := ⟨ETH_DROP, 31, 0⟩
def ETH_STA_SUM_ADMIT_OPEN : Fld := ⟨ETH_STA_SUM, 31, 31⟩
def ETH_STA_SUM_ADMITTED : Fld := ⟨ETH_STA_SUM, 25, 16⟩
def ETH_STA_SUM_WAITING : Fld := ⟨ETH_STA_SUM, 9, 0⟩
def ETH_STA_STAT_DEFINED : Fld := ⟨ETH_STA_STAT, 31, 31⟩
def ETH_STA_STAT_STATE : Fld := ⟨ETH_STA_STAT, 30, 28⟩
def ETH_STA_STAT_DEGRADED : Fld := ⟨ETH_STA_STAT, 27, 27⟩
def ETH_STA_STAT_DUP : Fld := ⟨ETH_STA_STAT, 26, 26⟩
def ETH_STA_STAT_MISS : Fld := ⟨ETH_STA_STAT, 25, 22⟩
def ETH_STA_STAT_DROPS : Fld := ⟨ETH_STA_STAT, 15, 0⟩
def LNK_STATE_STATE : Fld := ⟨LNK_STATE, 31, 29⟩
def LNK_STATE_CAUSE : Fld := ⟨LNK_STATE, 28, 26⟩
def LNK_STATE_LINK_OK : Fld := ⟨LNK_STATE, 25, 25⟩
def LNK_STATE_MEMBERS : Fld := ⟨LNK_STATE, 24, 16⟩
def LNK_STATE_HOPS : Fld := ⟨LNK_STATE, 2, 0⟩
def LNK_ROUTE_LO_N_LO : Fld := ⟨LNK_ROUTE_LO, 31, 0⟩
def LNK_ROUTE_HI_N_HI : Fld := ⟨LNK_ROUTE_HI, 31, 0⟩
def LNK_IMPORT_FAILED : Fld := ⟨LNK_IMPORT, 14, 0⟩
def LNK_LATE_COUNT : Fld := ⟨LNK_LATE, 31, 0⟩
def LNK_PORT_STATE : Fld := ⟨LNK_PORT, 31, 30⟩
def LNK_PORT_DECLARED : Fld := ⟨LNK_PORT, 29, 29⟩
def LNK_PORT_PAIR : Fld := ⟨LNK_PORT, 28, 28⟩
def LNK_PORT_NB_DEV : Fld := ⟨LNK_PORT, 27, 20⟩
def LNK_PORT_NB_PORT : Fld := ⟨LNK_PORT, 19, 16⟩
def LNK_PORT_DELAY_NS : Fld := ⟨LNK_PORT, 15, 0⟩
def LNK_PORT_ERR_REPEATS : Fld := ⟨LNK_PORT_ERR, 31, 16⟩
def LNK_PORT_ERR_DOWNS : Fld := ⟨LNK_PORT_ERR, 15, 0⟩
def LNK_PORT_LOAD_ENTRIES : Fld := ⟨LNK_PORT_LOAD, 14, 0⟩
def LNK_MEMBER_JOINED : Fld := ⟨LNK_MEMBER, 31, 0⟩
def CTR_LO_VALUE_LO : Fld := ⟨CTR_LO, 31, 0⟩
def CTR_HI_WRAP : Fld := ⟨CTR_HI, 31, 31⟩
def CTR_HI_VALUE_HI : Fld := ⟨CTR_HI, 15, 0⟩
def CTR_SNAP_LO_VALUE_LO : Fld := ⟨CTR_SNAP_LO, 31, 0⟩
def CTR_SNAP_HI_WRAP : Fld := ⟨CTR_SNAP_HI, 31, 31⟩
def CTR_SNAP_HI_VALUE_HI : Fld := ⟨CTR_SNAP_HI, 15, 0⟩
def CTR_SNAP_CTL_BUSY : Fld := ⟨CTR_SNAP_CTL, 31, 31⟩
def CTR_SNAP_CTL_DROPPED : Fld := ⟨CTR_SNAP_CTL, 30, 30⟩
def CTR_SNAP_CTL_FREEZE : Fld := ⟨CTR_SNAP_CTL, 0, 0⟩
def CTR_SNAP_SEQ_SEQ : Fld := ⟨CTR_SNAP_SEQ, 31, 0⟩
def CTR_SNAP_T_LO_T_LO : Fld := ⟨CTR_SNAP_T_LO, 31, 0⟩
def CTR_SNAP_T_HI_T_HI : Fld := ⟨CTR_SNAP_T_HI, 31, 0⟩
def CTR_PRE_LO_VALUE_LO : Fld := ⟨CTR_PRE_LO, 31, 0⟩
def CTR_PRE_HI_VALUE_HI : Fld := ⟨CTR_PRE_HI, 15, 0⟩
def CTR_PRE_CTL_GO : Fld := ⟨CTR_PRE_CTL, 31, 31⟩
def CTR_PRE_CTL_NUM : Fld := ⟨CTR_PRE_CTL, 9, 0⟩
def CTR_SLIP_COUNT : Fld := ⟨CTR_SLIP, 31, 0⟩
def CTR_SLIP_LAST_NUM : Fld := ⟨CTR_SLIP_LAST, 9, 0⟩
def CTR_BW_CFG_EN : Fld := ⟨CTR_BW_CFG, 31, 31⟩
def CTR_BW_CFG_UNIT : Fld := ⟨CTR_BW_CFG, 30, 30⟩
def CTR_BW_CFG_PEAK_CLR : Fld := ⟨CTR_BW_CFG, 29, 29⟩
def CTR_BW_CFG_WIN_US : Fld := ⟨CTR_BW_CFG, 19, 0⟩
def CTR_BW_LAST_AMOUNT : Fld := ⟨CTR_BW_LAST, 31, 0⟩
def CTR_BW_PEAK_AMOUNT : Fld := ⟨CTR_BW_PEAK, 31, 0⟩
def CTR_BW_WIN_SAT : Fld := ⟨CTR_BW_WIN, 31, 31⟩
def CTR_BW_WIN_WINDOWS : Fld := ⟨CTR_BW_WIN, 30, 0⟩
def CTR_PERM_PERM : Fld := ⟨CTR_PERM, 31, 0⟩
def SAF_STATE_STATE : Fld := ⟨SAF_STATE, 31, 30⟩
def SAF_STATE_STARTING : Fld := ⟨SAF_STATE, 29, 29⟩
def SAF_STATE_BRIDGE_OK : Fld := ⟨SAF_STATE, 28, 28⟩
def SAF_STATE_CFG_VALID : Fld := ⟨SAF_STATE, 27, 27⟩
def SAF_STATE_REF_MISMATCH : Fld := ⟨SAF_STATE, 26, 26⟩
def SAF_STATE_LOCKOUT : Fld := ⟨SAF_STATE, 25, 25⟩
def SAF_STATE_PROPOSAL : Fld := ⟨SAF_STATE, 24, 24⟩
def SAF_STATE_CAUSE : Fld := ⟨SAF_STATE, 15, 8⟩
def SAF_STATE_APPROVALS : Fld := ⟨SAF_STATE, 1, 0⟩
def SAF_PAIRS_HEALTHY : Fld := ⟨SAF_PAIRS, 31, 0⟩
def SAF_PAIR_FLT_FAULT : Fld := ⟨SAF_PAIR_FLT, 31, 0⟩
def SAF_FUNCS_PERMIT : Fld := ⟨SAF_FUNCS, 31, 0⟩
def SAF_OUTS_FAULT : Fld := ⟨SAF_OUTS, 27, 16⟩
def SAF_OUTS_ON : Fld := ⟨SAF_OUTS, 11, 0⟩
def SAF_SAMPLE_S : Fld := ⟨SAF_SAMPLE, 31, 0⟩
def SAF_CFG_SEQ_SEQ : Fld := ⟨SAF_CFG_SEQ, 31, 0⟩
def SAF_CFG_BANK_BANK : Fld := ⟨SAF_CFG_BANK, 0, 0⟩
def SAF_DIGEST_DIGEST : Fld := ⟨SAF_DIGEST, 31, 0⟩
def SAF_PAIR_STATE : Fld := ⟨SAF_PAIR, 31, 29⟩
def SAF_PAIR_FCAUSE : Fld := ⟨SAF_PAIR, 28, 27⟩
def SAF_PAIR_BOTH_OPEN : Fld := ⟨SAF_PAIR, 26, 26⟩
def SAF_PAIR_X_RAW_A : Fld := ⟨SAF_PAIR, 25, 25⟩
def SAF_PAIR_Y_RAW_A : Fld := ⟨SAF_PAIR, 24, 24⟩
def SAF_PAIR_X_RAW_B : Fld := ⟨SAF_PAIR, 23, 23⟩
def SAF_PAIR_Y_RAW_B : Fld := ⟨SAF_PAIR, 22, 22⟩
def SAF_PAIR_X_H : Fld := ⟨SAF_PAIR, 21, 21⟩
def SAF_PAIR_Y_H : Fld := ⟨SAF_PAIR, 20, 20⟩
def SAF_PAIR_DISC_LEFT : Fld := ⟨SAF_PAIR, 13, 0⟩
def SAF_FUNC_STATE : Fld := ⟨SAF_FUNC, 31, 29⟩
def SAF_FUNC_SYNC_FAIL : Fld := ⟨SAF_FUNC, 28, 28⟩
def SAF_OUT_STATE : Fld := ⟨SAF_OUT, 31, 30⟩
def SAF_OUT_FCAUSE : Fld := ⟨SAF_OUT, 29, 27⟩
def SAF_OUT_MAIN_DEMAND : Fld := ⟨SAF_OUT, 26, 26⟩
def SAF_OUT_EDM_REL : Fld := ⟨SAF_OUT, 25, 25⟩
def SAF_OUT_RB_ON : Fld := ⟨SAF_OUT, 24, 24⟩
def SAF_OUT_PIN_A : Fld := ⟨SAF_OUT, 23, 23⟩
def SAF_OUT_PIN_B : Fld := ⟨SAF_OUT, 22, 22⟩
def SAF_OUT_NEXT_B : Fld := ⟨SAF_OUT, 21, 21⟩
def SAF_OUT_TP_DUE_S : Fld := ⟨SAF_OUT, 5, 0⟩
def MEM_WIN_STAT_COLLISION : Fld := ⟨MEM_WIN_STAT, 31, 31⟩
def MEM_WIN_COLL_COUNT : Fld := ⟨MEM_WIN_COLL, 31, 0⟩
def MEM_WIN_COLL_ADDR_ADDR : Fld := ⟨MEM_WIN_COLL_ADDR, 21, 0⟩
def MEM_SEC_STAT_WIPING : Fld := ⟨MEM_SEC_STAT, 31, 31⟩
def MEM_SEC_STAT_CAUSE : Fld := ⟨MEM_SEC_STAT, 30, 28⟩
def MEM_SEC_STAT_WIPES : Fld := ⟨MEM_SEC_STAT, 15, 0⟩
def MEM_ECC_LAST_MEMORY : Fld := ⟨MEM_ECC_LAST, 31, 28⟩
def MEM_ECC_LAST_CELL : Fld := ⟨MEM_ECC_LAST, 27, 22⟩
def MEM_ECC_LAST_VALID : Fld := ⟨MEM_ECC_LAST, 21, 21⟩
def MEM_ECC_ADDR_LO_ADDR_LO : Fld := ⟨MEM_ECC_ADDR_LO, 31, 0⟩
def MEM_ECC_ADDR_HI_ADDR_HI : Fld := ⟨MEM_ECC_ADDR_HI, 4, 0⟩
def MEM_MARCH_CTL_EN : Fld := ⟨MEM_MARCH_CTL, 0, 0⟩
def MEM_MARCH_STAT_FAULT : Fld := ⟨MEM_MARCH_STAT, 31, 31⟩
def MEM_MARCH_STAT_PASSES : Fld := ⟨MEM_MARCH_STAT, 15, 0⟩
def MEM_MARCH_FAIL_MEMORY : Fld := ⟨MEM_MARCH_FAIL, 28, 27⟩
def MEM_MARCH_FAIL_ADDR : Fld := ⟨MEM_MARCH_FAIL, 26, 0⟩
def MEM_CONF_CLR_CLR : Fld := ⟨MEM_CONF_CLR, 0, 0⟩
def MEM_CKPT_CTL_BG_EN : Fld := ⟨MEM_CKPT_CTL, 0, 0⟩
def MEM_CKPT_STAT_BUSY : Fld := ⟨MEM_CKPT_STAT, 31, 31⟩
def MEM_CKPT_STAT_KIND : Fld := ⟨MEM_CKPT_STAT, 30, 28⟩
def MEM_CKPT_STAT_A_VALID : Fld := ⟨MEM_CKPT_STAT, 27, 27⟩
def MEM_CKPT_STAT_B_VALID : Fld := ⟨MEM_CKPT_STAT, 26, 26⟩
def MEM_CKPT_STAT_NEWER : Fld := ⟨MEM_CKPT_STAT, 25, 25⟩
def MEM_CKPT_STAT_FROZEN : Fld := ⟨MEM_CKPT_STAT, 24, 24⟩
def MEM_CKPT_STAT_ABANDON : Fld := ⟨MEM_CKPT_STAT, 23, 23⟩
def MEM_CKPT_STAT_SKIPPED : Fld := ⟨MEM_CKPT_STAT, 22, 22⟩
def MEM_CKPT_STAT_FEED_A_LOW : Fld := ⟨MEM_CKPT_STAT, 21, 21⟩
def MEM_CKPT_STAT_FEED_B_LOW : Fld := ⟨MEM_CKPT_STAT, 20, 20⟩
def MEM_CKPT_SEQ_SEQ : Fld := ⟨MEM_CKPT_SEQ, 31, 0⟩
def MEM_CKPT_N_LO_N_LO : Fld := ⟨MEM_CKPT_N_LO, 31, 0⟩
def MEM_CKPT_N_HI_N_HI : Fld := ⟨MEM_CKPT_N_HI, 31, 0⟩
def MEM_CKPT_BYTES_BYTES : Fld := ⟨MEM_CKPT_BYTES, 22, 0⟩
def MEM_WIN_CONF_COUNT : Fld := ⟨MEM_WIN_CONF, 31, 0⟩
def DDR_STAT_TRAINED : Fld := ⟨DDR_STAT, 31, 31⟩
def DDR_STAT_PRESENT : Fld := ⟨DDR_STAT, 30, 30⟩
def DDR_STAT_SIZE_GIB : Fld := ⟨DDR_STAT, 23, 16⟩
def DDR_STAT_MTS : Fld := ⟨DDR_STAT, 15, 0⟩
def DDR_SCRUB_PASSES : Fld := ⟨DDR_SCRUB, 31, 0⟩
def SEC_LC_STATE : Fld := ⟨SEC_LC, 31, 29⟩
def SEC_LC_SYSBANK_LOST : Fld := ⟨SEC_LC, 28, 28⟩
def SEC_LC_FW_FALLBACK : Fld := ⟨SEC_LC, 27, 27⟩
def SEC_LC_RECOVERY : Fld := ⟨SEC_LC, 26, 26⟩
def SEC_LC_FW_SLOT : Fld := ⟨SEC_LC, 25, 24⟩
def SEC_LC_AUTH_MASK : Fld := ⟨SEC_LC, 7, 4⟩
def SEC_LC_IMG_MASK : Fld := ⟨SEC_LC, 3, 0⟩
def SEC_FW_VER_VERSION : Fld := ⟨SEC_FW_VER, 31, 0⟩
def SEC_FW_SVN_FLOOR : Fld := ⟨SEC_FW_SVN, 31, 16⟩
def SEC_FW_SVN_SVN : Fld := ⟨SEC_FW_SVN, 15, 0⟩
def SEC_PROP_PENDING : Fld := ⟨SEC_PROP, 31, 31⟩
def SEC_PROP_APPROVALS : Fld := ⟨SEC_PROP, 30, 29⟩
def SEC_PROP_VIA_MNT : Fld := ⟨SEC_PROP, 28, 28⟩
def SEC_PROP_KIND : Fld := ⟨SEC_PROP, 22, 20⟩
def SEC_PROP_SLOTS : Fld := ⟨SEC_PROP, 19, 16⟩
def SEC_PROP_LEFT_S : Fld := ⟨SEC_PROP, 9, 0⟩
def SEC_PROP_SEQ_SEQ : Fld := ⟨SEC_PROP_SEQ, 31, 0⟩
def SEC_TAMPER_LATCH : Fld := ⟨SEC_TAMPER, 31, 31⟩
def SEC_TAMPER_MESH : Fld := ⟨SEC_TAMPER, 30, 30⟩
def SEC_TAMPER_VOLT : Fld := ⟨SEC_TAMPER, 29, 29⟩
def SEC_TAMPER_TEMP : Fld := ⟨SEC_TAMPER, 28, 28⟩
def SEC_TAMPER_LIGHT : Fld := ⟨SEC_TAMPER, 27, 27⟩
def SEC_TAMPER_ON_VBAT : Fld := ⟨SEC_TAMPER, 26, 26⟩
def SEC_TAMPER_COUNT : Fld := ⟨SEC_TAMPER, 15, 0⟩
def SEC_SERIAL_SERIAL : Fld := ⟨SEC_SERIAL, 31, 0⟩
def SEC_DBG_OPEN : Fld := ⟨SEC_DBG, 31, 31⟩
def SEC_DBG_CAUSE : Fld := ⟨SEC_DBG, 30, 28⟩
def SEC_DBG_LEFT_S : Fld := ⟨SEC_DBG, 13, 0⟩
def AGE_STAT_ALARM : Fld := ⟨AGE_STAT, 31, 31⟩
def AGE_STAT_FORERUNNER : Fld := ⟨AGE_STAT, 30, 30⟩
def AGE_STAT_PMB_FAULT : Fld := ⟨AGE_STAT, 29, 29⟩
def AGE_STAT_PROBE : Fld := ⟨AGE_STAT, 28, 28⟩
def AGE_STAT_LOWER_HOLD : Fld := ⟨AGE_STAT, 27, 27⟩
def AGE_STAT_SPARES : Fld := ⟨AGE_STAT, 22, 16⟩
def AGE_STAT_VSET : Fld := ⟨AGE_STAT, 9, 0⟩
def AGE_VCFG_VMAX : Fld := ⟨AGE_VCFG, 25, 16⟩
def AGE_VCFG_VMIN : Fld := ⟨AGE_VCFG, 9, 0⟩
def AGE_VFIX_VFIX : Fld := ⟨AGE_VFIX, 9, 0⟩
def AGE_HOURS_OP_HOURS : Fld := ⟨AGE_HOURS, 31, 0⟩
def AGE_OPSEC_OP_SEC : Fld := ⟨AGE_OPSEC, 11, 0⟩
def AGE_PCYC_PCYCLES : Fld := ⟨AGE_PCYC, 31, 0⟩
def AGE_REC_CFG_EPOCH_MIN : Fld := ⟨AGE_REC_CFG, 10, 0⟩
def AGE_REC_STAT_FULL : Fld := ⟨AGE_REC_STAT, 31, 31⟩
def AGE_REC_STAT_LIMITED : Fld := ⟨AGE_REC_STAT, 30, 30⟩
def AGE_REC_STAT_USED : Fld := ⟨AGE_REC_STAT, 15, 0⟩
def AGE_REC_SEQ_SEQ : Fld := ⟨AGE_REC_SEQ, 31, 0⟩
def AGE_FCAST_BYTES : Fld := ⟨AGE_FCAST, 31, 0⟩
def AGE_MAP_MIGRATED : Fld := ⟨AGE_MAP, 31, 31⟩
def AGE_MAP_SWAPPED : Fld := ⟨AGE_MAP, 30, 30⟩
def AGE_MAP_LOST : Fld := ⟨AGE_MAP, 29, 29⟩
def AGE_MAP_PHYS : Fld := ⟨AGE_MAP, 13, 8⟩
def AGE_MAP_EXEC : Fld := ⟨AGE_MAP, 5, 0⟩
def AGE_SPARE_ROWS_MIN : Fld := ⟨AGE_SPARE, 18, 16⟩
def AGE_SPARE_LANE_BAD : Fld := ⟨AGE_SPARE, 13, 8⟩
def AGE_SPARE_LANE_SWAP : Fld := ⟨AGE_SPARE, 5, 0⟩
def PWR_STAT_RET_LOST : Fld := ⟨PWR_STAT, 31, 31⟩
def PWR_STAT_VBAT_LOW : Fld := ⟨PWR_STAT, 30, 30⟩
def PWR_STAT_VANA_OK : Fld := ⟨PWR_STAT, 29, 29⟩
def PWR_STAT_VSAFE_A_OK : Fld := ⟨PWR_STAT, 28, 28⟩
def PWR_STAT_VSAFE_B_OK : Fld := ⟨PWR_STAT, 27, 27⟩
def PWR_STAT_PMB_ALERT : Fld := ⟨PWR_STAT, 26, 26⟩
def PWR_STAT_HOT : Fld := ⟨PWR_STAT, 25, 25⟩
def PWR_STAT_HOT_NOW : Fld := ⟨PWR_STAT, 24, 24⟩
def PWR_RST_CAUSE : Fld := ⟨PWR_RST, 31, 29⟩
def PWR_RST_STRAP_PMB : Fld := ⟨PWR_RST, 2, 0⟩
def PWR_VCORE_IOUT : Fld := ⟨PWR_VCORE, 31, 16⟩
def PWR_VCORE_VOUT_MV : Fld := ⟨PWR_VCORE, 9, 0⟩
def PWR_TEMP_REG_TEMP : Fld := ⟨PWR_TEMP, 15, 8⟩
def PWR_TEMP_TJ_MAX : Fld := ⟨PWR_TEMP, 7, 0⟩
def PWR_PMB_PRESENT : Fld := ⟨PWR_PMB, 31, 31⟩
def PWR_PMB_PEC_ERR : Fld := ⟨PWR_PMB, 30, 30⟩
def PWR_PMB_NACK : Fld := ⟨PWR_PMB, 29, 29⟩
def PWR_PMB_ADDR : Fld := ⟨PWR_PMB, 22, 16⟩
def PWR_PMB_STATUS : Fld := ⟨PWR_PMB, 15, 0⟩
def DBG_SEL_BANK : Fld := ⟨DBG_SEL, 10, 8⟩
def DBG_SEL_MEM : Fld := ⟨DBG_SEL, 7, 6⟩
def DBG_SEL_CELL : Fld := ⟨DBG_SEL, 5, 0⟩

end Sys2Proof.Machine.Reg
end

