-- ==== Sys2Proof/Machine/Types/Acq.lean ====
section
/-! DEFINITION. Acquisition presets, units and records (chapter 11, R267 to R290). -/

namespace Sys2Proof.Machine

/-- An acquisition preset record (R271). -/
structure PresetDef where
  preset : Nat
  srcKind : Nat
  trig : Nat
  src : Nat
  dec : Nat
  cond : Nat
  holdMode : Nat
  l1 : Word
  l2 : Word
  w1 : Nat
  w2 : Nat
  pre : Nat
  post : Nat
  holdoff : Nat
  pin : Nat
  pinEdge : Nat
  meas : Bool
  rearm : Bool
deriving DecidableEq, Repr

/-- An acquisition unit record (R270). -/
structure UnitDef where
  unit : Nat
  start : Nat
  preset : Nat
  bufs : Nat
  group : Nat
  master : Bool
  align : Bool
  publish : Bool
  subscribe : Bool
  areaBase : Nat
  bufBytes : Nat
  alignCh : Nat
deriving DecidableEq, Repr

/-- The acquisition section (R270). -/
structure AcqSec where
  units : List UnitDef
  presets : List PresetDef
deriving DecidableEq, Repr

/-- Unit states (R274). -/
inductive UnitSt where
  | idle | fill | armed | post | holdoff | waitBuf | stopped
deriving DecidableEq, Repr

/-- Trigger kinds in record order of precedence (R273, R284). -/
inductive TrigKind where
  | detector | pin | command | group | align
deriving DecidableEq, Repr

/-- A sample: its raw word, quality code for a point source, and the stamps it carried (R268, R281). -/
structure Sample where
  word : Word
  quality : Nat := 0
  /-- Run time of its nominal instant, in units of 250 ps. -/
  run : Nat
  /-- D at its nominal instant, in ns since the epoch (R97, R269). -/
  dNs : Nat
  /-- N of the base cycle it lies in. -/
  n : Nat
deriving DecidableEq, Repr

/-- A trigger: kind, instant in run time in units of 250 ps and its N, firing unit, pin sub-tick and stamp (R273). -/
structure TrigPend where
  kind : TrigKind
  run : Nat
  n : Nat
  firedBy : Nat := 0xFF
  sub : Nat := 0
  stamp32 : Nat := 0
  /-- The instant in D (ns since the epoch). -/
  dNs : Nat := 0
  /-- The host command that carries an alignment request. -/
  ref : Option CmdRef := none
deriving DecidableEq, Repr

/-- The detector of a unit (R272). -/
structure Detector where
  started : Bool := false
  /-- Binary state A, or I for WINDOW. -/
  a : Bool := false
  /-- Samples the state has held, counting the changing sample. -/
  width : Nat := 0
  /-- The run in progress began at arming. -/
  fromArm : Bool := true
  /-- The last sample was < L1; ≥ L2. -/
  wasLow : Bool := false
  wasHigh : Bool := false
  /-- A rising or falling runt or transition is open, with the samples since its start. -/
  riseOpen : Option Nat := none
  fallOpen : Option Nat := none
deriving DecidableEq, Repr

/-- A capture record (R284). -/
structure AcqRecord where
  seq : Nat := 0
  preset : PresetDef
  presetIdx : Nat
  shortPre : Bool := false
  ovf : Bool := false
  aborted : Bool := false
  step : Bool := false
  /-- The trigger taken, if any. -/
  cause : Option TrigPend := none
  /-- Valid pre-trigger samples oldest first, trigger sample, post samples. -/
  pre : List Sample := []
  preStart : Nat := 0
  trig : Option Sample := none
  post : List Sample := []
  ignored : Nat := 0
  groupMiss : Nat := 0
  /-- What the header takes from the device and the image at the close: DEVNUM, INTERVAL_NS, DIGEST, and whether the values are FLOAT32 (R284, R285). -/
  devnum : Nat := 0
  interval : Nat := 0
  digest : List Byte := []
  float : Bool := false
  ready : Bool := false
  reading : Bool := false
deriving DecidableEq, Repr

/-- One acquisition unit. -/
structure AcqUnit where
  st : UnitSt := .idle
  /-- The preset in use and its index; ACQ_CONFIG may replace it. -/
  preset : Option PresetDef := none
  presetIdx : Nat := 0
  /-- Pre-trigger history oldest first, in POST what lay before the trigger sample: PRE samples, or PRE + 65,536 of an ALIGN unit and of a group's member, whose trigger may yet move to an earlier instant (R274, R279, R281). -/
  pre : List Sample := []
  /-- Samples that entered the history since FILL. -/
  entered : Nat := 0
  cur : Option AcqRecord := none
  det : Detector := {}
  /-- Triggers whose trigger sample has not yet been taken. -/
  trigs : List TrigPend := []
  /-- Closed records in their buffers, oldest first. -/
  records : List AcqRecord := []
  recSeq : Nat := 0
  ignored : Nat := 0
  /-- Trigger instant in run time, in units of 250 ps, for the hold-off (R276). -/
  trigRun : Nat := 0
  events : Nat := 0
  /-- Instant of the mark or sample at which the unit last entered FILL: earlier samples are no part of its record (R274). -/
  armedRun : Nat := 0
  /-- Instant of the mark at which it was armed: the detector runs from there (R272). -/
  detRun : Nat := 0
  /-- Hold-off met and waiting for the group to re-arm (R280). -/
  ready : Bool := false
  /-- Source samples since arming, for DEC (R267). -/
  count : Nat := 0
  /-- It took part in the group's last fire (R280). -/
  took : Bool := false
deriving DecidableEq, Repr

/-- The acquisition engine. -/
structure AcqState where
  units : Tab AcqUnit := []
  /-- ACQ_ARM commands latched for the next base mark: unit and command. -/
  arms : List (Nat × CmdRef) := []
  /-- Units with START 1 that are armed at the next base mark (R270). -/
  starts : List Nat := []
  /-- Nominal instant of the last base mark in run time, in units of 250 ps (R267). -/
  markAt : Nat := 0
  /-- Reads in flight: unit, REC_SEQ, command (R290). -/
  reads : List (Nat × Nat × CmdRef) := []
  /-- ALIGN frames to publish: channel and instant in D (ns since the epoch) (R282). -/
  publish : List (Nat × Nat) := []
  /-- Run times at which D stepped, in units of 250 ps (R269). -/
  steps : List Nat := []
deriving DecidableEq, Repr

end Sys2Proof.Machine
end

