-- ==== Sys2Proof/Machine/Types/Conv.lean ====
section
/-! DEFINITION. Converters, analog outputs, encoders and digital pins (chapter 12, R291 to R313). -/

namespace Sys2Proof.Machine

/-- A sequence or urgent entry record (R308). -/
structure EntryDef where
  input : Nat
  diff : Bool
  gain : F32
  offset : F32
deriving DecidableEq, Repr

/-- A converter record (R308). -/
structure ConvDef where
  conv : Nat
  enable : Bool
  len : Nat
  align : Nat
  urgCount : Nat
  urgPin : Nat
  urgEdge : Nat
  entries : List EntryDef
  urgent : List EntryDef
deriving DecidableEq, Repr

/-- A DAC record (R308). -/
structure DacDef where
  ch : Nat
  rate : Nat
  srcPt : Nat
  gain : F32
  offset : F32
deriving DecidableEq, Repr

/-- An encoder record (R308). -/
structure EncDef where
  ch : Nat
  mode : Nat
  invert : Bool
  gray : Bool
  parity : Bool
  index : Bool
  filter : Nat
  bits : Nat
  clkKhz : Nat
deriving DecidableEq, Repr

/-- A pin record (R308). -/
structure PinDef where
  pin : Nat
  dir : Nat
  srcPt : Nat
deriving DecidableEq, Repr

/-- The converter, DAC and encoder section (R308). -/
structure ConvSec where
  convs : List ConvDef
  dacs : List DacDef
  encs : List EncDef
  pins : List PinDef
deriving DecidableEq, Repr

/-- A conversion result: code, over-range and displaced flags, mode, and the nominal instant in D (ns since the epoch). -/
structure Result where
  code : Int
  ovr : Bool
  disp : Bool
  diff : Bool
  dNs : Nat
deriving DecidableEq, Repr

/-- A conversion in progress or waiting: its entry, nominal instant (run time, D in ns, N) and sampling instant in run time. -/
structure Conversion where
  entry : Nat
  urgent : Bool
  run : Nat
  dNs : Nat
  n : Nat
  disp : Bool
  sampled : Nat
deriving DecidableEq, Repr

/-- One logical converter (R296–R301). -/
structure ConvState where
  /-- Start count S (R296). -/
  s : Nat := 0
  /-- Last results by entry, and by urgent entry. -/
  results : Tab Result := []
  urgRes : Tab Result := []
  /-- The conversion whose result is not yet written. -/
  cur : Option Conversion := none
  /-- Urgent entries and scheduled conversions waiting behind it, in order (R300). -/
  queue : List Conversion := []
  /-- Urgent sequence or catch-up in progress (R300). -/
  busy : Bool := false
  /-- A trigger is held for the end of the catch-up (R301). -/
  pend : Bool := false
  /-- The record under which an urgent sequence completes after a splice (R309). -/
  old : Option ConvDef := none
deriving DecidableEq, Repr

/-- One DAC channel (R302, R303). -/
structure DacState where
  /-- Consecutive updates whose readback was in error. -/
  badRun : Nat := 0
  /-- Updated and its readback is due. -/
  checkDue : Bool := false
deriving DecidableEq, Repr

/-- One encoder channel (R304–R306). -/
structure EncState where
  count : Word := 0
  /-- Count as sampled at the last converter start or fast mark. -/
  sampled : Word := 0
  /-- Qualified levels of ENCnn_A and ENCnn_B. -/
  a : Bool := false
  b : Bool := false
  /-- A fault since the previous fast mark, as the axes see it in the sub-cycle (R306). -/
  faultNow : Bool := false
  /-- SSI: a valid frame has been seen; its position; ENCnn_B was low before the frame in progress. -/
  seen : Bool := false
  pos : Nat := 0
  lowBefore : Option Bool := none
  /-- D at the sample instant of the frame in progress and of the last valid one (ns since the epoch). -/
  frameNs : Nat := 0
  dNs : Nat := 0
  /-- D at the last index capture; none before the first (R298). -/
  indexNs : Option Nat := none
  /-- A preset awaiting the next fast mark. -/
  preset : Option (Word × CmdRef) := none
deriving DecidableEq, Repr

/-- Rotation of the cores (R291–R293). -/
structure Rotation where
  /-- Consecutive failed handover attempts of the calibrating core. -/
  misses : Nat := 0
  /-- Consecutive calibrations outside their limits, by core. -/
  badCal : Tab Nat := []
  /-- A handover waits for the converter to be back on its grid (R293). -/
  deferred : Bool := false
  /-- ADC_CAL commands: core and command. -/
  cals : List (Nat × CmdRef) := []
deriving DecidableEq, Repr

/-- The companion die's analog, encoder and digital blocks. -/
structure ConvBlock where
  convs : Tab ConvState := []
  dacs : Tab DacState := []
  encs : Tab EncState := []
  rot : Rotation := {}
  /-- Levels of input pins (R307), and of the output pins driven. -/
  dioIn : Tab Bool := []
  dioOut : Tab Bool := []
  /-- VANA is below its threshold: the blocks are held in reset (R535). -/
  vanaLow : Bool := true
deriving DecidableEq, Repr

end Sys2Proof.Machine
end

