-- ==== Sys2Proof/Machine/Types/Historian.lean ====
section
/-! DEFINITION. Recording policies, records, segments and the historian's state (chapter 10, R242 to R266). -/

namespace Sys2Proof.Machine

/-- A recording-policy record (R246). -/
structure PolicyDef where
  policy : Nat
  mode : Nat
  sdiv : Nat
  sphase : Nat
  bound : F32
  maxGap : Nat
deriving DecidableEq, Repr

/-- The recording-policy section (R245). -/
structure PolicySec where
  segLog2 : Nat
  fullAct : Nat
  segCount : Nat
  ringBase : Nat
  segAge : Nat
  policies : List PolicyDef
deriving DecidableEq, Repr

/-- A dense group (R253): its cell, divisor, phase and slots. -/
structure DenseGroup where
  cell : Nat
  sdiv : Nat
  sphase : Nat
  slots : List Nat
deriving DecidableEq, Repr

/-- A historian record (R252). -/
inductive HistRec where
  | sample (idx quality flags : Nat) (tdelta : Int) (cyc : Nat) (value : Word)
  | pointMark (idx quality cause cyc : Nat) (value : Word)
  | dense (group cyc ngMask : Nat) (values : List Word)
  | device (code arg0 cyc arg1 : Nat)
deriving DecidableEq, Repr

/-- Compression state of one point (R249–R251): door slopes are binary64 patterns. -/
structure RunState where
  runOpen : Bool := false
  lastC : Nat := 0
  lastV : Word := 0
  lastQ : Nat := 1
  anchorC : Nat := 0
  anchorV : Word := 0
  lo : F64 := 0xFFF0000000000000
  up : F64 := 0x7FF0000000000000
  heldC : Nat := 0
  heldN : Nat := 0
  /-- TIME of the held sample less its record time, in units of 125 ns (R243). -/
  heldT : Int := 0
  /-- The last sample was a NaN or an infinity (R248). -/
  nonFinite : Bool := false
  /-- BOUND in use by the run (R261). -/
  bound : F32 := 0
  /-- The run is a swinging door's (R248, R250). -/
  swing : Bool := false
  /-- A point mark or a resynchronisation ended the run: the next opens with flag OPEN (R248). -/
  marked : Bool := false
deriving DecidableEq, Repr

/-- Segment states (R257). -/
inductive SegSt where
  | free | filling | sealed | draining
deriving DecidableEq, Repr

/-- A segment of the ring (R255, R257). -/
structure SegState where
  st : SegSt := .free
  seq : Nat := 0
  bytes : Nat := 64
  nFirst : Nat := 0
  nLast : Nat := 0
  tFirst : Nat := 0
  /-- First 4 bytes of the digest of the image under which the segment was opened (R255). -/
  digest : List Byte := []
  records : List HistRec := []
  lossMark : Bool := false
  overMark : Bool := false
  crc : Nat := 0
  drained : Bool := false
deriving DecidableEq, Repr

/-- The historian engine. -/
structure HistState where
  /-- Recording has started for the running image. -/
  on : Bool := false
  startId : Nat := 0
  /-- The recording-policy section in effect. -/
  sec : Option PolicySec := none
  /-- DEVNUM and the first 4 bytes of the image digest, for headers of new segments (R255). -/
  devnum : Nat := 0
  digest : List Byte := []
  /-- Run cycle count C (R244). -/
  c : Nat := 0
  /-- Policies as in effect, after POLICY_SET (R261). -/
  policies : List PolicyDef := []
  groups : List DenseGroup := []
  runs : Tab RunState := []
  segs : Tab SegState := []
  /-- Index of the filling or next segment. -/
  idx : Nat := 0
  nextSeq : Nat := 0
  /-- Marks to be written with the next cut, oldest first. -/
  marks : List HistRec := []
  /-- Cells not yet resynchronised, in order (R263). -/
  resync : List Nat := []
  /-- Cells that join them once the cut of a splice is written (R263). -/
  resyncNext : List Nat := []
  /-- Points with a point mark to be written with the cut in progress: local index and CAUSE (R254). -/
  ptMarks : List (Nat × Nat) := []
  /-- Cuts lost in the present HOLD, and the first of them. -/
  lost : Nat := 0
  lostFirst : Nat := 0
  /-- A CUT request for the next base mark (R256). -/
  cutReq : Bool := false
  cutRefs : List CmdRef := []
  /-- POLICY_SET commands latched. -/
  sets : List (Nat × F32 × Nat × CmdRef) := []
  /-- Drains in flight: segment index and command. -/
  drains : List (Nat × CmdRef) := []
  /-- Bytes written in the present whole second of D (HST_RATE). -/
  secBytes : Nat := 0
deriving DecidableEq, Repr

end Sys2Proof.Machine
end

