-- ==== Sys2Proof/Machine/Types/Image.lean ====
section
/-! DEFINITION. The syntax image as the parser reads it, and what the device keeps of images, certificates, refusals and splices (chapter 02, R38 to R65). -/

namespace Sys2Proof.Machine

/-- A directory entry (R40). -/
structure DirEntry where
  type : Nat
  optional : Bool
  cell : Nat
  offset : Nat
  length : Nat
  items : Nat
  digest : List Byte
deriving DecidableEq, Repr

/-- An image as parsed: header, role map and sections (R39 to R41). -/
structure Img where
  /-- Header fields (R39). -/
  role : Nat := 0
  devnum : Nat := 0
  compat : Bool := false
  serial : Nat := 0
  spliceTimeout : Nat := 0
  sealedBytes : Nat := 0
  constellation : Nat := 0
  /-- SHA-256 over bytes 0 to SIG_OFFSET − 1 (R43). -/
  digest : List Byte := []
  dir : List DirEntry := []
  /-- Role codes of the 64 cells (R41). -/
  roles : List Nat := []
  /-- Point definitions by local index (R122). -/
  points : Tab PointDef := []
  /-- Loops by cell × 256 + loop (R135). -/
  loops : Tab LoopDef := []
  /-- Tables by cell × 65,536 + TAB_ID (R137). -/
  tables : Tab TableDef := []
  /-- Axes by cell × 32 + axis, generators by cell × 8 + generator (R163, R167). -/
  axes : Tab AxisDef := []
  pgs : Tab PgDef := []
  /-- SEQUENCE and LOGIC sections by cell (R189, R215). -/
  recipes : Tab RecipeSec := []
  logics : Tab LogicSec := []
  policies : Option PolicySec := none
  acq : Option AcqSec := none
  conv : Option ConvSec := none
  eth : Option EthSec := none
  topology : Option StationSec := none
  can : Option CanSec := none
  idents : List IdentDef := []
  /-- Imports: local point identifier and remote identifier (R354). -/
  imports : List (Nat × Nat) := []
  members : Option MemberSec := none
  /-- Digest of the safety reference section (R51). -/
  safetyRef : Option (List Byte) := none
deriving DecidableEq, Repr

/-- A rejection record (R58); the digest and the seconds are the report's. -/
structure RejRecord where
  reason : Nat
  /-- Section index, or 0xFFFF. -/
  section_ : Nat := 0xFFFF
  /-- Cell, or 0xFF. -/
  cell : Nat := 0xFF
  obj : Nat := 0
  offset : Nat := 0
  d0 : Nat := 0
  d1 : Nat := 0
deriving DecidableEq, Repr

/-- A rejection report (R58). -/
structure Report where
  recs : List RejRecord := []
  /-- First 16 bytes of the image digest, or zeros before hashing completes. -/
  digest : List Byte := List.replicate 16 0
  /-- Seconds at refusal. -/
  sec : Nat := 0
deriving DecidableEq, Repr

/-- A certificate record (R57): for each cell W_BASE, W_FAST, B and role code. -/
structure CertRecord where
  digest : List Byte
  sec : Nat
  vcore : Nat
  tj : Int
  util : Nat
  cells : List (Nat × Nat × Nat × Nat)
deriving DecidableEq, Repr

/-- The certificate area of a slot (R46, R57, R517): recorded digest, certificate record, and migration map by home cell. -/
structure CertArea where
  digest : List Byte := []
  record : Option CertRecord := none
  map : Tab Nat := []
deriving DecidableEq, Repr

/-- What a parse is for: a restart (`second`: the slot tried second), IMAGE_LOAD, IMAGE_CHECK, SPLICE_PREPARE (R47, R59, R65). -/
inductive LoadKind where
  | boot (second : Bool) | load | check | prepare
deriving DecidableEq, Repr

/-- A parse in progress or waiting its turn (R48, R49). -/
structure LoadJob where
  kind : LoadKind
  /-- The slot: false A, true B. -/
  slot : Bool
  /-- The bytes streamed into staging (R48). -/
  bytes : List Byte
  ref : Option CmdRef := none
deriving DecidableEq, Repr

/-- An image admitted for the next base mark (R48). -/
structure DueImage where
  img : Img
  slot : Bool
  kind : LoadKind
  ref : Option CmdRef
  cert : CertRecord
  /-- Homes that another cell executes (R517). -/
  map : Tab Nat
  /-- Expectations that do not match, and the records read (R50). -/
  mis : List Nat
  reads : List (Nat × List Byte)
deriving DecidableEq, Repr

/-- An accepted SPLICE_COMMIT (R62): N_s as asked, and the command; none on a standby that replays the active's commit (R396). -/
structure Commit where
  mark : Nat
  ref : Option CmdRef
  /-- The splice was deferred past its mark (R61). -/
  deferred : Bool := false
deriving DecidableEq, Repr

/-- A prepared splice (R59). -/
structure Splice where
  img : Img
  slot : Bool
  cert : CertRecord
  /-- Changed cells. -/
  changed : List Nat
  /-- Transfer charge of the first cycle, by cell (R59). -/
  extra : Tab Nat := []
  /-- Executing cells of the new configuration, by home, where not the home itself. -/
  map : Tab Nat
  mis : List Nat
  reads : List (Nat × List Byte)
  commit : Option Commit := none
deriving DecidableEq, Repr

/-- What the device keeps of images. -/
structure ImageState where
  /-- The running image. -/
  run : Option Img := none
  /-- The staging buffer of the load in progress was delivered poisoned (R434). -/
  poisoned : Bool := false
  /-- Flash: the image slots and their certificate areas (R46). -/
  slotA : List Byte := []
  slotB : List Byte := []
  areaA : CertArea := {}
  areaB : CertArea := {}
  /-- The slot the running image came from: false A, true B. -/
  slot : Bool := false
  /-- Parses in progress and waiting, in order. -/
  jobs : List LoadJob := []
  due : Option DueImage := none
  report : Report := {}
  /-- The last load or prepare was refused (R64). -/
  refused : Bool := false
  splice : Option Splice := none
  /-- A prepared splice was discarded by a migration or swap-in: the next commit completes ABORTED (R63). -/
  spliceLost : Bool := false
deriving DecidableEq, Repr

end Sys2Proof.Machine
end

