-- ==== Sys2Proof/Machine/Types/Power.lean ====
section
/-! DEFINITION. Reset and supply state that no register shows (chapter 21, R534 to R551). -/

namespace Sys2Proof.Machine

/-- Reset and supplies of the main die and the retention domain. -/
structure PowerState where
  /-- The main die is in reset: from reset entry to reset release (R537, R545). -/
  inReset : Bool := true
  /-- The Steward firmware runs: RST_OUT_N is high (R548). -/
  fw : Bool := false
  /-- The retention domain runs on VBAT (R538). -/
  onVbat : Bool := false
  /-- The retained values were lost; detected at the next boot (R539). -/
  retLost : Bool := false
deriving DecidableEq, Repr

end Sys2Proof.Machine
end

