-- ==== Sys2Proof/Machine/Types/Secure.lean ====
section
/-! DEFINITION. The fuses, the system bank, keys, identity, proposals and the debug gate (chapter 19, R482 to R508; R439, R440). -/

namespace Sys2Proof.Machine

/-- What a system bank record holds (R439, R487). -/
structure SysBody where
  /-- FW_ACTIVE: 0 slot A, 1 slot B (R485). -/
  fwActive : Nat := 0
  svnFloor : Nat := 0
  /-- Image-signing key slots 0–3, a 384-byte modulus or empty (R44). -/
  imgKeys : List (List Byte) := [[], [], [], []]
  /-- Authority key slots 0–3 (R493). -/
  authKeys : List (List Byte) := [[], [], [], []]
  /-- Device public modulus, 384 bytes, or empty (R490). -/
  devModulus : List Byte := []
  /-- Life-cycle state, coded as SEC_LC.STATE. -/
  lc : Nat := 0
  propSeq : Nat := 0
  /-- Platform record, 1,024 bytes, or empty. -/
  platform : List Byte := []
  /-- SEC at provisioning (R491). -/
  provSec : Nat := 0
  /-- Boot record: ACTIVE_SLOT, 0 A, 1 B (R46). -/
  bootSlot : Nat := 0
  /-- GLB_IMG_SERIAL_FLOOR (R45). -/
  serialFloor : Nat := 0
  /-- Words of the RWA registers that are kept here, by BAR0 offset (R451, R475). -/
  rwa : Tab Word := []
  /-- Swap map: physical cell by logical cell, for the cells replaced (R520, R521). -/
  swap : Tab Nat := []
  /-- Logical cells whose physical cell was given away (R521). -/
  lost : List Nat := []
  /-- Spare rows used, by bank number: cell × 3 + bank, 192 + window bank, 200 + secure bank (R523). -/
  rows : Tab Nat := []
deriving DecidableEq, Repr

/-- A system bank (R440). -/
structure SysBank where
  seq : Nat
  body : SysBody
deriving DecidableEq, Repr

/-- The fuses that the device itself writes (R482). -/
structure Fuses where
  prov : Bool := false
  retired : Bool := false
  /-- ROOT_REVOKE bit k. -/
  revoke0 : Bool := false
  revoke1 : Bool := false
deriving DecidableEq, Repr

/-- A second approval whose change is being made (R496). -/
structure SecondApproval where
  ref : CmdRef
  slot : Nat
deriving DecidableEq, Repr

/-- The pending device proposal (R494 to R497). -/
structure SecProposal where
  kind : Nat
  args : List Byte
  digest : List Byte
  propSeq : Nat
  /-- Run time in ns of its acceptance. -/
  at_ : Nat
  /-- The held approval: its slot, and whether it came over the maintenance port. -/
  first : Option (Nat × Bool) := none
  second : Option SecondApproval := none
deriving DecidableEq, Repr

/-- A change that takes effect at the next base mark (R494, R500, R503). -/
inductive MarkChange where
  | regWrite (ref : CmdRef) (addr value mask : Nat)
  | lifeCycle (ref : Option CmdRef) (to_ : Nat)
  | dbgOpen (ref : CmdRef) (minutes : Nat)
deriving DecidableEq, Repr

/-- Security state beside its registers. -/
structure SecState where
  fuses : Fuses := {}
  /-- The platform record loaded at boot (R487, R489, R494). -/
  platform : List Byte := []
  /-- MRAM: the two system banks (R440); none is not valid. -/
  bank0 : Option SysBank := none
  bank1 : Option SysBank := none
  /-- Flash: the firmware slots (R483). -/
  fwA : List Byte := []
  fwB : List Byte := []
  proposal : Option SecProposal := none
  /-- Digest of the last proposal that expired (R497). -/
  expired : List Byte := []
  atMark : List MarkChange := []
  /-- Run time in ns at which the debug gate closes by time, while it is open (R503). -/
  gateEnd : Option Nat := none
  /-- A closing with its cause is due at the next base mark (R503). -/
  gateClose : Option Nat := none
  /-- The tamper latch of the retention domain as a SEC_TAMPER word (R502). -/
  tamper : Word := 0
  /-- A detection on VBAT awaits its log entry at the next boot (R502). -/
  vbatLog : Bool := false
  /-- Run time in ns at which a wipe in progress ends (R438). -/
  wipeEnd : Option Nat := none
  /-- Run time in ns at which the Steward has unwrapped its keys again after a wipe (R500). -/
  keysAt : Option Nat := none
  /-- Digest of the running firmware slot (R492). -/
  fwDigest : List Byte := []
deriving DecidableEq, Repr

end Sys2Proof.Machine
end

