-- ==== Sys2Proof/Machine/Types/Time.lean ====
section
/-! DEFINITION. State of the Tense unit (chapter 04, R90 to R112). -/

namespace Sys2Proof.Machine

/-- A clock: seconds, nanoseconds below 1,000,000,000 and a 32-bit fraction of a nanosecond (R90). -/
structure Clock where
  sec : Nat := 0
  ns : Nat := 0
  frac : Nat := 0
deriving DecidableEq, Repr

/-- One of the domains A and B (R94, R96). -/
structure Domain where
  clk : Clock := {}
  /-- The committed increment, 32.32 nanoseconds. -/
  incr : Nat := 0x200000000
  /-- A write of TNS_x_INCR_HI awaits the next tick. -/
  commit : Bool := false
  /-- A write of STEP awaits the next tick. -/
  step : Bool := false
  /-- Run time in ns of the last PTP Sync of the domain. -/
  lastSync : Option Nat := none
deriving DecidableEq, Repr

/-- A TIME_STEP awaiting its mark (R99), or the step announced by the manager's beacons with its q in ns (R355). -/
structure TimeStepPend where
  mark : Nat
  ref : Option CmdRef
  q : Option Int := none
deriving DecidableEq, Repr

/-- The Tense unit (chapter 04). -/
structure TimeState where
  /-- The PLL has locked since reset (R93). -/
  locked : Bool := false
  /-- The device clock D (R90). -/
  d : Clock := {}
  a : Domain := {}
  b : Domain := {}
  /-- Beacon time of the LINK source and its rate (R95, R356). -/
  link : Option Clock := none
  linkIncr : Nat := 0x200000000
  /-- Run time TNS_RUN in ns (R91) and its fraction. -/
  run : Nat := 0
  runFrac : Nat := 0
  /-- Effective increment E (R90). -/
  e : Nat := 0x200000000
  /-- Base-cycle number N (R30, R98). -/
  n : Nat := 0
  /-- Index of the fast sub-cycle in progress, 0–7 (R29). -/
  sub : Nat := 0
  /-- A host write of DSEL awaiting the next base mark, by its code (R96). -/
  dselPending : Option Nat := none
  stepPend : Option TimeStepPend := none
  /-- Levels of the time pins TIO0–TIO7 (R107). -/
  tioLevel : Tab Bool := []
  /-- Time pins whose output pulse awaits its due time, and pulses in progress with the run time in ns at which they end (R107). -/
  tioArmed : List Nat := []
  tioPulse : Tab Nat := []
  /-- Instant of the last edge that the device placed on a time pin, in units of 250 ps of D (R102, R107). -/
  tioOut : Tab Nat := []
  /-- Receive stamp of the last PTP event message of a port, by port: 0 stamped in D, 1 in A, 2 in B, and its stamp64 (R103). -/
  ptpStamp : Tab (Nat × Nat) := []
  /-- The same of the last PTP event message sent (R103, R105). -/
  ptpSent : Tab (Nat × Nat) := []
  /-- Retention-domain seconds count (R20, R93). -/
  retentionSec : Nat := 0
  /-- The base mark of index 0 at PLL lock is still to come (R93). -/
  lockMark : Bool := false
  /-- Base marks since the first after PLL lock (R509). -/
  cycles : Nat := 0
  /-- TNS_REF is present (R93). -/
  refOk : Bool := true
deriving DecidableEq, Repr

end Sys2Proof.Machine
end

