-- ==== Sys2Proof/Machine/State.lean ====
section
/-! DEFINITION. The machine's state as plain data: the register file, the queue of commands and what no register shows, by block; the reasons a step can stop; the state after reset. -/

namespace Sys2Proof.Machine

/-- The machine's state. -/
structure State where
  /-- Commands waiting, first in first out (the block's queue, log entry 1). -/
  pending : List Instr := []
  /-- The register file: BAR0 offset and word, for the words that differ from their power-on value (R2, R4; log entry 4). -/
  regs : Tab Word := []
  host : HostIf := {}
  ctr : Counters := {}
  time : TimeState := {}
  img : ImageState := {}
  pts : Points := {}
  fab : Fabric := {}
  /-- Loops, by cell × 256 + loop. -/
  loops : Tab LoopState := []
  /-- Axes, by cell × 32 + axis. -/
  axes : Tab AxisState := []
  /-- Profile generators, by cell × 8 + generator. -/
  pgs : Tab PgState := []
  /-- SEQUENCE cells, by cell. -/
  seqs : Tab SeqState := []
  /-- LOGIC cells, by cell. -/
  logics : Tab LogicState := []
  /-- Role state of the last sealed cut. -/
  cut : RoleCut := {}
  /-- Axes, generators and the points they write, at the start of the fast sub-cycle in progress (R75). -/
  fast : RoleCut := {}
  key : KeyState := {}
  hist : HistState := {}
  acq : AcqState := {}
  conv : ConvBlock := {}
  field : FieldState := {}
  link : LinkState := {}
  pair : PairState := {}
  sec : SecState := {}
  saf : SafIsland := {}
  recd : Recorder := {}
  age : AgeState := {}
  power : PowerState := {}
  /-- The model's own: uses of free values so far; each use takes the next (log entry 7). -/
  fresh : Nat := 0
deriving DecidableEq, Repr

/-- Why a step stops where the device has no next state. -/
inductive Fault where
  /-- Raised by no command of the present model. Safe. -/
  | none_
deriving DecidableEq, Repr

/-- Why a step is refused. -/
inductive Refusal where
  /-- The command has no meaning yet: the arm of exec that names it. Safe. -/
  | notModelled (mnemonic : String)
deriving DecidableEq, Repr

/-- The machine right after power-on reset: every register at its power-on value (R4), every memory and queue empty. -/
def State.reset : State := {}

end Sys2Proof.Machine
end

