-- ==== Sys2Proof/Machine/Regs.lean ====
section
/-! DEFINITION. The register file: addresses, power-on words, reads and writes of fields by name, and the search of the register at an address (R2 to R6, R578). -/

namespace Sys2Proof.Machine

/-- What every meaning answers. -/
abbrev Out := Host.Outcome State Fault Refusal

/-- The BAR0 offset of an instance of a register. -/
def regAddr (d : RegDesc) (ix : List Nat) : Nat :=
  d.base + ((List.zipWith (fun p i => p.1 * i) d.dims ix).foldl (· + ·) 0)

/-- The power-on word of an instance: the fields' reset values, and the three registers whose value depends on the index (R4, R343, R480, chapter 12). -/
def regReset (d : RegDesc) (ix : List Nat) : Nat :=
  let w := d.fields.foldl (fun a f => setBits a f.hi f.lo f.reset) 0
  let i := ix.headD 0
  if d.base = Reg.RNG_SEQ.base then setBits w 31 25 i
  else if d.base = Reg.ADC_MAP.base then 4 * i + 256 * (4 * i + 1) + 65536 * (4 * i + 2) + 16777216 * (4 * i + 3)
  else if d.base = Reg.ETH_LAT.base then (if i < 4 then 38 * 65536 + 52 else 0)
  else w

/-- The stored word of a register. -/
def State.reg (s : State) (d : RegDesc) (ix : List Nat := []) : Nat :=
  (s.regs.at' (regAddr d ix) (BitVec.ofNat 32 (regReset d ix))).toNat

/-- The state with a register's stored word replaced; a word equal to the power-on word is not listed. -/
def State.setReg (s : State) (d : RegDesc) (v : Nat) (ix : List Nat := []) : State :=
  { s with regs := s.regs.store (BitVec.ofNat 32 (regReset d ix)) (regAddr d ix) (BitVec.ofNat 32 v) }

/-- The value of a field. -/
def State.rd (s : State) (f : Fld) (ix : List Nat := []) : Nat := bitsOf (s.reg f.reg ix) f.hi f.lo

/-- A one-bit field as a truth value. -/
def State.flag (s : State) (f : Fld) (ix : List Nat := []) : Bool := decide (s.rd f ix ≠ 0)

/-- The state with a field's value replaced by the device. -/
def State.wr (s : State) (f : Fld) (v : Nat) (ix : List Nat := []) : State :=
  s.setReg f.reg (setBits (s.reg f.reg ix) f.hi f.lo v) ix

/-- The state with a one-bit field set or cleared. -/
def State.wrb (s : State) (f : Fld) (v : Bool) (ix : List Nat := []) : State := s.wr f (b2n v) ix

/-- The state with a field raised by n, wrapping. -/
def State.incWrap (s : State) (f : Fld) (ix : List Nat := []) (n : Nat := 1) : State := s.wr f (s.rd f ix + n) ix

/-- The state with a field raised by n, held at all ones. -/
def State.incHold (s : State) (f : Fld) (ix : List Nat := []) (n : Nat := 1) : State :=
  s.wr f (min (s.rd f ix + n) (2 ^ (f.hi + 1 - f.lo) - 1)) ix

/-- The state with a field raised to a value where that is larger. -/
def State.peak (s : State) (f : Fld) (v : Nat) (ix : List Nat := []) : State :=
  if s.rd f ix < v then s.wr f v ix else s

/-- The state with a 64-bit value spread over a low and a high register. -/
def State.wr64 (s : State) (lo hi : Fld) (v : Nat) (ix : List Nat := []) : State :=
  (s.wr lo (v % 2 ^ 32) ix).wr hi (v / 2 ^ 32) ix

/-- The 64-bit value of a low and a high register. -/
def State.rd64 (s : State) (lo hi : Fld) (ix : List Nat := []) : Nat := s.rd lo ix + 2 ^ 32 * s.rd hi ix

/-- The indices of an offset from a register group's base, if it names an instance. -/
def indicesOf : List (Nat × Nat) → Nat → Option (List Nat)
  | [], 0 => some []
  | [], _ + 1 => none
  | (step, count) :: t, off =>
    let i := off / step
    if i < count then
      match indicesOf t (off - i * step) with
      | some r => some (i :: r)
      | none => none
    else none

/-- The register at a BAR0 offset. -/
def findReg (addr : Nat) : List RegDesc → Option (RegDesc × List Nat)
  | [] => none
  | d :: t =>
    if d.base ≤ addr then
      match indicesOf d.dims (addr - d.base) with
      | some ix => some (d, ix)
      | none => findReg addr t
    else findReg addr t

/-- The register at a BAR0 offset, over the whole index (R578). -/
def regAt (addr : Nat) : Option (RegDesc × List Nat) := findReg addr Reg.table

/-- Write-only bits of a register, which read 0 (R5). -/
def woMask (d : RegDesc) : Nat :=
  d.fields.foldl (fun a f => if f.acc = .wo then setBits a f.hi f.lo (2 ^ (f.hi + 1 - f.lo) - 1) else a) 0

end Sys2Proof.Machine
end

