-- ==== Sys2Proof/Machine/Ops.lean ====
section
/-! DEFINITION. The named operations that every block shares: clocks and stamps, event counters, the event recorder's summaries, interrupts, completion records, and the order in which a command's refusals are judged. -/

namespace Sys2Proof.Machine

/-! Clocks and stamps. -/

/-- Nanoseconds of a clock since its epoch, the fraction dropped. -/
def clockNs (c : Clock) : Nat := c.sec * 1000000000 + c.ns

/-- The clock at a nanosecond count, with a fraction. -/
def clockOf (t frac : Nat) : Clock := ⟨(t / 1000000000) % 2 ^ 48, t % 1000000000, frac⟩

/-- stamp64 of a clock: bits 63:30 the low 34 bits of SEC, bits 29:0 NS (R101). -/
def stamp64 (c : Clock) : Nat := (c.sec % 2 ^ 34) * 2 ^ 30 + c.ns

/-- Quarters of a nanosecond of a clock, the resolution of the time pins (R102). -/
def clock4 (c : Clock) : Nat := 4 * clockNs c + c.frac / 2 ^ 30

/-- The nanoseconds a stamp64 names. -/
def stampNs (x : Nat) : Nat := (x / 2 ^ 30) * 1000000000 + x % 2 ^ 30

/-- The capture stamp of a clock (R106). -/
def stamp32 (c : Clock) : Nat := clockNs c % 2 ^ 32

/-- stamp64 of D now. -/
def State.now64 (s : State) : Nat := stamp64 s.time.d

/-- Run time in ns now (R91). -/
def State.runNs (s : State) : Nat := s.time.run

/-! Event counters (R447). -/

/-- Adds occurrences to an event counter, wrapping at 2^48 (R447). -/
def State.count (s : State) (ev : Nat) (n : Nat := 1) : State :=
  let c := s.ctr.tab.at' ev {}
  let v := c.value.toNat + n
  let w := decide (2 ^ 48 ≤ v)
  let c : Counter := { value := BitVec.ofNat 48 v, wrap := c.wrap || w, snapWrap := c.snapWrap || w }
  { s with ctr := { s.ctr with tab := s.ctr.tab.put ev c } }

/-! The event recorder's live summaries (R525, R526). -/

/-- LO and SHIFT of an event code (R526, R532); codes with a counter number and no named value use 0 and 27. -/
def codeScale (r : Recorder) (code : Nat) : Int × Nat :=
  if 0xC00 ≤ code then r.hostCodes.at' code (0, 27)
  else match code with
    | 0x3E0 => (620, 4) | 0x3E1 => (620, 4) | 0x3E2 => (620, 4)
    | 0x3E3 => (0, 8) | 0x3E4 => (0, 7) | 0x3E5 => (0, 7) | 0x3E6 => (0, 8)
    | 0x3E7 => (0, 0) | 0x3E8 => (0, 0) | 0x3E9 => (0, 0) | 0x3EA => (0, 8) | 0x3EB => (0, 8)
    | 0x400 => (0, 4) | 0x401 => (0, 0) | 0x402 => (0, 0) | 0x403 => (0, 12)
    | 0x404 => (0, 27) | 0x405 => (10, 0) | 0x406 => (0, 6) | 0x407 => (-8, 0) | 0x408 => (0, 0)
    | _ => (0, 27)

/-- Whether a number is a power of two. -/
def isPow2 (n : Nat) : Bool := decide (0 < n) && decide (2 ^ Nat.log2 n = n)

/-- A summary with one occurrence of value v added (R525). -/
def sumAdd (x : Summary) (lo : Int) (shift : Nat) (v : Int) (seen : Nat × Nat) : Summary :=
  let b : Nat := (max 0 (min 15 (Int.fdiv (v - lo) ((2 ^ shift : Nat) : Int)))).toNat
  { count := (x.count + 1) % 2 ^ 64
    min := if x.count = 0 then v else min x.min v
    max := if x.count = 0 then v else max x.max v
    bins := modAt (fun n => Nat.min (n + 1) 0xFFFFFFFF) x.bins b
    first := if x.count = 0 then seen else x.first
    last := seen }

/-- A logged occurrence of an event code: its live summary, and its place among the codes to append (R525, R528). -/
def State.logEvent (s : State) (code : Nat) (v : Int := 0) : State :=
  let r := s.recd
  let sc := codeScale r code
  let x := sumAdd (r.live.at' code {}) sc.1 sc.2 v (s.rd Reg.AGE_HOURS_OP_HOURS, s.rd Reg.AGE_PCYC_PCYCLES)
  { s with recd := { r with
      live := r.live.put code x
      changed := if code ∈ r.changed then r.changed else code :: r.changed
      crossing := if isPow2 x.count && !(decide (code ∈ r.crossing)) then code :: r.crossing else r.crossing } }

/-- Counts an event and logs it under its counter number. -/
def State.countLog (s : State) (ev : Nat) (v : Int := 0) : State := (s.count ev).logEvent ev v

/-! Interrupts (R472 to R474). -/

/-- A word of the MSI-X table; the mask bit of a vector is set at reset, as PCIe gives (R480, log entry 8). -/
def State.msixWord (s : State) (i : Nat) : Word := s.host.msix.at' i (if i % 4 = 3 then 1 else 0)

/-- Whether a vector is masked. -/
def State.masked (s : State) (v : Nat) : Bool := bitOf (s.msixWord (4 * v + 3)).toNat 0

/-- A vector's message is due: its pending bit sets and is stamped, and the message goes out at once unless the vector is masked (R472, R474, R104). -/
def State.msi (s : State) (v : Nat) : State :=
  let h := s.host
  if v ∈ h.pba then s
  else
    let h := { h with stamps := h.stamps.put v s.now64 }
    if s.masked v then { s with host := { h with pba := h.pba ++ [v] } }
    else { s with host := { h with sent := v :: h.sent } }

/-- A device cause arises: its bit sets and, when the bit was 0 and is not masked, its vector's message is due (R473). -/
def State.cause (s : State) (i : Nat) : State :=
  let c := s.rd Reg.RNG_DEV_CAUSE_CAUSE
  if bitOf c i then s
  else
    let s := s.wr Reg.RNG_DEV_CAUSE_CAUSE (c + 2 ^ i)
    if bitOf (s.rd Reg.RNG_DEV_MASK_MASK) i then s else s.msi (128 + i)

/-- A field whose change is a device cause takes a new value (R473). -/
def State.wrCause (s : State) (f : Fld) (v : Nat) (i : Nat) (ix : List Nat := []) : State :=
  if s.rd f ix = v then s else (s.wr f v ix).cause i

/-! Completion records (R466 to R468). -/

/-- The code of a status (R468). -/
def statusCode : Status → Nat
  | .ok => 0 | .acceptedLong => 1 | .busy => 2 | .denied => 3 | .needsSecond => 4 | .invalid => 5
  | .collision => 6 | .torn => 7 | .certFail => 8 | .absent => 9 | .overflow => 10 | .timeout => 11 | .aborted => 12

/-- The state with one ring's state changed. -/
def State.onRing (s : State) (r : Nat) (f : Ring → Ring) : State :=
  { s with host := { s.host with rings := s.host.rings.upd r {} f } }

/-- A completion record becomes due: in its ring's due order, at the originating device, or at the maintenance port; records of commands fetched before a ring reset are discarded, and a replayed command gets none (R389, R459, R466, R505). -/
def State.post (s : State) (c : Cpl) : State :=
  if c.ref.replayed then s else
  match c.ref.origin with
  | some _ => { s with host := { s.host with remote := s.host.remote ++ [c] } }
  | none =>
    if 128 ≤ c.ref.ring then { s with host := { s.host with mnt := s.host.mnt ++ [c] } }
    else if (s.host.rings.at' c.ref.ring {}).gen = c.ref.gen then
      s.onRing c.ref.ring (fun r => { r with due := r.due ++ [c] })
    else s

/-- The final record of a command. -/
def State.complete (s : State) (ref : CmdRef) (st : Status) (detail : Nat := 0) (result : Nat := 0) (data : List Byte := []) : State :=
  s.post { ref := ref, status := st, final := true, detail := detail, result := result, data := data }

/-- The acknowledgement of a long operation (R467). -/
def State.accept (s : State) (ref : CmdRef) : State :=
  s.post { ref := ref, status := .acceptedLong, final := false, detail := 0, result := 0, data := [] }

/-- A BAR0 read begins: nothing is returned yet. -/
def State.readBegin (s : State) : State := { s with host := { s.host with readData := [] } }

/-- The next n bytes that a BAR0 read returns (R2). -/
def State.returned (s : State) (v : Nat) (n : Nat := 4) : State :=
  { s with host := { s.host with readData := s.host.readData ++ leBytes n v } }

/-! Modes that every command meets (R9, R396, R498, R568). -/

/-- GLB_KEY.EFFECTIVE codes (R229). -/
def keyStop : Nat := 0
/-- RUN. -/
def keyRun : Nat := 1
/-- RUN-PROGRAM. -/
def keyProg : Nat := 2
/-- MAINTENANCE. -/
def keyMaint : Nat := 3

/-- The key admits RWK writes and key commands (R9). -/
def State.keyOk (s : State) : Bool :=
  decide (2 ≤ s.rd Reg.GLB_KEY_EFFECTIVE) && !s.flag Reg.GLB_KEY_BETWEEN

/-- The key admits what needs MAINTENANCE. -/
def State.keyMaintOk (s : State) : Bool :=
  decide (s.rd Reg.GLB_KEY_EFFECTIVE = keyMaint) && !s.flag Reg.GLB_KEY_BETWEEN

/-- Run time in units of 250 ps. -/
def State.run4 (s : State) : Nat := 4 * s.runNs + s.time.runFrac / 2 ^ 30

/-- The run time of the 500 ns mark that this tick has reached, in units of 250 ps (R97, R267). -/
def State.grid4 (s : State) : Nat := s.run4 - clock4 s.time.d % 2000

/-- The instant in D that this 500 ns mark names, in ns (R97). -/
def State.gridNs (s : State) : Nat := clockNs s.time.d / 500 * 500

/-- EFFECTIVE reads STOP. -/
def State.keyStopped (s : State) : Bool := decide (s.rd Reg.GLB_KEY_EFFECTIVE = keyStop)

/-- Life-cycle codes of SEC_LC.STATE (R506). -/
def State.lc (s : State) : Nat := s.rd Reg.SEC_LC_STATE

/-- GLB_PAIR.STATE codes (R399). -/
def State.pairSt (s : State) : Nat := s.rd Reg.GLB_PAIR_STATE

/-- The unit is a standby that refuses commands: LISTEN, ALIGNING, REPLAY or FAULTY (R396). -/
def State.pairStandby (s : State) : Bool :=
  let p := s.pairSt
  decide (p = 1) || decide (p = 3) || decide (p = 4) || decide (p = 6)

/-- Commands marked "Key" in their chapters' tables. -/
def keyCmds : List Nat :=
  [0x0101, 0x0102, 0x0104, 0x0105, 0x0106, 0x0109, 0x0A01, 0x0203, 0x0204, 0x0302, 0x0303, 0x0304, 0x0314, 0x0315,
   0x0317, 0x0318, 0x0405, 0x0406, 0x0502, 0x0503, 0x0505, 0x0506, 0x0606, 0x0704, 0x0705, 0x0805, 0x0902, 0x0B05,
   0x0B06, 0x0C03, 0x0C04, 0x0C06, 0x0C07, 0x1001, 0x0E08, 0x0F04, 0x0F14]

/-- Commands that need MAINTENANCE (R499, R530). -/
def maintCmds : List Nat := [0x0E07, 0x0F12]

/-- Commands refused in STOP by R563. -/
def stopCmds : List Nat := [0x0311, 0x0401, 0x0403]

/-- Commands that a standby unit refuses (R396). -/
def pairRefused (op : Nat) : Bool :=
  decide (op ∈ [0x0202, 0x0203, 0x0204, 0x0B04, 0x0105, 0x0102, 0x0A01, 0x0902, 0x0606, 0x0805]) ||
  (decide (op / 256 ∈ [3, 4, 5]) && !(decide (op ∈ [0x0301, 0x0307, 0x0308, 0x0310, 0x0407, 0x0501, 0x0504])))

/-- A refusal that may apply: its condition, status and DETAIL. -/
abbrev Check := Bool × Status × Nat

/-- The first refusal that applies. -/
def judge : List Check → Option (Status × Nat)
  | [] => none
  | (true, st, d) :: _ => some (st, d)
  | (false, _, _) :: t => judge t

/-- The refusals of rows 4 and 5 of R568 that an opcode meets: pair state and key position. -/
def State.gate (s : State) (op : Nat) : List Check :=
  [(s.pairStandby && pairRefused op, .denied, 3),
   (decide (op ∈ keyCmds) && !s.keyOk, .denied, 1),
   (decide (op ∈ maintCmds) && !s.keyMaintOk, .denied, 1),
   (decide (op ∈ stopCmds) && s.keyStopped, .denied, 1)]

/-- The executor of an opcode (R469). -/
def executorOf (op : Nat) : Executor :=
  if op ∈ [0x0A02, 0x0F20, 0x0F21, 0x0F22] then .ringEngine
  else if op / 256 = 2 ∨ op ∈ [0x0301, 0x0310, 0x0407, 0x0501, 0x0504, 0x0B04] then .pointEngine
  else if op / 256 = 6 then .historian
  else if op / 256 = 7 then .acquisition
  else if op ∈ [0x0801, 0x0802, 0x0804, 0x0806] then .converter
  else .steward

/-- In RECOVERY the Steward refuses what it serves, but for SEC_STATUS, SEC_IDENTITY and SEC_FW_WRITE (R485). -/
def State.recovery (s : State) (op : Nat) : List Check :=
  [(s.flag Reg.SEC_LC_RECOVERY && decide (executorOf op = .steward) && !decide (op ∈ [0x0E01, 0x0E06, 0x0E08]), .denied, 6)]

/-- A command judged by R568: `pre` are the refusals of rows 1 to 3, `suf` those of rows 6 to 8; when none applies the command takes effect. -/
def State.command (s : State) (ref : CmdRef) (op : Nat) (pre suf : List Check) (k : CmdRef → State → State) : State :=
  let ref := { ref with op := op }
  match judge (pre ++ s.gate op ++ suf ++ s.recovery op) with
  | some (st, d) => s.complete ref st d
  | none => k ref s

/-- A long operation judged by R568: the refusals INVALID and BUSY of its own chapter's `now` list come at once; otherwise the acknowledgement precedes whatever follows (R467). -/
def State.commandLong (s : State) (ref : CmdRef) (op : Nat) (pre suf : List Check) (k : CmdRef → State → State) : State :=
  let ref := { ref with op := op, long := true }
  match judge (pre ++ s.gate op ++ suf ++ s.recovery op) with
  | some (st, d) =>
    if st = .invalid ∨ st = .busy then s.complete ref st d
    else (s.accept ref).complete ref st d
  | none => k ref (s.accept ref)

/-- The Steward's current command is the one that is now executed (R469). -/
def State.stwDone (s : State) (ref : CmdRef) : State :=
  match s.host.steward.current with
  | some f => if f.ref.ring = ref.ring ∧ f.ref.handle = ref.handle then { s with host := { s.host with steward := { s.host.steward with current := none } } } else s
  | none => s

/-- The i-th argument word of a command, 0 when absent. -/
def argN (a : List Nat) (i : Nat) : Nat := a.getD i 0

/-- A 64-bit argument from two words, the lower first. -/
def arg64 (a : List Nat) (i : Nat) : Nat := argN a i % 2 ^ 32 + 2 ^ 32 * (argN a (i + 1) % 2 ^ 32)

/-- The bytes of the argument words from the i-th on. -/
def argBytes (a : List Nat) (i : Nat) : List Byte := ((a.drop i).map (leBytes 4)).flatten

/-- The index of the first element that fails a test. -/
def firstBad {α : Type} (p : α → Bool) (l : List α) : Option Nat :=
  match findIdx' (fun x => !p x) l 0 with
  | some (i, _) => some i
  | none => none

/-- A refusal whose DETAIL is the index of the first element of a list that fails a test, counted from `base`. -/
def badAt {α : Type} (p : α → Bool) (l : List α) (st : Status) (base : Nat := 0) : Check :=
  match firstBad p l with
  | some i => (true, st, base + i)
  | none => (false, st, 0)

/-- The list of a command whose first argument is its length: none when the arguments are too few. -/
def argItems (a : List Nat) : Option (List Nat) :=
  let n := argN a 0
  if n + 1 ≤ a.length then some ((a.drop 1).take n) else none

/-- INVALID for a list that is missing, empty or longer than a bound (R464). -/
def badCount (a : List Nat) (hi : Nat) : Check :=
  (decide (argN a 0 < 1 ∨ hi < argN a 0 ∨ a.length < argN a 0 + 1), .invalid, 0)

/-- INVALID for output beyond the command's buffer (R464). -/
def noRoom (ref : CmdRef) (n : Nat) : Check := (decide (ref.bufLen < n), .invalid, 0)

end Sys2Proof.Machine
end

