-- ==== Sys2Proof/Machine/Points.lean ====
section
/-! DEFINITION. Points: identifiers, formats, quality at the seal, owner writes, host writes and forces at the mark, and the point-definition section (R113 to R130). -/

namespace Sys2Proof.Machine

/-! Identifiers (R113, R114). -/

/-- The device number of an identifier or reference. -/
def idDev (x : Nat) : Nat := bitsOf x 24 17
/-- The local index of an identifier. -/
def idLocal (x : Nat) : Nat := x % 131072
/-- The cell of an identifier or reference. -/
def idCell (x : Nat) : Nat := bitsOf x 16 11
/-- An absent point field of a record. -/
def NONE : Nat := 0xFFFFFFFF

/-- A definition's flags: OUTPUT, HOST_OWNED, FORCIBLE, RANGE (R116). -/
def PointDef.output (d : PointDef) : Bool := bitOf d.flags 2
/-- HOST_OWNED. -/
def PointDef.hostOwned (d : PointDef) : Bool := bitOf d.flags 3
/-- FORCIBLE. -/
def PointDef.forcible (d : PointDef) : Bool := bitOf d.flags 4
/-- RANGE. -/
def PointDef.range (d : PointDef) : Bool := bitOf d.flags 5
/-- The owner code, bits 31:28 of OWNER (R122). -/
def PointDef.ownerKind (d : PointDef) : Nat := bitsOf d.owner 31 28

/-- A definition with OWNER 0x2 and OUTPUT names a station's output signal; the holding cell writes it (R122, R320; log entry 18). -/
def PointDef.stationOut (d : PointDef) : Bool := decide (d.ownerKind = 2) && d.output
/-- The point is written by a cell's role: its owner is a cell, or it is a station's output signal (R122, R320). -/
def PointDef.byCell (d : PointDef) : Bool := decide (d.ownerKind = 0) || d.stationOut

/-- The running image's own device number (R114). -/
def State.ownDev (s : State) : Nat := match s.img.run with | some i => i.devnum | none => 0

/-- The definition of a local point. -/
def State.pdef (s : State) (idx : Nat) : Option PointDef :=
  match s.img.run with | some i => i.points.look idx | none => none

/-- The working state of a local point; a point never touched holds INIT. -/
def State.work (s : State) (idx : Nat) : PointWork :=
  s.pts.work.at' idx { own := match s.pdef idx with | some d => d.init | none => 0 }

/-- The state with a local point's working state changed. -/
def State.onWork (s : State) (idx : Nat) (f : PointWork → PointWork) : State :=
  { s with pts := { s.pts with work := s.pts.work.put idx (f (s.work idx)) } }

/-- The stamp64 of the base mark that starts cycle N (R30). -/
def markStamp (n : Nat) : Nat := stamp64 (clockOf (n * 125000) 0)

/-! Formats (R117, R120). -/

/-- Order of two values of a format: a < b. -/
def valLt (format : Nat) (a b : Word) : Bool :=
  if format = 0 then F32.lt a b
  else if format = 1 then decide (a.toInt < b.toInt)
  else decide (a.toNat < b.toNat)

/-- A host write of this value is INVALID (R117). -/
def valInvalid (d : PointDef) (v : Word) : Bool :=
  if d.format = 0 then !F32.fin v
  else if d.format = 2 then decide (1 < v.toNat)
  else if d.format = 3 then decide (65535 < v.toNat ∨ d.enumCount ≤ v.toNat)
  else false

/-- An owner value is out of range (R120). -/
def outOfRange (d : PointDef) (v : Word) : Bool :=
  (d.range && (valLt d.format v d.lo || valLt d.format d.hi v)) ||
  (decide (d.format = 0) && !F32.fin v) ||
  (decide (d.format = 3) && decide (d.enumCount ≤ v.toNat))

/-! Quality (R118, R119). -/

/-- The quality code (R118). -/
def qualCode : Quality → Nat
  | .good => 0 | .notYet => 1 | .stale => 2 | .forced => 3 | .substituted => 4 | .outOfRange => 5 | .absent => 6

/-- The cell that executes a home cell's work (R515, R516). -/
def State.execOf (s : State) (h : Nat) : Nat :=
  if s.flag Reg.AGE_MAP_MIGRATED [h] then s.rd Reg.AGE_MAP_EXEC [h] else h

/-- A cell is in SAFE (R77). -/
def State.cellSafe (s : State) (c : Nat) : Bool := decide (s.rd Reg.CEL_STATUS_STATE [c] = 3)

/-- The cell whose SAFE state governs a point: the executing cell for role-owned points, else the holding cell (R76, R516). -/
def State.governor (s : State) (idx : Nat) (d : PointDef) : Nat :=
  if d.byCell then s.execOf (idx / 2048) else idx / 2048

/-- MAX_AGE has passed since the owner's last write (R119, order 4). -/
def aged (d : PointDef) (w : PointWork) (n : Nat) : Bool :=
  decide (0 < d.maxAge) && w.written && decide (d.maxAge < n - w.updateN)

/-- The quality that orders 3 to 7 give (R119); an import shows the quality it was exported with where the exporter's was not GOOD (R128; log entry 19). -/
def shadowQuality (d : PointDef) (w : PointWork) (safe : Bool) (n : Nat) : Quality :=
  if w.absent then .absent
  else if (safe && !d.output) || w.torn || w.dropped || aged d w n then .stale
  else if w.written && decide (w.inQ ≠ .good) then w.inQ
  else if w.written && outOfRange d w.own then .outOfRange
  else if !w.written then .notYet
  else .good

/-- A standby in REPLAY takes every point that no cell owns from the manifests (R389). -/
def State.mirrored (s : State) (d : PointDef) : Bool := decide (s.pairSt = 4) && !d.byCell

/-- Value and quality of a point by R119, and its shadow pair; a point of a LOST cell is ABSENT (R521), and in REPLAY a point not owned by a cell is as the manifests gave it (R389). -/
def State.evalPoint (s : State) (idx n : Nat) : PointEntry :=
  match s.pdef idx with
  | none => {}
  | some d =>
    if s.mirrored d then s.pair.mirror.at' idx {} else
    let w := s.work idx
    let w := if s.flag Reg.AGE_STAT_FORERUNNER && s.flag Reg.AGE_MAP_LOST [idx / 2048] then { w with absent := true } else w
    let safe := s.cellSafe (s.governor idx d)
    let sq := shadowQuality d w safe n
    let vq : Word × Quality :=
      if safe && d.output then (d.safe, .substituted)
      else match w.force with
        | some f => (f, .forced)
        | none => (w.own, sq)
    { value := vq.1, quality := vq.2, shadow := w.own, shadowQ := sq, time := w.ownTime, update := w.updateN % 2 ^ 32 }

/-- An entry shows a force or a substitution of this device; an import may show its exporter's, and then VALUE is SHADOW (R119, R128). -/
def overridden (import_ : Bool) (e : PointEntry) : Bool :=
  decide (e.quality = .forced ∨ e.quality = .substituted) && (!import_ || decide (e.quality ≠ e.shadowQ) || decide (e.value ≠ e.shadow))

/-- TIME at the seal (R121): the mark `t` where a force, an unforce, a substitution, its end or ABSENT takes effect, unchanged by STALE, else the owner's; an import delivered ABSENT, FORCED or SUBSTITUTED keeps the time it was exported with (R359). -/
def sealTime (import_ : Bool) (prev e : PointEntry) (wrote : Bool) (t : Nat) : Nat :=
  let owner := if wrote then e.time else prev.time
  if overridden import_ e then (if prev.quality = e.quality ∧ prev.value = e.value ∧ overridden import_ prev then prev.time else t)
  else if overridden import_ prev then t
  else match e.quality with
    | .absent => if import_ && wrote then e.time else if prev.quality = .absent ∧ prev.value = e.value then prev.time else t
    | .stale => prev.time
    | _ => owner

/-- In REPLAY the sealed record of every point with OWNER 0x1 to 0x6 is as the manifests gave it (R388, R389). -/
def State.replayed (s : State) (idx : Nat) : Bool :=
  decide (s.pairSt = 4) && (match s.pdef idx with | some d => decide (d.ownerKind ≠ 0) | none => false)

/-- The point is an import (R128). -/
def State.imports (s : State) (idx : Nat) : Bool := match s.pdef idx with | some d => decide (d.ownerKind = 4) | none => false

/-- Seals one point for cut n into the half being written; `t` is the stamp of the mark at which a change of mode takes effect; a point newly STALE by MAX_AGE is counted (R119, R121, R130). -/
def State.sealPoint (s : State) (idx n t : Nat) : State :=
  let prev := s.pts.cut.at' idx {}
  let e := s.evalPoint idx n
  let w := s.work idx
  let e : PointEntry := if s.replayed idx then s.pair.mirror.at' idx {} else { e with time := sealTime (s.imports idx) prev e w.wrote t }
  let s := match s.pdef idx with
    | some d => if aged d w n && decide (e.shadowQ = Quality.stale) && decide (prev.shadowQ ≠ Quality.stale) then s.count 0x213 else s
    | none => s
  let s := { s with pts := { s.pts with next := s.pts.next.put idx e } }
  if w.wrote then s.onWork idx (fun w => { w with wrote := false }) else s

/-- The defined local points of a cell, in ascending slot order. -/
def State.pointsOf (s : State) (c : Nat) : List Nat :=
  match s.img.run with
  | some i => (i.points.map (·.1)).filter (fun k => decide (k / 2048 = c))
  | none => []

/-- An entry of the last sealed cut as another reader gets it: with an uncorrectable error its QUALITY is STALE (R434). -/
def State.cutAt (s : State) (idx : Nat) : PointEntry :=
  let e := s.pts.cut.at' idx {}
  if idx ∈ s.pts.bad then { e with quality := .stale } else e

/-- What cell c reads of a local point in the working cycle: its own points and local inputs from the working state, imports too, every other, station and CAN inputs too, from the last sealed cut (R32, R128, R298, R324, R334). -/
def State.readPoint (s : State) (c idx : Nat) : PointEntry :=
  match s.pdef idx with
  | none => {}
  | some d => if (idx / 2048 = c ∧ ((d.ownerKind ≠ 2 ∧ d.ownerKind ≠ 3) ∨ d.output)) ∨ d.ownerKind = 1 ∨ d.ownerKind = 4 then s.evalPoint idx s.time.n else s.cutAt idx

/-- What an output point gives its pin or frame within a cycle: its safe value until the cycle after a release has sealed (R77). -/
def State.pinValue (s : State) (idx : Nat) : Word :=
  match s.pdef idx with
  | some d => if d.output && (s.fab.cells.at' (s.governor idx d) {}).releasing then d.safe else (s.evalPoint idx s.time.n).value
  | none => 0

/-- The owner writes a point at a time; a full write ends the mark of a torn clause (R121, R123, R87). -/
def State.ownerWrite (s : State) (idx : Nat) (v : Word) (t : Nat) : State :=
  s.onWork idx (fun w => { w with own := v, written := true, wrote := true, ownTime := t, updateN := s.time.n, torn := false, inQ := .good })

/-- A role writes one of its points in the cycle in progress (R121). -/
def State.roleWrite (s : State) (idx : Nat) (v : Word) : State := s.ownerWrite idx v (markStamp s.time.n)

/-- A role writes a point named by a record field; NONE writes nothing. -/
def State.roleWriteId (s : State) (id : Nat) (v : Word) : State :=
  if id = NONE then s else s.roleWrite (idLocal id) v

/-! Host writes and forces at the mark (R124, R125). -/

/-- The state with the points' state changed. -/
def State.onPts (s : State) (f : Points → Points) : State := { s with pts := f s.pts }

/-- The commands of a list, each once, in order. -/
def refsOnce : List CmdRef → List CmdRef → List CmdRef
  | [], acc => acc.reverse
  | r :: t, acc => refsOnce t (if r ∈ acc then acc else r :: acc)

/-- A write or force command of this device ends: it completes, or answers its part of a command over several devices (R124, R125, R127). -/
def State.pointDone (s : State) (r : CmdRef) (st : Status) (detail n : Nat) : State :=
  let mine (j : PointJob) : Bool := decide (j.ref = r) && decide (s.ownDev ∈ j.waiting)
  if s.host.jobs.any mine then
    { s with host := { s.host with jobs := s.host.jobs.map (fun j =>
      if mine j then { j with waiting := j.waiting.filter (fun d => decide (d ≠ s.ownDev)), answers := j.answers.put s.ownDev { status := st, detail := detail, result := n, data := [] } } else j) } }
  else s.complete r st detail n

/-- Host writes latched in the past cycle take effect: the last to arrive on each point stands, the overtaken ones are counted, every command completes OK with N (R124). -/
def applyHostWritesLoop : List HostWrite → State → State
  | [], s => s
  | w :: t, s =>
    if t.any (fun x => x.idx = w.idx) then applyHostWritesLoop t (s.count 0x211)
    else applyHostWritesLoop t (s.ownerWrite w.idx w.value (markStamp s.time.n))

/-- Host writes at the base mark (R124). -/
def State.applyHostWrites (s : State) : State :=
  let l := s.pts.hostWrites
  let s := applyHostWritesLoop l (s.onPts (fun p => { p with hostWrites := [] }))
  forL (refsOnce (l.map (·.ref)) []) (fun r s => s.pointDone r .ok 0 s.time.n) s

/-- Forced points of the device. -/
def State.forcedPoints (s : State) : List Nat :=
  (s.pts.work.filter (fun e => e.2.force.isSome)).map (·.1)

/-- Forces and unforces take effect in arrival order; every command completes OK with N (R125), or in STOP DENIED with no effect (R564). -/
def State.applyForces (s : State) : State :=
  let l := s.pts.forceReqs
  let s := s.onPts (fun p => { p with forceReqs := [] })
  if s.keyStopped then forL (refsOnce (l.map (·.ref)) []) (fun r s => s.pointDone r .denied 1 0) s
  else
  let s := forL l (fun r s => s.onWork r.idx (fun w => { w with force := r.value })) s
  let s := s.wr Reg.GLB_PT_FORCE_COUNT s.forcedPoints.length
  forL (refsOnce (l.map (·.ref)) []) (fun r s => s.pointDone r .ok 0 s.time.n) s

/-- The points that will be forced after the next mark, given the requests accepted (R125). -/
def forcedAfter : List ForceReq → List Nat → List Nat
  | [], l => l
  | r :: t, l =>
    match r.value with
    | some _ => forcedAfter t (if r.idx ∈ l then l else r.idx :: l)
    | none => forcedAfter t (l.filter (fun x => !(x == r.idx)))

/-- Whether forcing these points in order keeps within 1,024 (R125). -/
def forceFits : List Nat → List Nat → Bool
  | [], _ => true
  | p :: t, l => if p ∈ l then forceFits t l else if 1024 ≤ l.length then false else forceFits t (p :: l)

/-- A definition as it is now: the OWNER of a point that a cell's role writes names the cell that executes the work (R122, R516). -/
def State.defNow (s : State) (d : PointDef) : PointDef := if d.ownerKind = 0 then { d with owner := s.execOf (d.owner % 64) } else d

/-- A sealed entry's 32 bytes (R116). -/
def entryBytes (d : PointDef) (e : PointEntry) : List Byte :=
  leBytes 4 e.value.toNat ++ leBytes 1 (qualCode e.quality) ++ leBytes 1 (qualCode e.shadowQ) ++
  leBytes 2 (d.format + d.flags) ++ leBytes 8 e.time ++ leBytes 4 d.owner ++ leBytes 4 e.shadow.toNat ++
  leBytes 2 d.recPolicy ++ leBytes 2 0 ++ leBytes 4 e.update

/-- A definition record's 32 bytes (R122). -/
def defBytes (d : PointDef) : List Byte :=
  leBytes 2 d.slot ++ leBytes 1 d.format ++ leBytes 1 d.flags ++ leBytes 4 d.owner ++ leBytes 4 d.init.toNat ++
  leBytes 4 d.lo.toNat ++ leBytes 4 d.hi.toNat ++ leBytes 4 d.safe.toNat ++ leBytes 2 d.maxAge ++
  leBytes 2 d.recPolicy ++ leBytes 2 d.enumCount ++ leBytes 2 0

/-! The point-definition section (R122). -/

/-- A fault the parser finds: reason code, object, value found, limit (R58). -/
structure Rej where
  reason : Nat
  obj : Nat := 0
  d0 : Nat := 0
  d1 : Nat := 0
deriving DecidableEq, Repr

/-- A fault when a test fails. -/
def need (ok : Bool) (reason : Nat) (obj : Nat := 0) : List Rej := if ok then [] else [{ reason := reason, obj := obj }]

/-- The records of a section: `n` slices of a size. -/
def recordsOf (b : List Byte) (size n : Nat) : List (List Byte) := (List.range n).map (fun i => slice b (size * i) size)

/-- A point definition read from its record. -/
def pointDefOf (r : List Byte) : PointDef :=
  { slot := fieldLE r 0 2, format := fieldLE r 2 1, flags := fieldLE r 3 1, owner := fieldLE r 4 4
    init := wordLE r 8, lo := wordLE r 12, hi := wordLE r 16, safe := wordLE r 20
    maxAge := fieldLE r 24 2, recPolicy := fieldLE r 26 2, enumCount := fieldLE r 28 2 }

/-- The OWNER reference's unused bits are 0 and its code is assigned (R122). -/
def ownerOk (o : Nat) : Bool :=
  let x := o % 2 ^ 28
  match o / 2 ^ 28 with
  | 0 => decide (x < 64)
  | 1 => decide (x < 65536)
  | 2 => decide (bitsOf x 15 9 = 0)
  | 3 => decide (bitsOf x 7 3 = 0)
  | 4 => decide (x < 256)
  | 5 => decide (x = 0)
  | 6 => decide (x < 65536)
  | _ => false

/-- The checks of one definition record (R120, R122). -/
def pointChecks (r : List Byte) (d : PointDef) (obj : Nat) : List Rej :=
  need (decide (d.slot < 2048) && decide (d.format < 4) && decide (d.flags % 4 = 0) && decide (d.flags < 64) &&
    ownerOk d.owner && decide (fieldLE r 30 2 = 0) &&
    (decide (d.format ≠ 3) || decide (0 < d.enumCount)) && (decide (d.format = 3) || decide (d.enumCount = 0)) &&
    (d.output || decide (d.safe = 0)) && (!d.hostOwned || decide (d.ownerKind = 5)) &&
    !valLt d.format d.hi d.lo) 0x000B obj

/-- The point-definition section of a cell: definitions by local index, and faults (R122). -/
def parsePoints (b : List Byte) (items cell dev : Nat) : Tab PointDef × List Rej :=
  let rs := recordsOf b 32 items
  let ds := rs.map pointDefOf
  let tab : Tab PointDef := ds.foldl (fun t d => t.put (cell * 2048 + d.slot) d) []
  let bad := ((rs.zip ds).map (fun e => pointChecks e.1 e.2 (dev * 131072 + cell * 2048 + e.2.slot))).flatten
  (tab, need (decide (b.length = 32 * items)) 0x0008 ++ need (ascending (ds.map (·.slot))) 0x0008 ++ bad)

end Sys2Proof.Machine
end

