-- ==== Sys2Proof/Machine/Arbiter.lean ====
section
/-! DEFINITION. The fabric's arbiters: ports and ranks, waiting requests, round-robin grants, clauses with their end, lapse and tearing, the emergency requesters and what their grants perform (chapter 03, R66, R78 to R88; R446, R504). -/

namespace Sys2Proof.Machine

/-- The state with the fabric's state changed. -/
def State.onFab (s : State) (f : Fabric → Fabric) : State := { s with fab := f s.fab }

/-! Arbiters, ports and ranks (R79). -/

/-- An arbiter's number: 192 banks, 320 router outputs, 32 edge inputs, 8 window banks, 2 DDR5 controllers, MRAM (R79). -/
def arbKey : Arb → Nat
  | .bank c b => c * 3 + b
  | .router c o => 192 + c * 5 + o
  | .edge n => 512 + n
  | .window b => 544 + b
  | .ddr ch => 552 + ch
  | .mram => 554

/-- The arbiter of a number. -/
def keyArb (k : Nat) : Arb :=
  if k < 192 then .bank (k / 3) (k % 3)
  else if k < 512 then .router ((k - 192) / 5) ((k - 192) % 5)
  else if k < 544 then .edge (k - 512)
  else if k < 552 then .window (k - 544)
  else if k < 554 then .ddr (k - 552)
  else .mram

/-- The arbiter in front of a target (R79). -/
def arbOf : Target → Arb
  | .bank c b => .bank c b
  | .window b => .window b
  | .ddr ch => .ddr ch
  | .mram => .mram

/-- The ports of a rank, in the order of the rotation (R78, R79; log entry 10). -/
def arbPorts (a : Arb) (rank : Nat) : List Port :=
  match a, rank with
  | .bank _ _, 0 => [.seal]
  | .bank _ _, 1 => [.own, .mesh]
  | .bank _ _, 3 => [.scrub, .march, .borrow]
  | .router _ _, 1 => [.neighbour 0, .neighbour 1, .neighbour 2, .neighbour 3, .own]
  | .edge _, 0 => [.bridge]
  | .edge _, 1 => [.mboquel, .ethernet, .canFd, .acquisition]
  | .edge _, 2 => [.historian, .host, .steward, .stations]
  | .edge _, 3 => [.telemetry]
  | .window _, 1 => [.cells]
  | .window _, 2 => [.steward]
  | .window _, 3 => [.scrub]
  | .ddr _, 1 => [.historian, .acquisition]
  | .ddr _, 2 => [.parser, .host, .steward]
  | .ddr _, 3 => [.scrub]
  | .mram, 0 => [.flush]
  | .mram, 2 => [.steward]
  | .mram, 3 => [.scrub, .march]
  | _, _ => []

/-- The emergency requester of an arbiter (R79). -/
def emergencyPort : Arb → Option Port
  | .mram => none
  | .ddr _ => some .refresh
  | _ => some .debug

/-- The rank of a port at an arbiter (R78, R79). -/
def rankOf (a : Arb) (p : Port) : Option Nat := [0, 1, 2, 3].find? (fun r => decide (p ∈ arbPorts a r))

/-- The class of a request: those that R83 issues as clauses carry LOCK but for their last transfer; the debug port's is EMERGENCY, and a LOCK of the refresh port too (R81, R83). -/
def reqClass (p : Port) (u : ReqUse) : ReqClass :=
  let c : ReqClass := match u with
    | .pointEntry i => if i < 3 then .lock else .ordinary
    | .clauseOf left => if left = 0 then .ordinary else .lock
    | .locked => .lock
    | .plain => .ordinary
  if p = .debug ∨ (p = .refresh ∧ c = .lock) then .emergency else c

/-! The choice of the next grant (R78, R81, R85). -/

/-- A list begun at a place. -/
def rotated {α : Type} (l : List α) (n : Nat) : List α := l.drop n ++ l.take n

/-- The first request in the queue of the first port, of a list of ports, that has one. -/
def portPick (q : List ArbReq) : List Port → Option ArbReq
  | [] => none
  | p :: t =>
    match q.find? (fun r => decide (r.port = p)) with
    | some r => some r
    | none => portPick q t

/-- The request of the lowest rank, its rank's ports in rotation; an ordinary refresh comes after every rank (R78; log entry 10). -/
def Arbiter.ranked (x : Arbiter) (a : Arb) : Option ArbReq :=
  let q := x.queue.filter (fun r => decide (r.cls ≠ .emergency))
  portPick q (([0, 1, 2, 3].map (fun r => rotated (arbPorts a r) (x.turn.at' r 0))).flatten ++ [.refresh])

/-- An emergency request that may be granted: the debug port has one grant in any 64 handshake periods (R85). -/
def Arbiter.urgent (x : Arbiter) : Option ArbReq :=
  x.queue.find? (fun r => decide (r.cls = .emergency) && (decide (r.port ≠ .debug) || decide (64 ≤ x.sinceDebug)))

/-- The request of an open clause's owner (R81). -/
def Arbiter.ownNext (x : Arbiter) (c : Clause) : Option ArbReq :=
  x.queue.find? (fun r => decide (r.cls ≠ .emergency) && decide (r.port = c.port) && decide (r.target = c.target))

/-- The request that the next transfer boundary grants (R78, R81, R85). -/
def Arbiter.choose (x : Arbiter) (a : Arb) : Option ArbReq :=
  match x.urgent with
  | some r => some r
  | none =>
    match x.clause with
    | some c => x.ownNext c
    | none => x.ranked a

/-- The rotation pointer of a port's rank moves to the port after it (R78). -/
def Arbiter.turnPast (x : Arbiter) (a : Arb) (p : Port) : Arbiter :=
  match rankOf a p with
  | some r =>
    let l := arbPorts a r
    match findIdx' (fun y => decide (y = p)) l 0 with
    | some (i, _) => { x with turn := x.turn.put r ((i + 1) % l.length) }
    | none => x
  | none => x

/-- The open clause ends, and the rotation goes on past its owner's port (R78, R82). -/
def Arbiter.endClause (x : Arbiter) (a : Arb) : Arbiter :=
  match x.clause with
  | some c => { x with clause := none, silent := 0 }.turnPast a c.port
  | none => x

/-- A request is granted: one of class LOCK opens a clause, one of the owner continues it, an emergency leaves it as it is (R78, R81, R85). -/
def Arbiter.take (x : Arbiter) (r : ArbReq) : Arbiter :=
  let x : Arbiter := { x with queue := x.queue.erase r, active := some (r, false) }
  if r.cls = .emergency then (if r.port = .debug then { x with sinceDebug := 0 } else x)
  else match x.clause with
    | some c => { x with clause := some { c with count := c.count + 1 }, silent := 0 }
    | none =>
      if r.cls = .lock then { x with clause := some { port := r.port, owner := r.owner, target := r.target, count := 1, addr := r.addr }, silent := 0 } else x

/-- The transfer granted reaches phase 2: it is complete and stands (R66, R86). -/
def Arbiter.ack (x : Arbiter) : Arbiter :=
  match x.active with
  | some (r, false) =>
    { x with
      active := some (r, true)
      clause := if r.cls = .emergency ∨ !r.write then x.clause else x.clause.map (fun c => { c with points := c.points ++ r.points.filter (fun p => !decide (p ∈ c.points)) }) }
  | _ => x

/-- The transfer granted ends: a clause ends with its owner's ORDINARY transfer and, counted, with the 32nd of class LOCK (R81, R82). -/
def Arbiter.finish (x : Arbiter) (a : Arb) : Arbiter × Bool :=
  let x := x.ack
  match x.active with
  | none => (x, false)
  | some (r, _) =>
    let x : Arbiter := { x with active := none }
    if r.cls = .emergency then (x, false)
    else match x.clause with
      | none => (x.turnPast a r.port, false)
      | some c =>
        if r.cls = .ordinary then (x.endClause a, false)
        else if 32 ≤ c.count then (x.endClause a, true)
        else (x, false)

/-- An open clause without a transfer in progress and without a request of its owner (R82). -/
def Arbiter.starved (x : Arbiter) : Bool :=
  match x.clause with
  | some c => x.active.isNone && (x.ownNext c).isNone
  | none => false

/-- The port that holds an arbiter (R446). -/
def Arbiter.holder (x : Arbiter) : Option Port :=
  match x.active, x.clause with
  | some (r, _), _ => some r.port
  | none, some c => some c.port
  | none, none => none

/-! Arbiters in the state. -/

/-- An arbiter. -/
def State.arb (s : State) (a : Arb) : Arbiter := s.fab.arbs.at' (arbKey a) {}

/-- The state with an arbiter changed; an idle one is not listed. -/
def State.onArb (s : State) (a : Arb) (f : Arbiter → Arbiter) : State :=
  s.onFab (fun t => { t with arbs := t.arbs.store {} (arbKey a) (f (t.arbs.at' (arbKey a) {})) })

/-! The shared window (R435). -/

/-- The state with the host interface changed. -/
def State.onHost (s : State) (f : HostIf → HostIf) : State := { s with host := f s.host }

/-- A byte of the shared window. -/
def State.winByte (s : State) (a : Nat) : Byte := s.host.window.at' a 0

/-- Bytes of the shared window. -/
def State.winRead (s : State) (off n : Nat) : List Byte := (List.range n).map (fun k => s.winByte (off + k))

/-- Bytes stored into a table of bytes. -/
def putBytes : Tab Byte → Nat → List Byte → Tab Byte
  | t, _, [] => t
  | t, a, b :: l => putBytes (t.store 0 a b) (a + 1) l

/-- Bytes written into the shared window; bytes beyond its 4 MiB are not stored. -/
def State.winWrite (s : State) (off : Nat) (l : List Byte) : State :=
  s.onHost (fun h => { h with window := putBytes h.window off (l.take (0x400000 - off)) })

/-! What the debug port reaches (R504). -/

/-- The bank that DBG_SEL selects, if it is one (R504, R506). -/
def State.dbgTarget (s : State) : Option (Nat × Target) :=
  let m := s.rd Reg.DBG_SEL_MEM
  let b := s.rd Reg.DBG_SEL_BANK
  let c := s.rd Reg.DBG_SEL_CELL
  if m = 0 ∧ b < 3 then some (c * 0x60000 + b * 0x20000, .bank c b)
  else if m = 1 ∧ b < 3 then some (0x1800000 + c * 0x60000 + b * 0x20000, .bank c b)
  else if m = 2 then some (b * 0x20000, .window b)
  else none

/-- The point whose entry holds a word of bank 0 of a cell, with the byte offset in the entry (R115). -/
def State.dbgPoint (s : State) (k : Nat) : Option (Nat × Nat) :=
  if k < 0x1800000 ∧ k % 0x60000 < 0x4000 then
    let idx := k / 0x60000 * 2048 + k % 0x60000 / 8
    if (s.pdef idx).isSome then some (idx, k % 8 * 4) else none
  else none

/-- A word that the debug port reads from cell SRAM or a seal buffer: a point entry's, what it wrote, or a free value (R115, R116, R504; log entry 25). -/
def State.dbgRead (s : State) (k : Nat) : State × Word :=
  match s.dbgPoint k with
  | some (idx, off) => (s, match s.pdef idx with | some d => wordLE (entryBytes (s.defNow d) (s.evalPoint idx s.time.n)) off | none => 0)
  | none =>
    match s.fab.dbgWords.look k with
    | some w => (s, w)
    | none => ({ s with fresh := s.fresh + 1 }, Config.sramWord s.fresh k)

/-- A word that the debug port writes into cell SRAM or a seal buffer; in a point entry VALUE and SHADOW are the owner's value, TIME and UPDATE its stamp (R116, R504; log entry 25). -/
def State.dbgWrite (s : State) (k : Nat) (v : Word) : State :=
  match s.dbgPoint k with
  | some (idx, off) =>
    s.onWork idx (fun w =>
      if off = 0 ∨ off = 0x14 then { w with own := v }
      else if off = 8 then { w with ownTime := setBits w.ownTime 31 0 v.toNat }
      else if off = 12 then { w with ownTime := setBits w.ownTime 63 32 v.toNat }
      else if off = 0x1C then { w with updateN := v.toNat }
      else w)
  | none => s.onFab (fun f => { f with dbgWords := f.dbgWords.put k v })

/-- The bytes of a word that an access of n bytes at an address reads (R2). -/
def State.returnedAt (s : State) (addr n v : Nat) : State := s.returned (v / 2 ^ (8 * (addr % 4))) n

/-- The transfer of a debug request (R504). -/
def State.dbgAccess (s : State) (r : ArbReq) : State :=
  let k := r.word.1
  let fin (s : State) (v : Nat) : State := s.returnedAt r.addr r.word.2.2 v
  match r.target, r.write with
  | .window _, true => s.winWrite (k * 4) (leBytes 4 r.word.2.1.toNat)
  | .window _, false => fin s (leNat (s.winRead (k * 4) 4))
  | _, true => s.dbgWrite k r.word.2.1
  | _, false =>
    let x := s.dbgRead k
    fin x.1 x.2.toNat

/-- What a grant to an emergency requester performs: a debug transfer, counted, and again where it writes into an open clause of its target; a refresh command, if one is owed (R84, R85). -/
def State.grantEffect (s : State) (a : Arb) (r : ArbReq) : State :=
  match r.port with
  | .debug =>
    let s := s.count 0x084
    let inside : Bool := match (s.arb a).clause with | some c => r.write && decide (c.target = r.target) | none => false
    (if inside then s.count 0x085 else s).dbgAccess r
  | .refresh =>
    match a with
    | .ddr ch =>
      if s.fab.refreshOwed.at' ch 0 = 0 then s
      else s.onFab (fun f => { f with refreshOwed := f.refreshOwed.store 0 ch (f.refreshOwed.at' ch 0 - 1), refreshes := f.refreshes.upd ch 0 (· + 1) })
    | _ => s
  | _ => s

/-- A free arbiter grants the next request (R78, R85). -/
def State.arbGrant (s : State) (a : Arb) : State :=
  let x := s.arb a
  if x.active.isSome then s
  else match x.choose a with
    | some r => (s.grantEffect a r).onArb a (fun x => x.take r)
    | none => s

/-- A request enters an arbiter's queue; one of the clause's owner to another target first ends the clause (R81, R84). -/
def State.arbEnter (s : State) (a : Arb) (r : ArbReq) : State :=
  (s.onArb a (fun x =>
    let x := match x.clause with | some c => if r.cls ≠ ReqClass.emergency ∧ r.port = c.port ∧ r.target ≠ c.target then x.endClause a else x | none => x
    { x with queue := x.queue ++ [r] })).arbGrant a

/-- The open clause of an arbiter lapses, and the next request is granted (R82). -/
def State.arbLapse (s : State) (a : Arb) : State := ((s.onArb a (fun x => x.endClause a)).count 0x083).arbGrant a

/-- The conflict counter of a port at an SRAM arbiter counts a request (R446, R450, R454). -/
def State.countConflict (s : State) (a : Arb) (p : Port) : State :=
  match a with
  | .bank c b =>
    let m : Nat := match p with | .seal => 0 | .own => 1 | .mesh => 2 | .debug => 4 | _ => 3
    s.incHold Reg.CEL_CONF_COUNT [c, b, m]
  | .window b =>
    let m : Nat := match p with | .cells => 0 | .steward => 1 | .debug => 3 | _ => 2
    s.incHold Reg.MEM_WIN_CONF_COUNT [b, m]
  | _ => s

/-- A handshake period is waited by the requests behind another port: a conflict is counted once each, and a role engine's wait step for its cell (R67, R88, R446). -/
def State.arbWaits (s : State) (a : Arb) : State :=
  match (s.arb a).holder with
  | none => s
  | some h =>
    let behind := (s.arb a).queue.filter (fun r => decide (r.port ≠ h))
    let s := forL (behind.filter (fun r => !r.conflict)) (fun r s => s.countConflict a r.port) s
    let s := forL behind (fun r s =>
      match r.port, r.owner with
      | .own, .cell c => s.onFab (fun f => { f with cells := f.cells.upd c {} (fun x => { x with waits := x.waits + 1 }) })
      | _, _ => s) s
    s.onArb a (fun x => { x with queue := x.queue.map (fun r => if r.port = h then r else { r with conflict := true }) })

/-- One handshake period at an arbiter: the transfer in progress ends and the next is granted; a clause whose owner stays silent for 8 periods lapses (R66, R78, R82, R85). -/
def State.arbPeriod (s : State) (a : Arb) : State :=
  let s := (s.arbWaits a).onArb a (fun x => { x with sinceDebug := min 64 (x.sinceDebug + 1) })
  let r := (s.arb a).finish a
  let s := (if r.2 then s.count 0x082 else s).onArb a (fun _ => r.1)
  let s := s.arbGrant a
  if (s.arb a).starved then
    if 8 ≤ (s.arb a).silent + 1 then s.arbLapse a else s.onArb a (fun x => { x with silent := x.silent + 1 })
  else s

/-- What happens at an arbiter (R66, R78). -/
def State.fabEvent (s : State) (e : FabEvent) : State :=
  match e with
  | .enter a port owner target use write addr points =>
    if (rankOf a port).isNone then s
    else s.arbEnter a { port := port, owner := owner, target := target, cls := reqClass port use, addr := addr, write := write, points := points }
  | .phase2 a => s.onArb a Arbiter.ack
  | .periods a n => forN n (fun _ s => s.arbPeriod a) s

/-- What happened at the arbiters before a row, in order. -/
def State.traffic (s : State) (l : List FabEvent) : State := forL l (fun e s => s.fabEvent e) s

/-- A refresh request enters a DDR5 controller's queue (R84). -/
def State.refreshEnter (s : State) (ch : Nat) (c : ReqClass) : State :=
  s.arbEnter (.ddr ch) { port := .refresh, owner := .other, target := .ddr ch, cls := c }

/-! Torn clauses (R86, R87). -/

/-- The code of a clause's owner (CEL_TORN_SRC). -/
def ownerCode : ClauseOwner → Nat
  | .cell c => c
  | .steward => 0x40
  | .host => 0x41
  | .acq u => 0x42 + u
  | .debug => 0x5A
  | .other => 0xFF

/-- A clause is torn: counted, shown where its target is a cell's bank, and the points it has written are STALE until their owner writes them (R86, R87). -/
def State.tear (s : State) (c : Clause) : State :=
  let s := s.count 0x081
  let s := match c.target with
    | .bank cell _ => ((s.wr Reg.CEL_STATUS_TORN 1 [cell]).wr Reg.CEL_TORN_ADDR_ADDR c.addr [cell]).wr Reg.CEL_TORN_SRC_SRC (ownerCode c.owner) [cell]
    | _ => s
  forL c.points (fun k (s : State) => s.onWork k (fun w => { w with torn := true })) s

/-- An arbiter after its owners' reset: queued requests and a transfer short of phase 2 are gone, and the clause is released (R86). -/
def Arbiter.release (x : Arbiter) (a : Arb) (p : ClauseOwner → Bool) : Arbiter :=
  let x : Arbiter := { x with
    queue := x.queue.filter (fun r => !p r.owner)
    active := match x.active with | some (r, false) => if p r.owner && decide (r.cls ≠ .emergency) then none else some (r, false) | y => y }
  match x.clause with
  | some c => if p c.owner then x.endClause a else x
  | none => x

/-- The clauses open at their own target's arbiter that owners hold (R86). -/
def State.openClauses (s : State) (p : ClauseOwner → Bool) : List Clause :=
  s.fab.arbs.filterMap (fun e => match e.2.clause with
    | some c => if p c.owner && decide (arbKey (arbOf c.target) = e.1) then some c else none
    | none => none)

/-- Every arbiter gives up what some owners hold and wait for, and goes on (R86). -/
def State.releaseOf (s : State) (p : ClauseOwner → Bool) : State :=
  forL (s.fab.arbs.map (·.1)) (fun k (s : State) => (s.onArb (keyArb k) (fun x => x.release (keyArb k) p)).arbGrant (keyArb k)) s

/-- Owners are reset or fault: their clauses are torn (R86). -/
def State.tearOf (s : State) (p : ClauseOwner → Bool) : State :=
  forL (s.openClauses p) (fun c (s : State) => s.tear c) (s.releaseOf p)

/-- A cell completes its open clause and abandons its other requests (R73, step 1). -/
def State.closeClause (s : State) (c : Nat) : State :=
  (forL (s.fab.arbs.map (·.1)) (fun k (s : State) => s.onArb (keyArb k) Arbiter.ack) s).releaseOf (fun o => decide (o = .cell c))

/-- The debug gate closes: every queued debug request is removed and counted, one granted completes (R84, R86). -/
def State.dropDebug (s : State) : State :=
  let n := (s.fab.arbs.map (fun e => (e.2.queue.filter (fun r => decide (r.port = .debug))).length)).foldl (· + ·) 0
  (s.tearOf (fun o => decide (o = .debug))).count 0x089 n

end Sys2Proof.Machine
end

