-- ==== Sys2Proof/Machine/Crypto.lean ====
section
/-! DEFINITION. CRC-32C, SHA-256 and the verification of an RSASSA-PSS signature (R42), as functions of bytes. -/

namespace Sys2Proof

/-- n steps of the reflected CRC-32C register. -/
def crcSteps : Nat → Nat → Nat
  | 0, c => c
  | n + 1, c => crcSteps n (if c % 2 = 1 then (c / 2) ^^^ 0x82F63B78 else c / 2)

/-- CRC-32C of bytes, polynomial 0x1EDC6F41 reflected, initial and final value all ones. -/
def crc32c (l : List Byte) : Nat :=
  (l.foldl (fun c b => crcSteps 8 (c ^^^ b.toNat)) 0xFFFFFFFF) ^^^ 0xFFFFFFFF

/-! SHA-256 (R42, R43). Its constants are the first 32 fraction bits of the square roots of the first 8 primes and of the cube roots of the first 64. -/

/-- The first 64 primes: 311 is the 64th, and a composite below 19 squared has a factor below 19. -/
def shaPrimes : List Nat :=
  (List.range 312).filter (fun n => decide (1 < n) && (List.range 19).all (fun d => decide (d < 2) || decide (n ≤ d) || decide (n % d ≠ 0)))

/-- The largest r whose k-th power is at most x, found bit by bit from bit n - 1 down over the bits already in r. -/
def rootFloor (k x : Nat) : Nat → Nat → Nat
  | 0, r => r
  | n + 1, r => rootFloor k x n (if (r + 2 ^ n) ^ k ≤ x then r + 2 ^ n else r)

/-- The first 32 fraction bits of the k-th root of a prime below 312. -/
def rootFraction (k p : Nat) : Nat := rootFloor k (p * 2 ^ (32 * k)) 37 0 % 2 ^ 32

/-- A 32-bit number rotated right, read from two copies of it side by side. -/
def turn (n x : Nat) : Nat := (x * (2 ^ 32 + 1)) / 2 ^ n % 2 ^ 32

/-- The exclusive or of three rotations. -/
def turns (i j k x : Nat) : Nat := turn i x ^^^ turn j x ^^^ turn k x

/-- The exclusive or of two rotations and a shift. -/
def turnShift (i j k x : Nat) : Nat := turn i x ^^^ turn j x ^^^ x / 2 ^ k

/-- The message schedule, newest word first: n words more than the list holds. -/
def schedule : Nat → List Nat → List Nat
  | 0, l => l
  | n + 1, l =>
    schedule n ((turnShift 17 19 10 (l.getD 1 0) + l.getD 6 0 + turnShift 7 18 3 (l.getD 14 0) + l.getD 15 0) % 2 ^ 32 :: l)

/-- A round on the eight working words, with the sum of its constant and its schedule word. -/
def shaMix : List Nat → Nat → List Nat
  | [a, b, c, d, e, f, g, h], kw =>
    let t := h + turns 6 11 25 e + (g ^^^ (e &&& (f ^^^ g))) + kw
    [(t + turns 2 13 22 a + ((a &&& b) ||| (c &&& (a ||| b)))) % 2 ^ 32, a, b, c, (d + t) % 2 ^ 32, e, f, g]
  | l, _ => l

/-- A chaining value after a block of 64 bytes. -/
def shaFold (ks v : List Nat) (blk : List Byte) : List Nat :=
  let w := (schedule 48 ((List.range 16).map (fun i => beNat (slice blk (60 - 4 * i) 4)))).reverse
  List.zipWith (fun x y => (x + y) % 2 ^ 32) v ((List.zipWith (fun x y => x + y) ks w).foldl shaMix v)

/-- A message padded to whole blocks: a 1 bit, zeros, and its length in bits. -/
def shaPadded (l : List Byte) : List Byte := l ++ 0x80#8 :: List.replicate ((119 - l.length % 64) % 64) 0#8 ++ beBytes 8 (8 * l.length)

/-- SHA-256 of bytes: 32 bytes. -/
def sha256 (l : List Byte) : List Byte :=
  let m := shaPadded l
  let ks := shaPrimes.map (rootFraction 3)
  let v := (List.range (m.length / 64)).foldl (fun v i => shaFold ks v (slice m (64 * i) 64)) ((shaPrimes.take 8).map (rootFraction 2))
  (v.map (beBytes 4)).flatten

/-- x to the power 2^n modulo m. -/
def sqMod (m : Nat) : Nat → Nat → Nat
  | 0, x => x % m
  | n + 1, x => sqMod m n ((x * x) % m)

/-- The RSA public operation with exponent 65,537 (R42). -/
def rsaPublic (modulus x : Nat) : Nat := (sqMod modulus 16 x * x) % modulus

/-- MGF1 with SHA-256: n bytes. -/
def mgf1 (seed : List Byte) (n : Nat) : List Byte :=
  (((List.range (ceilDiv n 32)).map (fun i => sha256 (seed ++ beBytes 4 i))).flatten).take n

/-- Bytewise exclusive or. -/
def xorBytes (a b : List Byte) : List Byte := List.zipWith (fun x y => x ^^^ y) a b

/-- EMSA-PSS verification of RFC 8017 with SHA-256, MGF1 and a 32-byte salt over a 384-byte encoded message of emBits bits. -/
def pssCheck (mHash : List Byte) (em : List Byte) (emBits : Nat) : Bool :=
  let emLen := em.length
  let db' := em.take (emLen - 33)
  let h := slice em (emLen - 33) 32
  let top := 8 * emLen - emBits
  let first := (db'.getD 0 0).toNat
  let db := xorBytes db' (mgf1 h (emLen - 33))
  let db := (BitVec.ofNat 8 ((db.getD 0 0).toNat % 2 ^ (8 - top))) :: db.drop 1
  let padLen := emLen - 66
  let salt := db.drop (db.length - 32)
  decide (em.getD (emLen - 1) 0 = 0xBC#8) && decide (first / 2 ^ (8 - top) = 0) &&
  (db.take padLen).all (fun b => decide (b = 0#8)) && decide (db.getD padLen 0 = 1#8) &&
  decide (sha256 (List.replicate 8 0#8 ++ mHash ++ salt) = h)

/-- RSASSA-PSS verification with an RSA-3072 key: modulus and signature of 384 bytes, most significant byte first (R42). -/
def pssVerify (modulus sig msgHash : List Byte) : Bool :=
  let n := beNat modulus
  let s := beNat sig
  decide (0 < n) && decide (s < n) &&
  (let emBits := Nat.log2 n
   let emLen := ceilDiv emBits 8
   let m := rsaPublic n s
   decide (m < 2 ^ (8 * emLen)) && pssCheck msgHash (beBytes emLen m) emBits)

end Sys2Proof
end

