-- ==== Sys2Proof/Machine/Role.lean ====
section
/-! DEFINITION. What the commands on role state share: references, relays to other devices, latching for the next base mark, and completions that stand when the cell seals in time (R73, R129, R160, R360). -/

namespace Sys2Proof.Machine

/-- A LOOP_REF whose reserved bits 31:25 or 10:8 are not 0 (R160). -/
def refBad (r : Nat) : Bool := decide (bitsOf r 31 25 ≠ 0) || decide (bitsOf r 10 8 ≠ 0)
/-- The object number of a reference (R160). -/
def refObj (r : Nat) : Nat := r % 256

/-- Role codes (R35, R41). -/
def roleLoop : Nat := 1
/-- LOGIC. -/
def roleLogic : Nat := 2
/-- SEQUENCE. -/
def roleSeq : Nat := 3

/-- The role of a cell in the role map of the running image; 0 SPARE, and 0 while no image is in effect (R41, R160). -/
def State.roleAt (s : State) (c : Nat) : Nat :=
  match s.img.run with
  | some i => i.roles.getD c 0
  | none => 0

/-- A device is a joined member (R357, LNK_MEMBER). -/
def State.joined (s : State) (d : Nat) : Bool := bitOf (s.rd Reg.LNK_MEMBER_JOINED [d / 32]) (d % 32)

/-- Sends a command on to another device, or answers ABSENT when that device is not joined (R360). -/
def State.relay (s : State) (dev : Nat) (ref : CmdRef) (op : Nat) (args : List Nat) : State :=
  let ref := { ref with op := op }
  if s.joined dev then
    { s with host := { s.host with relays := s.host.relays ++ [{ dev := dev, ref := ref, op := op, args := args, sentAt := s.runNs }] } }
  else s.complete ref .absent

/-- Judges a command here when it names the own device, or is refused for the form of its reference, and sends it on otherwise (R129, R160, R568). -/
def State.here (s : State) (dev : Nat) (form : Bool) (ref : CmdRef) (op : Nat) (args : List Nat) (k : State → State) : State :=
  if form ∧ s.img.run.isSome ∧ dev ≠ s.ownDev then s.relay dev ref op args else k s

/-- Latches a command for the next base mark (R470, R561). -/
def State.latch (s : State) (l : Latched) : State := { s with fab := { s.fab with latched := s.fab.latched ++ [l] } }

/-- A completion decided by the role work of a cell in the cycle in progress (R73, R147). -/
def State.roleDone (s : State) (home : Nat) (ref : CmdRef) (st : Status) (detail : Nat := 0) (result : Nat := 0) : State :=
  { s with fab := { s.fab with done := s.fab.done ++ [(home, { ref := ref, status := st, final := true, detail := detail, result := result, data := [] })] } }

/-- A point whose owner item of home cell h is disabled in the cycle in progress, for the historian (R254). -/
def State.report (s : State) (h id : Nat) : State :=
  if id = NONE then s else { s with fab := { s.fab with reports := s.fab.reports ++ [(h, idLocal id)] } }

/-- A key command meets STOP at the mark at which it applies (R564). -/
def State.stoppedNow (s : State) (op : Nat) : Bool := s.keyStopped && (decide (op ∈ keyCmds) || decide (op ∈ stopCmds))

/-- What a role of home cell h reads of a point field of its records (R32, R516). -/
def State.inp (s : State) (h id : Nat) : PointEntry := s.readPoint h (idLocal id)

/-- An input is usable: GOOD or FORCED, or OUT_OF_RANGE where that is admitted (R141). -/
def usable (oor : Bool) (e : PointEntry) : Bool :=
  decide (e.quality = .good) || decide (e.quality = .forced) || (oor && decide (e.quality = .outOfRange))

/-- The value of an input that is read only when its feature is enabled; a feature that is off reads 0 and is usable (R141). -/
def State.inpIf (s : State) (h id : Nat) (on oor : Bool) : F32 × Bool :=
  if on then
    let e := s.inp h id
    (e.value, usable oor e)
  else (0, true)

/-- A field that names no point where one is required. -/
def missing (req : Bool) (id : Nat) : Bool := req && decide (id = NONE)

/-- The checks of a point reference of an image: it names a defined point of the own device (reason 0x000C) of an admitted format (reason 0x000B). -/
def refChecks (points : Tab PointDef) (dev : Nat) (id : Nat) (formats : List Nat) (obj : Nat) : List Rej :=
  if id = NONE then []
  else match (if bitsOf id 31 25 = 0 ∧ idDev id = dev then points.look (idLocal id) else none) with
    | none => [{ reason := 0x000C, obj := obj, d0 := id }]
    | some d => need (decide (d.format ∈ formats)) 0x000B obj

/-- The checks of a point that a role of a cell writes: owned by that cell (R123). -/
def ownedChecks (points : Tab PointDef) (dev cell : Nat) (id : Nat) (obj : Nat) : List Rej :=
  if id = NONE then []
  else match (if bitsOf id 31 25 = 0 ∧ idDev id = dev then points.look (idLocal id) else none) with
    | none => []
    | some d => need (decide (d.owner = cell) || (d.stationOut && decide (idCell id = cell))) 0x000C obj

end Sys2Proof.Machine
end

