-- ==== Sys2Proof/Machine/Historian.lean ====
section
/-! DEFINITION. The historian: policies and their section, runs and swinging doors, records and marks, segments, loss and resynchronisation, commands (R242 to R266). -/

namespace Sys2Proof.Machine

/-- The state with the historian's state changed. -/
def State.onHist (s : State) (f : HistState → HistState) : State := { s with hist := f s.hist }

/-! The recording-policy section (R245, R246, R256). -/

/-- A policy record. -/
def policyOf (r : List Byte) : PolicyDef :=
  { policy := fieldLE r 0 2, mode := fieldLE r 2 1, sdiv := fieldLE r 4 2, sphase := fieldLE r 6 2
    bound := wordLE r 8, maxGap := fieldLE r 12 4 }

/-- BOUND and MAX_GAP lie in the ranges of a policy's mode (R246). -/
def boundOk (mode : Nat) (bound : F32) (maxGap : Nat) : Bool :=
  if mode = 0 then decide (bound = 0) && decide (maxGap = 0)
  else F32.fin bound && !F32.lt bound F32.zero && (decide (maxGap = 0) || (decide (8 ≤ maxGap) && decide (maxGap ≤ 8000000)))

/-- The checks of a policy record (R246). -/
def policyChecks (r : List Byte) (p : PolicyDef) (i : Nat) : List Rej :=
  need (decide (p.policy = i)) 0x0008 i ++
  need (decide (p.mode ≤ 2) && decide (fieldLE r 3 1 = 0) && decide (1 ≤ p.sdiv) && decide (p.sdiv ≤ 8000) &&
    decide (p.sphase < p.sdiv) && boundOk p.mode p.bound p.maxGap) 0x000B i

/-- The recording-policy section: its content and faults that need no other section (R245, R246). -/
def parsePolicies (b : List Byte) (items : Nat) : PolicySec × List Rej :=
  let n := fieldLE b 0 2
  let rs := recordsOf (b.drop 32) 16 n
  let ps := rs.map policyOf
  let x : PolicySec :=
    { segLog2 := fieldLE b 2 1, fullAct := fieldLE b 3 1, segCount := fieldLE b 4 4, ringBase := fieldLE b 8 8
      segAge := fieldLE b 16 4, policies := ps }
  let size := x.segCount * 2 ^ x.segLog2
  let head := decide (1 ≤ n) && decide (n ≤ 4096) && decide (20 ≤ x.segLog2) && decide (x.segLog2 ≤ 26) && decide (x.fullAct ≤ 1) &&
    decide (2 ≤ x.segCount) && decide (x.segCount ≤ 65536) && decide (size ≤ 64 * 2 ^ 30) &&
    decide (x.ringBase % 2 ^ x.segLog2 = 0) && decide (x.ringBase / 2 ^ 36 = (x.ringBase + size - 1) / 2 ^ 36) &&
    (decide (x.segAge = 0) || (decide (8 ≤ x.segAge) && decide (x.segAge ≤ 800000))) && (slice b 20 12).all (fun y => decide (y = 0))
  let bad := (((List.range n).zip (rs.zip ps)).map (fun e => policyChecks e.2.1 e.2.2 e.1)).flatten
  (x, need (decide (b.length = 32 + 16 * n) && decide (items = n)) 0x0008 ++ need head 0x000B ++ bad)

/-- Two address ranges overlap. -/
def overlap (a la b lb : Nat) : Bool := decide (a < b + lb) && decide (b < a + la)

/-- An address range lies in installed DDR5; the sizes of the channels are in GiB (R442). -/
def inDdr (gib : Nat → Nat) (a len : Nat) : Bool :=
  decide (a / 2 ^ 36 < 2) && decide (a % 2 ^ 36 + len ≤ gib (a / 2 ^ 36) * 2 ^ 30)

/-- An address range meets a reserved range: parser staging, and on a paired unit the manifests (R442). -/
def inReserved (gib : Nat → Nat) (paired : Bool) (a len : Nat) : Bool :=
  overlap a len (gib 0 * 2 ^ 30 - 2 ^ 26) (2 ^ 26) ||
  (paired && overlap a len (2 ^ 36 + gib 1 * 2 ^ 30 - 2 ^ 24) (2 ^ 24))

/-- The ring lies in installed memory outside the reserved ranges (R245, R442). -/
def ringChecks (gib : Nat → Nat) (paired : Bool) (x : PolicySec) : List Rej :=
  let size := x.segCount * 2 ^ x.segLog2
  need (inDdr gib x.ringBase size && !inReserved gib paired x.ringBase size) 0x000B

/-- The policy of a point, if it names one. -/
def polOf (ps : List PolicyDef) (d : PointDef) : Option PolicyDef := ps[d.recPolicy]?

/-- The dense points of a cell with one divisor and phase, ascending by slot. -/
def denseSlots (points : Tab PointDef) (ps : List PolicyDef) (cell sdiv sphase : Nat) : List Nat :=
  (points.filter (fun e => decide (e.1 / 2048 = cell) &&
    (match polOf ps e.2 with
     | some p => decide (p.mode = 0) && decide (p.sdiv = sdiv) && decide (p.sphase = sphase)
     | none => false))).map (fun e => e.1 % 2048)

/-- Slots in groups of 64; the first argument bounds their number. -/
def chunks64 : Nat → List Nat → List (List Nat)
  | 0, _ => []
  | n + 1, l => if l.isEmpty then [] else l.take 64 :: chunks64 n (l.drop 64)

/-- Insertion of a pair in lexicographic order without repeats. -/
def insertPair (a : Nat × Nat) : List (Nat × Nat) → List (Nat × Nat)
  | [] => [a]
  | b :: t =>
    if a = b then b :: t
    else if a.1 < b.1 ∨ (a.1 = b.1 ∧ a.2 < b.2) then a :: b :: t
    else b :: insertPair a t

/-- The dense groups, in ascending order of cell, divisor, phase and first slot (R253). -/
def denseGroups (points : Tab PointDef) (ps : List PolicyDef) : List DenseGroup :=
  let keys := ((ps.filter (fun p => decide (p.mode = 0))).map (fun p => (p.sdiv, p.sphase))).foldr insertPair []
  ((List.range 64).map (fun c =>
    (keys.map (fun k => (chunks64 32 (denseSlots points ps c k.1 k.2)).map
      (fun l => { cell := c, sdiv := k.1, sphase := k.2, slots := l : DenseGroup }))).flatten)).flatten

/-- The bytes of a dense frame of n points. -/
def frameBytes (n : Nat) : Nat := 16 + 16 * ceilDiv n 4

/-- The bound on the bytes of one cut (R256). -/
def wCut (points : Tab PointDef) (ps : List PolicyDef) : Nat :=
  let mode (e : Nat × PointDef) : Nat := match polOf ps e.2 with | some p => p.mode | none => 1
  let d := (points.filter (fun e => decide (mode e = 0))).length
  64 + 16 * 9 + ((denseGroups points ps).map (fun g => frameBytes g.slots.length)).foldl (· + ·) 0 +
    16 * (d + (points.length - d) + points.length)

/-- The checks of policies against points: every REC_POLICY exists, and one cut fits a segment (R246, R256). -/
def policyLinks (points : Tab PointDef) (dev : Nat) (x : PolicySec) : List Rej :=
  (points.map (fun e => need (decide (e.2.recPolicy < x.policies.length)) 0x000C (dev * 131072 + e.1))).flatten ++
  need (decide (wCut points x.policies ≤ 2 ^ x.segLog2)) 0x000B

/-! Records (R252, R255). -/

/-- The 16-byte records and dense frames as bytes. -/
def recBytes : HistRec → List Byte
  | .sample idx q fl td cyc v => leBytes 4 idx ++ leBytes 1 q ++ leBytes 1 fl ++ leBytes 2 (twos 16 td) ++ leBytes 4 cyc ++ leBytes 4 v.toNat
  | .pointMark idx q ca cyc v => leBytes 4 (idx + 2 ^ 24) ++ leBytes 1 q ++ leBytes 1 ca ++ leBytes 2 0 ++ leBytes 4 cyc ++ leBytes 4 v.toNat
  | .dense g cyc ng vs =>
    leBytes 4 (g + (vs.length - 1) * 2 ^ 17 + 2 * 2 ^ 24) ++ leBytes 4 cyc ++ leBytes 8 ng ++
      slice (wordsBytes vs) 0 (16 * ceilDiv vs.length 4)
  | .device code a0 cyc a1 => leBytes 4 (code + 3 * 2 ^ 24) ++ leBytes 4 a0 ++ leBytes 4 cyc ++ leBytes 4 a1

/-- The size of a record in bytes. -/
def recSize : HistRec → Nat
  | .dense _ _ _ vs => frameBytes vs.length
  | _ => 16

/-- The size of records together. -/
def recsSize (l : List HistRec) : Nat := l.foldl (fun n r => n + recSize r) 0

/-- The first 60 bytes of a segment's header (R255). -/
def segHead (h : HistState) (g : SegState) : List Byte :=
  leBytes 4 0x54474553 ++ leBytes 2 1 ++ leBytes 1 h.devnum ++ leBytes 1 (b2n g.lossMark + 2 * b2n g.overMark) ++
  leBytes 8 h.startId ++ leBytes 4 g.seq ++ leBytes 4 g.bytes ++ leBytes 8 g.nFirst ++ leBytes 8 g.nLast ++ leBytes 8 g.tFirst ++
  leBytes 4 g.records.length ++ slice g.digest 0 4 ++ leBytes 4 0

/-- The records of a segment as bytes. -/
def segBody (g : SegState) : List Byte := (g.records.map recBytes).flatten

/-- The CRC of a segment (R255). -/
def segCrc (h : HistState) (g : SegState) : Nat := crc32c (segHead h g ++ segBody g)

/-- A sealed segment as bytes (R255). -/
def segBytes (h : HistState) (g : SegState) : List Byte := segHead h g ++ leBytes 4 g.crc ++ segBody g

/-! Compression (R243, R248 to R250). -/

/-- A point value as binary64 (R247). -/
def val64 (format : Nat) (v : Word) : F64 := if format = 0 then F64.of32 v else F64.ofInt v.toInt

/-- round_to_format of R250. -/
def roundTo (format : Nat) (x : F64) : Word :=
  if format = 0 then F32.of64 x else satInt32 (fmt64.nearest x.toNat)

/-- Half the sum of the door slopes. -/
def doorSlope (lo up : F64) : F64 := F64.div (F64.add lo up) (F64.ofInt 2)

/-- A difference of times held to 16 bits, and whether it was held (R243). -/
def tdelta (t : Int) : Int × Bool :=
  if t < -32768 then (-32768, true) else if 32767 < t then (32767, true) else (t, false)

/-- A sample record; FLAGS as given, with TSAT as its TDELTA needs (R243, R252). -/
def sampleRec (idx q flags : Nat) (t : Int) (n : Nat) (v : Word) : HistRec :=
  let d := tdelta t
  .sample idx q (flags + 16 * b2n d.2) d.1 (n % 2 ^ 32) v

/-- A sample of a point: C, N, TIME less record time in units of 125 ns, quality code and value. -/
structure HistSample where
  c : Nat
  n : Nat
  t : Int
  q : Nat
  v : Word
deriving DecidableEq, Repr

/-- The record that closes a swinging-door run at its held sample, when that is later than the anchor (R248, R250). -/
def archive (idx format : Nat) (r : RunState) : List HistRec :=
  if r.swing && r.runOpen && !r.nonFinite && decide (r.anchorC < r.heldC) then
    let w := roundTo format (F64.add (val64 format r.anchorV) (F64.mul (doorSlope r.lo r.up) (F64.ofInt (r.heldC - r.anchorC))))
    [sampleRec idx r.lastQ 1 r.heldT r.heldN w]
  else []

/-- A swinging door acts on a point: FLOAT32 and INT32 only (R247, R250). -/
def swings (format : Nat) (p : PolicyDef) : Bool := decide (p.mode = 2) && decide (format < 2)

/-- A run opened at a sample (R250). -/
def openRun (format : Nat) (p : PolicyDef) (x : HistSample) : RunState :=
  { runOpen := true, lastC := x.c, lastV := x.v, lastQ := x.q, anchorC := x.c, anchorV := x.v, heldC := x.c, heldN := x.n, heldT := x.t
    nonFinite := decide (format = 0) && !F32.fin x.v, bound := p.bound, swing := swings format p }

/-- MAX_GAP as it acts (R246). -/
def gapOf (p : PolicyDef) : Nat := if p.maxGap = 0 then 80000 else p.maxGap

/-- A sample of a run that goes on, by a swinging door (R250). -/
def swingStep (idx format : Nat) (p : PolicyDef) (r : RunState) (x : HistSample) : RunState × List HistRec :=
  let v := val64 format x.v
  let slope (r : RunState) (b : F64) : F64 := F64.div (F64.sub (F64.add v b) (val64 format r.anchorV)) (F64.ofInt (x.c - r.anchorC))
  let b := F64.of32 r.bound
  let sUp := slope r b
  let sLo := slope r (F64.neg b)
  let closed := F64.lt (F64.min r.up sUp) (F64.max r.lo sLo)
  let step : RunState × List HistRec :=
    if closed then
      let w := roundTo format (F64.add (val64 format r.anchorV) (F64.mul (doorSlope r.lo r.up) (F64.ofInt (r.heldC - r.anchorC))))
      let e : RunState := { r with anchorC := r.heldC, anchorV := w, bound := p.bound }
      let b := F64.of32 p.bound
      ({ e with up := slope e b, lo := slope e (F64.neg b) }, [sampleRec idx r.lastQ 1 r.heldT r.heldN w])
    else ({ r with up := F64.min r.up sUp, lo := F64.max r.lo sLo }, [])
  let e : RunState := { step.1 with heldC := x.c, heldN := x.n, heldT := x.t }
  if gapOf p ≤ x.c - e.anchorC then
    let w := roundTo format (F64.add (val64 format e.anchorV) (F64.mul (doorSlope e.lo e.up) (F64.ofInt (x.c - e.anchorC))))
    ({ e with anchorC := x.c, anchorV := w, lo := 0xFFF0000000000000, up := 0x7FF0000000000000, bound := p.bound },
      step.2 ++ [sampleRec idx x.q 3 x.t x.n w])
  else (e, step.2)

/-- A sample of a run that is recorded when it differs or when MAX_GAP is reached (R247 to R249). -/
def changeStep (idx : Nat) (p : PolicyDef) (r : RunState) (x : HistSample) (differs : Bool) : RunState × List HistRec :=
  let gap := decide (gapOf p ≤ x.c - r.lastC)
  if differs || gap then
    ({ r with lastC := x.c, lastV := x.v }, [sampleRec idx x.q (2 * b2n gap) x.t x.n x.v])
  else (r, [])

/-- One sample of a sparse point (R247 to R250). -/
def sparseStep (idx format : Nat) (p : PolicyDef) (r : RunState) (x : HistSample) : RunState × List HistRec :=
  let nf := decide (format = 0) && !F32.fin x.v
  let cont := r.runOpen && !r.marked
  if cont && decide (x.q = r.lastQ) && nf && r.nonFinite then
    (if x.v = r.lastV then changeStep idx p r x false
     else (openRun format p x, [sampleRec idx x.q 4 x.t x.n x.v]))
  else if cont && decide (x.q = r.lastQ) && !nf && !r.nonFinite then
    (if swings format p then swingStep idx format p r x
     else
       let differs :=
         if 2 ≤ format then decide (x.v ≠ r.lastV)
         else F64.lt (F64.of32 p.bound) (F64.max (F64.sub (val64 format x.v) (val64 format r.lastV)) (F64.sub (val64 format r.lastV) (val64 format x.v)))
       changeStep idx p r x differs)
  else
    (openRun format p x, archive idx format r ++ [sampleRec idx x.q (if cont then 4 else 8) x.t x.n x.v])

/-! One cut (R242, R253, R254, R262, R263). -/

/-- A sample of a point as sealed in a cut (R242, R243). -/
def sampleOf (e : PointEntry) (c n : Nat) : HistSample :=
  let rec_ : Nat := (n * 125000) % (2 ^ 34 * 1000000000)
  { c := c, n := n, t := Int.tdiv ((stampNs e.time : Int) - (rec_ : Int)) 125, q := qualCode e.quality, v := e.value }

/-- The records of a cell in a cut, with the compression states after: point marks, dense frames with the changes of quality, sparse points. -/
structure CellCut where
  runs : Tab RunState
  marks : List HistRec := []
  frames : List HistRec := []
  samples : List HistRec := []
deriving DecidableEq, Repr

/-- A point mark: the run is archived and closed (R248, R254). -/
def markPoint (points : Tab PointDef) (cut : Tab PointEntry) (n : Nat) (m : Nat × Nat) (x : CellCut) : CellCut :=
  let e := cut.at' m.1 {}
  let r := x.runs.at' m.1 {}
  let format := match points.look m.1 with | some d => d.format | none => 0
  { x with runs := x.runs.put m.1 { r with runOpen := false, marked := true, lastQ := qualCode e.quality }
           marks := x.marks ++ archive m.1 format r ++ [.pointMark m.1 (qualCode e.quality) m.2 (n % 2 ^ 32) e.value] }

/-- A dense point whose quality changes gives a QCHG record beside its frame (R253). -/
def densePoint (cut : Tab PointEntry) (c n : Nat) (idx : Nat) (x : CellCut) : CellCut :=
  let e := cut.at' idx {}
  let r := x.runs.at' idx {}
  let y := sampleOf e c n
  if y.q = r.lastQ then x
  else { x with runs := x.runs.put idx { r with lastQ := y.q }, samples := x.samples ++ [sampleRec idx y.q 4 y.t n y.v] }

/-- NG_MASK of a group (R252). -/
def ngMask (cut : Tab PointEntry) (cell : Nat) (slots : List Nat) : Nat :=
  (((List.range slots.length).zip slots).map (fun e =>
    if (cut.at' (cell * 2048 + e.2) {}).quality = .good then 0 else 2 ^ e.1)).foldl (· + ·) 0

/-- The frames of a cell's dense groups that are due (R242, R253). -/
def denseStep (h : HistState) (cut : Tab PointEntry) (cell n : Nat) (x : CellCut) : CellCut :=
  forL ((List.range h.groups.length).zip h.groups) (fun e x =>
    let g := e.2
    if g.cell = cell ∧ n % g.sdiv = g.sphase then
      let x : CellCut := { x with frames := x.frames ++
        [.dense e.1 (n % 2 ^ 32) (ngMask cut cell g.slots) (g.slots.map (fun k => (cut.at' (cell * 2048 + k) {}).value))] }
      forL g.slots (fun k x => densePoint cut h.c n (cell * 2048 + k) x) x
    else x) x

/-- The sparse points of a cell that are due; a point that waits for its cell's turn is not recorded (R242, R263). -/
def sparsePoints (h : HistState) (points : Tab PointDef) (cut : Tab PointEntry) (cell n : Nat) (waits : Bool) (marked : List Nat) (x : CellCut) : CellCut :=
  forL (points.filter (fun e => decide (e.1 / 2048 = cell) && !(decide (e.1 ∈ marked)))) (fun e x =>
    match polOf h.policies e.2 with
    | none => x
    | some p =>
      let r := x.runs.at' e.1 {}
      if p.mode = 0 ∨ n % p.sdiv ≠ p.sphase ∨ (waits ∧ (r.marked ∨ !r.runOpen)) then x
      else
        let y := sparseStep e.1 e.2.format p r (sampleOf (cut.at' e.1 {}) h.c n)
        { x with runs := x.runs.put e.1 y.1, samples := x.samples ++ y.2 }) x

/-- All of a cell's records of a cut. -/
def cellCut (h : HistState) (points : Tab PointDef) (cut : Tab PointEntry) (cell n : Nat) (skipped : Bool) (runs : Tab RunState) : CellCut :=
  let marks := h.ptMarks.filter (fun m => decide (m.1 / 2048 = cell))
  let x : CellCut := forL marks (fun m x => markPoint points cut n m x) { runs := runs }
  if skipped then x
  else sparsePoints h points cut cell n (decide (cell ∈ h.resync.drop 8)) (marks.map (·.1)) (denseStep h cut cell n x)

/-- The bit mask of cells in a list, for 32 cells from a base. -/
def cellMask (l : List Nat) (base : Nat) : Nat :=
  ((List.range 32).map (fun i => if (base + i) ∈ l then 2 ^ i else 0)).foldl (· + ·) 0

/-- A device mark (R252, R254). -/
def devMark (code a0 n a1 : Nat) : HistRec := .device code (a0 % 2 ^ 32) (n % 2 ^ 32) (a1 % 2 ^ 32)

/-- Every run ends and every cell opens its sparse runs anew, in its turn (R248, R263). -/
def resyncAll (h : HistState) : HistState :=
  { h with resync := List.range 64, runs := h.runs.map (fun e => (e.1, { e.2 with marked := true })) }

/-! Segments (R255 to R257). -/

/-- The state of a segment. -/
def HistState.seg (h : HistState) (i : Nat) : SegState := h.segs.at' i {}

/-- The number of segments of the ring. -/
def HistState.segCount (h : HistState) : Nat := match h.sec with | some x => x.segCount | none => 0
/-- The size of a segment. -/
def HistState.segSize (h : HistState) : Nat := match h.sec with | some x => 2 ^ x.segLog2 | none => 0
/-- Reclaims a sealed segment when the ring is full (R245). -/
def HistState.overwrites (h : HistState) : Bool := match h.sec with | some x => decide (x.fullAct = 1) | none => false

/-- Sealed segments not released, draining ones among them: index and state. -/
def HistState.sealedSegs (h : HistState) : Tab SegState :=
  h.segs.filter (fun e => decide (e.2.st = .sealed) || decide (e.2.st = .draining))

/-- SEQ of the filling segment, or the one the next segment takes, without wrap. -/
def HistState.fillSeq (h : HistState) : Nat := if (h.seg h.idx).st = .filling then h.nextSeq - 1 else h.nextSeq

/-- The age of a SEQ: 0 the newest sealed segment; none for one not yet sealed (R259). -/
def HistState.seqAge (h : HistState) (q : Nat) : Option Nat :=
  let a := (h.fillSeq + 2 ^ 33 - 1 - q) % 2 ^ 32
  if a < h.fillSeq ∧ a < 2 ^ 31 then some a else none

/-- The oldest sealed segment, by age. -/
def HistState.oldest (h : HistState) : Option (Nat × SegState) :=
  h.sealedSegs.foldl (fun (b : Option (Nat × SegState)) e =>
    match b with
    | none => some e
    | some x => if (h.seqAge x.2.seq).getD 0 < (h.seqAge e.2.seq).getD 0 then some e else b) none

/-- The registers that show the ring (R264). -/
def State.histRegs (s : State) : State :=
  let h := s.hist
  let fill := h.fillSeq % 2 ^ 32
  let st := if !h.on then 0 else if 0 < h.lost then 2 else if h.resync.isEmpty then 1 else 3
  ((((((s.wrCause Reg.HST_STATUS_STATE st 4).wr Reg.HST_STATUS_RESYNC_LEFT h.resync.length).wr Reg.HST_SEQ_FILL_SEQ fill).wr
    Reg.HST_SEQ_OLDEST_SEQ (match h.oldest with | some e => e.2.seq | none => fill)).wr
    Reg.HST_SEG_USE_DRAINING h.drains.length).wr Reg.HST_SEG_USE_SEALED (min 65535 h.sealedSegs.length))

/-- The filling segment is sealed (R256, R257). -/
def State.sealSegment (s : State) : State :=
  let h := s.hist
  let g := h.seg h.idx
  if g.st = .filling then
    let s := s.onHist (fun h => { h with segs := h.segs.put h.idx { g with st := .sealed, crc := segCrc h g }
                                         idx := if h.idx + 1 < h.segCount then h.idx + 1 else 0 })
    ((s.count 0x3C3).cause 4).histRegs
  else s

/-- The next segment starts to fill with a cut, FREE or reclaimed; none when none is available (R257, R263). -/
def State.openSegment (s : State) (n : Nat) : Option State :=
  let h := s.hist
  let g := h.seg h.idx
  let fresh : SegState := { st := .filling, seq := h.nextSeq % 2 ^ 32, nFirst := n, nLast := n, tFirst := markStamp n, digest := h.digest }
  let take (f : SegState) (s : State) : State :=
    s.onHist (fun h => { h with segs := h.segs.put h.idx f, nextSeq := h.nextSeq + 1, secBytes := h.secBytes + f.bytes })
  if g.st = .free then some (take fresh s)
  else if g.st = .sealed ∧ h.overwrites then
    some ((take { fresh with records := [devMark 0x0008 g.seq n 0], bytes := 80, overMark := true } s).count 0x3C2 |>.wr Reg.HST_STATUS_OVERWROTE 1)
  else none

/-- Records of cut n join the filling segment (R255). -/
def State.fillSegment (s : State) (n : Nat) (recs : List HistRec) (loss : Bool) : State :=
  let sz := recsSize recs
  s.onHist (fun h =>
    let g := h.seg h.idx
    { h with segs := h.segs.put h.idx { g with records := g.records ++ recs, bytes := g.bytes + sz, nLast := n, lossMark := g.lossMark || loss }
             secBytes := h.secBytes + sz })

/-- A cut is not written because the ring is full (R263). -/
def State.cutLost (s : State) (n : Nat) : State :=
  let s := s.onHist (fun h => { h with lostFirst := if h.lost = 0 then n else h.lostFirst, lost := h.lost + 1, marks := [], ptMarks := [] })
  ((s.count 0x3C1).incHold Reg.HST_LOST_CUTS).histRegs

/-- A segment can take a cut: the filling one, a FREE one, or one to reclaim. -/
def HistState.available (h : HistState) : Bool :=
  let g := h.seg h.idx
  decide (g.st = .filling) || decide (g.st = .free) || (decide (g.st = .sealed) && h.overwrites)

/-- Adds cells to those that resynchronise, in ascending order. -/
def addCells (l add : List Nat) : List Nat := (List.range 64).filter (fun c => decide (c ∈ l) || decide (c ∈ add))

/-- The records of a cut in order of writing: device marks, point marks, dense frames, samples; and the cells whose records the write buffer could not take (R254, R262; log entry 16). -/
def State.cutRecords (s : State) (points : Tab PointDef) (cut : Tab PointEntry) (n : Nat) (skip drop : List Nat) : List HistRec × Tab RunState × List Nat :=
  let h := s.hist
  let acc := forL (List.range 64) (fun c (acc : List (Nat × CellCut) × Tab RunState) =>
    let x := cellCut h points cut c n (decide (c ∈ skip)) acc.2
    let recs := x.marks ++ x.frames ++ x.samples
    if c ∈ drop ∧ !recs.isEmpty then
      (acc.1, acc.2.map (fun e => if e.1 / 2048 = c then (e.1, { e.2 with marked := true }) else e))
    else (acc.1 ++ [(c, x)], x.runs)) ([], h.runs)
  let lost := (List.range 64).filter (fun c => !(acc.1.any (fun e => e.1 = c)))
  let skipped := (List.range 64).filter (fun c => decide (c ∈ skip))
  let dev := h.marks ++ (if skipped.isEmpty then [] else [devMark 0x0005 (cellMask skipped 0) n (cellMask skipped 32)]) ++
    (if lost.isEmpty then [] else [devMark 0x0007 (cellMask lost 0) n (cellMask lost 32)])
  (dev ++ (acc.1.map (·.2.marks)).flatten ++ (acc.1.map (·.2.frames)).flatten ++ (acc.1.map (·.2.samples)).flatten, acc.2, lost)

/-- Samples whose TDELTA was held (R265). -/
def tsatCount (l : List HistRec) : Nat :=
  (l.filter (fun r => match r with | .sample _ _ fl _ _ _ => bitOf fl 4 | _ => false)).length

/-- Records of cut n go to the filling segment, or to a new one where they do not fit; none when no segment is available (R255 to R257). -/
def State.placeRecs (s : State) (n : Nat) (recs : List HistRec) (loss : Bool) : Option State :=
  let g := s.hist.seg s.hist.idx
  if g.st = .filling ∧ g.bytes + recsSize recs ≤ s.hist.segSize then some (s.fillSegment n recs loss)
  else (s.sealSegment.openSegment n).map (fun s => s.fillSegment n recs loss)

/-- The cells that resynchronise after a cut: 8 have had their turn, and those join whose records were lost or that a splice marked (R263). -/
def HistState.turned (h : HistState) (lost : List Nat) : HistState :=
  { h with resync := addCells (h.resync.drop 8) (lost ++ h.resyncNext), resyncNext := [] }

/-- Writing of a cut's records (R255 to R257, R262, R263). -/
def State.writeCut (s : State) (n : Nat) (recs : List HistRec) (runs : Tab RunState) (skip lost : List Nat) (loss : Bool) : State :=
  let h := s.hist
  let g := h.seg h.idx
  if recs.isEmpty then
    let s := s.onHist (fun h => { h.turned lost with runs := runs
                                                     segs := if g.st = .filling then h.segs.put h.idx { g with nLast := n } else h.segs })
    (s.wr Reg.HST_LAST_N_N_LO n).histRegs
  else match s.placeRecs n recs (loss || !skip.isEmpty || !lost.isEmpty) with
  | none => s.sealSegment.cutLost n
  | some s =>
    let s := s.onHist (fun h => { h.turned lost with runs := runs, marks := [], ptMarks := [] })
    let s := if skip.isEmpty then s else s.wr Reg.HST_STATUS_SKIP 1
    let s := s.count 0x3C4 (tsatCount recs)
    let s := s.count 0x3C6 lost.length
    let s := if lost.isEmpty && !loss then s else s.wr Reg.HST_STATUS_LOSS 1
    let s := if lost.isEmpty then s.wr Reg.HST_LAST_N_N_LO n else s
    s.histRegs

/-- HISTORIAN_CUT: cut n, sealed at this mark, is sampled and recorded under the definitions `points`; `skip` names the cells not read in time and `drop` those whose records the write buffer cannot take (R242, R262, R263; log entry 15). -/
def State.historianCut (s : State) (points : Tab PointDef) (n : Nat) (skip drop : List Nat) : State :=
  if !s.hist.on then s
  else
    let skip := (List.range 64).filter (fun c => decide (c ∈ skip))
    if 0 < s.hist.lost ∧ !s.hist.available then s.cutLost n
    else
      let loss := decide (0 < s.hist.lost)
      let s := if loss then
          s.onHist (fun h => { resyncAll h with marks := h.marks ++ [devMark 0x0006 h.lost h.lostFirst 0], lost := 0 })
        else s
      let s := s.count 0x3C0 skip.length
      let x := s.cutRecords points s.pts.cut n skip drop
      s.writeCut n x.1 x.2.1 skip x.2.2 loss

/-- C rises by 1 at every base mark, whether a cut is sealed at it or not (R244). -/
def State.histCount (s : State) : State := if s.hist.on then s.onHist (fun h => { h with c := h.c + 1 }) else s

/-- What a base mark that starts cycle n does to the ring before the cut is written: SEG_CUT, HST_CTL.CUT and SEG_AGE (R256). -/
def State.histMark (s : State) (n : Nat) : State :=
  let h := s.hist
  let g := h.seg h.idx
  let age := match h.sec with | some x => if x.segAge = 0 then 8000 else x.segAge | none => 0
  let s := s.onHist (fun h => { h with cutReq := false, cutRefs := [] })
  let s := if g.st = .filling ∧ (h.cutReq ∨ !h.cutRefs.isEmpty ∨ age ≤ n - g.nFirst) then s.sealSegment else s
  forL h.cutRefs (fun r s => s.complete r .ok) s

/-! Starts, splices and POLICY_SET (R254, R259, R261, R263). -/

/-- The registers loaded from the recording-policy section (R264). -/
def State.histLoad (s : State) (x : PolicySec) : State :=
  ((((s.wr Reg.HST_STATUS_FULL_ACT x.fullAct).wr Reg.HST_RING_LO_BASE_LO (x.ringBase % 2 ^ 32)).wr Reg.HST_RING_HI_BASE_HI (x.ringBase / 2 ^ 32)).wr
    Reg.HST_RING_CFG_SEG_LOG2 x.segLog2).wr Reg.HST_RING_CFG_SEG_COUNT x.segCount

/-- A drain ends: its segment is SEALED again and its command is answered (R257). -/
def State.drainEnd (s : State) (i : Nat) (st : Status) : State :=
  match s.hist.drains.find? (fun e => e.1 = i) with
  | none => s
  | some e =>
    let g := s.hist.seg i
    let ok := decide (st = .ok)
    let s := s.onHist (fun h => { h with drains := h.drains.filter (fun x => !(x.1 == i))
                                         segs := h.segs.put i { g with st := .sealed, drained := g.drained || ok } })
    let s := if ok then (s.count 0x3C5).complete e.2 .ok 0 (g.seq + 2 ^ 32 * g.bytes) (segBytes s.hist g) else s.complete e.2 st
    s.histRegs

/-- The historian stops or starts anew: what waits on it is answered, and the bytes of the second of D in progress stay counted (R257, R259, R264). -/
def State.histEnd (s : State) : State :=
  let s := forL (s.hist.drains.map (·.1)) (fun k s => s.drainEnd k .aborted) s
  let s := forL s.hist.sets (fun e s => s.complete e.2.2.2 .aborted) s
  let s := forL s.hist.cutRefs (fun r s => s.complete r .ok) s
  s.onHist (fun h => { secBytes := h.secBytes })

/-- An image without the section records nothing: the fields loaded from it read 0 (R264). -/
def State.histNone (s : State) : State :=
  (s.histEnd.histLoad { segLog2 := 0, fullAct := 0, segCount := 0, ringBase := 0, segAge := 0, policies := [] }).histRegs

/-- The historian starts with an image at the mark that starts cycle n, by a load or by a warm restart from cut `resumed` (R244, R251, R254, R259, R263). -/
def State.histStart (s : State) (i : Img) (n : Nat) (resumed : Option Nat) : State :=
  match i.policies with
  | none => s.histNone
  | some x =>
    let s := s.histEnd
    let m := match resumed with
      | some k => devMark 0x0002 k n 0
      | none => devMark 0x0001 i.serial n n
    let s := s.onHist (fun h => { h with on := true, startId := s.now64, sec := some x, devnum := i.devnum, digest := i.digest.take 4, c := n, policies := x.policies, groups := denseGroups i.points x.policies, marks := [m], resync := List.range 64 })
    (((s.histLoad x).wr Reg.HST_LOST_CUTS 0).wr Reg.HST_LAST_N_N_LO 0).histRegs

/-- A point of the running image that a new image does not hold in the same format (R60). -/
def pointGone (new : Img) (k : Nat) (d : PointDef) : Bool :=
  match new.points.look k with | some e => decide (e.format ≠ d.format) | none => true

/-- What the historian does at a splice mark: new policies and groups, marks of points whose policy changed, and the turns of these and of the points that the splice itself disabled, `rep`, from the cut after (R254, R263). The marks of discarded points stand in the last cut of the old image. -/
def State.histSplice (s : State) (old new : Img) (rep : List Nat) (n : Nat) : State :=
  match new.policies with
  | none => s.histNone
  | some x =>
    let was := s.hist.policies
    let changed := (new.points.filter (fun e => match old.points.look e.1 with
      | some d => decide (d.format = e.2.format) && (decide (polOf was d ≠ polOf x.policies e.2) || decide (d.recPolicy ≠ e.2.recPolicy))
      | none => false)).map (·.1)
    let gone := (old.points.filter (fun e => pointGone new e.1 e.2)).map (·.1)
    let groups := denseGroups new.points x.policies
    let s := s.onHist (fun h => { h with
      sec := some x, policies := x.policies, groups := groups, digest := new.digest.take 4
      runs := h.runs.filter (fun e => !(decide (e.1 ∈ gone)))
      marks := h.marks ++ [devMark 0x0003 groups.length n 0]
      ptMarks := h.ptMarks ++ changed.map (fun k => (k, 3))
      resyncNext := addCells h.resyncNext ((changed ++ rep).map (fun k => k / 2048)) })
    (s.histLoad x).histRegs

/-- The marks of points that exist only in the running image, for its last cut (R60, R254). -/
def State.histDiscards (s : State) (old new : Img) : State :=
  s.onHist (fun h => { h with ptMarks := h.ptMarks ++
    ((old.points.filter (fun e => pointGone new e.1 e.2)).map (fun e => (e.1, 1))) })

/-- The same marks, written at once with the cut that is sealed already: a standby learns in its replay of the splice that it applies now (R254, R396). -/
def State.histDiscardsNow (s : State) (old new : Img) : State :=
  if !s.hist.on then s
  else
    let n := s.pts.cutN
    let gone := (old.points.filter (fun e => pointGone new e.1 e.2)).map (fun e => (e.1, 1))
    let x : CellCut := forL gone (fun m x => markPoint old.points s.pts.cut n m x) { runs := s.hist.runs }
    if x.marks.isEmpty then s
    else match s.placeRecs n x.marks false with
      | some s => (s.onHist (fun h => { h with runs := x.runs })).histRegs
      | none => s

/-- POLICY_SET commands take effect, after a splice on the same mark (R261, R564). -/
def State.applyPolicySets (s : State) : State :=
  let l := s.hist.sets
  forL l (fun (e : Nat × F32 × Nat × CmdRef) (s : State) =>
    let (i, b, g, ref) := e
    if s.keyStopped then s.complete ref .denied 1
    else match s.hist.policies[i]? with
      | none => s.complete ref .absent
      | some p =>
        if !boundOk p.mode b g then s.complete ref .invalid
        else
          let s := s.onHist (fun h => { h with policies := h.policies.set i { p with bound := b, maxGap := g }
                                               marks := h.marks ++ [devMark 0x0009 i s.time.n b.toNat] })
          s.complete ref .ok 0 s.time.n)
    (s.onHist (fun h => { h with sets := [] }))

/-- A second of D ends: HST_RATE (R264). -/
def State.histSecond (s : State) : State :=
  (s.wr Reg.HST_RATE_KIB_S (s.hist.secBytes / 1024)).onHist (fun h => { h with secBytes := 0 })

/-- The time-step mark (R254). -/
def State.histTimeStep (s : State) (n : Nat) (cycles : Int) : State :=
  if s.hist.on then s.onHist (fun h => { h with marks := h.marks ++ [devMark 0x0004 (twos 32 cycles) n 0] }) else s

/-! Commands and events (R257 to R259, R266). -/

/-- The segment that holds a SEQ, sealed or draining. -/
def HistState.findSeq (h : HistState) (q : Nat) : Option (Nat × SegState) :=
  if q = 0xFFFFFFFF ∧ (h.oldest.isSome) then h.oldest
  else h.sealedSegs.find? (fun e => e.2.seq = q)

/-- A drain begins (R257, R258). -/
def State.drainBegin (s : State) (ref : CmdRef) (q : Nat) : State :=
  match s.hist.findSeq q with
  | none => s.complete ref .absent
  | some (i, g) =>
    if ref.bufLen < g.bytes then s.complete ref .invalid
    else if 4 ≤ s.hist.drains.length ∨ g.st = .draining then s.complete ref .busy
    else
      (s.onHist (fun h => { h with segs := h.segs.put i { g with st := .draining }, drains := h.drains ++ [(i, ref)] })).histRegs

/-- SEG_DRAIN (R257, R258). -/
def execSegDrain (ref : CmdRef) (args : List Nat) (s : State) : Out :=
  .next (s.commandLong ref 0x0601 [] [] (fun ref s => s.drainBegin ref (argN args 0)))

/-- A segment's transfer to the host is complete (R257). -/
def execDrainComplete (seg : Fin 65536) (s : State) : Out := .next (s.drainEnd seg.val .ok)

/-- A segment's transfer fails (R257). -/
def execDrainFail (seg : Fin 65536) (s : State) : Out := .next (s.drainEnd seg.val .aborted)

/-- Frees a segment and every older sealed one (R259). -/
def State.releaseTo (s : State) (ref : CmdRef) (q : Nat) : State :=
  match s.hist.seqAge q with
  | none => s.complete ref .invalid
  | some a =>
    let old (g : SegState) : Bool := match s.hist.seqAge g.seq with | some b => decide (a ≤ b) | none => false
    let l := s.hist.sealedSegs.filter (fun e => old e.2)
    if l.any (fun e => e.2.st = .draining) then s.complete ref .busy
    else
      let s := s.onHist (fun h => { h with segs := forL (l.map (·.1)) (fun i t => t.drop' i) h.segs })
      s.histRegs.complete ref .ok

/-- SEG_RELEASE (R259). -/
def execSegRelease (ref : CmdRef) (args : List Nat) (s : State) : Out :=
  .next (s.command ref 0x0602 [] [] (fun ref s => s.releaseTo ref (argN args 0)))

/-- SEG_CUT: takes effect, and completes, at the next base mark (R256). -/
def execSegCut (ref : CmdRef) (_args : List Nat) (s : State) : Out :=
  .next (s.command ref 0x0603 [] [] (fun ref s =>
    if (s.hist.seg s.hist.idx).st = .filling then s.onHist (fun h => { h with cutRefs := h.cutRefs ++ [ref] })
    else s.complete ref .ok))

/-- HST_CTL.CUT is written as 1 (R256). -/
def execHstCutWrite (s : State) : Out := .next (s.onHist (fun h => { h with cutReq := true }))

/-- A dense group as GROUP_READ returns it (R253, log entry 2). -/
def groupBytes (g : DenseGroup) : List Byte :=
  leBytes 2 g.cell ++ leBytes 2 g.sdiv ++ leBytes 2 g.sphase ++ leBytes 2 g.slots.length ++ (g.slots.map (leBytes 2)).flatten

/-- GROUP_READ (R253). -/
def execGroupRead (ref : CmdRef) (args : List Nat) (s : State) : Out :=
  let l := (args.drop 1).take (argN args 0)
  let data := (l.map (fun i => match s.hist.groups[i]? with | some g => groupBytes g | none => [])).flatten
  .next (s.command ref 0x0604 [badCount args 256, badAt (fun i => decide (i < s.hist.groups.length)) l .absent, noRoom ref data.length] []
    (fun ref s => s.complete ref .ok 0 0 data))

/-- A policy record's 16 bytes (R246). -/
def policyBytes (p : PolicyDef) : List Byte :=
  leBytes 2 p.policy ++ leBytes 1 p.mode ++ leBytes 1 0 ++ leBytes 2 p.sdiv ++ leBytes 2 p.sphase ++ leBytes 4 p.bound.toNat ++ leBytes 4 p.maxGap

/-- POLICY_READ (R266). -/
def execPolicyRead (ref : CmdRef) (args : List Nat) (s : State) : Out :=
  let l := (args.drop 1).take (argN args 0)
  let data := (l.map (fun i => match s.hist.policies[i]? with | some p => policyBytes p | none => [])).flatten
  .next (s.command ref 0x0605 [badCount args 64, badAt (fun i => decide (i < s.hist.policies.length)) l .absent, noRoom ref data.length] []
    (fun ref s => s.complete ref .ok 0 0 data))

/-- POLICY_SET: latched for the next base mark (R261). -/
def execPolicySet (ref : CmdRef) (args : List Nat) (s : State) : Out :=
  let i := argN args 0
  let b : F32 := BitVec.ofNat 32 (argN args 1)
  let g := argN args 2
  let bad := match s.hist.policies[i]? with | some p => !boundOk p.mode b g | none => false
  .next (s.commandLong ref 0x0606 [(bad, .invalid, 1), (decide (s.hist.policies.length ≤ i), .absent, 0)] []
    (fun ref s => s.onHist (fun h => { h with sets := h.sets ++ [(i, b, g, ref)] })))

/-- The state code of a segment as SEG_LIST returns it (log entry 2). -/
def segCode : SegSt → Nat
  | .free => 0 | .filling => 1 | .sealed => 2 | .draining => 3

/-- SEG_LIST: state, SEQ, BYTES and N_FIRST of segments from a SEQ (R266, log entry 2). -/
def execSegList (ref : CmdRef) (args : List Nat) (s : State) : Out :=
  let live := s.hist.segs.filter (fun e => decide (e.2.st ≠ .free))
  let n := min 64 (argN args 1)
  let l := ((List.range n).map (fun k => (live.filter (fun e => e.2.seq = (argN args 0 + k) % 2 ^ 32)).map (fun e =>
    leBytes 4 (segCode e.2.st) ++ leBytes 4 e.2.seq ++ leBytes 4 e.2.bytes ++ leBytes 4 0 ++ leBytes 8 e.2.nFirst))).flatten
  .next (s.command ref 0x0607 [noRoom ref (24 * l.length)] [] (fun ref s => s.complete ref .ok 0 0 l.flatten))

end Sys2Proof.Machine
end

