-- ==== Sys2Proof/Machine/Acq.lean ====
section
/-! DEFINITION. Acquisition units: section, detectors, triggers, unit states, groups, alignment, records with their measurements, commands (R267 to R290). -/

namespace Sys2Proof.Machine

/-- The state with the acquisition engine's state changed. -/
def State.onAcq (s : State) (f : AcqState → AcqState) : State := { s with acq := f s.acq }

/-- A unit's state. -/
def State.unit (s : State) (u : Nat) : AcqUnit := s.acq.units.at' u {}

/-- The state with a unit's state replaced. -/
def State.setUnit (s : State) (u : Nat) (x : AcqUnit) : State := s.onAcq (fun a => { a with units := a.units.put u x })

/-- The acquisition section of the running image. -/
def State.acqSec (s : State) : Option AcqSec := match s.img.run with | some i => i.acq | none => none

/-- The unit record of a unit. -/
def State.unitDef (s : State) (u : Nat) : Option UnitDef := match s.acqSec with | some x => x.units[u]? | none => none

/-! Sources and samples (R267, R268). -/

/-- Bytes of a sample by source kind. -/
def sampleBytes (kind : Nat) : Nat := if kind = 2 then 8 else 4

/-- INTERVAL_NS of a preset; a converter's depends on its sequence length (R267). -/
def intervalOf (conv : Option ConvSec) (p : PresetDef) : Nat :=
  if p.srcKind = 2 then 125000 * p.dec
  else if p.srcKind = 1 then 500 * p.dec
  else match conv with
    | some c => match c.convs.find? (fun x => x.conv = p.src % 16) with
      | some x => 500 * x.len * p.dec
      | none => 500 * p.dec
    | none => 500 * p.dec

/-- INTERVAL_NS in the running image. -/
def State.interval (s : State) (p : PresetDef) : Nat :=
  intervalOf (match s.img.run with | some i => i.conv | none => none) p

/-- The source is a FLOAT32 point. -/
def floatSrc (points : Tab PointDef) (p : PresetDef) : Bool :=
  decide (p.srcKind = 2) && (match points.look (idLocal p.src) with | some d => decide (d.format = 0) | none => false)

/-- The detector's value of a sample: INT32, or a FLOAT32 pattern (R268). -/
def detValue (p : PresetDef) (x : Sample) : Word :=
  if p.srcKind = 0 then BitVec.ofNat 32 (twos 32 (signed 30 (x.word.toNat % 2 ^ 30))) else x.word

/-- The detector evaluates the sample (R268). -/
def evaluated (p : PresetDef) (x : Sample) : Bool :=
  decide (p.srcKind ≠ 2) || decide (x.quality = 0) || decide (x.quality = 3) || decide (x.quality = 5)

/-! Configuration (R270, R271). -/

/-- A preset record. -/
def presetOf (r : List Byte) : PresetDef :=
  { preset := fieldLE r 0 2, srcKind := fieldLE r 2 1, trig := fieldLE r 3 1, src := fieldLE r 4 4, dec := fieldLE r 8 2
    cond := fieldLE r 10 1, holdMode := fieldLE r 11 1, l1 := wordLE r 12, l2 := wordLE r 16, w1 := fieldLE r 20 4, w2 := fieldLE r 24 4
    pre := fieldLE r 28 4, post := fieldLE r 32 4, holdoff := fieldLE r 36 4, pin := fieldLE r 40 1, pinEdge := fieldLE r 41 1
    meas := bitOf (fieldLE r 42 1) 0, rearm := decide (fieldLE r 43 1 = 1) }

/-- A unit record. -/
def unitOf (r : List Byte) : UnitDef :=
  let f := fieldLE r 7 1
  { unit := fieldLE r 0 1, start := fieldLE r 1 1, preset := fieldLE r 2 2, bufs := fieldLE r 4 2, group := fieldLE r 6 1
    master := bitOf f 0, align := bitOf f 1, publish := bitOf f 2, subscribe := bitOf f 3
    areaBase := fieldLE r 8 8, bufBytes := fieldLE r 16 4, alignCh := fieldLE r 20 1 }

/-- The condition bits of a trigger (R272). -/
def condOk (p : PresetDef) : Bool :=
  let two := bitsOf p.cond 1 0
  match p.trig with
  | 0 => decide (p.cond = 0)
  | 1 => decide (1 ≤ p.cond) && decide (p.cond ≤ 3)
  | 2 => decide (p.cond < 8)
  | 3 => decide (p.cond ≤ 1)
  | 4 => decide (1 ≤ p.cond) && decide (p.cond ≤ 3) && decide (1 ≤ p.w1)
  | 5 => decide (1 ≤ two) && decide (p.cond < 8) && decide (1 ≤ p.w1)
  | 6 => decide (1 ≤ p.cond) && decide (p.cond ≤ 3)
  | _ => false

/-- The levels of a trigger (R271). -/
def levelsOk (p : PresetDef) (float : Bool) : Bool :=
  let upper := decide (p.trig = 3) || decide (p.trig = 5) || decide (p.trig = 6)
  let fin := !float || (F32.fin p.l1 && F32.fin p.l2)
  fin && (if p.trig = 0 then true
    else if upper then (if float then F32.lt p.l1 p.l2 else decide (p.l1.toInt < p.l2.toInt))
    else (if float then !F32.lt p.l2 F32.zero else decide (0 ≤ p.l2.toInt)))

/-- The ranges of a preset's fields (R271). -/
def presetRanges (r : List Byte) (p : PresetDef) (float : Bool) : Bool :=
  decide (p.srcKind ≤ 2) && decide (p.trig ≤ 6) && decide (1 ≤ p.dec) && decide (p.holdMode ≤ 2) && condOk p && levelsOk p float &&
  decide (p.w1 ≤ p.w2) && decide (p.pre ≤ 1048576) && decide (p.post ≤ 16777215) &&
  (match p.holdMode with
   | 0 => decide (p.holdoff = 0)
   | 1 => decide (1 ≤ p.holdoff) && decide (p.holdoff ≤ 4294967)
   | _ => decide (1 ≤ p.holdoff) && decide (p.holdoff ≤ 65535)) &&
  (if p.pin = 0xFF then decide (p.pinEdge = 0) else decide (p.pin ≤ 7) && decide (1 ≤ p.pinEdge) && decide (p.pinEdge ≤ 3)) &&
  decide (fieldLE r 42 1 ≤ 1) && decide (fieldLE r 43 1 ≤ 1) && (slice r 44 20).all (fun y => decide (y = 0))

/-- The source of a preset exists (R271). -/
def srcOk (points : Tab PointDef) (conv : Option ConvSec) (dev : Nat) (p : PresetDef) : Bool :=
  match p.srcKind with
  | 0 => decide (p.src < 512) && (match conv with
      | some c => c.convs.any (fun x => decide (x.conv = p.src % 16) && x.enable && decide (p.src / 16 < x.len))
      | none => false)
  | 1 => decide (p.src < 32) && (match conv with | some c => c.encs.any (fun x => decide (x.ch = p.src)) | none => false)
  | 2 => decide (bitsOf p.src 31 25 = 0) && decide (idDev p.src = dev) && (points.look (idLocal p.src)).isSome
  | _ => true

/-- The bytes a record of a preset takes (R270). -/
def recordSize (p : PresetDef) : Nat := 256 + sampleBytes p.srcKind * (p.pre + p.post + 1)

/-- The bytes of a unit's area (R270). -/
def acqAreaSize (d : UnitDef) (p : PresetDef) : Nat :=
  (if d.align then 4096 * ceilDiv ((p.pre + 65536) * sampleBytes p.srcKind) 4096 else 0) + d.bufs * d.bufBytes

/-- The acquisition-preset section: content and faults of its own form (R270, R271). -/
def parseAcq (b : List Byte) (items : Nat) : AcqSec × List Rej :=
  let n := fieldLE b 0 2
  let us := (recordsOf (b.drop 32) 32 24)
  let ps := (recordsOf (b.drop 800) 64 n)
  let x : AcqSec := { units := us.map unitOf, presets := ps.map presetOf }
  let head := decide (1 ≤ n) && decide (n ≤ 256) && decide (fieldLE b 2 1 = 24) && (slice b 3 29).all (fun y => decide (y = 0))
  let unitBad := (((List.range 24).zip us).map (fun e =>
    let d := unitOf e.2
    need (decide (d.unit = e.1)) 0x0008 e.1 ++
    need (decide (d.start ≤ 1) && decide (1 ≤ d.bufs) && decide (d.bufs ≤ 4096) && (decide (d.group ≤ 7) || decide (d.group = 0xFF)) &&
      decide (fieldLE e.2 7 1 < 16) && (!d.align || decide (20 ≤ d.unit)) && (d.align || (!d.publish && !d.subscribe && decide (d.alignCh = 0))) &&
      decide (d.alignCh ≤ 3) && decide (d.areaBase % 4096 = 0) && decide (d.bufBytes % 4096 = 0) && (!d.align || decide (d.group = 0xFF)) &&
      (!d.master || decide (d.group ≠ 0xFF)) && (slice e.2 21 11).all (fun y => decide (y = 0))) 0x000B e.1 ++
    need (decide (d.preset < n)) 0x000B e.1)).flatten
  let idxBad := (((List.range n).zip ps).map (fun e => need (decide (fieldLE e.2 0 2 = e.1)) 0x0008 e.1)).flatten
  let groups := (List.range 8).all (fun g =>
    let m := x.units.filter (fun d => decide (d.group = g))
    m.isEmpty || decide ((m.filter (·.master)).length = 1))
  (x, need (decide (b.length = 800 + 64 * n) && decide (items = 24 + n)) 0x000B ++ need head 0x000B ++ unitBad ++ idxBad ++ need groups 0x000B)

/-- The checks of the section against the rest of the image: sources, record sizes, areas (R270, R271, R442). -/
def acqLinks (b : List Byte) (points : Tab PointDef) (conv : Option ConvSec) (pol : Option PolicySec) (dev : Nat)
    (gib : Nat → Nat) (paired : Bool) (x : AcqSec) : List Rej :=
  let ps := recordsOf (b.drop 800) 64 x.presets.length
  let pres := ((ps.zip x.presets).map (fun e =>
    need (srcOk points conv dev e.2) 0x000C e.2.preset ++ need (presetRanges e.1 e.2 (floatSrc points e.2)) 0x000B e.2.preset)).flatten
  let areas := x.units.map (fun d => match x.presets[d.preset]? with
    | some p => (d, p, acqAreaSize d p)
    | none => (d, presetOf [], 0))
  let inRing (d : UnitDef) (n : Nat) : Bool := match pol with
    | some y => overlap d.areaBase n y.ringBase (y.segCount * 2 ^ y.segLog2)
    | none => false
  let units := (areas.map (fun e =>
    need (decide (recordSize e.2.1 ≤ e.1.bufBytes) && (!e.1.align || decide (e.2.1.pre ≤ 983040)) && inDdr gib e.1.areaBase e.2.2 &&
      !inReserved gib paired e.1.areaBase e.2.2 && !inRing e.1 e.2.2 &&
      areas.all (fun f => decide (f.1.unit = e.1.unit) || !overlap e.1.areaBase e.2.2 f.1.areaBase f.2.2)) 0x000B e.1.unit)).flatten
  pres ++ units

/-! Trigger detection (R272). -/

/-- v < level. -/
def belowLevel (float : Bool) (v l : Word) : Bool := if float then F32.lt v l else decide (v.toInt < l.toInt)
/-- v ≥ level. -/
def atLevel (float : Bool) (v l : Word) : Bool := if float then F32.le l v else decide (l.toInt ≤ v.toInt)

/-- v < L1 − L2. -/
def belowHyst (float : Bool) (p : PresetDef) (v : Word) : Bool :=
  if float then F32.lt v (F32.sub p.l1 p.l2) else decide (v.toInt < p.l1.toInt - p.l2.toInt)

/-- The run of a binary state goes on or changes: the detector after, and whether the state changed. -/
def runOn (d : Detector) (a : Bool) : Detector × Bool :=
  if !d.started then ({ d with started := true, a := a, width := 1, fromArm := true }, false)
  else if a = d.a then ({ d with width := d.width + 1 }, false)
  else ({ d with a := a, width := 1, fromArm := false }, true)

/-- A pulse of width w meets COND bits 3:1. -/
def pulseMeets (p : PresetDef) (w : Nat) : Bool :=
  match bitsOf p.cond 3 1 with
  | 0 => decide (w < p.w1)
  | 1 => decide (p.w2 < w)
  | 2 => decide (p.w1 ≤ w) && decide (w ≤ p.w2)
  | _ => decide (w < p.w1) || decide (p.w2 < w)

/-- A transition of n samples meets COND bits 3:2. -/
def slewMeets (p : PresetDef) (n : Nat) : Bool := if bitsOf p.cond 3 2 = 0 then decide (n < p.w1) else decide (p.w1 < n)

/-- One evaluated sample: the detector after it, and whether it fires (R272). -/
def detStep (float : Bool) (p : PresetDef) (v : Word) (d : Detector) : Detector × Bool :=
  let low := belowLevel float v p.l1
  let high := atLevel float v p.l2
  let a := if atLevel float v p.l1 then true else if belowHyst float p v then false else d.a
  match p.trig with
  | 1 =>
    let r := runOn d a
    (r.1, r.2 && (if a then bitOf p.cond 0 else bitOf p.cond 1))
  | 2 =>
    let r := runOn d a
    (r.1, r.2 && !d.fromArm && decide (d.a = !(bitOf p.cond 0)) && pulseMeets p d.width)
  | 3 =>
    let neg := bitOf p.cond 0
    if !neg then
      let opened := d.started && d.wasLow && !low
      let isOpen := (d.riseOpen.isSome || opened) && !high
      ({ d with started := true, wasLow := low, riseOpen := if isOpen && !low then some 0 else none }, d.riseOpen.isSome && low)
    else
      let opened := d.started && d.wasHigh && !high
      let isOpen := (d.fallOpen.isSome || opened) && !low
      ({ d with started := true, wasHigh := high, fallOpen := if isOpen && !high then some 0 else none }, d.fallOpen.isSome && high)
  | 4 =>
    let r := runOn d a
    (r.1, d.started && decide (r.1.width = p.w1) && (if a then bitOf p.cond 0 else bitOf p.cond 1))
  | 5 =>
    let up : Option Nat := match d.riseOpen with
      | some k => some (k + 1)
      | none => if d.started && d.wasLow && !low then some 0 else none
    let down : Option Nat := match d.fallOpen with
      | some k => some (k + 1)
      | none => if d.started && d.wasHigh && !high then some 0 else none
    let fireUp := match up with | some n => !low && high && bitOf p.cond 0 && slewMeets p n | none => false
    let fireDown := match down with | some n => low && !high && bitOf p.cond 1 && slewMeets p n | none => false
    ({ d with started := true, wasLow := low, wasHigh := high
              riseOpen := if low || high then none else up
              fallOpen := if low || high then none else down }, fireUp || fireDown)
  | 6 =>
    let i := atLevel float v p.l1 && (if float then F32.le v p.l2 else decide (v.toInt ≤ p.l2.toInt))
    let r := runOn d i
    let sel := if i then bitOf p.cond 0 else bitOf p.cond 1
    (r.1, sel && !r.1.fromArm && (if p.w1 = 0 then r.2 else decide (r.1.width = p.w1)))
  | _ => ({ d with started := true }, false)

/-! Measurements (R286). -/

/-- The quiet NaN of an undefined measurement. -/
def measNan : F64 := 0x7FF8000000000000

/-- The valid samples of a record, oldest first. -/
def AcqRecord.valid (r : AcqRecord) : List Sample := r.pre ++ r.trig.toList ++ r.post

/-- Times and values that the measurements use. -/
def measPoints (float : Bool) (interval : Nat) (r : AcqRecord) : List (F64 × F64) :=
  (((List.range r.valid.length).zip r.valid).filter (fun e => evaluated r.preset e.2)).map (fun e =>
    let v := detValue r.preset e.2
    (F64.ofInt ((e.1 * interval : Nat) : Int), if float then F64.of32 v else F64.ofInt v.toInt))

/-- The time at which a level is crossed between two samples. -/
def crossing (interval : Nat) (l : F64) (a b : F64 × F64) : F64 :=
  F64.add a.1 (F64.mul (F64.div (F64.sub l a.2) (F64.sub b.2 a.2)) (F64.ofInt (interval : Int)))

/-- The first transition from a level to another: `lo` and `hi` tell whether a sample stands beyond each; the time between the crossings of `l0` and `l1`. -/
def transition (interval : Nat) (lo hi : F64 → Bool) (l0 l1 : F64) : Option F64 → List (F64 × F64) → F64
  | _, [] => measNan
  | _, [_] => measNan
  | t0, a :: b :: t =>
    let t0 := if lo a.2 then some (crossing interval l0 a b) else t0
    match t0 with
    | some x => if hi b.2 then F64.sub (crossing interval l1 a b) x else transition interval lo hi l0 l1 (some x) (b :: t)
    | none => transition interval lo hi l0 l1 none (b :: t)

/-- The counted rising crossings of L50 (R286). -/
def risings (interval : Nat) (l10 l50 : F64) : Bool → List (F64 × F64) → List F64
  | _, [] => []
  | _, [_] => []
  | armed, a :: b :: t =>
    let armed := armed || F64.le a.2 l10
    if armed && F64.lt a.2 l50 && F64.le l50 b.2 then crossing interval l50 a b :: risings interval l10 l50 false (b :: t)
    else risings interval l10 l50 armed (b :: t)

/-- MIN, MAX, MEAN, RMS, AMPL, PERIOD_NS, FREQ_HZ, RISE_NS, FALL_NS (R286). -/
def measure (float : Bool) (interval : Nat) (r : AcqRecord) : List F64 :=
  match measPoints float interval r with
  | [] => List.replicate 9 measNan
  | p0 :: ps =>
    let l := p0 :: ps
    let n := F64.ofInt (l.length : Int)
    let lo := ps.foldl (fun m e => F64.min m e.2) p0.2
    let hi := ps.foldl (fun m e => F64.max m e.2) p0.2
    let mean := F64.div (ps.foldl (fun m e => F64.add m e.2) p0.2) n
    let rms := F64.sqrt (F64.div (ps.foldl (fun m e => F64.add m (F64.mul e.2 e.2)) (F64.mul p0.2 p0.2)) n)
    let ampl := F64.sub hi lo
    let level (k : Nat) : F64 := F64.add lo (F64.mul (F64.ofRat k 10) ampl)
    let l10 := level 1
    let l50 := level 5
    let l90 := level 9
    let flat := !F64.lt F64.zero ampl
    let xs := risings interval l10 l50 false l
    let period := match xs with
      | [] => measNan
      | [_] => measNan
      | a :: t => F64.div (F64.sub (t.getLastD a) a) (F64.ofInt (t.length : Int))
    let freq := if xs.length < 2 then measNan else F64.div (F64.ofInt 1000000000) period
    let rise := if flat then measNan else transition interval (fun v => F64.le v l10) (fun v => F64.le l90 v) l10 l90 none l
    let fall := if flat then measNan else transition interval (fun v => F64.le l90 v) (fun v => F64.le v l10) l90 l10 none l
    [lo, hi, mean, rms, ampl, period, freq, rise, fall]

/-! Records (R275, R284). -/

/-- A sample word's bytes (R268). -/
def wordOf (kind : Nat) (x : Sample) : List Byte :=
  leBytes 4 x.word.toNat ++ (if kind = 2 then leBytes 1 x.quality ++ leBytes 3 0 else [])

/-- The FLAGS word of a record (R284). -/
def AcqRecord.flags (r : AcqRecord) : Nat :=
  let ovrIn := decide (r.preset.srcKind = 0) && r.valid.any (fun x => bitOf x.word.toNat 31)
  b2n r.trig.isSome + 2 * b2n r.shortPre + 4 * b2n r.ovf + 8 * b2n r.aborted + 16 * b2n ovrIn + 32 * b2n r.step + 64 * b2n r.preset.meas

/-- TRIG_KIND (R284). -/
def trigCode (p : PresetDef) : Option TrigPend → Nat
  | none => 0xFF
  | some t => match t.kind with
    | .detector => p.trig | .pin => 0x10 | .command => 0x11 | .group => 0x12 | .align => 0x13

/-- The pre-trigger slots in order, 0 where no valid sample lies (R275, R284). -/
def preSlots (r : AcqRecord) : List Byte :=
  let b := sampleBytes r.preset.srcKind
  ((List.range r.preset.pre).map (fun k =>
    let j := (k + r.preset.pre - r.preStart) % r.preset.pre
    match r.pre[j]? with
    | some x => wordOf r.preset.srcKind x
    | none => List.replicate b 0)).flatten

/-- A record's bytes (R284): header with CRC, then slots. -/
def recordBytes (r : AcqRecord) (u : Nat) : List Byte :=
  let p := r.preset
  let b := sampleBytes p.srcKind
  let t := r.cause
  let stamp := match r.valid with | x :: _ => x.dNs % 2 ^ 32 | [] => 0
  let disp := if p.srcKind = 0 then (r.valid.filter (fun x => bitOf x.word.toNat 30)).length else 0
  let pin : Bool := match t with | some x => decide (x.kind = .pin) | none => false
  let head := leBytes 4 0x52514341 ++ leBytes 2 1 ++ leBytes 1 u ++ leBytes 1 r.devnum ++ leBytes 4 r.seq ++ leBytes 4 r.flags ++
    leBytes 2 r.presetIdx ++ leBytes 1 p.srcKind ++ leBytes 1 b ++ leBytes 4 p.src ++ leBytes 1 (trigCode p t) ++
    leBytes 1 (match t with | some x => x.firedBy | none => 0xFF) ++
    leBytes 1 (if pin then (match t with | some x => x.sub | none => 0) else 0) ++ leBytes 1 0 ++
    leBytes 4 (if pin then (match t with | some x => x.stamp32 | none => 0) else 0) ++
    leBytes 4 p.pre ++ leBytes 4 p.post ++ leBytes 4 r.pre.length ++ leBytes 4 r.preStart ++ leBytes 4 r.post.length ++
    leBytes 4 r.interval ++ leBytes 4 stamp ++ leBytes 4 r.ignored ++
    leBytes 8 (match t with | some x => x.n | none => 0) ++ leBytes 4 disp ++ leBytes 4 r.groupMiss ++
    ((if p.meas then measure r.float r.interval r else List.replicate 9 measNan).map (fun v => leBytes 8 v.toNat)).flatten ++
    slice r.digest 0 4 ++ List.replicate 96 0
  let slots := preSlots r ++ (match r.trig with | some x => wordOf p.srcKind x | none => List.replicate b 0) ++
    slice ((r.post.map (wordOf p.srcKind)).flatten) 0 (b * p.post)
  head ++ leBytes 4 (crc32c (head ++ slots)) ++ slots

/-! Unit states (R274 to R277). -/

/-- The code of a unit state (R288). -/
def unitCode : UnitSt → Nat
  | .idle => 0 | .fill => 1 | .armed => 2 | .post => 3 | .holdoff => 4 | .waitBuf => 5 | .stopped => 6

/-- FILL or ARMED. -/
def AcqUnit.open_ (x : AcqUnit) : Bool := decide (x.st = .fill) || decide (x.st = .armed)

/-- Free buffers of a unit (R277). -/
def freeBufs (bufs : Nat) (x : AcqUnit) : Nat :=
  bufs - x.records.length - b2n (x.open_ || decide (x.st = .post))

/-- The registers that show a unit (R288). -/
def State.acqShow (s : State) (u : Nat) : State :=
  let x := s.unit u
  let a := s.rd Reg.ACQ_ARMED_ARMED
  let a := setBits a u u (b2n x.open_)
  let bufs := match s.unitDef u with | some d => d.bufs | none => 0
  let held := match s.unitDef u, x.preset with
    | some d, some p => if d.align then x.pre.length else min x.pre.length p.pre
    | _, _ => x.pre.length
  let short := match x.records.getLast? with | some r => b2n r.shortPre | none => s.rd Reg.ACQ_STAT_SHORT [u]
  let s := if x.st = .stopped ∧ s.rd Reg.ACQ_STAT_STATE [u] ≠ 6 then s.cause 5 else s
  (((((((s.wr Reg.ACQ_ARMED_ARMED a).wr Reg.ACQ_STAT_STATE (unitCode x.st) [u]).wr Reg.ACQ_STAT_SHORT short [u]).wr
    Reg.ACQ_STAT_PRESET x.presetIdx [u]).wr Reg.ACQ_FILL_COUNT (if x.open_ then min held 1048576 else 0) [u]).wr
    Reg.ACQ_IGN_IGNORED x.ignored [u]).wr Reg.ACQ_REC_SEQ ((x.recSeq + 2 ^ 32 - b2n (decide (0 < x.recSeq))) % 2 ^ 32) [u]).wr
    Reg.ACQ_BUF_FREE (freeBufs bufs x) [u]

/-- The state with a unit's state replaced and shown. -/
def State.putUnit (s : State) (u : Nat) (x : AcqUnit) : State := (s.setUnit u x).acqShow u

/-- A trigger is ignored (R274). -/
def State.ignoreTrig (s : State) (u : Nat) (n : Nat := 1) : State :=
  let x := s.unit u
  (s.putUnit u { x with ignored := min (x.ignored + n) 0xFFFFFFFF }).count (0x380 + u) n

/-- A unit enters FILL at an instant, or ARMED at once when PRE is 0 (R274). -/
def State.enterFill (s : State) (u at_ : Nat) : State :=
  let x := s.unit u
  let pre := match x.preset with | some p => p.pre | none => 0
  s.putUnit u { x with st := if pre = 0 then .armed else .fill, pre := [], entered := 0, trigs := [], cur := none, ready := false, took := false
                       armedRun := at_ }

/-- A unit's record closes under an image: its header is fixed, it stands in its buffer, counted (R284, R285). -/
def State.closeUnder (s : State) (i : Option Img) (u : Nat) (dest : UnitSt) (f : AcqRecord → AcqRecord) : State :=
  let x := s.unit u
  match x.cur with
  | none => s.putUnit u { x with st := dest }
  | some r =>
    let r := f r
    let first := match r.valid with | y :: _ => y.run | [] => 0
    let last := match r.valid.getLast? with | some y => y.run | none => 0
    let step := s.acq.steps.any (fun t => decide (first ≤ t) && decide (t < last))
    let r : AcqRecord := { r with
      seq := x.recSeq % 2 ^ 32, ignored := x.ignored, step := step, devnum := s.ownDev
      interval := intervalOf (i.bind (·.conv)) r.preset, digest := (match i with | some y => y.digest.take 4 | none => [])
      float := floatSrc (match i with | some y => y.points | none => []) r.preset }
    (s.putUnit u { x with st := dest, cur := none, records := x.records ++ [r], recSeq := x.recSeq + 1, ignored := 0, pre := [] }).count 0x398

/-- A unit's record closes in the running image. -/
def State.closeRecord (s : State) (u : Nat) (dest : UnitSt) (f : AcqRecord → AcqRecord) : State := s.closeUnder s.img.run u dest f

/-- POST is complete (R274, R276, R280). -/
def State.postDone (s : State) (u : Nat) : State :=
  let x := s.unit u
  match x.cur with
  | none => s
  | some r =>
    if r.post.length < r.preset.post then s
    else
      let s := s.closeRecord u (if r.preset.rearm then .holdoff else .idle) id
      let grouped := match s.unitDef u with | some d => decide (d.group ≠ 0xFF) | none => false
      let bufs := match s.unitDef u with | some d => d.bufs | none => 0
      let y := s.unit u
      if r.preset.rearm && grouped && decide (r.preset.holdMode = 0) then
        (if 0 < freeBufs bufs y then s.putUnit u { y with ready := true } else s.putUnit u { y with st := .waitBuf })
      else s

/-- The first trigger by the order of kinds (R273). -/
def firstKind (l : List TrigPend) : Option TrigPend :=
  match l.find? (fun t => t.kind = .detector) with
  | some t => some t
  | none => match l.find? (fun t => t.kind = .pin) with
    | some t => some t
    | none => match l.find? (fun t => t.kind = .command) with
      | some t => some t
      | none => match l.find? (fun t => t.kind = .group) with
        | some t => some t
        | none => l.head?

/-- The trigger instant lies at or before a sample: in D for an alignment request, in run time otherwise (R273, R281). -/
def reached (t : TrigPend) (x : Sample) : Bool :=
  if t.kind = .align then decide (t.dNs ≤ x.dNs) else decide (t.run ≤ x.run)

/-- The trigger instant in run time for the hold-off; that of an alignment request lies as far before its trigger sample as D tells (R276, R281). -/
def instantOf (t : TrigPend) (trig : Sample) : Nat := if t.kind = .align then trig.run - 4 * (trig.dNs - t.dNs) else t.run

/-- A trigger is taken: the unit goes to POST with its record; own triggers and requests that wait for a later sample are ignored, pin edges among them being events of the hold-off (R274 to R276). -/
def State.takeCore (s : State) (u : Nat) (t : TrigPend) (before : List Sample) (trig : Sample) (after : List Sample) : State :=
  let x := s.unit u
  match x.preset with
  | none => s
  | some p =>
    let pre := before.drop (before.length - p.pre)
    let enteredBefore := x.entered - after.length - b2n (decide (trig ∈ x.pre))
    let r : AcqRecord :=
      { preset := p, presetIdx := x.presetIdx, shortPre := decide (pre.length < p.pre), cause := some t, pre := pre
        preStart := if p.pre = 0 then 0 else (enteredBefore - pre.length) % p.pre, trig := some trig, post := after.take p.post }
    let late := x.trigs.filter (fun y => !reached y trig && decide (y.kind ≠ .group))
    let refs := (x.trigs.filterMap (fun y => if reached y trig then y.ref else none)) ++ (if t ∈ x.trigs then [] else t.ref.toList)
    let s := s.putUnit u { x with
      st := .post, cur := some r, pre := before, entered := enteredBefore, trigs := [], trigRun := instantOf t trig
      events := (late.filter (fun y => decide (y.kind = .pin))).length, took := true }
    let s := forL (late.filterMap (·.ref)) (fun r s => s.complete r .busy) s
    let s := forL refs (fun r s => s.complete r .ok) s
    if late.isEmpty then s else s.ignoreTrig u late.length

/-- A trigger reaches a unit: it is taken at a sample already held, waits for its sample, or is ignored (R273, R274). -/
def State.giveTrig (s : State) (u : Nat) (t : TrigPend) : State :=
  let x := s.unit u
  if x.open_ then
    match x.pre.dropWhile (fun y => !reached t y) with
    | y :: after => (s.takeCore u t (x.pre.takeWhile (fun y => !reached t y)) y after).postDone u
    | [] => s.setUnit u { x with trigs := x.trigs ++ [t] }
  else s.ignoreTrig u

/-- The other members of a unit's group, in ascending order. -/
def State.mates (s : State) (u : Nat) : List Nat :=
  match s.acqSec with
  | none => []
  | some x =>
    let g := match x.units[u]? with | some d => d.group | none => 0xFF
    if g = 0xFF then [] else (x.units.filter (fun d => decide (d.group = g) && decide (d.unit ≠ u))).map (·.unit)

/-- A taken trigger fires the group (R279). -/
def State.fireGroup (s : State) (u : Nat) (t : TrigPend) : State :=
  forL (s.mates u) (fun m s =>
    if (s.unit m).open_ then s.giveTrig m { kind := .group, run := t.run, n := t.n, firedBy := u, dNs := t.dNs }
    else
      let x := s.unit u
      let s := match x.cur with
        | some r => s.setUnit u { x with cur := some { r with groupMiss := setBits r.groupMiss m m 1 } }
        | none => s
      s.count 0x39A) s

/-- A unit in POST as it was before its trigger: FILL or ARMED with every sample taken since held. -/
def State.reopen (s : State) (u : Nat) : State :=
  let x := s.unit u
  match x.cur with
  | none => s
  | some r => s.setUnit u { x with st := .armed, cur := none, pre := x.pre ++ r.trig.toList ++ r.post, entered := x.entered + b2n r.trig.isSome + r.post.length }

/-- An earlier fire of the group reaches a member: one that waits takes it in place of the later, one in POST moves to the first sample at or after it, or only names it (R279). -/
def State.giveEarlier (s : State) (k : Nat) (g : TrigPend) : State :=
  let x := s.unit k
  if x.open_ then (s.setUnit k { x with trigs := x.trigs.filter (fun y => decide (y.kind ≠ .group)) }).giveTrig k g
  else match x.st, x.cur with
    | .post, some r =>
      let own := match r.cause with | some c => decide (c.kind ≠ .group) | none => false
      if x.pre.any (fun y => decide (g.run ≤ y.run)) then
        let s := (s.reopen k).giveTrig k g
        let s := s.setUnit k { s.unit k with events := x.events + b2n own }
        if own then s.ignoreTrig k else s
      else if own then s
      else s.setUnit k { x with cur := some { r with cause := some g }, trigRun := g.run }
    | _, _ => s

/-- A member's own trigger, processed after another member's, has the earlier instant: it fires the group in its place, and the members that missed the fire are noted in its record (R279). -/
def State.refire (s : State) (u : Nat) (t : TrigPend) (was : Nat) : State :=
  let s := forL (s.mates u) (fun m s => s.giveEarlier m { kind := .group, run := t.run, n := t.n, firedBy := u, dNs := t.dNs }) s
  let x := s.unit was
  match x.cur, (s.unit u).cur with
  | some r, some q =>
    (s.setUnit was { x with cur := some { r with groupMiss := 0 } }).setUnit u { s.unit u with cur := some { q with groupMiss := r.groupMiss } }
  | _, _ => s

/-- An alignment request reaches a unit (R281); `t` is its instant in D. -/
def State.alignUnit (s : State) (u : Nat) (t : Nat) (ref : Option CmdRef) : State :=
  let x := s.unit u
  let answer (st : Status) (s : State) : State := match ref with | some r => s.complete r st | none => s
  if !x.open_ then answer .busy (s.ignoreTrig u)
  else
    let gap := match x.preset with | some p => s.interval p | none => 0
    let old := match x.pre with | y :: _ => decide (t + gap ≤ y.dNs) | [] => false
    if old then answer .absent (s.count 0x39C)
    else s.giveTrig u { kind := .align, run := 0, n := t / 125000, dNs := t, ref := ref }

/-- An ALIGN frame reaches the subscribers on a channel but one unit (R282). -/
def State.alignChannel (s : State) (ch t : Nat) (but : Option Nat) : State :=
  match s.acqSec with
  | none => s
  | some x => forL (x.units.filter (fun d => d.align && d.subscribe && decide (d.alignCh = ch) && decide (some d.unit ≠ but)))
      (fun d s => s.alignUnit d.unit t none) s

/-- A unit takes a trigger: record, group fire, publication, and the end of POST; of the own triggers of a group's members the earliest fires it, at one instant the lower unit's (R274, R279, R282). -/
def State.takeTrig (s : State) (u : Nat) (t : TrigPend) (before : List Sample) (trig : Sample) (after : List Sample) : State :=
  let fired := (s.unit u).trigs.find? (fun y => y.kind = .group)
  let s := s.takeCore u t before trig after
  let s := if t.kind = .group then s
    else match fired with
      | none => s.fireGroup u t
      | some f => if t.run < f.run ∨ (t.run = f.run ∧ u < f.firedBy) then s.refire u t f.firedBy else s
  let s := s.postDone u
  match s.unitDef u with
  | some d =>
    if d.publish ∧ (t.kind = .detector ∨ t.kind = .pin ∨ t.kind = .command) then
      (s.onAcq (fun a => { a with publish := (d.alignCh, t.dNs) :: a.publish })).alignChannel d.alignCh t.dNs (some u)
    else s
  | none => s

/-- A pin edge or a command triggers a unit (R273). -/
def State.giveOwn (s : State) (u : Nat) (t : TrigPend) : State :=
  let x := s.unit u
  if x.open_ then
    match x.pre.dropWhile (fun y => !reached t y) with
    | y :: after => s.takeTrig u t (x.pre.takeWhile (fun y => !reached t y)) y after
    | [] => s.giveTrig u t
  else s.giveTrig u t

/-- The unit stops because its queue is full (R283). -/
def State.acqOverflow (s : State) (u : Nat) : State :=
  let x := s.unit u
  let s := match x.preset with
    | some p =>
      if x.open_ then
        let pre := x.pre.drop (x.pre.length - p.pre)
        s.setUnit u { x with cur := some { preset := p, presetIdx := x.presetIdx, pre := pre, shortPre := decide (pre.length < p.pre)
                                           preStart := if p.pre = 0 then 0 else (x.entered - pre.length) % p.pre } }
      else s
    | none => s
  let refs := x.trigs.filterMap (·.ref)
  let s := s.closeRecord u .stopped (fun r => { r with ovf := true })
  let s := forL refs (fun r s => s.complete r .busy) s
  let s := s.setUnit u { s.unit u with trigs := [] }
  (s.wr Reg.ACQ_OVF_OVF (setBits (s.rd Reg.ACQ_OVF_OVF) u u 1)).count 0x399

/-- The hold-off is met at a sample after POST (R276). -/
def holdMet (p : PresetDef) (x : AcqUnit) (run : Nat) : Bool :=
  match p.holdMode with
  | 0 => true
  | 1 => decide (x.trigRun + 4000 * p.holdoff ≤ run)
  | _ => decide (p.holdoff ≤ x.events)

/-- Alignment requests whose trigger sample lies before the first sample that a unit holds are answered ABSENT (R281). -/
def State.alignStale (s : State) (u : Nat) (p : PresetDef) (x : Sample) : State :=
  let e := s.unit u
  if e.entered ≠ 0 then s
  else
    let old (t : TrigPend) : Bool := decide (t.kind = .align) && decide (t.dNs + s.interval p ≤ x.dNs)
    let s := s.setUnit u { e with trigs := e.trigs.filter (fun t => !old t) }
    let l := e.trigs.filter old
    (forL (l.filterMap (·.ref)) (fun r s => s.complete r .absent) s).count 0x39C l.length

/-- A sample enters the history of a unit in FILL or ARMED, or is its trigger sample. -/
def State.sampleOpen (s : State) (u : Nat) (p : PresetDef) (d : UnitDef) (x : Sample) (fired : Bool) : State :=
  let s := s.alignStale u p x
  let e := s.unit u
  let det : List TrigPend := if fired then [{ kind := .detector, run := x.run, n := x.n, dNs := x.dNs }] else []
  match firstKind (det ++ e.trigs.filter (fun t => reached t x)) with
  | some t => s.takeTrig u t e.pre x []
  | none =>
    let cap := p.pre + (if d.align || decide (d.group ≠ 0xFF) then 65536 else 0)
    let pre := e.pre ++ [x]
    let pre := pre.drop (pre.length - cap)
    s.putUnit u { e with pre := pre, entered := e.entered + 1, st := if p.pre ≤ e.entered + 1 then .armed else e.st }

/-- A sample in HOLDOFF or WAIT_BUF; the one that re-arms the unit and finds its queue full is lost (R274, R276, R280, R283). -/
def State.sampleWait (s : State) (u : Nat) (full : Bool) (p : PresetDef) (d : UnitDef) (x : Sample) : State :=
  let e := s.unit u
  if e.st = .holdoff ∧ !holdMet p e x.run then s
  else if freeBufs d.bufs e = 0 then s.putUnit u { e with st := .waitBuf }
  else if d.group ≠ 0xFF then s.setUnit u { e with ready := true }
  else if full then (s.enterFill u x.run).acqOverflow u
  else (s.enterFill u x.run).sampleOpen u p d x false

/-- One sample of a unit's source; `full` says that the unit's queue is full. A sample of before the last re-arm runs the detector alone (R267, R268, R272, R274, R283). -/
def State.acqSample (s : State) (u : Nat) (full : Bool) (x : Sample) : State :=
  let e := s.unit u
  match e.preset, s.unitDef u with
  | some p, some d =>
    if e.st = .idle ∨ e.st = .stopped ∨ x.run < e.detRun then s
    else
      let keep := decide (p.srcKind = 2) || decide (e.count % p.dec = 0)
      let s := s.setUnit u { e with count := e.count + 1 }
      if !keep then s
      else if full && decide (e.armedRun ≤ x.run) && (e.open_ || decide (e.st = .post)) then s.acqOverflow u
      else
        let early := decide (x.run < e.armedRun)
        let s := if p.srcKind = 0 ∧ bitOf x.word.toNat 30 then s.count 0x39B else s
        let pts := match s.img.run with | some i => i.points | none => []
        let r := if evaluated p x then detStep (floatSrc pts p) p (detValue p x) e.det else (e.det, false)
        let e := s.unit u
        let s := s.setUnit u { e with det := r.1, events := e.events + b2n (r.2 && !e.open_) }
        let s := if r.2 && (early || !e.open_) then s.ignoreTrig u else s
        if early then s
        else match e.st with
        | .fill | .armed => s.sampleOpen u p d x r.2
        | .post =>
          let e := s.unit u
          let s := match e.cur with
            | some c => s.setUnit u { e with cur := some { c with post := c.post ++ [x] } }
            | none => s
          s.postDone u
        | _ => s.sampleWait u full p d x
  | _, _ => s

/-- The units whose preset in use reads a source. -/
def State.unitsOn (s : State) (kind src : Nat) : List Nat :=
  (List.range 24).filter (fun u => match (s.unit u).preset with
    | some p => decide (p.srcKind = kind) && decide (p.src = src)
    | none => false)

/-- Point samples of cut n, at the instant of its own mark, which is the one before this (R242, R267). -/
def State.acqPoints (s : State) (n : Nat) (full : List Nat) : State :=
  forL (List.range 24) (fun u s => match (s.unit u).preset with
    | some p =>
      if p.srcKind = 2 ∧ n % p.dec = 0 then
        let e := s.cutAt (idLocal p.src)
        s.acqSample u (decide (u ∈ full)) { word := e.value, quality := qualCode e.quality, run := s.acq.markAt, dNs := n * 125000, n := n }
      else s
    | none => s) s

/-- An edge on a time pin: a trigger of the units that watch it, and an event of their hold-off (R273, R276). -/
def State.acqPin (s : State) (pin : Nat) (rising : Bool) (sub : Nat) : State :=
  forL (List.range 24) (fun u s => match (s.unit u).preset with
    | some p =>
      let e := s.unit u
      if p.pin = pin ∧ bitOf p.pinEdge (if rising then 0 else 1) ∧ e.st ≠ .idle ∧ e.st ≠ .stopped then
        let s := if e.open_ then s else s.setUnit u { e with events := e.events + 1 }
        s.giveOwn u { kind := .pin, run := s.run4 + sub, n := s.time.n, sub := sub, stamp32 := stamp32 s.time.d, dNs := clockNs s.time.d }
      else s
    | none => s) s

/-! Arming and groups at the base mark (R274, R278, R280). -/

/-- The members of a unit's group with the unit itself, or the unit alone. -/
def State.armSet (s : State) (u : Nat) : List Nat := (List.range 24).filter (fun m => decide (m = u) || decide (m ∈ s.mates u))

/-- Arms a unit afresh (R272, R274). -/
def State.armUnit (s : State) (u : Nat) : State :=
  (s.setUnit u { s.unit u with count := 0, det := {}, detRun := s.grid4 }).enterFill u s.grid4

/-- ACQ_ARM at its mark (R274, R278). -/
def State.armNow (s : State) (u : Nat) (ref : CmdRef) : State :=
  let set := s.armSet u
  let idle := set.all (fun m => decide ((s.unit m).st = .idle) || decide ((s.unit m).st = .stopped))
  let room := set.all (fun m => match s.unitDef m with | some d => decide (0 < freeBufs d.bufs (s.unit m)) | none => false)
  if !idle || !room then s.complete ref .busy
  else (forL set (fun m s => s.armUnit m) s).complete ref .ok 0 s.time.n

/-- A group re-arms when every member that took part is ready, also one whose trigger sample was still to come (R280). -/
def State.rearmGroup (s : State) (g : Nat) : State :=
  match s.acqSec with
  | none => s
  | some x =>
    let l := (x.units.filter (fun d => decide (d.group = g))).map (·.unit)
    let took := l.filter (fun m =>
      let y := s.unit m
      decide (y.st ≠ .stopped) && (y.took || (y.open_ && y.trigs.any (fun t => decide (t.kind = .group)))))
    if !took.isEmpty && took.all (fun m => (s.unit m).ready) then
      forL (l.filter (fun m => decide ((s.unit m).st ≠ .stopped))) (fun m s =>
        match s.unitDef m with
        | some d => if (s.unit m).open_ ∨ freeBufs d.bufs (s.unit m) = 0 then s else s.enterFill m s.grid4
        | none => s) s
    else s

/-- The acquisition engine at a base mark, before the point samples of the cut sealed there. -/
def State.acqMark (s : State) : State :=
  let arms := s.acq.arms
  let starts := s.acq.starts
  let s := s.onAcq (fun a => { a with arms := [], starts := [] })
  let s := forL (List.range 8) (fun g s => s.rearmGroup g) s
  let s := forL arms (fun e s => s.armNow e.1 e.2) s
  forL starts (fun u s => if (s.unit u).st = .idle then s.armUnit u else s) s

/-- The instant of a base mark is kept for the samples of the cut that starts there (R267). -/
def State.acqTick (s : State) : State := s.onAcq (fun a => { a with markAt := s.grid4 })

/-! Restart and splice (R287). -/

/-- The registers loaded from the acquisition section (R288). -/
def State.acqLoad (s : State) (x : AcqSec) : State :=
  let s := forL x.units (fun d s =>
    let u := d.unit
    let grp := decide (d.group ≠ 0xFF)
    ((((s.wrb Reg.ACQ_STAT_ALIGN d.align [u]).wrb Reg.ACQ_STAT_MASTER d.master [u]).wrb Reg.ACQ_STAT_GROUPED grp [u]).wr
      Reg.ACQ_STAT_GROUP (if grp then d.group else 0) [u]).wr Reg.ACQ_BUF_BUFS d.bufs [u]) s
  forL (List.range 8) (fun g s =>
    let m := x.units.filter (fun d => decide (d.group = g))
    let master := match m.find? (·.master) with | some d => d.unit | none => 0
    (s.wr Reg.ACQ_GROUP_MASTER master [g]).wr Reg.ACQ_GROUP_MEMBERS ((m.map (fun d => 2 ^ d.unit)).foldl (· + ·) 0) [g]) s

/-- A unit record of an image without the section (R288). -/
def unitNone (u : Nat) : UnitDef :=
  { unit := u, start := 0, preset := 0, bufs := 0, group := 0xFF, master := false, align := false, publish := false, subscribe := false
    areaBase := 0, bufBytes := 0, alignCh := 0 }

/-- A unit with its default preset and nothing recorded. -/
def freshUnit (x : AcqSec) (d : UnitDef) : AcqUnit := { preset := x.presets[d.preset]?, presetIdx := d.preset }

/-- Acquisition starts with an image: the units are reset, areas empty, default presets, START at the next mark (R86, R287). -/
def State.acqStart (s : State) (i : Img) : State :=
  let s := forL s.acq.reads (fun e s => s.complete e.2.2 .aborted) s
  let s := forL s.acq.arms (fun e s => s.complete e.2 .aborted) s
  let s := forL (s.acq.units.map (fun e => e.2.trigs.filterMap (·.ref))).flatten (fun r s => s.complete r .aborted) s
  let s := s.tearOf (fun o => match o with | .acq _ => true | _ => false)
  let s := forN 24 (fun u s => s.wr Reg.ACQ_STAT_SHORT 0 [u]) s
  match i.acq with
  | none => forN 24 (fun u s => s.acqShow u) ((s.onAcq (fun a => { markAt := a.markAt })).acqLoad { units := (List.range 24).map unitNone, presets := [] })
  | some x =>
    let s := s.onAcq (fun a => { units := forL x.units (fun d t => t.put d.unit (freshUnit x d)) [], publish := a.publish, markAt := a.markAt
                                 starts := (x.units.filter (fun d => decide (d.start = 1))).map (·.unit) })
    forN 24 (fun u s => s.acqShow u) (s.acqLoad x)

/-- The acquisition engine at a splice mark: units whose record or preset changed are reset, and armed by START at the next mark (R86, R270, R287). -/
def State.acqSplice (s : State) (old new : Img) : State :=
  match old.acq, new.acq with
  | some a, some b =>
    let s := s.acqLoad b
    forL b.units (fun d s =>
      let u := d.unit
      let e := s.unit u
      let was := a.units[u]?
      let same := decide (was = some d) && (decide (a.presets[e.presetIdx]? = b.presets[e.presetIdx]?))
      if same then s.acqShow u
      else
        let s := forL (e.trigs.filterMap (·.ref)) (fun r s => s.complete r .aborted) s
        let s := if e.st = .post then s.closeUnder (some old) u .stopped (fun r => { r with aborted := true }) else s
        let s := s.tearOf (fun o => decide (o = .acq u))
        let moved := match was with
          | some w => decide (w.areaBase ≠ d.areaBase) || decide (w.bufs ≠ d.bufs) || decide (w.bufBytes ≠ d.bufBytes)
          | none => true
        let e := s.unit u
        let f := freshUnit b d
        let f : AcqUnit := { f with recSeq := e.recSeq, records := if moved then [] else e.records, ignored := e.ignored }
        let s := s.putUnit u f
        if d.start = 1 then s.onAcq (fun a => { a with starts := a.starts ++ [u] }) else s) s
  | _, some _ => s.acqStart new
  | _, none => s.acqStart new

/-! Commands (R290). -/

/-- An ACQ_REF whose reserved bits are not 0 or whose unit does not exist. -/
def acqRefBad (r : Nat) : Bool := decide (bitsOf r 31 25 ≠ 0) || decide (bitsOf r 16 5 ≠ 0) || decide (23 < r % 32)

/-- The checks of every acquisition command. -/
def State.acqPre (s : State) (r : Nat) : List Check :=
  [(acqRefBad r, .invalid, 0), ((s.unitDef (r % 32)).isNone, .absent, 0)]

/-- A unit other than its group's master (R278). -/
def State.notMaster (s : State) (u : Nat) : Bool :=
  match s.unitDef u with | some d => decide (d.group ≠ 0xFF) && !d.master | none => false

/-- A member's REARM differs from the master's (R278). -/
def State.rearmDiffers (s : State) (u : Nat) : Bool :=
  let re (m : Nat) : Bool := match (s.unit m).preset with | some p => p.rearm | none => false
  (s.mates u).any (fun m => re m != re u)

/-- ACQ_ARM: latched for the next base mark (R274, R278). -/
def execAcqArm (ref : CmdRef) (args : List Nat) (s : State) : Out :=
  let r := argN args 0
  let u := r % 32
  .next (s.here (idDev r) (!acqRefBad r) ref 0x0701 args (fun s =>
    s.command ref 0x0701 (s.acqPre r ++ [(!s.notMaster u && s.rearmDiffers u, .invalid, 0)]) [(s.notMaster u, .denied, 6)]
      (fun ref s => s.onAcq (fun a => { a with arms := a.arms ++ [(u, ref)] }))))

/-- A unit stops (R274). -/
def State.stopUnit (s : State) (u : Nat) : State :=
  let e := s.unit u
  match e.st with
  | .idle | .stopped => s
  | .post => s.closeRecord u .stopped (fun r => { r with aborted := true })
  | _ =>
    let s := forL (e.trigs.filterMap (·.ref)) (fun r s => s.complete r .busy) s
    s.putUnit u { e with st := .stopped, cur := none, pre := [], trigs := [], ready := false }

/-- ACQ_STOP (R274, R278). -/
def execAcqStop (ref : CmdRef) (args : List Nat) (s : State) : Out :=
  let r := argN args 0
  let u := r % 32
  .next (s.here (idDev r) (!acqRefBad r) ref 0x0702 args (fun s =>
    s.command ref 0x0702 (s.acqPre r) [(s.notMaster u, .denied, 6)]
      (fun ref s => (forL (s.armSet u) (fun m s => s.stopUnit m) s).complete ref .ok)))

/-- ACQ_FIRE (R273). -/
def execAcqFire (ref : CmdRef) (args : List Nat) (s : State) : Out :=
  let r := argN args 0
  .next (s.here (idDev r) (!acqRefBad r) ref 0x0703 args (fun s =>
    s.command ref 0x0703 (s.acqPre r) []
      (fun ref s => (s.giveOwn (r % 32) { kind := .command, run := s.run4, n := s.time.n, dNs := clockNs s.time.d }).complete ref .ok)))

/-- A preset fits a unit (R277). -/
def fits (d : Option UnitDef) (p : PresetDef) : Bool :=
  match d with
  | some d => decide (recordSize p ≤ d.bufBytes) && (!d.align || decide (p.pre ≤ 983040))
  | none => false

/-- Only IDLE and STOPPED admit a new preset (R277). -/
def State.unitBusy (s : State) (u : Nat) : Bool := decide ((s.unit u).st ≠ .idle) && decide ((s.unit u).st ≠ .stopped)

/-- ACQ_SELECT (R277). -/
def execAcqSelect (ref : CmdRef) (args : List Nat) (s : State) : Out :=
  let r := argN args 0
  let u := r % 32
  let k := argN args 1
  .next (s.here (idDev r) (!acqRefBad r) ref 0x0704 args (fun s =>
    let p := match s.acqSec with | some x => x.presets[k]? | none => none
    let bad := match p with | some p => !fits (s.unitDef u) p | none => false
    s.command ref 0x0704 ([(acqRefBad r, .invalid, 0), ((s.unitDef u).isNone, .absent, 0), (p.isNone, .absent, 1), (bad, .invalid, 1)]) [(s.unitBusy u, .busy, 0)]
      (fun ref s => (s.putUnit u { s.unit u with preset := p, presetIdx := k }).complete ref .ok)))

/-- ACQ_CONFIG: a preset record checked as R271 (R277). -/
def execAcqConfig (ref : CmdRef) (args : List Nat) (s : State) : Out :=
  let r := argN args 0
  let u := r % 32
  let b := slice (argBytes args 1) 0 64
  let p := presetOf b
  .next (s.here (idDev r) (!acqRefBad r) ref 0x0705 args (fun s =>
    let pts := match s.img.run with | some i => i.points | none => []
    let conv := match s.img.run with | some i => i.conv | none => none
    let bad := !presetRanges b p (floatSrc pts p) || !srcOk pts conv s.ownDev p || !fits (s.unitDef u) p
    s.command ref 0x0705 (s.acqPre r ++ [(bad, .invalid, 1)]) [(s.unitBusy u, .busy, 0)]
      (fun ref s => (s.putUnit u { s.unit u with preset := some p, presetIdx := p.preset }).complete ref .ok)))

/-- The instant in D that a stamp64 names, near D (R101). -/
def State.stampD (s : State) (x : Nat) : Nat := (s.time.d.sec / 2 ^ 34) * 2 ^ 34 * 1000000000 + stampNs x

/-- ACQ_ALIGN (R281). -/
def execAcqAlign (ref : CmdRef) (args : List Nat) (s : State) : Out :=
  let r := argN args 0
  let u := r % 32
  let t := s.stampD (arg64 args 1)
  .next (s.here (idDev r) (!acqRefBad r) ref 0x0706 args (fun s =>
    let align := match s.unitDef u with | some d => d.align | none => false
    let late := decide (clockNs s.time.d + 2000000000 < t)
    s.commandLong ref 0x0706 (s.acqPre r ++ [(!align, .invalid, 0), (late || decide (1000000000 ≤ arg64 args 1 % 2 ^ 30), .invalid, 1)]) []
      (fun ref s => s.alignUnit u t (some ref))))

/-- A received ALIGN frame: channel and instant (R282). -/
def State.alignRx (s : State) (ch x : Nat) : State := s.alignChannel ch (s.stampD x) none

/-- The record a REC_SEQ names, 0xFFFF_FFFF for the oldest READY one (R290). -/
def AcqUnit.find (x : AcqUnit) (q : Nat) : Option AcqRecord :=
  if q = 0xFFFFFFFF then (match x.records.find? (·.ready) with | some r => some r | none => x.records.head?) else x.records.find? (fun r => r.seq = q)

/-- The state with a unit's record changed. -/
def State.onRecord (s : State) (u q : Nat) (f : AcqRecord → AcqRecord) : State :=
  let x := s.unit u
  s.setUnit u { x with records := x.records.map (fun r => if r.seq = q then f r else r) }

/-- A read begins (R258, R285, R290). -/
def State.acqRead (s : State) (ref : CmdRef) (u q : Nat) : State :=
  match (s.unit u).find q with
  | none => s.complete ref .absent
  | some r =>
    if !r.ready ∨ r.reading ∨ 2 ≤ s.acq.reads.length then s.complete ref .busy
    else if ref.bufLen < recordSize r.preset then s.complete ref .invalid
    else (s.onRecord u r.seq (fun r => { r with reading := true })).onAcq (fun a => { a with reads := a.reads ++ [(u, r.seq, ref)] })

/-- ACQ_READ (R290). -/
def execAcqRead (ref : CmdRef) (args : List Nat) (s : State) : Out :=
  let r := argN args 0
  .next (s.here (idDev r) (!acqRefBad r) ref 0x0707 args (fun s =>
    s.commandLong ref 0x0707 (s.acqPre r) [] (fun ref s => s.acqRead ref (r % 32) (argN args 1))))

/-- The oldest read in flight of a unit ends (R290). -/
def execAcqReadComplete (unit : Fin 24) (ok : Bool) (s : State) : Out :=
  match s.acq.reads.find? (fun e => e.1 = unit.val) with
  | none => .next s
  | some e =>
    let data := match (s.unit e.1).find e.2.1 with | some r => recordBytes r e.1 | none => []
    let s := (s.onRecord e.1 e.2.1 (fun r => { r with reading := false })).onAcq (fun a =>
      { a with reads := a.reads.filter (fun x => !(x.1 == e.1 && x.2.1 == e.2.1)) })
    .next (if ok then s.complete e.2.2 .ok 0 (e.2.1 + 2 ^ 32 * data.length) data else s.complete e.2.2 .aborted)

/-- A closed record becomes READY (R285). -/
def execRecordReady (unit : Fin 24) (s : State) : Out :=
  match (s.unit unit.val).records.find? (fun r => !r.ready) with
  | none => .next s
  | some r => .next ((s.onRecord unit.val r.seq (fun r => { r with ready := true })).cause 5)

/-- The age of a REC_SEQ: 0 the last closed record; none for one not yet closed. -/
def recAge (x : AcqUnit) (q : Nat) : Option Nat :=
  let a := (x.recSeq + 2 ^ 33 - 1 - q) % 2 ^ 32
  if a < x.recSeq ∧ a < 2 ^ 31 then some a else none

/-- ACQ_RELEASE: the record and every older one (R290). -/
def execAcqRelease (ref : CmdRef) (args : List Nat) (s : State) : Out :=
  let r := argN args 0
  let u := r % 32
  .next (s.here (idDev r) (!acqRefBad r) ref 0x0708 args (fun s =>
    let x := s.unit u
    let age := recAge x (argN args 1)
    let old (y : AcqRecord) : Bool := match age, recAge x y.seq with | some a, some b => decide (a ≤ b) | _, _ => false
    s.command ref 0x0708 (s.acqPre r ++ [(age.isNone, .invalid, 1)]) [((x.records.filter old).any (·.reading), .busy, 0)]
      (fun ref s => (s.putUnit u { s.unit u with records := x.records.filter (fun y => !old y) }).complete ref .ok)))

/-- ACQ_LIST: REC_SEQ, FLAGS, READY and N_TRIG of records from a REC_SEQ (R290, log entry 2). -/
def execAcqList (ref : CmdRef) (args : List Nat) (s : State) : Out :=
  let r := argN args 0
  let u := r % 32
  .next (s.here (idDev r) (!acqRefBad r) ref 0x0709 args (fun s =>
    let l := (((s.unit u).records.filter (fun y => decide ((y.seq + 2 ^ 32 - argN args 1) % 2 ^ 32 < 2 ^ 31))).take (min 64 (argN args 2))).map (fun y =>
      leBytes 4 y.seq ++ leBytes 4 y.flags ++ leBytes 4 (b2n y.ready) ++ leBytes 4 0 ++
        leBytes 8 (match y.cause with | some t => t.n | none => 0))
    s.command ref 0x0709 (s.acqPre r ++ [(decide (64 < argN args 2), .invalid, 2), noRoom ref (24 * l.length)]) []
      (fun ref s => s.complete ref .ok 0 0 l.flatten)))

end Sys2Proof.Machine
end

