-- ==== Sys2Proof/Machine/Loops.lean ====
section
/-! DEFINITION. Loop cells: records and tables, gain and position lookup, the control law, preload, coefficient swap, disable and enable, mode hand-over, tracking, traces, charges and commands (R132 to R160, R175 to R178). -/

namespace Sys2Proof.Machine

/-! Flags of a loop record (R135). -/
/-- DIRECT. -/
def LoopDef.direct (d : LoopDef) : Bool := bitOf d.flags0 0
/-- D_ON_E. -/
def LoopDef.dOnE (d : LoopDef) : Bool := bitOf d.flags0 1
/-- OOR_USE. -/
def LoopDef.oorUse (d : LoopDef) : Bool := bitOf d.flags0 2
/-- D_EN. -/
def LoopDef.dEn (d : LoopDef) : Bool := bitOf d.flags0 3
/-- I_EN. -/
def LoopDef.iEn (d : LoopDef) : Bool := bitOf d.flags0 4
/-- RATE_EN. -/
def LoopDef.rateEn (d : LoopDef) : Bool := bitOf d.flags0 5
/-- FF_EN. -/
def LoopDef.ffEn (d : LoopDef) : Bool := bitOf d.flags1 0
/-- FRIC_EN. -/
def LoopDef.fricEn (d : LoopDef) : Bool := bitOf d.flags1 1
/-- COG_EN. -/
def LoopDef.cogEn (d : LoopDef) : Bool := bitOf d.flags1 2
/-- TRACE_EN. -/
def LoopDef.traceEn (d : LoopDef) : Bool := bitOf d.flags1 3
/-- TRIG_EN. -/
def LoopDef.trigEn (d : LoopDef) : Bool := bitOf d.flags1 4

/-- The coefficients of a record (R146, R150). -/
def LoopDef.coefs (d : LoopDef) : Coefs :=
  { gainTab := d.gainTab, ti := d.ti, td := d.td, tf := d.tf, kff := d.kff, outLo := d.outLo, outHi := d.outHi,
    roc := d.roc, deadband := d.deadband }

/-- A mode code (R135). -/
def loopModeOf : Nat → Option LoopMode
  | 0 => some .man
  | 1 => some .auto
  | 2 => some .cas
  | _ => none

/-- The code of a mode. -/
def loopModeCode : LoopMode → Nat
  | .man => 0
  | .auto => 1
  | .cas => 2

/-- The nominal sample time, 125 µs × DIVISOR (R133). -/
def LoopDef.ts (d : LoopDef) : F32 := F32.ofRat (125 * d.divisor) 1000000

/-! Tables (R137 to R140). -/

/-- The table of a cell by its identifier. -/
def State.table (s : State) (h tab : Nat) : Option TableDef :=
  match s.img.run with
  | some i => i.tables.look (h * 65536 + tab)
  | none => none

/-- The gain at an error inside the table, between two breakpoints (R139). -/
def gainBetween (e : F32) : List (F32 × F32) → F32
  | [] => 0
  | [(_, g)] => g
  | (e0, g0) :: (e1, g1) :: t =>
    if F32.le e1 e then gainBetween e ((e1, g1) :: t)
    else F32.add g0 (F32.div (F32.mul (F32.sub g1 g0) (F32.sub e e0)) (F32.sub e1 e0))

/-- The gain lookup: end values hold beyond the ends (R139). -/
def gainLookup (t : TableDef) (e : F32) : F32 :=
  match t.pairs, t.pairs.getLast? with
  | (e0, g0) :: _, some (en, gn) =>
    if F32.le e e0 then g0 else if F32.le en e then gn else gainBetween e t.pairs
  | _, _ => 0

/-- The floor of a value, as a value. -/
def F32.floorF (x : F32) : F32 := if F32.fin x then F32.ofInt (fmt32.floor x.toNat) else x

/-- The fractional entry number of a position, and the entries to either side (R140). -/
def posIndex (t : TableDef) (x : F32) : F32 × Nat × Nat :=
  let r := F32.div (F32.sub x t.x0) t.span
  if t.wrap then
    let f := F32.mul (F32.sub r (F32.floorF r)) (F32.ofInt 1024)
    let f := if F32.le (F32.ofInt 1024) f then F32.sub f (F32.ofInt 1024) else f
    let k := (fmt32.floor f.toNat).toNat
    (f, k, (k + 1) % 1024)
  else
    let f := F32.clamp (F32.mul r (F32.ofInt 1023)) 0 (F32.ofInt 1023)
    let k := (fmt32.floor f.toNat).toNat
    (f, k, min (k + 1) 1023)

/-- The position lookup (R140). -/
def posLookup (t : TableDef) (x : F32) : F32 :=
  let i := posIndex t x
  let a := t.entries.getD i.2.1 0
  let b := t.entries.getD i.2.2 0
  F32.add a (F32.mul (F32.sub b a) (F32.sub i.1 (F32.ofInt i.2.1)))

/-- Friction from the table value and the velocity reference (R140). -/
def friction (t v v0 : F32) : F32 :=
  if F32.lt 0 v0 then F32.mul t (F32.clamp (F32.div v v0) (F32.neg F32.one) F32.one)
  else if F32.eq v 0 then 0 else F32.mul t (F32.sgn v)

/-- The friction and cogging terms of a feature pair, at a position and velocity (R140). -/
def State.fricCog (s : State) (h fricTab cogTab : Nat) (fricEn cogEn : Bool) (v0 x v : F32) : F32 × F32 :=
  let fr := if fricEn then (match s.table h fricTab with | some t => friction (posLookup t x) v v0 | none => 0) else 0
  let cg := if cogEn then (match s.table h cogTab with | some t => posLookup t x | none => 0) else 0
  (fr, cg)

/-- The gain of a table of the cell at an error. -/
def State.gain (s : State) (h tab : Nat) (e : F32) : F32 :=
  match s.table h tab with
  | some t => gainLookup t e
  | none => 0

/-! The control law (R143, R144). -/

/-- The inputs of one execution. -/
structure LoopIn where
  pv : F32
  ffv : F32
  x : F32
  v : F32
  /-- Every enabled input is usable (R141). -/
  ok : Bool
deriving DecidableEq, Repr

/-- The terms that the law and the preload share (R143). -/
structure Terms where
  e : F32
  g : F32
  p : F32
  fric : F32
  cog : F32
  ff : F32
deriving DecidableEq, Repr

/-- An error inside the deadband counts as 0 (R143). -/
def deadbanded (e db : F32) : F32 := if F32.le (F32.abs e) db then 0 else e

/-- Error, gain, proportional and feed-forward terms (R143). -/
def State.loopTerms (s : State) (h : Nat) (d : LoopDef) (st : LoopState) (x : LoopIn) : Terms :=
  let diff := F32.sub st.spHold x.pv
  let e := deadbanded (if d.direct then F32.neg diff else diff) st.coefs.deadband
  let g := s.gain h st.coefs.gainTab e
  let fc := s.fricCog h d.fricTab d.cogTab d.fricEn d.cogEn d.v0 x.x x.v
  let kf := if d.ffEn then F32.mul st.coefs.kff x.ffv else 0
  { e := e, g := g, p := F32.mul g e, fric := fc.1, cog := fc.2, ff := F32.add (F32.add kf fc.1) fc.2 }

/-- The trace nodes that a set of terms computes (R154). -/
def termNodes (st : LoopState) (x : LoopIn) (t : Terms) : List Word :=
  let n := st.nodes
  [x.pv, st.spHold, t.e, t.g, t.p, n.getD 5 0, n.getD 6 0, x.ffv, t.fric, t.cog, t.ff, n.getD 11 0, n.getD 12 0,
   n.getD 13 0, n.getD 14 0, x.x]

/-- The integrator's advance: only until the output reaches its limit (R143). -/
def advance (i di held lo hi : F32) : F32 :=
  let n := if F32.lt 0 di then F32.max i (F32.min (F32.add i di) (F32.sub hi held)) else i
  let n := if F32.lt di 0 then F32.min i (F32.max (F32.add i di) (F32.sub lo held)) else n
  F32.clamp n lo hi

/-- What the output stage gives: u_lim, u, and whether the rate limit withheld the integrator (R143). -/
structure StageOut where
  uLim : F32
  u : F32
  undo : Bool
deriving DecidableEq, Repr

/-- Limits, rate limit and final clamp (R143, R149). -/
def outputStage (rateEn : Bool) (ts uPrev lo hi roc uRaw di : F32) : StageOut :=
  let uLim := F32.clamp uRaw lo hi
  let up := F32.add uPrev (F32.mul roc ts)
  let dn := F32.sub uPrev (F32.mul roc ts)
  let limited := rateEn && F32.lt 0 roc
  let u := if limited && F32.lt up uLim then up else uLim
  let u := if limited && F32.lt uLim dn then dn else u
  { uLim := uLim, u := F32.clamp u lo hi
    undo := limited && !F32.eq u uLim && F32.lt 0 (F32.mul (F32.sub uLim u) di) }

/-- The output stage on a value in place of the law: BAD_IN target, MAN, held output (R141, R143, R176). -/
def stageOn (d : LoopDef) (st : LoopState) (target : F32) : LoopState :=
  let c := st.coefs
  let r := outputStage d.rateEn d.ts st.uPrev c.outLo c.outHi c.roc target 0
  { st with uPrev := r.u, satHi := F32.lt c.outHi target, satLo := F32.lt target c.outLo
            rateLim := !F32.eq r.u r.uLim, iHold := false
            nodes := ((st.nodes.set 11 target).set 12 r.uLim).set 13 r.u }

/-- One execution of the law with usable inputs (R143). -/
def State.law (s : State) (h : Nat) (d : LoopDef) (st : LoopState) (x : LoopIn) : LoopState :=
  let c := st.coefs
  let t := s.loopTerms h d st x
  let de := if d.dOnE then F32.sub t.e st.pvPrev
    else (let dp := F32.sub x.pv st.pvPrev
          if d.direct then dp else F32.neg dp)
  let dRaw := F32.div (F32.mul (F32.mul t.g c.td) de) d.ts
  let alpha := F32.div d.ts (F32.add d.ts c.tf)
  let dFilt := if d.dEn then F32.add st.dFilt (F32.mul alpha (F32.sub dRaw st.dFilt)) else st.dFilt
  let dd := if d.dEn then dFilt else 0
  let di := if d.iEn && F32.lt 0 c.ti then F32.div (F32.mul t.p d.ts) c.ti else 0
  let held := F32.add (F32.add t.p dd) t.ff
  let iNew := if d.iEn then advance st.i di held c.outLo c.outHi else st.i
  let uRaw := F32.add (F32.add (F32.add t.p iNew) dd) t.ff
  let r := outputStage d.rateEn d.ts st.uPrev c.outLo c.outHi c.roc uRaw di
  let iFin := if r.undo then st.i else iNew
  { st with i := iFin, uPrev := r.u, dFilt := dFilt, pvPrev := if d.dOnE then t.e else x.pv
            satHi := F32.lt c.outHi uRaw, satLo := F32.lt uRaw c.outLo, rateLim := !F32.eq r.u r.uLim
            iHold := !F32.eq di 0 && !F32.eq iFin (F32.add st.i di)
            nodes := (((((termNodes st x t).set 5 iFin).set 6 dd).set 11 uRaw).set 12 r.uLim).set 13 r.u }

/-- The resume preload: the first output equals u_ref (R144). -/
def State.preload (s : State) (h : Nat) (d : LoopDef) (st : LoopState) (x : LoopIn) (uRef : F32) : LoopState :=
  let c := st.coefs
  let t := s.loopTerms h d st x
  let i := F32.clamp (F32.sub uRef (F32.add t.p t.ff)) c.outLo c.outHi
  let u := F32.clamp uRef c.outLo c.outHi
  { st with i := i, uPrev := u, dFilt := 0, pvPrev := if d.dOnE then t.e else x.pv
            resume := false, resumed := true, satHi := F32.lt c.outHi uRef, satLo := F32.lt uRef c.outLo
            rateLim := false, iHold := false
            nodes := (((termNodes st x t).set 5 i).set 6 0).set 13 u }

/-! Coefficient swap (R146 to R149). -/

/-- The coefficients with the masked fields of a set replaced (R146). -/
def coefsUnder (mask : Nat) (c v : Coefs) : Coefs :=
  { gainTab := if bitOf mask 0 then v.gainTab else c.gainTab
    ti := if bitOf mask 1 then v.ti else c.ti
    td := if bitOf mask 2 then v.td else c.td
    tf := if bitOf mask 3 then v.tf else c.tf
    kff := if bitOf mask 4 then v.kff else c.kff
    outLo := if bitOf mask 5 then v.outLo else c.outLo
    outHi := if bitOf mask 6 then v.outHi else c.outHi
    roc := if bitOf mask 7 then v.roc else c.roc
    deadband := if bitOf mask 8 then v.deadband else c.deadband }

/-- A finite value that is not negative. -/
def finNonneg (x : F32) : Bool := F32.fin x && F32.le 0 x

/-- The index (TI = 1 … DEADBAND = 8) of the first coefficient outside the ranges of R135. -/
def coefsBad (c : Coefs) : Option Nat :=
  if !finNonneg c.ti then some 1
  else if !finNonneg c.td then some 2
  else if !finNonneg c.tf then some 3
  else if !F32.fin c.kff then some 4
  else if !F32.fin c.outLo then some 5
  else if !(F32.fin c.outHi && F32.le c.outLo c.outHi) then some 6
  else if !finNonneg c.roc then some 7
  else if !finNonneg c.deadband then some 8
  else none

/-- The overlay takes new values, and the integrator of an enabled loop is clamped to their limits (R148, R149). -/
def newCoefs (st : LoopState) (c : Coefs) : LoopState :=
  if st.disabled then { st with coefs := c }
  else
    let out := F32.lt st.i c.outLo || F32.lt c.outHi st.i
    { st with coefs := c, i := if out then F32.clamp st.i c.outLo c.outHi else st.i, iClamp := st.iClamp || out }

/-- A swap at its execution (R148). -/
def applySwap (st : LoopState) (w : Swap) : LoopState := newCoefs st (coefsUnder w.mask st.coefs w.coefs)

/-! Status and trace (R153 to R156, R159). -/

/-- The code of a trace state (R159). -/
def traceCode : TraceSt → Nat
  | .idle => 0
  | .armed => 1
  | .post => 2
  | .frozen => 3

/-- The status word, bits 15:0 of CEL_LOOP_STAT_k (R159). -/
def loopStat (st : LoopState) : Nat :=
  0x8000 + 0x4000 * b2n (!st.disabled) + 0x1000 * loopModeCode st.mode + 0x800 * b2n st.outForced + 0x400 * b2n st.badIn +
  0x200 * b2n st.badSp + 0x100 * b2n st.satHi + 0x80 * b2n st.satLo + 0x40 * b2n st.rateLim + 0x20 * b2n st.iHold +
  0x10 * b2n st.iClamp + 8 * b2n st.resumed + 4 * b2n (!st.swaps.isEmpty) + traceCode st.trace.st

/-- Trace write position: which of the loop's rows is written next (R145, R153; log entry 25). -/
def tracePos (d : LoopDef) (t : Trace) : Nat := if d.traceDepth = 0 then 0 else t.written % d.traceDepth

/-- The 64 bytes that a loop contributes to its cell's sealed state (R145). -/
def loopRecord (d : LoopDef) (st : LoopState) : List Byte :=
  let c := st.coefs
  let pend (b : Bool) : Bool := match st.able.getLast? with | some e => e.1 == b | none => false
  wordsBytes [st.i, st.uPrev, st.dFilt, st.pvPrev, st.spHold] ++ leBytes 2 c.gainTab ++ leBytes 2 (loopStat st) ++
  leBytes 1 (loopModeCode st.mode) ++
  leBytes 1 (b2n st.resume + 2 * b2n st.disabled + 4 * b2n (pend false) + 8 * b2n (pend true)) ++ leBytes 2 0 ++ leBytes 4 (tracePos d st.trace) ++
  wordsBytes [c.ti, c.td, c.tf, c.kff, c.outLo, c.outHi, c.roc, c.deadband]

/-- The node values that a mask selects, in ascending node order (R153). -/
def maskedNodes (mask : Nat) (nodes : List Word) : List Word :=
  ((List.range 16).filter (fun k => bitOf mask k)).map (fun k => nodes.getD k 0)

/-- A trace at one execution of its loop: the row, the trigger, the freeze (R155). -/
def traceStep (d : LoopDef) (n : Nat) (st : LoopState) (trig : Bool) : Trace :=
  let t := st.trace
  let word := loopStat st
  let rise := bitsOf (word &&& (0xFFFF - t.prevStatus % 65536) &&& d.trigMask) 15 0 ≠ 0
  let fire := (d.trigEn && trig && !t.prevTrig) || decide rise || t.cmdTrig
  let row := (n, maskedNodes d.traceMask st.nodes)
  let t : Trace := { t with prevTrig := trig, prevStatus := word, cmdTrig := false }
  match t.st with
  | .armed =>
    if fire then
      let r := t.rows.length
      let t : Trace := { t with rows := t.rows ++ [row], written := t.written + 1, preValid := r, trigRow := some r, trigN := n, after := 0 }
      if t.postN = 0 then { t with st := .frozen, endCause := 0 } else { t with st := .post }
    else
      let cap := d.traceDepth - 1 - t.postN
      let rows := t.rows ++ [row]
      { t with rows := rows.drop (rows.length - cap), written := t.written + 1 }
  | .post =>
    let t : Trace := { t with rows := t.rows ++ [row], written := t.written + 1, after := t.after + 1 }
    if t.after = t.postN then { t with st := .frozen, endCause := 0 } else t
  | _ => t

/-- An open trace freezes (R155). -/
def traceFreeze (cause : Nat) (t : Trace) : Trace :=
  if t.st = .armed ∨ t.st = .post then { t with st := .frozen, endCause := cause } else t

/-! One execution (R141, R142, R151, R152, R175 to R178). -/

/-- The definition of a loop of a home cell. -/
def State.loopDef (s : State) (h k : Nat) : Option LoopDef :=
  match s.img.run with
  | some i => i.loops.look (h * 256 + k)
  | none => none

/-- The loops defined in a home cell, in ascending number. -/
def State.loopsOf (s : State) (h : Nat) : List (Nat × LoopDef) :=
  match s.img.run with
  | some i => (i.loops.filter (fun e => decide (e.1 / 256 = h))).map (fun e => (e.1 % 256, e.2))
  | none => []

/-- A loop after a cold start (R141, R144, R150). -/
def coldLoop (points : Tab PointDef) (d : LoopDef) : LoopState :=
  let init (id : Nat) : Word := match points.look (idLocal id) with | some p => p.init | none => 0
  { coefs := d.coefs, mode := (loopModeOf d.initMode).getD .man, spHold := init d.sp, uPrev := init d.out
    resume := true, disabled := decide (d.start = 1) }

/-- The state of a loop of a home cell. -/
def State.loopSt (s : State) (h k : Nat) : LoopState :=
  match s.loops.look (h * 256 + k), s.loopDef h k with
  | some st, _ => st
  | none, some d => coldLoop (match s.img.run with | some i => i.points | none => []) d
  | none, none => { coefs := ⟨0, 0, 0, 0, 0, 0, 0, 0, 0⟩ }

/-- The state with a loop's state replaced. -/
def State.setLoop (s : State) (h k : Nat) (st : LoopState) : State := { s with loops := s.loops.put (h * 256 + k) st }

/-- A change of a loop that stands in the sealed half as well: a trace armed, a sticky bit cleared. -/
def State.onLoopBoth (s : State) (h k : Nat) (f : LoopState → LoopState) : State :=
  let s := s.setLoop h k (f (s.loopSt h k))
  match s.cut.loops.look (h * 256 + k) with
  | some st => { s with cut := { s.cut with loops := s.cut.loops.put (h * 256 + k) (f st) } }
  | none => s

/-- The loop's inputs at an execution (R141). -/
def State.loopIn (s : State) (h : Nat) (d : LoopDef) : LoopIn :=
  let pv := s.inpIf h d.pv true d.oorUse
  let ff := s.inpIf h d.ff d.ffEn d.oorUse
  let x := s.inpIf h d.pos (d.fricEn || d.cogEn) d.oorUse
  let v := s.inpIf h d.vref d.fricEn d.oorUse
  { pv := pv.1, ffv := ff.1, x := x.1, v := v.1, ok := pv.2 && ff.2 && x.2 && v.2 }

/-- The mode requested at an execution (R175). -/
def State.loopReq (s : State) (h : Nat) (d : LoopDef) (st : LoopState) : LoopMode :=
  if d.mode = NONE then st.modeReq.getD st.mode
  else
    let e := s.inp h d.mode
    if usable d.oorUse e then (loopModeOf e.value.toNat).getD st.mode else st.mode

/-- The cascade loops of a loop: those of the same cell whose CAS_PT is its output (R178). -/
def State.cascades (s : State) (h : Nat) (d : LoopDef) : List Nat :=
  ((s.loopsOf h).filter (fun e => decide (e.2.cas = d.out ∧ d.out ≠ NONE))).map (·.1)

/-- The setpoint a loop tracks: that of its lowest cascade loop, while none of them is enabled and in CAS (R178). -/
def State.tracked (s : State) (h : Nat) (d : LoopDef) : Option F32 :=
  match s.cascades h d with
  | [] => none
  | m :: t =>
    if (m :: t).any (fun k => !(s.loopSt h k).disabled && decide ((s.loopSt h k).mode = .cas)) then none
    else some (s.loopSt h m).spHold

/-- The latched disables, enables and swaps of an execution, refused in STOP (R147, R151, R152, R564). -/
def State.loopPending (s : State) (h : Nat) (d : LoopDef) (st : LoopState) (req : LoopMode) (man : F32) : LoopState × State :=
  let able := st.able.filter (fun e => !(e.2.isSome && s.keyStopped))
  let s := forL st.able (fun e s => match e.2 with
    | none => s
    | some r => if s.keyStopped then s.roleDone h r .denied 1 else s.roleDone h r .ok 0 s.time.n) s
  let s := forL st.swaps (fun w s =>
    if s.keyStopped then s.roleDone h w.ref .denied 1 else s.roleDone h w.ref .ok 0 s.time.n) s
  let swaps := if s.keyStopped then [] else st.swaps
  let relimit := st.relimit
  let want := (able.getLast?.map (·.1)).getD (!st.disabled)
  let st : LoopState :=
    if !want && !st.disabled then { st with disabled := true, trace := traceFreeze 1 st.trace }
    else if want && st.disabled then
      (let e : LoopState := { st with disabled := false, uPrev := d.disableVal, mode := req }
       if req = .man then { e with manHold := true, dFilt := man } else { e with resume := true })
    else st
  let st : LoopState := { st with able := [], swaps := [], relimit := false }
  let st := if relimit then newCoefs st st.coefs else st
  (swaps.foldl applySwap st, s)

/-- The execution in MAN (R141, R143, R175, R176): the state after the output stage. -/
def loopMan (d : LoopDef) (st : LoopState) (x : LoopIn) (hand unforced : Bool) (man : F32) (manOk : Bool) : LoopState :=
  let st : LoopState :=
    if hand || unforced then { st with manHold := true, dFilt := man }
    else if st.manHold && manOk && !F32.eq man st.dFilt then { st with manHold := false }
    else st
  let st : LoopState := { st with badIn := !manOk || !x.ok
                                  nodes := ((st.nodes.set 0 x.pv).set 7 x.ffv).set 15 x.x }
  stageOn d st (if st.manHold || !manOk then st.uPrev else man)

/-- One execution of an enabled loop: its new state, whose U_PREV is the output written (R141 to R144, R175 to R178). -/
def State.loopEnabled (s : State) (h : Nat) (d : LoopDef) (st : LoopState) (req : LoopMode) (man : F32) (manOk wasForced : Bool) : LoopState :=
  let sp := s.inp h (if req = .cas then d.cas else d.sp)
  let st : LoopState := if usable d.oorUse sp then { st with spHold := sp.value } else { st with badSp := true }
  let x := s.loopIn h d
  match (s.work (idLocal d.out)).force with
  | some f =>
    let st : LoopState := { st with outForced := true, mode := req, manHold := false }
    if x.ok && (manOk || decide (req ≠ .man)) then
      let st := if req = .man then st else s.law h d st x
      s.preload h d st x f
    else { st with badIn := true, resume := true, uPrev := f, satHi := false, satLo := false, rateLim := false, iHold := false }
  | none =>
    if req = .man then
      (let hand := decide (st.mode ≠ .man)
       loopMan d { st with mode := req } x hand wasForced man manOk)
    else if !x.ok then
      (let e : LoopState := { st with badIn := true, mode := req, manHold := false, resume := true }
       stageOn d e (if d.badAct = 0 then st.uPrev else d.badVal))
    else
      (let hand := decide (req ≠ st.mode)
       let e : LoopState := { st with mode := req, manHold := false }
       match s.tracked h d with
       | some sp => { s.preload h d e x sp with track := true }
       | none => if hand || e.resume then s.preload h d e x e.uPrev else s.law h d e x)

/-- One execution of a loop that is due (R141, R147, R151). -/
def State.runLoop (s : State) (h k : Nat) (d : LoopDef) : State :=
  let st0 := s.loopSt h k
  let req := s.loopReq h d st0
  let man := s.inpIf h d.man (decide (d.man ≠ NONE)) d.oorUse
  let manOk := man.2 && decide (d.man ≠ NONE)
  let trig := decide (d.trig ≠ NONE) && decide ((s.inp h d.trig).value ≠ 0)
  let wasForced := st0.outForced
  let st1 : LoopState := { st0 with badIn := false, badSp := false, outForced := false, track := false }
  let r := s.loopPending h d st1 req man.1
  let s := r.2
  let st := r.1
  let done : LoopState × F32 :=
    if st.disabled then
      (let e : LoopState := { st with mode := req, satHi := false, satLo := false, rateLim := false, iHold := false
                                      outForced := (s.work (idLocal d.out)).force.isSome }
       (e, d.disableVal))
    else
      (let e := s.loopEnabled h d st req man.1 manOk wasForced
       ({ e with nodes := (e.nodes.set 1 e.spHold).set 5 e.i }, e.uPrev))
  let s := s.roleWriteId d.out done.2
  let s := if st.disabled && !st0.disabled then s.report h d.out else s
  let st := done.1
  let st : LoopState := { st with nodes := st.nodes.set 14 (BitVec.ofNat 32 (loopStat st)) }
  let st : LoopState := if d.traceEn then { st with trace := traceStep d s.time.n st trig } else st
  s.setLoop h k st

/-- The loops of a home cell that are due in cycle N, in ascending number (R30, R133). -/
def State.runLoops (s : State) (h : Nat) : State :=
  forL (s.loopsOf h) (fun e s => if s.time.n % e.2.divisor = e.2.phase then s.runLoop h e.1 e.2 else s) s

/-! Charges (R157). -/

/-- The number of set bits below bit 16. -/
def popcount16 (x : Nat) : Nat := ((List.range 16).filter (fun k => bitOf x k)).length

/-- ⌈log2 n⌉ for n from 1. -/
def log2Up (n : Nat) : Nat := if n ≤ 1 then 0 else Nat.log2 (n - 1) + 1

/-- The steps of a gain lookup in a table of n breakpoints (R157). -/
def gainCharge (n : Nat) : Nat := if n ≤ 1 then 10 else 10 + 4 * log2Up n

/-- The steps of one execution of a loop (R157, R158). -/
def loopCharge (tables : Tab TableDef) (h : Nat) (d : LoopDef) : Nat :=
  62 + 6 + gainCharge (match tables.look (h * 65536 + d.gainTab) with | some t => t.pairs.length | none => 1) + 4 + 8 +
  18 * b2n d.iEn + 16 * b2n d.dEn + 10 * b2n d.rateEn + 8 * b2n d.ffEn + 28 * b2n d.fricEn + 24 * b2n d.cogEn +
  (if d.traceEn then 6 + 2 * popcount16 d.traceMask else 0) + 4 * b2n d.trigEn

/-- The trace memory of a loop in bytes (R153). -/
def traceBytes (d : LoopDef) : Nat := if d.traceEn then d.traceDepth * (4 + 4 * popcount16 d.traceMask) else 0

/-! The loop-definition and table sections (R135 to R138). -/

/-- A loop record read from its bytes (R135). -/
def loopDefOf (r : List Byte) : LoopDef :=
  { loop := fieldLE r 0 2, flags0 := fieldLE r 2 1, flags1 := fieldLE r 3 1, divisor := fieldLE r 4 2, phase := fieldLE r 6 2
    pv := fieldLE r 8 4, sp := fieldLE r 0x0C 4, out := fieldLE r 0x10 4, ff := fieldLE r 0x14 4, pos := fieldLE r 0x18 4
    vref := fieldLE r 0x1C 4, mode := fieldLE r 0x20 4, man := fieldLE r 0x24 4, cas := fieldLE r 0x28 4
    trig := fieldLE r 0x2C 4, gainTab := fieldLE r 0x30 2, fricTab := fieldLE r 0x32 2, cogTab := fieldLE r 0x34 2
    badAct := fieldLE r 0x36 1, initMode := fieldLE r 0x37 1, ti := wordLE r 0x38, td := wordLE r 0x3C, tf := wordLE r 0x40
    kff := wordLE r 0x44, outLo := wordLE r 0x48, outHi := wordLE r 0x4C, roc := wordLE r 0x50, deadband := wordLE r 0x54
    disableVal := wordLE r 0x58, badVal := wordLE r 0x5C, v0 := wordLE r 0x60, traceMask := fieldLE r 0x64 2
    traceDepth := fieldLE r 0x66 2, trigMask := fieldLE r 0x68 2, start := fieldLE r 0x6A 1 }

/-- The checks of one loop record against its own fields (R135, R136). -/
def loopRecordOk (r : List Byte) (d : LoopDef) : Bool :=
  let noMode := decide (d.mode = NONE)
  decide (d.loop < 256) && decide (d.flags0 < 64) && decide (d.flags1 < 32) &&
  decide (1 ≤ d.divisor ∧ d.divisor ≤ 256) && decide (d.phase < d.divisor) &&
  decide (d.badAct < 2) && decide (d.initMode < 3) && decide (d.start < 2) &&
  (coefsBad d.coefs).isNone && F32.fin d.disableVal && F32.fin d.badVal && finNonneg d.v0 &&
  (if d.traceEn then decide (16 ≤ d.traceDepth ∧ d.traceDepth ≤ 4096) else decide (d.traceDepth = 0)) &&
  !missing true d.pv && !missing true d.sp && !missing true d.out && !missing d.ffEn d.ff &&
  !missing (d.fricEn || d.cogEn) d.pos && !missing d.fricEn d.vref &&
  !missing (!(noMode && decide (d.initMode ≠ 0))) d.man && !missing (!(noMode && decide (d.initMode ≠ 2))) d.cas &&
  !missing d.trigEn d.trig && decide ((r.drop 0x6B).all (fun b => b = 0))

/-- The loop-definition section of a cell: definitions by cell × 256 + loop, and faults of the records (R135, R136). -/
def parseLoops (b : List Byte) (items cell dev : Nat) : Tab LoopDef × List Rej :=
  let rs := recordsOf b 128 items
  let ds := rs.map loopDefOf
  let tab : Tab LoopDef := ds.foldl (fun t d => t.put (cell * 256 + d.loop) d) []
  let bad := ((rs.zip ds).map (fun e => need (loopRecordOk e.1 e.2) 0x000B (dev * 2 ^ 17 + cell * 2 ^ 11 + e.2.loop))).flatten
  (tab, need (decide (b.length = 128 * items)) 0x0008 ++ need (ascending (ds.map (·.loop))) 0x0008 ++ bad)

/-- A reference to a table of the cell: it exists (reason 0x000C) and has the kind (reason 0x000B) (R136, R138). -/
def tableChecks (tables : Tab TableDef) (cell id kind : Nat) (req : Bool) (obj : Nat) : List Rej :=
  if id = 0xFFFF ∧ !req then []
  else match tables.look (cell * 65536 + id) with
    | none => [{ reason := 0x000C, obj := obj, d0 := id }]
    | some t => need (decide (t.kind = kind)) 0x000B obj

/-- The checks of a loop against points and tables (R136, R138, R134). -/
def loopLinks (points : Tab PointDef) (tables : Tab TableDef) (dev cell : Nat) (d : LoopDef) : List Rej :=
  let obj := dev * 2 ^ 17 + cell * 2 ^ 11 + d.loop
  let f32 (id : Nat) := refChecks points dev id [0] obj
  f32 d.pv ++ f32 d.sp ++ f32 d.out ++ f32 d.ff ++ f32 d.pos ++ f32 d.vref ++ f32 d.man ++ f32 d.cas ++
  refChecks points dev d.mode [3] obj ++ refChecks points dev d.trig [2] obj ++ ownedChecks points dev cell d.out obj ++
  (match points.look (idLocal d.mode) with
   | some p => need (decide (d.mode = NONE) || decide (p.format ≠ 3) || decide (p.enumCount = 3)) 0x000B obj
   | none => []) ++
  (match points.look (idLocal d.out) with
   | some p => need (decide (d.out = NONE) || p.output) 0x000B obj ++
       need (decide (d.out = NONE) || decide (p.maxAge = 0) || decide (d.divisor ≤ p.maxAge)) 0x000B obj
   | none => []) ++
  tableChecks tables cell d.gainTab 0 true obj ++ tableChecks tables cell d.fricTab 1 d.fricEn obj ++
  tableChecks tables cell d.cogTab 2 d.cogEn obj

/-- Two loops share an output point only when at most one of them starts enabled (R136). -/
def sharedOutputs (dev cell : Nat) : List LoopDef → List Rej
  | [] => []
  | d :: t =>
    need (!(t.any (fun e => decide (e.out = d.out ∧ d.start = 0 ∧ e.start = 0)))) 0x000C (dev * 2 ^ 17 + cell * 2 ^ 11 + d.loop) ++
    sharedOutputs dev cell t

/-- A breakpoint list ascends strictly. -/
def breaksAscend : List (F32 × F32) → Bool
  | [] => true
  | [_] => true
  | a :: b :: t => F32.lt a.1 b.1 && breaksAscend (b :: t)

/-- The tables of a section, read one after the other; a length that ends inside a table gives none (R137). -/
def readTables : Nat → List Byte → Option (List (TableDef × Nat × List Byte))
  | 0, b => if b.isEmpty then some [] else none
  | n + 1, b =>
    if b.length < 16 then none
    else
      let kind := fieldLE b 2 1
      let cnt := fieldLE b 4 2
      let size := 16 + (if kind = 0 then 8 else 4) * cnt
      if b.length < size then none
      else
        let body := (b.drop 16).take (size - 16)
        let t : TableDef :=
          { tabId := fieldLE b 0 2, kind := kind, wrap := bitOf (fieldLE b 3 1) 0, x0 := wordLE b 8, span := wordLE b 12
            pairs := if kind = 0 then (List.range cnt).map (fun i => (wordLE body (8 * i), wordLE body (8 * i + 4))) else []
            entries := if kind = 0 then [] else bytesWords cnt body }
        match readTables n (b.drop size) with
        | some r => some ((t, cnt, b.take 16) :: r)
        | none => none

/-- The checks of one table (R137). -/
def tableOk (t : TableDef) (cnt : Nat) (head : List Byte) : Bool :=
  decide (t.tabId ≤ 0xFFFE) && decide (t.kind < 3) && decide (fieldLE head 6 2 = 0) &&
  (if t.kind = 0 then
    decide (fieldLE head 3 1 = 0) && decide (1 ≤ cnt ∧ cnt ≤ 64) && decide (t.x0 = 0 ∧ t.span = 0) &&
    t.pairs.all (fun e => F32.fin e.1 && F32.fin e.2) && breaksAscend t.pairs
  else
    decide (fieldLE head 3 1 < 2) && decide (cnt = 1024) && F32.fin t.x0 && F32.fin t.span && F32.lt 0 t.span &&
    t.entries.all F32.fin)

/-- The table section of a cell (R137, R138). -/
def parseTables (b : List Byte) (items cell : Nat) : Tab TableDef × List Rej :=
  match readTables items b with
  | none => ([], [{ reason := 0x000B }])
  | some l =>
    let ts := l.map (·.1)
    (ts.foldl (fun a t => a.put (cell * 65536 + t.tabId) t) [],
     need (distinct (ts.map (·.tabId))) 0x000C ++
     need (decide ((ts.filter (fun t => t.kind = 0)).length ≤ 256) && decide ((ts.filter (fun t => t.kind ≠ 0)).length ≤ 32)) 0x000B ++
     (l.map (fun e => need (tableOk e.1 e.2.1 e.2.2) 0x000B e.1.tabId)).flatten)

/-- The bytes of a table, in the section's format (R137). -/
def tableBytes (t : TableDef) : List Byte :=
  let cnt := if t.kind = 0 then t.pairs.length else t.entries.length
  leBytes 2 t.tabId ++ leBytes 1 t.kind ++ leBytes 1 (b2n t.wrap) ++ leBytes 2 cnt ++ leBytes 2 0 ++
  leBytes 4 t.x0.toNat ++ leBytes 4 t.span.toNat ++
  (if t.kind = 0 then (t.pairs.map (fun e => leBytes 4 e.1.toNat ++ leBytes 4 e.2.toNat)).flatten else wordsBytes t.entries)

/-! Registers (R159, R185): what the windows show of the loops of a home cell. -/

/-- CEL_LOOP_SUM (R159). -/
def State.viewLoopSum (s : State) (h axes : Nat) : Nat :=
  let sts := (s.loopsOf h).map (fun e => s.loopSt h e.1)
  let any (p : LoopState → Bool) (i : Nat) : Nat := b2n (sts.any p) * 2 ^ i
  any (fun t => t.satHi || t.satLo) 31 + any (fun t => t.badIn || t.badSp) 30 + any (·.iClamp) 29 + any (·.disabled) 28 +
  (sts.length + 8 * axes) * 2 ^ 16 + sts.length

/-- CEL_TRACE_SUM (R159). -/
def State.viewTraceSum (s : State) (h : Nat) : Nat :=
  ((s.loopsOf h).filter (fun e => decide ((s.loopSt h e.1).trace.st = .frozen))).length * 2 ^ 19 +
  ((s.loopsOf h).map (fun e => traceBytes e.2)).sum

/-- CEL_LOOP_STAT_k (R159). -/
def State.viewLoopStat (s : State) (h k : Nat) : Nat :=
  match s.loopDef h k with
  | some _ => loopStat (s.loopSt h k)
  | none => 0

/-- A bitmap register over 32 loops (R176, R178). -/
def State.viewLoopBits (s : State) (h m : Nat) (p : LoopState → Bool) : Nat :=
  ((List.range 32).map (fun b => if (s.loopDef h (32 * m + b)).isSome then b2n (p (s.loopSt h (32 * m + b))) * 2 ^ b else 0)).sum

/-- CEL_LOOP_STAT_k is written: I_CLAMP and RESUMED clear where a 1 is written and hardware sets nothing (R7, R159). -/
def State.clearLoopStat (s : State) (h k v hw : Nat) : State :=
  if (s.loopDef h k).isNone then s
  else s.onLoopBoth h k (fun t => { t with iClamp := (t.iClamp && !bitOf v 4) || bitOf hw 4, resumed := (t.resumed && !bitOf v 3) || bitOf hw 3 })

/-! Commands (R146, R151, R152, R155, R156, R160, R175). -/

/-- A reference names a defined loop of a LOOP cell (R160). -/
def State.loopThere (s : State) (r : Nat) : Bool :=
  decide (s.roleAt (idCell r) = roleLoop) && (s.loopDef (idCell r) (refObj r)).isSome

/-- LOOP_READ: nodes and status of 1–16 loops of one cell from the last sealed cut (R154, R160). -/
def execLoopRead (ref : CmdRef) (args : List Nat) (s : State) : Out :=
  let l := (args.drop 1).take (argN args 0)
  .next (s.here (idDev (l.headD 0)) (l.all (fun r => !refBad r)) ref 0x0301 args (fun s =>
    s.command ref 0x0301 [badCount args 16, badAt (fun r => !refBad r) l .invalid,
        badAt (fun r => decide (r / 2048 = l.headD 0 / 2048)) l .invalid, noRoom ref (68 * l.length),
        badAt s.loopThere l .absent] []
      (fun ref s => s.complete ref .ok 0 0 ((l.map (fun r =>
        let t := s.cut.loops.at' (idCell r * 256 + refObj r) (s.loopSt (idCell r) (refObj r))
        wordsBytes t.nodes ++ leBytes 4 (loopStat t))).flatten))))

/-- The nine values of LOOP_SET_COEF (R146). -/
def coefArgs (args : List Nat) : Coefs :=
  let w (i : Nat) : Word := BitVec.ofNat 32 (argN args i)
  { gainTab := argN args 2 % 65536, ti := w 3, td := w 4, tf := w 5, kff := w 6, outLo := w 7, outHi := w 8, roc := w 9, deadband := w 10 }

/-- The coefficients that a swap arriving now would meet: the overlay after the swaps before it (R147). -/
def State.coefsDue (s : State) (h k : Nat) : Coefs :=
  let l := ((s.fab.latched.filter (fun e => decide (e.op = 0x0302 ∧ e.home = h ∧ e.obj = k))).map (fun e => coefArgs e.args))
  let ms := ((s.fab.latched.filter (fun e => decide (e.op = 0x0302 ∧ e.home = h ∧ e.obj = k))).map (fun e => argN e.args 1))
  let st := s.loopSt h k
  let c := st.swaps.foldl (fun c w => coefsUnder w.mask c w.coefs) st.coefs
  (ms.zip l).foldl (fun c e => coefsUnder e.1 c e.2) c

/-- The breakpoints of a gain table of a cell, none when it is not a gain table of the cell. -/
def State.gainSize (s : State) (h tab : Nat) : Option Nat :=
  match s.table h tab with
  | some t => if t.kind = 0 then some t.pairs.length else none
  | none => none

/-- LOOP_SET_COEF: a coefficient swap, checked as a resulting set and latched (R146, R147). -/
def execLoopSetCoef (ref : CmdRef) (args : List Nat) (s : State) : Out :=
  let r := argN args 0
  let h := idCell r
  let k := refObj r
  .next (s.here (idDev r) (!refBad r) ref 0x0302 args (fun s =>
    let c := coefsUnder (argN args 1) (s.coefsDue h k) (coefArgs args)
    let bad := coefsBad c
    let size := s.gainSize h c.gainTab
    let charged := match s.loopDef h k with | some d => s.gainSize h d.gainTab | none => none
    s.commandLong ref 0x0302 [(decide (args.length < 11), .invalid, args.length), (refBad r, .invalid, 0),
        (decide (512 ≤ argN args 1), .invalid, 1), (bitOf (argN args 1) 0 && decide (65536 ≤ argN args 2), .invalid, 2),
        (s.loopThere r && bad.isSome, .invalid, 2 + bad.getD 0), (s.loopThere r && size.isNone, .invalid, 2),
        (!s.loopThere r, .absent, 0)]
      [(decide (charged.getD 0 < size.getD 0), .certFail, 0x000F)]
      (fun ref s => s.latch { op := 0x0302, home := h, obj := k, args := args, ref := ref })))

/-- A swap at its mark: latched for the loop's next execution (R147). -/
def State.markLoopSwap (s : State) (l : Latched) : State :=
  let st := s.loopSt l.home l.obj
  s.setLoop l.home l.obj { st with swaps := st.swaps ++ [{ mask := argN l.args 1, coefs := coefArgs l.args, ref := l.ref }] }

/-- A disable or enable at its mark; in a SAFE cell it is recorded and answered at once (R151, R152). -/
def State.markLoopAble (s : State) (l : Latched) (en : Bool) : State :=
  let st := s.loopSt l.home l.obj
  if s.cellSafe (s.execOf l.home) then
    (s.setLoop l.home l.obj { st with able := st.able ++ [(en, none)] }).complete l.ref .ok
  else s.setLoop l.home l.obj { st with able := st.able ++ [(en, some l.ref)] }

/-- LOOP_DISABLE and LOOP_ENABLE share their checks; in a SAFE cell the command is recorded and answered at once (R151, R152). -/
def State.loopAble (s : State) (ref : CmdRef) (op : Nat) (en : Bool) (args : List Nat) : State :=
  let r := argN args 0
  s.here (idDev r) (!refBad r) ref op args (fun s =>
    s.commandLong ref op [(refBad r, .invalid, 0), (!s.loopThere r, .absent, 0)] []
      (fun ref s =>
        let l : Latched := { op := op, home := idCell r, obj := refObj r, args := args, ref := ref }
        let c := s.execOf (idCell r)
        if !s.cellSafe c then s.latch l
        else if (s.fab.cells.at' c {}).firstSafe then (s.complete ref .ok).latch { l with ref := { ref with replayed := true } }
        else s.markLoopAble l en))

/-- LOOP_DISABLE (R151). -/
def execLoopDisable (ref : CmdRef) (args : List Nat) (s : State) : Out := .next (s.loopAble ref 0x0303 false args)

/-- LOOP_ENABLE (R152). -/
def execLoopEnable (ref : CmdRef) (args : List Nat) (s : State) : Out := .next (s.loopAble ref 0x0304 true args)

/-- Whether TRIG_PT of a loop is true now. -/
def State.trigNow (s : State) (h : Nat) (d : LoopDef) : Bool :=
  decide (d.trig ≠ NONE) && decide ((s.inp h d.trig).value ≠ 0)

/-- TRACE_ARM with POST (R155, R160). -/
def execTraceArm (ref : CmdRef) (args : List Nat) (s : State) : Out :=
  let r := argN args 0
  let post := argN args 1
  .next (s.here (idDev r) (!refBad r) ref 0x0305 args (fun s =>
    let d := s.loopDef (idCell r) (refObj r)
    let badArm := match d with | some d => !d.traceEn || decide (d.traceDepth ≤ post) | none => false
    s.command ref 0x0305 [(refBad r, .invalid, 0), (s.loopThere r && badArm, .invalid, 1), (!s.loopThere r, .absent, 0)] []
      (fun ref s =>
        let trig := match d with | some d => s.trigNow (idCell r) d | none => false
        let s := s.onLoopBoth (idCell r) (refObj r) (fun t =>
          { t with trace := { st := .armed, postN := post, prevTrig := trig, prevStatus := loopStat t } })
        s.complete ref .ok)))

/-- TRACE_TRIGGER: latched for the next base mark (R155). -/
def execTraceTrigger (ref : CmdRef) (args : List Nat) (s : State) : Out :=
  let r := argN args 0
  .next (s.here (idDev r) (!refBad r) ref 0x0306 args (fun s =>
    s.command ref 0x0306 [(refBad r, .invalid, 0), (!s.loopThere r, .absent, 0)] []
      (fun ref s => (s.latch { op := 0x0306, home := idCell r, obj := refObj r, args := args, ref := ref }).complete ref .ok)))

/-- A latched TRACE_TRIGGER waits for the loop's next execution (R155). -/
def State.markTraceTrigger (s : State) (l : Latched) : State :=
  let st := s.loopSt l.home l.obj
  s.setLoop l.home l.obj { st with trace := { st.trace with cmdTrig := decide (st.trace.st = .armed) } }

/-- The bytes TRACE_READ returns (R156). -/
def traceData (ref mask : Nat) (t : Trace) : List Byte :=
  leBytes 4 ref ++ leBytes 2 mask ++ leBytes 1 t.endCause ++ leBytes 1 0 ++ leBytes 2 t.rows.length ++ leBytes 2 t.preValid ++
  leBytes 2 (t.trigRow.getD 0xFFFF) ++ leBytes 2 0 ++ leBytes 8 (match t.rows with | e :: _ => e.1 | [] => 0) ++
  leBytes 8 (if t.trigRow.isSome then t.trigN else 0) ++ (t.rows.map (fun e => leBytes 4 e.1 ++ wordsBytes e.2)).flatten

/-- TRACE_READ: BUSY unless the trace is FROZEN (R156). -/
def execTraceRead (ref : CmdRef) (args : List Nat) (s : State) : Out :=
  let r := argN args 0
  .next (s.here (idDev r) (!refBad r) ref 0x0307 args (fun s =>
    let t := (s.loopSt (idCell r) (refObj r)).trace
    let mask := match s.loopDef (idCell r) (refObj r) with | some d => d.traceMask | none => 0
    let data := traceData r mask t
    s.command ref 0x0307 [(refBad r, .invalid, 0),
        (s.loopThere r && decide (t.st = .frozen) && decide (ref.bufLen < data.length), .invalid, 0), (!s.loopThere r, .absent, 0)]
      [(decide (t.st ≠ .frozen), .busy, 0)]
      (fun ref s => s.complete ref .ok 0 0 data)))

/-- TABLE_READ: one table of a cell by TAB_ID (R160). -/
def execTableRead (ref : CmdRef) (args : List Nat) (s : State) : Out :=
  let r := argN args 0
  .next (s.here (idDev r) (!refBad r) ref 0x0308 args (fun s =>
    let t := s.table (idCell r) (argN args 1)
    let data := match t with | some t => tableBytes t | none => []
    s.command ref 0x0308 [(refBad r, .invalid, 0), (decide (65536 ≤ argN args 1), .invalid, 1),
        (t.isSome && decide (ref.bufLen < data.length), .invalid, 0),
        (decide (s.roleAt (idCell r) ≠ roleLoop), .absent, 0), (t.isNone, .absent, 1)] []
      (fun ref s => s.complete ref .ok 0 0 data)))

/-- LOOP_SET_MODE: DENIED when MODE_PT is not NONE, else latched for the next base mark (R175, R186). -/
def execLoopSetMode (ref : CmdRef) (args : List Nat) (s : State) : Out :=
  let r := argN args 0
  .next (s.here (idDev r) (!refBad r) ref 0x0309 args (fun s =>
    s.command ref 0x0309 [(refBad r, .invalid, 0), (decide (3 ≤ argN args 1), .invalid, 1), (!s.loopThere r, .absent, 0)]
      [((match s.loopDef (idCell r) (refObj r) with | some d => decide (d.mode ≠ NONE) | none => false), .denied, 6)]
      (fun ref s => (s.latch { op := 0x0309, home := idCell r, obj := refObj r, args := args, ref := ref }).complete ref .ok)))

/-- A latched LOOP_SET_MODE (R175). -/
def State.markLoopMode (s : State) (l : Latched) : State :=
  let st := s.loopSt l.home l.obj
  s.setLoop l.home l.obj { st with modeReq := loopModeOf (argN l.args 1) }

end Sys2Proof.Machine
end

