-- ==== Sys2Proof/Machine/Axes.lean ====
section
/-! DEFINITION. Axes and profile generators: records, feedback, the axis law, plans, faults, states, hand-over, charges and commands (R161 to R186). -/

namespace Sys2Proof.Machine

/-! Records (R163, R167). -/

/-- FB_SRC: feedback from FB_PT. -/
def AxisDef.fbPt (d : AxisDef) : Bool := bitOf d.flags 0
/-- I_EN. -/
def AxisDef.iEn (d : AxisDef) : Bool := bitOf d.flags 1
/-- FRIC_EN. -/
def AxisDef.fricEn (d : AxisDef) : Bool := bitOf d.flags 2
/-- COG_EN. -/
def AxisDef.cogEn (d : AxisDef) : Bool := bitOf d.flags 3

/-- The nominal sub-cycle, 15.625 µs (R161). -/
def tFast : F32 := F32.ofRat 15625 1000000000
/-- The nominal base cycle, 125 µs. -/
def tBase : F32 := F32.ofRat 125 1000000

/-- An axis mode code (R163, R179). -/
def axisModeOf : Nat → Option AxisMode
  | 0 => some .pos
  | 1 => some .vel
  | 2 => some .trq
  | _ => none

/-- The code of an axis mode. -/
def axisModeCode : AxisMode → Nat
  | .pos => 0
  | .vel => 1
  | .trq => 2

/-- The definition of an axis of a home cell. -/
def State.axisDef (s : State) (h a : Nat) : Option AxisDef :=
  match s.img.run with | some i => i.axes.look (h * 32 + a) | none => none
/-- The definition of a generator of a home cell. -/
def State.pgDef (s : State) (h g : Nat) : Option PgDef :=
  match s.img.run with | some i => i.pgs.look (h * 8 + g) | none => none
/-- The axes defined in a home cell, ascending. -/
def State.axesOf (s : State) (h : Nat) : List (Nat × AxisDef) :=
  match s.img.run with
  | some i => (i.axes.filter (fun e => decide (e.1 / 32 = h))).map (fun e => (e.1 % 32, e.2))
  | none => []
/-- The generators defined in a home cell, ascending. -/
def State.pgsOf (s : State) (h : Nat) : List (Nat × PgDef) :=
  match s.img.run with
  | some i => (i.pgs.filter (fun e => decide (e.1 / 8 = h))).map (fun e => (e.1 % 8, e.2))
  | none => []
/-- The axis that a generator serves. -/
def State.pgAxis (s : State) (h g : Nat) : Option (Nat × AxisDef) := (s.axesOf h).find? (fun e => decide (e.2.pg = g))

/-- An axis after a cold start: an enabled one preloads with INIT of its output point (R144, R163, R181). -/
def coldAxis (points : Tab PointDef) (d : AxisDef) : AxisState :=
  let init : F32 := match points.look (idLocal d.out) with | some p => p.init | none => 0
  { st := if d.start = 0 then .run else .off, mode := (axisModeOf d.initMode).getD .pos, posOffset := d.posOffset
    uPrev := if d.start = 0 then init else d.disableVal, preload := if d.start = 0 then some init else none }
/-- The running image's points. -/
def State.runPoints (s : State) : Tab PointDef := match s.img.run with | some i => i.points | none => []
/-- A generator after a cold start (R167, R172). -/
def coldPg (d : PgDef) : PgState := { v := d.vMax, a := d.aMax, j := d.jMax, seed := decide (d.rate = 0) }

/-- The state of an axis of a home cell. -/
def State.axisSt (s : State) (h a : Nat) : AxisState :=
  match s.axes.look (h * 32 + a), s.axisDef h a with
  | some st, _ => st
  | none, some d => coldAxis s.runPoints d
  | none, none => {}
/-- The state of a generator of a home cell. -/
def State.pgSt (s : State) (h g : Nat) : PgState :=
  match s.pgs.look (h * 8 + g), s.pgDef h g with
  | some st, _ => st
  | none, some d => coldPg d
  | none, none => {}
/-- The state with an axis replaced. -/
def State.setAxis (s : State) (h a : Nat) (st : AxisState) : State := { s with axes := s.axes.put (h * 32 + a) st }
/-- The state with a generator replaced. -/
def State.setPg (s : State) (h g : Nat) (st : PgState) : State := { s with pgs := s.pgs.put (h * 8 + g) st }

/-! Plans (R169, R170). -/

/-- The fast tick in progress, counted from the first base mark after PLL lock. -/
def State.fastTick (s : State) : Nat := 8 * s.time.cycles + s.time.sub

/-- Half of a value. -/
def F32.half (x : F32) : F32 := F32.div x (F32.ofInt 2)

/-- Position, velocity and acceleration of a segment, a time after its start: the cubic of R170. -/
def Seg.eval (g : Seg) (t : F32) : F32 × F32 × F32 :=
  let a := F32.add g.a (F32.mul g.jerk t)
  let v := F32.add (F32.add g.v (F32.mul g.a t)) (F32.half (F32.mul (F32.mul g.jerk t) t))
  let x := F32.add (F32.add (F32.add g.x (F32.mul g.v t)) (F32.half (F32.mul (F32.mul g.a t) t)))
    (F32.div (F32.mul (F32.mul (F32.mul g.jerk t) t) t) (F32.ofInt 6))
  (x, v, a)

/-- The segments of durations and jerks, each with its precomputed start state, and the state at the end (R170). -/
def segsFrom : List (F32 × F32) → F32 → F32 → F32 → F32 → List Seg × F32
  | [], _, x, _, _ => ([], x)
  | (dur, j) :: t, at_, x, v, a =>
    let g : Seg := { at_ := at_, jerk := j, x := x, v := v, a := a }
    let e := g.eval dur
    let r := segsFrom t (F32.add at_ dur) e.1 e.2.1 e.2.2
    (g :: r.1, r.2)

/-- The durations Tj, Ta, Tv of a rest-to-rest plan over a distance (R169). -/
def moveTimes (dist v a j : F32) : F32 × F32 × F32 :=
  let short := F32.lt (F32.mul v j) (F32.mul a a)
  let tj := if short then F32.sqrt (F32.div v j) else F32.div a j
  let ta := if short then 0 else F32.sub (F32.div v a) tj
  let tv := F32.div (F32.sub dist (F32.mul v (F32.add (F32.mul (F32.ofInt 2) tj) ta))) v
  if F32.lt tv 0 then
    let tj := F32.div a j
    let root := F32.sqrt (F32.add (F32.mul tj tj) (F32.div (F32.mul (F32.ofInt 4) dist) a))
    let vp := F32.half (F32.mul a (F32.sub root tj))
    let ta := F32.sub (F32.div vp a) tj
    if F32.lt ta 0 then (F32.cbrt (F32.div dist (F32.mul (F32.ofInt 2) j)), 0, 0) else (tj, ta, 0)
  else (tj, ta, tv)

/-- The plan of a move from x0 to a target, none when the distance is 0 (R169). -/
def movePlan (x0 target v a j : F32) (start : Nat) : Option Plan :=
  let diff := F32.sub target x0
  let dist := F32.abs diff
  if F32.eq dist 0 then none
  else
    let s := F32.sgn diff
    let t := moveTimes dist v a j
    let up := F32.mul s j
    let dn := F32.neg up
    let segs := segsFrom [(t.1, up), (t.2.1, 0), (t.1, dn), (t.2.2, 0), (t.1, dn), (t.2.1, 0), (t.1, up)] 0 0 0 0
    some { x0 := x0, segs := segs.1, endPos := target, cut := false, start := start
           total := F32.add (F32.add (F32.mul (F32.ofInt 4) t.1) (F32.mul (F32.ofInt 2) t.2.1)) t.2.2 }

/-- The times t1, t2, t3 of a stop in the direction of motion, and JERK_CUT (R169). -/
def stopTimes (v a adMax j : F32) : (F32 × F32 × F32) × Bool :=
  let two := F32.ofInt 2
  let t1 := F32.div (F32.add a adMax) j
  let t2 := F32.div (F32.sub (F32.sub (F32.add v (F32.mul a t1)) (F32.div (F32.mul (F32.mul j t1) t1) two))
    (F32.div (F32.mul adMax adMax) (F32.mul two j))) adMax
  let low := F32.lt t2 0
  let ad := if low then F32.sqrt (F32.add (F32.mul j v) (F32.div (F32.mul a a) two)) else adMax
  let t1 := if low then F32.div (F32.add a ad) j else t1
  let t2 := if low then 0 else t2
  let t3 := F32.div ad j
  if F32.lt t1 0 then
    ((0, 0, F32.div (F32.sub (F32.neg a) (F32.sqrt (F32.sub (F32.mul a a) (F32.mul (F32.mul two j) v)))) j), true)
  else ((t1, t2, t3), false)

/-- The stop plan from a state; it is empty at rest (R169). -/
def stopPlan (x0 v0 a0 adMax j : F32) (start : Nat) : Plan :=
  if F32.eq v0 0 && F32.eq a0 0 then { x0 := x0, segs := [], total := 0, endPos := x0, cut := false, start := start }
  else
    let s := if F32.eq v0 0 then F32.sgn a0 else F32.sgn v0
    let r := stopTimes (F32.mul s v0) (F32.mul s a0) adMax j
    let sj := F32.mul s j
    let segs := segsFrom [(r.1.1, F32.neg sj), (r.1.2.1, 0), (r.1.2.2, sj)] 0 0 v0 a0
    { x0 := x0, segs := segs.1, endPos := F32.add x0 segs.2, cut := r.2, start := start
      total := F32.add (F32.add r.1.1 r.1.2.1) r.1.2.2 }

/-- The segment in which a time lies: on a boundary, the later one (R170). -/
def segAt (t : F32) : List Seg → Nat → Option (Nat × Seg)
  | [], _ => none
  | [g], n => some (n, g)
  | g :: g2 :: r, n => if F32.le g2.at_ t then segAt t (g2 :: r) (n + 1) else some (n, g)

/-! Generator states (R171 to R173). -/

/-- What a fast sub-cycle gives out when it completes in time (R75). -/
def State.fastGive (s : State) (h : Nat) (e : FastEffect) : State := { s with fab := { s.fab with fastOut := s.fab.fastOut ++ [(h, e)] } }

/-- Role work of a kind runs; what it gives out waits for the work to be in time (R73, R75). -/
def State.inStage (s : State) (g : Stage) (f : State → State) : State :=
  let s := f { s with fab := { s.fab with stage := g } }
  { s with fab := { s.fab with stage := .none } }

/-- A move request ends: its command completes, or its verb learns the outcome; within role work both wait until that work is in time (R73, R75, R171, R195). -/
def State.endMove (s : State) (r : Option MoveReq) (st : Status) (detail : Nat := 0) : State :=
  match r with
  | none => s
  | some q =>
    let ok := decide (st = .ok)
    let c (ref : CmdRef) : Cpl := { ref := ref, status := st, final := true, detail := detail, result := s.time.n, data := [] }
    match s.fab.stage with
    | .none =>
      let s := match q.ref with | some ref => s.post (c ref) | none => s
      match q.verb with
      | some v => { s with fab := { s.fab with moveDone := s.fab.moveDone ++ [(v, ok)] } }
      | none => s
    | .fast h =>
      let s := match q.ref with | some ref => s.fastGive h (.cpl (c ref)) | none => s
      match q.verb with
      | some v => s.fastGive h (.moved v ok)
      | none => s
    | .base h =>
      let s := match q.ref with | some ref => s.roleDone h ref st detail s.time.n | none => s
      match q.verb with
      | some v => { s with fab := { s.fab with baseMoved := s.fab.baseMoved ++ [(h, v, ok)] } }
      | none => s

/-- Latched limits take effect at the next plan (R173). -/
def PgState.limited (g : PgState) : PgState :=
  match g.limPend with
  | some (v, a, j) => { g with v := v, a := a, j := j, limPend := none }
  | none => g

/-- The generator starts a move to a target at this tick, or stands there already (R169, R172). -/
def State.pgStart (s : State) (h k : Nat) (g : PgState) (q : MoveReq) : State :=
  let g := g.limited
  let base := match s.pgDef h k with | some d => decide (d.rate = 1) | none => false
  match movePlan g.xRef q.target g.v g.a g.j (if base then 8 * s.time.cycles else s.fastTick) with
  | some p => s.setPg h k { g with st := .moving, plan := some p, current := some q, pend := none, quick := false, done := false, due := .none }
  | none =>
    (s.setPg h k { g with st := .idle, plan := none, current := none, pend := none, quick := false, done := true, due := .none }).endMove (some q) .ok

/-- End of a plan (R172). -/
def State.pgEnd (s : State) (h k : Nat) (g : PgState) : State :=
  let g : PgState := { g with plan := none, seg := 0, vRef := 0, aRef := 0 }
  match g.st with
  | .moving => (s.setPg h k { g with st := .idle, current := none, done := true }).endMove g.current .ok
  | .stopping =>
    match g.due, g.pend with
    | .stop, _ => s.setPg h k g
    | _, some q => s.pgStart h k g q
    | _, none => s.setPg h k { g with st := .idle, quick := false, done := false }
  | .idle => s.setPg h k g

/-- The generator at a tick: the cubic of the segment, or the end of the plan (R170). -/
def State.pgTick (s : State) (h k : Nat) (unit : Nat) (tTick : F32) : State :=
  let g := s.pgSt h k
  match g.plan with
  | none => s
  | some p =>
    let n := (if unit = 1 then s.fastTick - p.start else s.time.cycles - p.start / 8)
    let t := F32.mul (F32.ofInt n) tTick
    if F32.le p.total t then
      s.pgEnd h k { g with xRef := p.endPos, jerkCut := g.jerkCut || p.cut }
    else
      match segAt t p.segs 0 with
      | none => s
      | some (i, q) =>
        let e := q.eval (F32.sub t q.at_)
        s.setPg h k { g with xRef := F32.add p.x0 e.1, vRef := e.2.1, aRef := e.2.2, seg := i }

/-- The plan whose start tick has come starts there, after the tick's evaluation (R171). -/
def State.pgBegin (s : State) (h k : Nat) (unit : Nat) (tTick : F32) : State :=
  let g := s.pgSt h k
  if s.time.cycles < g.dueAt then s else
  match g.due with
  | .none => s
  | .move =>
    (match g.current with
     | some q => s.pgStart h k { g with due := .none } q
     | none => s.setPg h k { g with due := .none })
  | .stop =>
    let g : PgState := { g.limited with due := .none }
    let p := stopPlan g.xRef g.vRef g.aRef g.a g.j (if unit = 1 then s.fastTick else 8 * s.time.cycles)
    (s.setPg h k { g with plan := some p }).pgTick h k unit tTick

/-- A quick stop: a stop plan from a state at this tick; the target waiting and the move in progress are aborted (R172, R174). -/
def State.pgQuick (s : State) (h k : Nat) (x v a ad j : F32) : State :=
  let g := s.pgSt h k
  let s := (s.endMove g.current .aborted).endMove g.pend .aborted
  let g := g.limited
  s.setPg h k { g with st := .stopping, plan := some (stopPlan x v a ad j s.fastTick), due := .none, quick := true, current := none
                       pend := none, xRef := x, vRef := v, aRef := a, done := false }

/-- The generator is set IDLE at a position; its moves complete ABORTED (R181). -/
def State.pgIdle (s : State) (h k : Nat) (x : F32) : State :=
  let g := s.pgSt h k
  let s := (s.endMove g.current .aborted).endMove g.pend .aborted
  s.setPg h k { g with st := .idle, plan := none, due := .none, quick := false, current := none, pend := none
                       xRef := x, vRef := 0, aRef := 0, seg := 0, done := false }

/-- A target is inside the soft limits of the bound axis (R171). -/
def State.targetOk (s : State) (h k : Nat) (t : F32) : Bool :=
  match s.pgAxis h k with
  | some (_, d) => F32.le d.posLimLo t && F32.le t d.posLimHi
  | none => F32.fin t

/-- A generator accepts moves: it has RATE 1, or its axis is RUN in POS (R171). -/
def State.moveReady (s : State) (h k : Nat) : Bool :=
  match s.pgAxis h k with
  | some (a, _) =>
    let st := s.axisSt h a
    decide (st.st = .run) && decide (st.mode = .pos)
  | none => true

/-- A latched move meets the generator's state at the tick of the mark; its plan starts one base cycle later (R171, R172). -/
def State.pgLatched (s : State) (h k : Nat) (q : MoveReq) : State :=
  let s := match s.pgAxis h k with | some e => s.setAxis h e.1 { s.axisSt h e.1 with keyHeld := false } | none => s
  let g := s.pgSt h k
  match g.st with
  | .idle =>
    if F32.eq q.target g.xRef then (s.setPg h k { g with done := true }).endMove (some q) .ok
    else s.setPg h k { g with st := .moving, due := .move, dueAt := s.time.cycles + 1, current := some q, done := false }
  | .moving =>
    let s := s.endMove g.current .aborted
    if g.due = .move then s.setPg h k { g with dueAt := s.time.cycles + 1, current := some q }
    else s.setPg h k { g with st := .stopping, due := .stop, dueAt := s.time.cycles + 1, current := none, pend := some q }
  | .stopping =>
    if g.quick then s.endMove (some q) .aborted
    else (s.endMove g.pend .aborted).setPg h k { g with pend := some q }

/-- All but the last of the moves that arrived in one cycle complete ABORTED (R171). -/
def State.overtaken (s : State) : List MoveReq → State
  | [] => s
  | [_] => s
  | q :: t => (s.endMove (some q) .aborted).overtaken t

/-- The request latched at the mark meets the generator's state, after the tick's evaluation (R172). -/
def State.pgTake (s : State) (h k : Nat) : State :=
  let g := s.pgSt h k
  match g.latched with
  | none => s
  | some q =>
    let s := s.setPg h k { g with latched := none }
    if s.moveReady h k then s.pgLatched h k q
    else if q.ref.isSome ∨ q.verb.isSome then s.endMove (some q) .denied 6 else s

/-- The moves of a generator latched at a base mark: the last command wins, and wins over TGT_PT (R171, R564). -/
def State.pgMark (s : State) (h k : Nat) : State :=
  let g := s.pgSt h k
  let latch (s : State) (q : MoveReq) : State := s.setPg h k { s.pgSt h k with latched := some q, took := some q }
  let s := s.setPg h k { g with arrived := [], tgtReq := none, took := none }
  match g.arrived.getLast?, g.tgtReq with
  | some q, _ =>
    let s := s.overtaken g.arrived
    if s.keyStopped then s.endMove (some q) .denied 1
    else latch s q
  | none, some t =>
    if s.keyStopped || !s.targetOk h k t then s.logEvent 0x40F else latch s { target := t }
  | none, none => s

/-- TGT_PT is read once per base cycle; a change while it is usable is a request (R171). -/
def State.pgReadTarget (s : State) (h k : Nat) (d : PgDef) : State :=
  if d.tgt = NONE then s
  else
    let e := s.inp h d.tgt
    let g := s.pgSt h k
    let changed := match g.tgtPrev with | some v => decide (v ≠ e.value) | none => false
    if usable false e then
      s.setPg h k { g with tgtPrev := some e.value, tgtReq := if changed then some e.value else g.tgtReq }
    else s

/-- The base-cycle work of the generators of a home cell: RATE 1 references, target reads, REF_PT and DONE_PT (R167, R171). -/
def State.runPgs (s : State) (h : Nat) : State :=
  forL (s.pgsOf h) (fun e s =>
    let s := if e.2.rate = 1 then s.inStage (.base h) (fun s => ((s.pgTick h e.1 8 tBase).pgTake h e.1).pgBegin h e.1 8 tBase) else s
    let s := s.pgReadTarget h e.1 e.2
    let g := s.pgSt h e.1
    let s := s.roleWriteId e.2.refPt g.xRef
    s.roleWriteId e.2.done (if g.done && decide (g.st = .idle) then 1 else 0)) s

/-! Feedback (R164 to R166). -/

/-- The exact product COUNT × UNIT_PER_COUNT as a fraction. -/
def countPos (count : Word) (upc : F32) : Int × Nat :=
  let r := fmt32.toRat upc.toNat
  (count.toInt * r.1, r.2)

/-- The position of a count, formed exactly and rounded once (R164). -/
def axisX (count : Word) (upc off : F32) : F32 :=
  let p := countPos count upc
  let o := fmt32.toRat off.toNat
  F32.ofRat (p.1 * o.2 + o.1 * p.2) (p.2 * o.2)

/-- The offset at which a count stands at a position (R166). -/
def offsetFor (count : Word) (upc x : F32) : F32 :=
  let p := countPos count upc
  let o := fmt32.toRat x.toNat
  F32.ofRat (o.1 * p.2 - p.1 * o.2) (p.2 * o.2)

/-- The feedback of one sub-cycle: position, raw velocity, and whether it is usable (R164, R165). -/
def State.feedback (s : State) (d : AxisDef) (st : AxisState) : AxisState × F32 × Bool :=
  if d.fbPt then
    if st.fbIn.2 then
      let x := st.fbIn.1
      ({ st with x := x, xPrev := x, setPos := none }, F32.div (F32.sub x st.xPrev) tFast, true)
    else ({ st with setPos := none }, 0, false)
  else
    let e := s.conv.encs.at' d.encCh {}
    if e.faultNow then (st, 0, false)
    else
      let c := e.sampled
      let off := match st.setPos with | some x => offsetFor c d.unitPerCount x | none => st.posOffset
      let dc := F32.ofInt (c - st.countPrev).toInt
      ({ st with countPrev := c, posOffset := off, x := axisX c d.unitPerCount off, setPos := none },
       F32.div (F32.mul dc d.unitPerCount) tFast, true)

/-! The axis law (R168, R179). -/

/-- What one execution computes: I, u_raw, u and whether the increment was withheld. -/
structure AxisOut where
  i : F32
  uRaw : F32
  u : F32
  hold : Bool
deriving DecidableEq, Repr

/-- The law in POS and VEL: reference velocity `vc`, feed-forward velocity `vf` and acceleration; with a preload reference the integrator is placed instead (R144, R168). -/
def State.axisLaw (s : State) (h : Nat) (d : AxisDef) (st : AxisState) (vc vf aRef : F32) : AxisOut :=
  let ev := F32.sub vc st.vFilt
  let p := F32.mul (s.gain h d.gainTab ev) ev
  let fc := s.fricCog h d.fricTab d.cogTab d.fricEn d.cogEn d.v0 st.x vf
  let ff := F32.add (F32.add (F32.mul d.kaf aRef) fc.1) fc.2
  match st.preload with
  | some r =>
    { i := F32.clamp (F32.sub r (F32.add p ff)) d.outLo d.outHi, uRaw := r, u := F32.clamp r d.outLo d.outHi, hold := false }
  | none =>
    let di := if d.iEn && F32.lt 0 d.ti then F32.div (F32.mul p tFast) d.ti else 0
    let i := if d.iEn then advance st.i di (F32.add p ff) d.outLo d.outHi else st.i
    let uRaw := F32.add (F32.add p i) ff
    { i := i, uRaw := uRaw, u := F32.clamp uRaw d.outLo d.outHi, hold := !F32.eq di 0 && !F32.eq i (F32.add st.i di) }

/-- VC moves toward JOG_PT by at most A_MAX × T_f; an unusable JOG_PT ramps it to 0 (R179). -/
def State.jog (s : State) (h : Nat) (d : AxisDef) (st : AxisState) : F32 :=
  let e := s.inp h d.jog
  let goal := if d.jog ≠ NONE ∧ usable false e then e.value else 0
  let step := F32.mul (s.pgSt h d.pg).a tFast
  let up := F32.add st.vc step
  let dn := F32.sub st.vc step
  if F32.lt up goal then up else if F32.lt goal dn then dn else goal

/-- The output of an axis that runs, in its mode (R168, R179). -/
def State.axisRun (s : State) (h : Nat) (d : AxisDef) (st : AxisState) : AxisState :=
  let take (st : AxisState) (o : AxisOut) : AxisState :=
    let sat := F32.lt d.outHi o.uRaw || F32.lt o.uRaw d.outLo
    { st with i := o.i, uPrev := o.u, iHold := o.hold, sat := sat, satRun := if sat then st.satRun + 1 else 0
              resumed := st.resumed || st.preload.isSome, preload := none }
  match st.mode with
  | .pos =>
    let g := s.pgSt h d.pg
    let vc := F32.add (F32.mul d.kp (F32.sub g.xRef st.x)) (F32.mul d.kvf g.vRef)
    take st (s.axisLaw h d st vc g.vRef g.aRef)
  | .vel =>
    let vc := if st.preload.isSome then st.vc else s.jog h d st
    let st : AxisState := { st with vcPrev := st.vc, vc := vc }
    take st (s.axisLaw h d st vc vc (F32.div (F32.sub st.vc st.vcPrev) tFast))
  | .trq =>
    let e := s.inp h d.trq
    let ok := decide (d.trq ≠ NONE) && usable false e
    let hold := st.trqHold && !(ok && !F32.eq e.value st.trqEntry)
    let raw := match st.preload with
      | some r => r
      | none => if hold || !ok then st.uPrev else e.value
    take { st with trqHold := hold } { i := st.i, uRaw := raw, u := F32.clamp raw d.outLo d.outHi, hold := false }

/-! Faults (R180). -/

/-- The number of a class's bit in CEL_AXIS_STAT_a (R185). -/
def faultBit : AxisFault → Nat
  | .enc => 15
  | .fe => 14
  | .ovs => 13
  | .sat => 12
  | .soft => 11
  | .drv => 10

/-- The reaction of a class: 0 QSTOP, 1 DISABLE, 2 WARN (R180). -/
def AxisDef.reaction (d : AxisDef) : AxisFault → Nat
  | .enc => 1
  | .fe => bitsOf d.react 1 0
  | .ovs => bitsOf d.react 3 2
  | .sat => bitsOf d.react 5 4
  | .soft => 0
  | .drv => 1

/-- The fault causes of a sub-cycle; the position reference and the limits count only while the axis executes its law (R180). -/
def State.axisCauses (s : State) (h : Nat) (d : AxisDef) (st : AxisState) (fbOk law : Bool) : List AxisFault :=
  let fe := F32.lt d.feMax (F32.abs (F32.sub (s.pgSt h d.pg).xRef st.x))
  let drv := s.inp h d.drv
  (if fbOk then [] else [.enc]) ++
  (if law && decide (st.mode = .pos) && fe then [.fe] else []) ++
  (if F32.lt d.vFault (F32.abs st.vFilt) then [.ovs] else []) ++
  (if law && decide (d.satTicks ≤ st.satRun) then [.sat] else []) ++
  (if F32.lt st.x d.posLimLo || F32.lt d.posLimHi st.x then [.soft] else []) ++
  (if decide (d.drv ≠ NONE) && (decide (drv.value = 0) || !usable false drv) then [.drv] else [])

/-! States and one sub-cycle (R161, R174, R179, R181). -/

/-- The axis quits its states for one in which DISABLE_VAL stands: OFF or TRIPPED (R181). -/
def State.axisDown (s : State) (h a : Nat) (d : AxisDef) (st : AxisState) (dest : AxisSt) : State :=
  let s := s.pgIdle h d.pg st.x
  s.setAxis h a { st with st := dest, uPrev := d.disableVal, sat := false, satRun := 0, iHold := false, preload := none, trqHold := false }

/-- A quick stop of the axis: in VEL or TRQ the axis first switches to POS, the generator seeded from the actual state (R174). -/
def State.axisQuick (s : State) (h a : Nat) (d : AxisDef) (st : AxisState) : State :=
  let g := s.pgSt h d.pg
  let fromRef := decide (st.mode = .pos)
  let s := if fromRef then s.pgQuick h d.pg g.xRef g.vRef g.aRef d.aQstop d.jQstop
    else s.pgQuick h d.pg st.x st.vFilt 0 d.aQstop d.jQstop
  let e : AxisState := { st with st := .qstop, mode := .pos, trqHold := false
                                 preload := if fromRef then st.preload else some st.uPrev }
  s.setAxis h a e

/-- The enables and disables latched for sub-cycle 0; their completions wait for the sub-cycle and the cycle to be in time (R73, R75, R181). -/
def State.axisAble (s : State) (h a : Nat) (d : AxisDef) : State :=
  let reqs := (s.axisSt h a).able
  let s := s.setAxis h a { s.axisSt h a with able := [] }
  forL reqs (fun e s =>
    let st := s.axisSt h a
    let done (s : State) (x : Status) (detail result : Nat) : State :=
      s.fastGive h (.able { ref := e.2, status := x, final := true, detail := detail, result := result, data := [] })
    if s.keyStopped then done s .denied 1 0
    else if e.1 then
      if st.st = .off then
        if st.faults.isEmpty && !st.refLost then
          let s := s.pgIdle h d.pg st.x
          let on : AxisState := { st with st := .run, uPrev := d.disableVal, preload := some d.disableVal, satRun := 0
                                          vc := st.vFilt, vcPrev := st.vFilt, stopReq := false }
          done (s.setAxis h a on) .ok 0 s.time.n
        else done s .denied 6 0
      else done s .ok 0 s.time.n
    else
      let s := if st.st = .off then s else s.axisDown h a d st .off
      done s .ok 0 s.time.n) s

/-- The mode requested of an axis (R179). -/
def State.axisReq (s : State) (h : Nat) (d : AxisDef) (st : AxisState) : AxisMode :=
  if d.modePt = NONE then st.modeReq.getD st.mode
  else
    let e := s.inp h d.modePt
    if usable false e then (axisModeOf e.value.toNat).getD st.mode else st.mode

/-- The hand-over at sub-cycle 0; a request is used up where it applies, and the limits latched for the next plan hold for the stop (R173, R179). -/
def State.axisHand (s : State) (h a : Nat) (d : AxisDef) : State :=
  let st := s.axisSt h a
  let req := s.axisReq h d st
  let st : AxisState := { st with keyHeld := st.keyHeld && decide (req = st.mode) }
  let st : AxisState := if st.st = .off ∨ st.st = .run then { st with modeReq := none } else st
  if req = st.mode then s.setAxis h a st
  else if st.st = .off then s.setAxis h a { st with mode := req }
  else if st.st ≠ .run then s
  else match req with
    | .pos =>
      let g := (s.pgSt h d.pg).limited
      let s := s.pgQuick h d.pg st.x st.vFilt 0 g.a g.j
      s.setAxis h a { st with mode := .pos, preload := some st.uPrev, trqHold := false }
    | .vel =>
      s.setAxis h a { st with mode := .vel, vc := st.vFilt, vcPrev := st.vFilt, preload := some st.uPrev, trqHold := false }
    | .trq =>
      s.setAxis h a { st with mode := .trq, trqHold := true, trqEntry := (s.inp h d.trq).value, preload := none }

/-- Faults that arise in a sub-cycle: latched, logged, and reacted to; DISABLE wins over QSTOP (R180, R181). -/
def State.axisFaults (s : State) (h a : Nat) (d : AxisDef) (fbOk : Bool) : State :=
  let st := s.axisSt h a
  let law := decide (st.st = .run) || decide (st.st = .qstop) || decide (st.st = .halt)
  let causes := s.axisCauses h d st fbOk law
  let st : AxisState := { st with causes := causes }
  if !law then s.setAxis h a st
  else
    let fresh := causes.filter (fun c => decide (c ∉ st.faults))
    let st : AxisState := { st with faults := st.faults ++ fresh }
    let trq := decide (st.mode = .trq)
    let off (c : AxisFault) : Bool := decide (d.reaction c = 1) || (trq && decide (d.reaction c = 0))
    let stop (c : AxisFault) : Bool := decide (d.reaction c = 0) && !trq
    let s := forL fresh (fun c s =>
      if off c || decide (d.reaction c = 2) || decide (st.st = .run) then s.fastGive h (.event 0x405 (faultBit c)) else s) s
    if fresh.any off then s.axisDown h a d st .tripped
    else if fresh.any stop && decide (st.st = .run) then s.axisQuick h a d st
    else s.setAxis h a st

/-- The stop plan of an axis in QSTOP has ended (R181). -/
def State.axisStopped (s : State) (h a : Nat) (d : AxisDef) : State :=
  let st := s.axisSt h a
  if st.st = .qstop ∧ (s.pgSt h d.pg).st = .idle then
    s.setAxis h a { st with st := if st.faults.isEmpty then .run else .halt }
  else s

/-- One sub-cycle of one axis (R161, R168). -/
def State.runAxis (s : State) (h a : Nat) (d : AxisDef) : State :=
  let t := markStamp s.time.n + 15625 * s.time.sub
  let f := s.feedback d (s.axisSt h a)
  let beta := F32.div tFast (F32.add tFast d.tvf)
  let st := f.1
  let st : AxisState := if f.2.2 then { st with vFilt := F32.add st.vFilt (F32.mul beta (F32.sub f.2.1 st.vFilt)) } else st
  let s := s.setAxis h a st
  let g := s.pgSt h d.pg
  let s := if g.seed then s.setPg h d.pg { g with seed := false, xRef := st.x } else s
  let s := if s.time.sub = 0 then (s.axisAble h a d).axisHand h a d else s
  let s := s.pgTick h d.pg 1 tFast
  let s := if s.time.sub = 0 then (s.pgTake h d.pg).pgBegin h d.pg 1 tFast else s
  let s := s.axisStopped h a d
  let st := s.axisSt h a
  let s := if st.stopReq then
      (let s := s.setAxis h a { st with stopReq := false }
       if st.st = .run then s.axisQuick h a d { st with stopReq := false } else s)
    else s
  let st := s.axisSt h a
  let s := match st.st with
    | .off | .tripped => s.setAxis h a { st with uPrev := d.disableVal }
    | _ => s.setAxis h a (s.axisRun h d st)
  let s := s.axisFaults h a d f.2.2
  let st := s.axisSt h a
  let s := if d.out = NONE then s else s.ownerWrite (idLocal d.out) st.uPrev t
  if d.posOut = NONE then s else s.ownerWrite (idLocal d.posOut) st.x t

/-- The axes of a home cell at a fast mark, in ascending number (R161). -/
def State.runAxes (s : State) (h : Nat) : State := s.inStage (.fast h) (forL (s.axesOf h) (fun e s => s.runAxis h e.1 e.2))

/-- The points that the axes of a home cell write. -/
def State.axisPoints (s : State) (h : Nat) : List Nat :=
  ((s.axesOf h).map (fun e => (if e.2.out = NONE then [] else [idLocal e.2.out]) ++
    (if e.2.posOut = NONE then [] else [idLocal e.2.posOut]))).flatten

/-- The half of the fast state that a fast overrun returns to (R75). -/
def State.fastSave (s : State) : State :=
  let hs := (List.range 64).filter (fun h => decide (s.axesOf h ≠ []))
  let pts := (hs.map s.axisPoints).flatten
  { s with fast := { axes := s.axes, pgs := s.pgs, work := pts.foldl (fun t p => t.put p (s.work p)) [] } }

/-- The owner's half of a point as an earlier state holds it; what came from outside the role stands, and the STALE mark of a torn clause that no standing full write has ended (R73, R75, R87). -/
def undoneWork (cur old : PointWork) : PointWork :=
  { cur with own := old.own, written := old.written, ownTime := old.ownTime, updateN := old.updateN, wrote := old.wrote, inQ := old.inQ, torn := cur.torn || old.torn }

/-- A command changes an axis: the working state, and the state to which a fast overrun reverts (R75). -/
def State.cmdAxis (s : State) (h a : Nat) (f : AxisState → AxisState) : State :=
  let k := h * 32 + a
  let s := s.setAxis h a (f (s.axisSt h a))
  match s.fast.axes.look k with
  | some x => { s with fast := { s.fast with axes := s.fast.axes.put k (f x) } }
  | none => s

/-- What a home cell's fast sub-cycle gives out stands (R73, R75). -/
def State.fastStand (s : State) (h : Nat) : State :=
  let l := s.fab.fastOut.filter (fun e => decide (e.1 = h))
  let s : State := { s with fab := { s.fab with fastOut := s.fab.fastOut.filter (fun e => decide (e.1 ≠ h)) } }
  forL l (fun e s => match e.2 with
    | .cpl c => s.post c
    | .able c => { s with fab := { s.fab with done := s.fab.done ++ [(h, c)] } }
    | .moved v ok => { s with fab := { s.fab with moveDone := s.fab.moveDone ++ [(v, ok)] } }
    | .event code v => s.logEvent code v) s

/-- A fast overrun of a home cell's axes: state reverts, outputs keep their previous values, and nothing is given out; requests that arrived meanwhile stay (R75). -/
def State.fastRevert (s : State) (h : Nat) : State :=
  let s := forL (s.axesOf h) (fun e s =>
    let was := s.fast.axes.at' (h * 32 + e.1) (coldAxis s.runPoints e.2)
    s.setAxis h e.1 was) { s with fab := { s.fab with fastOut := s.fab.fastOut.filter (fun e => decide (e.1 ≠ h)) } }
  let s := forL (s.pgsOf h) (fun e s =>
    if e.2.rate = 0 then
      let was := s.fast.pgs.at' (h * 8 + e.1) (coldPg e.2)
      let now := s.pgSt h e.1
      s.setPg h e.1 { was with arrived := now.arrived, tgtReq := now.tgtReq, tgtPrev := now.tgtPrev }
    else s) s
  forL (s.axisPoints h) (fun p s => match s.fast.work.look p with
    | some w => s.onWork p (fun x => undoneWork x w)
    | none => s) s

/-- An axis and its generator at a warm restart or a release from SAFE: a RUN axis holds the position it is found at (R77, R182). -/
def State.axisResume (s : State) (h a : Nat) (d : AxisDef) (restart : Bool) : State :=
  let st := s.axisSt h a
  let g := s.pgSt h d.pg
  let s := if g.st = .idle then s else s.pgIdle h d.pg st.x
  let s := if st.st = .run then s.setPg h d.pg { s.pgSt h d.pg with seed := true } else s
  let st : AxisState := { st with preload := if st.st = .run then some st.uPrev else st.preload, satRun := 0 }
  let lost := restart && !d.fbPt && !((s.img.run.bind (fun i => i.conv.bind (fun c => c.encs.find? (fun e => decide (e.ch = d.encCh))))).any (fun e => decide (e.mode = 2)))
  s.setAxis h a (if lost then { st with st := .off, refLost := true } else st)

/-! Charges (R183, R184). -/

/-- The steps of one axis in each sub-cycle (R183). -/
def axisCharge (tables : Tab TableDef) (h : Nat) (ssi : Bool) (d : AxisDef) : Nat :=
  44 + (if d.fbPt then 10 else if ssi then 14 else 8) + 16 + 10 +
  gainCharge (match tables.look (h * 65536 + d.gainTab) with | some t => t.pairs.length | none => 1) +
  18 * b2n d.iEn + 8 + 4 + 28 * b2n d.fricEn + 24 * b2n d.cogEn + 30 + 36

/-- The steps of the generators of a cell in each base cycle (R184). -/
def pgCharge (d : PgDef) : Nat := 420 + (if d.rate = 1 then 30 else 0)

/-! The axis and profile section (R163, R167). -/

/-- An axis record read from its bytes (R163). -/
def axisDefOf (r : List Byte) : AxisDef :=
  { axis := fieldLE r 0 1, flags := fieldLE r 1 1, pg := fieldLE r 2 1, encCh := fieldLE r 3 1, initMode := fieldLE r 4 1
    start := fieldLE r 5 1, gainTab := fieldLE r 6 2, fb := fieldLE r 8 4, out := fieldLE r 0x0C 4, modePt := fieldLE r 0x10 4
    jog := fieldLE r 0x14 4, trq := fieldLE r 0x18 4, posOut := fieldLE r 0x1C 4, drv := fieldLE r 0x20 4
    unitPerCount := wordLE r 0x24, posOffset := wordLE r 0x28, kp := wordLE r 0x2C, kvf := wordLE r 0x30, kaf := wordLE r 0x34
    ti := wordLE r 0x38, tvf := wordLE r 0x3C, outLo := wordLE r 0x40, outHi := wordLE r 0x44, disableVal := wordLE r 0x48
    feMax := wordLE r 0x4C, vFault := wordLE r 0x50, posLimLo := wordLE r 0x54, posLimHi := wordLE r 0x58, aQstop := wordLE r 0x5C
    jQstop := wordLE r 0x60, v0 := wordLE r 0x64, fricTab := fieldLE r 0x68 2, cogTab := fieldLE r 0x6A 2
    satTicks := fieldLE r 0x6C 2, react := fieldLE r 0x6E 2 }

/-- A generator record read from its bytes (R167). -/
def pgDefOf (r : List Byte) : PgDef :=
  { pg := fieldLE r 0 1, rate := fieldLE r 1 1, refPt := fieldLE r 4 4, vMax := wordLE r 8, aMax := wordLE r 0x0C
    jMax := wordLE r 0x10, tgt := fieldLE r 0x14 4, done := fieldLE r 0x18 4 }

/-- A finite value above 0. -/
def finPos (x : F32) : Bool := F32.fin x && F32.lt 0 x

/-- The checks of one axis record against its own fields (R163). -/
def axisRecordOk (r : List Byte) (d : AxisDef) : Bool :=
  let noMode := decide (d.modePt = NONE)
  decide (d.axis < 32) && decide (d.flags < 16) && decide (d.pg < 8) && (d.fbPt || decide (d.encCh < 32)) && decide (d.initMode < 3) &&
  decide (d.start < 2) && F32.fin d.unitPerCount && !F32.eq d.unitPerCount 0 && F32.fin d.posOffset && finNonneg d.kp &&
  F32.fin d.kvf && F32.fin d.kaf && finNonneg d.ti && finNonneg d.tvf && F32.fin d.outLo && F32.fin d.outHi &&
  F32.le d.outLo d.outHi && F32.fin d.disableVal && finPos d.feMax && finPos d.vFault && F32.fin d.posLimLo && F32.fin d.posLimHi &&
  F32.lt d.posLimLo d.posLimHi && finPos d.aQstop && finPos d.jQstop && finNonneg d.v0 && decide (1 ≤ d.satTicks) &&
  decide (d.react < 64) && decide (bitsOf d.react 1 0 ≠ 3) && decide (bitsOf d.react 3 2 ≠ 3) && decide (bitsOf d.react 5 4 ≠ 3) &&
  !missing d.fbPt d.fb && !missing true d.out && !missing (!(noMode && decide (d.initMode ≠ 1))) d.jog &&
  !missing (!(noMode && decide (d.initMode ≠ 2))) d.trq && decide ((r.drop 0x70).all (fun b => b = 0))

/-- The checks of one generator record against its own fields (R167). -/
def pgRecordOk (r : List Byte) (d : PgDef) : Bool :=
  decide (d.pg < 8) && decide (d.rate < 2) && decide (fieldLE r 2 2 = 0) && decide (fieldLE r 0x1C 4 = 0) &&
  !missing (decide (d.rate = 1)) d.refPt && finPos d.vMax && finPos d.aMax && finPos d.jMax

/-- The axis and profile section of a cell: as many 128-byte axis records as its length leaves beside 32-byte generator records; ITEMS counts both (R163, R167). -/
def parseAxes (b : List Byte) (items cell dev : Nat) : Tab AxisDef × Tab PgDef × List Rej :=
  let n := (b.length - 32 * items) / 96
  let ars := recordsOf b 128 n
  let prs := recordsOf (b.drop (128 * n)) 32 (items - n)
  let as := ars.map axisDefOf
  let ps := prs.map pgDefOf
  let obj (k : Nat) := dev * 2 ^ 17 + cell * 2 ^ 11 + k
  (as.foldl (fun t d => t.put (cell * 32 + d.axis) d) [], ps.foldl (fun t d => t.put (cell * 8 + d.pg) d) [],
   need (decide (n ≤ items ∧ b.length = 128 * n + 32 * (items - n))) 0x0008 ++
   need (ascending (as.map (·.axis)) && ascending (ps.map (·.pg))) 0x0008 ++
   ((ars.zip as).map (fun e => need (axisRecordOk e.1 e.2) 0x000B (obj e.2.axis))).flatten ++
   ((prs.zip ps).map (fun e => need (pgRecordOk e.1 e.2) 0x000B (obj e.2.pg))).flatten)

/-- The checks of an axis against points and tables; `fastPt` tells which points a fast-cycle frame or a DAC carries (R162, R163, R165). -/
def axisLinks (points : Tab PointDef) (tables : Tab TableDef) (fastOut fastIn : Nat → Bool) (dev cell : Nat) (d : AxisDef) : List Rej :=
  let obj := dev * 2 ^ 17 + cell * 2 ^ 11 + d.axis
  let f32 (id : Nat) := refChecks points dev id [0] obj
  f32 d.out ++ f32 d.jog ++ f32 d.trq ++ f32 d.posOut ++ refChecks points dev d.modePt [3] obj ++ refChecks points dev d.drv [2] obj ++
  (if d.fbPt then f32 d.fb ++ need (fastIn d.fb) 0x000B obj else []) ++
  ownedChecks points dev cell d.out obj ++ ownedChecks points dev cell d.posOut obj ++
  (match points.look (idLocal d.out) with | some p => need (p.output) 0x000B obj | none => []) ++
  (match points.look (idLocal d.modePt) with
   | some p => need (decide (d.modePt = NONE) || decide (p.format ≠ 3) || decide (p.enumCount = 3)) 0x000B obj
   | none => []) ++
  need (fastOut d.out) 0x000B obj ++
  tableChecks tables cell d.gainTab 0 true obj ++ tableChecks tables cell d.fricTab 1 d.fricEn obj ++
  tableChecks tables cell d.cogTab 2 d.cogEn obj

/-- The checks of a generator against points and axes: RATE 0 serves exactly one axis, and no axis is served twice (R163, R167). -/
def pgLinks (points : Tab PointDef) (axes : List AxisDef) (dev cell : Nat) (d : PgDef) : List Rej :=
  let obj := dev * 2 ^ 17 + cell * 2 ^ 11 + d.pg
  let n := (axes.filter (fun a => decide (a.pg = d.pg))).length
  refChecks points dev d.refPt [0] obj ++ refChecks points dev d.tgt [0] obj ++ refChecks points dev d.done [2] obj ++
  ownedChecks points dev cell d.refPt obj ++ ownedChecks points dev cell d.done obj ++
  need (if d.rate = 0 then decide (n = 1) else decide (n = 0)) 0x000C obj

/-- The generators that axes name are defined (R163). -/
def axisPgs (dev cell : Nat) (axes : List AxisDef) (pgs : List PgDef) : List Rej :=
  (axes.map (fun a =>
    let obj := dev * 2 ^ 17 + cell * 2 ^ 11 + a.axis
    need (pgs.any (fun g => decide (g.pg = a.pg))) 0x000C obj)).flatten

/-! Registers (R185). -/

/-- The code of an axis state (R185). -/
def axisStCode : AxisSt → Nat
  | .off => 0
  | .run => 1
  | .qstop => 2
  | .halt => 3
  | .tripped => 4

/-- CEL_AXIS_STAT_a as the state of an axis gives it (R185). -/
def axisStat (d : AxisDef) (st : AxisState) : Nat :=
  2 ^ 31 + axisStCode st.st * 2 ^ 28 + axisModeCode st.mode * 2 ^ 26 + b2n st.trqHold * 2 ^ 25 + b2n st.refLost * 2 ^ 24 +
  b2n st.sat * 2 ^ 23 + b2n st.iHold * 2 ^ 22 + b2n st.resumed * 2 ^ 21 +
  (([AxisFault.enc, .fe, .ovs, .sat, .soft, .drv].map (fun c => b2n (decide (c ∈ st.faults)) * 2 ^ faultBit c)).sum) + d.pg

/-- CEL_AXIS_STAT_a (R185). -/
def State.viewAxis (s : State) (h a : Nat) : Nat :=
  match s.axisDef h a with
  | some d => axisStat d (s.axisSt h a)
  | none => 0

/-- The code of a generator state. -/
def pgStCode : PgSt → Nat
  | .idle => 0
  | .moving => 1
  | .stopping => 2

/-- CEL_PG_STAT_g (R185). -/
def State.viewPg (s : State) (h k : Nat) : Nat :=
  match s.pgDef h k with
  | none => 0
  | some d =>
    let g := s.pgSt h k
    2 ^ 31 + pgStCode g.st * 2 ^ 29 + b2n g.pend.isSome * 2 ^ 28 + b2n g.quick * 2 ^ 27 + b2n g.jerkCut * 2 ^ 26 +
    d.rate * 2 ^ 25 + b2n g.limPend.isSome * 2 ^ 24 + g.seg

/-- CEL_AXIS_STAT_a is written: RESUMED clears where a 1 is written (R185). -/
def State.clearAxisStat (s : State) (h a v hw : Nat) : State :=
  if (s.axisDef h a).isSome then s.setAxis h a { s.axisSt h a with resumed := ((s.axisSt h a).resumed && !bitOf v 21) || bitOf hw 21 } else s

/-- CEL_PG_STAT_g is written: JERK_CUT clears where a 1 is written (R185). -/
def State.clearPgStat (s : State) (h k v hw : Nat) : State :=
  if (s.pgDef h k).isSome then s.setPg h k { s.pgSt h k with jerkCut := ((s.pgSt h k).jerkCut && !bitOf v 26) || bitOf hw 26 } else s

/-! Commands (R166, R171, R173, R174, R179, R181, R186). -/

/-- A reference names a defined axis of a LOOP cell (R186). -/
def State.axisThere (s : State) (r : Nat) : Bool :=
  decide (s.roleAt (idCell r) = roleLoop) && (s.axisDef (idCell r) (refObj r)).isSome
/-- A reference names a defined generator of a LOOP cell (R186). -/
def State.pgThere (s : State) (r : Nat) : Bool :=
  decide (s.roleAt (idCell r) = roleLoop) && (s.pgDef (idCell r) (refObj r)).isSome
/-- An axis reference out of its form or range (R160, R186). -/
def axisRefBad (r : Nat) : Bool := refBad r || decide (32 ≤ refObj r)
/-- A generator reference out of its form or range (R160, R186). -/
def pgRefBad (r : Nat) : Bool := refBad r || decide (8 ≤ refObj r)

/-- AXIS_READ: status, references and law state of 1–32 axes from the last sealed cut (R186). -/
def execAxisRead (ref : CmdRef) (args : List Nat) (s : State) : Out :=
  let l := (args.drop 1).take (argN args 0)
  .next (s.here (idDev (l.headD 0)) (l.all (fun r => !refBad r)) ref 0x0310 args (fun s =>
    s.command ref 0x0310 [badCount args 32, badAt (fun r => !axisRefBad r) l .invalid,
        badAt (fun r => decide (idDev r = idDev (l.headD 0))) l .invalid, noRoom ref (32 * l.length), badAt s.axisThere l .absent] []
      (fun ref s => s.complete ref .ok 0 0 ((l.map (fun r =>
        let h := idCell r
        let a := refObj r
        let st := s.cut.axes.at' (h * 32 + a) (s.axisSt h a)
        match s.axisDef h a with
        | some d =>
          let g := s.cut.pgs.at' (h * 8 + d.pg) (s.pgSt h d.pg)
          leBytes 4 (axisStat d st) ++ wordsBytes [st.x, st.vFilt, g.xRef, g.vRef, g.aRef, st.uPrev, st.i]
        | none => [])).flatten))))

/-- PG_MOVE (R171). -/
def execPgMove (ref : CmdRef) (args : List Nat) (s : State) : Out :=
  let r := argN args 0
  let h := idCell r
  let k := refObj r
  let t : F32 := BitVec.ofNat 32 (argN args 1)
  .next (s.here (idDev r) (!refBad r) ref 0x0311 args (fun s =>
    s.commandLong ref 0x0311 [(pgRefBad r, .invalid, 0), (!F32.fin t || (s.pgThere r && !s.targetOk h k t), .invalid, 1), (!s.pgThere r, .absent, 0)]
      [(!s.moveReady h k, .denied, 6)]
      (fun ref s =>
        let g := s.pgSt h k
        s.setPg h k { g with arrived := g.arrived ++ [{ target := t, ref := some ref }] })))

/-- AXIS_STOP: a quick stop in the next sub-cycle; never refused for the key (R174, R186). -/
def execAxisStop (ref : CmdRef) (args : List Nat) (s : State) : Out :=
  let r := argN args 0
  .next (s.here (idDev r) (!refBad r) ref 0x0312 args (fun s =>
    s.command ref 0x0312 [(axisRefBad r, .invalid, 0), (!s.axisThere r, .absent, 0)] []
      (fun ref s => (s.cmdAxis (idCell r) (refObj r) (fun x => { x with stopReq := true })).complete ref .ok)))

/-- AXIS_SET_MODE: DENIED when MODE_PT is not NONE (R179, R186). -/
def execAxisSetMode (ref : CmdRef) (args : List Nat) (s : State) : Out :=
  let r := argN args 0
  .next (s.here (idDev r) (!refBad r) ref 0x0313 args (fun s =>
    s.command ref 0x0313 [(axisRefBad r, .invalid, 0), (decide (3 ≤ argN args 1), .invalid, 1), (!s.axisThere r, .absent, 0)]
      [((match s.axisDef (idCell r) (refObj r) with | some d => decide (d.modePt ≠ NONE) | none => false), .denied, 6)]
      (fun ref s =>
        (s.cmdAxis (idCell r) (refObj r) (fun x => { x with modeReq := axisModeOf (argN args 1) })).complete ref .ok)))

/-- AXIS_ENABLE and AXIS_DISABLE share their checks: latched at the next base mark (R181). -/
def State.axisAbleCmd (s : State) (ref : CmdRef) (op : Nat) (args : List Nat) : State :=
  let r := argN args 0
  s.here (idDev r) (!refBad r) ref op args (fun s =>
    s.commandLong ref op [(axisRefBad r, .invalid, 0), (!s.axisThere r, .absent, 0)] []
      (fun ref s => s.latch { op := op, home := idCell r, obj := refObj r, args := args, ref := ref }))

/-- A latched enable or disable waits for sub-cycle 0 (R181). -/
def State.markAxisAble (s : State) (l : Latched) (en : Bool) : State :=
  let st := s.axisSt l.home l.obj
  s.setAxis l.home l.obj { st with able := st.able ++ [(en, l.ref)] }

/-- AXIS_ENABLE (R181). -/
def execAxisEnable (ref : CmdRef) (args : List Nat) (s : State) : Out := .next (s.axisAbleCmd ref 0x0314 args)

/-- AXIS_DISABLE (R181). -/
def execAxisDisable (ref : CmdRef) (args : List Nat) (s : State) : Out := .next (s.axisAbleCmd ref 0x0315 args)

/-- AXIS_RESET: faults clear when no cause is present; HALT returns to RUN and TRIPPED to OFF (R180, R181). -/
def execAxisReset (ref : CmdRef) (args : List Nat) (s : State) : Out :=
  let r := argN args 0
  .next (s.here (idDev r) (!refBad r) ref 0x0316 args (fun s =>
    let st := s.axisSt (idCell r) (refObj r)
    s.command ref 0x0316 [(axisRefBad r, .invalid, 0), (!s.axisThere r, .absent, 0)] [(!st.causes.isEmpty, .denied, 6)]
      (fun ref s =>
        (s.cmdAxis (idCell r) (refObj r) (fun x => { x with faults := [], st := match x.st with | .halt => .run | .tripped => .off | y => y, satRun := 0 })).complete ref .ok)))

/-- AXIS_SET_POS: DENIED unless the axis is OFF (R166). -/
def execAxisSetPos (ref : CmdRef) (args : List Nat) (s : State) : Out :=
  let r := argN args 0
  let x : F32 := BitVec.ofNat 32 (argN args 1)
  .next (s.here (idDev r) (!refBad r) ref 0x0317 args (fun s =>
    let st := s.axisSt (idCell r) (refObj r)
    s.command ref 0x0317 [(axisRefBad r, .invalid, 0), (!F32.fin x, .invalid, 1), (!s.axisThere r, .absent, 0)]
      [(decide (st.st ≠ .off), .denied, 6)]
      (fun ref s => (s.cmdAxis (idCell r) (refObj r) (fun y => { y with setPos := some x, refLost := false })).complete ref .ok)))

/-- PG_SET_LIMITS: latched for the next base mark (R173). -/
def execPgSetLimits (ref : CmdRef) (args : List Nat) (s : State) : Out :=
  let r := argN args 0
  let w (i : Nat) : F32 := BitVec.ofNat 32 (argN args i)
  .next (s.here (idDev r) (!refBad r) ref 0x0318 args (fun s =>
    s.command ref 0x0318 [(pgRefBad r, .invalid, 0), badAt finPos [w 1, w 2, w 3] .invalid 1, (!s.pgThere r, .absent, 0)] []
      (fun ref s => s.latch { op := 0x0318, home := idCell r, obj := refObj r, args := args, ref := ref })))

/-- Latched limits: in effect at the mark while the generator is IDLE, else at its next plan (R173, R564). -/
def State.markPgLimits (s : State) (l : Latched) : State :=
  if s.stoppedNow l.op then s.complete l.ref .denied 1
  else
    let w (i : Nat) : F32 := BitVec.ofNat 32 (argN l.args i)
    let g : PgState := { s.pgSt l.home l.obj with limPend := some (w 1, w 2, w 3) }
    (s.setPg l.home l.obj (if g.st = .idle then g.limited else g)).roleDone l.home l.ref .ok 0 s.time.n

end Sys2Proof.Machine
end

