-- ==== Sys2Proof/Machine/Conv.lean ====
section
/-! DEFINITION. Converters and their rotation, urgent sequences, DAC channels, encoders, digital pins, their section and commands (R291 to R313). -/

namespace Sys2Proof.Machine

/-- The state with the converter block's state changed. -/
def State.onConv (s : State) (f : ConvBlock → ConvBlock) : State := { s with conv := f s.conv }

/-- A logical converter's state. -/
def State.cv (s : State) (c : Nat) : ConvState := s.conv.convs.at' c {}
/-- The state with a logical converter's state replaced. -/
def State.setCv (s : State) (c : Nat) (x : ConvState) : State := s.onConv (fun b => { b with convs := b.convs.put c x })
/-- An encoder channel's state. -/
def State.enc (s : State) (n : Nat) : EncState := s.conv.encs.at' n {}
/-- The state with an encoder channel's state replaced. -/
def State.setEnc (s : State) (n : Nat) (x : EncState) : State := s.onConv (fun b => { b with encs := b.encs.put n x })

/-- The converter section of the running image. -/
def State.convSec (s : State) : Option ConvSec := match s.img.run with | some i => i.conv | none => none

/-- The record a converter runs under (R309). -/
def State.cvDef (s : State) (c : Nat) : Option ConvDef :=
  match (s.cv c).old with
  | some d => some d
  | none => match s.convSec with | some x => x.convs[c]? | none => none

/-- The record of an encoder channel. -/
def State.encDef (s : State) (n : Nat) : Option EncDef := match s.convSec with | some x => x.encs[n]? | none => none

/-- stamp64 of a nanosecond count of D. -/
def stampAt (dNs : Nat) : Nat := stamp64 (clockOf dNs 0)

/-! The configuration section (R308). -/

/-- An entry record. -/
def entryOf (r : List Byte) : EntryDef :=
  { input := fieldLE r 0 1, diff := bitOf (fieldLE r 1 1) 0, gain := wordLE r 4, offset := wordLE r 8 }

/-- A converter record. -/
def convOf (r : List Byte) : ConvDef :=
  { conv := fieldLE r 0 1, enable := decide (fieldLE r 1 1 = 1), len := fieldLE r 2 1, align := fieldLE r 3 1, urgCount := fieldLE r 4 1
    urgPin := fieldLE r 5 1, urgEdge := fieldLE r 6 1
    entries := (recordsOf (r.drop 0x20) 16 32).map entryOf, urgent := (recordsOf (r.drop 0x220) 16 4).map entryOf }

/-- A DAC record. -/
def dacOf (r : List Byte) : DacDef := { ch := fieldLE r 0 1, rate := fieldLE r 1 1, srcPt := fieldLE r 4 4, gain := wordLE r 8, offset := wordLE r 12 }

/-- An encoder record. -/
def encOf (r : List Byte) : EncDef :=
  let f := fieldLE r 2 1
  { ch := fieldLE r 0 1, mode := fieldLE r 1 1, invert := bitOf f 0, gray := bitOf f 1, parity := bitOf f 2, index := bitOf f 3
    filter := fieldLE r 3 1, bits := fieldLE r 4 1, clkKhz := fieldLE r 6 2 }

/-- A pin record. -/
def pinOf (r : List Byte) : PinDef := { pin := fieldLE r 0 1, dir := fieldLE r 1 1, srcPt := fieldLE r 4 4 }

/-- All bytes of a range are 0. -/
def zeros (r : List Byte) (off n : Nat) : Bool := (slice r off n).all (fun y => decide (y = 0))

/-- The ranges of an entry record; one beyond those in use is all 0 (R308). -/
def entryOk (r : List Byte) (used : Bool) : Bool :=
  if used then
    let e := entryOf r
    decide (fieldLE r 1 1 ≤ 1) && decide (e.input < (if e.diff then 32 else 64)) && zeros r 2 2 && zeros r 12 4 && F32.fin e.gain && F32.fin e.offset
  else zeros r 0 16

/-- The ranges of a converter record (R308). -/
def convRanges (r : List Byte) : Bool :=
  let d := convOf r
  decide (fieldLE r 1 1 ≤ 1) && decide (1 ≤ d.len) && decide (d.len ≤ 32) && decide (d.align ≤ 1) && decide (d.urgCount ≤ 4) &&
  (if d.urgPin = 0xFF then decide (d.urgEdge = 0) else decide (d.urgPin ≤ 7) && decide (1 ≤ d.urgEdge) && decide (d.urgEdge ≤ 3)) &&
  zeros r 7 25 &&
  (List.range 32).all (fun e => entryOk (slice r (0x20 + 16 * e) 16) (decide (e < d.len))) &&
  (List.range 4).all (fun i => entryOk (slice r (0x220 + 16 * i) 16) (decide (i < d.urgCount)))

/-- LEAD of an SSI channel in ns (R305). -/
def ssiLead (d : EncDef) : Nat := 500 * ceilDiv ((d.bits + b2n d.parity + 1) * 1000000) (500 * d.clkKhz) + 500

/-- The ranges of an encoder record (R305, R308). -/
def encRanges (r : List Byte) : Bool :=
  let d := encOf r
  decide (d.mode ≤ 2) && decide (fieldLE r 2 1 < 16) && decide (d.filter ≤ 7) && zeros r 5 1 && zeros r 8 8 &&
  (if d.mode = 2 then decide (8 ≤ d.bits) && decide (d.bits ≤ 32) && decide (100 ≤ d.clkKhz) && decide (d.clkKhz ≤ 4000) && decide (ssiLead d ≤ 15000)
   else decide (d.bits = 0) && decide (d.clkKhz = 0))

/-- The section: content and faults of its own form (R308). -/
def parseConv (b : List Byte) (items : Nat) : ConvSec × List Rej :=
  let cs := recordsOf (b.drop 32) 608 16
  let ds := recordsOf (b.drop 9760) 16 16
  let es := recordsOf (b.drop 10016) 16 32
  let ps := recordsOf (b.drop 10528) 8 32
  let x : ConvSec := { convs := cs.map convOf, dacs := ds.map dacOf, encs := es.map encOf, pins := ps.map pinOf }
  let idx (n : Nat) (l : List (List Byte)) : List Rej := (((List.range n).zip l).map (fun e => need (decide (fieldLE e.2 0 1 = e.1)) 0x0008 e.1)).flatten
  let dacOk (r : List Byte) : Bool := decide (fieldLE r 1 1 ≤ 2) && zeros r 2 2 && F32.fin (wordLE r 8) && F32.fin (wordLE r 12)
  let pinOk (r : List Byte) : Bool := decide (fieldLE r 1 1 ≤ 2) && zeros r 2 2
  (x, need (decide (b.length = 10784) && decide (items = 96)) 0x0008 ++
    need (decide (fieldLE b 0 4 = 16 + 16 * 2 ^ 8 + 32 * 2 ^ 16 + 32 * 2 ^ 24) && zeros b 4 28) 0x000B ++
    idx 16 cs ++ idx 16 ds ++ idx 32 es ++ idx 32 ps ++
    (((List.range 16).zip cs).map (fun e => need (convRanges e.2) 0x000B e.1)).flatten ++
    (((List.range 16).zip ds).map (fun e => need (dacOk e.2) 0x000B e.1)).flatten ++
    (((List.range 32).zip es).map (fun e => need (encRanges e.2) 0x000B e.1)).flatten ++
    (((List.range 32).zip ps).map (fun e => need (pinOk e.2) 0x000B e.1)).flatten)

/-- A point owned by a cell of the device (R302, R307). -/
def cellOwned (points : Tab PointDef) (dev id : Nat) (bool : Bool) : Bool :=
  decide (bitsOf id 31 25 = 0) && decide (idDev id = dev) &&
  (match points.look (idLocal id) with | some d => d.byCell && (!bool || decide (d.format = 2)) | none => false)

/-- The checks of DAC and pin sources (R302, R307). -/
def convLinks (points : Tab PointDef) (axes : Tab AxisDef) (dev : Nat) (x : ConvSec) : List Rej :=
  (x.dacs.map (fun d => if d.rate = 0 then [] else
    need (cellOwned points dev d.srcPt false) 0x000C d.srcPt ++
    need (decide (d.rate ≠ 2) || axes.any (fun e => decide (e.2.out = d.srcPt))) 0x000B d.ch)).flatten ++
  (x.pins.map (fun p => if p.dir = 2 then
    (if p.srcPt = NONE then need false 0x000C p.pin
     else need (cellOwned points dev p.srcPt false) 0x000C p.srcPt ++ need (!cellOwned points dev p.srcPt false || cellOwned points dev p.srcPt true) 0x000B p.pin)
    else [])).flatten

/-- The kind of a channel reference (R298). -/
def chanKind (o : Nat) : Nat := bitsOf o 15 12

/-- The check of a local-input point's channel reference (R298). -/
def chanChecks (x : Option ConvSec) (d : PointDef) (obj : Nat) : List Rej :=
  if d.ownerKind ≠ 1 then [] else
  let o := d.owner % 65536
  let cv := match x with | some x => x.convs[o % 16]? | none => none
  let en := match x with | some x => x.encs[o % 32]? | none => none
  let pin := match x with | some x => x.pins[o % 32]? | none => none
  let on (f : ConvDef → Bool) : Bool := match cv with | some c => c.enable && f c | none => false
  let src : Bool × List Nat × Nat := match chanKind o with
    | 0 => (on (fun c => decide (bitsOf o 8 4 < c.len)), [0, 1], bitsOf o 11 9)
    | 1 => (on (fun c => decide (bitsOf o 5 4 < c.urgCount)), [0, 1], bitsOf o 11 6)
    | 2 => (on (fun c => decide (bitsOf o 8 4 < c.len)), [2], bitsOf o 11 9)
    | 5 => ((match pin with | some p => decide (p.dir = 1) | none => false), [2], bitsOf o 11 5)
    | _ => ((match en with | some e => decide (e.mode ≠ 0) | none => false), [1], bitsOf o 11 5)
  need (decide (chanKind o ≤ 5) && decide (src.2.2 = 0) && decide (d.format ∈ src.2.1)) 0x000B obj ++ need (decide (5 < chanKind o) || src.1) 0x000C obj

/-! Codes and registers (R294, R295, R297). -/

/-- The code and OVR of an input level in LSB, as the converter's ideal scale gives it (R294). -/
def codeOf (diff : Bool) (lsb : Int) : Int × Bool :=
  let lo : Int := if diff then -131072 else 0
  let hi : Int := if diff then 131071 else 262143
  (max lo (min hi lsb), decide (lsb < lo - 1) || decide (hi + 1 < lsb))

/-- A result as its register shows it (R295). -/
def resWord (align : Nat) (r : Option Result) : Nat :=
  match r with
  | none => 0
  | some r => if align = 1 then (twos 18 r.code) * 2 ^ 14 else if r.diff then twos 32 r.code else twos 18 r.code

/-- ADC_RES_c_e as it reads (R295). -/
def State.viewRes (s : State) (c e : Nat) : Nat := resWord (s.rd Reg.ADC_SEQ_CTL_ALIGN [c]) ((s.cv c).results.look e)
/-- ADC_URES_c_i as it reads (R295). -/
def State.viewUres (s : State) (c i : Nat) : Nat := resWord (s.rd Reg.ADC_SEQ_CTL_ALIGN [c]) ((s.cv c).urgRes.look i)

/-- A read of ADC_RES_c_e captures the entry's OVR, DISP and number (R297). -/
def State.captureRes (s : State) (c e : Nat) : State :=
  let r := (s.cv c).results.look e
  let ovr := match r with | some r => r.ovr | none => false
  let disp := match r with | some r => r.disp | none => false
  ((s.wrb Reg.ADC_RES_STAT_OVR ovr [c]).wrb Reg.ADC_RES_STAT_DISP disp [c]).wr Reg.ADC_RES_STAT_ENTRY e [c]

/-! Conversions (R291, R296, R299 to R301). -/

/-- The registers that show an urgent sequence. -/
def State.urgShow (s : State) (c : Nat) : State :=
  (s.wrb Reg.ADC_URG_CTL_BUSY (s.cv c).busy [c]).wrb Reg.ADC_URG_CTL_PEND (s.cv c).pend [c]

/-- The urgent sequence starts: the first urgent entry samples 16 ns after the trigger; a conversion whose result is not written by then is aborted and waits behind the urgent entries (R300). -/
def State.urgStart (s : State) (c : Nat) (d : ConvDef) : State :=
  let x := s.cv c
  let t := s.runNs + 16
  let urg := (List.range d.urgCount).map (fun i =>
    { entry := i, urgent := true, run := s.run4, dNs := clockNs s.time.d + 16, n := s.time.n, disp := false, sampled := t : Conversion })
  let late (k : Conversion) : Conversion := { k with disp := true }
  let x : ConvState := match x.cur with
    | some k => if k.sampled + 250 ≤ t then { x with queue := urg } else { x with cur := urg.head?, queue := urg.drop 1 ++ [late k] }
    | none => { x with cur := urg.head?, queue := urg.drop 1 }
  let s := s.setCv c { x with busy := true }
  (s.wr Reg.ADC_URG_STAMP_STAMP ((stamp32 s.time.d + 16) % 2 ^ 32) [c]).urgShow c

/-- An urgent trigger of a logical converter (R299, R301). -/
def State.urgTrigger (s : State) (c : Nat) : State :=
  match s.cvDef c with
  | none => s
  | some d =>
    let x := s.cv c
    if !d.enable || decide (d.urgCount = 0) || !s.flag Reg.ADC_ROT_READY then s
    else if x.pend then (s.wr Reg.ADC_URG_CTL_LOST 1 [c]).count 0x3D1
    else if x.busy then (s.setCv c { x with pend := true }).urgShow c
    else s.urgStart c d

/-- ADC_URG_CTL_c.GO is written as 1 (R299). -/
def execAdcUrgGoWrite (conv : Fin 16) (s : State) : Out := .next (s.urgTrigger conv.val)

/-- An edge on a time pin triggers the converters that watch it (R299). -/
def State.urgPin (s : State) (pin : Nat) (rising : Bool) : State :=
  forL (List.range 16) (fun c s => match s.cvDef c with
    | some d => if d.urgPin = pin ∧ bitOf d.urgEdge (if rising then 0 else 1) then s.urgTrigger c else s
    | none => s) s

/-- The incoming core takes over logical converter NEXT and the outgoing core calibrates (R292). -/
def State.handover (s : State) : State :=
  let c := s.rd Reg.ADC_ROT_NEXT
  let q := s.rd Reg.ADC_ROT_CAL_CORE
  let w := s.reg Reg.ADC_MAP [c / 4]
  let lo := 8 * (c % 4)
  let p := bitsOf w (lo + 4) lo
  let s := s.setReg Reg.ADC_MAP (setBits w (lo + 4) lo q) [c / 4]
  let s := (s.wr Reg.ADC_ROT_CAL_CORE p).wr Reg.ADC_ROT_NEXT (c + 1)
  s.onConv (fun b => { b with rot := { b.rot with misses := 0, deferred := false } })

/-- A converter is back on its grid at a start tick: a deferred handover, a spliced record and a held trigger take their turn (R293, R301, R309). -/
def State.backOnGrid (s : State) (c : Nat) : State :=
  let x := s.cv c
  let s := (s.setCv c { x with busy := false }).urgShow c
  let s := if s.conv.rot.deferred ∧ s.rd Reg.ADC_ROT_NEXT = c then s.handover else s
  let x := s.cv c
  if x.old.isSome then s.setCv c { x with old := none, s := 0, results := [], urgRes := [] } else s

/-- A converter at a start tick: its scheduled conversion starts, or waits behind an urgent sequence (R296, R300). -/
def State.convStart (s : State) (c : Nat) : State :=
  match s.cvDef c with
  | none => s
  | some d =>
    if !d.enable then s
    else
      let s := if (s.cv c).busy && (s.cv c).cur.isNone then s.backOnGrid c else s
      let d := (s.cvDef c).getD d
      let x := s.cv c
      let k : Conversion := { entry := x.s % d.len, urgent := false, run := s.grid4, dNs := s.gridNs, n := s.time.n, disp := false, sampled := s.runNs }
      let x : ConvState := { x with s := x.s + 1 }
      if !s.flag Reg.ADC_ROT_READY then s.setCv c x
      else match x.cur with
        | some _ => s.setCv c { x with queue := x.queue ++ [{ k with disp := true }] }
        | none =>
          let s := s.setCv c { x with cur := some k }
          if x.pend then (s.setCv c { s.cv c with pend := false }).urgStart c d else s

/-- A start tick: conversions start, encoder counts are sampled, and acquisition units that read them take their samples; `full` names the units whose queue is full (R267, R296, R304). -/
def execConverterStart (full : List Nat) (s : State) : Out :=
  let s := if s.conv.vanaLow then s else forL (List.range 16) (fun c s => s.convStart c) s
  let s := forL (List.range 32) (fun n s =>
    match s.encDef n with
    | some d => if d.mode = 0 then s else s.setEnc n { s.enc n with sampled := (s.enc n).count }
    | none => s) s
  .next (forL (List.range 24) (fun u s => match (s.unit u).preset with
    | some p => if p.srcKind = 1 then
        s.acqSample u (decide (u ∈ full)) { word := (s.enc p.src).sampled, run := s.grid4, dNs := s.gridNs, n := s.time.n } else s
    | none => s) s)

/-- A scheduled result's acquisition word (R268). -/
def acqWord (r : Result) : Word :=
  BitVec.ofNat 32 (b2n r.ovr * 2 ^ 31 + b2n r.disp * 2 ^ 30 + (if r.diff then twos 30 r.code else twos 18 r.code))

/-- The next conversion of a converter starts at the present result time (R300). -/
def State.convNext (s : State) (c : Nat) : State :=
  let x := s.cv c
  match x.queue with
  | k :: t => s.setCv c { x with cur := some { k with sampled := s.runNs }, queue := t }
  | [] => s.setCv c { x with cur := none }

/-- The conversion in progress writes its result; the operand is the input level in LSB, `full` the acquisition units whose queue is full (R268, R297, R300). -/
def execConversionResult (conv : Fin 16) (lsb : Int) (full : List Nat) (s : State) : Out :=
  let c := conv.val
  let x := s.cv c
  match x.cur, s.cvDef c with
  | some k, some d =>
    let e := if k.urgent then d.urgent.getD k.entry (entryOf []) else d.entries.getD k.entry (entryOf [])
    let v := codeOf e.diff lsb
    let r : Result := { code := v.1, ovr := v.2, disp := k.disp, diff := e.diff, dNs := k.dNs }
    if k.urgent then
      let s := s.setCv c { x with urgRes := x.urgRes.put k.entry r }
      let s := s.wr Reg.ADC_URG_CTL_OVR_U (setBits (s.rd Reg.ADC_URG_CTL_OVR_U [c]) k.entry k.entry (b2n v.2)) [c]
      let s := if k.entry + 1 = d.urgCount then (s.wr Reg.ADC_URG_CTL_DONE 1 [c]).count 0x3D0 else s
      .next (s.convNext c)
    else
      let s := s.setCv c { x with results := x.results.put k.entry r }
      let s := s.wr Reg.ADC_OVR_OVR (setBits (s.rd Reg.ADC_OVR_OVR [c]) k.entry k.entry (b2n v.2)) [c]
      let s := s.wr Reg.ADC_NEW_NEW (setBits (s.rd Reg.ADC_NEW_NEW [c]) k.entry k.entry 1) [c]
      let s := if k.disp then s.count 0x3D7 else s
      let s := s.convNext c
      let us := s.unitsOn 0 (c + 16 * k.entry)
      .next (forL us (fun u s =>
        s.acqSample u (decide (u ∈ full)) { word := acqWord r, run := k.run, dNs := k.dNs, n := k.n }) s)
  | _, _ => .next s

/-! Rotation and calibration (R292, R293). -/

/-- The quick calibration completes: results are produced from the next start (R292). -/
def execQuickCalDone (s : State) : Out := .next (if s.conv.vanaLow then s else s.wr Reg.ADC_ROT_READY 1)

/-- A core is retired: rotation stops (R293). -/
def State.retireCore (s : State) (p : Nat) : State :=
  let s := s.wr Reg.ADC_CORE_FAIL (setBits (s.rd Reg.ADC_CORE_FAIL) p p 1)
  let s := ((s.wr Reg.ADC_ROT_DEGRADED 1).wr Reg.ADC_ROT_CAL_CORE 0x1F).countLog 0x3D3
  let l := s.conv.rot.cals
  let s := s.onConv (fun b => { b with rot := { b.rot with cals := [], deferred := false } })
  forL l (fun e s => s.complete e.2 .denied 6) s

/-- A rotation boundary, with the mean and the largest difference of the shadow comparison in LSB (R292, R293). -/
def execRotationBoundary (mean peak : Nat) (s : State) : Out :=
  if !s.flag Reg.ADC_ROT_READY || s.flag Reg.ADC_ROT_DEGRADED then .next s
  else if 16 < mean ∨ 256 < peak then
    let m := s.conv.rot.misses + 1
    let s := (s.wr Reg.ADC_ROT_MISMATCH 1).countLog 0x3D2
    let s := s.onConv (fun b => { b with rot := { b.rot with misses := m } })
    .next (if 2 ≤ m then s.retireCore (s.rd Reg.ADC_ROT_CAL_CORE) else s)
  else if (s.cv (s.rd Reg.ADC_ROT_NEXT)).busy then .next (s.onConv (fun b => { b with rot := { b.rot with deferred := true } }))
  else .next s.handover

/-- The calibrating core completes its full calibration, its coefficients within their limits or not (R292, R293). -/
def execFullCalDone (good : Bool) (s : State) : Out :=
  if s.flag Reg.ADC_ROT_DEGRADED then .next s
  else
    let p := s.rd Reg.ADC_ROT_CAL_CORE
    let bad := if good then 0 else s.conv.rot.badCal.at' p 0 + 1
    let s := s.wr Reg.ADC_CORE_FULL_FULL (setBits (s.rd Reg.ADC_CORE_FULL_FULL) p p 1)
    let s := s.onConv (fun b => { b with rot := { b.rot with badCal := b.rot.badCal.put p bad } })
    if 2 ≤ bad then .next (s.retireCore p)
    else
      let done := s.conv.rot.cals.filter (fun e => e.1 = p)
      let s := s.onConv (fun b => { b with rot := { b.rot with cals := b.rot.cals.filter (fun e => !(e.1 == p)) } })
      .next (forL done (fun e s => s.complete e.2 .ok) s)

/-- Local-input points that the companion die's converters and encoders own (R298, R535). -/
def State.dieInputs (s : State) : List (Nat × PointDef) :=
  match s.img.run with
  | some i => i.points.filter (fun e => decide (e.2.ownerKind = 1) && decide (chanKind e.2.owner ≤ 4))
  | none => []

/-- VANA below 4.5 V: converters, DACs and encoders in reset, their points ABSENT (R535). -/
def execVanaLow (s : State) : Out :=
  let cvs : Tab ConvState := s.conv.convs.map (fun e => (e.1, { s := e.2.s }))
  let refs := s.conv.encs.filterMap (fun e => e.2.preset)
  let s := forL refs (fun p s => s.complete p.2 .aborted) s
  let s := s.onConv (fun b => { b with vanaLow := true, convs := cvs, encs := [], dacs := [] })
  let s := (s.wr Reg.ADC_ROT_READY 0).wr Reg.PWR_STAT_VANA_OK 0
  let s := forN 16 (fun c s => (s.urgShow c).wr Reg.DAC_STAT_DRIVEN 0 [c]) s
  .next (forL s.dieInputs (fun e s => s.onWork e.1 (fun w => { w with absent := true })) s)

/-- VANA above 4.6 V: the quick calibration runs again, and the points wait for values (R535). -/
def execVanaReturn (s : State) : Out :=
  let s := (s.onConv (fun b => { b with vanaLow := false })).wr Reg.PWR_STAT_VANA_OK 1
  .next (forL s.dieInputs (fun e s => s.onWork e.1 (fun w => { w with absent := false, written := false })) s)

/-! Points from local inputs (R298). -/

/-- A converter result as a point's value (R298). -/
def resPoint (format : Nat) (e : EntryDef) (r : Result) : Word :=
  if format = 1 then BitVec.ofInt 32 r.code else F32.add (F32.mul (F32.ofInt r.code) e.gain) e.offset

/-- What the source of a local-input point gives at a base mark: value and nanoseconds of D; none before its first value. -/
def State.localInput (s : State) (d : PointDef) : Option (Word × Nat) :=
  let o := d.owner % 65536
  let c := o % 16
  let mark := s.time.n * 125000
  match chanKind o with
  | 0 => ((s.cv c).results.look (bitsOf o 8 4)).map (fun r =>
      (resPoint d.format (match s.cvDef c with | some x => x.entries.getD (bitsOf o 8 4) (entryOf []) | none => entryOf []) r, r.dNs))
  | 1 => ((s.cv c).urgRes.look (bitsOf o 5 4)).map (fun r =>
      (resPoint d.format (match s.cvDef c with | some x => x.urgent.getD (bitsOf o 5 4) (entryOf []) | none => entryOf []) r, r.dNs))
  | 2 => ((s.cv c).results.look (bitsOf o 8 4)).map (fun r => (BitVec.ofNat 32 (b2n r.ovr), r.dNs))
  | 3 =>
    let e := s.enc (o % 32)
    match s.encDef (o % 32) with
    | some x => if x.mode = 2 then (if e.seen then some (e.count, e.dNs) else none) else some (e.count, mark)
    | none => none
  | 4 => (s.enc (o % 32)).indexNs.map (fun t => (BitVec.ofNat 32 (s.rd Reg.ENC_INDEX_INDEX [o % 32]), t))
  | _ => some (BitVec.ofNat 32 (b2n (s.conv.dioIn.at' (o % 32) false)), mark)

/-- The south edge latches every local-input point at the base mark; one whose source is missing keeps its last value (R119, R298, R341). -/
def State.convLatch (s : State) : State :=
  match s.img.run with
  | none => s
  | some i => forL (i.points.filter (fun e => decide (e.2.ownerKind = 1))) (fun e s =>
      if (s.work e.1).absent || (s.conv.vanaLow && decide (chanKind e.2.owner ≤ 4)) then s
      else match s.localInput e.2 with
        | some v => s.ownerWrite e.1 v.1 (stampAt v.2)
        | none => s) s

/-! Outputs (R302, R303, R307). -/

/-- A point's value as FLOAT32 (R302). -/
def asFloat (format : Nat) (v : Word) : F32 :=
  if format = 0 then v else if format = 1 then F32.ofInt v.toInt else if format = 2 then (if v = 0 then F32.zero else F32.one) else F32.ofInt (v.toNat : Int)

/-- The code of a value, and whether it was limited; none keeps the previous code (R302). -/
def dacCode (d : DacDef) (v : F32) : Option Nat × Bool :=
  if !F32.fin v then (none, true)
  else
    let y := F32.add (F32.mul v d.gain) d.offset
    if F32.isNan y then (none, true)
    else if !F32.fin y then (some (if F32.lt y F32.zero then 0 else 65535), true)
    else
      let k := fmt32.nearest y.toNat
      (some ((max 0 (min 65535 k)).toNat), decide (k < 0) || decide (65535 < k))

/-- The unit drives the lease-gated outputs (R303, R384, R399). -/
def State.drives (s : State) : Bool := s.img.run.isSome && s.flag Reg.GLB_PAIR_LEASE

/-- Outputs take new values: not in FAULTY, where they are held, not from mark h of a handover on but for cut h − 1, and not without the lease (R384, R387, R394). -/
def State.outputsMove (s : State) : Bool := s.drives && decide (s.pairSt ≠ 6) && (decide (s.pairSt ≠ 7) || decide (s.pair.hand = some s.time.n))

/-- A local module that does not match and is not driven names resource n in the range `sel` (R340, R341). -/
def State.rangeOff (s : State) (sel : IdentDef → Nat × Nat) (n : Nat) : Bool :=
  match s.img.run with
  | some i => ((List.range i.idents.length).zip i.idents).any (fun e => decide (e.1 ∈ s.field.notDriven) && decide ((sel e.2).1 ≤ n) && decide (n < (sel e.2).1 + (sel e.2).2))
  | none => false

/-- DAC_UPDATE of one channel with a point value (R302, R303). -/
def State.dacUpdate (s : State) (d : DacDef) (format : Nat) (v : Word) : State :=
  let c := dacCode d (asFloat format v)
  let s := if c.2 then (s.wr Reg.DAC_STAT_LIMIT 1 [d.ch]).count 0x3D4 else s
  let s := match c.1 with | some k => s.wr Reg.DAC_STAT_CODE k [d.ch] | none => s
  let s := s.wrb Reg.DAC_STAT_DRIVEN (s.drives && !s.conv.vanaLow) [d.ch]
  s.onConv (fun b => { b with dacs := b.dacs.upd d.ch {} (fun x => { x with checkDue := true }) })

/-- Outputs at a base mark: DAC channels of rate 1 and output pins take the cut that was sealed there (R302, R307). -/
def State.baseOutputs (s : State) : State :=
  match s.convSec with
  | none => s
  | some x =>
    let s := forL x.dacs (fun d s => s.wrb Reg.DAC_STAT_DRIVEN (s.drives && !s.conv.vanaLow && decide (d.rate ≠ 0) && !s.rangeOff IdentDef.dac d.ch) [d.ch]) s
    if !s.outputsMove then s
    else
      let val (id : Nat) : Nat × Word := ((match s.pdef (idLocal id) with | some d => d.format | none => 0), (s.pts.cut.at' (idLocal id) {}).value)
      let s := if s.conv.vanaLow then s
        else forL (x.dacs.filter (fun d => decide (d.rate = 1) && !s.rangeOff IdentDef.dac d.ch)) (fun d s => s.dacUpdate d (val d.srcPt).1 (val d.srcPt).2) s
      forL (x.pins.filter (fun p => decide (p.dir = 2) && !s.rangeOff IdentDef.dio p.pin)) (fun p s =>
        s.onConv (fun b => { b with dioOut := b.dioOut.put p.pin (decide ((val p.srcPt).2 ≠ 0)) })) s

/-- DAC channels of rate 2 at a fast mark, from the outputs of the past sub-cycle (R162, R302). -/
def State.fastOutputs (s : State) : State :=
  match s.convSec with
  | none => s
  | some x =>
    if !s.outputsMove || s.conv.vanaLow then s
    else forL (x.dacs.filter (fun d => decide (d.rate = 2) && !s.rangeOff IdentDef.dac d.ch)) (fun d s =>
      match s.pdef (idLocal d.srcPt) with
      | some p => s.dacUpdate d p.format (s.pinValue (idLocal d.srcPt))
      | none => s) s

/-- 2 µs after an update the channel compares its output with its code; the operand is the error in codes (R303). -/
def execDacReadback (ch : Fin 16) (err : Nat) (s : State) : Out :=
  let x := s.conv.dacs.at' ch.val {}
  if !x.checkDue then .next s
  else
    let run := if 256 < err then x.badRun + 1 else 0
    let s := s.onConv (fun b => { b with dacs := b.dacs.put ch.val { badRun := run, checkDue := false } })
    .next (if run = 3 then (s.wr Reg.DAC_STAT_RB_FAULT 1 [ch.val]).countLog 0x3D5 else s)

/-! Encoders (R304 to R306). -/

/-- An encoder fault in the present sub-cycle (R306). -/
def State.encFault (s : State) (n : Nat) (f : Fld) : State :=
  let s := s.setEnc n { s.enc n with faultNow := true }
  (((s.wr f 1 [n]).wr Reg.ENC_STAT_FAULT_NOW 1 [n]).wr Reg.ENC_STAT_FAULT 1 [n]).count 0x3D6

/-- The next levels in the counting order in which A leads B (log entry 17). -/
def quadNext (a b : Bool) : Bool × Bool := (!b, a)

/-- A qualified sample of ENCnn_A and ENCnn_B (R304). -/
def execEncEdge (ch : Fin 32) (a b : Bool) (s : State) : Out :=
  let n := ch.val
  match s.encDef n with
  | none => .next s
  | some d =>
    let e := s.enc n
    if d.mode ≠ 1 ∨ s.conv.vanaLow then .next s
    else
      let s := s.setEnc n { e with a := a, b := b }
      if a = e.a ∧ b = e.b then .next s
      else if a ≠ e.a ∧ b ≠ e.b then .next (s.encFault n Reg.ENC_STAT_ILLEGAL)
      else
        let up := decide (quadNext e.a e.b = (a, b)) != d.invert
        .next (s.setEnc n { s.enc n with count := if up then e.count + 1 else e.count - 1 })

/-- A rising edge of ENCnn_Z (R304). -/
def execEncIndexEdge (ch : Fin 32) (s : State) : Out :=
  let n := ch.val
  match s.encDef n with
  | none => .next s
  | some d =>
    if d.mode = 1 ∧ d.index ∧ !s.conv.vanaLow then
      let s := s.setEnc n { s.enc n with indexNs := some (clockNs s.time.d) }
      .next ((s.wr Reg.ENC_INDEX_INDEX (s.enc n).count.toNat [n]).wr Reg.ENC_STAT_INDEX_VALID 1 [n])
    else .next s

/-- ENC_COUNT_n as it reads: the count at the tick of the read (R311). -/
def State.viewEncCount (s : State) (n : Nat) : Nat := (s.enc n).count.toNat

/-- An SSI frame starts: the position is latched at this instant; the operand is whether ENCnn_B was low (R305, R306). -/
def execSsiFrameStart (ch : Fin 32) (low : Bool) (s : State) : Out :=
  match s.encDef ch.val with
  | none => .next s
  | some d =>
    if d.mode = 2 ∧ !s.conv.vanaLow then .next (s.setEnc ch.val { s.enc ch.val with lowBefore := some low, frameNs := clockNs s.time.d })
    else .next s

/-- Gray decoding: bit i is the parity of bits i and above. -/
def grayDecode : Nat → Nat → Nat
  | 0, x => x
  | k + 1, x => grayDecode k (x ^^^ (x / 2 ^ (2 ^ k)))

/-- Parity of the low 64 bits. -/
def oddOnes (x : Nat) : Bool := decide (((List.range 64).filter (fun i => bitOf x i)).length % 2 = 1)

/-- An SSI frame ends: data bits as received, parity bit, and whether ENCnn_B was high after the last bit (R305, R306). -/
def execSsiFrameEnd (ch : Fin 32) (data : Word) (par high : Bool) (s : State) : Out :=
  let n := ch.val
  let e := s.enc n
  match s.encDef n, e.lowBefore with
  | some d, some low =>
    if d.mode ≠ 2 ∨ s.conv.vanaLow then .next s
    else
      let raw := data.toNat % 2 ^ d.bits
      let s := (s.setEnc n { e with lowBefore := none }).wr Reg.ENC_RAW_RAW raw [n]
      if (d.parity && (oddOnes raw != par)) || !low || !high then .next (s.encFault n Reg.ENC_STAT_FRAME)
      else
        let p := if d.gray then grayDecode 5 raw else raw
        let c : Word := if e.seen then e.count + BitVec.ofInt 32 (signed d.bits (p + 2 ^ d.bits - e.pos)) else BitVec.ofNat 32 p
        .next (s.setEnc n { s.enc n with count := c, pos := p, seen := true, dNs := e.frameNs })
  | _, _ => .next s

/-- Encoders at a fast mark, before the axes: presets take effect, but in STOP, and counts are sampled (R304, R306, R564). -/
def State.encFastFirst (s : State) : State :=
  forL (List.range 32) (fun n s => match s.encDef n with
    | none => s
    | some d =>
      if d.mode = 0 then s
      else
        let e := s.enc n
        let s := match e.preset with
          | some p =>
            if s.keyStopped then (s.setEnc n { e with preset := none }).complete p.2 .denied 1
            else (s.setEnc n { e with count := p.1, preset := none }).complete p.2 .ok 0 s.time.n
          | none => s
        s.setEnc n { s.enc n with sampled := (s.enc n).count }) s

/-- Encoders at a fast mark, after the axes: the faults of the past sub-cycle have been reported (R306). -/
def State.encFastLast (s : State) : State :=
  forL (List.range 32) (fun n s =>
    let e := s.enc n
    let s := s.wrb Reg.ENC_STAT_FAULT_NOW e.faultNow [n]
    if e.faultNow then s.setEnc n { e with faultNow := false } else s) s

/-! Restart and splice (R309). -/

/-- An encoder channel gives an axis its position (R164). -/
def State.encBound (s : State) (n : Nat) : Bool :=
  match s.img.run with | some i => i.axes.any (fun e => decide (e.2.encCh = n) && !e.2.fbPt) | none => false

/-- The registers loaded from the section (R311). -/
def State.convLoad (s : State) (x : ConvSec) (align : Nat → Bool) : State :=
  let s := forL x.convs (fun d s =>
    let s := ((s.wrb Reg.ADC_SEQ_CTL_ENABLED d.enable [d.conv]).wr Reg.ADC_SEQ_CTL_LEN_M1 (d.len - 1) [d.conv]).wr Reg.ADC_SEQ_CTL_URG_COUNT d.urgCount [d.conv]
    if align d.conv then s.wr Reg.ADC_SEQ_CTL_ALIGN d.align [d.conv] else s) s
  let s := forL x.dacs (fun d s =>
    ((s.wrb Reg.DAC_STAT_ENABLED (decide (d.rate ≠ 0)) [d.ch]).wrb Reg.DAC_STAT_FAST (decide (d.rate = 2)) [d.ch]).wr Reg.DAC_SRC_SRC_PT d.srcPt [d.ch]) s
  forL x.encs (fun d s => (s.wr Reg.ENC_STAT_MODE d.mode [d.ch]).wrb Reg.ENC_STAT_AXIS (s.encBound d.ch) [d.ch]) s

/-- The block starts with an image, which already runs (R309). -/
def State.convBegin (s : State) : State :=
  let refs := s.conv.encs.filterMap (fun e => e.2.preset)
  let s := forL refs (fun p s => s.complete p.2 .aborted) s
  let s := s.onConv (fun b => { b with convs := [], dacs := [], encs := b.encs.map (fun e => (e.1, { a := e.2.a, b := e.2.b })) })
  match s.convSec with
  | none => s
  | some x => s.convLoad x (fun _ => true)

/-- The block at a splice mark; the new image already runs (R309). -/
def State.convSplice (s : State) (old : Img) : State :=
  match s.convSec, old.conv with
  | some x, some y =>
    let s := s.convLoad x (fun c => decide (x.convs[c]? ≠ y.convs[c]?))
    let s := forL x.convs (fun d s =>
      let c := d.conv
      if y.convs[c]? = some d then s
      else
        let v := s.cv c
        if v.busy then s.setCv c { v with old := y.convs[c]? } else s.setCv c { v with s := 0, results := [], urgRes := [] }) s
    forL x.encs (fun d s => match y.encs[d.ch]? with
      | some w => if w.mode = d.mode then s else s.setEnc d.ch { a := (s.enc d.ch).a, b := (s.enc d.ch).b }
      | none => s) s
  | _, _ => s.convBegin

/-! Commands (R313). -/

/-- A result as ADC_READ returns it: register word, then OVR in bit 31 and DISP in bit 30 (log entry 2). -/
def resBytes (w : Nat) (r : Option Result) : List Byte :=
  leBytes 4 w ++ leBytes 4 (match r with | some r => b2n r.ovr * 2 ^ 31 + b2n r.disp * 2 ^ 30 | none => 0)

/-- ADC_READ (R313). -/
def execAdcRead (ref : CmdRef) (args : List Nat) (s : State) : Out :=
  let c := argN args 0
  let data := ((List.range 32).map (fun e => resBytes (s.viewRes c e) ((s.cv c).results.look e))).flatten ++
    ((List.range 4).map (fun i => resBytes (s.viewUres c i) ((s.cv c).urgRes.look i))).flatten
  .next (s.command ref 0x0801 [(decide (15 < c), .invalid, 0), noRoom ref 288] [] (fun ref s => s.complete ref .ok 0 0 data))

/-- ADC_URGENT (R299, R301). -/
def execAdcUrgent (ref : CmdRef) (args : List Nat) (s : State) : Out :=
  let c := argN args 0
  let off := match s.cvDef c with | some d => !d.enable || decide (d.urgCount = 0) | none => true
  .next (s.command ref 0x0802 [(decide (15 < c) || off, .invalid, 0)] [] (fun ref s => (s.urgTrigger c).complete ref .ok))

/-- The logical converter that a core serves. -/
def State.served (s : State) (p : Nat) : Option Nat :=
  (List.range 16).find? (fun c => decide (bitsOf (s.reg Reg.ADC_MAP [c / 4]) (8 * (c % 4) + 4) (8 * (c % 4)) = p))

/-- ADC_CAL: the core is the next to be swapped out, and the command ends with its full calibration (R313). -/
def execAdcCal (ref : CmdRef) (args : List Nat) (s : State) : Out :=
  let p := argN args 0
  .next (s.commandLong ref 0x0803 [(decide (16 < p), .invalid, 0)]
    [(s.flag Reg.ADC_ROT_DEGRADED || bitOf (s.rd Reg.ADC_CORE_FAIL) p, .denied, 6)]
    (fun ref s =>
      let s := match s.served p with | some c => s.wr Reg.ADC_ROT_NEXT c | none => s
      s.onConv (fun b => { b with rot := { b.rot with cals := b.rot.cals ++ [(p, ref)] } })))

/-- ENC_READ: ENC_STAT_n, count and index of channels (R313). -/
def execEncRead (ref : CmdRef) (args : List Nat) (s : State) : Out :=
  let l := (args.drop 1).take (argN args 0)
  let data := (l.map (fun n => leBytes 4 (s.reg Reg.ENC_STAT [n]) ++ leBytes 4 (s.viewEncCount n) ++ leBytes 4 (s.rd Reg.ENC_INDEX_INDEX [n]))).flatten
  .next (s.command ref 0x0804 [badCount args 32, badAt (fun n => decide (n < 32)) l .invalid, noRoom ref data.length] []
    (fun ref s => s.complete ref .ok 0 0 data))

/-- An encoder channel is bound to an axis that is not OFF (R306). -/
def State.encInUse (s : State) (n : Nat) : Bool :=
  match s.img.run with
  | some i => i.axes.any (fun e => decide (e.2.encCh = n) && !e.2.fbPt && decide ((s.axisSt (e.1 / 32) (e.1 % 32)).st ≠ .off))
  | none => false

/-- ENC_SET_COUNT: presets at the next fast mark (R306). -/
def execEncSetCount (ref : CmdRef) (args : List Nat) (s : State) : Out :=
  let n := argN args 0
  let mode := match s.encDef n with | some d => d.mode | none => 0
  .next (s.command ref 0x0805 [(decide (31 < n) || decide (mode = 0), .invalid, 0)] [(decide (mode = 2) || s.encInUse n, .denied, 6)]
    (fun ref s =>
      let e := s.enc n
      let s := match e.preset with | some p => s.complete p.2 .ok 0 s.time.n | none => s
      s.setEnc n { s.enc n with preset := some (BitVec.ofNat 32 (argN args 1), ref) }))

/-- DAC_READ (R313). -/
def execDacRead (ref : CmdRef) (_args : List Nat) (s : State) : Out :=
  .next (s.command ref 0x0806 [noRoom ref 64] [] (fun ref s =>
    s.complete ref .ok 0 0 (((List.range 16).map (fun d => leBytes 4 (s.reg Reg.DAC_STAT [d]))).flatten)))

end Sys2Proof.Machine
end

