-- ==== Sys2Proof/Machine/FieldImage.lean ====
section
/-! DEFINITION. The Ethernet, station, CAN and identity sections of an image and their checks (R314, R318 to R320, R333 to R335, R340). -/

namespace Sys2Proof.Machine

/-! The network part of the platform record (R318). -/

/-- A field of the network part. -/
def netField (platform : List Byte) (off n : Nat) : Nat := fieldLE platform (0x200 + off) n

/-- The pair of a port forms a PRP node (R317, R318). -/
def prpPair (platform : List Byte) (k : Nat) : Bool := !platform.isEmpty && decide (k < 3) && bitOf (netField platform 6 1) k

/-- The port whose settings a port uses: the first of its PRP node (R318). -/
def netPort (platform : List Byte) (p : Nat) : Nat := if prpPair platform (p / 2) then 2 * (p / 2) else p

/-- IPv4 address of a port. -/
def portIp (platform : List Byte) (p : Nat) : Nat := netField platform (8 + 16 * netPort platform p) 4
/-- Prefix length of a port; 0 for no address. -/
def portPrefix (platform : List Byte) (p : Nat) : Nat := netField platform (0xC + 16 * netPort platform p) 1
/-- Gateway of a port; 0 for none. -/
def portGateway (platform : List Byte) (p : Nat) : Nat := netField platform (0x10 + 16 * netPort platform p) 4

/-- An address lies in the subnet of a port. -/
def inSubnet (platform : List Byte) (p ip : Nat) : Bool :=
  let n := 32 - portPrefix platform p
  decide (ip / 2 ^ n = portIp platform p / 2 ^ n)

/-- The next hop toward an address; none when there is none (R318). -/
def nextHop (platform : List Byte) (p ip : Nat) : Option Nat :=
  if portPrefix platform p = 0 then none
  else if inSubnet platform p ip then some ip
  else if portGateway platform p = 0 then none else some (portGateway platform p)

/-- The last byte of the MAC address of a port. -/
def macLast (platform : List Byte) (p : Nat) : Nat := netField platform 5 1 + netPort platform p

/-- The fields of a platform record's network part keep its table (R318). -/
def platformOk (b : List Byte) : Bool :=
  decide (b.length = 1024) && !bitOf (netField b 0 1) 0 && decide (netField b 5 1 ≤ 0xFA) && decide (netField b 6 1 < 8) && zeros b 0x207 1 &&
  (List.range 6).all (fun p =>
    let o := 16 * p
    let pre := netField b (0xC + o) 1
    (decide (pre = 0) || (decide (8 ≤ pre) && decide (pre ≤ 30))) && zeros b (0x20D + o) 3 && decide (netField b (0x14 + o) 2 < 4096) &&
    decide (netField b (0x16 + o) 1 < 8) && zeros b (0x217 + o) 1) && zeros b 0x268 152

/-! The Ethernet section (R314, R319). -/

/-- A port record. -/
def ethPortOf (r : List Byte) : EthPortDef :=
  { port := fieldLE r 0 1, gclEn := bitOf (fieldLE r 1 1) 0, ptpDom := fieldLE r 2 1, staPcp := fieldLE r 3 1, fastPcp := fieldLE r 4 1
    staVid := fieldLE r 6 2, gclFirst := fieldLE r 8 2, gclCount := fieldLE r 10 2, txNs := fieldLE r 12 2, rxNs := fieldLE r 14 2 }

/-- A port's gate list keeps R314. -/
def gclOk (gcl : List (Nat × Nat)) (d : EthPortDef) : Bool :=
  let l := (gcl.drop d.gclFirst).take d.gclCount
  let sum : Nat := (l.map (·.2)).foldl (· + ·) 0
  decide (l.length = d.gclCount) && l.all (fun e => decide (0 < e.2)) && decide (0 < sum) && decide (1000000000 % sum = 0)

/-- The section: content and faults (R319). -/
def parseEth (b : List Byte) (items : Nat) (platform : List Byte) : EthSec × List Rej :=
  let n := fieldLE b 0 2
  let rs := recordsOf (b.drop 32) 32 6
  let gs := recordsOf (b.drop 224) 8 n
  let gcl := gs.map (fun r => (fieldLE r 0 1, fieldLE r 4 4))
  let x : EthSec := { ports := rs.map ethPortOf, gcl := gcl }
  let ok (r : List Byte) : Bool :=
    let d := ethPortOf r
    decide (fieldLE r 1 1 ≤ 1) && decide (d.ptpDom ≤ 2) && decide (d.staPcp < 8) && decide (d.fastPcp < 8) && decide (d.staVid < 4096) && zeros r 5 1 && zeros r 16 16 &&
    (if d.gclEn then decide (1 ≤ d.gclCount) && decide (d.gclCount ≤ 256) && gclOk gcl d else decide (d.gclCount = 0))
  let pair (k : Nat) : Bool := !prpPair platform k ||
    (match x.ports[2 * k]?, x.ports[2 * k + 1]? with | some a, some c => decide ({ a with port := 0 } = { c with port := 0 }) | _, _ => false)
  (x, need (decide (b.length = 224 + 8 * n) && decide (items = 6 + n)) 0x0008 ++ need (decide (n ≤ 1536) && zeros b 2 30) 0x000B ++
    (((List.range 6).zip rs).map (fun e => need (decide (fieldLE e.2 0 1 = e.1)) 0x0008 e.1 ++ need (ok e.2) 0x000B e.1)).flatten ++
    need (gs.all (fun r => zeros r 1 3)) 0x000B ++ need (pair 0 && pair 1 && pair 2) 0x000B)

/-! The station topology section (R318, R320). -/

/-- A module record. -/
def moduleOf (r : List Byte) : ModuleDef :=
  { module := fieldLE r 0 1, policy := bitsOf (fieldLE r 1 1) 1 0, fast := bitOf (fieldLE r 1 1) 2, vendor := fieldLE r 2 2, type := fieldLE r 4 2
    ins := fieldLE r 6 1, outs := fieldLE r 7 1 }

/-- The first port of a station's PORT field. -/
def staPort (x : Nat) : Nat := if 0x10 ≤ x then 2 * (x - 0x10) else x

/-- A station record, with its modules. -/
def stationOf (mods : List ModuleDef) (r : List Byte) : StationDef :=
  let m := fieldLE r 0x10 1
  { station := fieldLE r 0 2, port := fieldLE r 2 1, fast := bitOf (fieldLE r 3 1) 0, period := fieldLE r 4 2, phase := fieldLE r 6 2
    ipv4 := fieldLE r 8 4, holdMs := fieldLE r 12 2, launchUs := fieldLE r 14 2, missMax := if m = 0 then 3 else m
    modules := (mods.drop (fieldLE r 0x12 2)).take (fieldLE r 0x11 1) }

/-- The bytes of a fast frame's payload. -/
def fastBytes (d : StationDef) (n : ModuleDef → Nat) : Nat :=
  ((d.modules.filter (·.fast)).map (fun m => 4 + 4 * n m)).foldl (· + ·) 0

/-- The checks of a station record (R318, R320). -/
def stationChecks (platform : List Byte) (r : List Byte) (d : StationDef) : List Rej :=
  let p := staPort d.port
  let portOk := decide (d.port ≤ 5) || (decide (0x10 ≤ d.port) && decide (d.port ≤ 0x12) && prpPair platform (d.port - 0x10))
  need (decide (d.station < 512) && portOk && decide (fieldLE r 3 1 ≤ 1) && decide (1 ≤ d.period) && decide (d.period ≤ 800) && decide (d.phase < d.period) &&
    decide (500 ≤ d.holdMs) && decide (d.launchUs ≤ 120) && decide (fieldLE r 0x10 1 ≤ 15) && decide (1 ≤ fieldLE r 0x11 1) && decide (fieldLE r 0x11 1 ≤ 64) &&
    decide (d.modules.length = fieldLE r 0x11 1) && zeros r 0x14 12 && (nextHop platform p d.ipv4).isSome &&
    (d.fast || !d.modules.any (·.fast)) && decide (fastBytes d (·.ins) ≤ 1440) && decide (fastBytes d (·.outs) ≤ 1440)) 0x000B d.station ++
  need (distinct (d.modules.map (·.module))) 0x0008 d.station

/-- The section: content and faults (R320). -/
def parseStations (b : List Byte) (items : Nat) (platform : List Byte) : StationSec × List Rej :=
  let n := fieldLE b 0 2
  let m := fieldLE b 2 2
  let udp := fieldLE b 4 2
  let rs := recordsOf (b.drop 32) 32 n
  let ms := recordsOf (b.drop (32 + 32 * n)) 8 m
  let mods := ms.map moduleOf
  let ds := rs.map (stationOf mods)
  let modOk (r : List Byte) : Bool :=
    let d := moduleOf r
    decide (d.module < 64) && decide (fieldLE r 1 1 < 8) && decide (d.policy ≤ 2) && decide (d.ins ≤ 64) && decide (d.outs ≤ 64)
  ({ udp := if udp = 0 then 47830 else udp, stations := ds },
   need (decide (b.length = 32 + 32 * n + 8 * m) && decide (items = n + m)) 0x0008 ++
   need (decide (n ≤ 512) && decide (m ≤ 32768) && (decide (udp = 0) || decide (1024 ≤ udp)) && zeros b 6 26) 0x000B ++
   need (ms.all modOk) 0x000B ++ need (ascending (ds.map (·.station))) 0x0008 ++
   ((rs.zip ds).map (fun e => stationChecks platform e.1 e.2)).flatten)

/-- The station and the signal that a point names (R122). -/
def staOf (d : PointDef) : Nat × Nat × Nat := (d.owner % 512, bitsOf d.owner 27 16 / 64, bitsOf d.owner 27 16 % 64)

/-- The check of a point bound to a station signal (R320). -/
def staPointChecks (x : Option StationSec) (d : PointDef) (obj : Nat) : List Rej :=
  if d.ownerKind ≠ 2 then [] else
  let k := staOf d
  let m := match x with
    | some x => (x.stations.find? (fun (t : StationDef) => t.station = k.1)).bind (fun (t : StationDef) => t.modules.find? (fun (m : ModuleDef) => m.module = k.2.1))
    | none => none
  need (match m with | some m => decide (k.2.2 < (if d.output then m.outs else m.ins)) | none => false) 0x000C obj

/-- An axis with FB_SRC 1 reads a station point carried in a fast frame (R165). -/
def fastFbChecks (x : Option StationSec) (points : Tab PointDef) (axes : Tab AxisDef) : List Rej :=
  (axes.map (fun e =>
    if e.2.fbPt then
      let m := match points.look (idLocal e.2.fb), x with
        | some d, some x => if d.ownerKind = 2 ∧ !d.output then
            (x.stations.find? (fun (t : StationDef) => t.station = (staOf d).1)).bind (fun (t : StationDef) => t.modules.find? (fun (m : ModuleDef) => m.module = (staOf d).2.1)) else none
        | _, _ => none
      need (match m with | some m => m.fast | none => false) 0x000B (e.1 / 32)
    else [])).flatten

/-! The CAN section (R331, R333 to R335). -/

/-- A bus record. -/
def canBusOf (r : List Byte) : CanBusDef :=
  { bus := fieldLE r 0 1, mode := fieldLE r 1 1, ttPrio := fieldLE r 2 1, cycles := fieldLE r 3 1, nbrp := fieldLE r 4 2, nseg1 := fieldLE r 6 1
    nseg2 := fieldLE r 7 1, nsjw := fieldLE r 8 1, dbrp := fieldLE r 9 1, dseg1 := fieldLE r 10 1, dseg2 := fieldLE r 11 1, dsjw := fieldLE r 12 1
    tdco := fieldLE r 13 1, bcBase := fieldLE r 14 2, firstWin := fieldLE r 16 2, winCount := fieldLE r 18 2, firstFrame := fieldLE r 20 2
    frameCount := fieldLE r 22 2, refId := fieldLE r 24 2 }

/-- A window record. -/
def canWinOf (r : List Byte) : CanWinDef := { start := fieldLE r 0 2, len := fieldLE r 2 2, type := fieldLE r 4 1 }

/-- A frame record. -/
def canFrameOf (r : List Byte) : CanFrameDef :=
  { id := fieldLE r 0 4, transmit := decide (fieldLE r 4 1 = 1), fdf := bitOf (fieldLE r 5 1) 0, brs := bitOf (fieldLE r 5 1) 1, bytes := fieldLE r 6 1
    win := fieldLE r 7 1, period := fieldLE r 8 2, cycBase := fieldLE r 10 1, repeat_ := fieldLE r 11 1 }

/-- A bind record. -/
def canBindOf (r : List Byte) : CanBindDef := { frame := fieldLE r 0 2, word := fieldLE r 2 1, point := fieldLE r 4 4 }

/-- The nominal and the data bit time in ns (R333). -/
def nominalBit (d : CanBusDef) : Nat := 10 * d.nbrp * (1 + d.nseg1 + d.nseg2)
/-- The data bit time in ns. -/
def dataBit (d : CanBusDef) : Nat := 10 * d.dbrp * (1 + d.dseg1 + d.dseg2)

/-- The ranges of a bus record (R331, R333); a bus that is off is not judged beyond its mode. -/
def canBusOk (r : List Byte) (d : CanBusDef) : Bool :=
  decide (d.mode ≤ 2) && zeros r 0x1A 6 &&
  (decide (d.mode = 0) ||
   ((decide (d.ttPrio ≤ 7) || decide (d.ttPrio = 0xFF)) && decide (d.cycles ∈ [1, 2, 4, 8, 16, 32, 64]) && decide (1 ≤ d.nbrp) && decide (d.nbrp ≤ 256) &&
    decide (1 ≤ d.nseg1) && decide (1 ≤ d.nseg2) && decide (d.nseg2 ≤ 128) && decide (1 ≤ d.nsjw) && decide (d.nsjw ≤ d.nseg2) &&
    decide (1 ≤ d.dbrp) && decide (d.dbrp ≤ 32) && decide (1 ≤ d.dseg1) && decide (d.dseg1 ≤ 32) && decide (1 ≤ d.dseg2) && decide (d.dseg2 ≤ 16) &&
    decide (1 ≤ d.dsjw) && decide (d.dsjw ≤ d.dseg2) && decide (d.tdco ≤ 127) && decide (1 ≤ d.bcBase) && decide (d.bcBase ≤ 64) &&
    decide (d.winCount ≤ 64) && decide (d.frameCount ≤ 1024) && decide (d.refId < 2048) && decide (d.refId % 8 = 0) &&
    decide (1000 ≤ nominalBit d) && decide (nominalBit d ≤ 8000) && decide (125 ≤ dataBit d)))

/-- The ranges of a frame record in its bus (R333). -/
def canFrameOk (r : List Byte) (d : CanBusDef) (wins : List CanWinDef) (f : CanFrameDef) : Bool :=
  let excl := decide (f.win ≠ 0xFF)
  (if bitOf f.id 31 then decide (f.id % 2 ^ 31 < 2 ^ 29) else decide (f.id < 2048)) && decide (fieldLE r 4 1 ≤ 1) && decide (fieldLE r 5 1 < 4) && (f.fdf || !f.brs) &&
  (decide (f.bytes ≤ 8) || (f.fdf && decide (f.bytes ∈ [12, 16, 20, 24, 32, 48, 64]))) && zeros r 12 4 &&
  (!excl || (match wins[f.win]? with | some w => decide (w.type = 0) && f.transmit && decide (d.mode = 2) | none => false)) &&
  (if f.transmit && !excl then decide (1 ≤ f.period) && decide (f.period ≤ 800) else decide (f.period = 0)) &&
  (!excl || (decide (f.repeat_ ∈ [1, 2, 4, 8, 16, 32, 64]) && decide (f.repeat_ ≤ d.cycles) && decide (f.cycBase < f.repeat_)))

/-- 1.2 × x rounded up. -/
def stuffed (x : Nat) : Nat := ceilDiv (12 * x) 10

/-- The duration of an exclusive frame with two nominal bit times, in ns (R335). -/
def canFrameNs (d : CanBusDef) (f : CanFrameDef) : Nat :=
  let a := if bitOf f.id 31 then 52 else 32
  let n := if f.fdf then (if f.bytes ≤ 16 then 8 * f.bytes + 28 else 8 * f.bytes + 33) else 8 * f.bytes + 19
  let t := if f.brs then dataBit d else nominalBit d
  stuffed a * nominalBit d + stuffed n * t + 2 * nominalBit d

/-- The windows of a bus and its exclusive frames keep R335. -/
def canMatrixOk (d : CanBusDef) (wins : List CanWinDef) (frames : List CanFrameDef) : Bool :=
  let ex := frames.filter (fun f => decide (f.win ≠ 0xFF))
  let share (f g : CanFrameDef) : Bool := decide (f.win = g.win) && decide (f.cycBase % min f.repeat_ g.repeat_ = g.cycBase % min f.repeat_ g.repeat_)
  let idx (l : List CanFrameDef) := (List.range l.length).zip l
  wins.all (fun w => decide (1 ≤ w.len) && decide (w.type ≤ 2) && decide (w.start + w.len ≤ 125 * d.bcBase)) &&
  ((List.range wins.length).zip wins).all (fun a => ((List.range wins.length).zip wins).all (fun b => decide (a.1 = b.1) || !overlap a.2.start a.2.len b.2.start b.2.len)) &&
  ex.all (fun f => match wins[f.win]? with | some w => decide (canFrameNs d f ≤ 1000 * w.len) | none => false) &&
  (idx ex).all (fun a => (idx ex).all (fun b => decide (a.1 = b.1) || !share a.2 b.2))

/-- The frames of a bus. -/
def CanSec.framesOf (x : CanSec) (d : CanBusDef) : List CanFrameDef := (x.frames.drop d.firstFrame).take d.frameCount
/-- The windows of a bus. -/
def CanSec.winsOf (x : CanSec) (d : CanBusDef) : List CanWinDef := (x.windows.drop d.firstWin).take d.winCount

/-- The section: content and faults (R333 to R335). -/
def parseCan (b : List Byte) (items : Nat) : CanSec × List Rej :=
  let w := fieldLE b 0 2
  let f := fieldLE b 2 2
  let n := fieldLE b 4 4
  let bs := recordsOf (b.drop 32) 32 8
  let ws := recordsOf (b.drop 288) 8 w
  let fs := recordsOf (b.drop (288 + 8 * w)) 16 f
  let ns := recordsOf (b.drop (288 + 8 * w + 16 * f)) 8 n
  let x : CanSec := { buses := bs.map canBusOf, windows := ws.map canWinOf, frames := fs.map canFrameOf, binds := ns.map canBindOf }
  let bus (e : Nat × List Byte) : List Rej :=
    let d := canBusOf e.2
    let wins := x.winsOf d
    let frs := (fs.drop d.firstFrame).take d.frameCount
    need (decide (d.bus = e.1)) 0x0008 e.1 ++
    need (canBusOk e.2 d && (decide (d.mode = 0) || (decide (wins.length = d.winCount) && decide (frs.length = d.frameCount) &&
      frs.all (fun r => canFrameOk r d wins (canFrameOf r)) && canMatrixOk d wins (x.framesOf d)))) 0x000B e.1
  let bindOk (r : List Byte) : Bool :=
    let e := canBindOf r
    decide (fieldLE r 3 1 = 0) && (match x.frames[e.frame]? with | some f => f.transmit && decide (e.word < f.bytes / 4) | none => false)
  (x, need (decide (b.length = 288 + 8 * w + 16 * f + 8 * n) && decide (items = 8 + w + f + n)) 0x0008 ++
    need (decide (w ≤ 512) && decide (f ≤ 8192) && decide (n ≤ 131072) && zeros b 8 24) 0x000B ++
    (((List.range 8).zip bs).map bus).flatten ++ need (ws.all (fun r => zeros r 5 3)) 0x000B ++ need (ns.all bindOk) 0x000B)

/-- The frame and word that a CAN point names (R334). -/
def canOf (d : PointDef) : Nat × Nat × Nat := (d.owner % 8, bitsOf d.owner 27 12, bitsOf d.owner 11 8)

/-- The checks of a CAN-owned point (R334). -/
def canPointChecks (x : Option CanSec) (d : PointDef) (obj : Nat) : List Rej :=
  if d.ownerKind ≠ 3 then [] else
  let k := canOf d
  let ok := match x with
    | some x => (match x.buses[k.1]? with
      | some b => decide (b.mode ≠ 0) && (match (x.framesOf b)[k.2.1]? with | some f => !f.transmit && decide (k.2.2 < f.bytes / 4) | none => false)
      | none => false)
    | none => false
  need ok 0x000C obj ++ need (decide (0 < d.maxAge)) 0x000B obj

/-- A transmit frame takes a word from a point with this property (R334). -/
def canSends (x : CanSec) (here : Nat → Bool) : Bool := x.binds.any (fun b => here b.point)

/-- The sources of transmit binds are points of cells of the device (R333). -/
def canLinks (points : Tab PointDef) (dev : Nat) (x : CanSec) : List Rej :=
  (x.binds.map (fun b => need (cellOwned points dev b.point false) 0x000C b.point)).flatten

/-! Identity expectations (R50, R340). -/

/-- A local identity expectation; a resource range is two bytes, first and count. -/
def identOf (r : List Byte) : IdentDef :=
  let rng (o : Nat) : Nat × Nat := (fieldLE r o 1, fieldLE r (o + 1) 1)
  { bus := fieldLE r 0 1, addr := fieldLE r 1 1, vendor := fieldLE r 2 2, type := fieldLE r 4 2, policy := fieldLE r 6 1
    ain := rng 8, dac := rng 10, enc := rng 12, dio := rng 14 }

/-- The section: content and faults (R340). -/
def parseIdents (b : List Byte) (items : Nat) : List IdentDef × List Rej :=
  let rs := recordsOf b 16 items
  let within (x : Nat × Nat) (n : Nat) : Bool := decide (x.1 + x.2 ≤ n)
  let ok (r : List Byte) : Bool :=
    let d := identOf r
    decide (d.bus ≤ 3) && decide (d.addr < 128) && decide (d.policy ≤ 2) && decide (fieldLE r 7 1 = 0) &&
    within d.ain 64 && within d.dac 16 && within d.enc 32 && within d.dio 32
  (rs.map identOf, need (decide (b.length = 16 * items)) 0x0008 ++ need (decide (items ≤ 64) && rs.all ok) 0x000B)

/-- An identity record is valid (R339). -/
def identValid (b : List Byte) : Bool :=
  decide (b.length = 256) && decide (fieldLE b 0 4 = 0x4E454449) && decide (fieldLE b 4 2 = 1) && decide (fieldLE b 0xFC 4 = crc32c (b.take 0xFC))

/-- A local module matches its expectation (R341). -/
def identMatches (d : IdentDef) (b : List Byte) : Bool :=
  identValid b && decide (fieldLE b 6 2 = d.vendor) && decide (fieldLE b 8 2 = d.type)

end Sys2Proof.Machine
end

