-- ==== Sys2Proof/Machine/SysBank.lean ====
section
/-! DEFINITION. The system banks, the sequence of proposals and the message an approval signs (R372, R439, R440, R487, R494, R495). -/

namespace Sys2Proof.Machine

/-- Whether sequence number a is greater than b, the difference taken as a signed 32-bit value (R372, R422). -/
def seqAfter (a b : Nat) : Bool := decide (0 < signed 32 (2 ^ 32 + a % 2 ^ 32 - b % 2 ^ 32))

/-- System bank 1 is the newer; equal numbers select bank 0 (R372, R440). -/
def State.sysNewer1 (s : State) : Bool :=
  match s.sec.bank0, s.sec.bank1 with
  | some a, some b => seqAfter b.seq a.seq
  | none, some _ => true
  | _, none => false

/-- Neither system bank is valid (R488). -/
def State.sysLost (s : State) : Bool := s.sec.bank0.isNone && s.sec.bank1.isNone

/-- What the newer valid system bank holds (R440). -/
def State.sys (s : State) : SysBody :=
  match (if s.sysNewer1 then s.sec.bank1 else s.sec.bank0) with
  | some b => b.body
  | none => {}

/-- The number whose bits tell which of four key slots are filled. -/
def slotMask (l : List (List Byte)) : Nat :=
  (List.range 4).foldl (fun a k => if (l.getD k []).isEmpty then a else a + 2 ^ k) 0

/-- The registers that show the system bank. -/
def State.sysShow (s : State) : State :=
  (((s.wr Reg.SEC_LC_AUTH_MASK (slotMask s.sys.authKeys)).wr Reg.SEC_LC_IMG_MASK (slotMask s.sys.imgKeys)).wr
    Reg.SEC_FW_SVN_FLOOR s.sys.svnFloor).wr Reg.SEC_PROP_SEQ_SEQ s.sys.propSeq

/-- A change writes the whole record into the bank that is not newer (R440). -/
def State.sysWrite (s : State) (f : SysBody → SysBody) : State :=
  let seq : Nat := match (if s.sysNewer1 then s.sec.bank1 else s.sec.bank0) with
    | some b => (b.seq + 1) % 2 ^ 32
    | none => 1
  let n : SysBank := { seq := seq, body := f s.sys }
  let s := if s.sysNewer1 ∨ s.sysLost then { s with sec := { s.sec with bank0 := some n } } else { s with sec := { s.sec with bank1 := some n } }
  s.sysShow

/-- Creation of a proposal: PROP_SEQ rises by 1 (R494). -/
def State.newProposal (s : State) : State :=
  (s.sysWrite (fun b => { b with propSeq := (b.propSeq + 1) % 2 ^ 32 })).count 0x1F2

/-- DIE_SERIAL as bytes (R482). -/
def dieSerialBytes : List Byte := leBytes 16 Config.dieSerial.toNat

/-- The 64-byte message of an approval; the domain is 0 for a device and 1 for a safety proposal (R495). -/
def approvalMsg (domain propSeq : Nat) (digest : List Byte) : List Byte :=
  [0x43#8, 0x4C#8, 0x46#8, 0x41#8, 0x50#8, 0x50#8, 0x52#8, 0x56#8] ++ dieSerialBytes ++ leBytes 4 domain ++ leBytes 4 propSeq ++ digest

/-- An authority key verifies a signature over an approval message. -/
def State.approves (s : State) (slot : Nat) (msg sig : List Byte) : Bool :=
  let k := s.sys.authKeys.getD slot []
  !k.isEmpty && pssVerify k sig (sha256 msg)

/-- The lowest authority slot whose key verifies a signature (R425). -/
def State.approver (s : State) (msg sig : List Byte) : Option Nat :=
  (List.range 4).find? (fun k => s.approves k msg sig)

/-- n bytes drawn from the on-die random source (R424, R490). -/
def State.draw (s : State) (n : Nat) : List Byte × State :=
  ((List.range n).map (fun i => Config.randomByte (s.fresh + i)), { s with fresh := s.fresh + n })

end Sys2Proof.Machine
end

