-- ==== Sys2Proof/Machine/Island.lean ====
section
/-! DEFINITION. The evaluation of the Conjunction: contacts, pairs, functions, outputs, cross-compare, SAFETY_FAULT and the status mirror (chapter 16, R403 to R429). -/

namespace Sys2Proof.Machine

/-! Configuration sets (R422, R423). -/

/-- Pair record i of a set. -/
def setPair (b : List Byte) (i : Nat) : List Byte := slice b (64 + 16 * i) 16
/-- Function record f. -/
def setFunc (b : List Byte) (f : Nat) : List Byte := slice b (576 + 16 * f) 16
/-- Output record n. -/
def setOut (b : List Byte) (n : Nat) : List Byte := slice b (1088 + 32 * n) 32

/-- A set with SEQ and CRC taken as 0. -/
def setBlank (b : List Byte) : List Byte := slice b 0 8 ++ leBytes 4 0 ++ slice b 12 48 ++ leBytes 4 0 ++ slice b 64 1408

/-- The configuration digest (R422). -/
def setDigest (b : List Byte) : List Byte := sha256 (setBlank b)

/-- The CRC of a set, its own field taken as 0 (R422). -/
def setCrc (b : List Byte) : Nat := crc32c (slice b 0 60 ++ leBytes 4 0 ++ slice b 64 1408)

/-- A set with SEQ and a correct CRC written into its header. -/
def setWith (b : List Byte) (seq : Nat) : List Byte :=
  let h := slice b 0 8 ++ leBytes 4 seq ++ slice b 12 48
  h ++ leBytes 4 (setCrc (h ++ leBytes 4 0 ++ slice b 64 1408)) ++ slice b 64 1408

/-- A bank is valid when MAGIC, FORMAT and CRC are correct (R422). -/
def setValid (b : List Byte) : Bool :=
  decide (fieldLE b 0 4 = 0x4A4E4F43) && decide (fieldLE b 4 2 = 1) && decide (fieldLE b 0x3C 4 = setCrc b)

/-- A pair record as the channels use it. -/
def pairOf (r : List Byte) : SafPairDef :=
  { kind := fieldLE r 1 1, filter := fieldLE r 2 1, tpX := fieldLE r 3 1, tpY := fieldLE r 4 1, disc := fieldLE r 6 2 }

/-- A function record as the channels use it. -/
def funcOf (r : List Byte) : SafFuncDef :=
  { kind := fieldLE r 1 1, pair0 := fieldLE r 2 1, pair1 := fieldLE r 3 1, restart := fieldLE r 4 1, reset := fieldLE r 5 1 }

/-- An output record as the channels use it. -/
def outOf (r : List Byte) : SafOutDef :=
  let f := fieldLE r 1 1
  { enabled := bitOf f 0, edmEn := bitOf f 1, mainLoss := bitOf f 2, lane := bitOf f 3, reset := fieldLE r 2 1, width := fieldLE r 3 1
    interval := fieldLE r 4 2, edmMs := fieldLE r 6 2, funcs := fieldLE r 8 4, cells := fieldLE r 12 8 }

/-- A set as the channels use it. -/
def cfgOf (b : List Byte) (bank : Nat) : SafCfg :=
  { seq := fieldLE b 8 4, bank := bank, digest := setDigest b, bytes := b
    pairs := (List.range 32).map (fun i => pairOf (setPair b i)), funcs := (List.range 32).map (fun i => funcOf (setFunc b i))
    outs := (List.range 12).map (fun i => outOf (setOut b i)) }

/-- The kind of a pair; a number that names no pair has kind 0. -/
def kindAt (l : List SafPairDef) (p : Nat) : Nat :=
  match l[p]? with
  | some d => d.kind
  | none => 0

/-- Header fields, reserved bytes and index fields are as R422 lays them out (check 0x01). -/
def setShape (b : List Byte) : Bool :=
  let zero := fun (l : List Byte) => l.all (fun x => decide (x = 0#8))
  decide (fieldLE b 0 4 = 0x4A4E4F43) && decide (fieldLE b 4 2 = 1) && decide (fieldLE b 6 2 = 0) && decide (fieldLE b 12 1 = 32) &&
  decide (fieldLE b 13 1 = 32) && decide (fieldLE b 14 1 = 12) && zero (slice b 15 45) &&
  (List.range 32).all (fun i => decide (fieldLE (setPair b i) 0 1 = i) && zero (slice (setPair b i) 5 1) && zero (slice (setPair b i) 8 8)) &&
  (List.range 32).all (fun i => decide (fieldLE (setFunc b i) 0 1 = i) && zero (slice (setFunc b i) 6 10)) &&
  (List.range 12).all (fun i => decide (fieldLE (setOut b i) 0 1 = i) && decide (fieldLE (setOut b i) 1 1 < 16) && zero (slice (setOut b i) 20 12))

/-- A test source field is in range. -/
def tpOk (x : Nat) : Bool := decide (x < 4 ∨ x = 0xFF)

/-- A pair's fields are in range (check 0x02); an unused pair's other fields are not judged. -/
def pairOk (d : SafPairDef) : Bool :=
  decide (d.kind = 0) ||
  (decide (d.kind < 5) && decide (d.filter ≤ 12) && tpOk d.tpX && tpOk d.tpY &&
   (if d.kind = 4 then decide (d.tpY = 0xFF) && decide (d.disc = 0)
    else decide (4 ≤ d.disc ∧ d.disc ≤ 3000) &&
      (if d.kind = 3 then decide (5 ≤ d.filter) && decide (d.tpX = 0xFF) && decide (d.tpY = 0xFF)
       else decide (d.tpX = 0xFF) || decide (d.tpY = 0xFF) || decide (d.tpX ≠ d.tpY))))

/-- A function's kind matches its pairs (check 0x03). -/
def funcKindOk (ps : List SafPairDef) (f : SafFuncDef) : Bool :=
  let k0 := kindAt ps f.pair0
  match f.kind with
  | 0 => true
  | 1 | 2 => decide (k0 = 1 ∨ k0 = 2) && decide (f.pair1 = 0xFF)
  | 3 => decide (k0 = 2) && decide (kindAt ps f.pair1 = 2) && decide (f.pair0 ≠ f.pair1)
  | 4 => decide (k0 = 3) && decide (f.pair1 = 0xFF)
  | _ => false

/-- A function's RESTART and RESET_PAIR (check 0x04). -/
def funcResetOk (ps : List SafPairDef) (f : SafFuncDef) : Bool :=
  decide (f.kind = 0) ||
  ((if f.restart = 0 then decide (f.kind ≠ 3) && decide (kindAt ps f.reset = 4)
    else decide (f.restart = 1) && decide (f.kind ≠ 1) && decide (f.reset = 0xFF)))

/-- An output's fields (check 0x05). -/
def outOk (fs : List SafFuncDef) (o : SafOutDef) : Bool :=
  (!o.enabled || (decide (o.funcs ≠ 0) &&
    (List.range 32).all (fun f => !bitOf o.funcs f || (match fs[f]? with | some d => decide (d.kind ≠ 0) | none => false)) &&
    decide (4 ≤ o.width ∧ o.width ≤ 16) && decide (1 ≤ o.interval ∧ o.interval ≤ 60) && decide (o.edmMs = 0 ∨ (20 ≤ o.edmMs ∧ o.edmMs ≤ 1000)))) &&
  (!(decide (o.cells ≠ 0) || o.mainLoss || o.lane) || decide (o.reset ≠ 0xFF))

/-- The pairs that the used functions evaluate. -/
def servedPairs (fs : List SafFuncDef) : List Nat :=
  ((fs.filter (fun f => decide (f.kind ≠ 0))).map (fun f => if f.pair1 = 0xFF then [f.pair0] else [f.pair0, f.pair1])).flatten

/-- The check code of a proposed set: that of the first failing check, 0 when it passes (R423). -/
def setCheck (b : List Byte) : Nat :=
  let c := cfgOf b 0
  if !setShape b then 1
  else if !c.pairs.all pairOk then 2
  else if !c.funcs.all (funcKindOk c.pairs) then 3
  else if !(c.funcs.all (funcResetOk c.pairs) && c.outs.all (fun o => decide (o.reset = 0xFF) || decide (kindAt c.pairs o.reset = 4))) then 4
  else if !c.outs.all (outOk c.funcs) then 5
  else if !(distinct (servedPairs c.funcs) && (servedPairs c.funcs).all (fun p => decide (kindAt c.pairs p ≠ 4))) then 6
  else 0

/-- The newer valid bank and its set; equal SEQ selects bank A (R422). -/
def SafIsland.newest (i : SafIsland) : Option SafCfg :=
  let v := fun (b : Option (List Byte)) => match b with | some x => if setValid x then some x else none | none => none
  match v i.bankA, v i.bankB with
  | some a, some b => some (if seqAfter (fieldLE b 8 4) (fieldLE a 8 4) then cfgOf b 1 else cfgOf a 0)
  | some a, none => some (cfgOf a 0)
  | none, some b => some (cfgOf b 1)
  | none, none => none

/-! Contacts and pairs (R405 to R408, R410). -/

/-- One sample of a filtered input (R406); a pulsed sample is skipped. -/
def SafContact.step (filter : Nat) (raw skip : Bool) (c : SafContact) : SafContact :=
  if skip then { c with pulseHigh := raw }
  else
    let run := if c.run = 0 ∨ c.raw ≠ raw then 1 else min (c.run + 1) (filter + 1)
    { c with raw := raw, run := run, level := if filter < run then some raw else c.level }

/-- Sample s is a pulsed sample of test source k (R407). -/
def pulsed (s k : Nat) : Bool := decide (k < 4 ∧ s % 32 = 8 * k)

/-- Healthy level of contact Y by kind (R405). -/
def yHealthy (kind : Nat) : Bool := decide (kind ≠ 2)

/-- Contact X stands at its healthy level. -/
def SafPair.xH (p : SafPair) : Bool := decide (p.x.level = some true)
/-- Contact Y stands at its healthy level. -/
def SafPair.yH (p : SafPair) (kind : Nat) : Bool := decide (p.y.level = some (yHealthy kind))

/-- Both contacts have been seen open: the button of a two-hand function is released (R411). -/
def SafPair.released (p : SafPair) (kind : Nat) : Bool :=
  decide (p.x.level = some false) && decide (p.y.level = some (!yHealthy kind))

/-- A pair in FAULT may leave it (R408). -/
def SafPair.mayLeave (p : SafPair) : Bool := decide (p.cause ≠ 2) || !(p.x.pulseHigh || p.y.pulseHigh)

/-- The state table of EQUIV, ANTI and OSSD pairs; the second part is the counters (R408). -/
def SafPair.table (d : SafPairDef) (s : Nat) (p : SafPair) : SafPair × List Nat :=
  let xh := p.xH
  let yh := p.yH d.kind
  match p.st with
  | .unused => (p, [])
  | .healthy => if xh && yh then (p, []) else ({ p with st := .demand, bothOpen := !xh && !yh }, [0x180])
  | .demand =>
    if !xh && !yh then ({ p with bothOpen := true }, [])
    else if xh && yh then
      if p.bothOpen then ({ p with st := .healthy, cause := 0 }, []) else ({ p with st := .fault, cause := 1 }, [0x181])
    else if p.bothOpen then ({ p with st := .ret, s1 := s }, [])
    else (p, [])
  | .ret =>
    if xh && yh && decide (s - p.s1 ≤ 4 * d.disc) then ({ p with st := .healthy, cause := 0 }, [])
    else if !xh && !yh then ({ p with st := .demand }, [])
    else if 4 * d.disc < s - p.s1 then ({ p with st := .fault, cause := 1 }, [0x181])
    else (p, [])
  | .fault => if !xh && !yh && p.mayLeave then ({ p with st := .demand, bothOpen := true }, []) else (p, [])

/-- A SINGLE pair: its press (R410), and its state, HEALTHY while closed and DEMAND while open. -/
def SafPair.single (s : Nat) (was : Option Bool) (p : SafPair) : SafPair × List Nat :=
  let now := p.x.level
  let opened := decide (was = some true) && decide (now = some false)
  let held : Nat := match p.closedAt with | some c => s - c | none => 0
  let ok := opened && p.seenOpen && decide (400 ≤ held ∧ held ≤ 20000) && decide (p.st ≠ .fault)
  let miss := opened && p.seenOpen && !decide (400 ≤ held ∧ held ≤ 20000)
  let p := { p with
    press := ok
    closedAt := if now = some true ∧ was ≠ some true then some s else p.closedAt
    seenOpen := p.seenOpen || decide (now = some false)
    st := if p.st = .fault then (if now = some false ∧ p.mayLeave then .demand else .fault)
      else if now = some true then .healthy else .demand
    cause := if p.st ≠ .fault ∧ now = some true then 0 else p.cause }
  (p, if miss then [0x18A] else [])

/-- One sample of a pair in one channel (R406 to R408, R410). -/
def SafPair.step (d : SafPairDef) (s : Nat) (rx ry : Bool) (p : SafPair) : SafPair × List Nat :=
  if d.kind = 0 then ({ p with rawX := rx, rawY := ry }, [])
  else
    let px := pulsed s d.tpX
    let py := decide (d.kind ≠ 4) && pulsed s d.tpY
    let was := p.x.level
    let short := (px && rx) || (py && ry)
    let p := { p with rawX := rx, rawY := ry, press := false, x := p.x.step d.filter rx px, y := if d.kind = 4 then p.y else p.y.step d.filter ry py }
    if short && decide (p.st ≠ .fault) then ({ p with st := .fault, cause := 2 }, [0x182])
    else if d.kind = 4 then p.single s was else p.table d s

/-- A pair at island start stands in DEMAND with BOTH_OPEN 1 (R421). -/
def pairStart (d : SafPairDef) : SafPair := { st := if d.kind = 0 then .unused else .demand }

/-! Functions (R409, R411). -/

/-- The pair of a number in one channel. -/
def pairAt (ps : List SafPair) (p : Nat) : SafPair := ps.getD p {}

/-- One sample of an ESTOP, GUARD or CURTAIN function (R409, R410). -/
def SafFunc.plain (d : SafFuncDef) (ps : List SafPair) (f : SafFunc) : SafFunc × List Nat :=
  let h := decide ((pairAt ps d.pair0).st = .healthy)
  let press := decide (d.restart = 0) && (pairAt ps d.reset).press
  let miss := if press then [0x18A] else []
  match f.st with
  | .permit => if h then (f, miss) else ({ f with st := .demand }, miss)
  | .demand => if h then ({ f with st := if d.restart = 1 then .permit else .waitReset }, miss) else (f, miss)
  | .waitReset =>
    if !h then ({ f with st := .demand }, miss)
    else if press then ({ f with st := .permit }, [0x189])
    else (f, [])
  | _ => (f, miss)

/-- One sample of a TWO_HAND function (R411). -/
def SafFunc.twoHand (d : SafFuncDef) (ps : List SafPair) (s : Nat) (f : SafFunc) : SafFunc × List Nat :=
  let p0 := pairAt ps d.pair0
  let p1 := pairAt ps d.pair1
  let h0 := decide (p0.st = .healthy)
  let h1 := decide (p1.st = .healthy)
  let anyFault := decide (p0.st = .fault) || decide (p1.st = .fault)
  let last : SafFunc × List Nat := if anyFault then ({ f with st := .waitRelease }, []) else (f, [])
  match f.st with
  | .waitRelease => if p0.released 2 && p1.released 2 then ({ f with st := .ready }, []) else last
  | .ready =>
    if h0 && h1 then ({ f with st := .permit, syncFail := false }, [])
    else if h0 || h1 then ({ f with st := .one, a := s, firstIs0 := h0 }, [])
    else last
  | .one =>
    let first := if f.firstIs0 then h0 else h1
    let other := if f.firstIs0 then h1 else h0
    if !first then ({ f with st := .waitRelease }, [])
    else if other && decide (s - f.a ≤ 2000) then ({ f with st := .permit, syncFail := false }, [])
    else if 2000 < s - f.a then ({ f with st := .waitRelease, syncFail := true }, [0x18E])
    else last
  | .permit => if h0 && h1 then last else ({ f with st := .waitRelease }, [])
  | _ => last

/-- One sample of a function in one channel. -/
def SafFunc.step (d : SafFuncDef) (ps : List SafPair) (s : Nat) (f : SafFunc) : SafFunc × List Nat :=
  if d.kind = 0 then (f, []) else if d.kind = 3 then f.twoHand d ps s else f.plain d ps

/-- A function at island start and at each activation (R409, R411). -/
def funcStart (d : SafFuncDef) : SafFunc := { st := if d.kind = 0 then .unused else if d.kind = 3 then .waitRelease else .demand }

/-! Outputs (R412 to R415). -/

/-- What an output sees of the main die at a sample: the signals that arrived and the heartbeat loss (R415). -/
structure MainView where
  arrived : List MainSignal
  lost : Bool

/-- A fault signal is mapped to an output (R415). -/
def mapped (o : SafOutDef) (m : MainSignal) : Bool :=
  match m with
  | .cellSafe c => bitOf o.cells c.val
  | .laneFault => o.lane

/-- A mapped signal or loss acts on an output at this sample. -/
def MainView.hits (v : MainView) (o : SafOutDef) : Bool := o.enabled && (v.arrived.any (mapped o) || (v.lost && o.mainLoss))

/-- An output leaves ON or TEST (R412): pins low, EDM timer started. -/
def SafOut.leave (s : Nat) (to_ : SafOutSt) (o : SafOut) : SafOut :=
  if o.st = .on ∨ o.st = .test then { o with st := to_, left := s, edmPhase := .release, edmFrom := s, wrong := 0, pinA := false, pinB := false }
  else { o with st := to_, pinA := false, pinB := false, wrong := 0 }

/-- An output enters FAULT (R414). -/
def SafOut.fail (s cause : Nat) (o : SafOut) : SafOut := { o.leave s .fault with cause := cause, pulse := none }

/-- EDM_T in samples (R414, R422). -/
def edmT (d : SafOutDef) : Nat := 4 * (if d.edmMs = 0 then 300 else d.edmMs)

/-- The readback or EDM condition that fails at a sample, 0 for none, with the run of wrong readbacks (R414). -/
def SafOut.judge (d : SafOutDef) (s : Nat) (rbOn rel : Bool) (o : SafOut) : Nat × Nat :=
  let wrong : Nat :=
    if o.st = .off ∧ o.left + 2 ≤ s then (if rbOn then o.wrong + 1 else 0)
    else if o.st = .on ∧ o.entered + 2 ≤ s then (if rbOn then 0 else o.wrong + 1)
    else 0
  let late := decide (edmT d < s - o.edmFrom)
  let edm := d.edmEn &&
    ((decide (o.st = .on) && o.pulled && rel) ||
     (decide (o.edmPhase = .pullIn) && decide (o.st = .on ∨ o.st = .test) && !o.pulled && rel && late) ||
     (decide (o.edmPhase = .release) && decide (o.st = .off) && !rel && late))
  (if o.st = .off ∧ 2 ≤ wrong then 1 else if o.st = .on ∧ 2 ≤ wrong then 2 else if edm then 4 else 0, wrong)

/-- One sample of an output's state table, after signals and filters (R412, R413). -/
def SafOut.table (d : SafOutDef) (s : Nat) (funcsOk con rel : Bool) (o : SafOut) : SafOut × List Nat :=
  match o.st with
  | .off =>
    if con && (rel || !d.edmEn) then
      ({ o with st := .on, entered := s, edmPhase := .pullIn, edmFrom := s, pulled := false, due := s + 4000 * d.interval, wrong := 0, pulse := none, pinA := true, pinB := true }, [])
    else (o, [])
  | .on =>
    if !con then (o.leave s .off, if funcsOk then [] else [0x180])
    else if o.due ≤ s then
      ({ o with st := .test, pulse := some (s, o.nextB, none), pinA := o.nextB, pinB := !o.nextB, nextB := !o.nextB, wrong := 0 }, [])
    else (o, [])
  | .test => if !con then (o.leave s .off, [0x188]) else (o, [])
  | .fault => (o, [])

/-- One sample of an output in one channel: its signals and filters, a reset press, then the rows of R412 in order, the fault row of R414 after those that change the state before it (R16, R410, R412 to R415). -/
def SafOut.step (d : SafOutDef) (fs : List SafFunc) (ps : List SafPair) (s cause : Nat) (v : MainView) (rb edm : Bool) (o : SafOut) : SafOut × List Nat :=
  if !d.enabled then ({ o with rb := o.rb.step 2 rb false, edm := o.edm.step 2 edm false }, [])
  else
    let o : SafOut := { o with rb := if o.st = .test then o.rb else o.rb.step 2 rb false, edm := o.edm.step 2 edm false }
    let rbOn := decide (o.rb.level = some true)
    let rel := decide (o.edm.level = some true)
    let o : SafOut := if v.hits d then { (if o.st = .on ∨ o.st = .test then o.leave s .off else o) with mainDemand := true, signalAt := some s } else o
    let o : SafOut := { o with
      pulled := o.pulled || (decide (o.st = .on ∨ o.st = .test) && decide (o.edm.level = some false))
      edmPhase := if o.edmPhase = .release ∧ rel ∧ o.st ≠ .on ∧ o.st ≠ .test then .idle else o.edmPhase }
    let press := decide (d.reset ≠ 0xFF) && (pairAt ps d.reset).press && (decide (o.st = .fault) || o.mainDemand)
    let quiet := !(v.lost && d.mainLoss) && (match o.signalAt with | some t => decide (40 < s - t) | none => true)
    let clearDemand := press && o.mainDemand && quiet
    let clearFault := press && decide (o.st = .fault) && !rbOn && (rel || !d.edmEn)
    let o : SafOut := if clearDemand then { o with mainDemand := false } else o
    let missed := if press && !clearDemand && !clearFault then [0x18A] else []
    if clearFault then ({ o with st := .off, cause := 0, edmPhase := .idle, wrong := 0 }, missed)
    else
      let funcsOk := (List.range 32).all (fun f => !bitOf d.funcs f || decide ((fs.getD f {}).st = .permit))
      let con := funcsOk && !o.mainDemand && decide (cause = 0)
      let j := o.judge d s rbOn rel
      let r := SafOut.table d s funcsOk con rel { o with wrong := j.2 }
      if r.1.st = o.st ∧ j.1 ≠ 0 then (o.fail s j.1, missed ++ [if j.1 = 4 then 0x184 else 0x183]) else (r.1, missed ++ r.2)

/-! A channel's sample. -/

/-- Elements of a list paired with another and with a running number. -/
def stepAll {α β : Type} (f : Nat → α → β → β × List Nat) (z : β) : Nat → List α → List β → List β × List Nat
  | _, [], _ => ([], [])
  | n, a :: t, bs =>
    let r := f n a (bs.headD z)
    let q := stepAll f z (n + 1) t (bs.drop 1)
    (r.1 :: q.1, r.2 ++ q.2)

/-- One sample of a channel: pairs, functions, outputs, with the counters of what happened (R404). -/
def SafChannel.step (c : SafCfg) (s cause : Nat) (v : MainView) (r : SafRaw) (ch : SafChannel) : SafChannel × List Nat :=
  let p := stepAll (fun i d q => SafPair.step d s (bitOf r.x.toNat i) (bitOf r.y.toNat i) q) {} 0 c.pairs ch.pairs
  let f := stepAll (fun _ d q => SafFunc.step d p.1 s q) {} 0 c.funcs ch.funcs
  let o := stepAll (fun i d q => SafOut.step d f.1 p.1 s cause v (bitOf r.rb.toNat i) (bitOf r.edm.toNat i) q) {} 0 c.outs ch.outs
  ({ pairs := p.1, funcs := f.1, outs := o.1 }, p.2 ++ f.2 ++ o.2)

/-- A channel as sample 0 finds it (R421). -/
def channelStart (c : SafCfg) : SafChannel :=
  { pairs := c.pairs.map pairStart, funcs := c.funcs.map funcStart, outs := c.outs.map (fun _ => {}) }

/-- A pair state's code (R429). -/
def pairCode : SafPairSt → Nat
  | .unused => 0 | .healthy => 1 | .demand => 2 | .ret => 3 | .fault => 4
/-- A function state's code (R429). -/
def funcCode : SafFuncSt → Nat
  | .unused => 0 | .demand => 1 | .waitReset => 2 | .permit => 3 | .waitRelease => 4 | .ready => 5 | .one => 6
/-- An output state's code (R429). -/
def outCode : SafOutSt → Nat
  | .off => 0 | .on => 1 | .test => 2 | .fault => 3

/-- The quantities of a channel's record of a sample: filtered contact levels, states and control pin commands (R417). -/
def SafChannel.record (c : SafCfg) (ch : SafChannel) : List Nat :=
  (List.zipWith (fun (d : SafPairDef) (p : SafPair) => [b2n p.xH, b2n (p.yH d.kind), pairCode p.st]) c.pairs ch.pairs).flatten ++
  ch.funcs.map (fun f => funcCode f.st) ++
  (ch.outs.map (fun o => [outCode o.st, b2n o.pinA, b2n o.pinB])).flatten

/-- The positions at which two records differ. -/
def diffAt : Nat → List Nat → List Nat → List Nat
  | _, [], _ => []
  | _, _, [] => []
  | n, a :: t, b :: u => if a = b then diffAt (n + 1) t u else n :: diffAt (n + 1) t u

/-- A quantity differs at two consecutive samples (R417). -/
def diffTwice : List (List Nat) → Bool
  | [] => false
  | [_] => false
  | a :: b :: t => a.any (fun q => decide (q ∈ b)) || diffTwice (b :: t)

/-! The island as a whole. -/

/-- The state with the island changed. -/
def State.onSaf (s : State) (f : SafIsland → SafIsland) : State := { s with saf := f s.saf }

/-- The main die runs: its PLL has locked since reset. -/
def State.mainRuns (s : State) : Bool := s.time.locked

/-- Counts island events while the main die runs. -/
def State.safCount (s : State) (l : List Nat) : State := if s.mainRuns then forL l (fun e s => s.count e) s else s

/-- The safety state: 0 NORMAL, 1 SAFE_STOP, 2 SAFETY_FAULT (R419). -/
def SafIsland.state (i : SafIsland) : Nat :=
  if i.cause ≠ 0 then 2
  else if !i.running then 1
  else match i.cfg with
    | none => 0
    | some c =>
      if (List.zipWith (fun (d : SafOutDef) (o : SafOut) => d.enabled && decide (o.st = .off ∨ o.st = .fault)) c.outs i.a.outs).any id then 1 else 0

/-- The word of SAF_PAIR_p (R429). -/
def pairWord (d : SafPairDef) (s : Nat) (a b : SafPair) : Nat :=
  let w := setBits (setBits (setBits 0 31 29 (pairCode a.st)) 28 27 a.cause) 26 26 (b2n (a.bothOpen && decide (a.st ≠ .unused)))
  let w := setBits (setBits (setBits (setBits w 25 25 (b2n a.rawX)) 24 24 (b2n a.rawY)) 23 23 (b2n b.rawX)) 22 22 (b2n b.rawY)
  let w := setBits (setBits w 21 21 (b2n a.xH)) 20 20 (b2n (decide (d.kind ≠ 4) && a.yH d.kind))
  setBits w 13 0 (if a.st = .ret then 4 * d.disc - (s - a.s1) else 0)

/-- The word of SAF_OUT_n (R429). -/
def outWord (s : Nat) (o : SafOut) : Nat :=
  let w := setBits (setBits (setBits 0 31 30 (outCode o.st)) 29 27 o.cause) 26 26 (b2n o.mainDemand)
  let w := setBits (setBits w 25 25 (b2n (decide (o.edm.level = some true)))) 24 24 (b2n (decide (o.rb.level = some true)))
  let w := setBits (setBits (setBits w 23 23 (b2n o.pinA)) 22 22 (b2n o.pinB)) 21 21 (b2n o.nextB)
  setBits w 5 0 (if o.st = .on then (o.due - s) / 4000 else 0)

/-- The bits of a list of truth values. -/
def bitsNat : List Bool → Nat
  | [] => 0
  | b :: t => b2n b + 2 * bitsNat t

/-- The Steward's part of SAF_STATE: proposal, approvals, lockout, and the image's safety reference (R424 to R426, R429). -/
def State.safShow (s : State) : State :=
  let ap : Nat := match s.saf.proposal with | some p => p.slots.length | none => 0
  let mis : Bool := match s.img.run, s.saf.cfg with
    | some i, some c => (match i.safetyRef with | some d => decide (d ≠ c.digest) | none => false)
    | _, _ => false
  (((s.wrb Reg.SAF_STATE_PROPOSAL s.saf.proposal.isSome).wr Reg.SAF_STATE_APPROVALS ap).wrb Reg.SAF_STATE_LOCKOUT s.saf.lockEnd.isSome).wrb Reg.SAF_STATE_REF_MISMATCH mis

/-- The island's status crosses the bridge: the SAF registers take it, a SAFETY_FAULT cause is logged, a change of the safety state is a device cause (R418, R429, R473). -/
def State.safMirror (s : State) : State :=
  if !s.mainRuns then s
  else
    let i := s.saf
    let n : Nat := i.s.getD 0
    let pairs : List SafPairDef := match i.cfg with | some c => c.pairs | none => []
    let s := { s with saf := { i with statusAt := some s.runNs, logDue := none } }
    let s := match i.logDue with | some c => s.logEvent 0x408 (c : Int) | none => s
    let s := (((s.wrCause Reg.SAF_STATE_STATE i.state 0).wrb Reg.SAF_STATE_STARTING (!i.running)).wrb Reg.SAF_STATE_BRIDGE_OK true).wr Reg.SAF_STATE_CAUSE i.cause
    let s := ((s.wrb Reg.SAF_STATE_CFG_VALID i.cfg.isSome).wr Reg.SAF_PAIRS_HEALTHY (bitsNat (i.a.pairs.map (fun p => decide (p.st = .healthy))))).wr
      Reg.SAF_PAIR_FLT_FAULT (bitsNat (i.a.pairs.map (fun p => decide (p.st = .fault))))
    let s := ((s.wr Reg.SAF_FUNCS_PERMIT (bitsNat (i.a.funcs.map (fun f => decide (f.st = .permit))))).wr
      Reg.SAF_OUTS_FAULT (bitsNat (i.a.outs.map (fun o => decide (o.st = .fault))))).wr Reg.SAF_OUTS_ON (bitsNat (i.a.outs.map (fun o => decide (o.st = .on ∨ o.st = .test))))
    let s := s.wr Reg.SAF_SAMPLE_S n
    let s := match i.cfg with
      | some c => forN 8 (fun k (s : State) => s.wr Reg.SAF_DIGEST_DIGEST (fieldLE c.digest (4 * k) 4) [k]) ((s.wr Reg.SAF_CFG_SEQ_SEQ c.seq).wr Reg.SAF_CFG_BANK_BANK c.bank)
      | none => s
    let s := forN 32 (fun p (s : State) => s.setReg Reg.SAF_PAIR (match pairs[p]? with | some d => pairWord d n (pairAt i.a.pairs p) (pairAt i.b.pairs p) | none => 0) [p]) s
    let s := forN 32 (fun f (s : State) => s.setReg Reg.SAF_FUNC (match i.a.funcs[f]? with | some q => setBits (setBits 0 31 29 (funcCode q.st)) 28 28 (b2n q.syncFail) | none => 0) [f]) s
    let s := forN 12 (fun o (s : State) => s.setReg Reg.SAF_OUT (match i.a.outs[o]? with | some q => outWord n q | none => 0) [o]) s
    s.safShow

/-- Entry to SAFETY_FAULT: every control pin and test source low, outputs off, counted, and logged with the next status; a first cause is kept (R412, R418). -/
def State.safFault (s : State) (cause : Nat) : State :=
  if s.saf.cause ≠ 0 then s
  else
    let n : Nat := s.saf.s.getD 0
    let low := fun (o : SafOut) => if o.st = .on ∨ o.st = .test then { o.leave n .off with pulse := none } else o
    let i := s.saf
    let i : SafIsland := { i with cause := cause, logDue := some cause, a := { i.a with outs := i.a.outs.map low }, b := { i.b with outs := i.b.outs.map low } }
    ({ s with saf := i }).safCount [0x186]

/-! The change log (R427). -/

/-- A change-log entry is written. -/
def State.safLog (s : State) (kind : Nat) (result : Status) (slots : List Nat) (old new : List Byte) : State :=
  let n := s.saf.logSeq + 1
  let b := leBytes 4 n ++ leBytes 1 kind ++ leBytes 1 (statusCode result) ++ leBytes 1 (slots.getD 0 0xFF) ++ leBytes 1 (slots.getD 1 0xFF) ++
    leBytes 4 (s.rd Reg.AGE_HOURS_OP_HOURS) ++ leBytes 4 (s.rd Reg.AGE_PCYC_PCYCLES) ++ slice old 0 16 ++ slice new 0 16 ++ leBytes 8 (s.time.d.sec % 2 ^ 48) ++ leBytes 4 0
  let e := b ++ leBytes 4 (crc32c b)
  s.onSaf (fun i => { i with logSeq := n, log := (i.log ++ [e]).drop (i.log.length + 1 - 256) })

/-- The digest of the active configuration, or nothing. -/
def State.safDigest (s : State) : List Byte := match s.saf.cfg with | some c => c.digest | none => []

/-- The island runs with a configuration from sample 0's states (R421, R426). -/
def SafIsland.begin_ (i : SafIsland) (c : SafCfg) : SafIsland :=
  { i with cfg := some c, a := channelStart c, b := channelStart c, diffs := [] }

/-- An approved configuration comes into force: the approval completes, the change is logged and counted (R426). -/
def State.safActivated (s : State) (w : SafSwitch) (ok : Bool) (old : List Byte) : State :=
  let s := s.onSaf (fun i => { i with switch := none })
  let s := s.safLog (if ok then 1 else 2) (if ok then .ok else .aborted) w.slots old w.cfg.digest
  let s := if ok then s.count 0x18D else s
  (s.complete w.ref (if ok then .ok else .aborted)).safShow

/-! Rows. -/

/-- SAFETY_STROBE: channel A checks the interval since the strobe before, in ns (R404). -/
def execSafetyStrobe (interval : Nat) (s : State) : Out :=
  .next (if s.saf.running && !decide (45000 ≤ interval ∧ interval ≤ 55000) then s.safFault 2 else s)

/-- CHANNEL_B_CLOCK_FAULT: channel B's clock stopped, left 99–101 MHz or its PLL lost lock (R28, R404). -/
def execChannelBClockFault (s : State) : Out := .next (s.safFault 2)

/-- The exchange of records at a compare sample: a disagreement is counted and is a fault, and an approved set comes into force (R417, R426). -/
def State.safCompare (s : State) : State :=
  let bad := diffTwice s.saf.diffs
  let s := s.onSaf (fun i => { i with diffs := i.diffs.drop (i.diffs.length - 1) })
  let s := if bad then (s.safCount [0x185]).safFault 1 else s
  match s.saf.switch with
  | some w =>
    if w.ready && !w.first then
      let old := s.safDigest
      (s.onSaf (fun i => i.begin_ w.cfg)).safActivated w true old
    else s
  | none => s

/-- SAFETY_SAMPLE: both channels latch their inputs and evaluate pairs, functions and outputs; every fourth sample they first compare, and the status compared goes out (R404 to R419, R429). -/
def execSafetySample (ra rb : SafRaw) (s : State) : Out :=
  .next (if !s.saf.running then s
    else
      let n : Nat := match s.saf.s with | some k => k + 1 | none => 0
      let s := s.onSaf (fun i => { i with s := some n, sinceHb := i.sinceHb + 1 })
      let s := if n % 4 = 0 then (if n = 0 then s else s.safCompare).safMirror else s
      match s.saf.cfg with
      | none => s
      | some c =>
        let v : MainView := { arrived := s.saf.arrived, lost := s.saf.lost }
        let free := ((c.outs.zip s.saf.a.outs).filter (fun e => e.1.enabled && !e.2.mainDemand)).map (·.1)
        let acted := (s.saf.arrived.eraseDups.filter (fun m => free.any (fun o => mapped o m))).length +
          (if s.saf.lost && !s.saf.lossCounted && free.any (·.mainLoss) then 1 else 0)
        let a := s.saf.a.step c n s.saf.cause v ra
        let b := s.saf.b.step c n s.saf.cause v rb
        let d := diffAt 0 (a.1.record c) (b.1.record c)
        let s := s.onSaf (fun i => { i with a := a.1, b := b.1, arrived := [], lossCounted := i.lost, diffs := i.diffs ++ [d] })
        let s := (s.safCount a.2).safCount (List.replicate acted 0x18B)
        if ra.pinsOk && rb.pinsOk then s else s.safFault 7)

/-- COMPARE_BLOCK_TIMEOUT: the other channel's block did not come within 100 µs (R417). -/
def execCompareBlockTimeout (s : State) : Out :=
  .next (if s.saf.running then (s.safCount [0x185]).safFault 3 else s)

/-- One output of both channels changed; the counters are channel A's. -/
def State.onOut (s : State) (n : Nat) (f : Bool → SafOut → SafOut × List Nat) : State :=
  let a := f true (s.saf.a.outs.getD n {})
  let b := f false (s.saf.b.outs.getD n {})
  (s.onSaf (fun i => { i with a := { i.a with outs := modAt (fun _ => a.1) i.a.outs n }, b := { i.b with outs := modAt (fun _ => b.1) i.b.outs n } })).safCount a.2

/-- TEST_READBACK_CHECK: the readback of an output as each channel sees it 25 µs before the pulsed pin's return; an output that a demand turned off faults when it shows on (R413). -/
def execTestReadbackCheck (out : Fin 12) (onA onB : Bool) (s : State) : Out :=
  .next (s.onOut out.val (fun isA o =>
    let on := if isA then onA else onB
    match o.pulse with
    | some (t, b, none) =>
      if o.st = .off ∧ on then (o.fail (s.saf.s.getD 0) 3, [0x183]) else ({ o with pulse := some (t, b, some on) }, [])
    | _ => (o, [])))

/-- TEST_PULSE_END: the pulsed pin returns high when the readback showed off; else the output faults (R412, R413). -/
def execTestPulseEnd (out : Fin 12) (s : State) : Out :=
  let c : Option SafOutDef := match s.saf.cfg with | some c => c.outs[out.val]? | none => none
  .next (match c with
    | none => s
    | some d => s.onOut out.val (fun _ o =>
      match o.pulse with
      | some (t, _, some on) =>
        if o.st ≠ .test then ({ o with pulse := none }, [])
        else if on then (o.fail (s.saf.s.getD 0) 3, [0x183])
        else ({ o with st := .on, pulse := none, pinA := true, pinB := true, wrong := 0, due := t + ceilDiv (50 * d.width + 25) 250 + 4000 * d.interval }, [0x187])
      | _ => (o, [])))

/-- VSAFE_FEED_FAULT: a feed leaves 3.0–3.6 V (R403, R418). -/
def execVsafeFeedFault (chanB : Bool) (s : State) : Out :=
  let s := s.onSaf (fun i => if chanB then { i with feedB := false } else { i with feedA := false })
  let s := s.wr (if chanB then Reg.PWR_STAT_VSAFE_B_OK else Reg.PWR_STAT_VSAFE_A_OK) 0
  .next ((s.safCount [0x18F]).safFault 5)

/-- CHANNEL_FEED_RETURN: one channel's feed returns; that channel starts and joins the other in SAFETY_FAULT (R421). -/
def execChannelFeedReturn (chanB : Bool) (s : State) : Out :=
  let s := s.onSaf (fun i => if chanB then { i with feedB := true } else { i with feedA := true })
  .next ((s.wr (if chanB then Reg.PWR_STAT_VSAFE_B_OK else Reg.PWR_STAT_VSAFE_A_OK) 1).safFault 5)

/-- The fault signals whose condition lasts: cells in SAFE and failed lanes (R68, R76, R415). -/
def State.mainSignals (s : State) : List MainSignal :=
  ((List.finRange 64).filter (fun c => s.cellSafe c.val)).map MainSignal.cellSafe ++ (if s.fab.failed.isEmpty then [] else [.laneFault])

/-- MAIN_HEARTBEAT: the running main die sends its heartbeat and its active fault signals (R19, R415). -/
def execMainHeartbeat (s : State) : Out :=
  .next (if s.mainRuns then s.onSaf (fun i => { i with sinceHb := 0, lost := false, arrived := i.arrived ++ s.mainSignals }) else s)

/-- MAIN_FAULT_SIGNAL: a fault signal arrives and acts at the next sample (R19, R415). -/
def execMainFaultSignal (m : MainSignal) (s : State) : Out := .next (s.onSaf (fun i => { i with arrived := i.arrived ++ [m] }))

/-- HEARTBEAT_LOSS: 10 ms, 40 samples, without a heartbeat (R415). -/
def execHeartbeatLoss (s : State) : Out :=
  .next (if 40 ≤ s.saf.sinceHb then s.onSaf (fun i => { i with lost := true }) else s)

/-- ISLAND_START: self-tests, choice of the newer valid bank, and the states of sample 0; `ramOk` is the outcome of the self-tests, `agree` that of the channels' comparison (R421, R422, R426). -/
def execIslandStart (ramOk agree : Bool) (s : State) : Out :=
  let old := s.safDigest
  let cfg := s.saf.newest
  let cause : Nat := if !ramOk then 4 else if cfg.isNone || !agree then 6 else 0
  let chan : SafChannel := match cfg with | some c => channelStart c | none => {}
  let s := s.onSaf (fun i => { i with
    feedA := true, feedB := true, running := true, cause := 0, cfg := cfg, s := none, a := chan, b := chan, diffs := [], arrived := []
    sinceHb := 0, lost := false, lossCounted := false, restartDue := none })
  let s := (s.wr Reg.PWR_STAT_VSAFE_A_OK 1).wr Reg.PWR_STAT_VSAFE_B_OK 1
  let s := if cause = 0 then s else s.safFault cause
  .next (match s.saf.switch with
    | some w => if w.first ∧ w.ready then s.safActivated w (decide (cause = 0) && decide (s.safDigest = w.cfg.digest)) old else s
    | none => s)

/-- CONFIG_DIGEST_CHECK: every 10 s each channel recomputes the digest; `ok` is the outcome (R418, R422). -/
def execConfigDigestCheck (ok : Bool) (s : State) : Out := .next (if s.saf.running && !ok then s.safFault 6 else s)

/-- ISLAND_MEMORY_TEST: a channel's background march and program-memory check advances; `ok` is the outcome (R418, R420). -/
def execIslandMemoryTest (ok : Bool) (s : State) : Out := .next (if s.saf.running && !ok then s.safFault 4 else s)

/-- SAF_CONFIG_WRITTEN: the Steward has written the approved set; the channels read it, check it and agree, or the change is aborted (R426). -/
def execSafConfigWritten (agree : Bool) (s : State) : Out :=
  .next (match s.saf.switch with
    | none => s
    | some w =>
      if w.ready then s
      else
        let bytes : Option (List Byte) := if agree then some w.cfg.bytes else none
        let s := s.onSaf (fun i => if w.cfg.bank = 0 then { i with bankA := bytes } else { i with bankB := bytes })
        if !agree ∧ !w.first then s.safActivated w false s.safDigest
        else s.onSaf (fun i => { i with switch := some { w with ready := true }, restartDue := if w.first then some (s.runNs + 100000000) else i.restartDue }))

/-- The points that mirror the island (R428): the value of a status item. -/
def State.safItem (s : State) (item : Nat) : Nat :=
  let k := item / 256
  let n := item % 256
  if k = 0 then b2n (decide (s.rd Reg.SAF_PAIR_STATE [n] = 1) && decide (n < 32))
  else if k = 1 then b2n (decide (s.rd Reg.SAF_FUNC_STATE [n] = 3) && decide (n < 32))
  else if k = 2 then b2n (decide (s.rd Reg.SAF_OUT_STATE [n] = 1 ∨ s.rd Reg.SAF_OUT_STATE [n] = 2) && decide (n < 12))
  else s.rd Reg.SAF_STATE_STATE

/-- The checks of a mirror point of an image (R428). -/
def mirrorChecks (item format enumCount obj : Nat) : List Rej :=
  need (if item < 32 ∨ (256 ≤ item ∧ item < 288) ∨ (512 ≤ item ∧ item < 524) then decide (format = 2)
    else decide (item = 0x300) && decide (format = 3) && decide (enumCount = 3)) 0x000B obj

/-- Status crossed the bridge within the last 10 ms (R428, R429). -/
def State.bridgeOk (s : State) : Bool :=
  match s.saf.statusAt with
  | some t => decide (s.runNs < t + 10000000)
  | none => false

/-- The mirror points take the island's status at a base mark, or ABSENT (R428, R429). -/
def State.safMark (s : State) : State :=
  let ok := s.bridgeOk
  let s := s.wrb Reg.SAF_STATE_BRIDGE_OK ok
  match s.img.run with
  | none => s
  | some im =>
    forL (im.points.filter (fun e => decide (e.2.ownerKind = 6))) (fun (e : Nat × PointDef) (s : State) =>
      if ok then (s.onWork e.1 (fun w => { w with absent := false })).ownerWrite e.1 (BitVec.ofNat 32 (s.safItem (e.2.owner % 65536))) s.now64
      else s.onWork e.1 (fun w => { w with absent := true })) s

end Sys2Proof.Machine
end

