-- ==== Sys2Proof/Machine/LinkImage.lean ====
section
/-! DEFINITION. The routes and membership sections of an image and their checks (R352, R354), and the manager's plan of paths over usable links (R353). -/

namespace Sys2Proof.Machine

/-! The routes section (R354). -/

/-- An import record: LOCAL and REMOTE. -/
def importOf (r : List Byte) : Nat × Nat := (fieldLE r 0 4, fieldLE r 4 4)

/-- The section: content and faults. -/
def parseRoutes (b : List Byte) (items : Nat) : List (Nat × Nat) × List Rej :=
  let n := fieldLE b 0 4
  let l := (recordsOf (b.drop 32) 8 n).map importOf
  (l, need (decide (b.length = 32 + 8 * n) && decide (items = n) && decide (n ≤ 16384)) 0x0008 ++ need (zeros b 4 28) 0x000B ++
    need (ascending (l.map (·.1))) 0x0008)

/-- Each LOCAL is an import point of this device and each REMOTE a point of the device its OWNER names. -/
def routeLinks (points : Tab PointDef) (dev : Nat) (l : List (Nat × Nat)) : List Rej :=
  (l.map (fun e =>
    match (if bitsOf e.1 31 25 = 0 ∧ idDev e.1 = dev then points.look (idLocal e.1) else none) with
    | none => [{ reason := 0x000C, obj := e.1, d0 := e.1 }]
    | some d => need (decide (d.ownerKind = 4) && decide (bitsOf e.2 31 25 = 0) && decide (idDev e.2 ≠ dev) && decide (idDev e.2 = d.owner % 256)) 0x000C e.1)).flatten

/-! The membership section (R352). -/

/-- A member record. -/
def memberOf (r : List Byte) : MemberDef := { dev := fieldLE r 0 1, paired := bitOf (fieldLE r 1 1) 0, serialMin := fieldLE r 4 4, digest8 := fieldLE r 8 8 }
/-- A link record. -/
def linkOf (r : List Byte) : LinkDef := { a := (fieldLE r 0 1, fieldLE r 1 1), b := (fieldLE r 2 1, fieldLE r 3 1) }

/-- The other end of a port over a list of links. -/
def otherEnd (links : List LinkDef) (dev port : Nat) : Option (Nat × Nat) :=
  match links.find? (fun (l : LinkDef) => decide (l.a = (dev, port)) || decide (l.b = (dev, port))) with
  | some l => some (if l.a = (dev, port) then l.b else l.a)
  | none => none

/-- One level of the search: each path is extended by the ports 0 to 5 in order, to devices not reached before (R353). -/
def extendPaths (adj : Nat → Nat → Option Nat) : List (List Nat × Nat) → List Nat → List (List Nat × Nat) → List (List Nat × Nat) × List Nat
  | [], seen, acc => (acc.reverse, seen)
  | e :: t, seen, acc =>
    let r := (List.range 6).foldl (fun (x : List (List Nat × Nat) × List Nat) p =>
      match adj e.2 p with
      | some d => if d ∈ x.2 then x else ((e.1 ++ [p], d) :: x.1, d :: x.2)
      | none => x) (acc, seen)
    extendPaths adj t r.2 r.1

/-- The shortest paths of at most `n` hops from a frontier, the lexicographically smallest exit ports first among equals (R353). -/
def pathLevels (adj : Nat → Nat → Option Nat) : Nat → List (List Nat × Nat) → List Nat → List (List Nat × Nat)
  | 0, _, _ => []
  | n + 1, front, seen =>
    let r := extendPaths adj front seen []
    r.1 ++ pathLevels adj n r.1 r.2

/-- Paths from a device of at most 4 hops. -/
def pathsFrom (adj : Nat → Nat → Option Nat) (src : Nat) : List (List Nat × Nat) := pathLevels adj 4 [([], src)] [src]

/-- PATH nibbles of exit ports; unused nibbles are 0xF (R348). -/
def pathNibbles (l : List Nat) : Nat := (List.range 4).foldl (fun a i => a + (l.getD i 15) * 16 ^ i) 0

/-- The section: content and faults. -/
def parseMembers (b : List Byte) (items : Nat) : MemberSec × List Rej :=
  let m := fieldLE b 0 2
  let n := fieldLE b 2 2
  let rm := recordsOf (b.drop 32) 16 m
  let rl := recordsOf (b.drop (32 + 16 * m)) 8 n
  let x : MemberSec := { members := rm.map memberOf, links := rl.map linkOf }
  let devs := x.members.map (·.dev)
  let ends := (x.links.map (fun l => [l.a, l.b])).flatten
  let adj (d p : Nat) : Option Nat := (otherEnd x.links d p).map (·.1)
  let close := devs.all (fun d => let r := pathsFrom adj d; devs.all (fun e => decide (e = d) || r.any (fun q => decide (q.2 = e))))
  (x, need (decide (b.length = 32 + 16 * m + 8 * n) && decide (items = m + n)) 0x0008 ++
    need (decide (1 ≤ m) && decide (m ≤ 256) && decide (n ≤ 768) && zeros b 4 28 && decide (devs.headD 1 = 0) &&
      rm.all (fun r => decide (fieldLE r 1 1 ≤ 1) && zeros r 2 2) && rl.all (fun r => zeros r 4 4) && ends.all (fun e => decide (e.2 < 6))) 0x000B ++
    need (distinct devs) 0x0008 ++ need (distinct ends && ends.all (fun e => decide (e.1 ∈ devs)) && close) 0x000B)

end Sys2Proof.Machine
end

