-- ==== Sys2Proof/Machine/Recipes.lean ====
section
/-! DEFINITION. Recipe sequencing: graph records, verbs, delay list, dispatch, ordered release, flow states and commands (R187 to R211). -/

namespace Sys2Proof.Machine

/-! Definitions and state. -/

/-- The recipe section of a home cell. -/
def State.recipe (s : State) (h : Nat) : Option RecipeSec :=
  match s.img.run with | some i => i.recipes.look h | none => none

/-- An empty section. -/
def RecipeSec.empty : RecipeSec :=
  { timers := 0, dMax := 0, wMax := 0, rampMax := 0, graphs := [], steps := [], verbs := [], flows := [], disables := [] }

/-- The recipe section of a home cell, empty when it has none. -/
def State.rx (s : State) (h : Nat) : RecipeSec := (s.recipe h).getD RecipeSec.empty

/-- The graph of a flow. -/
def RecipeSec.graphOf (x : RecipeSec) (f : Nat) : Option GraphDef :=
  match x.flows[f]? with
  | some d => x.graphs[d.graph]?
  | none => none

/-- The step records of a graph (R190). -/
def RecipeSec.stepsOf (x : RecipeSec) (g : GraphDef) : List StepDef := (x.steps.drop g.firstStep).take g.stepCount

/-- A step of a flow's graph by its identifier. -/
def RecipeSec.stepBy (x : RecipeSec) (f id : Nat) : Option StepDef :=
  match x.graphOf f with
  | some g => (x.stepsOf g).find? (fun d => decide (d.stepId = id))
  | none => none

/-- A step that a flow enters: a retired step is followed through SUCCESSOR (R192, R207). -/
def RecipeSec.follow (x : RecipeSec) (f id : Nat) : Option StepDef :=
  match x.stepBy f id with
  | some d => if d.retired then x.stepBy f d.successor else some d
  | none => none

/-- The first step of a flow's graph. -/
def RecipeSec.firstStep (x : RecipeSec) (f : Nat) : Option StepDef :=
  match x.graphOf f with
  | some g => (x.stepsOf g).head?
  | none => none

/-- The step a FLOW_START or FORK names: 0xFFFF is the first (R193, R211). -/
def RecipeSec.named (x : RecipeSec) (f id : Nat) : Option StepDef := if id = 0xFFFF then x.firstStep f else x.stepBy f id

/-- The run-time state of a SEQUENCE cell. -/
def State.seq (s : State) (h : Nat) : SeqState := s.seqs.at' h {}
/-- The state with a SEQUENCE cell's run-time state changed. -/
def State.onSeq (s : State) (h : Nat) (f : SeqState → SeqState) : State := { s with seqs := s.seqs.upd h {} f }

/-- A flow after a cold start (R190, R206). -/
def coldFlow (d : FlowDef) (x : RecipeSec) : FlowState :=
  match d.start with
  | 1 => { st := .disabled }
  | 2 => { st := .running, pending := (x.firstStep d.flow).map (·.stepId) }
  | _ => {}

/-- The state of a flow. -/
def State.flow (s : State) (h f : Nat) : FlowState :=
  match (s.seq h).flows.look f with
  | some st => st
  | none => match (s.rx h).flows[f]? with | some d => coldFlow d (s.rx h) | none => {}
/-- The state with a flow replaced. -/
def State.setFlow (s : State) (h f : Nat) (st : FlowState) : State := s.onSeq h (fun q => { q with flows := q.flows.put f st })
/-- The state with a flow changed. -/
def State.onFlow (s : State) (h f : Nat) (g : FlowState → FlowState) : State := s.setFlow h f (g (s.flow h f))
/-- The run of a verb of a flow. -/
def FlowState.run (st : FlowState) (v : Nat) : VerbRun := st.verbs.at' v {}
/-- The state with a verb's run changed. -/
def State.onVerb (s : State) (h f v : Nat) (g : VerbRun → VerbRun) : State :=
  s.onFlow h f (fun st => { st with verbs := st.verbs.put v (g (st.run v)) })

/-- States in which a flow dispatches. -/
def FlowState.active (st : FlowState) : Bool := decide (st.st = .running) || decide (st.st = .aborting)

/-- Effecting verbs (R193). -/
def effecting : VerbOp → Bool
  | .set | .move | .ramp | .fork | .mark | .next | .finish => true
  | _ => false

/-- The flow numbers of a cell. -/
def State.flowNums (s : State) (h : Nat) : List Nat := List.range (s.rx h).flows.length

/-- The key order of the delay list and the ready list: (time, flow, verb). -/
def keyLt (a b : Nat × Nat × Nat) : Bool :=
  decide (a.1 < b.1) || (decide (a.1 = b.1) && (decide (a.2.1 < b.2.1) || (decide (a.2.1 = b.2.1) && decide (a.2.2 < b.2.2))))

/-! Conversions (R194). -/

/-- A flow variable as a value of a point's format; a NaN has none for INT32 and ENUM16. -/
def toPoint (format : Nat) (x : F32) : Option Word :=
  match format with
  | 0 => some x
  | 1 => x.toInt32
  | 2 => some (if F32.eq x 0 then 0 else 1)
  | _ => match x.toInt32 with
    | some w => some (BitVec.ofNat 32 (max 0 (min 65535 w.toInt)).toNat)
    | none => none

/-- A point value as a FLOAT32. -/
def fromPoint (format : Nat) (v : Word) : F32 :=
  match format with
  | 0 => v
  | 1 => F32.ofInt v.toInt
  | 2 => if v = 0 then 0 else F32.one
  | _ => F32.ofInt v.toNat

/-- The format of a point field. -/
def State.formatOf (s : State) (id : Nat) : Nat := match s.pdef (idLocal id) with | some d => d.format | none => 0

/-- Writes a flow value to a point; a NaN for an integer point writes nothing and sets CALC_ERR (R194). -/
def State.flowWrite (s : State) (h f id : Nat) (x : F32) : State :=
  match toPoint (s.formatOf id) x with
  | some v => s.roleWriteId id v
  | none => s.onFlow h f (fun st => { st with calcErr := true })

/-- A release's write with its key: of two releases on one point in a cycle the later key stands (R198). -/
def State.keyedWrite (s : State) (h : Nat) (k : Nat × Nat × Nat) (id : Nat) (v : Word) : State :=
  if (match (s.seq h).wrote.look (idLocal id) with | some o => keyLt k o | none => false) then s
  else (s.roleWriteId id v).onSeq h (fun q => { q with wrote := q.wrote.put (idLocal id) k })

/-- A released flow value written to a point under its key (R194, R198). -/
def State.flowRelease (s : State) (h : Nat) (k : Nat × Nat × Nat) (id : Nat) (x : F32) : State :=
  match toPoint (s.formatOf id) x with
  | some v => s.keyedWrite h k id v
  | none => s.onFlow h k.2.1 (fun st => { st with calcErr := true })

/-- CALC: a NaN or an infinity gives 0.0 and an error (R193). -/
def calcOp (sub : Nat) (a b : F32) : F32 × Bool :=
  let r := match sub with
    | 0 => F32.add a b
    | 1 => F32.sub a b
    | 2 => F32.mul a b
    | 3 => F32.div a b
    | 4 => F32.min a b
    | 5 => F32.max a b
    | 6 => b
    | 7 => if F32.le b a then F32.one else 0
    | _ => if F32.eq a b then F32.one else 0
  let bad := (decide (sub = 3) && F32.eq b 0) || !F32.fin r
  (if bad then 0 else r, bad)

/-- The operand of a verb (R193). -/
def operandOf (d : VerbDef) (st : FlowState) : F32 := if bitOf d.src 7 then st.fv.getD (d.src % 8) 0 else d.b

/-- The condition of a WAIT on an entry of its point; false while the point is not usable (R193, R194). -/
def waitTrue (sub format : Nat) (e : PointEntry) (x : F32) : Bool :=
  let v := fromPoint format e.value
  usable false e && (match sub with
    | 0 => F32.le x v
    | 1 => F32.le v x
    | 2 => F32.eq v x
    | _ => !F32.eq v x)

/-! Timers and the delay list (R197, R203, R204). -/

/-- An entry in its place: after every entry whose key is less (R197). -/
def insertDelay (e : DelayEntry) : List DelayEntry → List DelayEntry
  | [] => [e]
  | x :: t => if keyLt (x.due, x.flow, x.verb) (e.due, e.flow, e.verb) then x :: insertDelay e t else e :: x :: t

/-- Flows whose graph has a step with a timeout reserve a timer (R204). -/
def RecipeSec.reserved (x : RecipeSec) : Nat :=
  (x.flows.filter (fun d => match x.graphs[d.graph]? with
    | some g => (x.stepsOf g).any (fun t => decide (0 < t.timeout))
    | none => false)).length

/-- The op of a verb number. -/
def RecipeSec.opOf (x : RecipeSec) (v : Nat) : VerbOp := match x.verbs[v]? with | some d => d.op | none => .merge

/-- The verb runs of the cell that satisfy a test: used to count waits and ramps. -/
def State.countRuns (s : State) (h : Nat) (p : VerbDef → VerbRun → Bool) : Nat :=
  ((s.seq h).flows.map (fun e => (e.2.verbs.filter (fun r => match (s.rx h).verbs[r.1]? with | some d => p d r.2 | none => false)).length)).sum

/-- Pending waits (R198). -/
def State.waits (s : State) (h : Nat) : Nat := s.countRuns h (fun d r => decide (d.op = .wait) && decide (r.st = .flight))
/-- Ramps dispatched and not ended; one of C = 0 is never active (R195, R198). -/
def State.ramps (s : State) (h : Nat) : Nat :=
  s.countRuns h (fun d r => decide (d.op = .ramp) && decide (0 < d.c) && (match r.st with | .done _ => true | .flight => true | _ => false))
/-- Timers in use: the reserved ones, the entries of verbs, and those of ramps that await their release (R198, R204). -/
def State.timers (s : State) (h : Nat) : Nat :=
  (s.rx h).reserved + ((s.seq h).delays.filter (fun e => decide (e.verb < 16384))).length +
  s.countRuns h (fun d r => decide (d.op = .ramp) && decide (0 < d.c) && (match r.st with | .done _ => true | _ => false))

/-- Enters an entry in the delay list. -/
def State.delay (s : State) (h f v due : Nat) : State :=
  s.onSeq h (fun q => { q with delays := insertDelay { due := due, flow := f, verb := v } q.delays })
/-- Removes a verb's entry, also one that awaits its re-insertion. -/
def State.undelay (s : State) (h f v : Nat) : State :=
  (s.onSeq h (fun q => { q with delays := q.delays.filter (fun e => !(decide (e.flow = f) && decide (e.verb = v))) })).onFlow h f
    (fun st => { st with paused := st.paused.filter (fun e => decide (e.2 ≠ v)) })

/-! Resolution, release and step faults (R196, R199 to R201). -/

/-- Cancels what a flow has in flight: its verbs, timers, waits and ramps (R200). -/
def State.cancelFlow (s : State) (h f : Nat) : State :=
  let s := s.onSeq h (fun q => { q with delays := q.delays.filter (fun e => decide (e.flow ≠ f)) })
  s.onFlow h f (fun st => { st with verbs := [], live := false, paused := [] })

/-- The time of a resolution and the port of its token. -/
def resolution : VerbSt → Option (Nat × Option Nat)
  | .resolved p t => some (t, some p)
  | .skipped t => some (t, none)
  | _ => none

/-- A verb whose inputs have all resolved becomes ready at the latest of their times (R196, R200). -/
def readyVerb (runs : Tab VerbRun) (d : VerbDef) : VerbSt :=
  let ins := d.inputs.map (fun i => (i.2, resolution (runs.at' i.1 {}).st))
  if ins.all (fun e => e.2.isSome) then
    let t := ins.foldl (fun m e => max m (match e.2 with | some r => r.1 | none => 0)) 0
    let live (e : Nat × Option (Nat × Option Nat)) : Bool := match e.2 with | some (_, some p) => decide (p = e.1) | _ => false
    .ready t (if d.op = .merge then !(ins.any live) else !(ins.all live))
  else .waiting

/-- A verb resolves, and its successors in the step that are now ready become so. -/
def State.resolve (s : State) (h f v : Nat) (st : VerbSt) : State :=
  let s := s.onVerb h f v (fun r => { r with st := st })
  let x := s.rx h
  s.onFlow h f (fun fl => { fl with verbs := fl.verbs.map (fun e =>
    match x.verbs[e.1]?, e.2.st with
    | some d, .waiting => (e.1, { e.2 with st := readyVerb fl.verbs d })
    | _, _ => e) })

/-- Marks a flow aborted: ABORT_STEP pending, or IDLE (R202). -/
def State.abortFlow (s : State) (h f : Nat) : State :=
  let s := s.cancelFlow h f
  let ab := match (s.rx h).graphOf f with | some g => g.abortStep | none => 0xFFFF
  s.onFlow h f (fun st =>
    let e : FlowState := { st with resumeStep := none, resumeWait := false, keyHeld := false, ended := false }
    if ab = 0xFFFF then { e with st := .idle, step := none, pending := none, stepVal := -3 }
    else { e with st := .aborting, step := none, pending := some ab })

/-- A step ends in fault: a timeout or a dead end, acting by TMO_ACT; during ABORTING it always holds (R201, R202). -/
def State.stepFault (s : State) (h f t : Nat) (tmo : Bool) : State :=
  let st := s.flow h f
  let act := match st.step with
    | some id => (match (s.rx h).stepBy f id with | some d => d.tmoAct | none => 0)
    | none => 0
  let s := s.cancelFlow h f
  let s := s.onFlow h f (fun e => if tmo then { e with stepTmo := true } else { e with deadEnd := true })
  let s := s.logEvent 0x406 f
  if st.st = .aborting ∨ act = 0 then
    s.onFlow h f (fun e => { e with st := .holding, resumeStep := st.step, heldAt := t })
  else s.abortFlow h f

/-- The lowest effecting verb of the step that is neither released nor skipped (R199). -/
def nextRelease (x : RecipeSec) : Tab VerbRun → Option (Nat × VerbRun)
  | [] => none
  | (v, r) :: t =>
    let isSkipped := match r.st with | .skipped _ => true | _ => false
    if effecting (x.opOf v) && !r.released && !isSkipped then some (v, r) else nextRelease x t

/-- FORK at its release: the target starts when it is IDLE and its step exists (R193, R202). -/
def State.forkEffect (s : State) (h f v : Nat) (d : VerbDef) (t : Nat) : State :=
  let x := s.rx h
  let dest := match x.named d.a d.b.toNat with
    | some g => if g.retired then x.stepBy d.a g.successor else some g
    | none => none
  match dest with
  | some g =>
    if (s.flow h d.a).st = .idle then
      (s.onFlow h d.a (fun e => { e with st := .running, pending := some g.stepId })).resolve h f v (.resolved 0 t)
    else s.resolve h f v (.resolved 1 t)
  | none => s.resolve h f v (.resolved 1 t)

/-- MOVE at its release: a move request as of a PG_MOVE that arrives now; one refused at once resolves on port 1 (R195). -/
def State.moveEffect (s : State) (h f v : Nat) (d : VerbDef) (target : F32) (t : Nat) : State :=
  let c := idCell d.a
  let k := refObj d.a
  if s.pgThere d.a && s.targetOk c k target && s.moveReady c k && !s.keyStopped then
    let g := s.pgSt c k
    (s.setPg c k { g with arrived := g.arrived ++ [{ target := target, verb := some (h, f, v, (s.flow h f).entry) }] }).onVerb h f v (fun r => { r with st := .flight })
  else s.resolve h f v (.resolved 1 t)

/-- RAMP at its release: C = 0 writes the target; otherwise its end enters the delay list (R195). -/
def State.rampEffect (s : State) (h f v : Nat) (d : VerbDef) (target : F32) (t : Nat) : State :=
  if d.c = 0 then (s.flowRelease h (t, f, v) d.a target).resolve h f v (.resolved 0 t)
  else
    let len := d.c * 10000
    let from_ := ((s.flow h f).run v).rampFrom
    let s := s.onVerb h f v (fun r => { r with st := .flight, rampT0 := t, rampLen := len, rampLast := from_ })
    let s := s.delay h f v (t + len)
    if t ≤ (s.seq h).rk then s.flowRelease h (t, f, v) d.a from_ else s

/-- The effect of a release at logical time t (R193, R195, R199, R200). -/
def State.releaseEffect (s : State) (h f v : Nat) (r : VerbRun) (t : Nat) : State :=
  match (s.rx h).verbs[v]? with
  | none => s
  | some d =>
    match d.op with
    | .set => (s.flowRelease h (t, f, v) d.a r.operand).resolve h f v (.resolved 0 t)
    | .mark =>
      let pt := match (s.rx h).flows[f]? with | some fd => fd.markPt | none => NONE
      (s.keyedWrite h (t, f, v) pt (BitVec.ofNat 32 d.c)).resolve h f v (.resolved 0 t)
    | .fork => s.forkEffect h f v d t
    | .move => s.moveEffect h f v d r.operand t
    | .ramp => s.rampEffect h f v d r.operand t
    | .next => (s.cancelFlow h f).onFlow h f (fun e => { e with step := none, pending := some d.a })
    | .finish => (s.cancelFlow h f).onFlow h f (fun e => { e with step := none, ended := true })
    | _ => s

/-- release(f): at most `n` releases in order (R199). -/
def State.releaseN (s : State) (h f : Nat) : Nat → State
  | 0 => s
  | n + 1 =>
    let st := s.flow h f
    if !st.live then s
    else match nextRelease (s.rx h) st.verbs with
      | none => s
      | some (v, r) =>
        match r.st with
        | .done td =>
          let t := max td st.tLast
          let s := s.onFlow h f (fun e => { e with tLast := t })
          let s := s.onVerb h f v (fun r => { r with released := true })
          (s.releaseEffect h f v r t).releaseN h f n
        | _ => s

/-- release(f) of R199. -/
def State.release (s : State) (h f : Nat) : State := s.releaseN h f ((s.flow h f).verbs.length + 1)

/-- A dead end: every verb of the open step has resolved (R201). -/
def State.deadEnd (s : State) (h f : Nat) : State :=
  let st := s.flow h f
  if st.live && st.verbs.all (fun e => (resolution e.2.st).isSome) then
    s.stepFault h f (st.verbs.foldl (fun m e => max m (match resolution e.2.st with | some r => r.1 | none => 0)) 0) false
  else s

/-- What follows every handled event of a flow that dispatches: releases, then the dead-end check (R198, R199, R201, R202). -/
def State.after (s : State) (h f : Nat) : State := if (s.flow h f).active then (s.release h f).deadEnd h f else s

/-! Dispatch (R193, R196, R198). -/

/-- A dispatch that would exceed W_MAX, RAMP_MAX or TIMERS does not take place (R198). -/
def State.blocked (s : State) (h f : Nat) (d : VerbDef) : Bool :=
  let x := s.rx h
  let full := decide (0 < d.c) && decide (x.timers ≤ s.timers h)
  match d.op with
  | .delay => full
  | .ramp => (decide (0 < d.c) && decide (x.rampMax ≤ s.ramps h)) || full
  | .wait =>
    !waitTrue d.sub (s.formatOf d.a) (s.inp h d.a) (operandOf d (s.flow h f)) && (decide (x.wMax ≤ s.waits h) || full)
  | _ => false

/-- An effecting verb computes its operand at dispatch and holds its effect (R199). -/
def State.holdEffect (s : State) (h f v t : Nat) (d : VerbDef) : State :=
  let x := operandOf d (s.flow h f)
  let cur := if d.op = .ramp then fromPoint (s.formatOf d.a) (s.inp h d.a).value else 0
  s.onVerb h f v (fun r => { r with st := .done t, operand := x, rampFrom := cur })

/-- GET (R194). -/
def State.vbGet (s : State) (h f v t : Nat) (d : VerbDef) : State :=
  let e := s.inp h d.a
  if usable false e then
    (s.onFlow h f (fun st => { st with fv := st.fv.set d.dst (fromPoint (s.formatOf d.a) e.value) })).resolve h f v (.resolved 0 t)
  else s.resolve h f v (.resolved 1 t)

/-- CALC (R193). -/
def State.vbCalc (s : State) (h f v t : Nat) (d : VerbDef) : State :=
  let st := s.flow h f
  let r := calcOp d.sub (st.fv.getD d.a 0) (operandOf d st)
  (s.onFlow h f (fun st => { st with fv := st.fv.set d.dst r.1, calcErr := st.calcErr || r.2 })).resolve h f v (.resolved 0 t)

/-- DELAY (R196). -/
def State.vbDelay (s : State) (h f v t : Nat) (d : VerbDef) : State :=
  if d.c = 0 then s.resolve h f v (.resolved 0 t)
  else (s.onVerb h f v (fun r => { r with st := .flight })).delay h f v (t + d.c * 10000)

/-- WAIT: evaluated once at dispatch (R193, R198). -/
def State.vbWait (s : State) (h f v t : Nat) (d : VerbDef) : State :=
  let x := operandOf d (s.flow h f)
  if waitTrue d.sub (s.formatOf d.a) (s.inp h d.a) x then s.resolve h f v (.resolved 0 t)
  else
    let s := s.onVerb h f v (fun r => { r with st := .flight, operand := x })
    if d.c = 0 then s else s.delay h f v (t + d.c * 10000)

/-- BRANCH (R193). -/
def State.vbBranch (s : State) (h f v t : Nat) (d : VerbDef) : State :=
  s.resolve h f v (.resolved (if F32.eq ((s.flow h f).fv.getD d.a 0) 0 then 1 else 0) t)

/-- The dispatch of a verb that is ready at t with its tokens. -/
def State.vbDispatch (s : State) (h f v t : Nat) (d : VerbDef) : State :=
  match d.op with
  | .get => s.vbGet h f v t d
  | .calc => s.vbCalc h f v t d
  | .delay => s.vbDelay h f v t d
  | .wait => s.vbWait h f v t d
  | .branch => s.vbBranch h f v t d
  | .merge => s.resolve h f v (.resolved 0 t)
  | _ => s.holdEffect h f v t d

/-- One more dispatch of the cycle (R198). -/
def State.counted (s : State) (h : Nat) : State := s.onSeq h (fun q => { q with disp := q.disp + 1 })

/-- A ready verb is handled: dispatched, or skipped when its inputs carry no token to it; releases follow (R198 to R200). -/
def State.handleVerb (s : State) (h f v : Nat) : State :=
  match ((s.flow h f).run v).st, (s.rx h).verbs[v]? with
  | .ready t skip, some d =>
    if !(s.flow h f).active then s
    else if skip then ((s.resolve h f v (.skipped t)).counted h).after h f
    else if s.blocked h f d then s
    else ((s.vbDispatch h f v t d).counted h).after h f
  | _, _ => s

/-- The delay-list head expires (R197, R201). -/
def State.handleHead (s : State) (h : Nat) : State :=
  match (s.seq h).delays with
  | [] => s
  | e :: rest =>
    let s := (s.onSeq h (fun q => { q with delays := rest })).counted h
    if e.verb = 16384 then s.stepFault h e.flow e.due true
    else
      let s := match (s.rx h).verbs[e.verb]? with
        | none => s
        | some d =>
          match d.op with
          | .wait => s.resolve h e.flow e.verb (.resolved 1 e.due)
          | .ramp => (s.flowRelease h (e.due, e.flow, e.verb) d.a ((s.flow h e.flow).run e.verb).operand).resolve h e.flow e.verb (.resolved 0 e.due)
          | _ => s.resolve h e.flow e.verb (.resolved 0 e.due)
      s.after h e.flow

/-- The ready verbs of a cell's active flows, as keys (time, flow, verb). -/
def State.readyKeys (s : State) (h : Nat) : List (Nat × Nat × Nat) :=
  ((s.flowNums h).map (fun f =>
    let st := s.flow h f
    if st.active then (st.verbs.map (fun e => match e.2.st with | .ready t _ => [(t, f, e.1)] | _ => [])).flatten else [])).flatten

/-- Whether a ready verb can be handled now. -/
def State.dispatchable (s : State) (h : Nat) (k : Nat × Nat × Nat) : Bool :=
  match ((s.flow h k.2.1).run k.2.2).st, (s.rx h).verbs[k.2.2]? with
  | .ready _ true, _ => true
  | .ready _ false, some d => !s.blocked h k.2.1 d
  | _, _ => false

/-- The least of a list of keys. -/
def leastKey : List (Nat × Nat × Nat) → Option (Nat × Nat × Nat)
  | [] => none
  | k :: t => match leastKey t with
    | some m => some (if keyLt m k then m else k)
    | none => some k

/-- The next event of a cell with a logical time below a bound: a ready verb (true) or the delay-list head (R198). -/
def State.nextEvent (s : State) (h bound : Nat) : Option (Bool × (Nat × Nat × Nat)) :=
  let r := leastKey ((s.readyKeys h).filter (fun k => decide (k.1 < bound) && s.dispatchable h k))
  let d := match (s.seq h).delays with
    | e :: _ => if e.due < bound then some (e.due, e.flow, e.verb) else none
    | [] => none
  match r, d with
  | some k, some e => if keyLt k e then some (true, k) else some (false, e)
  | some k, none => some (true, k)
  | none, some e => some (false, e)
  | none, none => none

/-- The dispatch loop: at most `n` events more (R198). -/
def State.dispatchN (s : State) (h bound : Nat) : Nat → State
  | 0 => s
  | n + 1 =>
    if (s.rx h).dMax ≤ (s.seq h).disp then s
    else match s.nextEvent h bound with
      | none => s
      | some (true, k) => (s.handleVerb h k.2.1 k.2.2).dispatchN h bound n
      | some (false, _) => (s.handleHead h).dispatchN h bound n

/-- R_{k+1} of the cycle in progress: the run time of the tick at which D crosses its next multiple of 125,000 ns at the present increment E (R97, R196, log entry 11). -/
def State.rNext (s : State) : Nat :=
  let cycle := 125000 * 2 ^ 32
  let left := cycle - (clockNs s.time.d * 2 ^ 32 + s.time.d.frac) % cycle
  (s.runNs * 2 ^ 32 + s.time.runFrac + ceilDiv left s.time.e * s.time.e) / 2 ^ 32

/-- Events left over at the end of a cycle are deferred: LATE and CEL_SEQ_LATE (R198). -/
def State.seqLate (s : State) (h : Nat) : State :=
  let b := s.rNext
  let l := (((s.seq h).delays.filter (fun e => decide (e.due < b))).map (·.flow)) ++
    (((s.readyKeys h).filter (fun k => decide (k.1 < b))).map (·.2.1))
  let s := forL l (fun f s => s.onFlow h f (fun e => { e with late := true })) s
  s.wr Reg.CEL_SEQ_LATE_COUNT ((s.rd Reg.CEL_SEQ_LATE_COUNT [h] + l.length) % 2 ^ 32) [h]

/-- The code of a flow state (R210). -/
def flowCode : FlowSt → Nat
  | .disabled => 0
  | .idle => 1
  | .running => 2
  | .holding => 3
  | .held => 4
  | .aborting => 5

/-- STEP_PT and STATE_PT take the flow's step and state (R190). -/
def State.showFlow (s : State) (h f : Nat) (d : FlowDef) : State :=
  let st := s.flow h f
  let now := (st.stepVal, flowCode st.st)
  let s := if (st.shown.map (·.1)) = some now.1 then s else s.roleWriteId d.stepPt (BitVec.ofNat 32 (twos 32 now.1))
  let s := if (st.shown.map (·.2)) = some now.2 then s else s.roleWriteId d.statePt (BitVec.ofNat 32 now.2)
  s.setFlow h f { st with shown := some now }

/-- The role work of a SEQUENCE home cell up to its seal (R198). -/
def State.runSeq (s : State) (h : Nat) : State :=
  match s.recipe h with
  | none => s
  | some x =>
    let s := s.dispatchN h s.rNext x.dMax
    let s := s.seqLate h
    let s := (s.onSeq h (fun q => { q with last := q.disp })).peak Reg.CEL_SEQ_DISP_PEAK (min 8191 (s.seq h).disp) [h]
    forL (s.flowNums h) (fun f s => match x.flows[f]? with | some d => s.showFlow h f d | none => s) s

/-! At the base mark (R195, R198, R202, R203, R206). -/

/-- Holds a flow at a time: its delay-list entries, and those a resume has not yet put back, keep their remaining time (R203). -/
def State.holdFlow (s : State) (h f r : Nat) : State :=
  let due := ((s.seq h).delays.filter (fun e => decide (e.flow = f))).map (fun e => (((e.due : Int) - (r : Int)), e.verb))
  let s := s.onSeq h (fun q => { q with delays := q.delays.filter (fun e => decide (e.flow ≠ f)) })
  s.onFlow h f (fun st => { st with st := .holding, heldAt := r, paused := (st.paused.map (fun e => (e.1 + (st.heldAt : Int) - (r : Int), e.2))) ++ due })

/-- The re-entry step of a step (R190, R206). -/
def RecipeSec.reentry (x : RecipeSec) (f id : Nat) : Nat :=
  match x.stepBy f id with
  | some d => if d.reentry = 0xFFFF then id else d.reentry
  | none => id

/-- A flow after a warm restart or a release from SAFE (R206). -/
def State.flowRestart (s : State) (h f : Nat) : State :=
  let x := s.rx h
  let st := s.flow h f
  let s := s.cancelFlow h f
  let auto := match x.graphOf f with | some g => g.resumeAuto | none => false
  let at_ := st.step.map (x.reentry f)
  let held (dest : Option Nat) (e : FlowState) : FlowState :=
    { e with st := .held, resumeStep := dest, pending := none, resumeWait := true, step := dest
             stepVal := match dest with | some id => id | none => e.stepVal }
  match st.st with
  | .running =>
    if st.ended then s.onFlow h f (fun e => { e with st := .idle, ended := false, step := none, stepVal := -1 })
    else if st.pending.isSome then s
    else if auto then s.onFlow h f (fun e => { e with pending := at_, step := none })
    else s.onFlow h f (held at_)
  | .holding | .held => s.onFlow h f (held (if st.resumeStep.isSome then (st.resumeStep.map (x.reentry f)) else if st.pending.isSome then st.pending else at_))
  | .aborting =>
    let ab := match x.graphOf f with | some g => g.abortStep | none => 0xFFFF
    s.onFlow h f (fun e => { e with pending := some ab, step := none, ended := false })
  | _ => s

/-- A flow RUNNING while STOP is in effect enters HOLDING at the mark with RESUME_WAIT (R563). -/
def State.seqStop (s : State) (h : Nat) : State :=
  forL (s.flowNums h) (fun f s =>
    if (s.flow h f).st = .running then
      (s.holdFlow h f (s.seq h).rk).onFlow h f (fun e => { e with resumeWait := true, keyHeld := true })
    else s) s

/-- A MOVE of the flow is in flight (R202). -/
def State.moveInFlight (s : State) (h f : Nat) : Bool :=
  (s.flow h f).verbs.any (fun e => decide ((s.rx h).opOf e.1 = .move) && decide (e.2.st = .flight))

/-- The flows of a cell at a mark, before its commands: R_k, restart, ends, STOP (R196, R200, R206, R563). -/
def State.seqMarkFirst (s : State) (h : Nat) : State :=
  let restart := (s.seq h).restart
  let s := s.onSeq h (fun q => { q with rk := s.runNs, disp := 0, restart := false, wrote := [] })
  let s := if restart then forL (s.flowNums h) (fun f s => s.flowRestart h f) s else s
  let s := forL (s.flowNums h) (fun f s =>
    let st := s.flow h f
    if st.ended then
      s.setFlow h f { st with ended := false, st := .idle, step := none, stepVal := if st.st = .aborting then -3 else -1 }
    else s) s
  if s.keyStopped then s.seqStop h else s

/-- Enters a step at a mark, one dispatch (R190, R196, R198, R201). -/
def State.enterStep (s : State) (h f id : Nat) : State :=
  let x := s.rx h
  let r := (s.seq h).rk
  match x.follow f id with
  | none => s.onFlow h f (fun e => { e with pending := none })
  | some d =>
    let runs : Tab VerbRun := (List.range d.verbCount).map (fun i =>
      let v := d.firstVerb + i
      (v, { st := match x.verbs[v]? with | some q => (if q.inputs.isEmpty then .ready r false else .waiting) | none => .waiting }))
    let s := (s.counted h).onFlow h f (fun e => { e with step := some d.stepId, pending := none, live := true, verbs := runs, entry := r, tLast := r, stepVal := d.stepId })
    if d.timeout = 0 then s else s.delay h f 16384 (r + d.timeout * 10000)

/-- Timers paused by a hold are inserted again, due from the resume's mark, one dispatch each; one that finds no free timer waits for the next mark (R198, R203). -/
def State.reinsert (s : State) (h f : Nat) : State :=
  let l := (s.flow h f).paused
  let r := (s.flow h f).heldAt
  let s := s.onFlow h f (fun e => { e with paused := [] })
  forL l (fun e s =>
    if e.2 < 16384 ∧ (s.rx h).timers ≤ s.timers h then s.onFlow h f (fun st => { st with paused := st.paused ++ [e] })
    else
      let s := (s.delay h f e.2 ((r : Int) + e.1).toNat).counted h
      if (s.rx h).opOf e.2 = .ramp then
        s.onVerb h f e.2 (fun q => { q with rampFrom := q.rampLast, rampT0 := r, rampLen := e.1.toNat })
      else s) s

/-- The value of an active ramp at a mark, rounded once (R195). -/
def rampValue (q : VerbRun) (r : Nat) : F32 :=
  let a := F64.of32 q.rampFrom
  let b := F64.of32 q.operand
  F32.of64 (F64.add a (F64.div (F64.mul (F64.sub b a) (F64.ofInt ((r : Int) - q.rampT0))) (F64.ofInt q.rampLen)))

/-- Every active ramp of a flow that no hold paused writes its point at the mark (R195, R203). -/
def State.rampWrites (s : State) (h f : Nat) : State :=
  let r := (s.seq h).rk
  forL (s.flow h f).verbs (fun e s =>
    match (s.rx h).verbs[e.1]? with
    | some d =>
      if d.op = .ramp ∧ e.2.st = .flight ∧ e.1 ∉ (s.flow h f).paused.map (·.2) ∧ r < e.2.rampT0 + e.2.rampLen then
        let v := rampValue e.2 r
        (s.onVerb h f e.1 (fun q => { q with rampLast := v })).flowWrite h f d.a v
      else s
    | none => s) s

/-- Every pending WAIT of a flow is evaluated on the last sealed cut (R198). -/
def State.waitEvals (s : State) (h f : Nat) : State :=
  forL (s.flow h f).verbs (fun e s =>
    match (s.rx h).verbs[e.1]?, ((s.flow h f).run e.1).st with
    | some d, .flight =>
      if d.op = .wait ∧ waitTrue d.sub (s.formatOf d.a) (s.pts.cut.at' (idLocal d.a) {}) e.2.operand then
        ((s.undelay h f e.1).resolve h f e.1 (.resolved 0 (s.seq h).rk)).after h f
      else s
    | _, _ => s) s

/-- Ends of moves that this cell's verbs issued resolve them at the mark (R195). -/
def State.moveResults (s : State) (h : Nat) : State :=
  let l := s.fab.moveDone.filter (fun e => decide (e.1.1 = h))
  let s := { s with fab := { s.fab with moveDone := s.fab.moveDone.filter (fun e => decide (e.1.1 ≠ h)), moveTaken := s.fab.moveTaken ++ l } }
  forL l (fun e s =>
    let f := e.1.2.1
    let v := e.1.2.2.1
    if (s.flow h f).entry = e.1.2.2.2 ∧ ((s.flow h f).run v).st = .flight ∧ (s.rx h).opOf v = .move then
      (s.resolve h f v (.resolved (if e.2 then 0 else 1) (s.seq h).rk)).after h f
    else s) s

/-- HOLDING becomes HELD at a base mark with no MOVE of the flow in flight, the mark of the hold among them (R202). -/
def State.heldAtMark (s : State) (h f : Nat) : State :=
  if (s.flow h f).st = .holding && !s.moveInFlight h f then s.onFlow h f (fun st => { st with st := .held }) else s

/-- The flows of a cell at a mark, after its commands: ends of moves, HELD, resumes, pending steps, ramps, waits (R198, R202). -/
def State.seqMarkLast (s : State) (h : Nat) : State :=
  let s := forL (s.flowNums h) (fun f s => s.heldAtMark h f) (s.moveResults h)
  let s := forL (s.flowNums h) (fun f s =>
    let st := s.flow h f
    if st.active then
      let s := if st.paused.isEmpty then s else s.reinsert h f
      match st.pending with
      | some id => s.enterStep h f id
      | none => s
    else s) s
  let s := forL (s.flowNums h) (fun f s => if (s.flow h f).active then s.rampWrites h f else s) s
  forL (s.flowNums h) (fun f s => if (s.flow h f).active then s.waitEvals h f else s) s

/-! Flow commands at their mark (R202, R203, R205). -/

/-- FLOW_RESUME of a held flow: its step is entered, or what was ready before the hold moves later by the time held and what became ready in it is ready at the resume (R201, R203, log entry 40). -/
def State.resumeFlow (s : State) (h f : Nat) : State :=
  let r := (s.seq h).rk
  let s := s.onFlow h f (fun st =>
    let e : FlowState := { st with st := .running, resumeWait := false, keyHeld := false }
    match st.resumeStep with
    | some id => { e with pending := some id, resumeStep := none, step := none }
    | none =>
      { e with heldAt := r, verbs := st.verbs.map (fun v => match v.2.st with
          | .ready t k => (v.1, { v.2 with st := .ready (if t < st.heldAt then t + (r - st.heldAt) else r) k })
          | _ => v) })
  s.after h f

/-- FLOW_DISABLE at its mark (R205). -/
def State.disableFlow (s : State) (h f : Nat) : State :=
  let x := s.rx h
  let s := s.release h f
  let s := s.cancelFlow h f
  let s := match x.flows[f]? with
    | some d => forL ((x.disables.drop d.firstDis).take d.disCount) (fun r (s : State) => ((s.roleWriteId r.point r.value).report h r.point).counted h) s
    | none => s
  s.onFlow h f (fun e => { e with st := .disabled, step := none, pending := none, ended := false, resumeStep := none
                                  resumeWait := false, keyHeld := false, stepVal := -2 })

/-- The outcome of a flow command by the state table: status, DETAIL, and the state after (R202). -/
def State.flowOutcome (s : State) (op h f arg : Nat) : Status × Nat × State :=
  let st := (s.flow h f).st
  if s.stoppedNow op then (.denied, 1, s)
  else match op with
  | 0x0401 =>
    if st ≠ .idle then (.busy, 0, s)
    else match (s.rx h).named f arg with
      | some d => if d.retired then (.invalid, 1, s) else (.ok, 0, s.onFlow h f (fun e => { e with st := .running, pending := some d.stepId }))
      | none => (.invalid, 1, s)
  | 0x0402 =>
    (match st with
     | .running => (.ok, 0, s.holdFlow h f (s.seq h).rk)
     | .holding | .held => (.ok, 0, s)
     | .aborting => (.denied, 6, s)
     | _ => (.invalid, 0, s))
  | 0x0403 =>
    (match st with
     | .holding | .held => (.ok, 0, s.resumeFlow h f)
     | .running => (.ok, 0, s)
     | _ => (.invalid, 0, s))
  | 0x0404 =>
    (match st with
     | .running | .holding | .held => (.ok, 0, s.abortFlow h f)
     | .aborting | .idle => (.ok, 0, s)
     | .disabled => (.invalid, 0, s))
  | 0x0405 => if st = .disabled then (.invalid, 0, s) else (.ok, 0, s.disableFlow h f)
  | _ => if st = .disabled then (.ok, 0, s.onFlow h f (fun e => { e with st := .idle })) else (.invalid, 0, s)

/-- A latched flow command at its mark (R202). -/
def State.markFlow (s : State) (l : Latched) : State :=
  let r := s.flowOutcome l.op l.home l.obj (argN l.args 1)
  r.2.2.roleDone l.home l.ref r.1 r.2.1 (if r.1 = .ok then s.time.n else 0)

/-! Rows of the table: one event of a cell each. -/

/-- The dispatch of one verb, as the event of its row: handled when the verb has the row's opcode and is ready. -/
def State.verbRow (s : State) (h f v : Nat) (op : VerbOp) : State :=
  if (s.recipe h).isSome && decide ((s.rx h).opOf v = op) then s.handleVerb h f v else s

/-- SET (R193). -/
def execVbSeqSet (cell : Fin 64) (flow verb : Nat) (s : State) : Out := .next (s.verbRow cell.val flow verb .set)
/-- GET (R194). -/
def execVbGet (cell : Fin 64) (flow verb : Nat) (s : State) : Out := .next (s.verbRow cell.val flow verb .get)
/-- CALC (R193). -/
def execVbCalc (cell : Fin 64) (flow verb : Nat) (s : State) : Out := .next (s.verbRow cell.val flow verb .calc)
/-- DELAY (R196). -/
def execVbDelay (cell : Fin 64) (flow verb : Nat) (s : State) : Out := .next (s.verbRow cell.val flow verb .delay)
/-- WAIT (R198). -/
def execVbWait (cell : Fin 64) (flow verb : Nat) (s : State) : Out := .next (s.verbRow cell.val flow verb .wait)
/-- BRANCH (R193). -/
def execVbBranch (cell : Fin 64) (flow verb : Nat) (s : State) : Out := .next (s.verbRow cell.val flow verb .branch)
/-- MERGE (R200). -/
def execVbMerge (cell : Fin 64) (flow verb : Nat) (s : State) : Out := .next (s.verbRow cell.val flow verb .merge)
/-- MOVE (R195). -/
def execVbMove (cell : Fin 64) (flow verb : Nat) (s : State) : Out := .next (s.verbRow cell.val flow verb .move)
/-- RAMP (R195). -/
def execVbRamp (cell : Fin 64) (flow verb : Nat) (s : State) : Out := .next (s.verbRow cell.val flow verb .ramp)
/-- FORK (R202). -/
def execVbFork (cell : Fin 64) (flow verb : Nat) (s : State) : Out := .next (s.verbRow cell.val flow verb .fork)
/-- MARK (R193). -/
def execVbMark (cell : Fin 64) (flow verb : Nat) (s : State) : Out := .next (s.verbRow cell.val flow verb .mark)
/-- NEXT (R200). -/
def execVbNext (cell : Fin 64) (flow verb : Nat) (s : State) : Out := .next (s.verbRow cell.val flow verb .next)
/-- END of a step and its flow (R200). -/
def execVbSeqEnd (cell : Fin 64) (flow verb : Nat) (s : State) : Out := .next (s.verbRow cell.val flow verb .finish)

/-- The delay-list head of a cell falls due (R197). -/
def execDelayListExpiry (cell : Fin 64) (s : State) : Out :=
  .next (match (s.seq cell.val).delays with
    | e :: _ => if e.verb = 16384 then s else s.handleHead cell.val
    | [] => s)

/-- The step timer of a flow falls due: it is the delay list's head (R201). -/
def execStepTimeout (cell : Fin 64) (flow : Nat) (s : State) : Out :=
  .next (match (s.seq cell.val).delays with
    | e :: _ => if e.verb = 16384 ∧ e.flow = flow then s.handleHead cell.val else s
    | [] => s)

/-! The recipe-graph section (R189 to R192). -/

/-- A verb opcode (R193). -/
def verbOpOf : Nat → Option VerbOp
  | 1 => some .set | 2 => some .get | 3 => some .calc | 4 => some .delay | 5 => some .wait | 6 => some .branch
  | 7 => some .merge | 8 => some .move | 9 => some .ramp | 10 => some .fork | 11 => some .mark | 12 => some .next
  | 13 => some .finish | _ => none

/-- Ports of a verb (R193). -/
def portsOf : VerbOp → Nat
  | .get | .wait | .branch | .move | .fork => 2
  | .next | .finish => 0
  | _ => 1

/-- A verb record read from its bytes (R191). -/
def verbDefOf (r : List Byte) : VerbDef :=
  { verb := fieldLE r 0 2, op := (verbOpOf (fieldLE r 2 1)).getD .merge, sub := fieldLE r 3 1, dst := fieldLE r 4 1, src := fieldLE r 5 1
    inputs := (((List.range 4).map (fun i => fieldLE r (8 + 2 * i) 2)).filter (fun w => !bitOf w 15)).map (fun w => (w % 16384, bitsOf w 14 14))
    a := fieldLE r 0x10 4, b := wordLE r 0x14, c := fieldLE r 0x18 4 }

/-- A graph record. -/
def graphDefOf (r : List Byte) : GraphDef :=
  { graph := fieldLE r 0 2, firstStep := fieldLE r 2 2, stepCount := fieldLE r 4 2, abortStep := fieldLE r 6 2, resumeAuto := bitOf (fieldLE r 8 1) 0 }
/-- A step record. -/
def stepDefOf (r : List Byte) : StepDef :=
  { stepId := fieldLE r 0 2, firstVerb := fieldLE r 2 2, verbCount := fieldLE r 4 2, reentry := fieldLE r 6 2, timeout := fieldLE r 8 4
    tmoAct := fieldLE r 0x0C 1, retired := bitOf (fieldLE r 0x0D 1) 0, successor := fieldLE r 0x0E 2 }
/-- A flow record. -/
def flowDefOf (r : List Byte) : FlowDef :=
  { flow := fieldLE r 0 2, graph := fieldLE r 2 2, start := fieldLE r 4 1, firstDis := fieldLE r 6 2, disCount := fieldLE r 8 2
    stepPt := fieldLE r 0x0C 4, statePt := fieldLE r 0x10 4, markPt := fieldLE r 0x14 4 }
/-- A disable record. -/
def disableDefOf (r : List Byte) : DisableDef := { point := fieldLE r 0 4, value := wordLE r 4 }

/-- The numbers in a list of ranges, none in two of them; an empty range holds none. -/
def disjointRanges : List (Nat × Nat) → Bool
  | [] => true
  | (a, n) :: t => t.all (fun e => decide (n = 0 ∨ e.2 = 0 ∨ a + n ≤ e.1 ∨ e.1 + e.2 ≤ a)) && disjointRanges t

/-- Reserved bytes are 0. -/
def zeroBytes (r : List Byte) (off n : Nat) : Bool := decide (fieldLE r off n = 0)

/-- Value checks of one verb record; SUB is read only by the verbs with a sub-operation (R191 to R193). -/
def verbRecordOk (r : List Byte) (d : VerbDef) : Bool :=
  let ins := (List.range 4).map (fun i => fieldLE r (8 + 2 * i) 2)
  (verbOpOf (fieldLE r 2 1)).isSome && zeroBytes r 6 2 && zeroBytes r 0x1C 4 && decide (bitsOf d.src 6 3 = 0) &&
  ins.all (fun w => !bitOf w 15 || decide (w = 0xFFFF)) &&
  (if d.op = .get ∨ d.op = .calc then decide (d.dst < 8) else decide (d.dst = 0xFF)) &&
  (match d.op with
   | .calc => decide (d.sub < 9) && decide (d.a < 8)
   | .wait => decide (d.sub < 4)
   | .branch => decide (d.a < 8)
   | _ => true)

/-- The steps of a section lie in the ranges of its header (R189). -/
def recipeHeaderOk (b : List Byte) (x : RecipeSec) : Bool :=
  decide (1 ≤ x.graphs.length ∧ x.graphs.length ≤ 256) && decide (1 ≤ x.steps.length ∧ x.steps.length ≤ 16384) &&
  decide (1 ≤ x.verbs.length ∧ x.verbs.length ≤ 16384) && decide (1 ≤ x.flows.length ∧ x.flows.length ≤ 1024) &&
  decide (1 ≤ x.timers ∧ x.timers ≤ 4096) && decide (1 ≤ x.dMax ∧ x.dMax ≤ 4096) && decide (x.wMax ≤ 1024) &&
  decide (x.rampMax ≤ 256) && decide (x.disables.length ≤ 16384) && zeroBytes b 0x12 14

/-- The section of a SEQUENCE cell as its bytes give it (R189 to R191). -/
def recipeOf (b : List Byte) : RecipeSec :=
  let g := fieldLE b 0 2
  let st := fieldLE b 2 2
  let v := fieldLE b 4 2
  let f := fieldLE b 6 2
  let di := fieldLE b 0x10 2
  let body := b.drop 32
  { timers := fieldLE b 8 2, dMax := fieldLE b 0x0A 2, wMax := fieldLE b 0x0C 2, rampMax := fieldLE b 0x0E 2
    graphs := (recordsOf body 16 g).map graphDefOf
    steps := (recordsOf (body.drop (16 * g)) 16 st).map stepDefOf
    verbs := (recordsOf (body.drop (16 * g + 16 * st)) 32 v).map verbDefOf
    flows := (recordsOf (body.drop (16 * g + 16 * st + 32 * v)) 32 f).map flowDefOf
    disables := (recordsOf (body.drop (16 * g + 16 * st + 32 * v + 32 * f)) 8 di).map disableDefOf }

/-- Length of a recipe section by its header. -/
def recipeLength (x : RecipeSec) : Nat :=
  32 + 16 * x.graphs.length + 16 * x.steps.length + 32 * x.verbs.length + 32 * x.flows.length + 8 * x.disables.length

/-- The verbs of a step. -/
def RecipeSec.verbsOf (x : RecipeSec) (d : StepDef) : List VerbDef := (x.verbs.drop d.firstVerb).take d.verbCount

/-- A verb is reachable from another by inputs: the ancestors of a verb among lower numbers (R192). -/
def ancestors (vs : List VerbDef) (n : Nat) : Nat → List Nat
  | 0 => []
  | fuel + 1 =>
    match vs.find? (fun d => decide (d.verb = n)) with
    | some d => d.inputs.foldl (fun l e => if e.1 ∈ l then l else l ++ [e.1] ++ (ancestors vs e.1 fuel).filter (fun k => k ∉ l)) []
    | none => []

/-- The flow variables a verb reads and writes. -/
def fvReads (d : VerbDef) : List Nat :=
  (if bitOf d.src 7 then [d.src % 8] else []) ++ (if d.op = .calc ∨ d.op = .branch then [d.a] else [])
/-- The flow variables a verb writes. -/
def fvWrites (d : VerbDef) : List Nat := if d.op = .get ∨ d.op = .calc then [d.dst] else []

/-- Two verbs of a step use one flow variable without an order between them (R192). -/
def fvConflict (vs : List VerbDef) (a b : VerbDef) : Bool :=
  let clash := (fvWrites a).any (fun k => decide (k ∈ fvWrites b) || decide (k ∈ fvReads b)) || (fvReads a).any (fun k => decide (k ∈ fvWrites b))
  clash && !(decide (a.verb ∈ ancestors vs b.verb vs.length) || decide (b.verb ∈ ancestors vs a.verb vs.length))

/-- Some pair of a list satisfies a relation. -/
def somePair {α : Type} (p : α → α → Bool) : List α → Bool
  | [] => false
  | a :: t => t.any (p a) || somePair p t

/-- Reason 0x0008 of R192. -/
def recipeOrder (x : RecipeSec) : Bool :=
  decide ((x.graphs.map (·.graph)) = List.range x.graphs.length) && decide ((x.flows.map (·.flow)) = List.range x.flows.length) &&
  decide ((x.verbs.map (·.verb)) = List.range x.verbs.length) &&
  disjointRanges (x.graphs.map (fun g => (g.firstStep, g.stepCount))) && disjointRanges (x.steps.map (fun d => (d.firstVerb, d.verbCount)))

/-- The step record whose verb range holds a verb number. -/
def RecipeSec.stepWith (x : RecipeSec) (v : Nat) : Option Nat :=
  (findIdx' (fun (d : StepDef) => decide (d.firstVerb ≤ v ∧ v < d.firstVerb + d.verbCount)) x.steps 0).map (·.1)

/-- The graph whose step range holds a step record. -/
def RecipeSec.graphWith (x : RecipeSec) (i : Nat) : Option GraphDef :=
  x.graphs.find? (fun g => decide (g.firstStep ≤ i ∧ i < g.firstStep + g.stepCount))

/-- A list of step records has one of an identifier that is not retired. -/
def hasStep (l : List StepDef) (id : Nat) : Bool := l.any (fun d => decide (d.stepId = id) && !d.retired)

/-- The references of a verb record: its inputs are lower verbs of its own step, a FORK's flow and step and a NEXT's step exist (R192). -/
def RecipeSec.verbRefs (x : RecipeSec) (v : VerbDef) : Bool :=
  let own := x.stepWith v.verb
  v.inputs.all (fun i => decide (i.1 < v.verb) && decide (x.stepWith i.1 = own)) &&
  (decide (v.op ≠ .fork) || (decide (v.a < x.flows.length) && (x.named v.a v.b.toNat).isSome)) &&
  (decide (v.op ≠ .next) ||
    (match own.bind x.graphWith with | some g => x.stepsOf g | none => x.steps).any (fun e => decide (e.stepId = v.a)))

/-- The steps a step record names, in its graph where a graph holds it, else among all (R192). -/
def RecipeSec.stepRefs (x : RecipeSec) (e : Nat × StepDef) : Bool :=
  let l := match x.graphWith e.1 with | some g => x.stepsOf g | none => x.steps
  (decide (e.2.reentry = 0xFFFF) || hasStep l e.2.reentry) && (!e.2.retired || hasStep l e.2.successor)

/-- Reason 0x000C of R192, apart from points. -/
def recipeRefs (x : RecipeSec) : Bool :=
  x.graphs.all (fun g =>
    let ss := x.stepsOf g
    decide (ss.length = g.stepCount) && distinct (ss.map (·.stepId)) && (decide (g.abortStep = 0xFFFF) || hasStep ss g.abortStep)) &&
  ((List.range x.steps.length).zip x.steps).all x.stepRefs && x.verbs.all x.verbRefs &&
  x.flows.all (fun f => decide (f.graph < x.graphs.length) && decide (f.firstDis + f.disCount ≤ x.disables.length)) &&
  x.steps.all (fun d =>
    let vs := x.verbsOf d
    decide (vs.length = d.verbCount) && !somePair (fvConflict vs) vs)

/-- Reason 0x000B of R190 and R192 in graph, step and flow records. -/
def recipeValues (body : List Byte) (x : RecipeSec) : Bool :=
  let g := x.graphs.length
  let st := x.steps.length
  let v := x.verbs.length
  ((recordsOf body 16 g).all (fun r => decide (fieldLE r 8 1 < 2) && zeroBytes r 9 7)) &&
  ((recordsOf (body.drop (16 * g)) 16 st).all (fun r => decide (fieldLE r 0x0D 1 < 2))) &&
  x.graphs.all (fun d => decide (1 ≤ d.stepCount)) &&
  x.steps.all (fun d => decide (d.stepId ≤ 65534) && decide (d.tmoAct < 2) &&
    (if d.retired then decide (d.verbCount = 0) else decide (1 ≤ d.verbCount ∧ d.verbCount ≤ 4096) && decide (d.successor = 0xFFFF)) &&
    (d.retired || (x.verbsOf d).any (fun q => decide (q.op = .next) || decide (q.op = .finish)))) &&
  ((recordsOf (body.drop (16 * g + 16 * st)) 32 v).zip x.verbs).all (fun e => verbRecordOk e.1 e.2) &&
  x.verbs.all (fun d => d.inputs.all (fun i => match x.verbs[i.1]? with | some q => decide (i.2 < portsOf q.op) | none => true)) &&
  ((recordsOf (body.drop (16 * g + 16 * st + 32 * v)) 32 x.flows.length).all (fun r => zeroBytes r 5 1 && zeroBytes r 0x0A 2 && zeroBytes r 0x18 8)) &&
  x.flows.all (fun d => decide (d.start < 3) && decide (d.disCount ≤ 256)) && decide (x.reserved ≤ x.timers)

/-- The recipe section of a cell: section and faults (R189, R192). -/
def parseRecipes (b : List Byte) (cell : Nat) : RecipeSec × List Rej :=
  let x := recipeOf b
  (x, need (recipeHeaderOk b x) 0x000B cell ++ need (decide (b.length = recipeLength x)) 0x0008 cell ++
      need (recipeOrder x) 0x0008 cell ++ need (recipeRefs x) 0x000C cell ++ need (recipeValues (b.drop 32) x) 0x000B cell)

/-- The checks of a recipe section against points and generators (R192, R193). -/
def recipeLinks (points : Tab PointDef) (pgs : Tab PgDef) (roles : List Nat) (dev cell : Nat) (x : RecipeSec) : List Rej :=
  let obj (k : Nat) := dev * 2 ^ 17 + cell * 2 ^ 11 + k
  (x.verbs.map (fun d =>
    match d.op with
    | .set | .ramp =>
      need (decide (d.a ≠ NONE)) 0x000C (obj d.verb) ++ refChecks points dev d.a [0, 1, 2, 3] (obj d.verb) ++ ownedChecks points dev cell d.a (obj d.verb)
    | .get | .wait => need (decide (d.a ≠ NONE)) 0x000C (obj d.verb) ++ refChecks points dev d.a [0, 1, 2, 3] (obj d.verb)
    | .move =>
      need (!refBad d.a && decide (idDev d.a = dev) && decide (roles.getD (idCell d.a) 0 = roleLoop) &&
        (pgs.look (idCell d.a * 8 + refObj d.a)).isSome && decide (refObj d.a < 8)) 0x000C (obj d.verb)
    | _ => [])).flatten ++
  (x.flows.map (fun f =>
    need (decide (f.stepPt ≠ NONE) && decide (f.statePt ≠ NONE)) 0x000C (obj f.flow) ++
    refChecks points dev f.stepPt [1] (obj f.flow) ++ refChecks points dev f.statePt [3] (obj f.flow) ++ refChecks points dev f.markPt [1] (obj f.flow) ++
    ownedChecks points dev cell f.stepPt (obj f.flow) ++ ownedChecks points dev cell f.statePt (obj f.flow) ++ ownedChecks points dev cell f.markPt (obj f.flow) ++
    (match points.look (idLocal f.statePt) with
     | some p => need (decide (p.format ≠ 3) || decide (p.enumCount = 6)) 0x000B (obj f.flow)
     | none => []))).flatten ++
  (x.disables.map (fun d => need (decide (d.point ≠ NONE)) 0x000C (obj 0) ++ refChecks points dev d.point [0, 1, 2, 3] (obj 0) ++ ownedChecks points dev cell d.point (obj 0))).flatten

/-! Charges (R208). -/

/-- The hop count between two cells (R22). -/
def hops (a b : Nat) : Nat :=
  let d (x y : Nat) : Nat := (x - y) + (y - x)
  d (a / 8) (b / 8) + d (a % 8) (b % 8)

/-- The cost of one action of a verb, with the costs of reading each point and of reaching each cell (R208). -/
def verbCost (readCost reach : Nat → Nat) (lt : Nat) (d : VerbDef) : Nat :=
  match d.op with
  | .set => 24
  | .mark => 20
  | .get => 18 + readCost d.a
  | .calc => if d.sub = 3 then 28 else 16
  | .delay => 20 + lt
  | .wait => 24 + lt + readCost d.a
  | .branch | .merge => 12
  | .move => 40 + reach (idCell d.a)
  | .ramp => 36 + lt
  | .fork => 48
  | .next => 64
  | .finish => 40

/-- W_SEQ of a cell, with the costs of reading each point and of reaching each cell (R208). -/
def seqCharge (readCost reach : Nat → Nat) (x : RecipeSec) : Nat :=
  let lt := 4 * log2Up x.timers
  let timed := x.verbs.any (fun d => (decide (d.op = .delay) || decide (d.op = .wait) || decide (d.op = .ramp)) && decide (0 < d.c)) ||
    x.steps.any (fun d => decide (0 < d.timeout))
  let cVerb := x.verbs.foldl (fun m d => max m (verbCost readCost reach lt d)) (max 64 (if timed then 24 + lt else 0))
  let cWait := 14 + x.verbs.foldl (fun m d => if d.op = .wait then max m (readCost d.a) else m) 0
  96 + 2 * x.flows.length + x.dMax * cVerb + x.wMax * cWait + x.rampMax * 22

/-! Registers and commands (R210, R211). -/

/-- The states of the flows of a cell. -/
def State.flowsOf (s : State) (h : Nat) : List FlowState := (s.flowNums h).map (s.flow h)

/-- CEL_SEQ_SUM (R210). -/
def State.viewSeqSum (s : State) (h : Nat) : Nat :=
  let l := s.flowsOf h
  b2n (l.any (·.late)) * 2 ^ 31 + b2n (l.any (fun f => f.stepTmo || f.deadEnd || f.calcErr)) * 2 ^ 30 +
  (l.filter (fun f => decide (f.st = .holding) || decide (f.st = .held))).length * 2 ^ 11 + (l.filter (·.active)).length

/-- CEL_SEQ_RES (R210). -/
def State.viewSeqRes (s : State) (h : Nat) : Nat := s.ramps h * 2 ^ 11 + s.waits h

/-- CEL_SEQ_DISP (R210). -/
def State.viewSeqDisp (s : State) (h : Nat) : Nat := s.rd Reg.CEL_SEQ_DISP_PEAK [h] * 2 ^ 16 + (s.seq h).last

/-- CEL_FLOW_STAT_f as the state of a flow gives it (R210). -/
def flowStat (st : FlowState) : Nat :=
  2 ^ 31 + flowCode st.st * 2 ^ 28 + b2n st.late * 2 ^ 27 + b2n st.stepTmo * 2 ^ 26 + b2n st.deadEnd * 2 ^ 25 + b2n st.calcErr * 2 ^ 24 +
  b2n st.resumeWait * 2 ^ 23 + b2n st.pending.isSome * 2 ^ 22 +
  (match st.pending, st.step with | some p, _ => p | none, some x => x | none, none => 0xFFFF)

/-- CEL_FLOW_STAT_f (R210). -/
def State.viewFlow (s : State) (h f : Nat) : Nat := if f < (s.rx h).flows.length then flowStat (s.flow h f) else 0xFFFF

/-- CEL_FLOW_STAT_f is written: LATE, STEP_TMO, DEAD_END and CALC_ERR clear where a 1 is written (R210). -/
def State.clearFlowStat (s : State) (h f v hw : Nat) : State :=
  let on := fun (b : Bool) (i : Nat) => (b && !bitOf v i) || bitOf hw i
  if f < (s.rx h).flows.length then
    s.onFlow h f (fun e => { e with late := on e.late 27, stepTmo := on e.stepTmo 26, deadEnd := on e.deadEnd 25, calcErr := on e.calcErr 24 })
  else s

/-- A FLOW_REF with a non-zero reserved bit (R211). -/
def flowRefBad (r : Nat) : Bool := decide (bitsOf r 31 25 ≠ 0) || bitOf r 10
/-- The flow number of a FLOW_REF. -/
def flowNum (r : Nat) : Nat := r % 1024
/-- A FLOW_REF names a defined flow of a SEQUENCE cell (R211). -/
def State.flowThere (s : State) (r : Nat) : Bool :=
  decide (s.roleAt (idCell r) = roleSeq) && decide (flowNum r < (s.rx (idCell r)).flows.length)

/-- The flow commands share their checks: judged, acknowledged and latched for the next base mark; a disable in a SAFE cell waits for its release (R202, R205, R211). -/
def State.flowCmd (s : State) (ref : CmdRef) (op : Nat) (args : List Nat) : State :=
  let r := argN args 0
  s.here (idDev r) (!flowRefBad r) ref op args (fun s =>
    s.commandLong ref op [(flowRefBad r, .invalid, 0), (decide (op = 0x0401 ∧ 65536 ≤ argN args 1), .invalid, 1), (!s.flowThere r, .absent, 0)] []
      (fun ref s => s.latch { op := op, home := idCell r, obj := flowNum r, args := args, ref := ref }))

/-- FLOW_START (R202). -/
def execFlowStart (ref : CmdRef) (args : List Nat) (s : State) : Out := .next (s.flowCmd ref 0x0401 args)
/-- FLOW_HOLD (R203). -/
def execFlowHold (ref : CmdRef) (args : List Nat) (s : State) : Out := .next (s.flowCmd ref 0x0402 args)
/-- FLOW_RESUME (R203). -/
def execFlowResume (ref : CmdRef) (args : List Nat) (s : State) : Out := .next (s.flowCmd ref 0x0403 args)
/-- FLOW_ABORT (R202). -/
def execFlowAbort (ref : CmdRef) (args : List Nat) (s : State) : Out := .next (s.flowCmd ref 0x0404 args)
/-- FLOW_DISABLE (R205). -/
def execFlowDisable (ref : CmdRef) (args : List Nat) (s : State) : Out := .next (s.flowCmd ref 0x0405 args)
/-- FLOW_ENABLE (R202). -/
def execFlowEnable (ref : CmdRef) (args : List Nat) (s : State) : Out := .next (s.flowCmd ref 0x0406 args)

/-- FLOW_READ: status, flow variables and entry time of 1–64 flows of one cell from the last sealed cut (R211). -/
def execFlowRead (ref : CmdRef) (args : List Nat) (s : State) : Out :=
  let l := (args.drop 1).take (argN args 0)
  .next (s.here (idDev (l.headD 0)) (l.all (fun r => !flowRefBad r)) ref 0x0407 args (fun s =>
    s.command ref 0x0407 [badCount args 64, badAt (fun r => !flowRefBad r) l .invalid,
        badAt (fun r => decide (r / 2048 = l.headD 0 / 2048)) l .invalid, noRoom ref (44 * l.length), badAt s.flowThere l .absent] []
      (fun ref s => s.complete ref .ok 0 0 ((l.map (fun r =>
        let st := match s.cut.seqs.look (idCell r) with
          | some q => q.flows.at' (flowNum r) (s.flow (idCell r) (flowNum r))
          | none => s.flow (idCell r) (flowNum r)
        leBytes 4 (flowStat st) ++ wordsBytes st.fv ++ leBytes 8 st.entry)).flatten))))

end Sys2Proof.Machine
end

