-- ==== Sys2Proof/Machine/Logic.lean ====
section
/-! DEFINITION. Logic cells: operands, the instruction set, timers, counters and edges, scans, the key's effect on logic, code checks and charges, commands, and the key switch (R212 to R241). -/

namespace Sys2Proof.Machine

/-! Instruction words (R218). -/
/-- OP. -/
def wOp (w : Word) : Nat := bitsOf w.toNat 31 26
/-- NEG. -/
def wNeg (w : Word) : Bool := bitOf w.toNat 25
/-- FLT. -/
def wFlt (w : Word) : Bool := bitOf w.toNat 24
/-- AREA. -/
def wArea (w : Word) : Nat := bitsOf w.toNat 23 20
/-- BIT. -/
def wBit (w : Word) : Nat := bitsOf w.toNat 19 16
/-- INDEX. -/
def wIdx (w : Word) : Nat := bitsOf w.toNat 15 0
/-- TARGET. -/
def wTarget (w : Word) : Nat := bitsOf w.toNat 17 0

/-! Objects (R223 to R226). -/

/-- The value of an INT32 as FLOAT32. -/
def wordToF32 (w : Word) : F32 := F32.ofInt w.toInt

/-- The state of an object after a cold start (R234). -/
def coldObj (d : ObjDef) : ObjState :=
  match d.kind with
  | .ton | .tof | .tp => .timer { pt := d.p0.toNat }
  | .ctu | .ctd | .ctud => .counter { cv := d.p1, pv := d.p0 }
  | .rising | .falling | .both => .edge {}

/-- The state of an object by index. -/
def LogicState.obj (q : LogicState) (x : LogicSec) (i : Nat) : ObjState :=
  match q.objs.look i with
  | some o => o
  | none => match x.objects[i]? with | some d => coldObj d | none => .edge {}

/-- The state with an object replaced. -/
def LogicState.setObj (q : LogicState) (i : Nat) (o : ObjState) : LogicState := { q with objs := q.objs.put i o }

/-- MS_BASE of an object. -/
def LogicSec.ms (x : LogicSec) (i : Nat) : Bool := match x.objects[i]? with | some d => d.msBase | none => false
/-- The kind of an object. -/
def LogicSec.kind (x : LogicSec) (i : Nat) : ObjKind := match x.objects[i]? with | some d => d.kind | none => .both

/-- PT_US (R223). -/
def ptUs (ms : Bool) (t : TimerSt) : Nat := if ms then t.pt * 1000 else t.pt
/-- ET_US at a scan time (R223). -/
def etUs (t : TimerSt) (ts : Nat) : Nat := (((ts : Int) - t.start + 500) / 1000).toNat
/-- The elapsed time a word read returns (R223, R232). -/
def etWord (ms : Bool) (t : TimerSt) (ts : Nat) : Word :=
  let us := match t.kept with
    | some k => min k (ptUs ms t)
    | none => if t.running then min (etUs t ts) (ptUs ms t) else if t.done then ptUs ms t else 0
  satInt32 ((if ms then us / 1000 else us : Nat) : Int)

/-- A timer with the PT that a splice gave its record (R235). -/
def TimerSt.takePt (t : TimerSt) : TimerSt := match t.newPt with | some p => { t with pt := p, newPt := none } | none => t

/-- TMR on a timer, which takes a new PT first: the first row of R224 whose kind and condition hold (R224, R235). -/
def tmrStep (kind : ObjKind) (ms : Bool) (t : TimerSt) (inp : Bool) (ts : Nat) : TimerSt :=
  let t := t.takePt
  let pt := ptUs ms t
  let due := t.running && decide (pt ≤ etUs t ts)
  let start (q : Bool) : TimerSt := { t with start := ts, running := true, done := false, q := q }
  let r : TimerSt := match kind with
    | .ton =>
      if !inp then { t with running := false, q := false, done := false }
      else if !t.inPrev then start (decide (pt = 0))
      else if due then { t with q := true, running := false, done := true } else t
    | .tof =>
      if inp then { t with running := false, q := true, done := false }
      else if t.inPrev then start (decide (0 < pt))
      else if due then { t with q := false, running := false, done := true } else t
    | _ =>
      if inp && !t.inPrev && !t.running then start (decide (0 < pt))
      else if due then { t with q := false, running := false, done := true }
      else if !inp && !t.running then { t with done := false } else t
  { r with inPrev := inp, kept := none }

/-- Q of a counter: output 0, or QD (R225). -/
def cntQ (kind : ObjKind) (c : CounterSt) (qd : Bool) : Bool :=
  if qd || decide (kind = .ctd) then decide (c.cv.toInt ≤ 0) else decide (c.pv.toInt ≤ c.cv.toInt)

/-- CNT on a counter, with whether a step met a limit (R225). -/
def cntStep (kind : ObjKind) (c : CounterSt) (cu cd : Bool) : CounterSt × Bool :=
  let up := cu && !c.cu && decide (kind ≠ .ctd)
  let dn := cd && !c.cd && decide (kind ≠ .ctu)
  let v := c.cv.toInt + (if up && !dn then 1 else if dn && !up then -1 else 0)
  ({ c with cv := satInt32 v, cu := cu, cd := cd }, decide (2147483647 < v) || decide (v < -2147483648))

/-- EDG on an edge object: the new state and ACC (R226). -/
def edgStep (kind : ObjKind) (e : EdgeSt) (a : Bool) : EdgeSt × Bool :=
  ({ prev := a, first := false },
   if e.first then false
   else match kind with
     | .rising => a && !e.prev
     | .falling => e.prev && !a
     | _ => xor a e.prev)

/-! Operands (R219, R222). -/

/-- A task's state. -/
def LogicState.task (q : LogicState) (x : LogicSec) (t : Nat) : TaskState :=
  match q.tasks.look t with
  | some s => s
  | none => { enabled := match x.tasks[t]? with | some d => decide (d.start = 0) | none => true }

/-- The state with a task changed. -/
def LogicState.onTask (q : LogicState) (x : LogicSec) (t : Nat) (f : TaskState → TaskState) : LogicState :=
  { q with tasks := q.tasks.put t (f (q.task x t)) }

/-- The state with the scan context changed. -/
def LogicState.onScan (q : LogicState) (f : Scan → Scan) : LogicState := { q with scan := f q.scan }

/-- Word INDEX of area W; unlisted words hold their cold-start value (R234). -/
def LogicState.word (q : LogicState) (x : LogicSec) (i : Nat) : Word :=
  match q.words.look i with
  | some w => w
  | none => match x.wInit.find? (fun e => decide (e.1 = i)) with | some e => e.2 | none => 0

/-- The 32 markers of a group. -/
def LogicState.marks (q : LogicState) (g : Nat) : Word := q.markers.at' g 0

/-- A word with one bit replaced. -/
def withBit (w : Word) (i : Nat) (b : Bool) : Word := BitVec.ofNat 32 (setBits w.toNat i i (b2n b))

/-- The bit operand, before NEG (R219, R222). -/
def LogicState.bitRead (q : LogicState) (x : LogicSec) (w : Word) : Bool :=
  let i := wIdx w
  match wArea w with
  | 0 => (match q.scan.img[i]? with | some e => bitOf e.value.toNat 0 | none => false)
  | 1 => bitOf (q.marks (i / 32)).toNat (i % 32)
  | 2 => bitOf (q.word x i).toNat (wBit w)
  | 3 => (match q.obj x i with | .timer t => t.q | _ => false)
  | 4 => (match q.obj x i with | .counter c => cntQ (x.kind i) c (decide (wBit w = 1)) | _ => false)
  | 5 => (match q.scan.img[i]? with | some e => e.usable | none => false)
  | 6 => bitOf q.scan.sBits i
  | _ => false

/-- The bit operand, inverted when NEG is 1 (R220). -/
def LogicState.bitOperand (q : LogicState) (x : LogicSec) (w : Word) : Bool := xor (q.bitRead x w) (wNeg w)

/-- Writes a bit operand (R219). -/
def LogicState.bitWrite (q : LogicState) (x : LogicSec) (w : Word) (b : Bool) : LogicState :=
  let i := wIdx w
  match wArea w with
  | 0 => q.onScan (fun c => { c with img := modAt (fun e => { e with value := if b then 1 else 0 }) c.img i })
  | 1 => { q with markers := q.markers.put (i / 32) (withBit (q.marks (i / 32)) (i % 32) b) }
  | 2 => { q with words := q.words.put i (withBit (q.word x i) (wBit w) b) }
  | _ => q

/-- The word operand (R219, R222, R223). -/
def LogicState.wordOperand (q : LogicState) (x : LogicSec) (w : Word) : Word :=
  let i := wIdx w
  match wArea w with
  | 0 => (match q.scan.img[i]? with | some e => e.value | none => 0)
  | 2 => q.word x i
  | 3 => (match q.obj x i with | .timer t => etWord (x.ms i) t q.scan.ts | _ => 0)
  | 4 => (match q.obj x i with | .counter c => c.cv | _ => 0)
  | 5 => (match q.scan.img[i]? with | some e => BitVec.ofNat 32 e.quality | none => 0)
  | 6 => (match i with
    | 0 => BitVec.ofNat 32 (q.scan.period * 125)
    | 1 => BitVec.ofNat 32 (min q.scan.interval 2147483647)
    | _ => BitVec.ofNat 32 q.scan.n)
  | _ => if wFlt w then F32.ofInt (signed 16 i) else BitVec.ofNat 32 (twos 32 (signed 16 i))

/-- Writes a word operand (R219). -/
def LogicState.wordWrite (q : LogicState) (w v : Word) : LogicState :=
  let i := wIdx w
  match wArea w with
  | 0 => q.onScan (fun c => { c with img := modAt (fun e => { e with value :=
      if e.format = 2 then (if v = 0 then 0 else 1) else if e.format = 3 then v &&& 0xFFFF#32 else v }) c.img i })
  | 2 => { q with words := q.words.put i v }
  | _ => q

/-! The instruction set (R220): each instruction on the cell's logic state. -/

/-- The next instruction follows. -/
def LogicState.step1 (q : LogicState) : LogicState := q.onScan (fun c => { c with pc := c.pc + 1 })
/-- ACC takes a value and the next instruction follows. -/
def LogicState.accTo (q : LogicState) (b : Bool) : LogicState := q.onScan (fun c => { c with acc := b, pc := c.pc + 1 })
/-- WACC takes a value and the next instruction follows. -/
def LogicState.waccTo (q : LogicState) (v : Word) : LogicState := q.onScan (fun c => { c with wacc := v, pc := c.pc + 1 })
/-- ARITH_ERR of the task is set (R220, R225). -/
def LogicState.arith (q : LogicState) (x : LogicSec) : LogicState := q.onTask x q.scan.task (fun t => { t with arithErr := true })
/-- ARITH_ERR is set and 0 stored in WACC (R220). -/
def LogicState.arith0 (q : LogicState) (x : LogicSec) : LogicState := (q.arith x).waccTo 0
/-- Pushes an entry (R220). -/
def LogicState.push (q : LogicState) (o : StackOp) : LogicState := q.onScan (fun c => { c with stack := (c.acc, o) :: c.stack })

/-- NOP. -/
def lgNop (_x : LogicSec) (_w : Word) (q : LogicState) : LogicState := q.step1
/-- LD: ACC = v. -/
def lgLd (x : LogicSec) (w : Word) (q : LogicState) : LogicState := q.accTo (q.bitOperand x w)
/-- AND: ACC = ACC and v. -/
def lgAnd (x : LogicSec) (w : Word) (q : LogicState) : LogicState := q.accTo (q.scan.acc && q.bitOperand x w)
/-- OR: ACC = ACC or v. -/
def lgOr (x : LogicSec) (w : Word) (q : LogicState) : LogicState := q.accTo (q.scan.acc || q.bitOperand x w)
/-- XOR: ACC = ACC xor v. -/
def lgXor (x : LogicSec) (w : Word) (q : LogicState) : LogicState := q.accTo (xor q.scan.acc (q.bitOperand x w))
/-- ST: bit operand = ACC, or not ACC with NEG. -/
def lgSt (x : LogicSec) (w : Word) (q : LogicState) : LogicState := (q.bitWrite x w (xor q.scan.acc (wNeg w))).step1
/-- SET: when ACC is 1, bit operand = 1. -/
def lgSet (x : LogicSec) (w : Word) (q : LogicState) : LogicState := (if q.scan.acc then q.bitWrite x w true else q).step1
/-- RST: when ACC is 1, bit operand = 0. -/
def lgRst (x : LogicSec) (w : Word) (q : LogicState) : LogicState := (if q.scan.acc then q.bitWrite x w false else q).step1
/-- NOT: ACC = not ACC. -/
def lgNot (_x : LogicSec) (_w : Word) (q : LogicState) : LogicState := q.accTo (!q.scan.acc)
/-- ANDP: push (ACC, AND), ACC = v. -/
def lgAndp (x : LogicSec) (w : Word) (q : LogicState) : LogicState := (q.push .and).accTo (q.bitOperand x w)
/-- ORP: push (ACC, OR), ACC = v. -/
def lgOrp (x : LogicSec) (w : Word) (q : LogicState) : LogicState := (q.push .or).accTo (q.bitOperand x w)
/-- POP: ACC = s op ACC; unchanged for NONE. -/
def lgPop (_x : LogicSec) (_w : Word) (q : LogicState) : LogicState :=
  match q.scan.stack with
  | [] => q.step1
  | (b, o) :: t =>
    let a := match o with | .and => b && q.scan.acc | .or => b || q.scan.acc | .none => q.scan.acc
    (q.onScan (fun c => { c with stack := t })).accTo a
/-- DUP: push (ACC, NONE). -/
def lgDup (_x : LogicSec) (_w : Word) (q : LogicState) : LogicState := (q.push .none).step1
/-- PEEK: ACC = s of the top entry. -/
def lgPeek (_x : LogicSec) (_w : Word) (q : LogicState) : LogicState :=
  match q.scan.stack with
  | [] => q.step1
  | (b, _) :: _ => q.accTo b
/-- DROP: pop and discard. -/
def lgDrop (_x : LogicSec) (_w : Word) (q : LogicState) : LogicState := (q.onScan (fun c => { c with stack := c.stack.drop 1 })).step1
/-- EDG (R226). -/
def lgEdg (x : LogicSec) (w : Word) (q : LogicState) : LogicState :=
  match q.obj x (wIdx w) with
  | .edge e =>
    let r := edgStep (x.kind (wIdx w)) e q.scan.acc
    (q.setObj (wIdx w) (.edge r.1)).accTo r.2
  | _ => q.step1
/-- TMR: IN = ACC, then ACC = Q (R224). -/
def lgTmr (x : LogicSec) (w : Word) (q : LogicState) : LogicState :=
  match q.obj x (wIdx w) with
  | .timer t =>
    let r := tmrStep (x.kind (wIdx w)) (x.ms (wIdx w)) t q.scan.acc q.scan.ts
    (q.setObj (wIdx w) (.timer r)).accTo r.q
  | _ => q.step1
/-- TPT: PT = WACC; a negative WACC sets ARITH_ERR and stores 0 in WACC (R220, R224). -/
def lgTpt (x : LogicSec) (w : Word) (q : LogicState) : LogicState :=
  if q.scan.wacc.toInt < 0 then q.arith0 x
  else match q.obj x (wIdx w) with
    | .timer t => (q.setObj (wIdx w) (.timer { t with pt := q.scan.wacc.toNat, newPt := none })).step1
    | _ => q.step1
/-- CNT: CU or CD = ACC, CD = s of the top entry for CTUD; then ACC = Q (R225). -/
def lgCnt (x : LogicSec) (w : Word) (q : LogicState) : LogicState :=
  let k := x.kind (wIdx w)
  match q.obj x (wIdx w) with
  | .counter c =>
    let top := match q.scan.stack with | (b, _) :: _ => b | [] => false
    let r := cntStep k c (if k = .ctd then c.cu else q.scan.acc) (if k = .ctd then q.scan.acc else if k = .ctud then top else c.cd)
    let q := q.setObj (wIdx w) (.counter r.1)
    (if r.2 then q.arith x else q).accTo (cntQ k r.1 false)
  | _ => q.step1
/-- CRST: when ACC is 1, CV = 0, or PV for CTD (R225). -/
def lgCrst (x : LogicSec) (w : Word) (q : LogicState) : LogicState :=
  match q.scan.acc, q.obj x (wIdx w) with
  | true, .counter c => (q.setObj (wIdx w) (.counter { c with cv := if x.kind (wIdx w) = .ctd then c.pv else 0 })).step1
  | _, _ => q.step1
/-- LDW: WACC = w. -/
def lgLdw (x : LogicSec) (w : Word) (q : LogicState) : LogicState := q.waccTo (q.wordOperand x w)
/-- STW: word operand = WACC. -/
def lgStw (_x : LogicSec) (w : Word) (q : LogicState) : LogicState := (q.wordWrite w q.scan.wacc).step1
/-- A float result; a NaN or an infinity sets ARITH_ERR and stores 0 (R220). -/
def LogicState.floatTo (q : LogicState) (x : LogicSec) (v : F32) : LogicState := if F32.fin v then q.waccTo v else q.arith0 x
/-- ADD. -/
def lgAdd (x : LogicSec) (w : Word) (q : LogicState) : LogicState :=
  let v := q.wordOperand x w
  if wFlt w then q.floatTo x (F32.add q.scan.wacc v) else q.waccTo (q.scan.wacc + v)
/-- SUB. -/
def lgSub (x : LogicSec) (w : Word) (q : LogicState) : LogicState :=
  let v := q.wordOperand x w
  if wFlt w then q.floatTo x (F32.sub q.scan.wacc v) else q.waccTo (q.scan.wacc - v)
/-- MUL. -/
def lgMul (x : LogicSec) (w : Word) (q : LogicState) : LogicState :=
  let v := q.wordOperand x w
  if wFlt w then q.floatTo x (F32.mul q.scan.wacc v) else q.waccTo (q.scan.wacc * v)
/-- DIV: INT32 truncates toward zero; division by 0 sets ARITH_ERR (R17, R220). -/
def lgDiv (x : LogicSec) (w : Word) (q : LogicState) : LogicState :=
  let v := q.wordOperand x w
  if wFlt w then (if F32.eq v 0 then q.arith0 x else q.floatTo x (F32.div q.scan.wacc v))
  else if v = 0 then q.arith0 x
  else q.waccTo (BitVec.ofNat 32 (twos 32 (Int.tdiv q.scan.wacc.toInt v.toInt)))
/-- The comparison of CMP: BIT 0 =, 1 ≠, 2 >, 3 ≥, 4 <, 5 ≤. -/
def cmpCode (code : Nat) (lt eq gt : Bool) : Bool :=
  match code with
  | 0 => eq
  | 1 => !eq
  | 2 => gt
  | 3 => gt || eq
  | 4 => lt
  | _ => lt || eq
/-- CMP: ACC = WACC op w. -/
def lgCmp (x : LogicSec) (w : Word) (q : LogicState) : LogicState :=
  let a := q.scan.wacc
  let v := q.wordOperand x w
  q.accTo (if wFlt w then cmpCode (wBit w) (F32.lt a v) (F32.eq a v) (F32.lt v a)
    else cmpCode (wBit w) (decide (a.toInt < v.toInt)) (decide (a = v)) (decide (v.toInt < a.toInt)))
/-- CVT: BIT 0 INT32 to FLOAT32, BIT 1 FLOAT32 to INT32; a NaN sets ARITH_ERR. -/
def lgCvt (x : LogicSec) (w : Word) (q : LogicState) : LogicState :=
  if wBit w = 0 then q.waccTo (wordToF32 q.scan.wacc)
  else match F32.toInt32 q.scan.wacc with
    | some v => q.waccTo v
    | none => q.arith0 x
/-- ANDW. -/
def lgAndw (x : LogicSec) (w : Word) (q : LogicState) : LogicState := q.waccTo (q.scan.wacc &&& q.wordOperand x w)
/-- ORW. -/
def lgOrw (x : LogicSec) (w : Word) (q : LogicState) : LogicState := q.waccTo (q.scan.wacc ||| q.wordOperand x w)
/-- XORW. -/
def lgXorw (x : LogicSec) (w : Word) (q : LogicState) : LogicState := q.waccTo (q.scan.wacc ^^^ q.wordOperand x w)
/-- JMP. -/
def lgJmp (_x : LogicSec) (w : Word) (q : LogicState) : LogicState := q.onScan (fun c => { c with pc := wTarget w })
/-- JMPC: when ACC is 1. -/
def lgJmpc (x : LogicSec) (w : Word) (q : LogicState) : LogicState := if q.scan.acc then lgJmp x w q else q.step1
/-- JMPCN: when ACC is 0. -/
def lgJmpcn (x : LogicSec) (w : Word) (q : LogicState) : LogicState := if q.scan.acc then q.step1 else lgJmp x w q
/-- CALL. -/
def lgCall (_x : LogicSec) (w : Word) (q : LogicState) : LogicState :=
  q.onScan (fun c => { c with calls := (c.pc + 1) :: c.calls, pc := wTarget w })
/-- RET. -/
def lgRet (_x : LogicSec) (_w : Word) (q : LogicState) : LogicState :=
  q.onScan (fun c => match c.calls with | r :: t => { c with calls := t, pc := r } | [] => { c with ended := true })
/-- END of the scan. -/
def lgEnd (_x : LogicSec) (_w : Word) (q : LogicState) : LogicState := q.onScan (fun c => { c with ended := true })

/-- The meaning of an opcode, none where R220 has no row. -/
def lgOf : Nat → Option (LogicSec → Word → LogicState → LogicState)
  | 0x00 => some lgNop | 0x01 => some lgLd | 0x02 => some lgAnd | 0x03 => some lgOr | 0x04 => some lgXor | 0x05 => some lgSt
  | 0x06 => some lgSet | 0x07 => some lgRst | 0x08 => some lgNot | 0x09 => some lgAndp | 0x0A => some lgOrp | 0x0B => some lgPop
  | 0x0C => some lgDup | 0x0D => some lgPeek | 0x0E => some lgDrop | 0x10 => some lgEdg | 0x11 => some lgTmr | 0x12 => some lgTpt
  | 0x13 => some lgCnt | 0x14 => some lgCrst | 0x20 => some lgLdw | 0x21 => some lgStw | 0x22 => some lgAdd | 0x23 => some lgSub
  | 0x24 => some lgMul | 0x25 => some lgDiv | 0x26 => some lgCmp | 0x27 => some lgCvt | 0x28 => some lgAndw | 0x29 => some lgOrw
  | 0x2A => some lgXorw | 0x30 => some lgJmp | 0x31 => some lgJmpc | 0x32 => some lgJmpcn | 0x33 => some lgCall | 0x34 => some lgRet
  | 0x35 => some lgEnd | _ => none

/-! Scans (R212, R213, R222). -/

/-- The logic section of a home cell. -/
def State.logicSec (s : State) (h : Nat) : Option LogicSec := match s.img.run with | some i => i.logics.look h | none => none
/-- The run-time state of a LOGIC cell. -/
def State.logic (s : State) (h : Nat) : LogicState := s.logics.at' h {}
/-- The state with a LOGIC cell's run-time state changed. -/
def State.onLogic (s : State) (h : Nat) (f : LogicState → LogicState) : State := { s with logics := s.logics.put h (f (s.logic h)) }

/-- The program runs to END: at most `n` instructions (R213). -/
def runCode (x : LogicSec) : Nat → LogicState → LogicState
  | 0, q => q
  | n + 1, q =>
    if q.scan.ended then q
    else match x.code[q.scan.pc]? with
      | some w => (match lgOf (wOp w) with
        | some f => runCode x n (f x w q)
        | none => q.onScan (fun c => { c with ended := true }))
      | none => q.onScan (fun c => { c with ended := true })

/-- An upper bound of the instructions of one admitted scan: the step budget of a cell is below it (R54, R227). -/
def scanFuel : Nat := 1048576

/-- The image records of a task. -/
def LogicSec.imgsOf (x : LogicSec) (d : TaskDef) : List ImageRec := (x.images.drop d.imgFirst).take d.imgCount

/-- Timer and edge objects of code from an entry on: those that the object instructions between it and the end of the code reach (R232, R233). -/
def reachable (code : List Word) : Nat → List Nat → List Nat → List Nat
  | 0, _, seen => seen
  | _ + 1, [], seen => seen
  | n + 1, i :: todo, seen =>
    if i ∈ seen then reachable code n todo seen
    else match code[i]? with
      | none => reachable code n todo seen
      | some w =>
        let next := match wOp w with
          | 0x30 => [wTarget w]
          | 0x31 | 0x32 => [i + 1, wTarget w]
          | 0x33 => [i + 1, wTarget w]
          | 0x34 | 0x35 => []
          | _ => [i + 1]
        reachable code n (next ++ todo) (i :: seen)

/-- The code words that a task reaches, subroutines included. -/
def LogicSec.reach (x : LogicSec) (entry : Nat) : List Nat := reachable x.code (2 * x.code.length + 1) [entry] []

/-- The objects that the instructions of an opcode in a task name. -/
def LogicSec.objsOf (x : LogicSec) (op : Nat) (d : TaskDef) : List Nat :=
  ((x.reach d.entry).filter (fun i => match x.code[i]? with | some w => decide (wOp w = op) | none => false)).map
    (fun i => match x.code[i]? with | some w => wIdx w | none => 0)

/-- Pauses running timers: ET is kept (R232). -/
def pauseTimers (x : LogicSec) (l : List Nat) (r : Nat) (q : LogicState) : LogicState :=
  forL l (fun i (q : LogicState) => match q.obj x i with
    | .timer t => if t.running && t.kept.isNone then q.setObj i (.timer { t with kept := some (min (etUs t r) (ptUs (x.ms i) t)) }) else q
    | _ => q) q

/-- Paused timers resume: START = R_r − ET (R232). -/
def resumeTimers (x : LogicSec) (l : List Nat) (r : Nat) (q : LogicState) : LogicState :=
  forL l (fun i (q : LogicState) => match q.obj x i with
    | .timer t => (match t.kept with
      | some k => q.setObj i (.timer { t with start := (r : Int) - (k * 1000 : Nat), kept := none })
      | none => q)
    | _ => q) q

/-- The timers that resume when the key leaves STOP: all but those that only disabled tasks evaluate (R232, R233). -/
def resumable (x : LogicSec) (q : LogicState) : List Nat :=
  let named (on : Bool) := ((x.tasks.filter (fun d => (q.task x d.task).enabled == on)).map (x.objsOf 0x11)).flatten
  let live := named true
  let off := named false
  (List.range x.objects.length).filter (fun i => decide (i ∉ off) || decide (i ∈ live))

/-- FIRST is set on edge objects (R232, R233). -/
def firstEdges (x : LogicSec) (l : List Nat) (q : LogicState) : LogicState :=
  forL l (fun i (q : LogicState) => match q.obj x i with
    | .edge e => q.setObj i (.edge { e with first := true })
    | _ => q) q

/-- The indices of a section's objects. -/
def LogicSec.allObjs (x : LogicSec) : List Nat := List.range x.objects.length

/-- OUTAGE_ADD at the first scan of a task that names the timer after a warm restart, once for each timer (R234). -/
def outageAdd (x : LogicSec) (l : List Nat) (now ts : Nat) (q : LogicState) : LogicState :=
  forL l (fun i (q : LogicState) => match q.obj x i with
    | .timer t => (match t.outage with
      | some sec =>
        let et := min (etUs t ts + 1000000 * (now - sec)) (ptUs (x.ms i) t)
        q.setObj i (.timer (if t.running then { t with start := (ts : Int) - (et * 1000 : Nat), outage := none } else { t with outage := none }))
      | none => q)
    | _ => q) q

/-- An image entry at the start of a scan (R213): inputs as read, outputs with their kept value. -/
def State.imgVal (s : State) (h : Nat) (q : LogicState) (k : Nat) (r : ImageRec) : ImgVal :=
  let e := s.inp h r.point
  let init : Word := match s.pdef (idLocal r.point) with | some d => d.init | none => 0
  { value := if r.dir = 0 then e.value else q.outImg.at' k init, quality := qualCode e.quality, usable := usable false e
    format := s.formatOf r.point, output := decide (r.dir = 1) }

/-- S area bits of a scan (R222). -/
def State.sBits (s : State) (t : TaskState) : Nat :=
  b2n t.first + 2 * b2n t.warm + 4 * b2n t.spliced + 8 * b2n (decide (2 ≤ s.rd Reg.GLB_KEY_EFFECTIVE)) + 16 * b2n t.cellOvr + 32

/-- CEL_TASK_STAT_t as the state of a task gives it (R240). -/
def taskStat (d : TaskDef) (t : TaskState) : Nat :=
  2 ^ 31 + b2n t.enabled * 2 ^ 30 + b2n t.first * 2 ^ 29 + b2n t.arithErr * 2 ^ 28 + b2n t.staleIn * 2 ^ 27 + b2n t.absOut * 2 ^ 26 + d.period

/-- A scan starts: T_s, the input image, ACC, WACC and the stack (R213). -/
def State.scanStart (s : State) (h : Nat) (x : LogicSec) (d : TaskDef) : State :=
  let q := s.logic h
  let t := q.task x d.task
  let q := outageAdd x (x.objsOf 0x11 d) s.time.d.sec q.rk q
  let img := ((x.imgsOf d).zipIdx d.imgFirst).map (fun e => s.imgVal h q e.2 e.1)
  let c : Scan := { task := d.task, pc := d.entry, img := img, ended := false, ts := q.rk, n := s.time.n, sBits := s.sBits t
                    period := d.period
                    interval := match t.prevTs with | some p => if t.first then 0 else (q.rk - p + 500) / 1000 | none => 0 }
  s.onLogic h (fun _ => { q with scan := c })

/-- A scan ends: outputs are written as owner, the task's flags are settled, STATUS_PT takes the task's status (R213, R215, R240). -/
def State.scanEnd (s : State) (h : Nat) (x : LogicSec) (d : TaskDef) : State :=
  let img := (s.logic h).scan.img
  let l := (x.imgsOf d).zipIdx d.imgFirst
  let stale := (img.filter (fun e => !e.output && !e.usable)).length
  let absent := (img.filter (fun e => e.output && decide (e.quality = 6))).length
  let s := forL (l.zip img) (fun e (s : State) =>
    if e.2.output then (s.onLogic h (fun q => { q with outImg := q.outImg.put e.1.2 e.2.value })).roleWriteId e.1.1.point e.2.value else s) s
  let s := s.onLogic h (fun q => q.onTask x d.task (fun t =>
    { t with first := false, warm := false, spliced := false, cellOvr := false, prevTs := some q.rk, lastN := s.time.n
             staleIn := decide (0 < stale), absOut := decide (0 < absent) }))
  s.roleWriteId d.statusPt (BitVec.ofNat 32 (taskStat d ((s.logic h).task x d.task)))

/-- A task's whole scan (R213). -/
def State.runTask (s : State) (h : Nat) (x : LogicSec) (d : TaskDef) : State :=
  let s := s.scanStart h x d
  let s := s.onLogic h (fun q => runCode x scanFuel q)
  s.scanEnd h x d

/-- OFF_VAL of a stopped or disabled task's outputs (R232, R233). -/
def State.taskOff (s : State) (_h : Nat) (x : LogicSec) (d : TaskDef) : State :=
  forL (x.imgsOf d) (fun r s => if r.dir = 1 ∧ !r.holdOff then s.roleWriteId r.point r.offVal else s) s

/-- A task is due in cycle N (R30). -/
def taskDue (d : TaskDef) (n : Nat) : Bool := decide (n % d.period = d.phase)

/-- The role work of a LOGIC home cell: due tasks in ascending number (R212, R232, R233). -/
def State.runLogic (s : State) (h : Nat) : State :=
  match s.logicSec h with
  | none => s
  | some x =>
    forL x.tasks (fun d s =>
      if taskDue d s.time.n then
        if (s.logic h).stopped || !((s.logic h).task x d.task).enabled then s.taskOff h x d else s.runTask h x d
      else s) s

/-- The key's effect on a LOGIC cell at a mark: scans stop, or resume; after a warm restart its timers resume here (R231, R232, R234). -/
def State.logicMarkFirst (s : State) (h : Nat) : State :=
  match s.logicSec h with
  | none => s
  | some x =>
    let q := s.logic h
    let s := s.onLogic h (fun q => { q with rk := s.runNs, restart := false })
    if s.keyStopped && !q.stopped then
      let s := s.onLogic h (fun q => { pauseTimers x x.allObjs q.rk q with stopped := true })
      forL x.tasks (fun d s => s.taskOff h x d) s
    else if !s.keyStopped && q.stopped then
      s.onLogic h (fun q =>
        let on := x.tasks.filter (fun d => (q.task x d.task).enabled)
        let q := resumeTimers x (resumable x q) q.rk q
        let q := firstEdges x x.allObjs q
        let q := forL on (fun d q => q.onTask x d.task (fun t => { t with first := true })) q
        { q with stopped := false })
    else if !s.keyStopped && q.restart then s.onLogic h (fun q => resumeTimers x (resumable x q) q.rk q)
    else s

/-- TASK_DISABLE at its mark (R233). -/
def State.taskDisable (s : State) (h : Nat) (x : LogicSec) (d : TaskDef) : State :=
  if ((s.logic h).task x d.task).enabled then
    let s := s.onLogic h (fun q => (pauseTimers x (x.objsOf 0x11 d) q.rk q).onTask x d.task (fun t => { t with enabled := false }))
    forL (x.imgsOf d) (fun r s => if r.dir = 1 ∧ !r.holdOff then s.report h r.point else s) (s.taskOff h x d)
  else s

/-- TASK_ENABLE at its mark (R233). -/
def State.taskEnable (s : State) (h : Nat) (x : LogicSec) (d : TaskDef) : State :=
  if ((s.logic h).task x d.task).enabled then s
  else s.onLogic h (fun q =>
    let q := if q.stopped then q else resumeTimers x (x.objsOf 0x11 d) q.rk q
    (firstEdges x (x.objsOf 0x10 d) q).onTask x d.task (fun t => { t with enabled := true, first := true }))

/-- MEM_WRITE at its mark: words, or marker groups under their masks (R241). -/
def memWrite (area index : Nat) : List Nat → LogicState → LogicState
  | [], q => q
  | v :: t, q =>
    if area = 2 then memWrite area (index + 1) t { q with words := q.words.put index (BitVec.ofNat 32 v) }
    else match t with
      | [] => q
      | m :: t =>
        let m : Word := BitVec.ofNat 32 m
        let g : Word := (q.marks index &&& ~~~m) ||| (BitVec.ofNat 32 v &&& m)
        memWrite area (index + 1) t { q with markers := q.markers.put index g }

/-- OBJ_SET at its mark: field 0 PT, 1 CV, 2 PV (R241). -/
def objSet (x : LogicSec) (i field value : Nat) (q : LogicState) : LogicState :=
  match q.obj x i with
  | .timer t => q.setObj i (.timer { t with pt := value, newPt := none })
  | .counter c => q.setObj i (.counter (if field = 1 then { c with cv := BitVec.ofNat 32 value } else { c with pv := BitVec.ofNat 32 value }))
  | .edge _ => q

/-- The index of an object by OBJ_ID. -/
def LogicSec.objIndex (x : LogicSec) (id : Nat) : Option Nat :=
  match findIdx' (fun d => decide (d.objId = id)) x.objects 0 with | some (i, _) => some i | none => none

/-- A latched logic command at its mark; an enable or disable that a later one of the same cycle overtakes decides nothing (R233, R241, R564). -/
def State.markLogic (s : State) (l : Latched) (overtaken : Bool) : State :=
  if s.stoppedNow l.op then s.roleDone l.home l.ref .denied 1
  else if overtaken then s.roleDone l.home l.ref .ok 0 s.time.n
  else match s.logicSec l.home with
    | none => s.roleDone l.home l.ref .absent
    | some x =>
      let s := match l.op, x.tasks[l.obj]? with
        | 0x0502, some d => s.taskDisable l.home x d
        | 0x0503, some d => s.taskEnable l.home x d
        | 0x0505, _ =>
          let words := (l.args.drop 4).take (if argN l.args 1 = 1 then 2 * argN l.args 3 else argN l.args 3)
          s.onLogic l.home (memWrite (argN l.args 1) (argN l.args 2) words)
        | 0x0506, _ => (match x.objIndex (argN l.args 1) with
          | some i => s.onLogic l.home (objSet x i (argN l.args 2) (argN l.args 3))
          | none => s)
        | _, _ => s
      s.roleDone l.home l.ref .ok 0 s.time.n

/-- Logic state after a warm restart, paused until its first mark; `sec` are the seconds of the checkpoint for OUTAGE_ADD (R234). -/
def State.logicRestart (s : State) (h : Nat) (sec : Nat) : State :=
  match s.logicSec h with
  | none => s
  | some x =>
    s.onLogic h (fun q =>
      let q := pauseTimers x x.allObjs q.rk q
      let q := forL x.allObjs (fun i (q : LogicState) => match q.obj x i, x.objects[i]? with
        | .timer t, some d => if d.outageAdd && t.running then q.setObj i (.timer { t with outage := some sec }) else q
        | .edge e, some d => q.setObj i (.edge (if d.warmEdge then { e with first := false } else { e with first := true }))
        | _, _ => q) q
      let q := forL x.tasks (fun d q => q.onTask x d.task (fun t => { t with first := true, warm := true })) q
      { q with stopped := false, restart := true, rk := s.runNs })

/-! Rows of the table: one instruction each in the scan of a cell. -/

/-- One instruction executes in a cell's scan context (R218, R220). -/
def State.lgRow (s : State) (cell : Nat) (f : LogicSec → Word → LogicState → LogicState) (w : Word) : State :=
  match s.logicSec cell with
  | some x => s.onLogic cell (f x w)
  | none => s

/-- NOP (R220). -/
def execLgNop (cell : Fin 64) (w : Word) (s : State) : Out := .next (s.lgRow cell.val lgNop w)
/-- LD (R220). -/
def execLgLd (cell : Fin 64) (w : Word) (s : State) : Out := .next (s.lgRow cell.val lgLd w)
/-- AND (R220). -/
def execLgAnd (cell : Fin 64) (w : Word) (s : State) : Out := .next (s.lgRow cell.val lgAnd w)
/-- OR (R220). -/
def execLgOr (cell : Fin 64) (w : Word) (s : State) : Out := .next (s.lgRow cell.val lgOr w)
/-- XOR (R220). -/
def execLgXor (cell : Fin 64) (w : Word) (s : State) : Out := .next (s.lgRow cell.val lgXor w)
/-- ST (R220). -/
def execLgSt (cell : Fin 64) (w : Word) (s : State) : Out := .next (s.lgRow cell.val lgSt w)
/-- SET (R220). -/
def execLgSet (cell : Fin 64) (w : Word) (s : State) : Out := .next (s.lgRow cell.val lgSet w)
/-- RST (R220). -/
def execLgRst (cell : Fin 64) (w : Word) (s : State) : Out := .next (s.lgRow cell.val lgRst w)
/-- NOT (R220). -/
def execLgNot (cell : Fin 64) (w : Word) (s : State) : Out := .next (s.lgRow cell.val lgNot w)
/-- ANDP (R220). -/
def execLgAndp (cell : Fin 64) (w : Word) (s : State) : Out := .next (s.lgRow cell.val lgAndp w)
/-- ORP (R220). -/
def execLgOrp (cell : Fin 64) (w : Word) (s : State) : Out := .next (s.lgRow cell.val lgOrp w)
/-- POP (R220). -/
def execLgPop (cell : Fin 64) (w : Word) (s : State) : Out := .next (s.lgRow cell.val lgPop w)
/-- DUP (R220). -/
def execLgDup (cell : Fin 64) (w : Word) (s : State) : Out := .next (s.lgRow cell.val lgDup w)
/-- PEEK (R220). -/
def execLgPeek (cell : Fin 64) (w : Word) (s : State) : Out := .next (s.lgRow cell.val lgPeek w)
/-- DROP (R220). -/
def execLgDrop (cell : Fin 64) (w : Word) (s : State) : Out := .next (s.lgRow cell.val lgDrop w)
/-- EDG (R220). -/
def execLgEdg (cell : Fin 64) (w : Word) (s : State) : Out := .next (s.lgRow cell.val lgEdg w)
/-- TMR (R220). -/
def execLgTmr (cell : Fin 64) (w : Word) (s : State) : Out := .next (s.lgRow cell.val lgTmr w)
/-- TPT (R220). -/
def execLgTpt (cell : Fin 64) (w : Word) (s : State) : Out := .next (s.lgRow cell.val lgTpt w)
/-- CNT (R220). -/
def execLgCnt (cell : Fin 64) (w : Word) (s : State) : Out := .next (s.lgRow cell.val lgCnt w)
/-- CRST (R220). -/
def execLgCrst (cell : Fin 64) (w : Word) (s : State) : Out := .next (s.lgRow cell.val lgCrst w)
/-- LDW (R220). -/
def execLgLdw (cell : Fin 64) (w : Word) (s : State) : Out := .next (s.lgRow cell.val lgLdw w)
/-- STW (R220). -/
def execLgStw (cell : Fin 64) (w : Word) (s : State) : Out := .next (s.lgRow cell.val lgStw w)
/-- ADD (R220). -/
def execLgAdd (cell : Fin 64) (w : Word) (s : State) : Out := .next (s.lgRow cell.val lgAdd w)
/-- SUB (R220). -/
def execLgSub (cell : Fin 64) (w : Word) (s : State) : Out := .next (s.lgRow cell.val lgSub w)
/-- MUL (R220). -/
def execLgMul (cell : Fin 64) (w : Word) (s : State) : Out := .next (s.lgRow cell.val lgMul w)
/-- DIV (R220). -/
def execLgDiv (cell : Fin 64) (w : Word) (s : State) : Out := .next (s.lgRow cell.val lgDiv w)
/-- CMP (R220). -/
def execLgCmp (cell : Fin 64) (w : Word) (s : State) : Out := .next (s.lgRow cell.val lgCmp w)
/-- CVT (R220). -/
def execLgCvt (cell : Fin 64) (w : Word) (s : State) : Out := .next (s.lgRow cell.val lgCvt w)
/-- ANDW (R220). -/
def execLgAndw (cell : Fin 64) (w : Word) (s : State) : Out := .next (s.lgRow cell.val lgAndw w)
/-- ORW (R220). -/
def execLgOrw (cell : Fin 64) (w : Word) (s : State) : Out := .next (s.lgRow cell.val lgOrw w)
/-- XORW (R220). -/
def execLgXorw (cell : Fin 64) (w : Word) (s : State) : Out := .next (s.lgRow cell.val lgXorw w)
/-- JMP (R220). -/
def execLgJmp (cell : Fin 64) (w : Word) (s : State) : Out := .next (s.lgRow cell.val lgJmp w)
/-- JMPC (R220). -/
def execLgJmpc (cell : Fin 64) (w : Word) (s : State) : Out := .next (s.lgRow cell.val lgJmpc w)
/-- JMPCN (R220). -/
def execLgJmpcn (cell : Fin 64) (w : Word) (s : State) : Out := .next (s.lgRow cell.val lgJmpcn w)
/-- CALL (R220). -/
def execLgCall (cell : Fin 64) (w : Word) (s : State) : Out := .next (s.lgRow cell.val lgCall w)
/-- RET (R220). -/
def execLgRet (cell : Fin 64) (w : Word) (s : State) : Out := .next (s.lgRow cell.val lgRet w)
/-- END (R220). -/
def execLgEnd (cell : Fin 64) (w : Word) (s : State) : Out := .next (s.lgRow cell.val lgEnd w)

/-! The logic-program section (R215, R216, R221). -/

/-- An object kind (R215). -/
def objKindOf : Nat → Option ObjKind
  | 0x01 => some .ton | 0x02 => some .tof | 0x03 => some .tp | 0x11 => some .ctu | 0x12 => some .ctd | 0x13 => some .ctud
  | 0x21 => some .rising | 0x22 => some .falling | 0x23 => some .both | _ => none

/-- Timer kinds. -/
def isTimer : ObjKind → Bool
  | .ton | .tof | .tp => true
  | _ => false
/-- Counter kinds. -/
def isCounter : ObjKind → Bool
  | .ctu | .ctd | .ctud => true
  | _ => false
/-- Edge kinds. -/
def isEdge (k : ObjKind) : Bool := !isTimer k && !isCounter k

/-- A task record. -/
def taskDefOf (r : List Byte) : TaskDef :=
  { task := fieldLE r 0 1, start := fieldLE r 1 1, period := fieldLE r 2 2, phase := fieldLE r 4 2, imgCount := fieldLE r 6 2
    imgFirst := fieldLE r 8 2, entry := fieldLE r 0x0C 4, statusPt := fieldLE r 0x10 4 }
/-- An image record. -/
def imageRecOf (r : List Byte) : ImageRec :=
  { point := fieldLE r 0 4, task := fieldLE r 4 1, dir := fieldLE r 5 1, holdOff := bitOf (fieldLE r 6 1) 0, offVal := wordLE r 8 }
/-- An object record. -/
def objDefOf (r : List Byte) : ObjDef :=
  let f := fieldLE r 3 1
  { objId := fieldLE r 0 2, kind := (objKindOf (fieldLE r 2 1)).getD .both, msBase := bitOf f 0, outageAdd := bitOf f 1, warmEdge := bitOf f 2
    p0 := wordLE r 4, p1 := wordLE r 8 }

/-- The byte offsets of the parts of a section: tasks, images, objects, W_INIT, code, end (R215). -/
def logicOffsets (b : List Byte) : Nat × Nat × Nat × Nat × Nat × Nat :=
  let t := 32
  let i := t + 32 * fieldLE b 0 2
  let o := i + 16 * fieldLE b 2 2
  let w := o + 16 * fieldLE b 0x0E 2
  let c := w + 8 * fieldLE b 0x10 2
  (t, i, o, w, c, c + 4 * fieldLE b 4 4)

/-- The section as its bytes give it (R215). -/
def logicOf (b : List Byte) : LogicSec :=
  let f := logicOffsets b
  { mBits := fieldLE b 8 4, wWords := fieldLE b 0x0C 2
    tasks := (recordsOf (b.drop f.1) 32 (fieldLE b 0 2)).map taskDefOf
    images := (recordsOf (b.drop f.2.1) 16 (fieldLE b 2 2)).map imageRecOf
    objects := (recordsOf (b.drop f.2.2.1) 16 (fieldLE b 0x0E 2)).map objDefOf
    wInit := (recordsOf (b.drop f.2.2.2.1) 8 (fieldLE b 0x10 2)).map (fun r => (fieldLE r 0 2, wordLE r 4))
    code := bytesWords (fieldLE b 4 4) (b.drop f.2.2.2.2.1) }

/-- Ranges of the header (R215). -/
def logicHeaderOk (b : List Byte) (x : LogicSec) : Bool :=
  decide (1 ≤ x.tasks.length ∧ x.tasks.length ≤ 64) && decide (1 ≤ x.images.length ∧ x.images.length ≤ 8192) &&
  decide (1 ≤ x.code.length ∧ x.code.length ≤ 262144) && decide (x.mBits ≤ 65536 ∧ x.mBits % 32 = 0) && decide (x.wWords ≤ 16384) &&
  decide (x.objects.length ≤ 8192) && decide (x.wInit.length ≤ 16384) && zeroBytes b 0x12 14

/-- The ranges of records (R215, R216). -/
def logicValues (b : List Byte) (x : LogicSec) : Bool :=
  let f := logicOffsets b
  ((recordsOf (b.drop f.1) 32 x.tasks.length).all (fun r => zeroBytes r 0x0A 2 && zeroBytes r 0x14 12)) &&
  x.tasks.all (fun d => decide (d.start < 2) && decide (2 ≤ d.period ∧ d.period ≤ 800) && decide (d.phase < d.period) && decide (d.imgCount ≤ 8192) &&
    decide (d.entry < x.code.length)) &&
  ((recordsOf (b.drop f.2.1) 16 x.images.length).all (fun r => decide (fieldLE r 5 1 < 2) && decide (fieldLE r 6 1 < 2) && zeroBytes r 7 1 &&
    zeroBytes r 0x0C 4 && (decide (fieldLE r 5 1 = 1) || zeroBytes r 8 4))) &&
  ((recordsOf (b.drop f.2.2.1) 16 x.objects.length).all (fun r => match objKindOf (fieldLE r 2 1) with
    | none => false
    | some k => zeroBytes r 0x0C 4 &&
      (if isTimer k then decide (fieldLE r 3 1 < 4) && zeroBytes r 8 4
       else if isCounter k then decide (fieldLE r 3 1 = 0)
       else decide (fieldLE r 3 1 = 0 ∨ fieldLE r 3 1 = 4) && zeroBytes r 4 8))) &&
  ((recordsOf (b.drop f.2.2.2.1) 8 x.wInit.length).all (fun r => zeroBytes r 2 2)) && x.wInit.all (fun e => decide (e.1 < x.wWords)) &&
  decide ((x.objects.filter (fun d => isTimer d.kind)).length ≤ 2048) && decide ((x.objects.filter (fun d => isCounter d.kind)).length ≤ 2048) &&
  decide ((x.objects.filter (fun d => isEdge d.kind)).length ≤ 4096)

/-- Task records and image ranges in order, the blocks in ascending TASK: reason 0x0008 (R216). -/
def logicOrder (x : LogicSec) : Bool :=
  decide (x.tasks.map (·.task) = List.range x.tasks.length) &&
  x.tasks.all (fun d => decide ((x.images.zipIdx.filter (fun e => decide (e.1.task = d.task))).map (·.2) = (List.range d.imgCount).map (· + d.imgFirst))) &&
  x.images.all (fun r => decide (r.task < x.tasks.length)) && (x.images.zip (x.images.drop 1)).all (fun e => decide (e.1.task ≤ e.2.task))

/-- The bit areas an opcode may read or write, by AREA (R219). -/
def bitReadArea (a : Nat) : Bool := decide (a ≤ 6)
/-- Areas of a bit write. -/
def bitWriteArea (a : Nat) : Bool := decide (a ≤ 2)
/-- Areas of a word read. -/
def wordReadArea (a : Nat) : Bool := decide (a = 0 ∨ a = 2 ∨ a = 3 ∨ a = 4 ∨ a = 5 ∨ a = 6 ∨ a = 15)
/-- Areas of a word write. -/
def wordWriteArea (a : Nat) : Bool := decide (a = 0 ∨ a = 2)

/-- Classes of opcodes by their operand. -/
inductive OpClass where
  | bare | bitRead | bitWrite | object | wordRead | wordWrite | jump
deriving DecidableEq, Repr

/-- The class of an opcode (R218, R220). -/
def classOf (op : Nat) : Option OpClass :=
  if op = 0 ∨ op = 8 ∨ (0x0B ≤ op ∧ op ≤ 0x0E) ∨ op = 0x27 ∨ op = 0x34 ∨ op = 0x35 then some .bare
  else if (1 ≤ op ∧ op ≤ 4) ∨ op = 9 ∨ op = 0x0A then some .bitRead
  else if 5 ≤ op ∧ op ≤ 7 then some .bitWrite
  else if 0x10 ≤ op ∧ op ≤ 0x14 then some .object
  else if op = 0x20 ∨ (0x22 ≤ op ∧ op ≤ 0x26) ∨ (0x28 ≤ op ∧ op ≤ 0x2A) then some .wordRead
  else if op = 0x21 then some .wordWrite
  else if 0x30 ≤ op ∧ op ≤ 0x33 then some .jump
  else none

/-- An INDEX lies in its area, image areas apart (R219, R221, R222). -/
def indexOk (x : LogicSec) (bit : Bool) (w : Word) : Bool :=
  let i := wIdx w
  match wArea w with
  | 1 => decide (i < x.mBits)
  | 2 => decide (i < x.wWords)
  | 3 => decide (i < x.objects.length) && isTimer (x.kind i)
  | 4 => decide (i < x.objects.length) && isCounter (x.kind i)
  | 6 => if bit then decide (i < 6) else decide (i < 3)
  | _ => true

/-- The fields of an instruction word by itself (R221). -/
def wordOk (x : LogicSec) (w : Word) : Bool :=
  let op := wOp w
  let area := wArea w
  let bit := wBit w
  match classOf op with
  | none => false
  | some .jump => decide (bitsOf w.toNat 25 18 = 0) && decide (wTarget w < x.code.length)
  | some .bare => !wNeg w && !wFlt w && decide (area = 0 ∧ wIdx w = 0) && (if op = 0x27 then decide (bit < 2) else decide (bit = 0))
  | some .object =>
    !wNeg w && !wFlt w && decide (area = 0 ∧ bit = 0) && decide (wIdx w < x.objects.length) &&
    (let k := x.kind (wIdx w)
     if op = 0x10 then isEdge k else if op = 0x11 ∨ op = 0x12 then isTimer k else isCounter k)
  | some .bitRead => !wFlt w && bitReadArea area && indexOk x true w && (if area = 2 then true else if area = 4 then decide (bit < 2) else decide (bit = 0))
  | some .bitWrite =>
    !wFlt w && (decide (op = 5) || !wNeg w) && (bitWriteArea area || decide (area = 6)) && indexOk x true w && (decide (area = 2) || decide (bit = 0))
  | some .wordRead =>
    !wNeg w && (!wFlt w || decide (op = 0x20) || decide (0x22 ≤ op ∧ op ≤ 0x26)) && wordReadArea area && indexOk x false w &&
    (if op = 0x26 then decide (bit < 6) else decide (bit = 0))
  | some .wordWrite => !wNeg w && (wordWriteArea area || decide (area = 6)) && indexOk x false w && decide (bit = 0)

/-- The stack change of an instruction, and the depth it needs (R220, R221). -/
def stackUse (x : LogicSec) (w : Word) : Int × Nat :=
  match wOp w with
  | 0x09 => (1, 0) | 0x0A => (1, 0) | 0x0C => (1, 0) | 0x0B => (-1, 1) | 0x0D => (0, 1) | 0x0E => (-1, 1)
  | 0x13 => (0, if x.kind (wIdx w) = .ctud then 1 else 0)
  | _ => (0, 0)

/-- A depth noted for an instruction: none when it differs from one noted before (R221). -/
def noteDepth (t : Tab Nat) (i d : Nat) : Option (Tab Nat) :=
  match t.look i with
  | some e => if e = d then some t else none
  | none => some (t.put i d)

/-- One pass over the code from an entry: stack depths agree and stay within bounds, jumps go forward, every path ends in END or, in a subroutine, RET; the subroutines called are gathered (R221). -/
def flowCheck (x : LogicSec) (sub : Bool) : List (Nat × Word) → Tab Nat → List Nat → Option (List Nat)
  | [], t, calls => if t.isEmpty then some calls else none
  | (i, w) :: rest, t, calls =>
    match t.look i with
    | none => flowCheck x sub rest t calls
    | some d =>
      let t := t.drop' i
      let u := stackUse x w
      let e := ((d : Int) + u.1).toNat
      if d < u.2 ∨ 16 < e then none
      else match wOp w with
        | 0x35 => if d = 0 then flowCheck x sub rest t calls else none
        | 0x34 => if d = 0 ∧ sub then flowCheck x sub rest t calls else none
        | 0x30 => if wTarget w ≤ i then none else (match noteDepth t (wTarget w) e with
          | some t => flowCheck x sub rest t calls
          | none => none)
        | 0x33 => if d ≠ 0 then none else (match noteDepth t (i + 1) e with
          | some t => flowCheck x sub rest t (if wTarget w ∈ calls then calls else wTarget w :: calls)
          | none => none)
        | op =>
          match noteDepth t (i + 1) e with
          | none => none
          | some t =>
            if op = 0x31 ∨ op = 0x32 then
              (if wTarget w ≤ i then none else match noteDepth t (wTarget w) e with
                | some t => flowCheck x sub rest t calls
                | none => none)
            else flowCheck x sub rest t calls

/-- The code words with their indices. -/
def LogicSec.numbered (x : LogicSec) : List (Nat × Word) := (List.range x.code.length).zip x.code

/-- Calls nest at most eight deep and none is recursive; every subroutine passes the check (R221). -/
def callsOk (x : LogicSec) : Nat → List Nat → List Nat → Bool
  | 0, _, calls => calls.isEmpty
  | n + 1, path, calls => calls.all (fun a => decide (a ∉ path) &&
      (match flowCheck x true x.numbered [(a, 0)] [] with
       | some l => callsOk x n (a :: path) l
       | none => false))

/-- A task's code passes the checks of control flow and stack (R221). -/
def taskFlowOk (x : LogicSec) (d : TaskDef) : Bool :=
  match flowCheck x false x.numbered [(d.entry, 0)] [] with
  | some l => callsOk x 8 [] l
  | none => false

/-- The image entry that an X or Q operand of a task names: it exists, its format fits the instruction, and writes name outputs (R221). -/
def imageUse (points : Tab PointDef) (x : LogicSec) (d : TaskDef) (w : Word) : List Nat :=
  let cls := classOf (wOp w)
  let wr := decide (cls = some .bitWrite) || decide (cls = some .wordWrite)
  let opnd := decide (cls = some .bitRead) || wr || decide (cls = some .wordRead)
  if opnd && decide (wArea w = 6) && wr then [0x000C]
  else if !opnd || !(decide (wArea w = 0) || decide (wArea w = 5)) then []
  else match (x.imgsOf d)[wIdx w]? with
    | none => [0x000C]
    | some r =>
      let fmt := match points.look (idLocal r.point) with | some p => p.format | none => 0
      let bit := decide (cls = some .bitRead) || decide (cls = some .bitWrite)
      (if wr && decide (r.dir = 0) then [0x000C] else []) ++
      (if wArea w = 5 then [] else
        (if bit && decide (fmt ≠ 2) then [0x000B] else []) ++ (if !bit && decide (wFlt w ≠ decide (fmt = 0)) then [0x000B] else []))

/-- The code checks of one task (R221). -/
def taskCode (points : Tab PointDef) (x : LogicSec) (obj : Nat) (d : TaskDef) : List Rej :=
  let ws := ((x.reach d.entry).map (fun i => (x.code[i]?).toList)).flatten
  need (ws.all (wordOk x)) 0x000B obj ++ need (taskFlowOk x d) 0x000B obj ++
  ((ws.map (imageUse points x d)).flatten.map (fun r => { reason := r, obj := obj }))

/-- The logic section of a cell: section and faults of the records (R215, R216). -/
def parseLogic (b : List Byte) (cell : Nat) : LogicSec × List Rej :=
  let x := logicOf b
  (x, need (logicHeaderOk b x) 0x000B cell ++ need (decide (b.length = (logicOffsets b).2.2.2.2.2)) 0x0008 cell ++ need (logicOrder x) 0x0008 cell ++
      need (logicValues b x) 0x000B cell ++ need (distinct (x.objects.map (·.objId))) 0x000C cell ++ need (distinct (x.wInit.map (·.1))) 0x000C cell ++
      need (distinct ((x.images.filter (fun r => decide (r.dir = 1))).map (·.point))) 0x000C cell)

/-- The checks of a logic section against points, and of its code (R216, R221). -/
def logicLinks (points : Tab PointDef) (dev cell : Nat) (x : LogicSec) : List Rej :=
  let obj (k : Nat) := dev * 2 ^ 17 + cell * 2 ^ 11 + k
  (x.images.map (fun r => need (decide (r.point ≠ NONE)) 0x000C (obj r.task) ++ refChecks points dev r.point [0, 1, 2, 3] (obj r.task) ++
    (if r.dir = 1 then ownedChecks points dev cell r.point (obj r.task) else []))).flatten ++
  (x.tasks.map (fun d => refChecks points dev d.statusPt [1] (obj d.task) ++ ownedChecks points dev cell d.statusPt (obj d.task) ++
    taskCode points x (obj d.task) d)).flatten

/-! Charges (R220, R227). -/

/-- The steps of an instruction (R220). -/
def stepsOf (w : Word) : Nat :=
  let f := wFlt w
  match wOp w with
  | 0x00 => 2 | 0x10 => 4 | 0x11 => 16 | 0x12 => 6 | 0x13 => 12 | 0x14 => 6
  | 0x20 => 5 | 0x21 => 5 | 0x22 => if f then 8 else 5 | 0x23 => if f then 8 else 5 | 0x24 => if f then 10 else 8
  | 0x25 => if f then 24 else 20 | 0x26 => if f then 8 else 5 | 0x27 => 8 | 0x28 => 5 | 0x29 => 5 | 0x2A => 5
  | 0x30 => 4 | 0x31 => 4 | 0x32 => 4 | 0x33 => 8 | 0x34 => 6 | 0x35 => 4
  | _ => 3

/-- The largest cost noted for an instruction. -/
def noteBest (t : Tab Nat) (i c : Nat) : Tab Nat := t.put i (max (t.at' i 0) c)

/-- One pass of `longest` over the code, with the cost of a subroutine (R227). -/
def longestPass (sub : Nat → Nat) : List (Nat × Word) → Tab Nat → Nat → Nat
  | [], _, worst => worst
  | (i, w) :: rest, t, worst =>
    match t.look i with
    | none => longestPass sub rest t worst
    | some b =>
      let c := b + stepsOf w + (if wOp w = 0x33 then sub (wTarget w) else 0)
      match wOp w with
      | 0x35 => longestPass sub rest t (max worst c)
      | 0x34 => longestPass sub rest t (max worst c)
      | 0x30 => longestPass sub rest (noteBest t (wTarget w) c) worst
      | 0x31 => longestPass sub rest (noteBest (noteBest t (i + 1) c) (wTarget w) c) worst
      | 0x32 => longestPass sub rest (noteBest (noteBest t (i + 1) c) (wTarget w) c) worst
      | _ => longestPass sub rest (noteBest t (i + 1) c) worst

/-- longest(a), with calls to a nesting depth (R221, R227). -/
def longest (x : LogicSec) : Nat → Nat → Nat
  | 0, _ => 0
  | n + 1, a => longestPass (longest x n) x.numbered [(a, 0)] 0

/-- C(t) of a task (R227). -/
def taskCharge (x : LogicSec) (d : TaskDef) : Nat :=
  let l := x.imgsOf d
  48 + 4 * (l.filter (fun r => decide (r.dir = 0))).length + 6 * (l.filter (fun r => decide (r.dir = 1))).length + longest x 9 d.entry

/-- Sealed-state bytes of a LOGIC cell (R217). -/
def logicBytes (x : LogicSec) : Nat :=
  32 * x.tasks.length + x.mBits / 8 + 4 * x.wWords + 16 * (x.objects.filter (fun d => !isEdge d.kind)).length +
  ceilDiv (x.objects.filter (fun d => isEdge d.kind)).length 4 + 4 * x.images.length

/-! Registers and commands (R240, R241). -/

/-- CEL_LOGIC_SUM; `resync` tells which points await a resync cut (R238, R240). -/
def State.viewLogicSum (s : State) (h : Nat) (resync : Nat → Bool) : Nat :=
  match s.logicSec h with
  | none => 0
  | some x =>
    let q := s.logic h
    let ts := x.tasks.map (fun d => q.task x d.task)
    b2n (ts.any (·.arithErr)) * 2 ^ 31 + b2n q.stopped * 2 ^ 30 +
    b2n (x.images.any (fun r => decide (r.dir = 1) && resync (idLocal r.point))) * 2 ^ 29 + (ts.filter (·.enabled)).length * 2 ^ 8 + ts.length

/-- CEL_LOGIC_CODE (R240). -/
def State.viewLogicCode (s : State) (h : Nat) : Nat := match s.logicSec h with | some x => x.code.length | none => 0

/-- CEL_TASK_STAT_t (R240). -/
def State.viewTask (s : State) (h t : Nat) : Nat :=
  match s.logicSec h with
  | some x => (match x.tasks[t]? with | some d => taskStat d ((s.logic h).task x t) | none => 0)
  | none => 0

/-- CEL_TASK_STAT_t is written: ARITH_ERR clears where a 1 is written (R240). -/
def State.clearTaskStat (s : State) (h t v hw : Nat) : State :=
  match s.logicSec h with
  | some x => if t < x.tasks.length then s.onLogic h (fun q => q.onTask x t (fun e => { e with arithErr := (e.arithErr && !bitOf v 28) || bitOf hw 28 })) else s
  | none => s

/-- A TASK_REF with a non-zero reserved bit (R241). -/
def taskRefBad (r : Nat) : Bool := decide (bitsOf r 31 25 ≠ 0) || decide (bitsOf r 10 6 ≠ 0)
/-- The task number of a TASK_REF. -/
def taskNum (r : Nat) : Nat := r % 64
/-- A TASK_REF names a defined task of a LOGIC cell (R241). -/
def State.taskThere (s : State) (r : Nat) : Bool :=
  decide (s.roleAt (idCell r) = roleLogic) && (match s.logicSec (idCell r) with | some x => decide (taskNum r < x.tasks.length) | none => false)

/-- The sealed logic state of a cell. -/
def State.logicCut (s : State) (h : Nat) : LogicState := s.cut.logics.at' h (s.logic h)

/-- TASK_READ: status and N of the last scan of 1–64 tasks of one cell from the last sealed cut (R241). -/
def execTaskRead (ref : CmdRef) (args : List Nat) (s : State) : Out :=
  let l := (args.drop 1).take (argN args 0)
  .next (s.here (idDev (l.headD 0)) (l.all (fun r => !taskRefBad r)) ref 0x0501 args (fun s =>
    s.command ref 0x0501 [badCount args 64, badAt (fun r => !taskRefBad r) l .invalid,
        badAt (fun r => decide (r / 2048 = l.headD 0 / 2048)) l .invalid, noRoom ref (12 * l.length), badAt s.taskThere l .absent] []
      (fun ref s => s.complete ref .ok 0 0 ((l.map (fun r =>
        match s.logicSec (idCell r) with
        | some x => (match x.tasks[taskNum r]? with
          | some d =>
            let t := (s.logicCut (idCell r)).task x (taskNum r)
            leBytes 4 (taskStat d t) ++ leBytes 8 t.lastN
          | none => [])
        | none => [])).flatten))))

/-- The latched commands on tasks share their checks (R233, R241). -/
def State.taskCmd (s : State) (ref : CmdRef) (op : Nat) (args : List Nat) (pre : List Check) : State :=
  let r := argN args 0
  s.here (idDev r) (!taskRefBad r) ref op args (fun s =>
    s.commandLong ref op ((taskRefBad r, .invalid, 0) :: pre ++ [(!s.taskThere r, .absent, 0)]) []
      (fun ref s => s.latch { op := op, home := idCell r, obj := taskNum r, args := args, ref := ref }))

/-- TASK_DISABLE (R233). -/
def execTaskDisable (ref : CmdRef) (args : List Nat) (s : State) : Out := .next (s.taskCmd ref 0x0502 args [])
/-- TASK_ENABLE (R233). -/
def execTaskEnable (ref : CmdRef) (args : List Nat) (s : State) : Out := .next (s.taskCmd ref 0x0503 args [])

/-- The units of an area of MEM_READ and MEM_WRITE: 1 marker groups, 2 words, 3 objects (R219, R241). -/
def areaSize (x : LogicSec) (area : Nat) : Nat :=
  match area with | 1 => x.mBits / 32 | 2 => x.wWords | 3 => x.objects.length | _ => 0

/-- What MEM_READ returns of one unit (R223, R241). -/
def memBytes (x : LogicSec) (q : LogicState) (area i : Nat) : List Byte :=
  match area with
  | 1 => leBytes 4 (q.marks i).toNat
  | 2 => leBytes 4 (q.word x i).toNat
  | _ => match q.obj x i with
    | .timer t => leBytes 4 (b2n t.q) ++ leBytes 4 (b2n t.running) ++ leBytes 4 (etWord (x.ms i) t q.rk).toNat ++ leBytes 4 t.pt
    | .counter c => leBytes 4 c.cv.toNat ++ leBytes 4 c.pv.toNat ++ leBytes 4 (b2n (cntQ (x.kind i) c false))
    | .edge e => leBytes 4 (b2n e.prev)

/-- MEM_READ: TASK_REF, area, index, count; from the last sealed cut (R241). -/
def execMemRead (ref : CmdRef) (args : List Nat) (s : State) : Out :=
  let r := argN args 0
  let area := argN args 1
  let n := argN args 3
  .next (s.here (idDev r) (!taskRefBad r) ref 0x0504 args (fun s =>
    let x := s.logicSec (idCell r)
    let data := match x with
      | some x => ((List.range n).map (fun i => memBytes x (s.logicCut (idCell r)) area (argN args 2 + i))).flatten
      | none => []
    let past := match x with | some x => decide (areaSize x area < argN args 2 + n) | none => false
    s.command ref 0x0504 [(taskRefBad r, .invalid, 0), (decide (area < 1 ∨ 3 < area), .invalid, 1),
        (decide (n < 1 ∨ (if area = 3 then 64 else 256) < n), .invalid, 3), (s.taskThere r && past, .invalid, 2),
        (s.taskThere r && decide (ref.bufLen < data.length), .invalid, 0), (!s.taskThere r, .absent, 0)] []
      (fun ref s => s.complete ref .ok 0 0 data)))

/-- MEM_WRITE: TASK_REF, area, index, count and the words, or pairs of bits and mask for markers (R241). -/
def execMemWrite (ref : CmdRef) (args : List Nat) (s : State) : Out :=
  let r := argN args 0
  let area := argN args 1
  let n := argN args 3
  let past := match s.logicSec (idCell r) with | some x => decide (areaSize x area < argN args 2 + n) | none => false
  .next (s.taskCmd ref 0x0505 args [(decide (area < 1 ∨ 2 < area), .invalid, 1), (decide (n < 1 ∨ 64 < n), .invalid, 3),
    (decide (args.length < 4 + (if area = 1 then 2 * n else n)), .invalid, 3), (s.taskThere r && past, .invalid, 2)])

/-- An OBJ_SET's field or value does not fit the object it meets (R241). -/
def objSetBad (x : LogicSec) (i field value : Nat) : Bool :=
  if isTimer (x.kind i) then decide (field ≠ 0) || decide (2147483647 < value)
  else if isCounter (x.kind i) then decide (field ≠ 1 ∧ field ≠ 2)
  else true

/-- OBJ_SET: TASK_REF, OBJ_ID, field (0 PT, 1 CV, 2 PV), value (R241). -/
def execObjSet (ref : CmdRef) (args : List Nat) (s : State) : Out :=
  let r := argN args 0
  let x := s.logicSec (idCell r)
  let i := match x with | some x => x.objIndex (argN args 1) | none => none
  let bad := match x, i with
    | some x, some i => objSetBad x i (argN args 2) (argN args 3)
    | _, _ => false
  .next (s.taskCmd ref 0x0506 args [(decide (2 < argN args 2), .invalid, 2), (s.taskThere r && bad, .invalid, 2), (s.taskThere r && i.isNone, .absent, 1)])

/-! The key switch (R229, R230, R239). -/

/-- The position code that two consistent pairs show (R229). -/
def keyCode (a b : Nat) : Option Nat :=
  if a + b = 3 then (match a with | 0 => some keyStop | 1 => some keyRun | 3 => some keyProg | _ => some keyMaint) else none

/-- A sample of both pairs: three consecutive consistent samples of one code agree a position (R229, R230). -/
def execKeySample (a : Fin 4) (b : Fin 4) (s : State) : Out :=
  let k := s.key
  let c := keyCode a.val b.val
  let run := match c with | some x => if k.run ≠ 0 ∧ k.runCode = x then k.run + 1 else 1 | none => 0
  let hit : Option Nat := match c with | some x => if 3 ≤ run then some x else none | none => none
  let agreed := match hit with | some x => some x | none => k.agreed
  let shows := match c, k.agreed with | some x, some y => decide (x = y) | _, _ => false
  let between := if hit.isSome then false else k.between || !shows
  let since := if between && !k.between then s.runNs else k.betweenSince
  let k : KeyState := { k with agreed := agreed, run := min run 3, runCode := c.getD k.runCode, between := between, betweenSince := since, sampled := true
                               pending := match hit with | some x => if k.agreed = some x ∧ k.pending.isNone ∧ s.rd Reg.GLB_KEY_EFFECTIVE = x then none else some x | none => k.pending
                               pendingTick := if hit.isSome then s.runNs else k.pendingTick }
  let s := { s with key := k }
  .next (((s.wr Reg.GLB_KEY_RAW_A a.val).wr Reg.GLB_KEY_RAW_B b.val).wrb Reg.GLB_KEY_BETWEEN between)

/-- BETWEEN has lasted 200 ms: DISC sets and the discrepancy is logged (R230). -/
def execKeyDiscrepancy (s : State) : Out :=
  .next (if s.key.between then ((s.wrCause Reg.GLB_KEY_DISC 1 11).logEvent 0x404) else s)

/-- An agreed position takes effect at the first base mark after the tick of its sample (R229). -/
def State.keyMark (s : State) : State :=
  match s.key.pending with
  | some x =>
    if s.key.pendingTick < s.runNs then
      { s with key := { s.key with pending := none } }.wrCause Reg.GLB_KEY_EFFECTIVE x 11
    else s
  | none => s

end Sys2Proof.Machine
end

