-- ==== Sys2Proof/Machine/Recorder.lean ====
section
/-! DEFINITION. The event recorder's log and commands, and operating time (chapter 20, R524 to R533). -/

namespace Sys2Proof.Machine

/-- The state with the recorder changed. -/
def State.onRec (s : State) (f : Recorder → Recorder) : State := { s with recd := f s.recd }

/-- Records the log area holds (R527). -/
def recCapacity : Nat := 32736

/-- The fall-back acts (R529). -/
def State.recLimited (s : State) : Bool := decide (28644 < s.recd.log.length)

/-- SEQ of the next record (R527). -/
def State.recNext (s : State) : Nat := (s.recd.baseSeq + s.recd.log.length) % 2 ^ 32

/-- The registers that show the log; LIMITED rising is a device cause (R473, R529, R531). -/
def State.recShow (s : State) : State :=
  let s := if s.recLimited && !s.flag Reg.AGE_REC_STAT_LIMITED then s.cause 12 else s
  ((s.wrb Reg.AGE_REC_STAT_LIMITED s.recLimited).wr Reg.AGE_REC_STAT_USED s.recd.log.length).wr Reg.AGE_REC_SEQ_SEQ s.recNext

/-- Appends one code's summary; with a full log the append is dropped (R527, R529). -/
def State.recAppend (s : State) (code kind : Nat) : State :=
  if recCapacity ≤ s.recd.log.length then
    ((s.onRec (fun r => { r with changed := r.changed.filter (fun c => !(c == code)) })).wr Reg.AGE_REC_STAT_FULL 1).countLog 0x3EB code
  else
    (s.onRec (fun r => { r with
      log := r.log ++ [{ seq := s.recNext, code := code, kind := kind, limited := decide (code ∈ r.deferred), sum := r.live.at' code {}, t := s.now64 }]
      changed := r.changed.filter (fun c => !(c == code))
      deferred := r.deferred.filter (fun c => !(c == code))
      epochDone := if code ∈ r.epochDone then r.epochDone else code :: r.epochDone })).recShow

/-- Inserts a code in ascending order. -/
def insertCode (c : Nat) : List Nat → List Nat
  | [] => [c]
  | x :: t => if c < x then c :: x :: t else if c = x then x :: t else x :: insertCode c t

/-- Codes in ascending order (R528). -/
def sortCodes (l : List Nat) : List Nat := l.foldl (fun a c => insertCode c a) []

/-- Every code changed since its last append is appended: power fail and RESTART, exempt from the fall-back (R528, R529). -/
def State.recAppendAll (s : State) (kind : Nat) : State :=
  forL (sortCodes s.recd.changed) (fun c s => s.recAppend c kind) s

/-- A count crossing is appended, or deferred by the fall-back (R528, R529). -/
def State.recCross (s : State) (code : Nat) : State :=
  if s.recLimited && decide (code ∈ s.recd.epochDone) then
    (s.onRec (fun r => { r with deferred := if code ∈ r.deferred then r.deferred else code :: r.deferred })).countLog 0x3EA code
  else s.recAppend code 2

/-- RECORDER_APPEND: the crossings due are appended in ascending code order (R528). -/
def execRecorderAppend (s : State) : Out :=
  let l := sortCodes s.recd.crossing
  .next (forL l (fun c s => s.recCross c) (s.onRec (fun r => { r with crossing := [] })))

/-- RECORDER_EPOCH: at the boundary of an epoch every changed code is appended, in the fall-back only those without an append in the epoch (R528, R529). -/
def execRecorderEpoch (s : State) : Out :=
  let l := (sortCodes s.recd.changed).filter (fun c => !(s.recLimited && decide (c ∈ s.recd.epochDone)))
  .next ((forL l (fun c s => s.recAppend c 1) s).onRec (fun r => { r with epochDone := [] }))

/-- The live summaries rebuilt from the newest record of each code at boot (R527). -/
def State.recBoot (s : State) : State :=
  let s := s.onRec (fun r => match r.bad with | some k => { r with log := r.log.take k, bad := none } | none => r)
  (s.onRec (fun r => { r with live := r.log.foldl (fun t x => t.put x.code x.sum) [], changed := [], crossing := [], epochDone := [], deferred := [], hostCodes := [] })).recShow

/-- OP_SECOND: one second of operating time (R524). -/
def execOpSecond (s : State) : Out :=
  let x := s.rd Reg.AGE_OPSEC_OP_SEC + 1
  .next (if x < 3600 then s.wr Reg.AGE_OPSEC_OP_SEC x else (s.wr Reg.AGE_OPSEC_OP_SEC 0).incWrap Reg.AGE_HOURS_OP_HOURS)

/-- A record's 128 bytes (R527). -/
def recordRow (seq code kind : Nat) (limited : Bool) (x : Summary) (t : Nat) : List Byte :=
  let b := leBytes 4 seq ++ leBytes 2 code ++ leBytes 1 kind ++ leBytes 1 (b2n limited) ++ leBytes 8 x.count ++ leBytes 4 (twos 32 x.min) ++
    leBytes 4 (twos 32 x.max) ++ (x.bins.map (leBytes 4)).flatten ++ leBytes 4 x.first.1 ++ leBytes 4 x.first.2 ++ leBytes 4 x.last.1 ++
    leBytes 4 x.last.2 ++ leBytes 8 t ++ leBytes 8 0
  b ++ leBytes 4 (crc32c b) ++ leBytes 4 (0xFFFFFFFF - seq)

/-- REC_READ: up to 64 records from a SEQ (R533, log entry 2). -/
def execRecRead (ref : CmdRef) (args : List Nat) (s : State) : Out :=
  let q := argN args 0
  let n := argN args 1
  let age := (q + 2 ^ 32 - s.recd.baseSeq % 2 ^ 32) % 2 ^ 32
  let l := (s.recd.log.drop age).take n
  .next (s.command ref 0x0F10 [(decide (n < 1 ∨ 64 < n), .invalid, 1), (decide (2 ^ 31 ≤ age), .invalid, 0), noRoom ref (128 * l.length)] []
    (fun ref s => s.complete ref .ok 0 0 (l.map (fun r => recordRow r.seq r.code r.kind r.limited r.sum r.t)).flatten))

/-- REC_SUMMARY: live summaries in record format with SEQ 0 (R533, log entry 2). -/
def execRecSummary (ref : CmdRef) (args : List Nat) (s : State) : Out :=
  let l := (argItems args).getD []
  .next (s.command ref 0x0F11 [badCount args 64, badAt (fun c => decide (c < 4096)) l .invalid, noRoom ref (128 * l.length)] []
    (fun ref s => s.complete ref .ok 0 0 (l.map (fun c => recordRow 0 c 0 false (s.recd.live.at' c {}) s.now64)).flatten))

/-- REC_CLEAR: a new header, then a KIND 4 record for every code with COUNT above 0 (R530). -/
def execRecClear (ref : CmdRef) (_args : List Nat) (s : State) : Out :=
  .next (s.commandLong ref 0x0F12 [] [] (fun ref s =>
    let q := s.recNext
    let s := (s.onRec (fun r => { r with log := [], baseSeq := q })).wr Reg.AGE_REC_STAT_FULL 0
    let codes := (s.recd.live.filter (fun e => decide (0 < e.2.count))).map (·.1)
    ((forL codes (fun c s => s.recAppend c 4) s).recShow).complete ref .ok))

/-- A code of the host (R526). -/
def hostCode (c : Nat) : Bool := decide (0xC00 ≤ c) && decide (c ≤ 0xFFF)

/-- REC_LOG: an occurrence of a host code with its value (R533). -/
def execRecLog (ref : CmdRef) (args : List Nat) (s : State) : Out :=
  let c := argN args 0
  .next (s.command ref 0x0F13 [(!hostCode c, .invalid, 0)] [] (fun ref s => (s.logEvent c (signed 32 (argN args 1))).complete ref .ok))

/-- REC_CODE_SET: LO and SHIFT of a host code, from its next occurrence (R533). -/
def execRecCodeSet (ref : CmdRef) (args : List Nat) (s : State) : Out :=
  let c := argN args 0
  .next (s.command ref 0x0F14 [(!hostCode c, .invalid, 0), (decide (31 < argN args 2), .invalid, 2)] []
    (fun ref s => (s.onRec (fun r => { r with hostCodes := r.hostCodes.put c (signed 32 (argN args 1), argN args 2) })).complete ref .ok))

/-- REC_CODE_INFO: LO and SHIFT of 1 to 64 codes (R533, log entry 2). -/
def execRecCodeInfo (ref : CmdRef) (args : List Nat) (s : State) : Out :=
  let l := (argItems args).getD []
  .next (s.command ref 0x0F15 [badCount args 64, badAt (fun c => decide (c < 4096)) l .invalid, noRoom ref (8 * l.length)] []
    (fun ref s => s.complete ref .ok 0 0 (l.map (fun c => let x := codeScale s.recd c; leBytes 4 (twos 32 x.1) ++ leBytes 4 x.2)).flatten))

end Sys2Proof.Machine
end

