-- ==== Sys2Proof/Machine/Sealed.lean ====
section
/-! DEFINITION. Sealed state: its size per cell, cuts, planes, checkpoint banks and a warm restart of the roles (chapter 15, R368 to R380). -/

namespace Sys2Proof.Machine

/-- The state with the pair and checkpoint state changed. -/
def State.onPair (s : State) (f : PairState → PairState) : State := { s with pair := f s.pair }

/-! Sizes (R369). -/

/-- Role-state bytes of a cell (R145, R162, R209, R217). -/
def roleBytes (i : Img) (c : Nat) : Nat :=
  let r := i.roles.getD c 0
  if r = roleLoop then
    64 * (i.loops.filter (fun e => decide (e.1 / 256 = c))).length + 64 * (i.axes.filter (fun e => decide (e.1 / 32 = c))).length +
    128 * (i.pgs.filter (fun e => decide (e.1 / 8 = c))).length + 64
  else if r = roleSeq then
    match i.recipes.look c with | some x => 128 * x.flows.length + 8 * x.verbs.length + 16 * x.timers | none => 0
  else if r = roleLogic then
    match i.logics.look c with | some x => logicBytes x | none => 0
  else 0

/-- A point with an extension record (R369). -/
def PointDef.extended (d : PointDef) : Bool := d.output || d.forcible || d.hostOwned || decide (d.maxAge ≠ 0)

/-- Point-state bytes of a cell (R369). -/
def pointBytes (i : Img) (c : Nat) : Nat :=
  let l := (i.points.filter (fun e => decide (e.1 / 2048 = c))).map (·.2)
  16 * l.length + 8 * (l.filter (fun d => d.extended)).length

/-- S(c) (R369). -/
def sealedBytes (i : Img) (c : Nat) : Nat := roleBytes i c + pointBytes i c

/-- The sizes of all 64 planes: a home cell's role state lies in the plane of the cell that executes it (R515). -/
def State.planeSizes (s : State) (i : Img) : List Nat :=
  (List.range 64).map (fun c => pointBytes i c + ((List.range 64).filter (fun h => decide (s.execOf h = c))).foldl (fun a h => a + roleBytes i h) 0)

/-- Offset of each plane in a bank, each at a 64-byte boundary, and the end of the last (R371). -/
def planeOffsets : List Nat → Nat → List Nat × Nat
  | [], off => ([], off)
  | n :: t, off =>
    let a := 64 * ceilDiv off 64
    let r := planeOffsets t (a + n)
    (a :: r.1, r.2)

/-! Cuts and planes (R370). -/

/-- The sealed state of one cell (R369, R515). -/
def State.planeOf (s : State) (x : SealedCut) (c : Nat) : Plane :=
  let of_ (n : Nat) (k : Nat) : Bool := decide (s.execOf (k / n) = c)
  { loops := (x.role.loops.filter (fun e => of_ 256 e.1)).map (fun e => (e.1, match s.loopDef (e.1 / 256) (e.1 % 256) with | some d => loopRecord d e.2 | none => []))
    axes := x.role.axes.filter (fun e => of_ 32 e.1), pgs := x.role.pgs.filter (fun e => of_ 8 e.1)
    seqs := x.role.seqs.filter (fun e => of_ 1 e.1), logics := x.role.logics.filter (fun e => of_ 1 e.1)
    entries := x.entries.filter (fun e => decide (e.1 / 2048 = c)) }

/-- The 64 PCRC values of a cut (R371, R383). -/
def State.planeCrcs (s : State) (x : SealedCut) : List (BitVec 32) := (List.range 64).map (fun c => Config.planeCrc (s.planeOf x c))

/-- Cell time at the base mark that started cut k: run time plus PAIR_OFFSET, in REPLAY the active's (R389, R390). -/
def State.cellTimeOf (s : State) (k : Nat) : Nat :=
  if s.pairSt = 4 then s.pair.replayCell else ((s.pair.markRuns.at' k s.runNs : Int) + s.pair.offset).toNat

/-- The last sealed cut (R370). -/
def State.sealedCut (s : State) : SealedCut :=
  let k := s.pts.cutN
  { n := k, rMark := s.cellTimeOf k, role := s.cut, entries := s.pts.cut
    cells := (List.range 64).map (fun c => (c, (s.rd Reg.CEL_STATUS_STATE [c], s.rd Reg.CEL_STATUS_SAFE_CAUSE [c])))
    sec := k * 125000 / 1000000000, cycles := ((s.time.cycles : Int) - 1 + s.pair.cycOff).toNat, key := s.rd Reg.GLB_KEY_EFFECTIVE }

/-! Banks (R371, R372). -/

/-- A bank's contents are valid (R372). -/
def bankValid (b : Option Bank) : Bool := match b with | some x => x.committed && decide (x.bytes ≤ 4194304) | none => false

/-- The newer valid bank: true is B (R372). -/
def PairState.newer (p : PairState) : Option (Bool × Bank) :=
  match p.bankA, p.bankB with
  | some a, some b =>
    if bankValid (some a) ∧ bankValid (some b) then (if 0 ≤ signed 32 (twos 32 ((a.seq : Int) - b.seq)) then some (false, a) else some (true, b))
    else if bankValid (some a) then some (false, a) else if bankValid (some b) then some (true, b) else none
  | some a, none => if bankValid (some a) then some (false, a) else none
  | none, some b => if bankValid (some b) then some (true, b) else none
  | none, none => none

/-- The registers that show the banks (R400). -/
def State.showBanks (s : State) : State :=
  let p := s.pair
  let n := p.newer
  let k := match n with | some x => x.2.cut.n | none => 0
  ((((((s.wrb Reg.MEM_CKPT_STAT_A_VALID (bankValid p.bankA)).wrb Reg.MEM_CKPT_STAT_B_VALID (bankValid p.bankB)).wrb
    Reg.MEM_CKPT_STAT_NEWER (match n with | some x => x.1 | none => false)).wr Reg.MEM_CKPT_SEQ_SEQ (match n with | some x => x.2.seq | none => 0)).wr
    Reg.MEM_CKPT_N_LO_N_LO (k % 2 ^ 32)).wr Reg.MEM_CKPT_N_HI_N_HI (k / 2 ^ 32)).wrb Reg.MEM_CKPT_STAT_BUSY p.writing.isSome

/-- The bank state with one bank replaced. -/
def PairState.putBank (p : PairState) (b : Bool) (x : Option Bank) : PairState := if b then { p with bankB := x } else { p with bankA := x }

/-- A bank of a kind from a cut, with the next SEQ (R371, R372). -/
def State.makeBank (s : State) (i : Img) (kind : Nat) (x : SealedCut) : Bank :=
  { kind := kind, devnum := i.devnum, seq := match s.pair.newer with | some e => (e.2.seq + 1) % 2 ^ 32 | none => 1
    flags := b2n (decide (s.rd Reg.GLB_PAIR_STRAP ∈ [1, 2]) && !s.flag Reg.GLB_PAIR_STRAP_ERR) + 2 * b2n (decide (s.rd Reg.GLB_PAIR_STRAP = 2) && !s.flag Reg.GLB_PAIR_STRAP_ERR)
    forces := s.rd Reg.GLB_PT_FORCE_COUNT, tMark := markStamp x.n, digest := i.digest, serial := i.serial
    bytes := (planeOffsets (s.planeSizes i) 0x1000).2, hours := s.rd Reg.AGE_HOURS_OP_HOURS, pcycles := s.rd Reg.AGE_PCYC_PCYCLES, cut := x, committed := false }

/-- A write starts: COMMIT of the target is written 0 (R372, R373). -/
def State.startCkpt (s : State) (i : Img) (kind : Nat) (refs : List CmdRef) : State :=
  let x := s.makeBank i kind s.sealedCut
  let b : Bool := match s.pair.newer with | some e => !e.1 | none => false
  let old := if b then s.pair.bankB else s.pair.bankA
  (s.onPair (fun p => { p.putBank b (old.map (fun y => { y with committed := false })) with writing := some { b := b, bank := x, refs := refs } })).showBanks

/-- A write ends: COMMIT is written last (R372). -/
def State.endCkpt (s : State) (w : CkptWrite) : State :=
  let s := s.onPair (fun p => { p.putBank w.b (some { w.bank with committed := true }) with writing := none })
  (s.showBanks.wr Reg.MEM_CKPT_STAT_KIND w.bank.kind).wr Reg.MEM_CKPT_BYTES_BYTES w.bank.bytes

/-- A bank's 256-byte header (R371). -/
def bankHeader (b : Option Bank) : List Byte :=
  match b with
  | none => List.replicate 256 0
  | some x =>
    leBytes 4 0x54504B43 ++ leBytes 2 1 ++ leBytes 1 x.kind ++ leBytes 1 x.devnum ++ leBytes 4 x.seq ++ leBytes 2 x.flags ++ leBytes 2 x.forces ++
    leBytes 8 x.cut.n ++ leBytes 8 x.tMark ++ leBytes 8 x.cut.rMark ++ x.digest ++ leBytes 4 x.serial ++ leBytes 4 x.bytes ++ leBytes 4 x.hours ++
    leBytes 4 x.pcycles ++ List.replicate 32 0 ++ leBytes 4 (Config.bankCrc x).toNat ++ leBytes 4 (if x.committed then 0xFFFFFFFF - x.seq else 0) ++ List.replicate 128 0

/-! Restart (R378 to R380). -/

/-- The roles of all cells as at a cold start (R398). -/
def State.coldRoles (s : State) : State := { s with loops := [], axes := [], pgs := [], seqs := [], logics := [] }

/-- A loop as its 64 sealed bytes and the transfer bitmaps keep it, resuming with u_ref = U_PREV (R144, R145, R162); the trace memory is not sealed, so the rows hold free values, `use` and the loop's key telling them apart (log entry 25). -/
def restoredLoop (use key : Nat) (x : LoopState) : LoopState :=
  let word (i j : Nat) : Word := Config.sramWord use (key * 2 ^ 20 + i * 32 + j)
  let rows := ((List.range x.trace.rows.length).zip x.trace.rows).map (fun e => ((word e.1 31).toNat, (List.range e.2.2.length).map (word e.1)))
  { x with resume := true, able := x.able.map (fun e => (e.1, none)), swaps := [], modeReq := none, nodes := List.replicate 16 0
           trace := { x.trace with rows := rows, cmdTrig := false } }

/-- An axis without the requests that the checkpoint does not hold (R162). -/
def restoredAxis (x : AxisState) : AxisState := { x with able := [], stopReq := false, setPos := none, modeReq := none, fbIn := (0, false) }

/-- A generator without the requests that the checkpoint does not hold (R162). -/
def restoredPg (x : PgState) : PgState :=
  { x with arrived := [], tgtReq := none, latched := none, took := none, current := none, pend := none, limPend := none }

/-- A point's working state from the cut: UPDATE moves so that the outage counts toward no MAX_AGE; imports wait for their exporters (R126, R354, R380). -/
def restoredWork (import_ : Bool) (r n : Nat) (x : PointWork) : PointWork :=
  { x with updateN := r - 1 - (n - x.updateN), wrote := false, dropped := x.dropped || import_ }

/-- Role state of a sealed cut as a checkpoint keeps it. -/
def restoredRole (use : Nat) (x : RoleCut) : RoleCut :=
  { x with loops := x.loops.map (fun e => (e.1, restoredLoop use e.1 e.2)), axes := x.axes.map (fun e => (e.1, restoredAxis e.2)), pgs := x.pgs.map (fun e => (e.1, restoredPg e.2)) }

/-- Role state and points taken over from a cut. -/
def State.takeCut (s : State) (r : RoleCut) (entries : Tab PointEntry) (n : Nat) : State :=
  let s : State := { s with loops := r.loops, axes := r.axes, pgs := r.pgs, seqs := r.seqs, logics := r.logics, cut := r
                            pts := { s.pts with work := r.work, cut := entries, next := [], cutN := n } }
  s.wr Reg.GLB_PT_FORCE_COUNT s.forcedPoints.length

/-- A warm restart at mark r from the newer bank (R379, R380). -/
def State.warmApply (s : State) (i : Img) (x : SealedCut) : State :=
  let r := s.time.n
  let isImport (k : Nat) : Bool := match i.points.look k with | some d => decide (d.ownerKind = 4) | none => false
  let role := restoredRole s.fresh x.role
  let role : RoleCut := { role with work := role.work.map (fun e => (e.1, restoredWork (isImport e.1) r x.n e.2)) }
  let s := { s with fresh := s.fresh + 1 }.takeCut role x.entries (r - 1)
  let s := forL x.cells (fun e s =>
    if e.2.1 = 3 then (s.wr Reg.CEL_STATUS_STATE 3 [e.1]).wr Reg.CEL_STATUS_SAFE_CAUSE e.2.2 [e.1] else s) s
  let s := forL i.axes (fun e s => s.axisResume (e.1 / 32) (e.1 % 32) e.2 true) s
  let s := forL (i.pgs.filter (fun e => !i.axes.any (fun a => decide (a.1 / 32 = e.1 / 8) && decide (a.2.pg = e.1 % 8)))) (fun e s =>
    let g := s.pgSt (e.1 / 8) (e.1 % 8)
    if g.st = .idle then s else s.pgIdle (e.1 / 8) (e.1 % 8) g.xRef) s
  let s := forL i.recipes (fun e s => s.onSeq e.1 (fun q => { q with restart := true })) s
  let s := forL i.logics (fun e s => s.logicRestart e.1 x.sec) s
  (s.wr Reg.GLB_IMG_STATUS_WARM 1).count 0x163

end Sys2Proof.Machine
end

