-- ==== Sys2Proof/Machine/Image.lean ====
section
/-! DEFINITION. The image parser and the deadline certificate: header, directory and sections, signature, references, sealed state, and W_BASE and W_FAST of every cell (chapter 02, R38 to R58). -/

namespace Sys2Proof.Machine

/-- What the parser needs of the device beside the image (R39 to R52). -/
structure LoadEnv where
  lc : Nat
  stepping : Nat
  mgr : Bool
  /-- Image-signing key slots (R44). -/
  keys : List (List Byte)
  floor : Nat
  platform : List Byte
  /-- GiB of DDR5 on channels 0 and 1 (R442). -/
  gib0 : Nat
  gib1 : Nat
  paired : Bool
  /-- Digest of the active safety configuration (R51). -/
  safety : List Byte
  /-- Identity records that the Steward read, by expectation (R49, R50). -/
  reads : List (Nat × List Byte)

/-- Installed GiB of a DDR5 channel. -/
def LoadEnv.gib (e : LoadEnv) (ch : Nat) : Nat := if ch = 0 then e.gib0 else e.gib1

/-! The header (R39). -/

/-- IMAGE_LEN. -/
def imgLen (b : List Byte) : Nat := fieldLE b 0x008 4
/-- SIG_OFFSET. -/
def sigOff (b : List Byte) : Nat := fieldLE b 0x028 4

/-- The header checks in the order of the table: offset, size, reason, whether the field passes; CONSTELLATION_ID has no failing value at a load (R39; log entry 35). -/
def headerTable (e : LoadEnv) (b : List Byte) : List (Nat × Nat × Nat × Bool) :=
  let f (o n : Nat) : Nat := fieldLE b o n
  let role := f 0x00F 1
  [(0x000, 4, 0x0001, decide (f 0x000 4 = 0x4C435853)),
   (0x004, 2, 0x0001, decide (f 0x004 2 = 2)),
   (0x006, 2, 0x0001, decide (f 0x006 2 = 0x100)),
   (0x008, 4, 0x0002, decide (imgLen b % 64 = 0) && decide (imgLen b ≤ 67108864) && decide (imgLen b = sigOff b + 512)),
   (0x00C, 2, 0x0003, decide (f 0x00C 2 = 0x4830)),
   (0x00E, 1, 0x0003, decide (f 0x00E 1 ≤ e.stepping)),
   (0x00F, 1, 0x0004, decide (role = if e.mgr then 1 else 2)),
   (0x010, 1, 0x000B, if role = 1 then decide (f 0x010 1 = 0) else decide (1 ≤ f 0x010 1)),
   (0x011, 1, 0x0016, decide (f 0x011 1 ≤ 1)),
   (0x012, 1, 0x0006, decide (f 0x012 1 < 4) && !(e.keys.getD (f 0x012 1) []).isEmpty),
   (0x013, 1, 0x0001, decide (f 0x013 1 = 0)),
   (0x018, 8, 0x0001, decide (f 0x018 8 < 2 ^ 48)),
   (0x020, 2, 0x0008, decide (1 ≤ f 0x020 2) && decide (f 0x020 2 ≤ 1024)),
   (0x022, 2, 0x0001, decide (f 0x022 2 = 0)),
   (0x024, 4, 0x0008, decide (f 0x024 4 = 0x100)),
   (0x028, 4, 0x0002, decide (sigOff b % 64 = 0) && decide (sigOff b + 512 = imgLen b)),
   (0x02C, 4, 0x000B, decide (f 0x02C 4 ≤ 600000)),
   (0x058, 168, 0x0001, zeros b 0x058 168)]

/-- The first header field that fails (R39, R58). -/
def headerFault (e : LoadEnv) (b : List Byte) : Option RejRecord :=
  match (headerTable e b).find? (fun x => !x.2.2.2) with
  | some x => some { reason := x.2.2.1, offset := x.1, d0 := if x.2.1 ≤ 4 then fieldLE b x.1 x.2.1 else 0 }
  | none => none

/-- The image digest: SHA-256 over bytes 0 to SIG_OFFSET − 1 (R43). -/
def imageDigest (b : List Byte) : List Byte := sha256 (b.take (sigOff b))

/-- The signature block verifies with the key of KEY_SLOT and its last 128 bytes are 0 (R42, R44). -/
def signatureOk (e : LoadEnv) (b : List Byte) : Bool :=
  decide (imgLen b ≤ b.length) && zeros b (sigOff b + 384) 128 && pssVerify (e.keys.getD (fieldLE b 0x012 1) []) (slice b (sigOff b) 384) (imageDigest b)

/-! The directory (R40, R41). -/

/-- Where a section type is placed: device-wide, or per cell with the role it needs if any; none for a type the parser does not know (R41). -/
def placement (t : Nat) : Option (Option (Option Nat)) :=
  if t ∈ [0x0001, 0x0003, 0x0040, 0x0050, 0x0060, 0x0070, 0x0071, 0x0072, 0x0080, 0x0090, 0x00A0] then some none
  else if t = 0x0002 then some (some none)
  else if t ∈ [0x0010, 0x0011, 0x0012] then some (some (some roleLoop))
  else if t = 0x0020 then some (some (some roleLogic))
  else if t = 0x0030 then some (some (some roleSeq))
  else none

/-- A directory entry read from its 32 bytes; its type without bit 15. -/
def dirEntryOf (r : List Byte) : DirEntry :=
  { type := fieldLE r 0 2 % 0x8000, optional := bitOf (fieldLE r 0 2) 15, cell := fieldLE r 2 1, offset := fieldLE r 4 4, length := fieldLE r 8 4
    items := fieldLE r 12 4, digest := slice r 16 16 }

/-- The role codes of a role map's records, where the section is in form (R41). -/
def roleMapOf (items : Nat) (b : List Byte) : Option (List Nat) :=
  let rs := recordsOf b 4 64
  if items = 64 ∧ b.length = 256 ∧ rs.all (fun r => decide (fieldLE r 0 4 < 4)) then some (rs.map (fun r => fieldLE r 0 1)) else none

/-- The faults of one directory entry: reasons, and the values found (R40, R41, R58). -/
def entryFaults (b : List Byte) (role : Nat) (roles : Option (List Nat)) (all : List (Nat × DirEntry × Nat)) (k : Nat) (e : DirEntry) (flags : Nat) : List (Nat × Nat) :=
  let dirEnd := 0x100 + 32 * all.length
  let inside := decide (dirEnd ≤ e.offset) && decide (e.offset + e.length ≤ sigOff b)
  let clash := all.any (fun o => decide (o.1 ≠ k) && decide (0 < e.length) && decide (0 < o.2.1.length) && overlap e.offset e.length o.2.1.offset o.2.1.length)
  let twice := all.any (fun o => decide (o.1 < k) && decide (o.2.1.type = e.type) && decide (o.2.1.cell = e.cell))
  let found := (sha256 (slice b e.offset e.length)).take 16
  (if e.offset % 64 ≠ 0 ∨ clash then [(0x0008, e.offset)]
   else if !inside then [(0x0008, e.length)]
   else if flags ≠ 0 then [(0x0008, flags)]
   else if 64 ≤ e.cell ∧ e.cell ≠ 0xFF then [(0x0008, e.cell)]
   else if twice then [(0x0008, e.type)] else []) ++
  (if found = e.digest then [] else [(0x0008, fieldLE found 0 4)]) ++
  (match placement e.type with
   | none => if e.optional then [] else [(0x0009, e.type)]
   | some none => if e.cell < 64 then [(0x0008, e.cell)] else if e.type = 0x0090 ∧ role ≠ 1 then [(0x000A, role)] else []
   | some (some r) =>
     if e.cell = 0xFF then [(0x0008, e.cell)]
     else match r, roles with
       | some r, some l => if l.getD e.cell 0 = r then [] else [(0x000A, l.getD e.cell 0)]
       | _, _ => [])

/-- The value found in a role map out of form: ITEMS, LENGTH or the first wrong record (R41, R58). -/
def roleMapFound (items : Nat) (b : List Byte) : Nat :=
  if items ≠ 64 then items
  else if b.length ≠ 256 then b.length
  else match (recordsOf b 4 64).find? (fun r => !decide (fieldLE r 0 4 < 4)) with
    | some r => fieldLE r 0 4
    | none => 0

/-- A section whose directory entry passed: its index, entry and bytes. -/
structure Sec where
  idx : Nat
  e : DirEntry
  bytes : List Byte

/-- Faults found in a section, as rejection records. -/
def Sec.rej (x : Sec) (l : List Rej) : List RejRecord :=
  l.map (fun r => { reason := r.reason, section_ := x.idx, cell := if x.e.cell < 64 then x.e.cell else 0xFF, obj := r.obj, offset := x.e.offset, d0 := r.d0, d1 := r.d1 })

/-- Faults of a device-wide section that an optional parser result carries. -/
def optRej (x : Option Sec) (l : List Rej) : List RejRecord := match x with | some s => s.rej l | none => []

/-- Tables joined by key. -/
def joinTab {α : Type} (a b : Tab α) : Tab α := b.foldl (fun t e => t.put e.1 e.2) a

/-- What the parser makes of an image. -/
structure Parsed where
  img : Img := {}
  recs : List RejRecord := []
  /-- Mismatched identity expectations (R50). -/
  mis : List Nat := []
  /-- A section was refused: its records were not checked. -/
  partly : Bool := false

/-- Per-cell sections of a type. -/
def cellSecs (l : List Sec) (t : Nat) : List Sec := l.filter (fun x => decide (x.e.type = t))
/-- The device-wide section of a type. -/
def devSec (l : List Sec) (t : Nat) : Option Sec := l.find? (fun x => decide (x.e.type = t))

/-- The sections of an image, parsed each in its own form; a safety reference that is not one item of 32 bytes is refused with reason 0x0008, which is the model's choice (R41, R51; log entry 35). -/
def parseSecs (e : LoadEnv) (l : List Sec) (base : Img) : Img × List RejRecord :=
  let dev := base.devnum
  let pts := (cellSecs l 0x0002).map (fun x => (x, parsePoints x.bytes x.e.items x.e.cell dev))
  let lps := (cellSecs l 0x0010).map (fun x => (x, parseLoops x.bytes x.e.items x.e.cell dev))
  let axs := (cellSecs l 0x0011).map (fun x => (x, parseAxes x.bytes x.e.items x.e.cell dev))
  let tbs := (cellSecs l 0x0012).map (fun x => (x, parseTables x.bytes x.e.items x.e.cell))
  let lgs := (cellSecs l 0x0020).map (fun x => (x, parseLogic x.bytes x.e.cell))
  let rcs := (cellSecs l 0x0030).map (fun x => (x, parseRecipes x.bytes x.e.cell))
  let pol := (devSec l 0x0040).map (fun x => (x, parsePolicies x.bytes x.e.items))
  let acq := (devSec l 0x0050).map (fun x => (x, parseAcq x.bytes x.e.items))
  let cnv := (devSec l 0x0060).map (fun x => (x, parseConv x.bytes x.e.items))
  let can := (devSec l 0x0070).map (fun x => (x, parseCan x.bytes x.e.items))
  let eth := (devSec l 0x0071).map (fun x => (x, parseEth x.bytes x.e.items e.platform))
  let top := (devSec l 0x0072).map (fun x => (x, parseStations x.bytes x.e.items e.platform))
  let idn := (devSec l 0x0080).map (fun x => (x, parseIdents x.bytes x.e.items))
  let rts := (devSec l 0x0003).map (fun x => (x, parseRoutes x.bytes x.e.items))
  let mem := (devSec l 0x0090).map (fun x => (x, parseMembers x.bytes x.e.items))
  let saf := devSec l 0x00A0
  let i : Img := { base with
    points := pts.foldl (fun t x => joinTab t x.2.1) [], loops := lps.foldl (fun t x => joinTab t x.2.1) []
    axes := axs.foldl (fun t x => joinTab t x.2.1) [], pgs := axs.foldl (fun t x => joinTab t x.2.2.1) []
    tables := tbs.foldl (fun t x => joinTab t x.2.1) [], logics := lgs.foldl (fun t x => t.put x.1.e.cell x.2.1) []
    recipes := rcs.foldl (fun t x => t.put x.1.e.cell x.2.1) [], policies := pol.map (·.2.1), acq := acq.map (·.2.1), conv := cnv.map (·.2.1)
    can := can.map (·.2.1), eth := eth.map (·.2.1), topology := top.map (·.2.1), idents := (idn.map (·.2.1)).getD []
    imports := (rts.map (·.2.1)).getD [], members := mem.map (·.2.1), safetyRef := saf.map (·.bytes) }
  (i,
   (pts.map (fun x => x.1.rej x.2.2)).flatten ++ (lps.map (fun x => x.1.rej x.2.2)).flatten ++ (axs.map (fun x => x.1.rej x.2.2.2)).flatten ++
   (tbs.map (fun x => x.1.rej x.2.2)).flatten ++ (lgs.map (fun x => x.1.rej x.2.2)).flatten ++ (rcs.map (fun x => x.1.rej x.2.2)).flatten ++
   (pol.map (fun x => x.1.rej x.2.2)).getD [] ++ (acq.map (fun x => x.1.rej x.2.2)).getD [] ++ (cnv.map (fun x => x.1.rej x.2.2)).getD [] ++
   (can.map (fun x => x.1.rej x.2.2)).getD [] ++ (eth.map (fun x => x.1.rej x.2.2)).getD [] ++ (top.map (fun x => x.1.rej x.2.2)).getD [] ++
   (idn.map (fun x => x.1.rej x.2.2)).getD [] ++ (rts.map (fun x => x.1.rej x.2.2)).getD [] ++ (mem.map (fun x => x.1.rej x.2.2)).getD [] ++
   (match saf with
    | some x => x.rej (need (decide (x.bytes.length = 32) && decide (x.e.items = 1)) 0x0008 ++ need (decide (x.bytes = e.safety)) 0x0011)
    | none => []))

/-- A point is bound to a DAC channel or to a station signal of a fast frame (R162). -/
def fastBound (i : Img) (id : Nat) : Bool :=
  (match i.conv with | some c => c.dacs.any (fun d => decide (d.rate ≠ 0) && decide (d.srcPt = id)) | none => false) ||
  (match i.points.look (idLocal id), i.topology with
   | some d, some x => d.stationOut &&
       (match (x.stations.find? (fun (t : StationDef) => t.station = (staOf d).1)).bind (fun (t : StationDef) => t.modules.find? (fun (m : ModuleDef) => m.module = (staOf d).2.1)) with
        | some m => m.fast
        | none => false)
   | _, _ => false)

/-- The slots and the trace memory of each cell: 256 slots, an axis taking 8, and 262,144 bytes (R132, R153, R161). -/
def cellLimits (i : Img) : List RejRecord :=
  ((List.range 64).map (fun c =>
    let ls := (i.loops.filter (fun x => decide (x.1 / 256 = c))).map (·.2)
    let slots := ls.length + 8 * (i.axes.filter (fun x => decide (x.1 / 32 = c))).length
    let bytes := (ls.map traceBytes).sum
    (if 256 < slots then [({ reason := 0x000B, cell := c, d0 := slots, d1 := 256 } : RejRecord)] else []) ++
    (if 262144 < bytes then [({ reason := 0x000B, cell := c, d0 := bytes, d1 := 262144 } : RejRecord)] else []))).flatten

/-- The checks across sections: references, bindings and limits of the whole device (R25, R30, R49). -/
def crossChecks (e : LoadEnv) (l : List Sec) (i : Img) : List RejRecord :=
  let dev := i.devnum
  let per (t : Nat) (f : Nat → List Rej) : List RejRecord := ((cellSecs l t).map (fun x => x.rej (f x.e.cell))).flatten
  let loopsOf (c : Nat) := (i.loops.filter (fun x => decide (x.1 / 256 = c))).map (·.2)
  let axesOf (c : Nat) := (i.axes.filter (fun x => decide (x.1 / 32 = c))).map (·.2)
  let pgsOf (c : Nat) := (i.pgs.filter (fun x => decide (x.1 / 8 = c))).map (·.2)
  per 0x0002 (fun c => ((i.points.filter (fun x => decide (x.1 / 2048 = c))).map (fun x =>
    let obj := dev * 131072 + x.1
    chanChecks i.conv x.2 obj ++ staPointChecks i.topology x.2 obj ++ canPointChecks i.can x.2 obj ++
    (if x.2.ownerKind = 6 then mirrorChecks (x.2.owner % 65536) x.2.format x.2.enumCount obj else []))).flatten) ++
  per 0x0010 (fun c => ((loopsOf c).map (loopLinks i.points i.tables dev c)).flatten ++ sharedOutputs dev c (loopsOf c)) ++
  per 0x0011 (fun c => ((axesOf c).map (axisLinks i.points i.tables (fastBound i) (fun _ => true) dev c)).flatten ++
    ((pgsOf c).map (pgLinks i.points (axesOf c) dev c)).flatten ++ axisPgs dev c (axesOf c) (pgsOf c)) ++
  per 0x0020 (fun c => match i.logics.look c with | some x => logicLinks i.points dev c x | none => []) ++
  per 0x0030 (fun c => match i.recipes.look c with | some x => recipeLinks i.points i.pgs i.roles dev c x | none => []) ++
  optRej (devSec l 0x0040) (match i.policies with | some x => policyLinks i.points dev x ++ ringChecks e.gib e.paired x | none => []) ++
  optRej (devSec l 0x0050) (match devSec l 0x0050, i.acq with
    | some s, some x => acqLinks s.bytes i.points i.conv i.policies dev e.gib e.paired x
    | _, _ => []) ++
  optRej (devSec l 0x0060) (match i.conv with | some x => convLinks i.points i.axes dev x | none => []) ++
  optRej (devSec l 0x0070) (match i.can with | some x => canLinks i.points dev x | none => []) ++
  optRej (devSec l 0x0003) (routeLinks i.points dev i.imports) ++
  (fastFbChecks i.topology i.points i.axes).map (fun r => { reason := r.reason, cell := r.obj }) ++
  cellLimits i ++
  (if 128 < i.axes.length then [{ reason := 0x000B, d0 := i.axes.length, d1 := 128 }] else [])

/-- Sealed state of the cells and of the device (R52, R368). -/
def sealedChecks (i : Img) (partly : Bool) : List RejRecord :=
  let s := (List.range 64).map (fun c => (c, sealedBytes i c))
  let total : Nat := s.foldl (fun a x => a + x.2) 0
  ((s.filter (fun x => decide (131072 < x.2))).map (fun x => { reason := 0x000E, cell := x.1, d0 := x.2, d1 := 131072 })) ++
  (if 3145728 < total ∨ (total ≠ i.sealedBytes ∧ !partly) then [{ reason := 0x000E, offset := 0x030, d0 := total, d1 := i.sealedBytes }] else [])

/-- The identity expectations that no module meets (R50). -/
def identMisses (e : LoadEnv) (i : Img) : List Nat :=
  (((List.range i.idents.length).zip i.idents).filter (fun x =>
    !identMatches x.2 (match e.reads.find? (fun r => r.1 = x.1) with | some r => r.2 | none => []))).map (·.1)

/-- What the parser found of a module that an expectation names: vendor code, and module type in the upper half; 0 for none (R50, R58). -/
def identFound (e : LoadEnv) (k : Nat) : Nat :=
  match e.reads.find? (fun r => r.1 = k) with
  | some r => if identValid r.2 then fieldLE r.2 6 2 + 65536 * fieldLE r.2 8 2 else 0
  | none => 0

/-- All checks of an image but the certificate, in the order of R39, R45 and R58: at most 64 records. -/
def parseImg (e : LoadEnv) (b : List Byte) (poisoned : Bool) : Parsed :=
  if e.lc = 0 ∨ e.lc = 4 then { recs := [{ reason := 0x0012, d0 := e.lc }] }
  else match headerFault e b with
    | some r => { recs := [r] }
    | none =>
      let b := b.take (imgLen b)
      let base : Img :=
        { role := fieldLE b 0x00F 1, devnum := fieldLE b 0x010 1, compat := decide (fieldLE b 0x011 1 = 1), serial := fieldLE b 0x014 4
          spliceTimeout := fieldLE b 0x02C 4, sealedBytes := fieldLE b 0x030 4, constellation := fieldLE b 0x034 4, digest := imageDigest b }
      if !signatureOk e b then { img := base, recs := [{ reason := 0x0005, offset := sigOff b }] }
      else
        let n := fieldLE b 0x020 2
        let raw := recordsOf (b.drop 0x100) 32 n
        let ents := (List.range n).zip (raw.map (fun r => (dirEntryOf r, fieldLE r 3 1)))
        let all := ents.map (fun x => (x.1, x.2.1, x.2.2))
        let map := all.find? (fun x => decide (x.2.1.type = 0x0001) && decide (x.2.1.cell = 0xFF))
        let roles := match map with | some x => roleMapOf x.2.1.items (slice b x.2.1.offset x.2.1.length) | none => none
        let dirBad := (all.map (fun x => (entryFaults b base.role roles all x.1 x.2.1 x.2.2).map (fun (r : Nat × Nat) =>
          ({ reason := r.1, section_ := x.1, cell := if x.2.1.cell < 64 then x.2.1.cell else 0xFF, offset := x.2.1.offset, d0 := r.2 } : RejRecord)))).flatten
        let refused := dirBad.map (·.section_)
        let secs : List Sec := (all.filter (fun x => !(decide (x.1 ∈ refused)) && (placement x.2.1.type).isSome)).map (fun x =>
          { idx := x.1, e := x.2.1, bytes := slice b x.2.1.offset x.2.1.length })
        let mapBad : List RejRecord := match map with
          | none => [{ reason := 0x0009 }]
          | some x => if roles.isNone then [{ reason := 0x000B, section_ := x.1, offset := x.2.1.offset, d0 := roleMapFound x.2.1.items (slice b x.2.1.offset x.2.1.length), d1 := 64 }] else []
        let p := parseSecs e secs { base with dir := all.map (fun x => x.2.1), roles := roles.getD (List.replicate 64 0) }
        let i := p.1
        let mis := identMisses e i
        let partly := !refused.isEmpty
        let recs : List RejRecord :=
          (if base.serial < e.floor then [{ reason := 0x0007, offset := 0x014, d0 := base.serial, d1 := e.floor }] else []) ++
          (if poisoned then [{ reason := 0x0008 }] else []) ++ dirBad ++ mapBad ++ p.2 ++ crossChecks e secs i ++ sealedChecks i partly ++
          ((mis.filter (fun k => decide ((i.idents[k]?).map (·.policy) = some 0))).map (fun k => { reason := 0x000D, obj := k, d0 := identFound e k }))
        { img := i, recs := recs.take 64, mis := mis, partly := partly }

/-! The deadline certificate (R53 to R55, R514). -/

/-- Points that a loop reads (R141, R175, R178). -/
def LoopDef.reads (d : LoopDef) : List Nat :=
  [d.pv, d.sp, d.mode, d.man, d.cas] ++ (if d.ffEn then [d.ff] else []) ++ (if d.fricEn || d.cogEn then [d.pos] else []) ++
  (if d.fricEn then [d.vref] else []) ++ (if d.trigEn then [d.trig] else [])

/-- Points that an axis reads (R164, R165, R179, R180). -/
def AxisDef.reads (d : AxisDef) : List Nat := [d.modePt, d.jog, d.trq, d.drv] ++ (if d.fbPt then [d.fb] else [])

/-- Each element once. -/
def nubNat : List Nat → List Nat
  | [] => []
  | a :: t => if a ∈ t then nubNat t else a :: nubNat t

/-- The points that the loops, axes and tasks of a home cell read, each once; R54 does not name generators, and their TGT_PT is not charged (R54; log entry 35). -/
def cellReads (i : Img) (h : Nat) : List Nat :=
  let l := ((i.loops.filter (fun e => decide (e.1 / 256 = h))).map (fun e => e.2.reads)).flatten
  let a := ((i.axes.filter (fun e => decide (e.1 / 32 = h))).map (fun e => e.2.reads)).flatten
  let t := match i.logics.look h with | some x => (x.images.filter (fun r => decide (r.dir = 0))).map (·.point) | none => []
  (nubNat (l ++ a ++ t)).filter (fun p => decide (p ≠ NONE))

/-- The charge of reading a point from a cell x: 0 for its own, else 2h + 7, with h counted to the cell that holds it or to the edge block that delivers it; `phys` gives the place of a cell in the mesh (R22, R54, R520). -/
def readSteps (i : Img) (phys : List Nat) (x id : Nat) : Nat :=
  let c := idLocal id / 2048
  let at_ (k : Nat) : Nat := phys.getD k k
  let west := at_ x % 8 + 1
  let south := 7 - at_ x / 8 + 1
  let kind := match i.points.look (idLocal id) with | some d => if d.stationOut then 0 else d.ownerKind | none => 0
  if kind = 1 then 2 * south + 7
  else if kind = 4 then 2 * west + 7
  else if c ≠ x then 2 * hops (at_ x) (at_ c) + 7
  else if kind = 2 ∨ kind = 3 then 2 * west + 7
  else if kind = 6 then 2 * south + 7
  else 0

/-- The charge of reaching a cell from a cell x: 0 for itself, else 2h + 7 between their places (R22, R208). -/
def reachSteps (phys : List Nat) (x c : Nat) : Nat := if c = x then 0 else 2 * hops (phys.getD x x) (phys.getD c c) + 7

/-- The feedback of an axis is an SSI encoder (R183). -/
def ssiAxis (i : Img) (d : AxisDef) : Bool :=
  match i.conv with | some c => c.encs.any (fun e => decide (e.ch = d.encCh) && decide (e.mode = 2)) | none => false

/-- W_FAST of the axes of a home cell (R183). -/
def fastCharge (i : Img) (h : Nat) : Nat :=
  (i.axes.filter (fun e => decide (e.1 / 32 = h))).foldl (fun a e => a + axisCharge i.tables h (ssiAxis i e.2) e.2) 0

/-- The work items of a home cell executed at x: period, phase and charge (R30, R55). -/
def cellItems (i : Img) (phys : List Nat) (x h : Nat) : List (Nat × Nat × Nat) :=
  ((i.loops.filter (fun e => decide (e.1 / 256 = h))).map (fun e => (e.2.divisor, e.2.phase, loopCharge i.tables h e.2))) ++
  [(1, 0, 8 * fastCharge i h)] ++
  ((i.pgs.filter (fun e => decide (e.1 / 8 = h))).map (fun e => (1, 0, pgCharge e.2))) ++
  (match i.recipes.look h with | some r => [(1, 0, seqCharge (readSteps i phys x) (reachSteps phys x) r)] | none => []) ++
  (match i.logics.look h with | some q => q.tasks.map (fun t => (t.period, t.phase, taskCharge q t)) | none => [])

/-- The charge of the items due at a residue (R55). -/
def residueCharge (l : List (Nat × Nat × Nat)) (r : Nat) : Nat :=
  l.foldl (fun a e => if r % e.1 = e.2.1 then a + e.2.2 else a) 0

/-- The worst residue, exact while H is at most 4,096 (R55). -/
def worstResidue (l : List (Nat × Nat × Nat)) : Nat :=
  let h : Nat := l.foldl (fun a e => Nat.lcm a e.1) 1
  if 4096 < h then l.foldl (fun a e => a + e.2.2) 0
  else (List.range h).foldl (fun a r => max a (residueCharge l r)) 0

/-- Homes whose role work a cell executes, under a map of the homes executed elsewhere (R515). -/
def homesOf (map : Tab Nat) (c : Nat) : List Nat := (List.range 64).filter (fun h => decide (map.at' h h = c))

/-- The sealed state of a cell under a map: its own points, and the role state it executes (R514, R515). -/
def sealedAt (i : Img) (map : Tab Nat) (c : Nat) : Nat :=
  pointBytes i c + (homesOf map c).foldl (fun a h => a + roleBytes i h) 0

/-- W_BASE and W_FAST of a cell (R54, R55, R514). -/
def certOf (i : Img) (map : Tab Nat) (phys : List Nat) (c : Nat) : Nat × Nat :=
  let hs := homesOf map c
  let fixed := 160 + 64 + ceilDiv (sealedAt i map c) 8
  let reads := (nubNat ((hs.map (cellReads i)).flatten)).foldl (fun a id => a + readSteps i phys c id) 0
  let far := (hs.filter (fun h => decide (h ≠ c))).foldl (fun a h =>
    a + ((i.points.filter (fun e => decide (e.1 / 2048 = h) && decide (e.2.ownerKind = 0))).length * (2 * hops (phys.getD c c) (phys.getD h h) + 7))) 0
  (fixed + reads + far + worstResidue ((hs.map (cellItems i phys c)).flatten), hs.foldl (fun a h => a + fastCharge i h) 0)

/-- L(c) of a budget (R54). -/
def limitBase (b : Nat) : Nat := 85 * b / 100
/-- L_FAST(c) of a budget (R54). -/
def limitFast (b : Nat) : Nat := 85 * b / 800

/-- ⌈1,000 × W / B⌉, within the 16 bits of UTIL_PM (R64). -/
def utilPm (w b : Nat) : Nat := if b = 0 then 0xFFFF else min 0xFFFF (ceilDiv (1000 * w) b)

/-- A cell is admitted (R54). -/
def admitted (w : Nat × Nat) (b : Nat) : Bool := decide (w.1 ≤ limitBase b) && decide (w.2 ≤ limitFast b)

/-- The cells that a budget does not admit, those of the highest UTIL_PM first, ties to the lower number (R514). -/
def failingCells (w : List (Nat × Nat)) (bs : List Nat) : List Nat :=
  let bad := (List.range 64).filter (fun c => !admitted (w.getD c (0, 0)) (bs.getD c 0))
  let u (c : Nat) : Nat := utilPm (w.getD c (0, 0)).1 (bs.getD c 0)
  bad.foldl (fun l c => (l.takeWhile (fun x => decide (u c ≤ u x))) ++ [c] ++ (l.dropWhile (fun x => decide (u c ≤ u x)))) []

/-- The admitted SPARE candidate of the least UTIL_PM for the work of a home cell (R514). -/
def candidate (i : Img) (map : Tab Nat) (phys bs lost : List Nat) (h : Nat) : Option Nat :=
  let free := (List.range 64).filter (fun x => decide (i.roles.getD x 0 = 0) && (homesOf map x).all (fun k => decide (k = x)) && !(decide (x ∈ lost)) && decide (x ≠ h))
  let l := free.filterMap (fun x =>
    let w := certOf i (map.put h x) phys x
    if admitted w (bs.getD x 0) then some (utilPm w.1 (bs.getD x 0), x) else none)
  (l.foldl (fun (a : Option (Nat × Nat)) e => match a with | none => some e | some b => if e.1 < b.1 then some e else a) none).map (·.2)

/-- Migrations for failing cells, each taking its candidate before the next is chosen: the new map, the homes moved, and whether some failing cell could not move (R514). -/
def planMoves (i : Img) (phys bs lost : List Nat) : List Nat → Tab Nat → List (Nat × Nat) → Bool → Tab Nat × List (Nat × Nat) × Bool
  | [], map, moved, stuck => (map, moved, stuck)
  | c :: t, map, moved, stuck =>
    match (homesOf map c).find? (fun h => decide (i.roles.getD h 0 ≠ 0)) with
    | none => planMoves i phys bs lost t map moved true
    | some h =>
      match candidate i map phys bs lost h with
      | some x => planMoves i phys bs lost t (map.put h x) (moved ++ [(h, x)]) stuck
      | none => planMoves i phys bs lost t map moved true

/-- The certificate of all cells under a map. -/
def certAll (i : Img) (map : Tab Nat) (phys : List Nat) : List (Nat × Nat) := (List.range 64).map (certOf i map phys)

/-- The rejections of a certificate, with the steps found and the limit (R54, R58); `extra` is charged to the first cycle (R59). -/
def certFaults (w : List (Nat × Nat)) (bs : List Nat) (extra : Nat → Nat) : List RejRecord :=
  ((List.range 64).map (fun c =>
    let x := w.getD c (0, 0)
    let b := bs.getD c 0
    (if limitBase b < x.1 + extra c then [({ reason := 0x000F, cell := c, d0 := x.1 + extra c, d1 := limitBase b } : RejRecord)] else []) ++
    (if limitFast b < x.2 then [({ reason := 0x0010, cell := c, d0 := x.2, d1 := limitFast b } : RejRecord)] else []))).flatten

/-! What the device keeps of loads and splices. -/

/-- The state with the image state changed. -/
def State.onImg (s : State) (f : ImageState → ImageState) : State := { s with img := f s.img }

/-- GLB_IMG_STATUS.LOAD_STATE; a check has no effect on it, and a refusal while an image runs leaves 2 (R64, R65; log entry 36). -/
def State.loadState (s : State) : Nat :=
  let x := s.img
  if x.jobs.any (fun j => decide (j.kind ≠ .check)) || x.due.isSome then 1
  else match x.splice with
    | some p => match p.commit with | none => 4 | some c => if c.deferred then 6 else 5
    | none => if x.run.isSome then 2 else if x.refused then 3 else 0

/-- LOAD_STATE shown. -/
def State.showLoad (s : State) : State := s.wr Reg.GLB_IMG_STATUS_LOAD_STATE s.loadState

/-- The prepared splice is discarded; a commit ends with a status (R63). -/
def State.endSplice (s : State) (st : Status) : State :=
  match s.img.splice with
  | none => s
  | some p =>
    let s := (s.onImg (fun x => { x with splice := none })).showLoad
    match p.commit with
    | some c => match c.ref with | some r => s.complete r st | none => s
    | none => s

/-- A migration or swap-in discards the prepared splice; with none committed, the next commit completes ABORTED (R63). -/
def State.loseSplice (s : State) : State :=
  match s.img.splice with
  | none => s
  | some p => (s.endSplice .aborted).onImg (fun x => { x with spliceLost := p.commit.isNone })

/-- The certificate area of a slot (R46). -/
def ImageState.area (x : ImageState) (slot : Bool) : CertArea := if slot then x.areaB else x.areaA
/-- The image bytes of a slot. -/
def ImageState.slotBytes (x : ImageState) (slot : Bool) : List Byte := if slot then x.slotB else x.slotA
/-- The image state with the certificate area of a slot replaced. -/
def ImageState.putArea (x : ImageState) (slot : Bool) (a : CertArea) : ImageState := if slot then { x with areaB := a } else { x with areaA := a }

end Sys2Proof.Machine
end

