-- ==== Sys2Proof/Machine/Field.lean ====
section
/-! DEFINITION. Ethernet ports, the station protocol and admission, CAN buses and identity memories (R314 to R345, R108, R236 to R238). -/

namespace Sys2Proof.Machine

/-- The state with the field buses changed. -/
def State.onField (s : State) (f : FieldState → FieldState) : State := { s with field := f s.field }

/-! The layout of a frame (R105, R314). -/

/-- A big-endian field of a frame. -/
def fieldBE (b : List Byte) (off n : Nat) : Nat := beNat (slice b off n)

/-- A frame's Ethertype and what follows it; one IEEE 802.1Q tag is passed over (R314). -/
def etherOf (b : List Byte) : Nat × List Byte :=
  if fieldBE b 12 2 = 0x8100 then (fieldBE b 16 2, b.drop 18) else (fieldBE b 12 2, b.drop 14)

/-- UDP over IPv4, unfragmented: source address, destination address, source port, destination port, data. -/
def udp4Of (t : Nat) (p : List Byte) : Option (Nat × Nat × Nat × Nat × List Byte) :=
  let h := 4 * (fieldLE p 0 1 % 16)
  if t = 0x0800 ∧ fieldLE p 0 1 / 16 = 4 ∧ 20 ≤ h ∧ fieldLE p 9 1 = 17 ∧ fieldBE p 6 2 % 16384 = 0 then
    let u := p.drop h
    if 8 ≤ fieldBE u 4 2 then some (fieldBE p 12 4, fieldBE p 16 4, fieldBE u 0 2, fieldBE u 2 2, (u.take (fieldBE u 4 2)).drop 8) else none
  else none

/-- Where the PTP message of a frame begins in what follows its Ethertype, over Layer 2 or over UDP ports 319 and 320 on IPv4 or IPv6 (R105). -/
def ptpAt (t : Nat) (p : List Byte) : Option Nat :=
  if t = 0x88F7 then some 0
  else match udp4Of t p with
    | some (_, _, _, d, _) => if d = 319 ∨ d = 320 then some (4 * (fieldLE p 0 1 % 16) + 8) else none
    | none => if t = 0x86DD ∧ fieldLE p 6 1 = 17 ∧ (fieldBE p 42 2 = 319 ∨ fieldBE p 42 2 = 320) then some 48 else none

/-- The PTP message of a frame (R105). -/
def ptpOf (t : Nat) (p : List Byte) : Option (List Byte) := (ptpAt t p).map (fun o => p.drop o)

/-! Sending on Ethernet (R314, R317, R318). -/

/-- The MAC address of a port, in transmission order (R318). -/
def portMac (platform : List Byte) (p : Nat) : List Byte :=
  (slice platform 0x200 5) ++ [BitVec.ofNat 8 (macLast platform p)]

/-- A frame leaves on a port, and on both ports of its PRP node with one sequence number (R317). -/
def State.tx (s : State) (port : Nat) (kind : TxKind) (data : List Byte) : State :=
  let k := port / 2
  if prpPair s.sec.platform k then
    let n := s.field.prpSeq.at' k 0
    s.onField (fun f => { f with
      prpSeq := f.prpSeq.put k ((n + 1) % 65536)
      sent := { port := 2 * k + 1, kind := kind, prpSeq := some n, data := data } :: { port := 2 * k, kind := kind, prpSeq := some n, data := data } :: f.sent })
  else s.onField (fun f => { f with sent := { port := port, kind := kind, prpSeq := none, data := data } :: f.sent })

/-- The key of a next-hop entry. -/
def hopKey (port ip : Nat) : Nat := port * 2 ^ 32 + ip

/-- A next hop is usable: answered, and not left unanswered for 3 s at a refresh (R318). -/
def HopEntry.usable (e : HopEntry) (run : Nat) : Bool :=
  e.resolved && (match e.asked with | some t => decide (run ≤ t + 3000000000) | none => true)

/-- An ARP request for a next hop; an unanswered one keeps its time (R318). -/
def State.arpAsk (s : State) (port ip : Nat) : State :=
  let s := s.onField (fun f => { f with hops := f.hops.upd (hopKey port ip) {} (fun e => { e with asked := match e.asked with | some t => some t | none => some s.runNs }) })
  s.tx port .arpRequest (beBytes 4 ip)

/-- A datagram to an IPv4 address; without a resolved next hop it is not sent and is counted (R318). -/
def State.txIp (s : State) (port ip : Nat) (kind : TxKind) (data : List Byte) : State :=
  let p := netPort s.sec.platform port
  match nextHop s.sec.platform p ip with
  | none => s.count 0x31C
  | some h =>
    if (s.field.hops.at' (hopKey p h) {}).usable s.runNs then s.tx p kind data
    else (s.count 0x31C).arpAsk p h

/-- An ARP reply resolves a next hop (R318). -/
def State.arpReply (s : State) (port ip mac : Nat) : State :=
  let p := netPort s.sec.platform port
  match s.field.hops.look (hopKey p ip) with
  | some _ => s.onField (fun f => { f with hops := f.hops.put (hopKey p ip) { mac := mac, resolved := true, asked := none } })
  | none => s

/-! Stations: definitions, state and what the registers show (R320, R330, R343). -/

/-- The station section of the running image. -/
def State.staSec (s : State) : Option StationSec := match s.img.run with | some i => i.topology | none => none
/-- The stations of the running image. -/
def State.staDefs (s : State) : List StationDef := match s.staSec with | some x => x.stations | none => []
/-- A station's definition. -/
def State.staDef (s : State) (n : Nat) : Option StationDef := s.staDefs.find? (fun (d : StationDef) => d.station = n)
/-- A station's state. -/
def State.sta (s : State) (n : Nat) : StaState := s.field.stations.at' n {}

/-- State codes (R343). -/
def staCode : StaSt → Nat
  | .absent => 0 | .waiting => 1 | .resync => 2 | .online => 3 | .refused => 4

/-- A station is admitted: RESYNC or ONLINE. -/
def StaState.admitted (x : StaState) : Bool := decide (x.st = .resync) || decide (x.st = .online)

/-- The state with a station's state replaced, and its registers (R343). -/
def State.setSta (s : State) (n : Nat) (x : StaState) : State :=
  let s := if (s.sta n).st = x.st then s else s.cause 6
  let s := s.onField (fun f => { f with stations := f.stations.put n x })
  let s := ((s.wr Reg.ETH_STA_STAT_STATE (staCode x.st) [n]).wr Reg.ETH_STA_STAT_MISS (min x.miss 15) [n]).wrb Reg.ETH_STA_STAT_DEGRADED (x.admitted && !x.notDriven.isEmpty) [n]
  let l := s.field.stations
  (s.wr Reg.ETH_STA_SUM_ADMITTED (l.filter (fun e => e.2.admitted)).length).wr Reg.ETH_STA_SUM_WAITING (l.filter (fun e => decide (e.2.st = .waiting))).length

/-- The points bound to a station, with the module and the signal of each (R122, R320). -/
def State.staPoints (s : State) (n : Nat) : List (Nat × PointDef) :=
  match s.img.run with
  | some i => i.points.filter (fun e => decide (e.2.ownerKind = 2) && decide ((staOf e.2).1 = n))
  | none => []

/-- Sets ABSENT (R119, order 3) on points of a list. -/
def State.setAbsent (s : State) (l : List (Nat × PointDef)) (v : Bool) : State :=
  forL l (fun e s => s.onWork e.1 (fun w => { w with absent := v })) s

/-- The point bound to a signal of a module. -/
def sigPoint (l : List (Nat × PointDef)) (output : Bool) (m g : Nat) : Option Nat :=
  match l.find? (fun (e : Nat × PointDef) => decide (e.2.output = output) && decide ((staOf e.2).2 = (m, g))) with
  | some e => some e.1
  | none => none

/-! Station frames (R321 to R323). -/

/-- A station frame's fields. -/
structure StaFrame where
  typ : Nat
  flags : Nat
  seq : Nat
  stamp : Nat
  frag : Nat
  frags : Nat
  payload : List Byte
deriving DecidableEq, Repr

/-- A frame built from its fields (R321). -/
def staFrameBytes (station dev : Nat) (f : StaFrame) : List Byte :=
  let h := leBytes 2 0x5453 ++ leBytes 1 1 ++ leBytes 1 f.typ ++ leBytes 2 station ++ leBytes 1 dev ++ leBytes 1 f.flags ++ leBytes 4 f.seq ++
    leBytes 8 f.stamp ++ leBytes 1 f.frag ++ leBytes 1 f.frags ++ leBytes 2 f.payload.length ++ leBytes 4 0
  h ++ leBytes 4 (crc32c (h ++ f.payload)) ++ f.payload

/-- A received frame's fields (R321). -/
def staFrameOf (b : List Byte) : StaFrame :=
  { typ := fieldLE b 3 1, flags := fieldLE b 7 1, seq := fieldLE b 8 4, stamp := fieldLE b 12 8, frag := fieldLE b 0x14 1, frags := fieldLE b 0x15 1, payload := b.drop 32 }

/-- A received frame is well formed (R321). -/
def staFrameOk (dev : Nat) (b : List Byte) : Bool :=
  decide (32 ≤ b.length) && decide (fieldLE b 0 2 = 0x5453) && decide (fieldLE b 2 1 = 1) && decide (fieldLE b 6 1 = dev) &&
  decide (b.length = 32 + fieldLE b 0x16 2) && decide (fieldLE b 0x16 2 ≤ 1440) && decide (1 ≤ fieldLE b 0x15 1) && decide (fieldLE b 0x15 1 ≤ 16) &&
  decide (fieldLE b 0x14 1 < fieldLE b 0x15 1) && decide (fieldLE b 0x1C 4 = crc32c (b.take 28 ++ b.drop 32))

/-- A frame that the start-up filter drops (R316). -/
def State.filterDrop (s : State) (port : Nat) : State := (s.count 0x310).incHold Reg.ETH_DROP_COUNT [port]

/-- A station frame received on a port: filtered, checked, and handled (R316, R321). -/
def State.staRx (s : State) (port : Nat) (b : List Byte) (k : StationDef → StaFrame → State → State) : State :=
  if !s.field.filterEnded then s.filterDrop port
  else if s.img.run.isNone then s.count 0x311
  else match (if staFrameOk s.ownDev b then s.staDef (fieldLE b 4 2) else none) with
    | none => s.count 0x314
    | some d => k d (staFrameOf b) s

/-- What the sequence check says of a fragment (R323). -/
inductive SeqVerdict where
  | fresh | more | dup | old
deriving DecidableEq, Repr

/-- The sequence check of R323. -/
def SeqCheck.check (c : SeqCheck) (seq frag : Nat) : SeqCheck × SeqVerdict :=
  match c.last with
  | none => ({ last := some seq, frags := [frag] }, .fresh)
  | some l =>
    let d := signed 32 (twos 32 ((seq : Int) - (l : Int)))
    if 0 < d then ({ last := some seq, frags := [frag] }, .fresh)
    else if d = 0 then (if frag ∈ c.frags then (c, .dup) else ({ c with frags := frag :: c.frags }, .more))
    else (c, .old)

/-- A fragment that the check discards (R323). -/
def State.seqDiscard (s : State) (n : Nat) (v : SeqVerdict) : State :=
  if v = .dup then (s.count 0x312).wr Reg.ETH_STA_STAT_DUP 1 [n] else s.count 0x313

/-- A module block of a payload: module, STATUS, values (R322). -/
abbrev ModBlock := Nat × Nat × List Word

/-- The module blocks of a payload (R322); `n` bounds their number. -/
def modBlocks : Nat → List Byte → List ModBlock
  | 0, _ => []
  | _ + 1, [] => []
  | n + 1, b =>
    let c := fieldLE b 2 1
    (fieldLE b 0 1, fieldLE b 1 1, bytesWords c (b.drop 4)) :: modBlocks n (b.drop (4 + 4 * c))

/-- STATUS has PRESENT and not FAULT (R322). -/
def statusGood (x : Nat) : Bool := bitOf x 0 && !bitOf x 1

/-- One module's block of a base INPUT fragment is written into the cut as one unit (R236, R322, R324). -/
def State.staBlock (s : State) (d : StationDef) (stamp : Nat) (e : ModBlock) : State :=
  match d.modules.find? (fun (m : ModuleDef) => m.module = e.1) with
  | none => s
  | some m =>
    let x := s.sta d.station
    let s := s.setSta d.station { x with status := x.status.put m.module e.2.1 }
    let pts := (s.staPoints d.station).filter (fun p => decide ((staOf p.2).2.1 = m.module))
    if m.module ∈ x.notDriven then s
    else if statusGood e.2.1 then
      let s := s.setAbsent (pts.filter (fun p => !p.2.output || decide (x.st = .online))) false
      forL ((List.range m.ins).zip e.2.2) (fun (v : Nat × Word) s =>
        match sigPoint pts false m.module v.1 with
        | some idx => (s.ownerWrite idx v.2 stamp).onWork idx (fun w => { w with dropped := false })
        | none => s) s
    else s.setAbsent pts true

/-- A base INPUT fragment (R322 to R324, R327, R238); a frame of a station that is not admitted is dropped. -/
def State.staInput (s : State) (d : StationDef) (f : StaFrame) : State :=
  let x := s.sta d.station
  if !x.admitted then s
  else
    let c := x.base.check f.seq f.frag
    if c.2 = .dup ∨ c.2 = .old then s.seqDiscard d.station c.2
    else
      let first := if x.st = .resync ∧ x.firstIn = none then some s.time.n else x.firstIn
      let s := s.setSta d.station { x with base := c.1, fresh := x.fresh || decide (c.2 = .fresh), firstIn := first }
      forL (modBlocks 64 f.payload) (fun e s => s.staBlock d f.stamp e) s

/-- A fast INPUT frame is held for the next fast mark (R326). -/
def State.staFast (s : State) (d : StationDef) (f : StaFrame) : State :=
  let x := s.sta d.station
  if !x.admitted ∨ !d.fast then s
  else
    let c := x.fast.check f.seq f.frag
    if c.2 = .dup ∨ c.2 = .old then s.seqDiscard d.station c.2
    else
      let vals : Tab Word := forL (modBlocks 64 f.payload) (fun (e : ModBlock) (t : Tab Word) =>
        match d.modules.find? (fun (m : ModuleDef) => m.module = e.1 && m.fast) with
        | none => t
        | some m =>
          if m.module ∈ x.notDriven ∨ !statusGood e.2.1 then (List.range 64).foldl (fun t g => t.drop' (m.module * 64 + g)) t
          else ((List.range m.ins).zip e.2.2).foldl (fun t v => t.put (m.module * 64 + v.1) v.2) t) x.fastIn
      s.setSta d.station { x with fast := c.1, fastIn := vals, fastFresh := true }

/-- STATION_INPUT_FRAME: a base INPUT frame received on a port. -/
def execStationInputFrame (port : Fin 6) (data : List Byte) (s : State) : Out :=
  .next (s.staRx port.val data (fun d f s => if f.typ = 2 ∧ !bitOf f.flags 0 then s.staInput d f else s))

/-- STATION_FAST_INPUT: a fast INPUT frame received on a port. -/
def execStationFastInput (port : Fin 6) (data : List Byte) (s : State) : Out :=
  .next (s.staRx port.val data (fun d f s => if f.typ = 2 ∧ bitOf f.flags 0 then s.staFast d f else s))

/-! Admission (R328 to R330). -/

/-- The blocks of a request by module (R322). -/
def reqBlocks (b : List Byte) : Tab (List Byte) := (recordsOf b 36 (b.length / 36)).foldl (fun t r => t.put (fieldLE r 0 1) r) []

/-- A module's block does not match its record (R322, R339, R341). -/
def reqMismatch (blocks : Tab (List Byte)) (m : ModuleDef) : Bool :=
  match blocks.look m.module with
  | none => true
  | some r => !statusGood (fieldLE r 1 1) || decide (fieldLE r 4 4 ≠ 0x4E454449) || decide (fieldLE r 8 2 ≠ 1) ||
      decide (fieldLE r 10 2 ≠ m.vendor) || decide (fieldLE r 12 2 ≠ m.type)

/-- A complete request arrives (R328 to R330). -/
def State.staRequest (s : State) (d : StationDef) (req : List Byte) : State :=
  let x := s.sta d.station
  let x : StaState := { x with lastReq := req }
  let hold : StaState := { x with st := .waiting, request := req }
  match x.st with
  | .absent | .waiting => s.setSta d.station hold
  | .refused => if x.refused.map reqBlocks = some (reqBlocks req) then (s.count 0x311).setSta d.station x else s.setSta d.station hold
  | .resync | .online => (s.count 0x311).setSta d.station x

/-- A fragment of an ADMIT_REQ; the request is complete when all its fragments are there (R322). -/
def State.staAdmit (s : State) (d : StationDef) (f : StaFrame) : State :=
  let x := s.sta d.station
  let parts : Tab (List Byte) := (if x.parts.1 = f.seq then x.parts.2 else []).put f.frag f.payload
  if (List.range f.frags).all (fun i => (parts.look i).isSome) then
    (s.setSta d.station { x with parts := (0, []) }).staRequest d ((parts.map (·.2)).flatten)
  else s.setSta d.station { x with parts := (f.seq, parts) }

/-- ADMIT_REQ received on a port. -/
def execAdmitReq (port : Fin 6) (data : List Byte) (s : State) : Out :=
  .next (s.staRx port.val data (fun d f s => if f.typ = 3 then s.staAdmit d f else s))

/-- A LEAVE frame: the station is declared ABSENT at the next base mark (R327). -/
def State.staLeave (s : State) (d : StationDef) : State :=
  let x := s.sta d.station
  if x.admitted then s.setSta d.station { x with leaving := true } else s

/-- LEAVE received on a port. -/
def execLeave (port : Fin 6) (data : List Byte) (s : State) : Out :=
  .next (s.staRx port.val data (fun d f s => if f.typ = 5 then s.staLeave d else s))

/-- The GRANT's payload (R322). -/
def grantBytes (d : StationDef) (n : Nat) : List Byte :=
  leBytes 2 d.period ++ leBytes 2 d.phase ++ leBytes 2 d.holdMs ++ leBytes 2 (b2n d.fast) ++ leBytes 4 n

/-- The unit is the second of a duplex pair (R321, R399). -/
def State.unitB (s : State) : Bool := decide (s.rd Reg.GLB_PAIR_STRAP = 2)

/-- Station frames of cut k are sent: by pair state, the old active of a handover up to cut h − 1 (R394, R567). -/
def State.staSends (s : State) (k : Nat) : Bool :=
  decide (s.pairSt ∈ [0, 2, 4, 5]) || (decide (s.pairSt = 7) && (match s.pair.hand with | some h => decide (k < h) | none => false))

/-- One request taken by an admission window (R328, R330). -/
def State.grantIn (s : State) (d : StationDef) : State :=
  let x := s.sta d.station
  let blocks := reqBlocks x.request
  let bad := d.modules.filter (reqMismatch blocks)
  let pts := s.staPoints d.station
  if bad.any (fun m => decide (m.policy = 0)) then
    ((s.countLog 0x318).setAbsent pts true).setSta d.station { x with st := .refused, refused := some x.request, request := [] }
  else
    let off := (bad.filter (fun m => decide (m.policy = 1))).map (·.module)
    let s := s.setAbsent pts true
    let s := s.setAbsent (pts.filter (fun p => !p.2.output && !(decide ((staOf p.2).2.1 ∈ off)))) false
    let s := (s.count 0x317).setSta d.station
      { x with st := .resync, request := [], refused := none, notDriven := off, base := {}, fast := {}, fresh := false, marks := 0, miss := 0
               firstIn := none, executed := [], firstOut := false, leaving := false, fastIn := [], fastFresh := false, fastMiss := 0 }
    if s.staSends s.time.n && !s.fab.frozen then
      s.txIp (staPort d.port) d.ipv4 .station (staFrameBytes d.station s.ownDev
        { typ := 4, flags := 2 * b2n s.unitB, seq := s.time.n % 2 ^ 32, stamp := markStamp s.time.n, frag := 0, frags := 1, payload := grantBytes d s.time.n })
    else s

/-- ADMISSION_WINDOW: at a base mark with N mod 80 = 0, with an image in effect and the filter ended, at most 32 requests are taken in ascending station number (R329). -/
def execAdmissionWindow (s : State) : Out :=
  if s.img.run.isSome ∧ s.field.filterEnded ∧ s.time.n % 80 = 0 then
    let s := s.wr Reg.ETH_STA_SUM_ADMIT_OPEN 1
    .next (forL ((s.staDefs.filter (fun d => decide ((s.sta d.station).st = .waiting))).take 32) (fun d s => s.grantIn d) s)
  else .next s

/-- A station is declared ABSENT at the base mark that starts cycle N (R237). -/
def State.declareAbsent (s : State) (d : StationDef) : State :=
  let x := s.sta d.station
  let pts := s.staPoints d.station
  let was := x.admitted
  let s := s.count 0x316
  let s := s.onField (fun f => { f with launches := f.launches.filter (fun l => decide (l.station ≠ d.station)) })
  let s := if was then
      let s := forL (pts.filter (fun p => !p.2.output)) (fun p s => s.onWork p.1 (fun w => { w with dropped := true })) s
      (s.setAbsent (pts.filter (fun p => p.2.output)) true).incHold Reg.ETH_STA_STAT_DROPS [d.station]
    else s
  let s := forL x.dropRefs (fun r s => s.complete r .ok 0 s.time.n) s
  s.setSta d.station { x with st := .absent, request := [], refused := none, leaving := false, dropRefs := [], miss := 0, firstOut := false, fresh := false }

/-- Cycle n is a period mark of a station (R325, R327). -/
def StationDef.due (d : StationDef) (n : Nat) : Bool := decide ((n + d.period - d.phase) % d.period = 0)

/-- The stations at a base mark: leaves, drops and misses (R327, R330). -/
def State.stationMark (s : State) : State :=
  forL s.staDefs (fun d s =>
    let x := s.sta d.station
    if x.leaving then s.declareAbsent d
    else if x.admitted && d.due s.time.n then
      if x.marks = 0 then s.setSta d.station { x with marks := 1, fresh := false }
      else if x.fresh then s.setSta d.station { x with fresh := false, miss := 0 }
      else
        let s := s.count 0x315
        let s := s.setSta d.station { x with miss := x.miss + 1 }
        if d.missMax ≤ x.miss + 1 then s.declareAbsent d else s
    else s) s

/-! Resynchronisation (R238). -/

/-- The owner of an output point completed an execution in cycle n: the loop that writes it was due, the LOGIC task that writes it scanned; an axis, a generator and a recipe execute in every cycle (R238). -/
def State.ownerRan (s : State) (idx n : Nat) : Bool :=
  let h := idx / 2048
  if s.roleAt h = roleLoop then
    match s.img.run with
    | some i =>
      let ls := i.loops.filter (fun e => decide (e.1 / 256 = h) && decide (e.2.out ≠ NONE) && decide (idLocal e.2.out = idx))
      ls.isEmpty || ls.any (fun e => decide (n % e.2.divisor = e.2.phase))
    | none => true
  else if s.roleAt h = roleLogic then
    match s.logicSec h with
    | some x =>
      match x.images.find? (fun (r : ImageRec) => decide (r.dir = 1) && decide (idLocal r.point = idx)) with
      | some r =>
        let t := (s.logic h).task x r.task
        decide (t.lastN = n) && t.prevTs.isSome
      | none => true
    | none => true
  else true

/-- At the seal of cut n, with the cells that sealed in time: a station in RESYNC whose output owners have all executed since its first input goes ONLINE, and its output points lose ABSENT in that cut (R238). -/
def State.stationSeal (s : State) (n : Nat) (ok : Nat → Bool) : State :=
  forL s.staDefs (fun d s =>
    let x := s.sta d.station
    match x.firstIn with
    | none => s
    | some c =>
      if x.st ≠ .resync ∨ n ≤ c then s
      else
        let outs := (s.staPoints d.station).filter (fun p => p.2.output)
        let now := (outs.map (·.1)).filter (fun k => ok (s.execOf (k / 2048)) && s.ownerRan k n)
        let all := x.executed ++ now.filter (fun k => !(decide (k ∈ x.executed)))
        if outs.all (fun p => decide (p.1 ∈ all)) then
          let live := outs.filter (fun p => !(decide ((staOf p.2).2.1 ∈ x.notDriven)))
          let s := (s.setAbsent live false).setSta d.station { x with st := .online, executed := [], firstOut := true }
          forL live (fun p s =>
            match s.pts.next.look p.1 with
            | some e =>
              if e.quality = .absent then
                let e : PointEntry := { s.evalPoint p.1 n with time := (s.work p.1).ownTime }
                s.onPts (fun q => { q with next := q.next.put p.1 e })
              else s
            | none => s) s
        else s.setSta d.station { x with executed := all }) s

/-! Output frames (R325, R326, R108). -/

/-- The block of a module's outputs with a value for each signal; a signal bound to no point sends 0 (R320, R322). -/
def outBlock (val : Nat → Word) (pts : List (Nat × PointDef)) (m : ModuleDef) : List Byte :=
  [BitVec.ofNat 8 m.module, 1, BitVec.ofNat 8 m.outs, 0] ++
  ((List.range m.outs).map (fun g => leBytes 4 (match sigPoint pts true m.module g with | some k => (val k).toNat | none => 0))).flatten

/-- Blocks packed into payloads of at most 1,440 bytes, none split (R321, R322). -/
def packBlocks : List (List Byte) → List Byte → List (List Byte)
  | [], cur => if cur.isEmpty then [] else [cur]
  | b :: t, cur => if cur.length + b.length ≤ 1440 then packBlocks t (cur ++ b) else cur :: packBlocks t b

/-- The modules whose outputs are sent (R328). -/
def StationDef.driven (d : StationDef) (x : StaState) (fast : Bool) : List ModuleDef :=
  d.modules.filter (fun m => decide (0 < m.outs) && !(decide (m.module ∈ x.notDriven)) && (!fast || m.fast))

/-- The queue of a port's station frames (R319). -/
def State.staQueue (s : State) (port : Nat) (fast : Bool) : Nat :=
  match s.img.run.bind (fun (i : Img) => i.eth) with
  | some x => (match x.ports[port]? with | some p => if fast then p.fastPcp else p.staPcp | none => 0)
  | none => 0

/-- A set of OUTPUT frames enters its launch queue. -/
def State.launchSet (s : State) (d : StationDef) (fast : Bool) (seq stamp at_ cut : Nat) (val : Nat → Word) : State :=
  let pts := s.staPoints d.station
  let parts := packBlocks ((d.driven (s.sta d.station) fast).map (outBlock val pts)) []
  let p := staPort d.port
  let one (e : Nat × List Byte) : Launch :=
    { port := p, station := d.station, at_ := at_, cut := cut, queue := s.staQueue p fast
      data := staFrameBytes d.station s.ownDev
        { typ := 1, flags := b2n fast + 2 * b2n s.unitB, seq := seq % 2 ^ 32, stamp := stamp, frag := e.1, frags := parts.length, payload := e.2 } }
  s.onField (fun f => { f with launches := f.launches ++ ((List.range parts.length).zip parts).map one })

/-- STATION_OUTPUT_ASSEMBLY: the frame set of the last cut, in the station's period or from the resync cut, enters its launch queue at the mark that started the cycle in progress and only from the cut sealed at that mark (R325, R238, R375, R389). -/
def execStationOutputAssembly (station : Fin 512) (s : State) : Out :=
  match s.staDef station.val with
  | none => .next s
  | some d =>
    let x := s.sta station.val
    let k := s.pts.cutN
    if x.st = .online && (x.firstOut || d.due k) && s.staSends k && (decide (k + 1 = s.time.n) || decide (k + 33 = s.time.n)) then
      let s := s.setSta station.val { x with firstOut := false }
      .next (s.launchSet d false k (markStamp k) (s.time.n * 125000 + d.launchUs * 1000) k (fun idx => (s.pts.cut.at' idx {}).value))
    else .next s

/-- The time for which the gate of a queue stays open from an offset in the list; `n` bounds the entries walked (R314). -/
def gateLeft : Nat → List (Nat × Nat) → List (Nat × Nat) → Nat → Nat → Nat
  | 0, _, _, _, _ => 0
  | n + 1, all, [], q, t => gateLeft n all all q t
  | n + 1, all, e :: l, q, t =>
    if e.2 ≤ t then gateLeft n all l q (t - e.2)
    else if bitOf e.1 q then (e.2 - t) + gateLeft n all l q 0 else 0

/-- ns a frame of so many bytes, its FCS not counted, takes at the speed of a port with preamble and trailers. -/
def State.wireNs (s : State) (port len : Nat) : Nat :=
  let bytes := 8 + max 64 (len + 4 + (if prpPair s.sec.platform (port / 2) then 6 else 0))
  let sp := s.rd Reg.ETH_PORT_CFG_SPEED [port]
  if sp = 3 then ceilDiv (bytes * 8) 10 else if sp = 2 then bytes * 8 else bytes * 80

/-- The gate of a queue is open until a frame that starts now is complete (R314). -/
def State.gateOpen (s : State) (port q len : Nat) : Bool :=
  match s.field.gcl.look port with
  | none => true
  | some l =>
    let sum : Nat := (l.map (·.2)).foldl (· + ·) 0
    if sum = 0 then true else decide (s.wireNs port len ≤ gateLeft (3 * l.length + 3) l l q (s.time.d.ns % sum))

/-- The clock in which a PTP event message of a domain number is stamped on a port: that of the port's domain where it carries its number, else D; 0 for D, 1 for A, 2 for B (R103). -/
def State.ptpClock (s : State) (p number : Nat) : Nat × Clock :=
  let x := s.rd Reg.ETH_PORT_CFG_PTP_DOM [p]
  if (x = 1 ∨ x = 2) ∧ s.rd Reg.TNS_X_CTL_PTP_DOMAIN [x - 1] = number then (x, if x = 1 then s.time.a.clk else s.time.b.clk) else (0, s.time.d)

/-- A clock with a port's latency added or taken away (R102, R315). -/
def latencyMove (c : Clock) (off : Int) : Clock := clockOf ((((clockNs c : Int) + off) % ((2 ^ 48 * 1000000000 : Nat) : Int)).toNat) c.frac

/-- A frame of a descriptor leaves on a port with its transmit stamp: a PTP event message in its domain, every other in D; a one-step Sync on a 10GBASE-R port takes its stamp as originTimestamp, and PTP is not duplicated by PRP (R102, R103, R105, R108, R315, R317). -/
def State.sendLaunched (s : State) (port : Nat) (ref : CmdRef) (frame : List Byte) : State :=
  let e := etherOf frame
  match ptpAt e.1 e.2 with
  | some o =>
    let m := e.2.drop o
    let event := decide (fieldLE m 0 1 % 16 < 4)
    let k := if event then s.ptpClock port (fieldLE m 4 1) else (0, s.time.d)
    let c := latencyMove k.2 (s.rd Reg.ETH_LAT_TX_NS [port] : Int)
    let i := frame.length - e.2.length + o + 34
    let sync := event && decide (fieldLE m 0 1 % 16 = 0) && !bitOf (fieldLE m 6 1) 1 && decide (port < 4)
    let frame := if sync then frame.take i ++ beBytes 6 c.sec ++ beBytes 4 c.ns ++ frame.drop (i + 10) else frame
    let s := s.onField (fun f => { f with sent := { port := port, kind := .launched, prpSeq := none, data := frame } :: f.sent })
    (if event then { s with time := { s.time with ptpSent := s.time.ptpSent.put port (k.1, stamp64 c) } } else s).complete ref .ok 0 (stamp64 c)
  | none => (s.tx port .launched frame).complete ref .ok 0 (stamp64 (latencyMove s.time.d (s.rd Reg.ETH_LAT_TX_NS [port] : Int)))

/-- A frame that has missed its launch by more than 1 ms is discarded: one of a descriptor completes TIMEOUT, a station frame is counted (R108, R325). -/
def State.launchLate (s : State) (ref : Option CmdRef) : State :=
  match ref with
  | some r => s.complete r .timeout
  | none => s.count 0x31B

/-- The frames of a port that reach the head of their queue and are due: late ones are discarded, the others sent; a closed gate or a frame not yet due keeps its queue (R108, R314, R325). -/
def launchLoop (port now : Nat) : List Launch → List Nat → State → State
  | [], _, s => s
  | l :: t, blocked, s =>
    let keep (b : List Nat) (s : State) : State := launchLoop port now t b (s.onField (fun f => { f with launches := f.launches ++ [l] }))
    if l.port ≠ port then keep blocked s
    else if l.queue ∈ blocked then keep blocked s
    else if now < l.at_ then keep (l.queue :: blocked) s
    else if l.at_ + 1000000 < now then launchLoop port now t blocked (s.launchLate l.ref)
    else if !s.gateOpen port l.queue (l.data.length + if l.ref.isSome then 0 else 46) then keep (l.queue :: blocked) s
    else
      match l.ref, s.staDef l.station with
      | some r, _ => launchLoop port now t blocked (s.sendLaunched port r l.data)
      | none, some d => launchLoop port now t blocked (s.txIp port d.ipv4 .station l.data)
      | none, none => launchLoop port now t blocked s

/-- The launch time of a descriptor in ns of D; the seconds above bit 33 are those of D (R101, R108). -/
def State.launchAt (s : State) (x : Nat) : Nat := s.time.d.sec / 2 ^ 34 * (2 ^ 34 * 1000000000) + stampNs x

/-- Frames with a launch time are enqueued; one more than 2 s ahead of D completes INVALID (R108, R109). -/
def State.launchEnqueue (s : State) (enq : List LaunchDesc) (put : LaunchDesc → Nat → State → State) : State :=
  forL enq (fun d s =>
    let t := s.launchAt d.stamp
    if clockNs s.time.d + 2000000000 < t then s.complete d.ref .invalid else put d t s) s

/-- The launch queues of an Ethernet port are served (R108). -/
def State.launchEth (s : State) (port : Nat) : State :=
  launchLoop port (clockNs s.time.d) s.field.launches [] (s.onField (fun f => { f with launches := [] }))

/-- Station work at a fast mark that ends sub-cycle j of cycle n: fast outputs enter their queue, fast inputs reach the axes, and a first miss is bridged (R165, R326). -/
def State.stationFast (s : State) (n j : Nat) : State :=
  forL (s.staDefs.filter (fun d => d.fast)) (fun d s =>
    let x := s.sta d.station
    let s := if x.st = .online ∧ s.staSends n ∧ !s.fab.frozen then
        s.launchSet d true (n * 8 + j) s.now64 (clockNs s.time.d) n (fun idx => s.pinValue idx)
      else s
    if !x.admitted then s
    else
      let x : StaState := { x with fastFresh := false, fastMiss := if x.fastFresh then 0 else x.fastMiss + 1 }
      let s := s.setSta d.station x
      let s := if x.fastMiss = 1 ∧ !x.fastIn.isEmpty then s.count 0x31A else s
      s) s

/-- What the station engine delivers to an axis for its FB_PT at a fast mark, and whether it is usable: not missed twice, not ABSENT, not out of range (R120, R141, R165, R326). -/
def State.axisFb (s : State) (id : Nat) : F32 × Bool :=
  match s.pdef (idLocal id) with
  | none => (0, false)
  | some d =>
    let k := staOf d
    let x := s.sta k.1
    match x.fastIn.look (k.2.1 * 64 + k.2.2) with
    | some v => (asFloat d.format v, x.admitted && decide (x.fastMiss ≤ 1) && !(s.work (idLocal id)).absent && !outOfRange d v)
    | none => (0, false)

/-- Every axis with FB_PT takes what the station engine delivers (R165). -/
def State.deliverFb (s : State) : State :=
  match s.img.run with
  | none => s
  | some i => { s with axes := (i.axes.filter (fun e => e.2.fbPt)).foldl (fun t e => t.upd e.1 {} (fun a => { a with fbIn := s.axisFb e.2.fb })) s.axes }

/-! Filter, ports, PRP, ARP and neighbour discovery (R315 to R318, R343). -/

/-- STARTUP_FILTER_END: the filter ends on all six ports (R316). -/
def execStartupFilterEnd (s : State) : Out :=
  .next (forN 6 (fun p s => s.wr Reg.ETH_PORT_CFG_FILTER 0 [p]) (s.onField (fun f => { f with filterEnded := true })))

/-- ETH_LINK_CHANGE: the link of a port comes up at a speed or goes down (R343). -/
def execEthLinkChange (port : Fin 6) (speed : Fin 4) (s : State) : Out :=
  .next ((s.wrb Reg.ETH_PORT_CFG_LINK (decide (speed.val ≠ 0)) [port.val]).wr Reg.ETH_PORT_CFG_SPEED speed.val [port.val])

/-- PRP_SUPERVISION: a PRP node sends its supervision frame on both ports (R317). -/
def execPrpSupervision (pair : Fin 3) (s : State) : Out :=
  .next (if prpPair s.sec.platform pair.val then s.tx (2 * pair.val) .supervision (portMac s.sec.platform (2 * pair.val)) else s)

/-- ARP_REQUEST: a request for the address of the port is answered (R318). -/
def execArpRequest (port : Fin 6) (ip : Word) (s : State) : Out :=
  let p := netPort s.sec.platform port.val
  .next (if portPrefix s.sec.platform p ≠ 0 ∧ portIp s.sec.platform p = ip.toNat then s.tx p .arpReply (portMac s.sec.platform p ++ beBytes 4 ip.toNat) else s)

/-- The link-local address of a port, 16 bytes in transmission order: FE80::/64 with the modified EUI-64 of its MAC address (R318). -/
def linkLocal (platform : List Byte) (p : Nat) : List Byte :=
  let m := portMac platform p
  [0xFE, 0x80, 0, 0, 0, 0, 0, 0] ++ [m.headD 0 ^^^ 2] ++ slice m 1 2 ++ [0xFF, 0xFE] ++ slice m 3 3

/-- NEIGHBOR_SOLICITATION: a solicitation of the link-local address of the port is answered (R318). -/
def execNeighborSolicitation (port : Fin 6) (addr : List Byte) (s : State) : Out :=
  let p := netPort s.sec.platform port.val
  .next (if !s.sec.platform.isEmpty ∧ addr = linkLocal s.sec.platform p then s.tx p .neighbourAdvert (portMac s.sec.platform p ++ addr) else s)

/-- The next hops the device resolves: of every station and of RNG_ETH_PEER (R318). -/
def State.wantedHops (s : State) : List (Nat × Nat) :=
  let hop (port ip : Nat) : List (Nat × Nat) :=
    let p := netPort s.sec.platform port
    match nextHop s.sec.platform p ip with | some h => [(p, h)] | none => []
  let peer := s.rd Reg.RNG_ETH_PEER_IPV4
  ((s.staDefs.map (fun d => hop (staPort d.port) d.ipv4)).flatten ++ (if peer = 0 then [] else hop (s.rd Reg.RNG_ETH_CFG_PORT) peer)).eraseDups

/-- ARP_REFRESH: each next hop is asked for again; what stays unanswered for 3 s is no longer used (R318). -/
def execArpRefresh (s : State) : Out := .next (forL s.wantedHops (fun e s => s.arpAsk e.1 e.2) s)

/-- Host writes of PTP_DOM take effect at a base mark (R315). -/
def State.portsMark (s : State) : State :=
  forL s.field.ptpPend (fun e s => s.wr Reg.ETH_PORT_CFG_PTP_DOM e.2 [e.1]) (s.onField (fun f => { f with ptpPend := [] }))

/-- At a carry into SEC of D the gate lists of the running image are in effect (R314). -/
def State.fieldSecond (s : State) : State :=
  let l : Tab (List (Nat × Nat)) := match s.img.run.bind (fun (i : Img) => i.eth) with
    | some x => (x.ports.filter (fun p => p.gclEn)).foldl (fun t p => t.put p.port ((x.gcl.drop p.gclFirst).take p.gclCount)) []
    | none => []
  s.onField (fun f => { f with gcl := l })

/-! CAN (R331 to R337). -/

/-- A bus of the running image. -/
def State.canBus (s : State) (b : Nat) : Option (CanSec × CanBusDef) :=
  match s.img.run.bind (fun (i : Img) => i.can) with
  | some x => (match x.buses[b]? with | some d => some (x, d) | none => none)
  | none => none

/-- The state of a bus. -/
def State.onCan (s : State) (b : Nat) (f : CanState → CanState) : State := s.onField (fun x => { x with can := x.can.upd b {} f })

/-- CAN transmission is normal in this pair state (R567), and nothing leaves after the freeze mark (R375). -/
def State.canSends (s : State) : Bool :=
  (decide (s.pairSt ∈ [0, 2, 7]) || (decide (s.pairSt = 5) && s.flag Reg.GLB_PAIR_LEASE)) && !s.fab.frozen

/-- A bus transmits: normal operation and a pair state that sends. -/
def State.canLive (s : State) (b : Nat) : Bool := decide (s.rd Reg.CAN_STAT_MODE [b] = 2) && s.canSends

/-- A frame goes out on a bus. -/
def State.canTx (s : State) (b id : Nat) (data : List Byte) : State := s.onCan b (fun c => { c with sent := (id, data) :: c.sent })

/-! Launch times on CAN (R109). -/

/-- A frame's launch time is reached. -/
def CanQueued.due (f : CanQueued) (now : Nat) : Bool := match f.launch with | some e => decide (e.2 ≤ now) | none => true

/-- A frame has missed its launch by more than 1 ms (R108, R109). -/
def CanQueued.late (f : CanQueued) (now : Nat) : Bool := match f.launch with | some e => decide (e.2 + 1000000 < now) | none => false

/-- A queued frame ends without being sent. -/
def State.canDrop (s : State) (f : CanQueued) (st : Status) : State := match f.launch with | some e => s.complete e.1 st | none => s

/-- A queued frame goes out; one with a launch time completes with the stamp of its start of frame (R102, R109). -/
def State.canSend (s : State) (b : Nat) (f : CanQueued) : State :=
  let s := s.canTx b f.id f.data
  match f.launch with | some e => s.complete e.1 .ok 0 s.now64 | none => s

/-- Eligible frames in the order in which they go: by launch time, then by identifier, then as they were enqueued (R109). -/
def canOrder (l : List CanQueued) : List CanQueued :=
  let key (f : CanQueued) : Nat × Nat := ((match f.launch with | some e => e.2 | none => 0), f.id % 2 ^ 29)
  l.foldl (fun a f =>
    let before (g : CanQueued) : Bool := decide ((key g).1 < (key f).1) || (decide ((key g).1 = (key f).1) && decide ((key g).2 ≤ (key f).2))
    a.takeWhile before ++ [f] ++ a.dropWhile before) []

/-- At most `n` frames leave the head of a bus's queue in an arbitrating window; one that is late there is discarded (R108, R109, R335). -/
def canWindow (b now : Nat) : List CanQueued → Nat → State → State
  | [], _, s => s.onCan b (fun c => { c with queue := [] })
  | f :: t, n, s =>
    if f.late now then canWindow b now t n (s.canDrop f .timeout)
    else match n with
      | 0 => s.onCan b (fun c => { c with queue := f :: t })
      | n + 1 => canWindow b now t n (s.canSend b f)

/-- The frames with a launch time that a bus holds complete ABORTED in bus-off (R337). -/
def State.canAbort (s : State) (b : Nat) : State :=
  let c := s.field.can.at' b {}
  let s := forL (c.launches ++ c.queue) (fun f s => s.canDrop f .aborted) s
  s.onCan b (fun c => { c with launches := [], queue := c.queue.filter (fun f => f.launch.isNone) })

/-- The frames of a bus whose launch time has come: late ones are discarded, the others go out on an event-driven bus, and wait for an arbitrating window on a time-triggered one (R109, R335). -/
def State.launchCan (s : State) (b : Nat) : State :=
  if s.rd Reg.CAN_STAT_MODE [b] = 3 then s.canAbort b
  else
    let now := clockNs s.time.d
    let l := (s.field.can.at' b {}).launches
    let s := forL (l.filter (fun f => f.late now)) (fun f s => s.canDrop f .timeout) s
    let l := l.filter (fun f => !f.late now)
    let go := if s.canLive b then canOrder (l.filter (fun f => f.due now)) else []
    let s := s.onCan b (fun c => { c with launches := if s.canLive b then l.filter (fun f => !f.due now) else l })
    if (match s.canBus b with | some (_, d) => decide (d.mode = 2) | none => false) then s.onCan b (fun c => { c with queue := c.queue ++ go })
    else forL go (fun f s => s.canSend b f) s

/-- LAUNCH_TIME_REACHED: what was enqueued with a launch time since, then the frames of the port or controller whose time has come (R108, R109; log entry 12). -/
def execLaunchTimeReached (net : LaunchNet) (enq : List LaunchDesc) (s : State) : Out :=
  .next (match net with
    | .eth p =>
      (s.launchEnqueue enq (fun d t s => s.onField (fun f => { f with
        launches := f.launches ++ [{ port := p.val, station := 512, at_ := t, cut := 0, queue := d.queue.val, data := d.data, ref := some d.ref }] }))).launchEth p.val
    | .can b =>
      (s.launchEnqueue enq (fun d t s => s.onCan b.val (fun c => { c with launches := c.launches ++ [{ id := d.id, data := d.data, launch := some (d.ref, t) }] }))).launchCan b.val)

/-- The mode that a bus has in the present pair state, while not in bus-off (R332, R567). -/
def State.canMode (s : State) (d : CanBusDef) : Nat := if d.mode = 0 then 0 else if s.canSends || s.fab.frozen then 2 else 1

/-- The buses take their mode at the mark at which an image takes effect or the pair state changes what is sent (R332, R567). -/
def State.canModes (s : State) (changed : Nat → Bool) : State :=
  forN 8 (fun b s =>
    match s.canBus b with
    | none => s
    | some (_, d) =>
      let m := s.canMode d
      let old := s.rd Reg.CAN_STAT_MODE [b]
      if changed b || (decide (old ≠ 3) && decide (old ≠ m)) then
        (s.wr Reg.CAN_STAT_MODE m [b]).wr Reg.CAN_STAT_TT (if d.mode = 2 then 3 else 0) [b]
      else s) s

/-- The data of a transmit frame from a cut: its bound words, the rest 0 (R333, R334). -/
def State.canData (s : State) (x : CanSec) (frame : Nat) (f : CanFrameDef) : List Byte :=
  let words : List Word := (List.range (f.bytes / 4)).map (fun w =>
    match x.binds.find? (fun (e : CanBindDef) => decide (e.frame = frame) && decide (e.word = w)) with
    | some e => (s.pts.cut.at' (idLocal e.point) {}).value
    | none => 0)
  wordsBytes words ++ List.replicate (f.bytes % 4) 0

/-- A frame that falls due in bus-off is not sent and is counted (R337). -/
def State.canMiss (s : State) (b : Nat) : State := (s.count 0x308).wr Reg.CAN_ERR_TX_MISS 1 [b]

/-- Event-driven frames of the sealed cut k enter their queues at the mark that starts cycle k + 1; on an event-driven bus they go out in turn (R334, R335). -/
def State.canMark (s : State) : State :=
  let k := s.pts.cutN
  forN 8 (fun b s =>
    match s.canBus b with
    | none => s
    | some (x, d) =>
      if d.mode = 0 then s
      else
        let fs := x.framesOf d
        let due := ((List.range fs.length).zip fs).filter (fun e => e.2.transmit && decide (e.2.win = 0xFF) && decide (k % e.2.period = 0))
        forL due (fun e s =>
          if s.rd Reg.CAN_STAT_MODE [b] = 3 then s.canMiss b
          else if !s.canLive b then s
          else
            let data := s.canData x (d.firstFrame + e.1) e.2
            if d.mode = 1 then s.canTx b e.2.id data
            else s.onCan b (fun c => { c with queue := c.queue ++ [{ id := e.2.id, data := data }] })) s) s

/-- A frame received without error lowers the receive error count by 1 (ISO 11898-1). -/
def State.canGood (s : State) (b : Nat) : State := s.wr Reg.CAN_STAT_REC (s.rd Reg.CAN_STAT_REC [b] - 1) [b]

/-- A clock as it stood some ticks ago, at the effective increment (R90). -/
def clockBefore (c : Clock) (incr ticks : Nat) : Clock :=
  let t := (clockNs c * 2 ^ 32 + c.frac) - incr * ticks
  clockOf (t / 2 ^ 32) (t % 2 ^ 32)

/-- CAN_FRAME_RX: a received frame whose start of frame came `ago` ticks before, and has the stamp of D at that tick, writes its bound words into the cut; a frame lost to a full buffer is counted (R102, R334, R342). -/
def execCanFrameRx (bus : Fin 8) (id : Nat) (data : List Byte) (ago : Nat) (lost : Bool) (s : State) : Out :=
  let b := bus.val
  let sof := stamp64 (clockBefore s.time.d s.time.e ago)
  if lost then .next ((s.count 0x30A).wr Reg.CAN_ERR_OVR 1 [b])
  else if s.rd Reg.CAN_STAT_MODE [b] = 0 ∨ s.rd Reg.CAN_STAT_MODE [b] = 3 then .next s
  else
    let s := s.canGood b
    match s.canBus b with
    | none => .next s
    | some (x, d) =>
      let fs := x.framesOf d
      let pts := match s.img.run with
        | some i => i.points.filter (fun e => decide (e.2.ownerKind = 3) && decide ((canOf e.2).1 = b))
        | none => []
      .next (forL pts (fun e s =>
        let k := canOf e.2
        match fs[k.2.1]? with
        | some f =>
          if !f.transmit ∧ f.id = id ∧ 4 * k.2.2 + 4 ≤ data.length then s.ownerWrite e.1 (wordLE data (4 * k.2.2)) sof else s
        | none => s) s)

/-- CAN_REFERENCE_RX: a valid reference of a priority with a cycle count (R336). -/
def execCanReferenceRx (bus : Fin 8) (prio : Fin 8) (cycle : Fin 64) (s : State) : Out :=
  let b := bus.val
  match s.canBus b with
  | none => .next s
  | some (_, d) =>
    if d.mode ≠ 2 ∨ s.rd Reg.CAN_STAT_MODE [b] = 3 then .next s
    else if s.rd Reg.CAN_STAT_TT [b] = 2 ∧ d.ttPrio < prio.val then .next (s.canGood b)
    else .next ((((s.canGood b).wr Reg.CAN_STAT_TT 1 [b]).wr Reg.CAN_STAT_MASTER prio.val [b]).wr Reg.CAN_STAT_CYCLE cycle.val [b])

/-- The device sends a reference (R336). -/
def State.sendReference (s : State) (b : Nat) (d : CanBusDef) : State :=
  let c := (s.time.n / d.bcBase) % d.cycles
  ((s.wr Reg.CAN_STAT_CYCLE c [b]).wr Reg.CAN_STAT_MASTER d.ttPrio [b]).canTx b (d.refId + d.ttPrio) [BitVec.ofNat 8 c]

/-- CAN_REF_TIMEOUT: no reference within the failover time; a slave sets REF_LOST, a potential master sends its own reference (R336, R337). -/
def execCanRefTimeout (bus : Fin 8) (s : State) : Out :=
  let b := bus.val
  match s.canBus b with
  | none => .next s
  | some (_, d) =>
    let tt := s.rd Reg.CAN_STAT_TT [b]
    if d.mode ≠ 2 ∨ tt = 2 ∨ s.rd Reg.CAN_STAT_MODE [b] = 3 then .next s
    else
      let s := if tt = 1 then (((s.count 0x309).wr Reg.CAN_ERR_REF_LOST 1 [b]).wr Reg.CAN_STAT_TT 3 [b]).cause 14 else s
      .next (if d.ttPrio ≤ 7 ∧ s.canLive b then (s.wr Reg.CAN_STAT_TT 2 [b]).sendReference b d else s)

/-- CAN_REFERENCE_SEND: the current master launches the reference at a base mark with N mod BC_BASE = 0 (R336). -/
def execCanReferenceSend (bus : Fin 8) (s : State) : Out :=
  let b := bus.val
  match s.canBus b with
  | none => .next s
  | some (_, d) =>
    .next (if d.mode = 2 ∧ s.rd Reg.CAN_STAT_TT [b] = 2 ∧ s.canLive b ∧ s.time.n % d.bcBase = 0 then s.sendReference b d else s)

/-- CAN_WINDOW_START: an exclusive window sends its frame of this basic cycle, an arbitrating window the queued frames that win arbitration in it, a free window none (R334 to R337). -/
def execCanWindowStart (bus : Fin 8) (window : Nat) (won : Nat) (s : State) : Out :=
  let b := bus.val
  match s.canBus b with
  | none => .next s
  | some (x, d) =>
    let fs := x.framesOf d
    let c := s.rd Reg.CAN_STAT_CYCLE [b]
    let tt := s.rd Reg.CAN_STAT_TT [b]
    if d.mode ≠ 2 then .next s
    else match (x.winsOf d)[window]? with
      | none => .next s
      | some w =>
        if w.type = 0 then
          .next (forL (((List.range fs.length).zip fs).filter (fun e => e.2.transmit && decide (e.2.win = window) && decide (c % e.2.repeat_ = e.2.cycBase))) (fun e s =>
            if s.rd Reg.CAN_STAT_MODE [b] = 3 then s.canMiss b
            else if s.canLive b ∧ tt ≠ 3 then s.canTx b e.2.id (s.canData x (d.firstFrame + e.1) e.2)
            else s) s)
        else if w.type = 1 ∧ s.canLive b ∧ tt ≠ 3 then
          .next (canWindow b (clockNs s.time.d) (s.field.can.at' b {}).queue won s)
        else .next s

/-- CAN_BUS_ERROR: the error counts rise; a transmit count past 255 is bus-off (R337). -/
def execCanBusError (bus : Fin 8) (dTec dRec : Nat) (s : State) : Out :=
  let b := bus.val
  if s.rd Reg.CAN_STAT_MODE [b] = 0 ∨ s.rd Reg.CAN_STAT_MODE [b] = 3 then .next s
  else
    let tec := s.rd Reg.CAN_STAT_TEC [b] + dTec
    let s := (s.wr Reg.CAN_STAT_TEC (min tec 255) [b]).incHold Reg.CAN_STAT_REC [b] dRec
    .next (if 255 < tec then
        ((((s.wr Reg.CAN_STAT_MODE 3 [b]).wr Reg.CAN_ERR_BUSOFF 1 [b]).incHold Reg.CAN_ERR_BUSOFF_CNT [b]).count (0x300 + b)).canAbort b |>.cause 14
      else s)

/-- CAN_BUSOFF_RECOVERY: the controller leaves bus-off with both counts at 0; a time-triggered bus waits for a reference (R337). -/
def execCanBusoffRecovery (bus : Fin 8) (s : State) : Out :=
  let b := bus.val
  if s.rd Reg.CAN_STAT_MODE [b] ≠ 3 then .next s
  else
    let s := (s.wr Reg.CAN_STAT_TEC 0 [b]).wr Reg.CAN_STAT_REC 0 [b]
    match s.canBus b with
    | some (_, d) => .next ((s.wr Reg.CAN_STAT_MODE (s.canMode d) [b]).wr Reg.CAN_STAT_TT (if d.mode = 2 then 3 else 0) [b])
    | none => .next (s.wr Reg.CAN_STAT_MODE 1 [b])

/-! Identity memories (R338 to R341). -/

/-- GLB_IDENT_MIS bit of an expectation. -/
def State.identMis (s : State) (i : Nat) : Bool := bitOf (s.rd Reg.GLB_IDENT_MIS_MIS [i / 32]) (i % 32)

/-- One local expectation is reread; the bytes are empty when no record could be read (R338, R341). -/
def State.identRead (s : State) (i : Nat) (d : IdentDef) (b : List Byte) : State :=
  let valid := identValid b
  let ok := identMatches d b
  let was := s.identMis i
  let s := if valid then s else s.count 0x320
  let old := s.field.idents.look i
  let replaced := ok && (match old with | some o => identMatches d o && decide (slice o 0x0C 16 ≠ slice b 0x0C 16) | none => false)
  let s := if decide (was = ok) || replaced then s.logEvent 0x40F else s
  let w := s.rd Reg.GLB_IDENT_MIS_MIS [i / 32]
  let s := s.wr Reg.GLB_IDENT_MIS_MIS (setBits w (i % 32) (i % 32) (b2n !ok)) [i / 32]
  if valid then s.onField (fun f => { f with idents := f.idents.put i b }) else s

/-- Every local expectation is reread, with the records found (R341). -/
def State.identReread (s : State) (reads : List (Nat × List Byte)) : State :=
  match s.img.run with
  | none => s
  | some im => forL ((List.range im.idents.length).zip im.idents) (fun e s =>
      s.identRead e.1 e.2 (match reads.find? (fun r => r.1 = e.1) with | some r => r.2 | none => [])) s

/-- IDENT_REREAD: the Steward's reading of every local expectation, once a second (R341). -/
def execIdentReread (reads : List (Nat × List Byte)) (s : State) : Out := .next (s.identReread reads)

/-- A local-input point is bound to a channel in the range of a module that is not driven (R341). -/
def State.pointOff (s : State) (d : PointDef) : Bool :=
  let o := d.owner % 65536
  let entry (l : List EntryDef) (k : Nat) : Bool :=
    match l[k]? with
    | some e => if e.diff then s.rangeOff IdentDef.ain (2 * e.input) || s.rangeOff IdentDef.ain (2 * e.input + 1) else s.rangeOff IdentDef.ain e.input
    | none => false
  match chanKind o with
  | 0 => (match s.cvDef (o % 16) with | some x => entry x.entries (bitsOf o 8 4) | none => false)
  | 1 => (match s.cvDef (o % 16) with | some x => entry x.urgent (bitsOf o 5 4) | none => false)
  | 2 => (match s.cvDef (o % 16) with | some x => entry x.entries (bitsOf o 8 4) | none => false)
  | 3 => s.rangeOff IdentDef.enc (o % 32)
  | 4 => s.rangeOff IdentDef.enc (o % 32)
  | _ => s.rangeOff IdentDef.dio (o % 32)

/-- At a base mark the mismatch policy takes effect: resources of modules that do not match are not driven, and points bound to their channels are ABSENT (R341). -/
def State.identMark (s : State) : State :=
  match s.img.run with
  | none => s
  | some im =>
    if im.idents.isEmpty then s
    else
      let off := (((List.range im.idents.length).zip im.idents).filter (fun e => s.identMis e.1 && decide (e.2.policy ≠ 2))).map (·.1)
      let s := s.onField (fun f => { f with notDriven := off })
      let s := forN 16 (fun c s => if s.rangeOff IdentDef.dac c then (s.wr Reg.DAC_STAT_CODE 0 [c]).wr Reg.DAC_STAT_DRIVEN 0 [c] else s) s
      let s := forN 32 (fun p s => if s.rangeOff IdentDef.dio p then s.onConv (fun b => { b with dioOut := b.dioOut.drop' p }) else s) s
      forL (im.points.filter (fun e => decide (e.2.ownerKind = 1))) (fun e s =>
        let v := s.pointOff e.2 || (s.conv.vanaLow && decide (chanKind e.2.owner ≤ 4))
        if (s.work e.1).absent = v then s else s.onWork e.1 (fun w => { w with absent := v })) s

/-! Image effect. -/

/-- The CAN and Ethernet settings and the stations of an image take effect; `old` is the image before it, none at a start (R319, R320, R332, R60). -/
def State.fieldBegin (s : State) (old : Option Img) : State :=
  match s.img.run with
  | none => s
  | some i =>
    let same (d : StationDef) : Bool := match old with
      | some o => (match o.topology with | some x => decide (d ∈ x.stations) | none => false)
      | none => false
    let s := match i.eth with
      | some x => if old.bind (fun (o : Img) => o.eth) = some x then s else forL x.ports (fun p s =>
          let s := s.wr Reg.ETH_PORT_CFG_PTP_DOM p.ptpDom [p.port]
          let s := if p.txNs = 0xFFFF then s else s.wr Reg.ETH_LAT_TX_NS p.txNs [p.port]
          if p.rxNs = 0xFFFF then s else s.wr Reg.ETH_LAT_RX_NS p.rxNs [p.port]) s
      | none => s
    let keep : Tab StaState := s.field.stations.filter (fun e => match s.staDef e.1 with | some d => same d | none => false)
    let launches := s.field.launches.filter (fun l => l.ref.isSome || (keep.look l.station).isSome)
    let s := s.onField (fun f => { f with stations := keep, launches := launches })
    let s := forN 512 (fun n s => s.wrb Reg.ETH_STA_STAT_DEFINED (s.staDef n).isSome [n]) s
    let s := forL s.staDefs (fun d s =>
      if same d then s else (s.setAbsent (s.staPoints d.station) true).setSta d.station {}) s
    let s := forL s.wantedHops (fun e s => if (s.field.hops.look (hopKey e.1 e.2)).isSome then s else s.arpAsk e.1 e.2) s
    let oldBus (b : Nat) : Option CanBusDef := (old.bind (fun (o : Img) => o.can)).bind (fun (x : CanSec) => x.buses[b]?)
    let fresh (b : Nat) : Bool := match s.canBus b with | some (_, d) => decide (oldBus b ≠ some d) | none => false
    let s := s.onField (fun f => { f with can := f.can.map (fun e =>
      (e.1, if fresh e.1 then { launches := e.2.launches, queue := e.2.queue.filter (fun x => x.launch.isSome) } else e.2)) })
    s.canModes fresh

/-! Commands (R345). -/

/-- STATION_READ: the status word and the module STATUS bytes of 1 to 64 stations. -/
def execStationRead (ref : CmdRef) (args : List Nat) (s : State) : Out :=
  let l := (args.drop 1).take (argN args 0)
  .next (s.command ref 0x0901 [badCount args 64, badAt (fun n => decide (n < 512)) l .invalid, noRoom ref (68 * l.length)] [] (fun ref s =>
    s.complete ref .ok 0 0 ((l.map (fun n =>
      leBytes 4 (s.reg Reg.ETH_STA_STAT [n]) ++ ((List.range 64).map (fun m => BitVec.ofNat 8 ((s.sta n).status.at' m 0))))).flatten)))

/-- STATION_DROP: the station is declared ABSENT at the next base mark (R330). -/
def execStationDrop (ref : CmdRef) (args : List Nat) (s : State) : Out :=
  let n := argN args 0
  .next (s.command ref 0x0902 [(decide (args.length < 1 ∨ 512 ≤ n), .invalid, 0), ((s.staDef n).isNone || decide ((s.sta n).st = .absent), .absent, 0)] [] (fun ref s =>
    let x := s.sta n
    s.setSta n { x with leaving := true, dropRefs := x.dropRefs ++ [ref] }))

/-- IDENT_READ: a local record by bus and address, with what the bus gave, or a station module's block of its last ADMIT_REQ (R338, R345). -/
def execIdentRead (ref : CmdRef) (args : List Nat) (mem : List Byte) (stretch : Bool) (s : State) : Out :=
  let station := decide (argN args 0 = 1)
  let a := argN args 1
  let b := argN args 2
  let bad := decide (args.length < 3) || decide (1 < argN args 0) || (if station then decide (512 ≤ a) || decide (64 ≤ b) else decide (4 ≤ a) || decide (128 ≤ b))
  .next ((s.stwDone ref).commandLong ref 0x0903 [(bad, .invalid, 0), noRoom ref (if station then 36 else 256)] [] (fun ref s =>
    if station then
      match (reqBlocks (s.sta a).lastReq).look b with
      | some r => s.complete ref .ok 0 0 r
      | none => s.complete ref .absent
    else if stretch then (s.count 0x320).complete ref .timeout
    else if identValid mem then s.complete ref .ok 0 0 mem
    else (s.count 0x320).complete ref .absent))

/-- IDENT_SCAN: every local expectation is reread now (R341). -/
def execIdentScan (ref : CmdRef) (_args : List Nat) (reads : List (Nat × List Byte)) (s : State) : Out :=
  .next ((s.stwDone ref).commandLong ref 0x0904 [] [] (fun ref s => (s.identReread reads).complete ref .ok))

/-- CAN_READ: CAN_STAT and CAN_ERR of the eight buses. -/
def execCanRead (ref : CmdRef) (_args : List Nat) (s : State) : Out :=
  .next (s.command ref 0x0905 [noRoom ref 64] [] (fun ref s =>
    s.complete ref .ok 0 0 (((List.range 8).map (fun b => leBytes 4 (s.reg Reg.CAN_STAT [b]) ++ leBytes 4 (s.reg Reg.CAN_ERR [b]))).flatten)))

/-- ETH_PORT_CFG_p as it reads: PRP is the platform record's (R318, R343). -/
def State.viewPortCfg (s : State) (p : Nat) : Nat :=
  setBits (s.reg Reg.ETH_PORT_CFG [p]) 17 16 (if prpPair s.sec.platform (p / 2) then 1 + p % 2 else 0)

/-- ETH_READ: the port registers of the six ports and ETH_STA_SUM. -/
def execEthRead (ref : CmdRef) (_args : List Nat) (s : State) : Out :=
  .next (s.command ref 0x0906 [noRoom ref 76] [] (fun ref s =>
    s.complete ref .ok 0 0 (((List.range 6).map (fun p =>
      leBytes 4 (s.viewPortCfg p) ++ leBytes 4 (s.reg Reg.ETH_LAT [p]) ++ leBytes 4 (s.reg Reg.ETH_DROP [p]))).flatten ++ leBytes 4 (s.reg Reg.ETH_STA_SUM))))

end Sys2Proof.Machine
end

