-- ==== Sys2Proof/Machine/Link.lean ====
section
/-! DEFINITION. Mboquel links, beacons, membership, routes, subscriptions and relayed commands (R346 to R367). -/

namespace Sys2Proof.Machine

/-- The state with the links changed. -/
def State.onLink (s : State) (f : LinkState → LinkState) : State := { s with link := f s.link }
/-- A port. -/
def State.lport (s : State) (p : Nat) : LinkPort := s.link.ports.at' p {}
/-- The state with a port changed. -/
def State.onPort (s : State) (p : Nat) (f : LinkPort → LinkPort) : State := s.onLink (fun l => { l with ports := l.ports.upd p {} f })
/-- A port is up, on one or two lanes (R365). -/
def State.portUp (s : State) (p : Nat) : Bool := decide (2 ≤ s.rd Reg.LNK_PORT_STATE [p])
/-- The unit is one of a pair: the straps say A or B with a valid pair port (R382). -/
def State.paired (s : State) : Bool := decide (s.rd Reg.GLB_PAIR_STRAP ∈ [1, 2]) && !s.flag Reg.GLB_PAIR_STRAP_ERR
/-- The port carries the pair link (R382). -/
def State.isPairPort (s : State) (p : Nat) : Bool := s.paired && decide (s.rd Reg.GLB_PAIR_PORT = p)
/-- The unit sends UNIT_B (R348, R382). -/
def State.sendsB (s : State) : Bool := s.paired && decide (s.rd Reg.GLB_PAIR_STRAP = 2)
/-- The number a device gives in its frames: that of its image header, or 0xFF (R347, R348). -/
def State.hdrDev (s : State) : Nat := match s.img.run with | some i => i.devnum | none => 0xFF
/-- CONSTELLATION_ID of the running image, 0 without one. -/
def State.ownId (s : State) : Nat := match s.img.run with | some i => i.constellation | none => 0
/-- First 8 bytes of the image digest, 0 without an image. -/
def State.digest8 (s : State) : Nat := match s.img.run with | some i => fieldLE i.digest 0 8 | none => 0
/-- Forerunner compatibility mode of the running image (R570). -/
def State.compat (s : State) : Bool := match s.img.run with | some i => i.compat | none => false
/-- The device is the manager with its image in effect (R34). -/
def State.isManager (s : State) : Bool := decide (s.rd Reg.LNK_STATE_STATE = 5)
/-- The worker is joined. -/
def State.isJoined (s : State) : Bool := decide (s.rd Reg.LNK_STATE_STATE = 2)

/-! Sending (R348 to R350). -/

/-- A frame leaves on a port that is up: it takes the port's next LSEQ and stays in the replay buffer until acknowledged; a LACK is not repeated. -/
def State.linkSend (s : State) (p : Nat) (f : LinkFrame) : State :=
  if !s.portUp p then s
  else s.onPort p (fun x =>
    let f : LinkFrame := { f with lseq := x.lseq, flags := b2n s.sendsB }
    { x with lseq := (x.lseq + 1) % 65536, sent := f :: x.sent, replay := if f.typ = 0x0E then x.replay else x.replay ++ [{ frame := f }] })

/-- A HELLO's payload (R351). -/
def State.helloBytes (s : State) (p : Nat) : List Byte :=
  let x := s.lport p
  let flags := b2n s.img.run.isSome + 2 * b2n s.compat + 4 * b2n (s.isPairPort p) + 8 * b2n s.sendsB + 16 * b2n (s.isJoined || s.isManager)
  leBytes 1 s.hdrDev ++ leBytes 1 p ++ leBytes 1 flags ++ leBytes 1 x.lanes ++ leBytes 4 s.ownId ++ leBytes 8 s.runNs ++ leBytes 8 x.echo.1 ++
  leBytes 4 (if x.echo.1 = 0 then 0 else s.runNs - x.echo.2) ++ leBytes 4 0 ++ leBytes 8 s.digest8

/-- A HELLO leaves on a port. -/
def State.sendHello (s : State) (p : Nat) : State :=
  s.linkSend p { typ := 0x0D, src := s.hdrDev, dst := (match (s.lport p).nb with | some n => n.1 | none => 0xFF), payload := s.helloBytes p }

/-- The link is up but its HELLOs do not match: another constellation, or on the manager no declared link; ends that differ in COMPAT still match (R353, R570). -/
def State.mismatched (s : State) (p : Nat) : Bool :=
  let x := s.lport p
  s.img.run.isSome && bitOf x.nbFlags 0 &&
  (decide (x.nbId ≠ s.ownId) ||
   (match s.img.run.bind (fun (i : Img) => i.members) with
    | some m => decide (x.nb ≠ otherEnd m.links 0 p)
    | none => false))

/-- DECLARED of a port (R353, R365). -/
def State.declaredNow (s : State) (p : Nat) : Bool :=
  s.portUp p && s.img.run.isSome && bitOf (s.lport p).nbFlags 0 && !s.mismatched p && !s.isPairPort p

/-- A port carries frames other than HELLO, LACK and PAIR (R347, R353). -/
def State.carries (s : State) (p : Nat) : Bool := s.portUp p && !s.isPairPort p && !s.mismatched p

/-- A flooded frame is sent on every port that carries frames except the one it came on; one that has taken 4 hops goes no further (R348, R349). -/
def State.flood (s : State) (f : LinkFrame) (from_ : Option Nat) : State :=
  if 4 ≤ f.hop then s.count 0x1C7
  else forL ((List.range 6).filter (fun p => s.carries p && decide (some p ≠ from_))) (fun p s => s.linkSend p { f with hop := f.hop + 1 }) s

/-- Marks a flooded frame as forwarded; 64 are remembered (R349). -/
def State.noteFlood (s : State) (f : LinkFrame) : State := s.onLink (fun l => { l with seen := ((f.typ, f.src, f.tag) :: l.seen).take 64 })

/-- A routed frame goes out on the port of its next nibble; without an up port it is discarded and counted (R348). -/
def State.routeOut (s : State) (f : LinkFrame) : State :=
  let p := bitsOf f.path (4 * f.hop + 3) (4 * f.hop)
  if p < 6 ∧ s.carries p then s.linkSend p { f with hop := f.hop + 1 } else s.count 0x1C7

/-- A frame for a device by the path in effect; without one it is discarded and counted (R348, R363). -/
def State.sendTo (s : State) (dst typ tag : Nat) (payload : List Byte) : State :=
  match s.link.table.paths.look dst with
  | some e => s.routeOut { typ := typ, src := s.hdrDev, dst := dst, pathLen := e.1, path := e.2, tag := tag, payload := payload ++ List.replicate ((8 - payload.length % 8) % 8) 0 }
  | none => s.count 0x1C7

/-! Port states (R347, R350). -/

/-- The LINK_STATE payload (R351). -/
def State.linkStateBytes (s : State) : List Byte :=
  ((List.range 6).map (fun p =>
    leBytes 1 (s.rd Reg.LNK_PORT_STATE [p] + 4 * s.rd Reg.LNK_PORT_DECLARED [p] + 16 * s.rd Reg.LNK_PORT_NB_PORT [p]) ++ leBytes 1 (s.rd Reg.LNK_PORT_NB_DEV [p]))).flatten ++ leBytes 4 0

/-- A change of port state is reported in a LINK_STATE frame; the manager re-plans (R350, R363). -/
def State.reportLinks (s : State) : State :=
  let t := s.link.stateTag
  let f : LinkFrame := { typ := 0x0F, src := s.hdrDev, dst := 0xFF, tag := t, payload := s.linkStateBytes }
  let s := s.onLink (fun l => { l with stateTag := (t + 1) % 2 ^ 32, planDue := l.planDue || s.isManager })
  (s.noteFlood f).flood f none

/-- What the pair register shows of its port (R399). -/
def State.showPairLink (s : State) (p : Nat) : State := if s.isPairPort p then s.wrb Reg.GLB_PAIR_LINK_UP (s.portUp p) else s

/-- A port's bit of AGE_SPARE (R522, R531). -/
def State.spareBit (s : State) (f : Fld) (p : Nat) (v : Bool) : State := s.wr f (setBits (s.rd f) p p (b2n v))

/-- The port trains; its neighbour is forgotten (R347). -/
def State.portTrain (s : State) (p : Nat) : State :=
  let s := s.onPort p (fun x => { x with lanes := 0, spare := false, replay := [], nb := none, nbFlags := 0, nbId := 0, echo := (0, 0) })
  let s := (s.spareBit Reg.AGE_SPARE_LANE_SWAP p false).spareBit Reg.AGE_SPARE_LANE_BAD p false
  let s := ((s.wr Reg.LNK_PORT_STATE 1 [p]).wr Reg.LNK_PORT_DECLARED 0 [p]).wr Reg.LNK_PORT_NB_DEV 0xFF [p]
  ((s.wr Reg.LNK_PORT_NB_PORT 0xF [p]).wr Reg.LNK_PORT_DELAY_NS 0 [p]).showPairLink p

/-- PORT_DOWN: a port goes DOWN, is counted and retrains at once, and the change is reported (R350). -/
def State.portDown (s : State) (p : Nat) : State :=
  if !s.portUp p then s
  else ((s.portTrain p).count (0x1C0 + p)).incHold Reg.LNK_PORT_ERR_DOWNS [p] |>.reportLinks

/-- LINK_TRAINING_DONE: a port is up on the lanes that trained, and HELLO begins (R347). -/
def execLinkTrainingDone (port : Fin 6) (lanes : Fin 3) (s : State) : Out :=
  let p := port.val
  if lanes.val = 0 ∨ s.portUp p then .next s
  else
    let s := (s.onPort p (fun x => { x with lanes := lanes.val })).wr Reg.LNK_PORT_STATE (if lanes.val = 2 then 2 else 3) [p]
    .next (((s.wrb Reg.LNK_PORT_PAIR (s.isPairPort p) [p]).showPairLink p).sendHello p |>.reportLinks)

/-- HELLO_SEND: once a second a port sends HELLO (R347). -/
def execHelloSend (port : Fin 6) (s : State) : Out := .next (if s.portUp port.val then s.sendHello port.val else s)

/-- LINK_SILENCE: no block on either lane for 2 µs (R350). -/
def execLinkSilence (port : Fin 6) (s : State) : Out := .next (s.portDown port.val)

/-- A link carries payload on one lane only, with the other as its spare: forerunner mode at either end (R522, R570). -/
def State.laneZero (s : State) (p : Nat) : Bool := s.compat || bitOf (s.lport p).nbFlags 1

/-- LANE_LOSS: a lane fails; in forerunner mode the spare lane takes over from lane 0 and the frames in flight repeat; otherwise the port runs on the other lane; without one it goes DOWN (R347, R522). -/
def execLaneLoss (port : Fin 6) (lane : Fin 2) (s : State) : Out :=
  let p := port.val
  let x := s.lport p
  if !s.portUp p then .next s
  else if s.laneZero p ∧ !x.spare then
    if lane.val = 0 then
      let n := x.replay.length
      let s := (s.onPort p (fun x => { x with spare := true, sent := (x.replay.map (·.frame)).reverse ++ x.sent })).spareBit Reg.AGE_SPARE_LANE_SWAP p true
      .next (((s.countLog 0x3E7 p).count 0x1C6 n).incHold Reg.LNK_PORT_ERR_REPEATS [p] n)
    else .next ((s.onPort p (fun x => { x with spare := true })).spareBit Reg.AGE_SPARE_LANE_BAD p true)
  else if s.laneZero p then .next (s.portDown p)
  else if x.lanes = 2 then .next (((s.onPort p (fun x => { x with lanes := 1 })).wr Reg.LNK_PORT_STATE 3 [p]).reportLinks)
  else .next (s.portDown p)

/-- LACK: an acknowledged frame leaves the replay buffer (R350). -/
def execLack (port : Fin 6) (f : LinkFrame) (s : State) : Out :=
  let n := fieldLE f.payload 0 2
  .next (s.onPort port.val (fun x => { x with replay := x.replay.filter (fun r => decide (r.frame.lseq ≠ n)) }))

/-- LACK_TIMEOUT: a frame not acknowledged is repeated; when it fails at its second repeat the port goes DOWN (R350). -/
def execLackTimeout (port : Fin 6) (lseq : Nat) (s : State) : Out :=
  let p := port.val
  match (s.lport p).replay.find? (fun (r : Replay) => r.frame.lseq = lseq) with
  | none => .next s
  | some r =>
    if 2 ≤ r.repeats then .next (s.portDown p)
    else
      let s := (s.count 0x1C6).incHold Reg.LNK_PORT_ERR_REPEATS [p]
      .next (s.onPort p (fun x => { x with
        sent := r.frame :: x.sent, replay := x.replay.map (fun y => if y.frame.lseq = lseq then { y with repeats := y.repeats + 1 } else y) }))

/-- A frame that passed its CRC on an up port: acknowledged, and handled when the port may carry it (R350, R353). -/
def State.linkRx (s : State) (p : Nat) (f : LinkFrame) (k : State → State) : State :=
  if !s.portUp p then s
  else
    let s := s.linkSend p { typ := 0x0E, src := s.hdrDev, dst := f.src, payload := leBytes 2 f.lseq ++ leBytes 6 0 }
    if f.typ = 0x0D ∨ (f.typ = 0x02 ∧ s.isPairPort p) ∨ s.carries p then k s else s

/-- A path frame: handled at its destination, forwarded on the way, discarded where its path ends elsewhere (R348). -/
def State.routed (s : State) (p : Nat) (f : LinkFrame) (k : State → State) : State :=
  s.linkRx p f (fun s =>
    if f.hop < f.pathLen then s.routeOut f
    else if f.dst = s.hdrDev then k s
    else s.count 0x1C7)

/-- A flooded frame: handled and forwarded the first time (R349). -/
def State.flooded (s : State) (p : Nat) (f : LinkFrame) (k : State → State) : State :=
  s.linkRx p f (fun s =>
    if (f.typ, f.src, f.tag) ∈ s.link.seen then s
    else k ((s.noteFlood f).flood f (some p)))

/-- HELLO: the neighbour's identity, and the delay as half the round trip less its turnaround (R347, R350, R353). -/
def execHello (port : Fin 6) (f : LinkFrame) (s : State) : Out :=
  let p := port.val
  .next (s.linkRx p f (fun s =>
    let b := f.payload
    let nb := (fieldLE b 0 1, fieldLE b 1 1)
    let x := s.lport p
    let other := match x.nb with
      | some n => decide (n.2 ≠ nb.2) || (decide (n.1 ≠ nb.1) && decide (n.1 ≠ 0xFF))
      | none => false
    if other then s.portDown p
    else
      let old := s.rd Reg.LNK_PORT_DECLARED [p]
      let wasMis := s.mismatched p
      let s := s.onPort p (fun x => { x with nb := some nb, nbFlags := fieldLE b 2 1, nbId := fieldLE b 4 4, echo := (fieldLE b 8 8, s.runNs) })
      let s := (s.wr Reg.LNK_PORT_NB_DEV nb.1 [p]).wr Reg.LNK_PORT_NB_PORT (min nb.2 15) [p]
      let echo := fieldLE b 0x10 8
      let s := if echo = 0 then s else s.wr Reg.LNK_PORT_DELAY_NS (min 65535 (((s.runNs - echo) - fieldLE b 0x18 4) / 2)) [p]
      let s := s.wrb Reg.LNK_PORT_DECLARED (s.declaredNow p) [p]
      let s := if s.mismatched p && !wasMis then s.logEvent 0x40F else s
      if s.rd Reg.LNK_PORT_DECLARED [p] ≠ old ∨ x.nb ≠ some nb then s.reportLinks else s))

/-! Beacons (R355, R356). -/

/-- A clock as a fixed-point number of 2⁻³² ns. -/
def clockFix (c : Clock) : Nat := clockNs c * 2 ^ 32 + c.frac

/-- The clock of the source in effect, which D follows (R95); none for LINK before a beacon. -/
def State.sourceClk (s : State) : Option Clock :=
  match s.rd Reg.TNS_STATUS_ACTIVE with
  | 1 => some s.time.b.clk
  | 2 => s.time.link
  | _ => some s.time.a.clk

/-- Δ, source less D, in 2⁻³² ns (R95). -/
def State.deltaFix (s : State) : Int :=
  match s.sourceClk with
  | some c => (clockFix c : Int) - (clockFix s.time.d : Int)
  | none => 0

/-- q of a step: Δ truncated toward zero to a multiple of 125,000 ns (R99). -/
def State.stepQ (s : State) : Int := Int.tdiv s.deltaFix (125000 * 2 ^ 32) * 125000

/-- Δ of LINK rounded to the nearest multiple of 125,000 ns, ties away from zero (R357). -/
def State.joinQ (s : State) : Int :=
  let u : Int := 125000 * 2 ^ 32
  let d : Int := match s.time.link with
    | some c => (clockFix c : Int) - (clockFix s.time.d : Int)
    | none => 0
  if 0 ≤ d then (d + u / 2) / u * 125000 else -((-d + u / 2) / u * 125000)

/-- A beacon's payload (R355). -/
def State.beaconBytes (s : State) : List Byte :=
  let st : Nat × Nat × Int := match s.time.stepPend with | some x => (1, x.mark, s.stepQ) | none => (0, 0, 0)
  leBytes 4 s.ownId ++ leBytes 4 st.1 ++ leBytes 8 s.time.n ++ leBytes 8 (s.time.n / 8000) ++ leBytes 4 (s.time.n % 8000 * 125000) ++ leBytes 4 0 ++
  leBytes 8 st.2.1 ++ leBytes 8 (twos 64 st.2.2)

/-- BEACON_SEND: the manager that holds the lease floods a beacon at a base mark with N mod 8 = 0, unless it found a conflict; a new interval of join requests opens (R355, R357, R364, R397, R567). -/
def execBeaconSend (s : State) : Out :=
  if s.isManager ∧ s.rd Reg.LNK_STATE_CAUSE ≠ 6 ∧ s.flag Reg.GLB_PAIR_LEASE ∧ s.time.n % 8 = 0 then
    let f : LinkFrame := { typ := 0x01, src := 0, dst := 0xFF, tag := s.time.n / 8 % 2 ^ 32, payload := s.beaconBytes }
    let s := s.onLink (fun l => { l with joinCount := 0, intervalN := s.time.n })
    .next ((s.noteFlood f).flood f none)
  else .next s

/-- Limits of a rate (R94): a 32.32 increment per tick. -/
def clampIncr (x : Nat) : Nat := min (max x 0x1FF7CED92) 0x20083126E

/-- LINK disciplined by a beacon of an instant in ns: its clock, and its rate against one at least 16 ms before (R356). -/
def State.linkTime (s : State) (t : Nat) : State :=
  let run := s.runNs
  let old := s.link.beacons.find? (fun e => decide (e.1 + 16000000 ≤ run))
  let rate := match old with
    | some e => if e.2 < t then clampIncr ((t - e.2) * 2 ^ 33 / (run - e.1)) else s.time.linkIncr
    | none => s.time.linkIncr
  let s := { s with time := { s.time with link := some (clockOf t 0), linkIncr := rate } }
  s.onLink (fun l => { l with lastBeacon := some run, heard := true, beacons := ((run, t) :: l.beacons).take 32 })

/-- The unit follows beacons: a worker, a device without an image, or the unit of a paired manager without the lease (R356, R397). -/
def State.follows (s : State) : Bool := !s.isManager || (s.paired && !s.flag Reg.GLB_PAIR_LEASE)

/-- BEACON: checked, forwarded once with its correction, and followed (R355 to R357, R364). -/
def execBeacon (port : Fin 6) (f : LinkFrame) (s : State) : Out :=
  let p := port.val
  .next (s.linkRx p f (fun s =>
    let b := f.payload
    if s.img.run.isSome ∧ fieldLE b 0 4 ≠ s.ownId then s.count 0x1C7
    else if s.isManager ∧ !(s.paired ∧ bitOf f.flags 0 ≠ s.sendsB) then
      if s.rd Reg.LNK_STATE_CAUSE = 6 then s else (s.wr Reg.LNK_STATE_CAUSE 6).logEvent 0x40F
    else
      let corr := fieldLE b 0x1C 4 + s.rd Reg.LNK_PORT_DELAY_NS [p]
      let up : Option (Nat × Nat × Nat) := match s.link.upstream with
        | some (q, h, t) => if t ≠ f.tag ∨ f.hop < h then some (p, f.hop, f.tag) else some (q, h, t)
        | none => some (p, f.hop, f.tag)
      let s := s.onLink (fun l => { l with upstream := up })
      if (f.typ, f.src, f.tag) ∈ s.link.seen then s
      else
        let g : LinkFrame := { f with payload := b.take 0x1C ++ leBytes 4 corr ++ b.drop 0x20 }
        let s := (s.noteFlood f).flood g (some p)
        if !s.follows then s
        else
          let s := (s.linkTime (fieldLE b 0x10 8 % 2 ^ 48 * 1000000000 + fieldLE b 0x18 4 + corr)).wr Reg.LNK_STATE_LINK_OK 1
          let s := if (s.isJoined ∨ s.isManager) ∧ fieldLE b 4 4 % 2 = 1 then
              { s with time := { s.time with stepPend := some { mark := fieldLE b 0x20 8, ref := none, q := some (signed 64 (fieldLE b 0x28 8)) } } }
            else s
          if s.isManager then s
          else
            let st := s.rd Reg.LNK_STATE_STATE
            let s := if s.img.run.isSome ∧ (st = 0 ∨ st = 3) then s.wrCause Reg.LNK_STATE_STATE 1 7 else s
            s.onLink (fun l => { l with slot := decide (s.rd Reg.LNK_STATE_STATE = 1) && decide (f.tag % 16 = s.hdrDev % 16) && l.asked.isNone && l.joinAt.isNone })))

/-! Membership as the registers show it (R365). -/

/-- The members of a table in the registers: LNK_MEMBER, MEMBERS, N_r and HOPS. -/
def State.showTable (s : State) : State :=
  let t := s.link.table
  let s := forN 8 (fun m s => s.wr Reg.LNK_MEMBER_JOINED (forN 32 (fun b a => if (32 * m + b) ∈ t.members then a + 2 ^ b else a) 0) [m]) s
  let s := (s.wr Reg.LNK_STATE_MEMBERS t.members.length).wr64 Reg.LNK_ROUTE_LO_N_LO Reg.LNK_ROUTE_HI_N_HI t.n
  s.wr Reg.LNK_STATE_HOPS (match t.paths.look 0 with | some e => e.1 | none => 0)

/-- The imports of the running image: local point index and remote identifier. -/
def State.importDefs (s : State) : List (Nat × Nat) :=
  match s.img.run with | some i => i.imports.map (fun e => (idLocal e.1, e.2)) | none => []

/-- The route of an exporting device has failed: no path in the table in effect, or its subscription was refused (R354, R363). -/
def State.routeFailed (s : State) (dev : Nat) : Bool :=
  (s.link.table.paths.look dev).isNone || s.link.subs.any (fun x => decide (x.exporter = dev) && decide (x.status ≠ 0))

/-- Imports whose route has failed are STALE by order 4 of R119, and counted in LNK_IMPORT (R119, R354, R364, R365). -/
def State.failImports (s : State) : State :=
  let l := s.importDefs
  let bad := l.filter (fun e => s.routeFailed (idDev e.2))
  let s := forL bad (fun e s => s.onWork e.1 (fun w => { w with dropped := true })) s
  s.wr Reg.LNK_IMPORT_FAILED bad.length

/-- A worker becomes ISOLATED: it leaves the constellation and all its routes have failed (R346, R357, R364). -/
def State.isolate (s : State) : State :=
  let s := ((s.wrCause Reg.LNK_STATE_STATE 3 7).count 0x1CD).wr Reg.GLB_ROLE_DEVNUM 0
  let s := s.onLink (fun l => { l with table := { n := l.table.n, members := [], paths := [] }, next := none, subs := [], bufs := [], asked := none, joinAt := none })
  s.showTable.failImports

/-- LINK_LOSS: no beacon for 3 ms (R356, R364). -/
def execLinkLoss (s : State) : Out :=
  let gone := match s.link.lastBeacon with | some t => decide (t + 3000000 ≤ s.runNs) | none => true
  if !gone then .next s
  else
    let s := s.wr Reg.LNK_STATE_LINK_OK 0
    .next (if s.isJoined then s.isolate else s)

/-! Planning on the manager (R353, R361, R363). -/

/-- What a device reports of a port, own ports from the registers (R353, R363). -/
def State.portReports (s : State) (dev port : Nat) : List (Bool × Nat × Nat) :=
  if dev = 0 then [(s.flag Reg.LNK_PORT_DECLARED [port], s.rd Reg.LNK_PORT_NB_DEV [port], s.rd Reg.LNK_PORT_NB_PORT [port])]
  else [dev * 2, dev * 2 + 1].filterMap (fun k => (s.link.reports.look k).bind (fun (l : List (Bool × Nat × Nat)) => l[port]?))

/-- The device at the far end of a usable link of a port (R353). -/
def State.adjacent (s : State) (devs : List Nat) (dev port : Nat) : Option Nat :=
  match (s.img.run.bind (fun (i : Img) => i.members)).bind (fun (m : MemberSec) => otherEnd m.links dev port) with
  | none => none
  | some e =>
    let up (d p : Nat) (o : Nat × Nat) : Bool := (s.portReports d p).any (fun r => r.1 && decide (r.2 = o))
    if dev ∈ devs ∧ e.1 ∈ devs ∧ up dev port e ∧ up e.1 e.2 (dev, port) then some e.1 else none

/-- Path entries of a device: destination to length and nibbles. -/
def pathTab (l : List (List Nat × Nat)) : Tab (Nat × Nat) := l.foldl (fun t e => t.put e.2 (e.1.length, pathNibbles e.1)) []

/-- ROUTE_TABLE payloads of a table (R351). -/
def tableFrames (t : RouteTab) : List (List Byte) :=
  let l := t.paths
  let frags := if l.length ≤ 244 then 1 else 2
  (List.range frags).map (fun i =>
    let es := (l.drop (244 * i)).take 244
    leBytes 8 t.n ++ leBytes 1 i ++ leBytes 1 frags ++ leBytes 2 es.length ++ leBytes 4 0 ++
    ((List.range 32).map (fun b => leBytes 1 (forN 8 (fun k a => if (8 * b + k) ∈ t.members then a + 2 ^ k else a) 0))).flatten ++
    (es.map (fun e => leBytes 1 e.1 ++ leBytes 1 e.2.1 ++ leBytes 2 e.2.2)).flatten)

/-- A table is sent to a device along its new path (R363). -/
def State.sendTable (s : State) (path : Nat × Nat) (dst : Nat) (t : RouteTab) : State :=
  forL (tableFrames t) (fun b s =>
    s.routeOut { typ := 0x09, src := s.hdrDev, dst := dst, pathLen := path.1, path := path.2, tag := t.n % 2 ^ 32, payload := b ++ List.replicate ((8 - b.length % 8) % 8) 0 }) s

/-- The joined devices, the manager first. -/
def State.joinedDevs (s : State) : List Nat := 0 :: ((s.link.units.map (· / 2)).eraseDups)

/-- The manager plans for the joined devices with effect at N_r, drops those it cannot reach, and sends every one its own table (R353, R361 to R364). -/
def State.replan (s : State) (nr : Nat) : State :=
  let all := s.joinedDevs
  let devs := all.filter (fun d => !(decide (d ∈ s.link.drops)))
  let reach := pathsFrom (s.adjacent all) 0
  let mine := pathsFrom (s.adjacent devs) 0
  let members := devs.filter (fun d => decide (d = 0) || mine.any (fun e => decide (e.2 = d)))
  let tab (d : Nat) : RouteTab := { n := nr, members := members, paths := if d ∈ members then pathTab ((pathsFrom (s.adjacent members) d)) else [] }
  let s := s.onLink (fun l => { l with planDue := false, drops := [], units := l.units.filter (fun u => decide (u / 2 ∈ members)), next := some (tab 0) })
  forL reach (fun e s => s.sendTable (e.1.length, pathNibbles e.1) e.2 (tab e.2)) s

/-- LINK_STATE: the manager notes what a unit reports and re-plans in the following base cycle (R363). -/
def execLinkState (port : Fin 6) (f : LinkFrame) (s : State) : Out :=
  .next (s.flooded port.val f (fun s =>
    if !s.isManager ∨ f.src = 0xFF then s
    else
      let l := (List.range 6).map (fun p => (bitOf (fieldLE f.payload (2 * p) 1) 2 && decide (2 ≤ fieldLE f.payload (2 * p) 1 % 4), fieldLE f.payload (2 * p + 1) 1, fieldLE f.payload (2 * p) 1 / 16))
      s.onLink (fun k => { k with reports := k.reports.put (f.src * 2 + b2n (bitOf f.flags 0)) l, planDue := true })))

/-! Joining (R357). -/

/-- JOIN_REQ_SEND: a worker in its slot sends a JOIN_REQ on its upstream port (R357). -/
def execJoinReqSend (s : State) : Out :=
  match s.link.upstream, s.img.run with
  | some (p, _, _), some i =>
    if s.rd Reg.LNK_STATE_STATE = 1 ∧ s.flag Reg.LNK_STATE_LINK_OK ∧ s.link.slot then
      let t := s.link.joinTag
      let b := leBytes 1 i.devnum ++ leBytes 1 (b2n s.sendsB + 2 * b2n i.compat) ++ leBytes 2 0 ++ leBytes 4 i.serial ++ leBytes 8 s.digest8 ++
        leBytes 4 (s.reg Reg.GLB_PART_ID) ++ leBytes 4 0 ++
        ((List.range 6).map (fun p => if s.portUp p then leBytes 1 (s.rd Reg.LNK_PORT_NB_DEV [p]) ++ leBytes 1 (s.rd Reg.LNK_PORT_NB_PORT [p]) else [0xFF, 0xFF])).flatten ++ leBytes 12 0
      let s := s.onLink (fun l => { l with slot := false, joinTag := (t + 1) % 2 ^ 32, asked := some (s.runNs, t) })
      .next (s.linkSend p { typ := 0x07, src := i.devnum, dst := 0, tag := t, payload := b })
    else .next s
  | _, _ => .next s

/-- The status of a request at the manager (R357). -/
def State.joinStatus (s : State) (dev unit serial digest : Nat) : Nat :=
  match (s.img.run.bind (fun (i : Img) => i.members)).bind (fun (m : MemberSec) => m.members.find? (fun (x : MemberDef) => x.dev = dev)) with
  | none => 1
  | some m =>
    if serial < m.serialMin ∨ (m.digest8 ≠ 0 ∧ m.digest8 ≠ digest) then 2
    else if (dev * 2 + unit) ∈ s.link.units ∨ ((dev * 2 + (1 - unit)) ∈ s.link.units ∧ !m.paired) then 3
    else if (pathsFrom (s.adjacent (dev :: s.joinedDevs)) 0).any (fun e => decide (e.2 = dev)) then 0 else 4

/-- The manager answers a request whose path has been recorded (R351, R357). -/
def State.joinAnswer (s : State) (f : LinkFrame) : State :=
  let b := f.payload
  let dev := fieldLE b 0 1
  let unit := fieldLE b 1 1 % 2
  let neigh := (List.range 6).map (fun p =>
    let d := fieldLE b (0x18 + 2 * p) 1
    let q := fieldLE b (0x19 + 2 * p) 1
    (!(decide (d = 0xFF) && decide (q = 0xFF)), d, q))
  let s := s.onLink (fun l => { l with joinCount := l.joinCount + 1, reports := if l.joinCount < 16 then l.reports.put (dev * 2 + unit) neigh else l.reports })
  let st := if 16 < s.link.joinCount then 5 else s.joinStatus dev unit (fieldLE b 4 4) (fieldLE b 8 8)
  let nj := s.link.intervalN + 16
  let rev := (List.range f.hop).map (fun i => bitsOf f.path (4 * (f.hop - 1 - i) + 3) (4 * (f.hop - 1 - i)))
  let s := s.routeOut { typ := 0x08, src := 0, dst := dev, pathLen := f.hop, path := pathNibbles rev, tag := f.tag
                        payload := leBytes 1 st ++ leBytes 7 0 ++ leBytes 8 (if st = 0 then nj else 0) }
  if st = 0 then (s.onLink (fun l => { l with units := (dev * 2 + unit) :: l.units })).replan nj |>.onLink (fun l => { l with planDue := true })
  else s

/-- JOIN_REQ: the port of arrival enters the path; the manager answers, another device passes the request on upstream (R351, R357). -/
def execJoinReq (port : Fin 6) (f : LinkFrame) (s : State) : Out :=
  .next (s.linkRx port.val f (fun s =>
    if 4 ≤ f.hop ∧ !s.isManager then s.count 0x1C7
    else
      let g : LinkFrame := { f with path := setBits f.path (4 * f.hop + 3) (4 * f.hop) port.val, hop := f.hop + 1 }
      if s.isManager then s.joinAnswer g
      else match s.link.upstream with
        | some (q, _, _) => if s.carries q then s.linkSend q g else s.count 0x1C7
        | none => s.count 0x1C7))

/-- JOIN_ACK: the worker is admitted, refused or deferred (R357). -/
def execJoinAck (port : Fin 6) (f : LinkFrame) (s : State) : Out :=
  .next (s.routed port.val f (fun s =>
    match s.link.asked with
    | none => s
    | some (_, t) =>
      if t ≠ f.tag ∨ s.rd Reg.LNK_STATE_STATE ≠ 1 then s
      else
        let st := fieldLE f.payload 0 1
        let s := s.onLink (fun l => { l with asked := none })
        if st = 0 then s.onLink (fun l => { l with joinAt := some (fieldLE f.payload 8 8) })
        else if st = 5 then s.wr Reg.LNK_STATE_CAUSE 5
        else (((s.wr Reg.LNK_STATE_CAUSE st).wrCause Reg.LNK_STATE_STATE 4 7).count 0x1C9).onLink (fun l => { l with retryAt := some (s.runNs + 1000000000) })))

/-- JOIN_RETRY: no JOIN_ACK within 2 ms, or 1 s after a refusal with LINK OK (R357). -/
def execJoinRetry (s : State) : Out :=
  let s := match s.link.asked with
    | some (t, _) => if t + 2000000 ≤ s.runNs then s.onLink (fun l => { l with asked := none }) else s
    | none => s
  match s.link.retryAt with
  | some t => .next (if t ≤ s.runNs ∧ s.rd Reg.LNK_STATE_STATE = 4 ∧ s.flag Reg.LNK_STATE_LINK_OK then
      (s.wrCause Reg.LNK_STATE_STATE 1 7).onLink (fun l => { l with retryAt := none }) else s)
  | none => .next s

/-- The join mark has come: the LINK instant of N_j has passed (R357). -/
def State.joinDue (s : State) : Bool :=
  match s.link.joinAt, s.time.link with
  | some nj, some c => decide (nj * 125000 ≤ clockNs c)
  | _, _ => false

/-! Subscriptions (R354, R361). -/

/-- The format of a local point. -/
def State.fmtOf (s : State) (idx : Nat) : Nat := match s.pdef idx with | some d => d.format | none => 0

/-- One SUBSCRIBE to an exporting device, in frames of at most 126 entries (R351, R354). -/
def State.subscribe (s : State) (dev : Nat) : State :=
  let es := s.importDefs.filter (fun e => decide (idDev e.2 = dev))
  let r := s.link.subReq
  let frags := ceilDiv es.length 126
  let s := s.onLink (fun l => { l with
    subReq := (r + 1) % 65536, subs := l.subs.filter (fun x => decide (x.exporter ≠ dev)) ++ [{ exporter := dev, req := r, entries := es }]
    bufs := l.bufs.filter (fun b => decide (b.exporter ≠ dev)) })
  forN frags (fun i s =>
    let part := (es.drop (126 * i)).take 126
    s.sendTo dev 0x0A r (leBytes 2 r ++ leBytes 1 i ++ leBytes 1 frags ++ leBytes 2 part.length ++ leBytes 2 0 ++ leBytes 4 (126 * i) ++ leBytes 4 es.length ++
      (part.map (fun e => leBytes 4 e.2 ++ leBytes 1 (s.fmtOf e.1) ++ leBytes 3 0)).flatten)) s

/-- The exporting devices of the running image. -/
def State.exporters (s : State) : List Nat := (s.importDefs.map (fun e => idDev e.2)).eraseDups

/-- A subscription to every exporting device that has a path (R354). -/
def State.subscribeAll (s : State) : State :=
  forL (s.exporters.filter (fun d => (s.link.table.paths.look d).isSome)) (fun d s => s.subscribe d) s

/-- Export entries that a port may carry in a base cycle (R361). -/
def State.portCap (s : State) (p : Nat) : Nat := if s.rd Reg.LNK_PORT_STATE [p] = 3 ∨ s.laneZero p then 8192 else 16384

/-- Export entries planned across a port: own subscriptions and those that cross (R361). -/
def State.portLoad (s : State) (p : Nat) : Nat :=
  let own := (s.link.exports.filter (fun x => match s.link.table.paths.look x.importer with | some e => decide (e.2 % 16 = p) | none => false)).map (fun x => x.ids.length)
  let via := (s.link.crossing.filter (fun x => decide (x.2.2.2.2 = some p))).map (fun x => x.2.2.2.1)
  (own ++ via).foldl (· + ·) 0

/-- LNK_PORT_LOAD of the six ports. -/
def State.showLoads (s : State) : State := forN 6 (fun p s => s.wr Reg.LNK_PORT_LOAD_ENTRIES (min (s.portLoad p) 32767) [p]) s

/-- A fragment joins its set: the whole set in order once complete, otherwise none (R351). -/
def State.collect (s : State) (f : LinkFrame) (frag total : Nat) : State × Option (List (List Byte)) :=
  let unit := bitOf f.flags 0
  let same (x : FragSet) : Bool := decide (x.src = f.src) && (x.unit == unit) && decide (x.typ = f.typ) && decide (x.tag = f.tag)
  let old := (s.link.frags.find? same).getD { src := f.src, unit := unit, typ := f.typ, tag := f.tag, first := s.runNs, total := total, parts := [] }
  let cur : FragSet := { old with parts := old.parts.put frag f.payload }
  let rest := s.link.frags.filter (fun x => !same x)
  if (List.range total).all (fun i => (cur.parts.look i).isSome) then (s.onLink (fun l => { l with frags := rest }), some (cur.parts.map (·.2)))
  else (s.onLink (fun l => { l with frags := rest ++ [cur] }), none)

/-- FRAGMENT_SET_TIMEOUT: sets that are not complete 1 ms after their first fragment are discarded (R351). -/
def execFragmentSetTimeout (s : State) : Out :=
  .next (s.onLink (fun l => { l with
    frags := l.frags.filter (fun x => decide (s.runNs < x.first + 1000000)), hosts := l.hosts.filter (fun x => decide (s.runNs < x.first + 1000000)) }))

/-- The exporter judges a complete subscription: accepted with a number, or refused at the first offending entry (R354, R361). -/
def State.judgeSub (s : State) (src req : Nat) (es : List (Nat × Nat)) : State :=
  let code (e : Nat × Nat) : Nat :=
    match (if bitsOf e.1 31 25 = 0 ∧ idDev e.1 = s.hdrDev then s.pdef (idLocal e.1) else none) with
    | none => 1
    | some d => if d.format = e.2 then 0 else 2
  let ack (st no bad : Nat) (s : State) : State := s.sendTo src 0x0B req (leBytes 2 req ++ leBytes 1 st ++ leBytes 1 0 ++ leBytes 2 no ++ leBytes 2 0 ++ leBytes 4 bad ++ leBytes 4 0)
  let s := s.onLink (fun l => { l with exports := l.exports.filter (fun x => decide (x.importer ≠ src)) })
  match findIdx' (fun e => decide (code e ≠ 0)) es 0 with
  | some (i, e) => (ack (code e) 0 i s).showLoads
  | none =>
    let p := match s.link.table.paths.look src with | some e => e.2 % 16 | none => 15
    let free := s.portCap p - s.portLoad p
    if free < es.length then (ack 3 0 free s).showLoads
    else
      let no := s.link.subNo % 65535 + 1
      (ack 0 no 0xFFFFFFFF (s.onLink (fun l => { l with subNo := no, exports := l.exports ++ [{ no := no, importer := src, ids := es.map (fun e => idLocal e.1) }] }))).showLoads

/-- SUBSCRIBE: collected and judged at the exporter; one that crosses is noted with its entries (R354, R361). -/
def execSubscribe (port : Fin 6) (f : LinkFrame) (s : State) : Out :=
  let b := f.payload
  let s := if f.hop < f.pathLen then
      s.onLink (fun l => { l with crossing := l.crossing.filter (fun x => !(decide (x.1 = f.src) && decide (x.2.1 = f.dst))) ++ [(f.src, f.dst, f.tag, fieldLE b 0xC 4, none)] })
    else s
  .next (s.routed port.val f (fun s =>
    match s.collect f (fieldLE b 2 1) (fieldLE b 3 1) with
    | (s, some parts) =>
      let es := (parts.map (fun q => (recordsOf (q.drop 16) 8 (fieldLE q 4 2)).map (fun r => (fieldLE r 0 4, fieldLE r 4 1)))).flatten
      s.judgeSub f.src (fieldLE b 0 2) es
    | (s, none) => s))

/-- SUB_ACK: the importer's subscription is accepted or refused; one that crosses settles the load it adds (R354, R361). -/
def execSubAck (port : Fin 6) (f : LinkFrame) (s : State) : Out :=
  let b := f.payload
  let s := if f.hop < f.pathLen then
      let out := bitsOf f.path (4 * f.hop + 3) (4 * f.hop)
      (s.onLink (fun l => { l with crossing := l.crossing.map (fun x =>
        if x.1 = f.dst ∧ x.2.1 = f.src ∧ x.2.2.1 = f.tag then (x.1, x.2.1, x.2.2.1, x.2.2.2.1, if fieldLE b 2 1 = 0 then some out else none) else x) })).showLoads
    else s
  .next (s.routed port.val f (fun s =>
    let req := fieldLE b 0 2
    if !(s.link.subs.any (fun x => decide (x.exporter = f.src) && decide (x.req = req))) then s
    else
      let st := fieldLE b 2 1
      let s := s.onLink (fun l => { l with subs := l.subs.map (fun x =>
        if x.exporter = f.src ∧ x.req = req then { x with no := if st = 0 then some (fieldLE b 4 2) else none, status := st, bad := fieldLE b 8 4 } else x) })
      let s := if st = 0 then s else s.count 0x1CC
      s.failImports))

/-! Exports and imports (R359). -/

/-- EXPORT frames are sent in this pair state, for cut k (R386, R394, R567). -/
def State.exportSends (s : State) (k : Nat) : Bool :=
  !s.fab.frozen && (decide (s.pairSt ∈ [0, 2, 5]) || (decide (s.pairSt = 7) && (match s.pair.hand with | some h => decide (k < h) | none => false)))

/-- After the seal of cut k the exporter sends every subscription's entries, 63 a frame (R359). -/
def State.exportMark (s : State) : State :=
  let k := s.pts.cutN
  if !s.exportSends k then s
  else forL s.link.exports (fun x s =>
    forN (ceilDiv x.ids.length 63) (fun i s =>
      let part := (x.ids.drop (63 * i)).take 63
      s.sendTo x.importer 0x03 (k % 2 ^ 32) (leBytes 2 x.no ++ leBytes 2 (63 * i) ++ leBytes 2 part.length ++ leBytes 2 0 ++
        (part.map (fun idx =>
          let e := s.cutAt idx
          leBytes 4 e.value.toNat ++ leBytes 1 (qualCode e.quality) ++ leBytes 3 0 ++ leBytes 8 e.time)).flatten)) s) s

/-- The full number of a cut whose low 32 bits are given, the nearest to N. -/
def nearN (n low : Nat) : Nat :=
  let d := signed 32 (twos 32 ((low : Int) - (n : Int)))
  ((n : Int) + d).toNat

/-- EXPORT: a frame of cut j is accepted until the mark that starts cycle j + 2, and discarded as late after it (R359). -/
def execExportRx (port : Fin 6) (f : LinkFrame) (s : State) : Out :=
  .next (s.routed port.val f (fun s =>
    let b := f.payload
    let j := nearN s.time.n f.tag
    if j + 2 ≤ s.time.n then (s.count 0x1C8).incHold Reg.LNK_LATE_COUNT
    else
      let no := fieldLE b 0 2
      let unit := bitOf f.flags 0
      let same (x : ImportBuf) : Bool := decide (x.exporter = f.src) && decide (x.no = no) && (x.unit == unit) && decide (x.cut = j)
      let old := (s.link.bufs.find? same).getD { exporter := f.src, no := no, unit := unit, cut := j }
      let first := fieldLE b 2 2
      let es := (List.range (fieldLE b 4 2)).map (fun i => (first + i, wordLE b (8 + 16 * i), fieldLE b (12 + 16 * i) 1, fieldLE b (16 + 16 * i) 8))
      let cur : ImportBuf := { old with entries := es.foldl (fun t e => t.put e.1 e.2) old.entries }
      s.onLink (fun l => { l with bufs := l.bufs.filter (fun x => !same x) ++ [cur] })))

/-- The quality of a code. -/
def qualOf (c : Nat) : Quality :=
  match c with
  | 0 => .good | 1 => .notYet | 2 => .stale | 3 => .forced | 4 => .substituted | 5 => .outOfRange | _ => .absent

/-- IMPORT_APPLY at the mark that starts cycle N: every subscription complete for cut N − 2 is written into its import points, the first complete copy of a pair (R359). -/
def State.importMark (s : State) : State :=
  let n := s.time.n
  let s := forL s.link.subs (fun x s =>
    match s.link.bufs.find? (fun (b : ImportBuf) => decide (b.exporter = x.exporter) && decide (some b.no = x.no) && decide (b.cut + 2 = n) && decide (b.entries.length = x.entries.length)) with
    | none => s
    | some b => forL (x.entries.zip b.entries) (fun e s =>
        (s.ownerWrite e.1.1 e.2.2.1 e.2.2.2.2).onWork e.1.1 (fun w => { w with inQ := qualOf e.2.2.2.1, dropped := false })) s) s
  s.onLink (fun l => { l with bufs := l.bufs.filter (fun b => decide (n < b.cut + 2)) })

/-! Route tables (R363, R364). -/

/-- ROUTE_TABLE: held for its mark once complete; a later table supersedes one that waits (R363). -/
def execRouteTable (port : Fin 6) (f : LinkFrame) (s : State) : Out :=
  .next (s.routed port.val f (fun s =>
    match s.collect f (fieldLE f.payload 8 1) (fieldLE f.payload 9 1) with
    | (s, some parts) =>
      let b := parts.headD []
      let members := (List.range 256).filter (fun d => bitOf (fieldLE b (0x10 + d / 8) 1) (d % 8))
      let es := (parts.map (fun q => (recordsOf (q.drop 0x30) 4 (fieldLE q 0xA 2)).map (fun r => (fieldLE r 0 1, fieldLE r 1 1, fieldLE r 2 2)))).flatten
      let t : RouteTab := { n := fieldLE b 0 8, members := members, paths := es.foldl (fun t e => t.put e.1 e.2) [] }
      s.onLink (fun l => { l with next := some t })
    | (s, none) => s))

/-- ROUTE_TABLE_APPLY: at N_r the new paths hold; unreachable exporters' imports take STALE, returning ones are subscribed again, and a worker that is no member is ISOLATED (R354, R363, R364). -/
def State.tableMark (s : State) : State :=
  match s.link.next with
  | none => s
  | some t =>
    if s.time.n < t.n then s
    else if s.isJoined ∧ !(s.hdrDev ∈ t.members) then (s.onLink (fun l => { l with next := none })).isolate
    else
      let old := s.link.table.paths
      let s := (s.onLink (fun l => { l with table := t, next := none, exports := l.exports.filter (fun x => decide (x.importer ∈ t.members)) })).count 0x1CB |>.cause 7
      let back := s.exporters.filter (fun d => (t.paths.look d).isSome && ((old.look d).isNone || !(s.link.subs.any (fun x => decide (x.exporter = d)))))
      let s := if s.isJoined ∨ s.isManager then forL back (fun d s => s.subscribe d) s else s
      s.showTable.failImports.showLoads

/-- The join mark's effects after its step of D (R346, R357): DEVNUM, JOINED and the forced source. -/
def State.joinFinish (s : State) : State :=
  let s := (s.wr Reg.GLB_ROLE_DEVNUM s.hdrDev).wrCause Reg.LNK_STATE_STATE 2 7
  ((s.wr Reg.LNK_STATE_CAUSE 0).wr Reg.TNS_CTL_DSEL 2).onLink (fun l => { l with joinAt := none, subs := [] })

/-- The links at a base mark: the manager's re-plan for the previous cycle's changes, and an interval without a beacon (R363, R366). -/
def State.linkMark (s : State) : State :=
  let s := if s.isManager ∧ s.link.planDue then s.replan (s.time.n + 16) else s
  if s.time.n % 8 = 0 then
    let s := if s.isJoined ∧ !s.link.heard then s.count 0x1CA else s
    s.onLink (fun l => { l with heard := false })
  else s

/-- The links when an image takes effect: the manager's state, or a worker that listens (R34, R346, R357); `keep` at a splice, with `resub` when it changes the routes section (R354). -/
def State.linkBegin (s : State) (keep resub : Bool) : State :=
  match s.img.run with
  | none => s
  | some i =>
    let s := forN 6 (fun p s => s.wrb Reg.LNK_PORT_DECLARED (s.declaredNow p) [p]) s
    let s := if keep then
        if resub then
          let s := s.onLink (fun l => { l with subs := l.subs.filter (fun x => decide (x.exporter ∈ s.exporters)) })
          if s.isJoined ∨ s.isManager then s.subscribeAll.showLoads else s
        else s
      else
        let m := decide (i.role = 1)
        let s := s.wrCause Reg.LNK_STATE_STATE (if m then 5 else 0) 7
        (s.onLink (fun l => { l with
          table := { n := s.time.n, members := if m then [0] else [], paths := [] }, next := none, subs := [], exports := [], bufs := [], units := []
          planDue := m, drops := [], asked := none, joinAt := none, retryAt := none, slot := false })).showTable
    let s := forN 6 (fun p s => if s.portUp p then s.sendHello p else s) s
    s.reportLinks.failImports

/-! Commands relayed to other devices (R360). -/

/-- A command record's 64 bytes (R464). -/
def cmdRecBytes (ref : CmdRef) (op : Nat) (args : List Nat) : List Byte :=
  leBytes 2 op ++ leBytes 1 (b2n ref.irq + 2 * b2n ref.fence + 4 * b2n ref.bufHost) ++ leBytes 1 0 ++ leBytes 4 ref.tag ++ leBytes 8 ref.bufAddr ++ leBytes 4 ref.bufLen ++ leBytes 4 0 ++
  ((List.range 10).map (fun i => leBytes 4 (args.getD i 0))).flatten

/-- The flags byte of a completion record without PHASE (R466). -/
def cplFlags (c : Cpl) : Nat := 2 * b2n c.final + 4 * b2n c.ref.relayed + 8 * b2n c.stwRestart

/-- A completion record's 32 bytes (R466). -/
def cplRecBytes (c : Cpl) (phase : Bool) (stamp : Nat) : List Byte :=
  leBytes 4 c.ref.handle ++ leBytes 1 (statusCode c.status) ++ leBytes 1 (b2n phase + cplFlags c) ++ leBytes 2 c.ref.op ++ leBytes 4 c.ref.tag ++ leBytes 4 c.detail ++
  leBytes 8 c.result ++ leBytes 4 c.data.length ++ leBytes 4 stamp

/-- HOST frames of data, at most 1,008 bytes each (R351). -/
def State.sendData (s : State) (dev handle kind : Nat) (data : List Byte) : State :=
  forN (ceilDiv data.length 1008) (fun i s =>
    let part := (data.drop (1008 * i)).take 1008
    s.sendTo dev 0x0C handle (leBytes 1 kind ++ leBytes 3 0 ++ leBytes 4 (1008 * i) ++ leBytes 4 part.length ++ leBytes 4 0 ++ part)) s

/-- A point command's answer as POINT_RSP frames of at most 31 entries (R351, R360). -/
def State.sendPointRsp (s : State) (dev : Nat) (c : Cpl) : State :=
  let n := c.data.length / 32
  let frags := max 1 (ceilDiv n 31)
  forN frags (fun i s =>
    let part := (c.data.drop (992 * i)).take 992
    s.sendTo dev 0x05 c.ref.handle (leBytes 1 (statusCode c.status) ++ leBytes 1 (part.length / 32) ++ leBytes 1 i ++ leBytes 1 frags ++ leBytes 4 c.detail ++ leBytes 8 c.result ++ part)) s

/-- What waits to leave for other devices leaves: relayed commands with their input, completions with their output, and alignment requests (R282, R360). -/
def State.linkFlush (s : State) : State :=
  let s := forL (s.host.relays.filter (fun r => !r.sent)) (fun r s =>
    let s := s.sendTo r.dev 0x0C r.ref.handle (leBytes 1 1 ++ leBytes 15 0 ++ cmdRecBytes r.ref r.op r.args)
    s.sendData r.dev r.ref.handle 3 (argBytes r.args 10)) s
  let s := { s with host := { s.host with relays := s.host.relays.map (fun (r : Relay) => if r.sent then r else { r with sent := true, sentAt := s.runNs }) } }
  let s := forL s.host.remote (fun c s =>
    match c.ref.origin with
    | none => s
    | some dev =>
      if c.ref.op / 256 = 2 then s.sendPointRsp dev c else
      let s := s.sendData dev c.ref.handle 4 c.data
      s.sendTo dev 0x0C c.ref.handle (leBytes 1 2 ++ leBytes 15 0 ++ cplRecBytes { c with ref := { c.ref with relayed := true } } false (stamp32 s.time.d))) s
  let s := { s with host := { s.host with remote := [] } }
  let s := forL s.acq.publish.reverse (fun e s =>
    let t := s.link.alignTag
    let f : LinkFrame := { typ := 0x06, src := s.hdrDev, dst := 0xFF, tag := t, payload := leBytes 1 e.1 ++ leBytes 7 0 ++ leBytes 8 (stampAt e.2) }
    ((s.onLink (fun l => { l with alignTag := (t + 1) % 2 ^ 32 })).noteFlood f).flood f none) s
  { s with acq := { s.acq with publish := [] } }

/-- ALIGN_FRAME: an alignment request reaches this device's subscribers and goes on (R282, R349). -/
def execAlignFrame (port : Fin 6) (f : LinkFrame) (s : State) : Out :=
  .next (s.flooded port.val f (fun s => s.alignRx (fieldLE f.payload 0 1) (fieldLE f.payload 8 8)))

/-- A command enters its executor's queue (R469). -/
def State.toExecutor (s : State) (c : Fetched) : State :=
  if c.executor = .steward then { s with host := { s.host with steward := { s.host.steward with queue := s.host.steward.queue ++ [c] } } }
  else { s with host := { s.host with waiting := s.host.waiting ++ [c] } }

/-- The data of a set, in order of its offsets, when it has the length expected. -/
def hostData (h : HostSet) (n : Nat) : Option (List Byte) :=
  let d := (h.data.map (·.2)).flatten
  if n ≤ d.length then some (d.take n) else none

/-- The status of a code. -/
def statusOf (c : Nat) : Status :=
  match c with
  | 0 => .ok | 1 => .acceptedLong | 2 => .busy | 3 => .denied | 4 => .needsSecond | 5 => .invalid
  | 6 => .collision | 7 => .torn | 8 => .certFail | 9 => .absent | 10 => .overflow | 11 => .timeout | _ => .aborted

/-- A CONST_WRITE is complete when its mark has come here and every device has answered OK (R362). -/
def State.constDone (s : State) (j : ConstJob) : State :=
  let rest := s.link.consts.filter (fun x => decide (x.ref ≠ j.ref))
  if j.waiting.isEmpty ∧ j.written then (s.onLink (fun l => { l with consts := rest })).complete j.ref .ok 0 j.n
  else s.onLink (fun l => { l with consts := rest ++ [j] })

/-- A device answers its part of a CONST_WRITE (R362). -/
def State.constAnswer (s : State) (dev handle : Nat) (st : Status) (final : Bool) (detail : Nat) : State :=
  let same (x : Relay) : Bool := decide (x.dev = dev) && decide (x.ref.handle = handle)
  if !final then { s with host := { s.host with relays := s.host.relays.map (fun x => if same x then { x with accepted := true } else x) } }
  else
    let s := { s with host := { s.host with relays := s.host.relays.filter (fun x => !same x) } }
    match s.link.consts.find? (fun (j : ConstJob) => j.ref.handle = handle) with
    | none => s
    | some j =>
      if st = .ok then s.constDone { j with waiting := j.waiting.filter (fun d => decide (d ≠ dev)) }
      else (s.onLink (fun l => { l with consts := l.consts.filter (fun x => decide (x.ref ≠ j.ref)) })).complete j.ref st detail

/-- A relayed command's answer returns: an acknowledgement or the final record; one that no relay awaits is discarded (R360). -/
def State.relayAnswer (s : State) (dev handle : Nat) (rec : List Byte) (data : List Byte) : State :=
  match s.host.relays.find? (fun (r : Relay) => decide (r.dev = dev) && decide (r.ref.handle = handle)) with
  | none => s
  | some r =>
    if r.op = 0x0B04 then s.constAnswer dev handle (statusOf (fieldLE rec 4 1)) (bitOf (fieldLE rec 5 1) 1) (fieldLE rec 12 4) else
    let same (x : Relay) : Bool := decide (x.dev = dev) && decide (x.ref.handle = handle)
    let c : Cpl := { ref := { r.ref with relayed := true }, status := statusOf (fieldLE rec 4 1), final := bitOf (fieldLE rec 5 1) 1, stwRestart := bitOf (fieldLE rec 5 1) 3
                     detail := fieldLE rec 12 4, result := fieldLE rec 16 8, data := data }
    if c.final then ({ s with host := { s.host with relays := s.host.relays.filter (fun x => !same x) } }).post c
    else ({ s with host := { s.host with relays := s.host.relays.map (fun x => if same x then { x with accepted := true } else x) } }).post c

/-- HOST_FRAME: a relayed command, its data or its completion; a command enters its executor once all of it has come (R351, R360). -/
def execHostFrame (port : Fin 6) (f : LinkFrame) (s : State) : Out :=
  .next (s.routed port.val f (fun s =>
    let b := f.payload
    let kind := fieldLE b 0 1
    let command := decide (kind = 1) || decide (kind = 3)
    let same (x : HostSet) : Bool := decide (x.src = f.src) && decide (x.handle = f.tag) && (x.command == command)
    let old := (s.link.hosts.find? same).getD { src := f.src, handle := f.tag, command := command, first := s.runNs }
    let cur : HostSet := if kind = 1 then { old with record := some (slice b 16 64) }
      else if kind = 2 then { old with record := some (slice b 16 32) }
      else { old with data := old.data.put (fieldLE b 4 4) (slice b 16 (fieldLE b 8 4)) }
    let rest := s.link.hosts.filter (fun x => !same x)
    let keep := s.onLink (fun l => { l with hosts := rest ++ [cur] })
    match cur.record with
    | none => keep
    | some r =>
      if command then
        match hostData cur (fieldLE r 16 4) with
        | none => keep
        | some d =>
          let op := fieldLE r 0 2
          let ref : CmdRef := { ring := f.tag / 2 ^ 25, handle := f.tag, tag := fieldLE r 4 4, relayed := true, op := op, origin := some f.src, bufLen := fieldLE r 16 4 }
          let args := (List.range 10).map (fun i => fieldLE r (24 + 4 * i) 4) ++ (bytesWords (d.length / 4) d).map (·.toNat)
          (s.onLink (fun l => { l with hosts := rest })).toExecutor { ref := ref, args := args, executor := executorOf op }
      else
        match hostData cur (fieldLE r 24 4) with
        | none => keep
        | some d => (s.onLink (fun l => { l with hosts := rest })).relayAnswer f.src f.tag r d))

/-! Commands (R367). -/

/-- CONST_READ: LNK_STATE, LNK_MEMBER and the port registers of a named device. -/
def execConstRead (ref : CmdRef) (args : List Nat) (s : State) : Out :=
  let dev := argN args 0
  .next (s.command ref 0x0B01 [(decide (args.length < 1 ∨ 256 ≤ dev), .invalid, 0), noRoom ref 108] [] (fun ref s =>
    s.here dev true ref 0x0B01 args (fun s =>
      s.complete ref .ok 0 0 (leBytes 4 (s.reg Reg.LNK_STATE) ++ ((List.range 8).map (fun m => leBytes 4 (s.reg Reg.LNK_MEMBER [m]))).flatten ++
        ((List.range 6).map (fun p => leBytes 4 (s.reg Reg.LNK_PORT [p]) ++ leBytes 4 (s.reg Reg.LNK_PORT_ERR [p]) ++ leBytes 4 (s.reg Reg.LNK_PORT_LOAD [p]))).flatten))))

/-- ROUTE_READ: the paths in effect on a named device, with N_r. -/
def execRouteRead (ref : CmdRef) (args : List Nat) (s : State) : Out :=
  let dev := argN args 0
  .next (s.command ref 0x0B02 [(decide (args.length < 1 ∨ 256 ≤ dev), .invalid, 0)] [] (fun ref s =>
    s.here dev true ref 0x0B02 args (fun s =>
      let d := (s.link.table.paths.map (fun e => leBytes 1 e.1 ++ leBytes 1 e.2.1 ++ leBytes 2 e.2.2)).flatten
      if ref.bufLen < d.length then s.complete ref .invalid else s.complete ref .ok 0 s.link.table.n d)))

/-- IMPORT_READ: up to 64 import records of a device from an index, with subscription number and status: arguments device, first index, count. -/
def execImportRead (ref : CmdRef) (args : List Nat) (s : State) : Out :=
  let dev := argN args 0
  let n := argN args 2
  .next (s.command ref 0x0B03 [(decide (args.length < 3 ∨ 256 ≤ dev ∨ n < 1 ∨ 64 < n), .invalid, 0), noRoom ref (16 * n)] [] (fun ref s =>
    s.here dev true ref 0x0B03 args (fun s =>
      let defs := match s.img.run with | some i => i.imports | none => []
      let l := (defs.drop (argN args 1)).take n
      if l.isEmpty then s.complete ref .absent
      else s.complete ref .ok 0 0 ((l.map (fun e =>
        let sub := s.link.subs.find? (fun (x : ImportSub) => x.exporter = idDev e.2)
        leBytes 4 e.1 ++ leBytes 4 e.2 ++ (match sub with
          | some x => leBytes 2 (x.no.getD 0) ++ leBytes 1 x.status ++ leBytes 1 (b2n (s.routeFailed (idDev e.2))) ++ leBytes 4 x.bad
          | none => leBytes 2 0 ++ leBytes 1 0 ++ leBytes 1 (b2n (s.routeFailed (idDev e.2))) ++ leBytes 4 0xFFFFFFFF))).flatten))))

/-- MEMBER_DROP: on the manager, a worker leaves membership at N_r of the re-plan that follows. -/
def execMemberDrop (ref : CmdRef) (args : List Nat) (s : State) : Out :=
  let dev := argN args 0
  .next (s.command ref 0x0B05 [(decide (args.length < 1 ∨ 256 ≤ dev ∨ dev = 0) || !s.isManager, .invalid, 0), (!(decide (dev ∈ s.joinedDevs)), .absent, 0)] [] (fun ref s =>
    (s.onLink (fun l => { l with drops := dev :: l.drops, planDue := true })).complete ref .ok))

/-- LINK_RETRAIN: a port of this device retrains. -/
def execLinkRetrain (ref : CmdRef) (args : List Nat) (s : State) : Out :=
  let p := argN args 0
  .next (s.command ref 0x0B06 [(decide (args.length < 1 ∨ 6 ≤ p), .invalid, 0)] [] (fun ref s => ((s.portDown p).portTrain p).complete ref .ok))

end Sys2Proof.Machine
end

