-- ==== Sys2Proof/Machine/PointCmds.lean ====
section
/-! DEFINITION. The point commands over one or several devices, and CONST_WRITE (R123 to R129, R360, R362). -/

namespace Sys2Proof.Machine

/-- Identifiers with values of a command: pairs after a count; commands without values carry identifiers only. -/
def pointItems (op : Nat) (args : List Nat) (skip : Nat) : List (Nat × Word) :=
  let n := argN args 0
  if op = 0x0202 ∨ op = 0x0203 ∨ op = 0x0B04 then (List.range n).map (fun i => (argN args (1 + skip + 2 * i), BitVec.ofNat 32 (argN args (2 + skip + 2 * i))))
  else (List.range n).map (fun i => (argN args (1 + skip + i), 0))

/-- Argument words that the items of a command take. -/
def itemWords (op n skip : Nat) : Nat := 1 + skip + (if op = 0x0202 ∨ op = 0x0203 ∨ op = 0x0B04 then 2 * n else n)

/-- The definition of an identifier of this device. -/
def State.idDef (s : State) (id : Nat) : Option PointDef := if idDev id = s.ownDev then s.pdef (idLocal id) else none

/-- An item's value is admitted by its point's format (R117); an item without a definition is judged later. -/
def State.itemOk (s : State) (e : Nat × Word) : Bool := match s.idDef e.1 with | some d => !valInvalid d e.2 | none => true

/-- The refusals of a point command on points of this device (R114, R117, R123, R125, R568). -/
def State.pointPre (s : State) (op : Nat) (items : List (Nat × Word)) : List Check :=
  [badAt (fun e => decide (bitsOf e.1 31 25 = 0)) items .invalid (if op = 0x0B04 then 3 else 0),
   (if op = 0x0202 ∨ op = 0x0203 ∨ op = 0x0B04 then badAt s.itemOk items .invalid (if op = 0x0B04 then 3 else 0) else (false, .ok, 0)),
   badAt (fun e => (s.idDef e.1).isSome) items .absent]

/-- The refusals for ownership and for the state of the object. -/
def State.pointSuf (s : State) (op : Nat) (items : List (Nat × Word)) : List Check :=
  let all (f : PointDef → Bool) : Bool := items.all (fun e => match s.idDef e.1 with | some d => f d | none => true)
  if op = 0x0202 ∨ op = 0x0B04 then [(!all PointDef.hostOwned, .denied, 7)]
  else if op = 0x0203 then [(!all (fun d => d.forcible && decide (d.ownerKind ≠ 6)), .denied, 6),
    (!forceFits (items.map (fun e => idLocal e.1)) (forcedAfter s.pts.forceReqs s.forcedPoints), .overflow, 0)]
  else []

/-- A point command on points of this device takes effect: entries of the last sealed cut, definition records, writes and forces latched for the next mark (R124, R125, R127). -/
def State.pointTake (s : State) (ref : CmdRef) (op : Nat) (items : List (Nat × Word)) : State :=
  let ids := items.map (fun e => idLocal e.1)
  match op with
  | 0x0201 => s.complete ref .ok 0 s.pts.cutN ((ids.map (fun i => match s.pdef i with | some d => entryBytes (s.defNow d) (s.cutAt i) | none => [])).flatten)
  | 0x0202 => s.onPts (fun p => { p with hostWrites := p.hostWrites ++ items.map (fun e => { idx := idLocal e.1, value := e.2, ref := ref }) })
  | 0x0203 => s.onPts (fun p => { p with forceReqs := p.forceReqs ++ items.map (fun e => { idx := idLocal e.1, value := some e.2, ref := ref }) })
  | 0x0204 => s.onPts (fun p => { p with forceReqs := p.forceReqs ++ ids.map (fun i => { idx := i, value := none, ref := ref }) })
  | _ => s.complete ref .ok 0 s.pts.cutN ((ids.map (fun i => match s.pdef i with | some d => defBytes (s.defNow d) | none => [])).flatten)

/-- What a refused point command counts: a write that is not host-owned, a force at the limit (R123, R125). -/
def State.pointRefused (s : State) (op : Nat) (r : Status × Nat) : State :=
  if r = (.denied, 7) ∧ op ≠ 0x0B04 then s.count 0x210
  else if r.1 = .overflow then (s.count 0x212).wr Reg.GLB_PT_FORCE_LIMIT 1
  else s

/-- A point command whose points are all of this device. -/
def State.pointLocal (s : State) (ref : CmdRef) (op : Nat) (items : List (Nat × Word)) : State :=
  let ref := { ref with op := op }
  match judge (s.pointPre op items ++ s.gate op ++ s.pointSuf op items) with
  | some r => (s.pointRefused op r).complete ref r.1 r.2
  | none => s.pointTake ref op items

/-- The OP code of a POINT_REQ (R351). -/
def pointOp (op : Nat) : Nat := if op = 0x0201 then 1 else if op = 0x0202 then 2 else if op = 0x0203 then 3 else if op = 0x0204 then 4 else 5

/-- A POINT_REQ to a device (R351, R360). -/
def State.sendPointReq (s : State) (dev handle op : Nat) (items : List (Nat × Word)) : State :=
  s.sendTo dev 0x04 handle (leBytes 1 (pointOp op) ++ leBytes 1 items.length ++ leBytes 6 0 ++ (items.map (fun e => leBytes 4 e.1 ++ leBytes 4 e.2.toNat)).flatten)

/-- The devices that the items name, each once. -/
def itemDevs (items : List (Nat × Word)) : List Nat := (items.map (fun e => idDev e.1)).eraseDups

/-- The items of one device with their places in the command. -/
def itemsOf (items : List (Nat × Word)) (dev : Nat) : List (Nat × Nat × Word) := ((List.range items.length).zip items).filter (fun e => decide (idDev e.2.1 = dev))

/-- Room for what a point command returns. -/
def pointRoom (ref : CmdRef) (op n devs : Nat) : Check :=
  noRoom ref ((if op = 0x0201 ∨ op = 0x0206 then 32 * n else 0) + (if 1 < devs then 16 * devs else 0))

/-- A point command of the host (R113, R114, R127): judged here when all its points are of this device; otherwise each other device is asked for its part, and the writes and forces of this device's part are latched at once (R124, R125, R129); a part is judged by the modes of its own device (R568). -/
def State.pointCommand (s : State) (ref : CmdRef) (op : Nat) (args : List Nat) : State :=
  let n := argN args 0
  let items := pointItems op args 0
  let ref := { ref with op := op }
  let devs := itemDevs items
  let others := devs.filter (fun d => decide (d ≠ s.ownDev))
  let pre := [(decide (n < 1 ∨ 64 < n ∨ args.length < itemWords op n 0), Status.invalid, 0), pointRoom ref op n devs.length]
  match judge pre with
  | some r => s.complete ref r.1 r.2
  | none =>
    if s.img.run.isNone ∨ others.isEmpty then s.pointLocal ref op items
    else
      let mine := items.filter (fun e => decide (idDev e.1 = s.ownDev))
      let check := [badAt (fun e => decide (bitsOf e.1 31 25 = 0)) items .invalid, badAt (fun e => decide (idDev e.1 = s.ownDev) || s.joined (idDev e.1)) items .absent] ++
        (if mine.isEmpty then [] else s.pointPre op mine ++ s.gate op ++ s.pointSuf op mine)
      match judge check with
      | some r => (s.pointRefused op r).complete ref r.1 r.2
      | none =>
        let s := forL others (fun d s => s.sendPointReq d ref.handle op ((itemsOf items d).map (·.2))) s
        let read := decide (op = 0x0201 ∨ op = 0x0206)
        let own := if read || mine.isEmpty then [] else [s.ownDev]
        let s : State := { s with host := { s.host with jobs := s.host.jobs ++ [{ ref := ref, op := op, items := items, sentAt := s.runNs, waiting := others ++ own, answers := [] }] } }
        if own.isEmpty then s else s.pointTake ref op mine

/-- POINT_READ (R127). -/
def execPointRead (ref : CmdRef) (args : List Nat) (s : State) : Out := .next (s.pointCommand ref 0x0201 args)
/-- POINT_WRITE (R123, R124). -/
def execPointWrite (ref : CmdRef) (args : List Nat) (s : State) : Out := .next (s.pointCommand ref 0x0202 args)
/-- POINT_FORCE (R125). -/
def execPointForce (ref : CmdRef) (args : List Nat) (s : State) : Out := .next (s.pointCommand ref 0x0203 args)
/-- POINT_UNFORCE (R125). -/
def execPointUnforce (ref : CmdRef) (args : List Nat) (s : State) : Out := .next (s.pointCommand ref 0x0204 args)
/-- DEFINE_READ (R127). -/
def execDefineRead (ref : CmdRef) (args : List Nat) (s : State) : Out := .next (s.pointCommand ref 0x0206 args)

/-- FORCE_LIST: identifiers and forced values of all points of one device that a force held at the last sealed cut, and the N of that cut (R127). -/
def execForceList (ref : CmdRef) (args : List Nat) (s : State) : Out :=
  let dev := argN args 0
  .next (s.command ref 0x0205 [(decide (args.length < 1 ∨ 256 ≤ dev), .invalid, 0), (s.img.run.isNone && decide (dev ≠ s.ownDev), .absent, 0)] [] (fun ref s =>
    s.here dev true ref 0x0205 args (fun s =>
      let d := (s.cut.work.map (fun e => match e.2.force with | some v => leBytes 4 (s.ownDev * 131072 + e.1) ++ leBytes 4 v.toNat | none => [])).flatten
      if ref.bufLen < d.length then s.complete ref .invalid else s.complete ref .ok 0 s.pts.cutN d)))

/-- POINT_REQ: a point command of another device is carried out here and answered by POINT_RSP (R360). -/
def execPointReq (port : Fin 6) (f : LinkFrame) (s : State) : Out :=
  .next (s.routed port.val f (fun s =>
    let b := f.payload
    let op := match fieldLE b 0 1 with | 1 => 0x0201 | 2 => 0x0202 | 3 => 0x0203 | 4 => 0x0204 | _ => 0x0206
    let items := (recordsOf (b.drop 8) 8 (fieldLE b 1 1)).map (fun r => (fieldLE r 0 4, wordLE r 4))
    let ref : CmdRef := { ring := f.tag / 2 ^ 25, handle := f.tag, tag := 0, relayed := true, op := op, origin := some f.src, bufLen := 4096 }
    if items.isEmpty ∨ 64 < items.length then s.complete ref .invalid else s.pointLocal ref op items))

/-! CONST_WRITE (R362). -/

/-- The checked writes of a CONST_WRITE go out: to this device's own points for the mark, and to each other device. -/
def State.constSend (s : State) (j : PointJob) : State :=
  let mine := (j.items.filter (fun e => decide (idDev e.1 = s.ownDev))).map (fun e => (idLocal e.1, e.2))
  let others := (itemDevs j.items).filter (fun d => decide (d ≠ s.ownDev))
  let relays := others.map (fun d =>
    let part := (itemsOf j.items d).map (·.2)
    let all := [part.length, j.mark % 2 ^ 32, j.mark / 2 ^ 32] ++ (part.map (fun e => [e.1, e.2.toNat])).flatten
    let args := all ++ List.replicate (10 - all.length) 0
    let r : Relay := { dev := d, ref := { j.ref with bufLen := 4 * (args.length - 10) }, op := 0x0B04, args := args, sentAt := s.runNs }
    r)
  let s := { s with host := { s.host with relays := s.host.relays ++ relays } }
  s.onLink (fun l => { l with
    consts := l.consts ++ [{ ref := j.ref, n := j.mark, writes := j.items, waiting := others, written := mine.isEmpty }]
    constPend := if mine.isEmpty then l.constPend else l.constPend ++ [{ n := j.mark, writes := mine, ref := j.ref }] })

/-- CONST_WRITE: up to 64 host-owned points on any joined devices at one mark; nothing is written unless every point is valid: arguments count, mark, and pairs of identifier and value (R362). -/
def execConstWrite (ref : CmdRef) (args : List Nat) (s : State) : Out :=
  let n := argN args 0
  let mark := arg64 args 1
  let items := pointItems 0x0B04 args 2
  let mine := items.filter (fun e => decide (idDev e.1 = s.ownDev))
  let others := (itemDevs items).filter (fun d => decide (d ≠ s.ownDev))
  .next (s.commandLong ref 0x0B04
    ([(decide (n < 1 ∨ 64 < n ∨ args.length < itemWords 0x0B04 n 2), .invalid, 0), badAt (fun e => decide (bitsOf e.1 31 25 = 0)) items .invalid 3,
      (if ref.origin.isNone then decide (mark < s.time.n + 16) else decide (mark ≤ s.time.n), .invalid, 1), (s.img.run.isNone, .absent, 0), badAt (fun e => decide (idDev e.1 = s.ownDev) || s.joined (idDev e.1)) items .absent] ++ s.pointPre 0x0B04 mine)
    (s.pointSuf 0x0B04 mine) (fun ref s =>
      let j : PointJob := { ref := ref, op := 0x0B04, items := items, mark := mark, sentAt := s.runNs, waiting := others, answers := [] }
      if others.isEmpty then s.constSend j
      else
        let s := forL others (fun d s => s.sendPointReq d ref.handle 0x0206 ((itemsOf items d).map (fun e => (e.2.1, 0)))) s
        { s with host := { s.host with jobs := s.host.jobs ++ [j] } }))

/-- The writes of CONST_WRITEs whose mark has come (R362). -/
def State.constMark (s : State) : State :=
  let due := s.link.constPend.filter (fun x => decide (x.n ≤ s.time.n))
  let s := s.onLink (fun l => { l with constPend := l.constPend.filter (fun x => decide (s.time.n < x.n)) })
  forL due (fun x s =>
    let s := forL x.writes (fun w s => s.ownerWrite w.1 w.2 (markStamp s.time.n)) s
    match s.link.consts.find? (fun (j : ConstJob) => j.ref = x.ref) with
    | some j => s.constDone { j with written := true }
    | none => s.complete x.ref .ok 0 x.n) s

/-! Answers from other devices (R360). -/

/-- A definition record admits a CONST_WRITE of a value: host-owned, and the value valid (R117, R123). -/
def defAdmits (r : List Byte) (v : Word) : Option (Status × Nat) :=
  let d := pointDefOf r
  if valInvalid d v then some (.invalid, 0) else if !d.hostOwned then some (.denied, 7) else none

/-- Every answer of a job has come: it fails as the first device that refused, or completes with the N of each device (R127, R360, R362). -/
def State.jobDone (s : State) (j : PointJob) : State :=
  match j.answers.find? (fun (a : Nat × Answer) => decide (a.2.status ≠ .ok)) with
  | some a =>
    let detail := if a.2.status = .absent then (match (itemsOf j.items a.1)[a.2.detail]? with | some e => e.1 | none => a.2.detail) else a.2.detail
    s.complete j.ref a.2.status detail
  | none =>
    let part (d : Nat) : List Byte := match j.answers.look d with | some a => a.data | none => []
    if j.op = 0x0B04 then
      let bad := (itemDevs j.items).filterMap (fun d =>
        ((itemsOf j.items d).zip (recordsOf (part d) 32 ((part d).length / 32))).findSome? (fun (e : (Nat × Nat × Word) × List Byte) => (defAdmits e.2 e.1.2.2).map (fun (r : Status × Nat) => (r.1, if r.1 = Status.invalid then 3 + e.1.1 else r.2))))
      match bad with
      | r :: _ => s.complete j.ref r.1 r.2
      | [] => s.constSend j
    else
      let mine := j.items.filter (fun e => decide (idDev e.1 = s.ownDev))
      let n (d : Nat) : Nat := match j.answers.look d with | some a => a.result | none => if d = s.ownDev then s.pts.cutN else 0
      let devs := itemDevs j.items
      let tail := if devs.length ≤ 1 then [] else (devs.map (fun d => leBytes 8 d ++ leBytes 8 (n d))).flatten
      if j.op = 0x0201 ∨ j.op = 0x0206 then
        let local_ : List Byte := (mine.map (fun e => match s.idDef e.1 with
          | some d => if j.op = 0x0201 then entryBytes (s.defNow d) (s.cutAt (idLocal e.1)) else defBytes (s.defNow d)
          | none => [])).flatten
        let bytes (d : Nat) : List Byte := if d = s.ownDev then local_ else part d
        let entry (i : Nat) (id : Nat) : List Byte :=
          match findIdx' (fun (e : Nat × Nat × Word) => decide (e.1 = i)) (itemsOf j.items (idDev id)) 0 with
          | some (k, _) => slice (bytes (idDev id)) (32 * k) 32
          | none => []
        let data := (((List.range j.items.length).zip j.items).map (fun e => entry e.1 e.2.1)).flatten
        s.complete j.ref .ok 0 (n (devs.headD 0)) (data ++ tail)
      else s.complete j.ref .ok 0 (n (devs.headD 0)) tail

/-- The jobs whose last part was this device's, at the mark at which it took effect (R124, R125). -/
def State.finishJobs (s : State) : State :=
  let l := s.host.jobs.filter (fun j => j.waiting.isEmpty)
  forL l (fun j s => s.jobDone j) { s with host := { s.host with jobs := s.host.jobs.filter (fun j => !j.waiting.isEmpty) } }

/-- One device's answer to its part of a job. -/
def State.jobAnswer (s : State) (dev handle : Nat) (a : Answer) : State :=
  match s.host.jobs.find? (fun (j : PointJob) => decide (j.ref.handle = handle) && decide (dev ∈ j.waiting)) with
  | none => s
  | some j =>
    let rest := s.host.jobs.filter (fun x => decide (x.ref.handle ≠ handle))
    let j : PointJob := { j with waiting := j.waiting.filter (fun d => decide (d ≠ dev)), answers := j.answers.put dev a }
    if j.waiting.isEmpty then ({ s with host := { s.host with jobs := rest } }).jobDone j
    else { s with host := { s.host with jobs := rest ++ [j] } }

/-- POINT_RSP: an answer completes its part of the originating command (R351, R360). -/
def execPointRsp (port : Fin 6) (f : LinkFrame) (s : State) : Out :=
  .next (s.routed port.val f (fun s =>
    match s.collect f (fieldLE f.payload 2 1) (fieldLE f.payload 3 1) with
    | (s, some parts) =>
      let b := parts.headD []
      s.jobAnswer f.src f.tag { status := statusOf (fieldLE b 0 1), detail := fieldLE b 4 4, result := fieldLE b 8 8
                                data := (parts.map (fun q => slice q 16 (32 * fieldLE q 1 1))).flatten }
    | (s, none) => s))

/-- REMOTE_COMMAND_TIMEOUT: a relayed command or request without an answer 1 ms after its departure completes TIMEOUT (R360). -/
def execRemoteCommandTimeout (handle : Nat) (s : State) : Out :=
  let old (t : Nat) : Bool := decide (t + 1000000 ≤ s.runNs)
  match s.host.relays.find? (fun (r : Relay) => decide (r.ref.handle = handle) && r.sent && !r.accepted && old r.sentAt) with
  | some r =>
    let s := { s with host := { s.host with relays := s.host.relays.filter (fun x => decide (x ≠ r)) } }
    .next (if r.op = 0x0B04 then
        (match s.link.consts.find? (fun (j : ConstJob) => j.ref.handle = handle) with
         | some j => (s.onLink (fun l => { l with consts := l.consts.filter (fun x => decide (x.ref ≠ j.ref)) })).complete j.ref .timeout
         | none => s)
      else s.complete { r.ref with relayed := true } .timeout)
  | none =>
    match s.host.jobs.find? (fun (j : PointJob) => decide (j.ref.handle = handle) && old j.sentAt) with
    | some j => .next (({ s with host := { s.host with jobs := s.host.jobs.filter (fun x => decide (x.ref.handle ≠ handle)) } }).complete j.ref .timeout)
    | none => .next s

end Sys2Proof.Machine
end

