-- ==== Sys2Proof/Machine/Pair.lean ====
section
/-! DEFINITION. Checkpoint writes, the power-fail flush, the lease, replay, comparison, alignment, handover and the commands of family 0x0C (chapter 15, R368 to R402; chapter 22, R562 to R567). -/

namespace Sys2Proof.Machine

/-! Cell time and the cycle that the cells execute (R389, R390). -/

/-- N of the cycle that the cells execute: in REPLAY the replayed cut. -/
def State.cycleN (s : State) : Nat := if s.pairSt = 4 then s.pair.replay else s.time.n

/-- Runs role work in cell time, and in REPLAY under the active's N and key position (R389, R390, R565). -/
def State.asCell (s : State) (f : State → State) : State :=
  let t := s.time
  let key := s.rd Reg.GLB_KEY_EFFECTIVE
  if s.pairSt = 4 then
    let p := s.pair
    let s := { s with time := { t with n := p.replay, run := p.replayCell, cycles := ((t.cycles : Int) + p.cycOff - 32).toNat } }
    let s := f (s.wr Reg.GLB_KEY_EFFECTIVE p.replayKey)
    { s with time := { s.time with n := t.n, run := t.run, cycles := t.cycles } }.wr Reg.GLB_KEY_EFFECTIVE key
  else if s.pair.offset = 0 ∧ s.pair.cycOff = 0 then f s
  else
    let s := f { s with time := { t with run := ((t.run : Int) + s.pair.offset).toNat, cycles := ((t.cycles : Int) + s.pair.cycOff).toNat } }
    { s with time := { s.time with run := t.run, cycles := t.cycles } }

/-- Role work is done in this cycle (R562, rows 1 to 4). -/
def State.roleWork (s : State) : Bool := s.img.run.isSome && !s.fab.frozen && decide (s.pairSt ∈ [0, 2, 4, 5])

/-- The unit is the active of a pair. -/
def State.active (s : State) : Bool := s.paired && decide (s.pairSt = 2)

/-- The pair state changes; LAG follows, and the CAN controllers (R399, R473, R567). -/
def State.setPair (s : State) (n : Nat) : State :=
  ((s.wrCause Reg.GLB_PAIR_STATE n 3).wr Reg.GLB_PAIR_REPLAY_LAG (if n = 4 then 32 else 0)).canModes (fun _ => false)

/-- A condition of self-diagnosis arose in this cycle; the first stands (R387). -/
def State.selfCause (s : State) (c : Nat) : State :=
  if s.active && s.pair.cause.isNone then s.onPair (fun p => { p with cause := some c }) else s

/-- COMPANION_BRIDGE_ERROR: a transfer error of the companion bridge (R387). -/
def execCompanionBridgeError (s : State) : Out := .next (s.selfCause 5)

/-- A command latched at this mark is carried in the manifest of the cut (R388). -/
def State.noteCmd (s : State) (c : ManCmd) : State := if s.active then s.onPair (fun p => { p with cmds := p.cmds ++ [c] }) else s

/-- An axis in RUN receives AXIS_STOP when STOP takes effect (R563, R566, R571). -/
def State.stopAxes (s : State) : State :=
  { s with axes := s.axes.map (fun e => (e.1, if e.2.st = .run then { e.2 with stopReq := true, keyHeld := true } else e.2)) }

/-! Checkpoints (R373). -/

/-- A checkpoint write may start. -/
def State.ckptFree (s : State) : Bool := s.pair.writing.isNone && !s.fab.frozen

/-- Host and restart checkpoints at a base mark, of the cut sealed there (R373, R402). -/
def State.ckptMark (s : State) : State :=
  match s.img.run with
  | none => (forL (s.pair.hostCkpt ++ s.pair.restartCkpt) (fun r s => s.complete r .aborted) s).onPair (fun p => { p with hostCkpt := [], restartCkpt := [] })
  | some i =>
    let s := if !s.pair.restartCkpt.isEmpty && s.ckptFree then
        (s.startCkpt i 4 s.pair.restartCkpt).onPair (fun p => { p with restartCkpt := [] }) else s
    if !s.pair.hostCkpt.isEmpty && s.ckptFree then
      (s.startCkpt i 3 s.pair.hostCkpt).onPair (fun p => { p with hostCkpt := [] })
    else s

/-- BACKGROUND_CHECKPOINT: the run time has advanced by 10 s since the last background mark (R373). -/
def execBackgroundCheckpoint (s : State) : Out :=
  match s.img.run with
  | none => .next s
  | some i =>
    let s := s.onPair (fun p => { p with bgDue := some (p.bgDue.getD s.runNs + 10000000000) })
    if !s.flag Reg.MEM_CKPT_CTL_BG_EN || s.fab.frozen then .next s
    else if s.ckptFree then .next (s.startCkpt i 2 [])
    else .next ((s.wr Reg.MEM_CKPT_STAT_SKIPPED 1).count 0x162)

/-- CKPT_WRITE_DONE: the write completes; a restart that waited for it is due (R372, R373, R402, R528). -/
def execCkptWriteDone (s : State) : Out :=
  match s.pair.writing with
  | none => .next s
  | some w =>
    if w.bank.kind = 1 then .next s
    else
      let s := s.endCkpt w
      let s := if w.bank.kind = 2 ∨ w.bank.kind = 3 then s.count 0x160 else s
      let s := forL w.refs (fun r s => s.complete r .ok w.bank.seq w.bank.cut.n) s
      .next (if w.bank.kind = 4 then (s.recAppendAll 3).onPair (fun p => { p with restartDue := some (2, true) }) else s)

/-- The freeze at mark m: cut m − 1 is flushed, and a write in progress is abandoned (R375). -/
def State.freezeNow (s : State) : State :=
  match s.img.run with
  | none => s
  | some i =>
    let s := match s.pair.writing with
      | some w => forL w.refs (fun r (s : State) => s.complete r .aborted) (s.wr Reg.MEM_CKPT_STAT_ABANDON 1)
      | none => s
    let s := forL (s.pair.hostCkpt ++ s.pair.restartCkpt) (fun r s => s.complete r .aborted) s
    let s := s.onPair (fun p => { p with writing := none, hostCkpt := [], restartCkpt := [], freezeDue := false, flushed := false })
    let s := { s with fab := { s.fab with frozen := true } }
    (s.wrCause Reg.MEM_CKPT_STAT_FROZEN 1 13).startCkpt i 1 []

/-- VRET_FEED_LOW: a feed falls below 2.9 V; both low begin a freeze at the next base mark (R374). -/
def execVretFeedLow (feed : Fin 2) (s : State) : Out :=
  let (own, other) := if feed.val = 0 then (Reg.MEM_CKPT_STAT_FEED_A_LOW, Reg.MEM_CKPT_STAT_FEED_B_LOW) else (Reg.MEM_CKPT_STAT_FEED_B_LOW, Reg.MEM_CKPT_STAT_FEED_A_LOW)
  if s.flag own then .next s
  else
    let s := s.wrCause own 1 13
    .next (if s.flag other then s.onPair (fun p => { p with freezeDue := !s.fab.frozen }) else s.countLog 0x165)

/-- VRET_FEED_RESTORED: a feed rises above 3.0 V (R374). -/
def execVretFeedRestored (feed : Fin 2) (s : State) : Out :=
  .next (s.wr (if feed.val = 0 then Reg.MEM_CKPT_STAT_FEED_A_LOW else Reg.MEM_CKPT_STAT_FEED_B_LOW) 0)

/-- FLUSH_DONE: the flush writes its COMMIT, and the recorder appends follow (R375, R528). -/
def execFlushDone (s : State) : Out :=
  match s.pair.writing with
  | some w => .next (if w.bank.kind = 1 then ((s.endCkpt w).onPair (fun p => { p with flushed := true })).recAppendAll 5 else s)
  | none => .next s

/-- POWER_RETURN: after a flush both feeds have been above 3.0 V for 10 ms; the internal reset is counted once it has been made (R377). -/
def execPowerReturn (s : State) : Out :=
  .next (if s.fab.frozen && s.pair.flushed && !s.flag Reg.MEM_CKPT_STAT_FEED_A_LOW && !s.flag Reg.MEM_CKPT_STAT_FEED_B_LOW then
      s.onPair (fun p => { p with restartDue := some (3, true) })
    else s)

/-- CKPT_WRITE (R373, R402). -/
def execCkptWrite (ref : CmdRef) (_args : List Nat) (s : State) : Out :=
  .next (s.commandLong ref 0x0C01 [] [(!s.ckptFree, .busy, 0)] (fun ref s => s.onPair (fun p => { p with hostCkpt := p.hostCkpt ++ [ref] })))

/-- CKPT_INFO: both headers, then a word with their validity (R402, log entry 2). -/
def execCkptInfo (ref : CmdRef) (_args : List Nat) (s : State) : Out :=
  let v := b2n (bankValid s.pair.bankA) + 2 * b2n (bankValid s.pair.bankB)
  .next (s.command ref 0x0C02 [noRoom ref 516] [] (fun ref s => s.complete ref .ok 0 0 (bankHeader s.pair.bankA ++ bankHeader s.pair.bankB ++ leBytes 4 v)))

/-- Both banks get COMMIT 0 (R402, R500). -/
def State.dropBanks (s : State) : State :=
  (s.onPair (fun p => { p with bankA := p.bankA.map (fun x => { x with committed := false }), bankB := p.bankB.map (fun x => { x with committed := false }) })).showBanks

/-- CKPT_INVALIDATE (R402). -/
def execCkptInvalidate (ref : CmdRef) (_args : List Nat) (s : State) : Out :=
  .next (s.command ref 0x0C03 [] [(!s.ckptFree, .busy, 0)] (fun ref s => s.dropBanks.complete ref .ok))

/-- RESTART, kind 0 warm or 1 cold: warm waits for a checkpoint of the next mark; the reset follows the final record (R402, R528, log entry 2). -/
def execRestart (ref : CmdRef) (args : List Nat) (s : State) : Out :=
  let k := argN args 0
  .next (s.commandLong ref 0x0C04 [(decide (1 < k), .invalid, 0)] [] (fun ref s =>
    if k = 0 ∧ s.img.run.isSome then s.onPair (fun p => { p with restartCkpt := p.restartCkpt ++ [ref] })
    else ((s.recAppendAll 3).complete ref .ok).onPair (fun p => { p with restartDue := some (2, decide (k = 0)) })))

/-! The lease (R384, R385). -/

/-- A frame of the pair link with its 8-byte head (R383). -/
def State.pairSend (s : State) (sub n : Nat) (body : List Byte) : State :=
  s.linkSend (s.rd Reg.GLB_PAIR_PORT)
    { typ := 0x02, src := s.hdrDev, dst := s.hdrDev, tag := n % 2 ^ 32, payload := leBytes 1 sub ++ leBytes 1 1 ++ leBytes 2 0 ++ leBytes 4 0 ++ body }

/-- The holder toggles LEASE_OUT and sends RENEW (R384). -/
def State.renewLease (s : State) : State :=
  let e := (s.pair.epoch + 1) % 2 ^ 32
  (s.onPair (fun p => { p with out := !p.out, renewed := some s.runNs, epoch := e })).pairSend 1 s.time.n (leBytes 4 e ++ leBytes 4 0)

/-- 52 ms have passed since an instant, or since the start of observation (R379, R385). -/
def State.quiet (s : State) (t : Option Nat) : Bool := decide (t.getD 0 + 52000000 ≤ s.runNs)

/-- The lease may be taken (R385). -/
def State.mayTake (s : State) : Bool := s.quiet s.pair.toggle && (s.quiet s.pair.renewIn || !s.flag Reg.GLB_PAIR_LINK_UP)

/-- Leaving REPLAY: PAIR_OFFSET becomes the active's cell time less the own run time, at the mark of the last replayed cut (R390). -/
def State.leaveReplay (s : State) : State :=
  if s.pairSt = 4 then
    s.onPair (fun p => { p with offset := (p.replayCell : Int) - (p.markRuns.at' p.replay s.runNs : Int), liveAfter := none, replayFast := [] })
  else s

/-- The own key position acts again where it differs from the position last applied (R566). -/
def State.ownKey (s : State) (applied : Nat) : State := if s.keyStopped && decide (applied ≠ keyStop) then s.stopAxes else s

/-- The unit takes the lease and becomes ACTIVE (R385, R398). -/
def State.takeLease (s : State) : State :=
  let was := s.pairSt
  let s := s.leaveReplay
  let s := if was = 3 ∧ !s.pair.adopted then s.coldRoles else s
  let s := if was = 3 ∨ was = 4 then s.ownKey s.pair.replayKey else s
  let s := ((s.wr Reg.GLB_PAIR_LEASE 1).count 0x1E0).setPair 2
  let s := s.onPair (fun p => { p with exerAt := some (s.runNs + 3600000000000), align := none, listenEnd := none, hand := none, cmds := [], fastUsed := [] })
  s.renewLease.baseOutputs

/-- The lease is given up or ends: the gated outputs go high-impedance (R384). -/
def State.dropLease (s : State) : State :=
  let s := (s.wr Reg.GLB_PAIR_LEASE 0).onPair (fun p => { p with renewed := none, exerAt := none })
  (s.onConv (fun b => { b with dioOut := [] })).baseOutputs

/-- A unit that becomes ALIGNING (R392, R398). -/
def State.toAligning (s : State) : State :=
  (s.leaveReplay.setPair 3).onPair (fun p => { p with align := none, hand := none, liveAfter := none })

/-- LEASE_RENEW at a base mark with N mod 80 = 0 (R384); none after the freeze mark or a give-up (R375, R387). -/
def execLeaseRenew (s : State) : Out :=
  .next (if s.paired && s.flag Reg.GLB_PAIR_LEASE && decide (s.time.n % 80 = 0) && !s.fab.frozen && decide (s.pairSt ≠ 6) then s.renewLease else s)

/-- LEASE_IN_TOGGLE: the partner renews; a holder that sees it sets DUAL, and unit B gives up (R385). -/
def execLeaseInToggle (s : State) : Out :=
  let s := s.onPair (fun p => { p with toggle := some s.runNs })
  .next (if s.paired && s.flag Reg.GLB_PAIR_LEASE then
      let s := (s.wr Reg.GLB_PAIR_DUAL 1).count 0x1E6
      if s.sendsB then s.dropLease.toAligning else s
    else s)

/-- LEASE_EXPIRY: 50 ms have passed since the holder's last renewal (R384). -/
def execLeaseExpiry (s : State) : Out :=
  .next (if s.paired && s.flag Reg.GLB_PAIR_LEASE then s.dropLease else s)

/-- LEASE_TAKE at a base mark (R385). -/
def execLeaseTake (s : State) : Out :=
  .next (if s.paired && s.img.run.isSome && !s.flag Reg.GLB_PAIR_LEASE && !s.fab.frozen && decide (s.pairSt ∈ [3, 4, 5]) && s.quiet s.pair.toggle then
      (if s.mayTake then s.takeLease else s.wr Reg.GLB_PAIR_PIN_FAULT 1)
    else s)

/-- LISTEN_END: the listen time ends (R385, R398). -/
def execListenEnd (s : State) : Out :=
  .next (if s.paired && s.img.run.isSome && decide (s.pairSt = 1) then
      (if s.mayTake then s.takeLease else if s.quiet s.pair.toggle then (s.wr Reg.GLB_PAIR_PIN_FAULT 1).toAligning else s.toAligning)
    else s)

/-- A paired unit has seen a renewal within the last 52 ms (R378). -/
def State.renewalSeen (s : State) : Bool :=
  s.paired && ((s.pair.toggle.isSome && !s.quiet s.pair.toggle) || (s.pair.renewIn.isSome && !s.quiet s.pair.renewIn))

/-- The pair state when an image takes effect; a unit that already runs keeps its state (R382, R385, R398, R560). -/
def State.pairBegin (s : State) (first : Bool) : State :=
  let s := s.onPair (fun p => { p with bgDue := some (s.runNs + 10000000000) })
  if !s.paired then (s.setPair 0).wr Reg.GLB_PAIR_LEASE 1
  else if !first then s
  else if s.renewalSeen then s.toAligning
  else (s.setPair 1).onPair (fun p => { p with listenEnd := some (s.runNs + (if s.sendsB then 120000000 else 60000000)) })

/-! Frames received on the pair link (R383). -/

/-- A frame of the pair link: acknowledged, and handled on a paired unit. -/
def State.pairRx (s : State) (f : LinkFrame) (k : State → State) : State :=
  s.linkRx (s.rd Reg.GLB_PAIR_PORT) { f with typ := 0x02 } (fun s => if s.paired then k s else s)

/-- The pair-link port is up on both lanes (R392). -/
def State.pairLanes (s : State) : Bool := decide (s.rd Reg.LNK_PORT_STATE [s.rd Reg.GLB_PAIR_PORT] = 2)

/-- RENEW (R385). -/
def execRenew (f : LinkFrame) (s : State) : Out := .next (s.pairRx f (fun s => s.onPair (fun p => { p with renewIn := some s.runNs })))

/-- Joins a fragment to the manifest it belongs to (R383). -/
def joinManifest (a b : Manifest) : Manifest :=
  { b with cellTime := a.cellTime, points := a.points ++ b.points, fast := a.fast ++ b.fast, cmds := a.cmds ++ b.cmds
           giveUp := a.giveUp || b.giveUp, handover := a.handover || b.handover, overflow := a.overflow || b.overflow }

/-- MANIFEST: a fragment joins its manifest, which is buffered when its last fragment came; a LIVE unit realigns, OVERFLOW ends REPLAY (R388, R389, R393). -/
def execManifest (lseq : Nat) (m : Manifest) (s : State) : Out :=
  .next (s.pairRx { src := s.hdrDev, dst := s.hdrDev, lseq := lseq, typ := 2, payload := [] } (fun s =>
    let m := match s.pair.part with | some a => if a.n = m.n then joinManifest a m else m | none => m
    if !m.last then s.onPair (fun p => { p with part := some m })
    else
      let s := (s.onPair (fun p => { p with part := none, manifests := (p.manifests.filter (fun x => decide (m.n < x.n + 64) && decide (x.n ≠ m.n))) ++ [m] })).wr
        Reg.GLB_PAIR_REPLAY_MAN_RECS m.points.length
      if s.pairSt = 5 ∧ !s.flag Reg.GLB_PAIR_LEASE then s.toAligning
      else if s.pairSt = 4 ∧ m.overflow then (s.count 0x1E8).toAligning
      else s))

/-- CUT_CRC is held for the comparison (R391). -/
def execCutCrc (f : LinkFrame) (s : State) : Out :=
  .next (s.pairRx f (fun s =>
    let n := nearN s.time.n f.tag
    s.onPair (fun p =>
      let kept : Tab (List (BitVec 32)) := p.crcs.filter (fun e => decide (n < e.1 + 64))
      { p with crcs := kept.put n ((List.range 64).map (fun c => BitVec.ofNat 32 (fieldLE f.payload (8 + 4 * c) 4))) })))

/-- STATE: a fragment of the alignment cut, with its offset and length; the last carries the cut (R392, log entry 20). -/
def execStateRx (lseq n off len : Nat) (cut : Option SealedCut) (s : State) : Out :=
  .next (s.pairRx { src := s.hdrDev, dst := s.hdrDev, lseq := lseq, typ := 2, payload := [] } (fun s =>
    if s.pairSt ≠ 3 ∨ s.flag Reg.GLB_PAIR_DIGEST_DIFF ∨ !s.pairLanes then s
    else
      let a : Option Align := if off = 0 then some { cut := n } else s.pair.align
      match a with
      | none => s
      | some a =>
        if a.cut ≠ n ∨ a.got ≠ off then s.onPair (fun p => { p with align := none })
        else s.onPair (fun p => { p with align := some { a with got := off + len, full := if s.time.n ≤ n + 32 then cut else none } })))

/-- HANDOVER names the mark of a planned handover (R394). -/
def execHandover (f : LinkFrame) (s : State) : Out :=
  .next (s.pairRx f (fun s => if s.pairSt = 4 then s.onPair (fun p => { p with hand := some (fieldLE f.payload 8 8) }) else s))

/-- STATUS: the partner's pair register and digest; the active answers an ALIGNING partner with its last cut (R383, R392). -/
def execStatus (f : LinkFrame) (s : State) : Out :=
  .next (s.pairRx f (fun s =>
    let reg := fieldLE f.payload 8 4
    let dig := fieldLE f.payload 12 8
    let s := (s.onPair (fun p => { p with partner := some (reg, dig) })).wrb Reg.GLB_PAIR_DIGEST_DIFF (decide (dig ≠ s.digest8))
    if s.pairSt = 2 ∧ reg / 2 ^ 29 = 3 ∧ dig = s.digest8 ∧ s.pairLanes ∧ !s.fab.frozen then
      s.onPair (fun p => { p with sent := .align s.sealedCut :: p.sent })
    else s))

/-- STATUS_SEND, every 100 ms on a paired unit (R383). -/
def execStatusSend (s : State) : Out :=
  .next (if s.paired then s.pairSend 6 s.time.n (leBytes 4 (s.reg Reg.GLB_PAIR) ++ leBytes 8 s.digest8 ++ leBytes 4 0) else s)

/-! Manifests (R388). -/

/-- Point records of cut k: points with OWNER 0x1 to 0x6 whose record differs from the cut before (R388). -/
def State.manPoints (s : State) (old : Tab PointEntry) : List ManPoint :=
  s.pts.cut.filterMap (fun e =>
    match s.pdef e.1 with
    | some d =>
      if d.ownerKind = 0 then none
      else
        let o := old.at' e.1 {}
        if o.value = e.2.value ∧ o.quality = e.2.quality ∧ o.time = e.2.time then none
        else some { idx := e.1, value := e.2.value, quality := e.2.quality, time := e.2.time }
    | none => none)

/-- After the seal of cut k the active sends its manifest and its PCRC values (R388). -/
def State.sendManifest (s : State) (old : Tab PointEntry) : State :=
  let k := s.pts.cutN
  let l := s.manPoints old
  let past := decide (12288 < l.length)
  let m : Manifest := { n := k, cellTime := s.cellTimeOf k, handover := decide (s.pair.hand = some (k + 1)), overflow := past
                        points := if past then [] else l, fast := if past then [] else s.pair.fastUsed, cmds := if past then [] else s.pair.cmds }
  let s := (s.onPair (fun p => { p with sent := .manifest m :: p.sent })).wr Reg.GLB_PAIR_REPLAY_MAN_RECS m.points.length
  let s := if past then s.count 0x1E8 else s
  s.pairSend 3 k ((s.planeCrcs s.sealedCut).map (fun c => leBytes 4 c.toNat)).flatten

/-- The feedback that an axis used in a sub-cycle (R383, R388). -/
def fastRecord (s : State) (key : Nat) (d : AxisDef) (j : Nat) : ManFast :=
  if d.fbPt then
    let a := s.axisSt (key / 32) (key % 32)
    { chan := key, sub := j, kind := if a.fbIn.2 then 2 else 3, value := a.fbIn.1 }
  else
    let e := s.enc d.encCh
    { chan := d.encCh, sub := j, kind := if e.faultNow then 1 else 0, value := e.sampled }

/-- Feedback at a fast mark: the active notes what its axes use, a standby in REPLAY takes it from the manifest (R388, R389). -/
def State.fastFeedback (s : State) (j : Nat) : State :=
  match s.img.run with
  | none => s
  | some i =>
    if s.active then
      s.onPair (fun p => { p with fastUsed := p.fastUsed ++ (i.axes.map (fun e => fastRecord s e.1 e.2 j)).eraseDups })
    else if s.pairSt = 4 then
      forL (s.pair.replayFast.filter (fun r => decide (r.sub = j))) (fun r s =>
        if r.kind ≤ 1 then s.setEnc r.chan { s.enc r.chan with sampled := r.value, faultNow := decide (r.kind = 1) }
        else s.setAxis (r.chan / 32) (r.chan % 32) { s.axisSt (r.chan / 32) (r.chan % 32) with fbIn := (r.value, decide (r.kind = 2)) }) s
    else s

/-! Replay (R389). -/

/-- The reference of a command that a manifest carried. -/
def replayRef (op : Nat) : CmdRef := { ring := 0, handle := 0, tag := 0, op := op, replayed := true }

/-- A replayed command joins the commands of the mark (R389, R396, R565). -/
def State.replayCmd (s : State) (c : ManCmd) : State :=
  match c with
  | .role op home obj args => s.latch { op := op, home := home, obj := obj, args := args, ref := replayRef op }
  | .write idx v => s.onPts (fun p => { p with hostWrites := p.hostWrites ++ [{ idx := idx, value := v, ref := replayRef 0x0202 }] })
  | .force idx v => s.onPts (fun p => { p with forceReqs := p.forceReqs ++ [{ idx := idx, value := v, ref := replayRef 0x0203 }] })
  | .key k =>
    let was := s.pair.replayKey
    let s := s.onPair (fun p => { p with replayKey := k })
    if k = keyStop ∧ was ≠ keyStop then s.stopAxes else s
  | .splice n dg => s.onPair (fun p => { p with splice := some (n, dg) })
  | .migrate h x => { s with age := { s.age with migrations := s.age.migrations ++ [{ home := h, exec := x, mark := s.time.n }] } }

/-- The mirrored entry of a point after a manifest's record (R388, R389). -/
def mirrorEntry (k : Nat) (e : PointEntry) (r : ManPoint) : PointEntry :=
  let shadow : Word × Quality := if r.quality = .forced ∨ r.quality = .substituted then (e.shadow, e.shadowQ) else (r.value, r.quality)
  { value := r.value, quality := r.quality, shadow := shadow.1, shadowQ := shadow.2, time := r.time, update := if r.time = e.time then e.update else k % 2 ^ 32 }

/-- The cycle replays cut k from its manifest (R389). -/
def State.replayBegin (s : State) (m : Manifest) : State :=
  let s := s.onPair (fun p => { p with
    replay := m.n, replayCell := m.cellTime, replayFast := m.fast
    mirror := m.points.foldl (fun t r => t.put r.idx (mirrorEntry m.n (t.at' r.idx {}) r)) p.mirror
    manifests := p.manifests.filter (fun x => decide (m.n < x.n)) })
  forL m.cmds (fun c s => s.replayCmd c) s

/-- Whether a manifest of a cut is held. -/
def PairState.holds (p : PairState) (k : Nat) : Bool := p.manifests.any (fun m => decide (m.n = k))

/-- The last cut of the unbroken row of manifests held from cut k on; k − 1 when none is (R393). -/
def PairState.lastHeld (p : PairState) (k : Nat) : Nat :=
  forN 64 (fun i (f : Nat) => if f = k + i then (if p.holds (k + i) then f + 1 else f) else f) k - 1

/-- MANIFEST_LOSS: at mark k + 2 the manifest of cut k has not come (R393). -/
def execManifestLoss (s : State) : Out :=
  .next (if s.pairSt = 4 ∧ s.pair.liveAfter.isNone ∧ s.pair.hand.isNone ∧ 2 ≤ s.time.n ∧ !s.pair.holds (s.time.n - 2) then
      (s.count 0x1E4).onPair (fun p => { p with liveAfter := some (p.lastHeld (p.replay + 1)) })
    else s)

/-- A plane of replayed cut k differs from the active's (R391). -/
def State.cutMismatch (s : State) (c : Nat) : State :=
  let again := match s.pair.mismatch.look c with | some t => decide (s.runNs ≤ t + 3600000000000) | none => false
  let s := ((((s.wr Reg.GLB_PAIR_MISMATCH 1).incHold Reg.GLB_PAIR_XCHK_COUNT).wr Reg.GLB_PAIR_XCHK_VALID 1).wr Reg.GLB_PAIR_XCHK_CELL c).countLog 0x1E5
  let s := s.onPair (fun p => { p with mismatch := p.mismatch.put c s.runNs })
  if again then s.leaveReplay.setPair 6 else if s.pairSt = 4 then s.toAligning else s

/-- The comparison after the seal of replayed cut k (R391). -/
def State.compareCut (s : State) : State :=
  match s.pair.crcs.look s.pts.cutN with
  | none => s
  | some l =>
    let own := s.planeCrcs s.sealedCut
    forL ((List.range 64).filter (fun c => decide (own[c]? ≠ l[c]?))) (fun c s => s.cutMismatch c) s

/-! Changes of pair state at a base mark. -/

/-- The standby adopts the cut at mark j + 32 (R392). -/
def State.adopt (s : State) (x : SealedCut) : State :=
  let s := s.takeCut x.role x.entries x.n
  let s := s.onPair (fun p => { p with
    adopted := true, mirror := x.entries, replayKey := x.key, replay := x.n, replayCell := x.rMark
    cycOff := (x.cycles : Int) - ((s.time.cycles : Int) - 32), align := p.align.map (fun a => { a with adopted := true }) })
  s.count 0x1E7

/-- The standby goes LIVE (R393, R394, R566). -/
def State.goLive (s : State) : State :=
  let s := s.leaveReplay
  let s := s.setPair 5
  (s.ownKey s.pair.replayKey).onPair (fun p => { p with hand := none })

/-- The active gives up control at mark d for a cause latched there (R387). -/
def State.giveUp (s : State) (cause : Nat) : State :=
  ((s.wr Reg.GLB_PAIR_CAUSE cause).count 0x1E1).setPair 6 |>.onPair (fun p => { p with cause := none, hand := none, exerAt := none })

/-- Pair state changes of the mark that starts cycle N, after the cut before it was sealed (R387, R392 to R394, R398, R561). -/
def State.pairMark (s : State) (old : Tab PointEntry) : State :=
  let n := s.time.n
  let st := s.pairSt
  if !s.paired ∨ s.img.run.isNone ∨ s.fab.frozen then s
  else if st = 2 then
    match s.pair.cause with
    | some c => s.giveUp c
    | none =>
      let s := (s.sendManifest old).onPair (fun p => { p with cmds := p.cmdsNow, cmdsNow := [], fastUsed := [] })
      if s.pair.hand = some n then s.setPair 7 else s
  else if st = 7 then
    match s.pair.hand with
    | some h =>
      if n = h + 32 then
        let refs := s.pair.handRefs
        let s := ((s.dropLease.count 0x1E2).toAligning).onPair (fun p => { p with handRefs := [] })
        forL refs (fun r s => s.complete r .ok 0 n) s
      else s
    | none => s
  else if st = 3 then
    match s.pair.align with
    | none => s
    | some a =>
      if n = a.cut + 33 ∧ a.adopted then
        match s.pair.manifests.find? (fun (m : Manifest) => decide (m.n = a.cut + 1)) with
        | some m => ((s.setPair 4).onPair (fun p => { p with align := none })).replayBegin m
        | none => (s.count 0x1E4).onPair (fun p => { p with align := none })
      else if n = a.cut + 32 then
        match a.full with
        | some x => s.adopt x
        | none => s.onPair (fun p => { p with align := none })
      else if a.cut + 33 ≤ n then s.onPair (fun p => { p with align := none })
      else s
  else if st = 4 then
    let s := s.compareCut
    if s.pairSt ≠ 4 then s
    else if s.pair.hand = some (n - 32) ∧ 32 ≤ n then (s.count 0x1E2).goLive.takeLease
    else if s.pair.liveAfter = some (n - 33) ∧ 33 ≤ n then s.goLive
    else
      match s.pair.manifests.find? (fun (m : Manifest) => decide (m.n + 32 = n)) with
      | some m => s.replayBegin m
      | none => (s.count 0x1E4).goLive
  else s

/-! Planned handover (R394, R395). -/

/-- A cause for which a handover is deferred (R395). -/
def State.handDeferred (s : State) : Bool :=
  (match s.pair.partner with | some x => decide (x.1 / 2 ^ 29 ≠ 4) || bitOf x.1 24 | none => true) ||
  s.pgs.any (fun e => decide (e.2.st ≠ .idle))

/-- The active names mark h = N + 16 (R394, log entry 21). -/
def State.startHandover (s : State) : State :=
  let h := s.time.n + 16
  (s.onPair (fun p => { p with hand := some h })).pairSend 5 s.time.n (leBytes 8 h)

/-- HANDOVER_EXERCISE: the hour since the last change of holder has passed (R395). -/
def execHandoverExercise (s : State) : Out :=
  .next (if !s.active ∨ s.fab.frozen then s
    else if s.pair.hand.isSome then s
    else
      let s := s.onPair (fun p => { p with exerAt := some (s.runNs + 3600000000000) })
      if s.handDeferred then s.count 0x1E3 else s.startHandover)

/-- PAIR_HANDOVER (R394, R402). -/
def execPairHandover (ref : CmdRef) (_args : List Nat) (s : State) : Out :=
  .next (s.commandLong ref 0x0C06 [(!s.active, .invalid, 0)] [(s.handDeferred, .denied, 6)] (fun ref s =>
    let s := s.onPair (fun p => { p with handRefs := p.handRefs ++ [ref] })
    if s.pair.hand.isSome then s else s.startHandover))

/-- PAIR_CLEAR: FAULTY to ALIGNING (R402). -/
def execPairClear (ref : CmdRef) (_args : List Nat) (s : State) : Out :=
  .next (s.command ref 0x0C07 [(decide (s.pairSt ≠ 6), .invalid, 0)] [] (fun ref s => ((s.wr Reg.GLB_PAIR_CAUSE 0).toAligning).complete ref .ok))

/-- GLB_PAIR_EXER.DUE_S (R399). -/
def State.viewExer (s : State) : Nat :=
  match s.pair.exerAt with | some t => if s.active then ceilDiv (t - s.runNs) 1000000000 else 0 | none => 0

/-- PAIR_READ: the four pair registers, then the partner's last GLB_PAIR and digest (R402, log entry 2). -/
def execPairRead (ref : CmdRef) (_args : List Nat) (s : State) : Out :=
  let p := s.pair.partner.getD (0, 0)
  .next (s.command ref 0x0C05 [noRoom ref 28] [] (fun ref s => s.complete ref .ok 0 0
    (leBytes 4 (s.reg Reg.GLB_PAIR) ++ leBytes 4 (s.reg Reg.GLB_PAIR_REPLAY) ++ leBytes 4 (s.reg Reg.GLB_PAIR_XCHK) ++ leBytes 4 s.viewExer ++ leBytes 4 p.1 ++ leBytes 8 p.2)))

end Sys2Proof.Machine
end

