-- ==== Sys2Proof/Machine/Memory.lean ====
section
/-! DEFINITION. Errors, scrubbing and march test of the memories, row remaps, and the wipe of the secure region (chapter 17, R434, R438, R443 to R445, R457; R523). -/

namespace Sys2Proof.Machine

/-- A wipe of the secure region; one requested while another runs does not start a second (R438, R500). -/
def State.secWipe (s : State) (cause : Nat) : State :=
  let s := (s.count 0x112).wr Reg.MEM_SEC_STAT_CAUSE cause
  if s.flag Reg.MEM_SEC_STAT_WIPING then s
  else
    let s : State := { s with sec := { s.sec with wipeEnd := some (s.runNs + 100000), keysAt := some (s.runNs + 50000000) } }
    (s.incHold Reg.MEM_SEC_STAT_WIPES).wr Reg.MEM_SEC_STAT_WIPING 1

/-- A wipe in progress ends after 100 µs, and the Steward has its keys again after 50 ms (R438, R500). -/
def State.wipeTick (s : State) : State :=
  let s := match s.sec.wipeEnd with
    | some t => if t ≤ s.runNs then { s with sec := { s.sec with wipeEnd := none } }.wr Reg.MEM_SEC_STAT_WIPING 0 else s
    | none => s
  match s.sec.keysAt with
  | some t => if t ≤ s.runNs then { s with sec := { s.sec with keysAt := none } } else s
  | none => s

/-- A command that was waiting or running ends ABORTED (R434). -/
def State.abortCmd (s : State) (ring handle : Nat) : State :=
  let hit := fun (f : Fetched) => decide (f.ref.ring = ring ∧ f.ref.handle = handle)
  let h := s.host
  let found := (h.steward.queue ++ h.waiting ++ h.steward.current.toList).find? hit
  let s : State := { s with host := { h with
    waiting := h.waiting.filter (fun f => !hit f)
    steward := { h.steward with queue := h.steward.queue.filter (fun f => !hit f), current := match h.steward.current with | some f => if hit f then none else some f | none => none } } }
  match found with
  | some f => s.complete f.ref .aborted
  | none => s

/-- A word of MRAM cannot be read: its bank or record counts as invalid (R434, R439). -/
def State.mramBad (s : State) (addr : Nat) : State :=
  if addr < 0x400000 then s.onPair (fun p => { p with bankA := none })
  else if addr < 0x800000 then s.onPair (fun p => { p with bankB := none })
  else if addr < 0xC00000 then
    if addr < 0x801000 then s
    else
      let k := (addr - 0x801000) / 128
      s.onRec (fun r => { r with bad := match r.bad with | some j => some (min j k) | none => some k })
  else if addr < 0xC40000 then { s with sec := { s.sec with bank0 := none } }
  else if addr < 0xC80000 then { s with sec := { s.sec with bank1 := none } }
  else if addr < 0xC80800 then { s with saf := { s.saf with bankA := none } }
  else if addr < 0xC81000 then { s with saf := { s.saf with bankB := none } }
  else if addr < 0xC81080 then
    let l := ((addr - 0xC81000) / 64) :: s.saf.pwdBad
    { s with saf := { s.saf with pwdBad := l, password := if 0 ∈ l ∧ 1 ∈ l then none else s.saf.password } }
  else s

/-- What an uncorrectable error does where it is read (R434). -/
def State.eccOutcome (s : State) (mem : Nat) (cell addr : Nat) (r : EccReader) : State :=
  let s := if mem = 3 then s.secWipe 3 else if mem = 4 then s.mramBad addr else s
  match r with
  | .own => if mem = 0 then { s with fab := { s.fab with cells := s.fab.cells.upd cell {} (fun c => { c with abandoned := true }) } } else s
  | .points l => if mem ≤ 1 then s.onPts (fun p => { p with bad := l ++ p.bad }) else s
  | .command ring handle => if mem = 2 ∨ 5 ≤ mem then s.abortCmd ring handle else s
  | .staging => if 5 ≤ mem then { s with img := { s.img with poisoned := true } } else s
  | .none_ => s

/-- ECC_UNCORRECTABLE: counted, logged, latched, a self-diagnosis cause of an active unit, and handled by memory and reader (R387, R434, R473). -/
def execEccUncorrectable (mem : Fin 7) (cell : Fin 64) (addr : BitVec 37) (r : EccReader) (s : State) : Out :=
  let ev := if mem.val ≤ 1 then 0x101 else 0x101 + 2 * (mem.val - 1)
  let s := s.countLog ev
  let s := ((s.wr Reg.MEM_ECC_LAST_MEMORY mem.val).wr Reg.MEM_ECC_LAST_CELL (if mem.val ≤ 1 then cell.val else 0)).wrCause Reg.MEM_ECC_LAST_VALID 1 10
  let s := s.wr64 Reg.MEM_ECC_ADDR_LO_ADDR_LO Reg.MEM_ECC_ADDR_HI_ADDR_HI addr.toNat
  .next ((s.selfCause 3).eccOutcome mem.val cell.val addr.toNat r)

/-! Spare rows (R523). -/

/-- Forerunner compatibility mode (R520). -/
def State.forerunner (s : State) : Bool := s.flag Reg.AGE_STAT_FORERUNNER

/-- Fewest spare rows left in any bank (AGE_SPARE). -/
def State.rowsMin (s : State) : Nat := s.sys.rows.foldl (fun a e => min a (4 - e.2)) 4

/-- A segment is remapped to a spare row of its bank; with none left the spare is exhausted, and a cell bank asks for a swap-in (R521, R523). -/
def State.rowRemap (s : State) (bank : Nat) : State :=
  if !s.forerunner then s
  else
    let used := s.sys.rows.at' bank 0
    if used < 4 then
      let s := s.sysWrite (fun b => { b with rows := b.rows.put bank (used + 1) })
      (s.countLog 0x3E8 ((3 - used : Nat) : Int)).wr Reg.AGE_SPARE_ROWS_MIN s.rowsMin
    else
      let s := s.countLog 0x3E9 2
      if bank < 192 then { s with age := { s.age with swapWant := s.age.swapWant ++ [bank / 3] } } else s

/-- The bank number of a byte of cell SRAM (0), the window (2) or the secure region (3), and its segment (R433, R435, R438). -/
def bankSeg (mem cell addr : Nat) : Option (Nat × Nat) :=
  if mem = 0 then some (cell * 3 + addr / 0x80000, addr % 0x80000 / 2048)
  else if mem = 2 then some (192 + addr / 0x80000, addr % 0x80000 / 2048)
  else if mem = 3 then some (200 + addr / 0x40000, addr % 0x40000 / 2048)
  else none

/-- SCRUB_STEP: a word is read and a correction written back; in forerunner mode a second corrected error of a segment within 24 h remaps it; the end of a DDR5 pass is counted (R434, R443, R523). -/
def execScrubStep (mem : Fin 7) (cell : Fin 64) (addr : BitVec 37) (corrected passEnd : Bool) (s : State) : Out :=
  let ev := if mem.val ≤ 1 then 0x100 else 0x100 + 2 * (mem.val - 1)
  let s :=
    if !corrected then s
    else
      let s := s.count ev
      match (if s.forerunner then bankSeg mem.val cell.val addr.toNat else none) with
      | none => s
      | some (b, g) =>
        let k := b * 1024 + g
        match s.age.corrected.look k with
        | some t =>
          if s.runNs ≤ t + 86400000000000 then { s with age := { s.age with corrected := s.age.corrected.drop' k } }.rowRemap b
          else { s with age := { s.age with corrected := s.age.corrected.put k s.runNs } }
        | none => { s with age := { s.age with corrected := s.age.corrected.put k s.runNs } }
  .next (if passEnd ∧ 5 ≤ mem.val then s.incWrap Reg.DDR_SCRUB_PASSES [mem.val - 5] else s)

/-- DDR_REFRESH: a channel owes one more periodic refresh, and an ordinary request for it enters unless one waits; a free controller performs it at once (R84, R441; log entry 10). -/
def execDdrRefresh (ch : Fin 2) (s : State) : Out :=
  let s : State := { s with fab := { s.fab with refreshOwed := s.fab.refreshOwed.upd ch.val 0 (· + 1) } }
  let waits := (s.arb (.ddr ch.val)).queue.any (fun r => decide (r.port = .refresh) && decide (r.cls = .ordinary))
  .next (if waits then s else s.refreshEnter ch.val .ordinary)

/-! March test (R444, R445, R457). -/

/-- A word fails March C− (R445, R523). -/
def State.marchFail (s : State) (mem cell bank addr : Nat) : State :=
  let a := if mem = 0 then cell * 0x180000 + addr else addr
  let s := ((s.wr Reg.MEM_MARCH_FAIL_MEMORY mem).wr Reg.MEM_MARCH_FAIL_ADDR a).wr Reg.MEM_MARCH_STAT_FAULT 1
  let s := (s.countLog 0x120).rowRemap bank
  { s with age := { s.age with memTests := s.age.memTests.map (fun e => if e.2.1 = mem ∧ e.2.2.isNone then (e.1, e.2.1, some a) else e) } }

/-- The end of a pass over a memory answers a MEM_TEST of it; the first failing address, or 0xFFFF_FFFF for none (R457, log entry 2). -/
def State.testEnd (s : State) (mem : Nat) : State :=
  let l := s.age.memTests
  let s : State := { s with age := { s.age with memTests := l.filter (fun e => decide (e.2.1 ≠ mem)) } }
  forL (l.filter (fun e => decide (e.2.1 = mem))) (fun (e : CmdRef × Nat × Option Nat) (s : State) => s.complete e.1 .ok 0 (e.2.2.getD 0xFFFFFFFF)) s

/-- MARCH_SEGMENT: one 2 KiB segment is borrowed, of cell SRAM (0), the window (1) or the secure region (2); `memEnd` ends a pass over its memory and `passEnd` one over all (R444, R445). -/
def execMarchSegment (mem : Fin 3) (cell : Fin 64) (bank : Fin 8) (seg : Fin 256) (e : MarchEnd) (memEnd passEnd : Bool) (s : State) : Out :=
  let running := s.flag Reg.MEM_MARCH_CTL_EN || s.age.memTests.any (fun e => decide (e.2.1 = mem.val))
  let lends := decide (mem.val ≠ 0) || (s.fab.cells.at' cell.val {}).sealed
  if !running || !lends then .next s
  else
    let b := if mem.val = 0 then cell.val * 3 + bank.val else if mem.val = 1 then 192 + bank.val else 200 + bank.val
    let k := b * 1024 + seg.val
    let s := match e with
      | .passed => { s with age := { s.age with aborts := s.age.aborts.drop' k } }
      | .failed a => { s with age := { s.age with aborts := s.age.aborts.drop' k } }.marchFail mem.val cell.val b a
      | .aborted =>
        let n := s.age.aborts.at' k 0 + 1
        if n < 64 then { s with age := { s.age with aborts := s.age.aborts.put k n } }
        else { s with age := { s.age with aborts := s.age.aborts.drop' k } }.count 0x121
    let s := if memEnd then s.testEnd mem.val else s
    .next (if passEnd then s.incWrap Reg.MEM_MARCH_STAT_PASSES else s)

/-- MEM_TEST: a full march pass of one memory (R457). -/
def execMemTest (ref : CmdRef) (args : List Nat) (s : State) : Out :=
  .next (s.commandLong ref 0x1001 [(decide (args.length < 1 ∨ 2 < argN args 0), .invalid, 0)] []
    (fun ref s => { s with age := { s.age with memTests := s.age.memTests ++ [(ref, argN args 0, none)] } }))

end Sys2Proof.Machine
end

