-- ==== Sys2Proof/Machine/Volt.lean ====
section
/-! DEFINITION. The core regulator: setpoint, steps, lowering, settling and telemetry over PMBus; requests for a tell-tale measurement (R71, R512, R513, R540 to R544). -/

namespace Sys2Proof.Machine

/-- The state with the ageing engine changed. -/
def State.onAge (s : State) (f : AgeState → AgeState) : State := { s with age := f s.age }
/-! Requests for a measurement (R71). -/

/-- A request merges into the measurement that waits; it starts at the next base mark at which none runs (R71). -/
def State.reqMeas (s : State) (byChange forVolt : Bool) (waiters : List (CmdRef × Nat)) : State :=
  s.onFab (fun f =>
    let m : Measurement := f.measNext.getD { startN := 0 }
    { f with measNext := some { m with byChange := m.byChange || byChange, forVolt := m.forVolt || forVolt, waiters := m.waiters ++ waiters } })

/-- A measurement starts at this mark (R71). -/
def State.startMeas (s : State) (m : Measurement) : State :=
  let t := s.rd Reg.PWR_TEMP_TJ_MAX
  let s := s.onFab (fun f => { f with meas := some { m with startN := s.time.n, cycles := 0, counts := [] }, measTemp := if t = 0x80 then none else some (signed 8 t) })
  if m.byChange then s.count 0x087 else s

/-- With none running, the measurement that waits starts; a probe's first (R71, R518). -/
def State.nextMeas (s : State) : State :=
  if s.fab.meas.isSome then s
  else match s.fab.measProbe with
    | some changed => (s.onFab (fun f => { f with measProbe := none })).startMeas { startN := 0, byChange := changed, probe := true }
    | none =>
      match s.fab.measNext with
      | some m => (s.onFab (fun f => { f with measNext := none })).startMeas m
      | none => s

/-- The smaller of two counts of each tell-tale; the first cycle has none before it (R69). -/
def minCounts (old new : List Nat) : List Nat :=
  if old.isEmpty then new else List.zipWith Nat.min old new

/-- The counts of the cycle that ends, as the row carries them, else free values (R69; log entry 10). -/
def State.cycleCounts (s : State) (tt : List Nat) : State × List Nat :=
  if tt.length = 256 then (s, tt)
  else ({ s with fresh := s.fresh + 1 }, (List.range 256).map (fun i => Config.tellTale s.fresh i))

/-- Tell-tales at a base mark: the running measurement has one more cycle, whose counts lower the smallest so far (R69). -/
def State.measMark (s : State) (tt : List Nat) : State :=
  match s.fab.meas with
  | some m =>
    if 8 ≤ m.cycles then s
    else
      let r := s.cycleCounts tt
      r.1.onFab (fun f => { f with meas := some { m with cycles := min 8 (s.time.n - m.startN), counts := minCounts m.counts r.2 } })
  | none => s.nextMeas

/-- PERIODIC_MEASUREMENT (R71, R509). -/
def execPeriodicMeasurement (s : State) : Out := .next (s.reqMeas false false [])

/-- MARGIN_MEASURE (R533). -/
def execMarginMeasure (ref : CmdRef) (_args : List Nat) (s : State) : Out :=
  .next (s.commandLong ref 0x0F02 [] [] (fun ref s => s.reqMeas false false [(ref, 0x0F02)]))

/-- TT_CHECK: 256 counts of 4 bytes, then 64 bytes with the excluded tell-tale or 0xFF (R533, log entry 2). -/
def execTtCheck (ref : CmdRef) (_args : List Nat) (s : State) : Out :=
  .next (s.commandLong ref 0x1002 [noRoom ref 1088] [] (fun ref s => s.reqMeas false false [(ref, 0x1002)]))

/-! The setpoint (R512, R513, R540, R541). -/

/-- VSET. -/
def State.vset (s : State) : Nat := s.rd Reg.AGE_STAT_VSET
/-- VMAX in effect (R531, log entry 24). -/
def State.vmax (s : State) : Nat := max 620 (min 880 (s.rd Reg.AGE_VCFG_VMAX))
/-- VMIN in effect (R531, log entry 24). -/
def State.vmin (s : State) : Nat := max 620 (min s.vmax (s.rd Reg.AGE_VCFG_VMIN))
/-- VFIX in effect (R520, log entry 24). -/
def State.vfix (s : State) : Nat := max 620 (min 880 (s.rd Reg.AGE_VFIX_VFIX))

/-- A setpoint write may be made: a regulator, no PMB_FAULT, no freeze, none pending (R513, R541, R544). -/
def State.canSet (s : State) : Bool :=
  s.flag Reg.PWR_PMB_PRESENT && !s.flag Reg.AGE_STAT_PMB_FAULT && !s.fab.frozen && s.age.volt.isNone

/-- VOUT_COMMAND of a setpoint in mV: round(V × 2^−Nx), ties away from zero (R540). -/
def voutCommand (mv : Nat) (nx : Int) : Nat :=
  let num := mv * 2 ^ (-nx).toNat
  let den := 1000 * 2 ^ nx.toNat
  ((2 * num + den) / (2 * den)) % 65536

/-- A reading in mV as a fraction: mantissa × 2^Nx volts (R540). -/
def voutMv (m : Nat) (nx : Int) : Nat × Nat := (1000 * m * 2 ^ nx.toNat, 2 ^ (-nx).toNat)

/-- VSET takes a new value and is written to the regulator; a lowering is counted (R512, R513). -/
def State.setVolt (s : State) (for_ : VoltFor) (mv : Nat) : State :=
  let down := decide (for_ = .lower) || decide (for_ = .bound false)
  let s := s.wr Reg.AGE_STAT_VSET mv
  let s := s.onAge (fun a => { a with volt := some { for_ := for_, target := mv, at_ := s.runNs }, lastChange := s.runNs, voutCmd := voutCommand mv a.pmbExp })
  if down then s.countLog 0x3E1 mv else s

/-- A voltage step (R512). -/
def State.raiseVolt (s : State) : State := s.setVolt .raise (min (s.vset + 10) s.vmax)

/-- A voltage step is left (R510). -/
def State.canRaise (s : State) : Bool := s.canSet && decide (s.vset < s.vmax) && !s.forerunner

/-- VSET is lowered when every condition of R513 holds. -/
def State.tryLower (s : State) : State :=
  if s.canSet && s.img.run.isSome && !s.forerunner && s.age.probe.isNone && decide (3 ≤ s.age.easy) &&
     decide (s.age.lastChange + 60000000000 ≤ s.runNs) && decide (s.vmin + 10 ≤ s.vset) && !s.flag Reg.AGE_STAT_LOWER_HOLD then
    s.setVolt .lower (s.vset - 10)
  else s

/-- LOWER_HOLD_EXPIRY (R513). -/
def execLowerHoldExpiry (s : State) : Out :=
  .next (if s.flag Reg.AGE_STAT_LOWER_HOLD && decide (s.age.holdUntil ≤ s.runNs) then (s.wr Reg.AGE_STAT_LOWER_HOLD 0).tryLower else s)

/-- The probe that is wanted starts (R518): VSET to VMAX, or at VMAX its measurement at once. -/
def State.startProbe (s : State) : State :=
  let s := (s.onAge (fun a => { a with probeDue := false, probe := some s.vset })).wr Reg.AGE_STAT_PROBE 1
  if s.vset = s.vmax then s.onFab (fun f => { f with measProbe := some false }) else s.setVolt .probeUp s.vmax

/-- Commands that wait for a probe end DENIED. -/
def State.denyProbe (s : State) : State :=
  let l := s.age.probeRefs
  forL l (fun r (s : State) => s.complete r .denied 6) (s.onAge (fun a => { a with probeRefs := [] }))

/-- Setpoint work due at a base mark: bounds, VFIX, a probe that is wanted, a lowering (R513, R518, R520, R541). -/
def State.voltMark (s : State) : State :=
  if s.age.probe.isSome || !s.canSet then s
  else if s.forerunner then (if s.vset = s.vfix then s else s.setVolt .fix s.vfix)
  else if s.vmax < s.vset then s.setVolt (.bound false) s.vmax
  else if s.vset < s.vmin then s.setVolt (.bound true) s.vmin
  else if s.age.probeDue && decide (s.rd Reg.GLB_CERT_STATUS_STATE = 1) then s.startProbe
  else s.tryLower

/-! The bus (R540 to R543). -/

/-- How a transaction ended, in PWR_PMB. -/
def State.pmbEnd (s : State) (e : PmbEnd) : State :=
  match e with
  | .ok => s
  | .nack => s.wr Reg.PWR_PMB_NACK 1
  | .pec => s.wr Reg.PWR_PMB_PEC_ERR 1

/-- READ_VOUT in PWR_VCORE, rounded to nearest (R558). -/
def State.showVout (s : State) (vout : Nat) : State :=
  let v := voutMv vout s.age.pmbExp
  s.wr Reg.PWR_VCORE_VOUT_MV (min 1023 ((2 * v.1 + v.2) / (2 * v.2)))

/-- PMBUS_SETTLE_POLL: READ_VOUT and STATUS_WORD every 200 µs after a setpoint write (R542). -/
def execPmbusSettlePoll (vout status : BitVec 16) (e : PmbEnd) (s : State) : Out :=
  match s.age.volt with
  | none => .next s
  | some p =>
    if p.settled ∨ s.fab.frozen then .next s
    else if e ≠ .ok then .next ((s.pmbEnd e).onAge (fun a => { a with volt := some { p with good := 0 } }))
    else
      let v := voutMv vout.toNat s.age.pmbExp
      let near := decide (v.1 ≤ (p.target + 10) * v.2) && decide ((p.target - 10) * v.2 ≤ v.1)
      let s := (s.showVout vout.toNat).wr Reg.PWR_PMB_STATUS status.toNat
      .next (s.onAge (fun a => { a with volt := some { p with good := if near && !bitOf status.toNat 15 then p.good + 1 else 0 } }))

/-- A probe ends: PROBE clears and its commands complete (R518, R533). -/
def State.endProbe (s : State) : State :=
  let l := s.age.probeRefs
  forL l (fun r (s : State) => s.complete r .ok 0 s.time.n) ((s.onAge (fun a => { a with probe := none, probeRefs := [] })).wr Reg.AGE_STAT_PROBE 0)

/-- REGULATOR_SETTLED: two consecutive readings lie in range; a raise is complete, and a measurement is asked for (R512, R518, R542). -/
def execRegulatorSettled (s : State) : Out :=
  match s.age.volt with
  | none => .next s
  | some p =>
    if p.settled ∨ p.good < 2 ∨ s.fab.frozen then .next s
    else
      let s := s.onAge (fun a => { a with volt := some { p with settled := true } })
      .next (match p.for_ with
        | .raise | .bound true => (s.countLog 0x3E0 p.target).reqMeas true true []
        | .lower | .fix | .bound false => s.reqMeas true true []
        | .probeUp => s.onFab (fun f => { f with measProbe := some true })
        | .probeDown => s.endProbe.reqMeas true true []
        | .boot => s.onAge (fun a => { a with volt := none }))

/-- REGULATOR_SETTLE_TIMEOUT: 5 ms without a settled report, or a write whose repeat failed too (R512, R542). -/
def execRegulatorSettleTimeout (e : PmbEnd) (s : State) : Out :=
  match s.age.volt with
  | none => .next s
  | some p =>
    if p.settled ∨ s.fab.frozen ∨ (e = .ok ∧ s.runNs < p.at_ + 5000000) then .next s
    else
      let s := ((s.pmbEnd e).wr Reg.AGE_STAT_PMB_FAULT 1).countLog 0x3E2 p.target
      let s := s.onAge (fun a => { a with volt := none })
      .next (if s.age.probe.isSome then ((s.onAge (fun a => { a with probe := none })).wr Reg.AGE_STAT_PROBE 0).denyProbe else s)

/-- PMBUS_TELEMETRY_POLL, every 10 ms between setpoint writes; IOUT in units of 10 mA and the temperature in °C (R543, R558). -/
def execPmbusTelemetryPoll (vout iout : BitVec 16) (temp : BitVec 8) (e : PmbEnd) (s : State) : Out :=
  let busy := match s.age.volt with | some p => !p.settled | none => false
  if busy || !s.flag Reg.PWR_PMB_PRESENT then .next s
  else if e ≠ .ok then .next (s.pmbEnd e)
  else .next (((s.showVout vout.toNat).wr Reg.PWR_VCORE_IOUT iout.toNat).wr Reg.PWR_TEMP_REG_TEMP temp.toNat)

/-- PMB_ALERT: STATUS_WORD is read and the regulator's faults are cleared; VSET stays (R543). -/
def execPmbAlert (status : BitVec 16) (e : PmbEnd) (s : State) : Out :=
  let s := if e = .ok then s.wr Reg.PWR_PMB_STATUS status.toNat else s.pmbEnd e
  .next ((s.wr Reg.PWR_STAT_PMB_ALERT 1).logEvent 0x40F)

/-- PMBUS_BOOT_READ: VOUT_MODE and READ_VOUT within 3 ms of reset release, and VSET written back (R540, R541). -/
def execPmbusBootRead (mode : BitVec 8) (vout : BitVec 16) (e : PmbEnd) (s : State) : Out :=
  let s := s.pmbEnd e
  if e ≠ .ok ∨ 32 ≤ mode.toNat then
    .next (((s.wr Reg.PWR_PMB_PRESENT 0).wr Reg.AGE_STAT_PMB_FAULT 1).wr Reg.AGE_STAT_VSET 0)
  else
    let s := (s.wr Reg.PWR_PMB_PRESENT 1).onAge (fun a => { a with pmbExp := signed 5 mode.toNat, volt := none })
    let s := s.showVout vout.toNat
    let v := voutMv vout.toNat s.age.pmbExp
    let r := 10 * ((v.1 + 5 * v.2) / (10 * v.2))
    .next (if s.fab.frozen then s else s.setVolt .boot (max s.vmin (min s.vmax r)))

/-- TJ_SAMPLE: the highest die sensor every 1 ms; a change of more than 5 °C starts a measurement (R71, R554). -/
def execTjSample (tj : BitVec 8) (s : State) : Out :=
  let t := tj.toInt
  let hot := decide (110 < t)
  let was := s.flag Reg.PWR_STAT_HOT_NOW
  let s := (s.wr Reg.PWR_TEMP_TJ_MAX tj.toNat).wrb Reg.PWR_STAT_HOT_NOW hot
  let s := if hot then s.wr Reg.PWR_STAT_HOT 1 else s
  let s := if hot && !was then s.logEvent 0x40F else s
  .next (match s.fab.measTemp with
    | some o => if 5 < (t - o).natAbs then s.reqMeas true false [] else s
    | none => s)

end Sys2Proof.Machine
end

