-- ==== Sys2Proof/Machine/Margin.lean ====
section
/-! DEFINITION. Margins: the end of a measurement, the certificate check, voltage steps and migrations, swap-in, probes and the forecast (R56, R69 to R72, R509 to R521, R533). -/

namespace Sys2Proof.Machine

/-! Budgets, map and certificate as the registers hold them. -/

/-- B(c) of the 64 cells; 50,000 before the first measurement (R53). -/
def State.budgets (s : State) : List Nat :=
  (List.range 64).map (fun c => if s.fab.measured then s.rd Reg.CEL_BUDGET_B [c] else 50000)

/-- Physical cells by logical number; the number itself in native mode (R520). -/
def State.physFor (s : State) (compat : Bool) : List Nat := (List.range 64).map (fun c => if compat then s.sys.swap.at' c c else c)
/-- Physical cells under the running image. -/
def State.physOf (s : State) : List Nat := s.physFor s.forerunner

/-- Homes that another cell executes (R515). -/
def State.execMap (s : State) : Tab Nat :=
  ((List.range 64).filter (fun h => s.flag Reg.AGE_MAP_MIGRATED [h])).map (fun h => (h, s.rd Reg.AGE_MAP_EXEC [h]))

/-- The map with the migrations decided and not yet in effect. -/
def State.planMap (s : State) : Tab Nat :=
  s.age.migrations.foldl (fun t m => if m.exec = m.home then t.drop' m.home else t.put m.home m.exec) s.execMap

/-- W_BASE and W_FAST of the cells. -/
def State.certW (s : State) : List (Nat × Nat) :=
  (List.range 64).map (fun c => (s.rd Reg.CEL_CERT_BASE_W_BASE [c], s.rd Reg.CEL_CERT_FAST_W_FAST [c]))

/-- W_BASE and W_FAST shown. -/
def State.showCert (s : State) (w : List (Nat × Nat)) : State :=
  forN 64 (fun c (s : State) => (s.wr Reg.CEL_CERT_BASE_W_BASE (w.getD c (0, 0)).1 [c]).wr Reg.CEL_CERT_FAST_W_FAST (w.getD c (0, 0)).2 [c]) s

/-- L(c) and L_FAST(c) of the latest B(c) shown. -/
def State.showLimits (s : State) : State :=
  forN 64 (fun c (s : State) =>
    let b := s.rd Reg.CEL_BUDGET_B [c]
    (s.wr Reg.CEL_CERT_LIMIT_LIMIT (limitBase b) [c]).wr Reg.CEL_CERT_FLIM_FAST_LIMIT (limitFast b) [c]) s

/-- UTIL_PM and WORST_CELL of the last check, ties to the lower cell (R64). -/
def State.showUtil (s : State) : State :=
  let bs := s.budgets
  let w := s.certW
  let u : Nat × Nat := (List.range 64).foldl (fun a c =>
    let x := utilPm (w.getD c (0, 0)).1 (bs.getD c 0)
    if a.1 < x then (x, c) else a) (0, 0)
  (s.wr Reg.GLB_CERT_STATUS_UTIL_PM u.1).wr Reg.GLB_CERT_STATUS_WORST_CELL u.2

/-- The certificate record of a certificate; the role code of a cell is that of the image's role map (R57; log entry 36). -/
def State.certRecord (s : State) (i : Img) (w : List (Nat × Nat)) : CertRecord :=
  let bs := s.budgets
  { digest := i.digest, sec := s.time.d.sec, vcore := s.vset, tj := signed 8 (s.rd Reg.PWR_TEMP_TJ_MAX)
    util := (List.range 64).foldl (fun a c => max a (utilPm (w.getD c (0, 0)).1 (bs.getD c 0))) 0
    cells := (List.range 64).map (fun c => ((w.getD c (0, 0)).1, (w.getD c (0, 0)).2, bs.getD c 0, i.roles.getD c 0)) }

/-- The certificate record and the map written to the running slot's area (R57, R517). -/
def State.writeCert (s : State) (i : Img) (w : List (Nat × Nat)) : State :=
  let r := s.certRecord i w
  s.onImg (fun x => x.putArea x.slot { x.area x.slot with record := some r, map := s.execMap })

/-! The forecast (R518, R519). -/

/-- Slope of a cell's least-squares line as a fraction, permille per hour; none with fewer than 8 probes or all at one hour (R518). -/
def fcastSlope (l : List Probe) (c : Nat) : Option (Int × Int) :=
  if l.length < 8 then none
  else
    let n : Int := l.length
    let sx : Int := l.foldl (fun a p => a + (p.hours : Int)) 0
    let sy : Int := l.foldl (fun a p => a + (p.utop.at' c 0 : Int)) 0
    let sxy : Int := l.foldl (fun a p => a + (p.hours : Int) * (p.utop.at' c 0 : Int)) 0
    let sxx : Int := l.foldl (fun a p => a + (p.hours : Int) * (p.hours : Int)) 0
    let den := n * sxx - sx * sx
    if den = 0 then none else some (n * sxy - sx * sy, den)

/-- Hours until a cell exhausts its margin, truncated; a margin already exhausted gives 0 (R518, R519). -/
def fcastHours (l : List Probe) (c : Nat) : Option Nat :=
  match fcastSlope l c, l.getLast? with
  | some (num, den), some p =>
    if num ≤ 0 then none else some (min 0xFFFFFFFF ((max 0 ((1000 - (p.utop.at' c 0 : Int)) * den / num)).toNat))
  | _, _ => none

/-- SPARE cells free of migrated work (R519). -/
def State.spares (s : State) : Nat :=
  match s.img.run with
  | some i => ((List.range 64).filter (fun c => decide (i.roles.getD c 0 = 0) && (homesOf s.execMap c).all (fun h => decide (h = c)))).length
  | none => 0

/-- The 16 bytes of the forecast record (R519). -/
def State.fcastBytes (s : State) : List Byte :=
  let l := if s.forerunner then [] else s.age.probes
  let best : Option (Nat × Nat) := (List.range 64).foldl (fun a c =>
    match fcastHours l c, a with
    | some h, some b => if h < b.1 then some (h, c) else a
    | some h, none => some (h, c)
    | none, _ => a) none
  let hours := match best with | some b => b.1 | none => 0xFFFFFFFF
  let worst := match best with | some b => b.2 | none => 0
  let utop : Nat := match l.getLast? with | some p => p.utop.foldl (fun a e => max a e.2) 0 | none => 0
  let slope : Int := match best with
    | some b => (match fcastSlope l b.2 with | some (num, den) => max (-32768) (min 32767 ((1000 * num).tdiv den)) | none => 0)
    | none => 0
  leBytes 4 hours ++ leBytes 1 worst ++ leBytes 1 s.spares ++ leBytes 2 s.vset ++ leBytes 2 utop ++ leBytes 2 (twos 16 slope) ++
    leBytes 1 l.length ++ leBytes 1 (s.rd Reg.GLB_CERT_STATUS_STATE) ++ leBytes 2 0

/-- The registers that show the forecast (R531). -/
def State.showFcast (s : State) : State :=
  let b := s.fcastBytes
  forN 4 (fun n (s : State) => s.wr Reg.AGE_FCAST_BYTES (fieldLE b (4 * n) 4) [n]) (s.wr Reg.AGE_STAT_SPARES s.spares)

/-! Roles and map (R35, R515). -/

/-- Homes with role work that a cell executes. -/
def State.workHomes (s : State) (i : Img) (c : Nat) : List Nat :=
  (List.range 64).filter (fun h => decide (i.roles.getD h 0 ≠ 0) && decide (s.execOf h = c))

/-- GLB_CELL_ROLE: the role at the executing cell, SPARE elsewhere (R35, R515). -/
def State.showRoles (s : State) (i : Img) : State :=
  forN 4 (fun g (s : State) =>
    s.setReg Reg.GLB_CELL_ROLE ((List.range 16).foldl (fun a k =>
      match (s.workHomes i (16 * g + k)) with
      | h :: _ => a + i.roles.getD h 0 * 4 ^ k
      | [] => a) 0) [g]) s

/-- A cell as a cell that starts afresh, in RUN or IDLE (R77). -/
def State.cellFresh (s : State) (c st : Nat) : State :=
  let s := s.onFab (fun f => { f with cells := f.cells.drop' c })
  ((((s.wr Reg.CEL_STATUS_STATE st [c]).wr Reg.CEL_STATUS_OVR_RUN 0 [c]).wr Reg.CEL_STATUS_FOVR_RUN 0 [c]).wr Reg.CEL_CTL_RELEASE 0 [c])

/-- A cell takes or loses its last role work (R77, R515). -/
def State.cellWork (s : State) (i : Img) (c : Nat) : State :=
  if (s.workHomes i c).isEmpty then s.cellFresh c 0
  else if s.rd Reg.CEL_STATUS_STATE [c] = 0 then s.cellFresh c 1 else s

/-! Migration (R514 to R517). -/

/-- A migration or return takes effect (R515, R517). -/
def State.migrate (s : State) (i : Img) (m : Migration) : State :=
  let old := s.execOf m.home
  let s := (s.wr Reg.AGE_MAP_EXEC m.exec [m.home]).wrb Reg.AGE_MAP_MIGRATED (decide (m.exec ≠ m.home)) [m.home]
  let s := (s.cellWork i old).cellWork i m.exec
  let s := if s.active then s.onPair (fun p => { p with cmdsNow := p.cmdsNow ++ [.migrate m.home m.exec] }) else s
  match m.ref with
  | some r => s.complete r .ok 0 s.time.n
  | none => if m.exec ≠ m.home then s.countLog 0x3E3 (m.home * 64 + m.exec) else s

/-- Certificate, roles and forecast after a change of where work executes (R514, R515). -/
def State.mapChanged (s : State) (i : Img) : State :=
  let w := certAll i s.execMap s.physOf
  ((((s.showCert w).showLimits).writeCert i w).showRoles i).showFcast

/-- Migrations due at a base mark; in STOP a MIGRATE_BACK has no effect (R515, R564). -/
def State.migrationMark (s : State) : State :=
  match s.img.run with
  | none => s.onAge (fun a => { a with migrations := [] })
  | some i =>
    let l := s.age.migrations.filter (fun m => decide (m.mark ≤ s.time.n))
    if l.isEmpty then s
    else
      let s := s.onAge (fun a => { a with migrations := a.migrations.filter (fun m => !decide (m.mark ≤ s.time.n)) })
      let refused (m : Migration) : Bool := s.keyStopped && m.ref.isSome
      let s := forL (l.filter refused) (fun m s => match m.ref with | some r => s.complete r .denied 1 | none => s) s
      if l.all refused then s else (forL (l.filter (fun m => !refused m)) (fun m s => s.migrate i m) s).mapChanged i

/-- MIGRATE_BACK (R517, R533). -/
def execMigrateBack (ref : CmdRef) (args : List Nat) (s : State) : Out :=
  let h := argN args 0
  let fits := match s.img.run with
    | some i => admitted (certOf i (s.planMap.drop' h) s.physOf h) (s.budgets.getD h 0)
    | none => false
  let moving := s.age.migrations.any (fun m => decide (m.home = h))
  .next (s.commandLong ref 0x0F04 [(decide (args.length < 1 ∨ 64 ≤ h), .invalid, 0), (s.img.run.isNone, .absent, 0)]
    [(!s.flag Reg.AGE_MAP_MIGRATED [h] || moving || !fits, .denied, 6)]
    (fun ref s => s.loseSplice.onAge (fun a => { a with migrations := a.migrations ++ [{ home := h, exec := h, mark := s.time.n + 8, ref := some ref }] })))

/-! Swap-in (R521). -/

/-- The certificates of the cells whose hop counts a swap changes, and of the swapped cell, are admitted (R521). -/
def swapFits (i : Img) (map : Tab Nat) (phys bs : List Nat) (c t : Nat) : Bool :=
  let pc := phys.getD c c
  let pt := phys.getD t t
  let phys' := modAt (fun _ => pc) (modAt (fun _ => pt) phys c) t
  let bs' := modAt (fun _ => bs.getD t 0) bs c
  (List.range 64).all (fun x =>
    let a := certOf i map phys' x
    decide (x = t) || (decide (x ≠ c) && decide (a = certOf i map phys x)) || admitted a (bs'.getD x 0))

/-- The lowest SPARE logical cell whose physical cell may replace that of cell c (R521). -/
def State.swapCandidate (s : State) (i : Img) (c : Nat) : Option Nat :=
  (List.range 64).find? (fun t => decide (i.roles.getD t 0 = 0) && !decide (t ∈ s.sys.lost) && decide (t ≠ c) && swapFits i s.execMap s.physOf s.budgets c t)

/-- UNCOVERED is entered (R510, R511). -/
def State.uncover (s : State) : State :=
  if s.rd Reg.GLB_CERT_STATUS_STATE = 3 then s
  else
    let s := s.wrCause Reg.GLB_CERT_STATUS_STATE 3 1
    (((s.wr Reg.AGE_STAT_ALARM 1).cause 12).countLog 0x3E4 (s.rd Reg.GLB_CERT_STATUS_UTIL_PM)).selfCause 2

/-- The next swap-in that is wanted starts its copy, or the spares are exhausted (R521). -/
def State.startSwap (s : State) (i : Img) : State :=
  match s.age.swap, s.age.swapWant with
  | none, c :: t =>
    let s := s.onAge (fun a => { a with swapWant := t.filter (fun x => decide (x ≠ c)) })
    match s.swapCandidate i c with
    | some k => s.loseSplice.onAge (fun a => { a with swap := some (c, s.physOf.getD k k, k, false) })
    | none => (s.countLog 0x3E9 0).uncover
  | _, _ => s

/-- SWAP_IN_COPY_DONE (R521). -/
def execSwapInCopyDone (s : State) : Out :=
  .next (s.onAge (fun a => { a with swap := a.swap.map (fun x => (x.1, x.2.1, x.2.2.1, true)) }))

/-- The swap map in AGE_MAP (R520, R531). -/
def State.showSwap (s : State) : State :=
  forN 64 (fun c (s : State) =>
    ((s.wr Reg.AGE_MAP_PHYS (s.physOf.getD c c) [c]).wrb Reg.AGE_MAP_LOST (decide (c ∈ s.sys.lost)) [c]).wrb Reg.AGE_MAP_SWAPPED
      (decide (s.sys.swap.at' c c ≠ c) && !decide (c ∈ s.sys.lost)) [c]) s

/-- Traces of a cell return to IDLE, each discard logged (R521). -/
def State.dropTraces (s : State) (c : Nat) : State :=
  forL (s.loops.filter (fun e => decide (e.1 / 256 = c) && decide (e.2.trace.st ≠ .idle))) (fun e (s : State) =>
    { s with loops := s.loops.put e.1 { e.2 with trace := {} } }.logEvent 0x402 4) s

/-- A swap-in whose copy is done takes effect at the base mark (R521). -/
def State.swapMark (s : State) : State :=
  match s.img.run, s.age.swap with
  | some i, some (c, p, k, true) =>
    let old := s.physOf.getD c c
    let rowsOf (b : SysBody) (x j : Nat) : Nat := b.rows.at' (x * 3 + j) 0
    let s := s.sysWrite (fun b => { b with
      swap := (b.swap.put c p).put k old, lost := if k ∈ b.lost then b.lost else b.lost ++ [k]
      rows := (List.range 3).foldl (fun t j => (t.put (c * 3 + j) (rowsOf b k j)).put (k * 3 + j) 4) b.rows })
    let s := (s.wr Reg.CEL_BUDGET_B (s.rd Reg.CEL_BUDGET_B [k]) [c]).showSwap.dropTraces c
    let s := (s.countLog 0x3E6 (c * 64 + p)).onAge (fun a => { a with swap := none })
    let s := (s.wr Reg.AGE_SPARE_ROWS_MIN s.rowsMin).mapChanged i
    s.startSwap i
  | some i, none => s.startSwap i
  | _, _ => s

/-! The certificate check and what follows it (R56, R510, R511). -/

/-- Cells that the latest budgets do not admit, in the order of service (R514). -/
def State.failing (s : State) (w : List (Nat × Nat)) : List Nat := failingCells w s.budgets

/-- Every cell stands at 780 permille or less of both budgets (R513). -/
def State.easyNow (s : State) : Bool :=
  let w := s.certW
  (List.range 64).all (fun c =>
    let b := s.budgets.getD c 0
    decide (0 < b) && decide (ceilDiv (1000 * (w.getD c (0, 0)).1) b ≤ 780) && decide (ceilDiv (8000 * (w.getD c (0, 0)).2) b ≤ 780))

/-- Migration of every failing cell that can move, at mark N + 8; UNCOVERED when one cannot (R510, R514, R515). A standby in REPLAY re-plans by voltage only (R517). -/
def State.planMigrations (s : State) (i : Img) : State :=
  let map := s.planMap
  let fails := s.failing (certAll i map s.physOf)
  if s.pairSt = 4 then (if fails.isEmpty then s else s.uncover)
  else
    let r := planMoves i s.physOf s.budgets s.sys.lost fails map [] false
    let s := if r.2.1.isEmpty then s
      else s.loseSplice.onAge (fun a => { a with migrations := a.migrations ++ r.2.1.map (fun m => { home := m.1, exec := m.2, mark := s.time.n + 8 }) })
    if r.2.2 then s.uncover else s

/-- The check of R56 at a base mark, and the actions of R510; `lowered`: the measurement followed a lowering (R513). -/
def State.marginCheck (s : State) (i : Img) (lowered : Bool) : State :=
  let s := s.showLimits.showUtil
  let fails := s.failing s.certW
  let st := s.rd Reg.GLB_CERT_STATUS_STATE
  let s :=
    if fails.isEmpty then (s.wrCause Reg.GLB_CERT_STATUS_STATE 1 1).tryLower
    else if s.age.volt.isSome then (if st = 0 then s.wrCause Reg.GLB_CERT_STATUS_STATE 2 1 else s)
    else
      let s := if st ≤ 1 then s.wrCause Reg.GLB_CERT_STATUS_STATE 2 1 else s
      if s.forerunner then
        (s.onAge (fun a => { a with swapWant := fails.foldl (fun l c => if c ∈ l ∨ a.swap.map (·.1) = some c then l else l ++ [c]) a.swapWant })).startSwap i
      else if s.canRaise then
        let s := s.raiseVolt
        if lowered then (s.wr Reg.AGE_STAT_LOWER_HOLD 1).onAge (fun a => { a with holdUntil := s.runNs + 3600000000000 }) else s
      else s.planMigrations i
  s.showFcast

/-- A committed splice whose certificate the new budgets do not admit is discarded (R63). -/
def State.spliceCert (s : State) : State :=
  match s.img.splice with
  | some p =>
    let w := p.cert.cells.map (fun x => (x.1, x.2.1))
    if p.commit.isSome && !(certFaults w s.budgets (fun c => p.extra.at' c 0)).isEmpty then s.endSplice .certFail else s
  | none => s

/-! The end of a measurement (R69, R70, R72). -/

/-- The median of three numbers. -/
def median3 (a b c : Nat) : Nat := max (min a b) (min (max a b) c)

/-- The tell-tale that is excluded: exactly one lies more than 12.5 % below the median of the other three (R70). -/
def excluded (n : List Nat) : Option Nat :=
  let x (k : Nat) : Nat := n.getD k 0
  let low := (List.range 4).filter (fun k => decide (8 * x k < 7 * median3 (x ((k + 1) % 4)) (x ((k + 2) % 4)) (x ((k + 3) % 4))))
  match low with
  | [k] => some k
  | _ => none

/-- B(c) of four counts (R69, R70, R72). -/
def budgetOf (n : List Nat) : Nat :=
  let e := excluded n
  min 1048575 (((List.range 4).filter (fun k => decide (e ≠ some k))).foldl (fun a k => min a (n.getD k 0)) 1048575)

/-- The four counts of a cell, within the 20 bits of CEL_TT_k before the test of R70 (R69, R70, R88; log entry 10). -/
def ttOf (counts : List Nat) (c : Nat) : List Nat := (List.range 4).map (fun k => min 1048575 (counts.getD (4 * c + k) 0))

/-- Budgets and counts written (R69, R70). -/
def State.writeBudgets (s : State) (counts : List Nat) : State :=
  let s := forN 64 (fun c (s : State) =>
    let n := ttOf counts c
    let e := excluded n
    let s := ((s.wr Reg.CEL_BUDGET_B (budgetOf n) [c]).wrb Reg.CEL_BUDGET_TT_EXCL e.isSome [c]).wr Reg.CEL_BUDGET_TT_IDX (e.getD 0) [c]
    forN 4 (fun k (s : State) => s.wr Reg.CEL_TT_COUNT (n.getD k 0) [c, k]) s) s
  (s.onFab (fun f => { f with measured := true })).showLimits

/-- A probe's measurement: U_top of every cell is kept, and VSET is restored (R518). -/
def State.probeTaken (s : State) (counts : List Nat) : State :=
  let w := s.certW
  let u : Tab Nat := (List.range 64).map (fun c =>
    let l := limitBase (budgetOf (ttOf counts c))
    (c, if l = 0 then 0xFFFF else min 0xFFFF (ceilDiv (1000 * (w.getD c (0, 0)).1) l)))
  let top : Nat := u.foldl (fun a e => max a e.2) 0
  let s := s.onAge (fun a =>
    let l := a.probes ++ [{ hours := s.rd Reg.AGE_HOURS_OP_HOURS, utop := u }]
    { a with probes := l.drop (l.length - 64), volt := none })
  let s := s.countLog 0x3E5 top
  let s := match s.age.probe with
    | some v => if v = s.vset ∨ !s.canSet then s.endProbe else s.setVolt .probeDown v
    | none => s
  s.showFcast

/-- Commands that end with the measurement (R533). -/
def State.measAnswers (s : State) (counts : List Nat) (l : List (CmdRef × Nat)) : State :=
  forL l (fun e (s : State) =>
    if e.2 = 0x1002 then
      s.complete e.1 .ok 0 s.time.n ((((List.range 64).map (fun c => ((ttOf counts c).map (leBytes 4)).flatten)).flatten) ++
        ((List.range 64).map (fun c => leBytes 1 ((excluded (ttOf counts c)).getD 0xFF))).flatten)
    else s.complete e.1 .ok 0 s.time.n) s

/-- MEASUREMENT_COMPLETE: the eighth cycle has ended; the smallest counts give the budgets (R69 to R72, R510). -/
def execMeasurementComplete (s : State) : Out :=
  match s.fab.meas with
  | none => .next s
  | some m =>
    if m.cycles < 8 then .next s
    else
      let counts := m.counts
      let s := (s.onFab (fun f => { f with meas := none })).count 0x086
      let s := forL (List.range 64) (fun c (s : State) =>
        match excluded (ttOf counts c) with | some k => s.logEvent 0x400 (4 * c + k) | none => s) s
      let s := (s.measAnswers counts m.waiters).nextMeas
      if m.probe then .next (s.probeTaken counts)
      else
        let s := s.writeBudgets counts
        let pend := s.age.volt
        let done := match pend with | some p => m.forVolt && p.settled | none => false
        let lowered := match pend with | some p => done && decide (p.for_ = .lower) | none => false
        let s := if done then s.onAge (fun a => { a with volt := none }) else s
        match s.img.run with
        | none => .next ((s.onAge (fun a => { a with easy := 0 })).showFcast)
        | some i =>
          let e := s.easyNow
          let s := (s.onAge (fun a => { a with easy := if e then min 3 (a.easy + 1) else 0 })).spliceCert
          .next (s.marginCheck i lowered)

/-! Probes and the register dump (R518, R533). -/

/-- MARGIN_PROBE_DUE: 24 h of run time have passed (R518). -/
def execMarginProbeDue (s : State) : Out :=
  .next (if s.forerunner ∨ s.img.run.isNone ∨ s.age.probe.isSome then s else s.onAge (fun a => { a with probeDue := true }))

/-- MARGIN_PROBE: starts at a base mark; one that arrives while a probe is wanted or runs ends with it (R518, R533). -/
def execMarginProbe (ref : CmdRef) (_args : List Nat) (s : State) : Out :=
  .next (s.commandLong ref 0x0F03 [(s.img.run.isNone, .absent, 0)]
    [(s.forerunner || decide (s.rd Reg.GLB_CERT_STATUS_STATE ≠ 1) || s.flag Reg.AGE_STAT_PMB_FAULT, .denied, 6)]
    (fun ref s => s.onAge (fun a => { a with probeRefs := a.probeRefs ++ [ref], probeDue := a.probeDue || a.probe.isNone })))

/-- AGE_READ: the AGE registers in the order of their offsets, then the forecast record (R533, log entry 2). -/
def execAgeRead (ref : CmdRef) (_args : List Nat) (s : State) : Out :=
  let one := [Reg.AGE_STAT, Reg.AGE_VCFG, Reg.AGE_VFIX, Reg.AGE_HOURS, Reg.AGE_OPSEC, Reg.AGE_PCYC, Reg.AGE_REC_CFG, Reg.AGE_REC_STAT, Reg.AGE_REC_SEQ]
  let b := (one.map (fun d => leBytes 4 (s.reg d))).flatten ++ ((List.range 64).map (fun c => leBytes 4 (s.reg Reg.AGE_MAP [c]))).flatten ++
    leBytes 4 (s.reg Reg.AGE_SPARE) ++ s.fcastBytes
  .next (s.command ref 0x0F01 [noRoom ref b.length] [] (fun ref s => s.complete ref .ok 0 0 b))

end Sys2Proof.Machine
end

