-- ==== Sys2Proof/Machine/Carry.lean ====
section
/-! DEFINITION. An image taking effect, cold or warm, and a splice at its mark: what is carried over, discarded and new (R47, R48, R59 to R63, R148, R150, R152, R173, R206, R207, R235, R378). -/

namespace Sys2Proof.Machine

/-! What waits in role state when an image takes effect. -/

/-- The commands that wait in loops, axes and generators. -/
def State.roleRefs (s : State) : List CmdRef :=
  (s.loops.map (fun e => e.2.able.filterMap (·.2) ++ e.2.swaps.map (·.ref))).flatten ++
  (s.axes.map (fun e => e.2.able.map (·.2))).flatten ++
  (s.pgs.map (fun e => (e.2.arrived ++ e.2.latched.toList ++ e.2.current.toList ++ e.2.pend.toList).filterMap (·.ref))).flatten

/-- Those commands end ABORTED. -/
def State.abortRoles (s : State) : State := forL s.roleRefs (fun r (s : State) => s.complete r .aborted) s

/-- A latched command names an object of the running image. -/
def State.latchedThere (s : State) (l : Latched) : Bool :=
  if l.op ∈ [0x0302, 0x0303, 0x0304, 0x0306, 0x0309] then (s.loopDef l.home l.obj).isSome
  else if l.op ∈ [0x0314, 0x0315] then (s.axisDef l.home l.obj).isSome
  else if l.op = 0x0318 then (s.pgDef l.home l.obj).isSome
  else if l.op / 256 = 4 then ((s.rx l.home).flows[l.obj]?).isSome
  else match s.logicSec l.home with
    | none => false
    | some x => (x.tasks[l.obj]?).isSome &&
      (match l.op with
       | 0x0505 => decide (argN l.args 2 + argN l.args 3 ≤ areaSize x (argN l.args 1))
       | 0x0506 => (match x.objIndex (argN l.args 1) with | some i => !objSetBad x i (argN l.args 2) (argN l.args 3) | none => false)
       | _ => true)

/-- Latched commands, host writes and forces on what the new image does not define end ABSENT; the trace trigger and the mode command are answered already. -/
def State.dropMissing (s : State) : State :=
  let gone := s.fab.latched.filter (fun l => !s.latchedThere l)
  let s := forL (gone.filter (fun l => !decide (l.op ∈ [0x0306, 0x0309]))) (fun l (s : State) => s.complete l.ref .absent)
    (s.onFab (fun f => { f with latched := f.latched.filter (fun l => s.latchedThere l), applied := [] }))
  let there (k : Nat) : Bool := (s.pdef k).isSome
  let w := s.pts.hostWrites.filter (fun x => !there x.idx)
  let f := s.pts.forceReqs.filter (fun x => !there x.idx)
  let refs := refsOnce (w.map (·.ref) ++ f.map (·.ref)) []
  let s := s.onPts (fun p => { p with hostWrites := p.hostWrites.filter (fun x => there x.idx && !decide (x.ref ∈ refs)), forceReqs := p.forceReqs.filter (fun x => there x.idx && !decide (x.ref ∈ refs)) })
  forL refs (fun r (s : State) => s.complete r .absent) s

/-- The sealed half of the roles is the working half. -/
def State.sealRoles (s : State) : State :=
  { s with cut := { loops := s.loops, axes := s.axes, pgs := s.pgs, seqs := s.seqs, logics := s.logics, work := s.pts.work } }

/-- The registers that name the running image (R64). -/
def State.showImage (s : State) (i : Img) (slot fallback : Bool) : State :=
  let s := ((s.wr Reg.GLB_ROLE_ROLE i.role).wr Reg.GLB_IMG_STATUS_SLOT (if slot then 2 else 1)).wrb Reg.GLB_IMG_STATUS_FALLBACK fallback
  let s := ((s.wrb Reg.GLB_IMG_STATUS_COMPAT i.compat).wrb Reg.AGE_STAT_FORERUNNER i.compat).wr Reg.GLB_IMG_SERIAL_SERIAL i.serial
  forN 8 (fun k (s : State) => s.wr Reg.GLB_IMG_DIGEST_DIGEST (fieldLE i.digest (4 * k) 4) [k]) s

/-- The migration map in AGE_MAP (R515). -/
def State.showMap (s : State) (map : Tab Nat) : State :=
  forN 64 (fun h (s : State) => (s.wr Reg.AGE_MAP_EXEC (map.at' h h) [h]).wrb Reg.AGE_MAP_MIGRATED (decide (map.at' h h ≠ h)) [h]) s

/-- Identity mismatches of a load, each logged (R50). -/
def State.logMisses (s : State) (i : Img) (mis : List Nat) : State :=
  forL mis (fun k (s : State) => match i.idents[k]? with
    | some d => s.logEvent 0x403 ((d.bus * 128 + d.addr : Nat) : Int)
    | none => s) s

/-- The identity records read at the load and their mismatches, each logged (R50). -/
def State.showIdents (s : State) (i : Img) (mis : List Nat) (reads : List (Nat × List Byte)) : State :=
  let s := forN 2 (fun g (s : State) =>
    s.wr Reg.GLB_IDENT_MIS_MIS ((List.range 32).foldl (fun a k => if 32 * g + k ∈ mis then a + 2 ^ k else a) 0) [g]) s
  let s := s.onField (fun f => { f with idents := (reads.filter (fun r => identValid r.2)).foldl (fun t r => t.put r.1 r.2) [] })
  s.logMisses i mis

/-! The image takes effect (R48, R378). -/

/-- The cut that a restart resumes, none for a cold start (R378). -/
def State.warmCut (s : State) (i : Img) (k : LoadKind) : Option SealedCut :=
  match k with
  | .boot _ =>
    match s.pair.newer with
    | some (_, b) =>
      if !s.pair.coldAsked && decide (b.digest = i.digest) && decide (b.devnum = i.devnum) && decide (s.lc = 2 ∨ s.lc = 3) && !s.renewalSeen then some b.cut else none
    | none => none
  | _ => none

/-- A valid bank of another image: the cold restart is counted (R378). -/
def State.bankDiffers (s : State) (i : Img) (k : LoadKind) : Bool :=
  match k, s.pair.newer with
  | .boot _, some (_, b) => decide (b.digest ≠ i.digest)
  | _, _ => false

/-- Points of an image as at a cold start (R126, R398). -/
def State.coldPoints (s : State) (i : Img) : State :=
  let p := s.pts
  let s : State := { s with pts := { cutN := s.time.n - 1, hostWrites := p.hostWrites, forceReqs := p.forceReqs } }
  let s := s.onPts (fun p => { p with cut := i.points.map (fun e => (e.1, s.evalPoint e.1 s.time.n)) })
  s.wr Reg.GLB_PT_FORCE_COUNT 0

/-- An admitted image takes effect at the base mark that starts cycle N (R48, R49). -/
def State.imageEffect (s : State) (d : DueImage) : State :=
  let i := d.img
  let first := s.img.run.isNone
  let warm := s.warmCut i d.kind
  let s := if s.bankDiffers i d.kind then s.count 0x164 else s
  let s := s.abortRoles.endSplice .aborted
  let s := forL (s.age.migrations.filterMap (·.ref)) (fun r (s : State) => s.complete r .aborted) s
  let s := s.denyProbe.onAge (fun a => { a with migrations := [], probeDue := false })
  let s := s.onImg (fun x => { x with run := some i, slot := d.slot, due := none, spliceLost := false })
  let s := s.showImage i d.slot (match d.kind with | .boot b => b | _ => false)
  let s := (s.wr Reg.GLB_IMG_STATUS_WARM 0).showMap d.map
  let s := s.showSwap.showRoles i
  let s := s.onFab (fun f => { f with cells := [], done := [], moveDone := [], moveTaken := [], baseMoved := [], fastOut := [], reports := [], failed := if warm.isNone then [] else f.failed })
  let s := if warm.isNone then forN 64 (fun c (s : State) => s.wr Reg.CEL_STATUS_LANE_FAIL 0 [c]) s else s
  let s := forN 64 (fun c (s : State) => s.cellFresh c (if (s.workHomes i c).isEmpty then 0 else 1)) s
  let s := s.coldRoles.coldPoints i
  let s := (s.dropMissing).onPair (fun p => { p with coldAsked := false })
  let s := match warm with | some x => s.warmApply i x | none => s
  let s := s.sealRoles.convBegin.fieldBegin none
  let s := (s.showIdents i d.mis d.reads).linkBegin false false
  let s := ((s.histStart i s.time.n (warm.map (·.n))).acqStart i).pairBegin first
  let s := (s.showCert (d.cert.cells.map (fun x => (x.1, x.2.1)))).onImg (fun x => x.putArea d.slot { x.area d.slot with record := some d.cert, map := d.map })
  let s := (s.wrCause Reg.GLB_CERT_STATUS_STATE 1 1).marginCheck i false
  let s := s.showLoad
  match d.ref with
  | some r => s.complete r .ok 0 s.time.n
  | none => s

/-! Splice: roles (R60, R61, R150, R152, R155, R173, R207, R235). -/

/-- A removed owner writes a value to its point, where the new image still defines it, and reports it to the historian (R60, R152, R254). -/
def State.removedWrite (s : State) (h id : Nat) (v : Word) : State :=
  if id ≠ NONE ∧ (s.pdef (idLocal id)).isSome then (s.roleWriteId id v).report h id else s

/-- A loop whose record changed: new coefficients, whose limits act at its next execution, and its trace (R150, R155). -/
def spliceLoop (o d : LoopDef) (st : LoopState) : LoopState × Bool :=
  let st : LoopState := { st with coefs := d.coefs, relimit := true }
  if o.traceMask = d.traceMask ∧ o.traceDepth = d.traceDepth then ({ st with trace := traceFreeze 3 st.trace }, false)
  else ({ st with trace := {} }, decide (st.trace.st ≠ .idle))

/-- The loops at a splice. -/
def State.spliceLoops (s : State) (old new : Img) : State :=
  let s := forL old.loops (fun e (s : State) =>
    let st := match s.loops.look e.1 with | some x => x | none => coldLoop old.points e.2
    match new.loops.look e.1 with
    | some d =>
      if d = e.2 then { s with loops := s.loops.put e.1 st }
      else
        let r := spliceLoop e.2 d st
        let s : State := { s with loops := s.loops.put e.1 r.1 }
        if r.2 then s.logEvent 0x402 4 else s
    | none =>
      let s := forL (st.able.filterMap (·.2) ++ st.swaps.map (·.ref)) (fun r (s : State) => s.complete r .aborted) s
      let s : State := { s with loops := s.loops.drop' e.1 }
      s.removedWrite (e.1 / 256) e.2.out e.2.disableVal) s
  s

/-- An axis whose feedback changed counts as removed and new. -/
def sameFeedback (o d : AxisDef) : Bool := decide (o.encCh = d.encCh) && decide (o.fbPt = d.fbPt) && decide (o.fb = d.fb)

/-- The axes at a splice. -/
def State.spliceAxes (s : State) (old new : Img) : State :=
  forL old.axes (fun e (s : State) =>
    let st := match s.axes.look e.1 with | some x => x | none => coldAxis old.points e.2
    match new.axes.look e.1 with
    | some d =>
      if sameFeedback e.2 d then
        let st : AxisState := if d.posOffset = e.2.posOffset then st else { st with posOffset := d.posOffset }
        { s with axes := s.axes.put e.1 st }
      else { s with axes := s.axes.put e.1 (coldAxis new.points d) }
    | none =>
      let s := forL (st.able.map (·.2)) (fun r (s : State) => s.complete r .aborted) s
      let s : State := { s with axes := s.axes.drop' e.1 }
      s.removedWrite (e.1 / 32) e.2.out e.2.disableVal) s

/-- A generator in both images: changed limits stop a move, which then goes on to the same target (R173). -/
def splicePg (o d : PgDef) (g : PgState) : PgState :=
  if o.vMax = d.vMax ∧ o.aMax = d.aMax ∧ o.jMax = d.jMax then g
  else if g.st = .idle then { g with v := d.vMax, a := d.aMax, j := d.jMax, limPend := none }
  else
    { g with limPend := some (d.vMax, d.aMax, d.jMax), st := .stopping, due := .stop, dueAt := 0, quick := false
             pend := if g.st = .moving then g.current else g.pend, current := none }

/-- The generators at a splice. -/
def State.splicePgs (s : State) (old new : Img) : State :=
  let s := forL old.pgs (fun e (s : State) =>
    let g := match s.pgs.look e.1 with | some x => x | none => coldPg e.2
    match new.pgs.look e.1 with
    | some d => if e.2.rate = d.rate then { s with pgs := s.pgs.put e.1 (splicePg e.2 d g) } else { (s.endMove g.current .aborted).endMove g.pend .aborted with pgs := s.pgs.put e.1 { coldPg d with seed := true } }
    | none =>
      let s := forL (g.arrived ++ g.latched.toList) (fun q (s : State) => s.endMove (some q) .aborted) ((s.endMove g.current .aborted).endMove g.pend .aborted)
      let s : State := { s with pgs := s.pgs.drop' e.1 }
      (s.removedWrite (e.1 / 8) e.2.refPt g.xRef).removedWrite (e.1 / 8) e.2.done 0) s
  forL (new.pgs.filter (fun e => (old.pgs.look e.1).isNone)) (fun e (s : State) => { s with pgs := s.pgs.put e.1 { coldPg e.2 with seed := true } }) s

/-- The records of a flow are the same in two sections: flow, graph, steps and verbs (R61). -/
def flowSame (o n : RecipeSec) (f : Nat) : Bool :=
  let steps (x : RecipeSec) : List StepDef := match x.graphOf f with | some g => x.stepsOf g | none => []
  let verbs (x : RecipeSec) : List (List VerbDef) := (steps x).map (fun d => (x.verbs.drop d.firstVerb).take d.verbCount)
  decide (o.flows[f]? = n.flows[f]?) && decide (o.graphOf f = n.graphOf f) && decide (steps o = steps n) && decide (verbs o = verbs n)

/-- A flow is idle or between steps, with no verb in flight (R61). -/
def State.flowBetween (s : State) (h f : Nat) : Bool :=
  let st := s.flow h f
  !st.live && st.paused.isEmpty && st.verbs.all (fun e => decide (e.2.st ≠ .flight))

/-- Every changed and removed flow is between steps (R61). -/
def State.spliceFlowsReady (s : State) (old new : Img) : Bool :=
  old.recipes.all (fun e =>
    let n := (new.recipes.look e.1).getD RecipeSec.empty
    (s.flowNums e.1).all (fun f => flowSame e.2 n f || s.flowBetween e.1 f))

/-- The flows at a splice; the new image runs already, and `was` reads the state before (R207). -/
def State.spliceSeqs (s : State) (was : State) (old new : Img) : State :=
  let s := forL old.recipes (fun e (s : State) => if (new.recipes.look e.1).isNone then { s with seqs := s.seqs.drop' e.1 } else s) s
  forL new.recipes (fun e (s : State) =>
    match old.recipes.look e.1 with
    | none => { s with seqs := s.seqs.drop' e.1 }
    | some o =>
      let fl : Tab FlowState := (List.range e.2.flows.length).filterMap (fun f =>
        if o.flows.length ≤ f then none
        else
          let st := was.flow e.1 f
          let pts (x : RecipeSec) : Option (Nat × Nat) := (x.flows[f]?).map (fun d => (d.stepPt, d.statePt))
          let st := if pts o = pts e.2 then st else { st with shown := none }
          some (f, if flowSame o e.2 f then st else { st with verbs := [] }))
      s.onSeq e.1 (fun q => { q with flows := fl, delays := q.delays.filter (fun x => decide (x.flow < e.2.flows.length)) })) s

/-- A task of a changed cell changed: its record, its image records, the code or the objects differ (R235). -/
def taskSame (o n : LogicSec) (d : TaskDef) : Bool :=
  decide (o.tasks[d.task]? = some d) && decide (o.imgsOf d = n.imgsOf d) && decide (o.code = n.code) && decide (o.objects = n.objects)

/-- Object state carried to a new record of the same OBJ_ID and KIND (R60, R235). -/
def carryObj (o n : ObjDef) (x : ObjState) : ObjState :=
  match x with
  | .timer t => .timer (if o.p0 = n.p0 ∧ o.msBase = n.msBase then t else { t with newPt := some n.p0.toNat })
  | .counter c => .counter { c with pv := n.p0 }
  | .edge e => .edge e

/-- The index of an object by OBJ_ID and KIND. -/
def LogicSec.objMatch (x : LogicSec) (d : ObjDef) : Option Nat :=
  (findIdx' (fun (e : ObjDef) => decide (e.objId = d.objId) && decide (e.kind = d.kind)) x.objects 0).map (·.1)

/-- Bits below a bound of a 32-bit group. -/
def groupMask (bound g : Nat) : Word := BitVec.ofNat 32 (2 ^ (min 32 (bound - 32 * g)) - 1)

/-- A LOGIC cell's state carried to a changed section (R235). -/
def carryLogic (o n : LogicSec) (q : LogicState) : LogicState :=
  let m := min o.mBits n.mBits
  let words : Tab Word := (List.range n.wWords).filterMap (fun i =>
    if i < o.wWords then some (i, q.word o i) else none)
  let objs : Tab ObjState := (List.range n.objects.length).filterMap (fun j =>
    match n.objects[j]? with
    | some d => (match o.objMatch d with
      | some k => (match o.objects[k]? with | some w => some (j, carryObj w d (q.obj o k)) | none => none)
      | none => none)
    | none => none)
  let out : Tab Word := (List.range n.images.length).filterMap (fun j =>
    match n.images[j]? with
    | some r => (match findIdx' (fun (e : ImageRec) => decide (e.point = r.point) && decide (e.dir = r.dir)) o.images 0 with
      | some (k, _) => (q.outImg.look k).map (fun v => (j, v))
      | none => none)
    | none => none)
  let tasks : Tab TaskState := n.tasks.filterMap (fun d =>
    if (o.tasks[d.task]?).isNone then none
    else
      let t := q.task o d.task
      some (d.task, if taskSame o n d then t else { t with first := true, spliced := true }))
  { markers := (q.markers.filter (fun e => decide (32 * e.1 < m))).map (fun e => (e.1, e.2 &&& groupMask m e.1))
    words := words, objs := objs, tasks := tasks, outImg := out, rk := q.rk, stopped := q.stopped }

/-- The LOGIC cells at a splice (R235). -/
def State.spliceLogics (s : State) (old new : Img) : State :=
  let empty : LogicSec := { mBits := 0, wWords := 0, tasks := [], images := [], objects := [], wInit := [], code := [] }
  let s := forL old.logics (fun e (s : State) =>
    let n := (new.logics.look e.1).getD empty
    if new.logics.look e.1 = some e.2 then s
    else
      let q := s.logic e.1
      let s := forL (e.2.objects.filter (fun d => (n.objMatch d).isNone)) (fun d (s : State) =>
        match d.kind with
        | .ton | .tof | .tp => s.logEvent 0x402 2
        | .ctu | .ctd | .ctud => s.logEvent 0x402 3
        | _ => s) s
      let s : State := if (new.logics.look e.1).isSome then { s with logics := s.logics.put e.1 (carryLogic e.2 n q) } else { s with logics := s.logics.drop' e.1 }
      forL (e.2.images.filter (fun r => decide (r.dir = 1) && !n.images.any (fun x => decide (x.dir = 1) && decide (x.point = r.point)))) (fun r (s : State) =>
        if (s.pdef (idLocal r.point)).isSome then s.roleWriteId r.point r.offVal else s) s) s
  forL (new.logics.filter (fun e => (old.logics.look e.1).isNone)) (fun e (s : State) => { s with logics := s.logics.drop' e.1 }) s

/-! Splice: points and the whole (R60, R62). -/

/-- A point of the new image that the old one does not hold in the same format (R60). -/
def pointNew (old : Img) (k : Nat) (d : PointDef) : Bool := pointGone old k d

/-- The points at a splice: kept, discarded with a record each, or new (R60, R126). -/
def State.splicePoints (s : State) (old new : Img) : State :=
  let gone := (old.points.filter (fun e => pointGone new e.1 e.2)).map (·.1)
  let s := forL gone (fun k (s : State) =>
    (s.logEvent 0x402 1).onPts (fun p => { p with work := p.work.drop' k, cut := p.cut.drop' k, next := p.next.drop' k, bad := p.bad.filter (fun x => decide (x ≠ k)) })) s
  let fresh := (new.points.filter (fun e => pointNew old e.1 e.2)).map (·.1)
  let s := forL fresh (fun k (s : State) => s.onPts (fun p => { p with cut := p.cut.put k (s.evalPoint k s.time.n) })) s
  s.wr Reg.GLB_PT_FORCE_COUNT s.forcedPoints.length

/-- A committed splice takes effect at the base mark that starts cycle N (R62). -/
def State.spliceEffect (s : State) (p : Splice) : State :=
  match s.img.run with
  | none => s
  | some old =>
    let new := p.img
    let was := s
    let s := s.onImg (fun x => { x with run := some new, slot := p.slot, splice := none, spliceLost := false })
    let s := ((s.showImage new p.slot false).showMap p.map).showRoles new
    let s := forN 64 (fun c (s : State) => s.cellWork new c) s
    let s := (s.splicePoints old new).spliceLoops old new
    let s := (s.spliceAxes old new).splicePgs old new
    let s := (s.spliceSeqs was old new).spliceLogics old new
    let s := s.dropMissing.sealRoles
    let s := (s.histSplice old new ((s.fab.reports.drop was.fab.reports.length).map (·.2)) s.time.n).acqSplice old new
    let s := (s.convSplice old).fieldBegin (some old)
    let s := (s.showIdents new p.mis p.reads).linkBegin true (decide (old.imports ≠ new.imports))
    let s := (s.showCert (p.cert.cells.map (fun x => (x.1, x.2.1)))).onImg (fun x => x.putArea p.slot { x.area p.slot with record := some p.cert, map := p.map })
    let s := s.showLimits.showUtil.showFcast
    let s := (s.wr64 Reg.GLB_SPLICE_MARK_LO_MARK_LO Reg.GLB_SPLICE_MARK_HI_MARK_HI s.time.n).showLoad
    match p.commit.bind (·.ref) with
    | some r => s.complete r .ok 0 s.time.n
    | none => s

/-- The committed splice takes effect at this mark: its mark has come and its flows are between steps (R61, R62). -/
def State.spliceNow (s : State) : Option Splice :=
  match s.img.splice, s.img.run with
  | some p, some old =>
    (match p.commit with
     | some c => if c.mark ≤ s.time.n ∧ s.spliceFlowsReady old p.img then some p else none
     | none => none)
  | _, _ => none

/-- The image part of a base mark: a new image, a splice or its deferral (R48, R61, R62). -/
def State.imageMark (s : State) : State :=
  match s.img.due with
  | some d => s.imageEffect d
  | none =>
    match s.spliceNow with
    | some p => s.spliceEffect p
    | none =>
      match s.img.splice with
      | some p =>
        (match p.commit with
         | some c => if c.mark ≤ s.time.n then (s.onImg (fun x => { x with splice := some { p with commit := some { c with deferred := true } } })).showLoad else s
         | none => s)
      | none => s

/-- The key left RUN-PROGRAM and MAINTENANCE before the mark of a committed splice (R63). -/
def State.spliceKey (s : State) : State :=
  match s.img.splice with
  | some p => if (p.commit.bind (·.ref)).isSome && !s.keyOk then s.endSplice .aborted else s
  | none => s

/-- A standby that replays N_s applies its prepared splice, or realigns (R396). -/
def State.standbySplice (s : State) : State :=
  match s.pair.splice, s.img.run with
  | some (n, dg), some old =>
    if s.pairSt ≠ 4 ∨ s.pair.replay < n then s
    else match s.img.splice with
      | some p =>
        if p.img.digest ≠ dg then (s.onPair (fun x => { x with splice := none })).toAligning
        else if s.spliceFlowsReady old p.img then ((s.onPair (fun x => { x with splice := none })).histDiscardsNow old p.img).spliceEffect p
        else s
      | none => (s.onPair (fun x => { x with splice := none })).toAligning
  | _, _ => s

end Sys2Proof.Machine
end

