-- ==== Sys2Proof/Machine/Counters.lean ====
section
/-! DEFINITION. Event counters, snapshot, preset and bandwidth ports (R446 to R457). -/

namespace Sys2Proof.Machine

/-- The low word of a counter value. -/
def valLo (v : BitVec 48) : Nat := v.toNat % 2 ^ 32

/-- The high register's word: WRAP in bit 31, bits 47:32 of the value below (R455). -/
def valHi (v : BitVec 48) (w : Bool) : Nat := (b2n w) * 2 ^ 31 + v.toNat / 2 ^ 32

/-- Latches a counter into its shadow and clears its sticky wrap (R448). -/
def State.latchCounter (s : State) (n : Nat) : State :=
  let c := s.ctr.tab.at' n {}
  let l : SnapVal := { value := c.value, wrap := c.wrap }
  let c : Counter := { c with wrap := false }
  { s with ctr := { s.ctr with tab := s.ctr.tab.put n c, latch := s.ctr.latch.put n l } }

/-- All counters captured at one instant; each snapshot wrap is cleared (R449, log entry 9). -/
def State.freeze (s : State) : State :=
  let cap : Tab SnapVal := s.ctr.tab.map (fun e => (e.1, { value := e.2.value, wrap := e.2.snapWrap }))
  let tab : Tab Counter := s.ctr.tab.map (fun e => (e.1, { e.2 with snapWrap := false }))
  let s := { s with ctr := { s.ctr with tab := tab, filling := some cap } }
  (s.wr64 Reg.CTR_SNAP_T_LO_T_LO Reg.CTR_SNAP_T_HI_T_HI s.now64).wr Reg.CTR_SNAP_CTL_BUSY 1

/-- A FREEZE while a snapshot is being filled has no effect but DROPPED and its count (R449). -/
def State.freezeOrDrop (s : State) : State :=
  if s.flag Reg.CTR_SNAP_CTL_BUSY then (s.wr Reg.CTR_SNAP_CTL_DROPPED 1).count 0x131 else s.freeze

/-- CTR_SNAP_CTL.FREEZE is written (R449). -/
def execSnapshotFreezeWrite (s : State) : Out := .next s.freezeOrDrop

/-- The bytes a counter command returns for one value: low and high words (R457). -/
def snapBytes (v : SnapVal) : List Byte := leBytes 4 (valLo v.value) ++ leBytes 4 (valHi v.value v.wrap)

/-- Answers the commands that wait for a snapshot: values, SEQ and the freeze stamp (R457). -/
def State.snapAnswers (s : State) : State :=
  let w := s.ctr.waiters
  let s := { s with ctr := { s.ctr with waiters := [] } }
  forL w (fun (e : CmdRef × List Nat) (s : State) =>
    s.complete e.1 .ok 0 (s.rd Reg.CTR_SNAP_SEQ_SEQ)
      ((e.2.map (fun n => snapBytes (s.ctr.snap.at' n {}))).flatten ++ leBytes 4 (s.rd Reg.CTR_SNAP_SEQ_SEQ) ++
        leBytes 8 (s.rd64 Reg.CTR_SNAP_T_LO_T_LO Reg.CTR_SNAP_T_HI_T_HI))) s

/-- All snapshot values are in place: BUSY clears and SEQ rises by 1 (R449). -/
def execSnapshotComplete (s : State) : Out :=
  match s.ctr.filling with
  | none => .next s
  | some cap =>
    let s := { s with ctr := { s.ctr with snap := cap, filling := none } }
    .next ((s.wr Reg.CTR_SNAP_CTL_BUSY 0).incWrap Reg.CTR_SNAP_SEQ_SEQ).snapAnswers

/-- CTR_PRE_CTL is written: NUM is stored, and GO writes the preset into counter NUM and clears its wrap; an increment in the same slot is lost and slips (R450). -/
def execPresetGoWrite (value : Word) (lost : Bool) (s : State) : Out :=
  let n := bitsOf value.toNat 9 0
  let s := s.wr Reg.CTR_PRE_CTL_NUM n
  if bitOf value.toNat 31 then
    let c := s.ctr.tab.at' n {}
    let v := s.rd Reg.CTR_PRE_LO_VALUE_LO + 2 ^ 32 * s.rd Reg.CTR_PRE_HI_VALUE_HI
    let c : Counter := { c with value := BitVec.ofNat 48 v, wrap := false }
    let s := { s with ctr := { s.ctr with tab := s.ctr.tab.put n c } }
    .next (if lost then (s.incHold Reg.CTR_SLIP_COUNT).wr Reg.CTR_SLIP_LAST_NUM n else s)
  else .next s

/-- MEM_CONF_CLR.CLR is written: every conflict counter clears at the next base mark (R446). -/
def execConfClrWrite (s : State) : Out := .next { s with fab := { s.fab with confClr := true } }

/-- Every arbiter conflict counter at 0 (R446). -/
def State.clearConflicts (s : State) : State :=
  let s := forN 64 (fun c s => forN 3 (fun b s => forN 5 (fun m s => s.wr Reg.CEL_CONF_COUNT 0 [c, b, m]) s) s) s
  forN 8 (fun k s => forN 4 (fun m s => s.wr Reg.MEM_WIN_CONF_COUNT 0 [k, m]) s) s

/-- CTR_BW_CFG_p.PEAK_CLR is written (R455). -/
def State.bwPeakClr (s : State) (p : Nat) : State :=
  (s.wr Reg.CTR_BW_PEAK_AMOUNT 0 [p]).wr Reg.CTR_BW_WIN_SAT 0 [p]

/-- CTR_BW_CFG_p.PEAK_CLR is written (R455). -/
def execBwPeakClrWrite (port : Fin 48) (s : State) : Out := .next (s.bwPeakClr port.val)

/-- The window length a port's WIN_US acts as (R455, R579). -/
def winActs (x : Nat) : Nat := if x = 0 then 1 else min x 1000000

/-- A window boundary of a measured port, with the bytes of the transfers that completed in the window; the first window after a change of WIN_US is not reported (R452). -/
def execBwWindowEnd (port : Fin 48) (bytes : Nat) (s : State) : Out :=
  let p := port.val
  let w := winActs (s.rd Reg.CTR_BW_CFG_WIN_US [p])
  let b := s.ctr.bw.at' p {}
  if !s.flag Reg.CTR_BW_CFG_EN [p] then .next s
  else if b.win ≠ w then
    .next { s with ctr := { s.ctr with bw := s.ctr.bw.put p { win := w } } }
  else
    let a := if s.flag Reg.CTR_BW_CFG_UNIT [p] then bytes / 64 else bytes
    let s := if 0xFFFFFFFF < a then s.wr Reg.CTR_BW_WIN_SAT 1 [p] else s
    let a := min a 0xFFFFFFFF
    .next (((s.wr Reg.CTR_BW_LAST_AMOUNT a [p]).peak Reg.CTR_BW_PEAK_AMOUNT a [p]).incWrap Reg.CTR_BW_WIN_WINDOWS [p])

/-- Whether a ring may read a counter (R451). -/
def State.mayCount (s : State) (ring n : Nat) : Bool := bitOf (s.rd Reg.CTR_PERM_PERM [ring, n / 32]) (n % 32)

/-- A counter command's refusal for permission: the first refused number in RESULT, counted (R451). -/
def State.permitted (s : State) (ref : CmdRef) (l : List Nat) (k : State → State) : State :=
  match l.find? (fun n => !s.mayCount ref.ring n) with
  | some n => (s.count 0x204).complete ref .denied 2 n
  | none => k s

/-- CTR_READ: 1–64 counters, each latched, under permission (R451, R457). -/
def execCtrRead (ref : CmdRef) (args : List Nat) (s : State) : Out :=
  let l := (args.drop 1).take (argN args 0)
  .next (s.command ref 0x0F20 [badCount args 64, badAt (fun n => decide (n < 1024)) l .invalid, noRoom ref (8 * l.length)] []
    (fun ref s => s.permitted ref l (fun s =>
      let s := forL l (fun n s => s.latchCounter n) s
      s.complete ref .ok 0 0 ((l.map (fun n => snapBytes (s.ctr.latch.at' n {}))).flatten))))

/-- CTR_SNAPSHOT: takes a snapshot and answers when it is in place, under permission (R449, R451, R457). -/
def execCtrSnapshot (ref : CmdRef) (args : List Nat) (s : State) : Out :=
  let l := (args.drop 1).take (argN args 0)
  .next (s.command ref 0x0F21 [badCount args 64, badAt (fun n => decide (n < 1024)) l .invalid, noRoom ref (8 * l.length + 12)] []
    (fun ref s => s.permitted ref l (fun s =>
      if s.flag Reg.CTR_SNAP_CTL_BUSY then s.complete ref .busy
      else
        let s := s.freeze
        { s with ctr := { s.ctr with waiters := s.ctr.waiters ++ [(ref, l)] } })))

/-- BW_READ: LAST, PEAK and WIN of all ports (R457). -/
def execBwRead (ref : CmdRef) (_args : List Nat) (s : State) : Out :=
  .next (s.command ref 0x0F22 [noRoom ref 576] [] (fun ref s =>
    s.complete ref .ok 0 0 (((List.range 48).map (fun p =>
      leBytes 4 (s.reg Reg.CTR_BW_LAST [p]) ++ leBytes 4 (s.reg Reg.CTR_BW_PEAK [p]) ++ leBytes 4 (s.reg Reg.CTR_BW_WIN [p]))).flatten)))

end Sys2Proof.Machine
end

