-- ==== Sys2Proof/Machine/Fabric.lean ====
section
/-! DEFINITION. Lanes, routes, clauses and the debug port: lane faults, torn and lapsed clauses, emergency refreshes, the debug aperture; a cell's entry into SAFE and its release (chapter 03, R66 to R88; R503, R504). -/

namespace Sys2Proof.Machine

/-! Lanes and routes (R21, R22, R68). -/

/-- A lane's one number: the lane between two cells is the east or south lane of the lower-numbered one (R21). -/
def laneOf (cell dir : Nat) : Nat :=
  if dir = 0 ∧ 8 ≤ cell then (cell - 8) * 4 + 2
  else if dir = 3 ∧ 0 < cell % 8 then (cell - 1) * 4 + 1
  else cell * 4 + dir

/-- The lanes of a straight run of n hops from a cell in one direction. -/
def laneRun : Nat → Nat → Nat → List Nat
  | 0, _, _ => []
  | n + 1, c, dir =>
    laneOf c dir :: laneRun n (if dir = 0 then c - 8 else if dir = 1 then c + 1 else if dir = 2 then c + 8 else c - 1) dir

/-- The lanes of a transfer between two places of the mesh: to the column first, then to the row (R22). -/
def lanePath (a b : Nat) : List Nat :=
  let ca := a % 8
  let cb := b % 8
  let turn := a / 8 * 8 + cb
  (if ca ≤ cb then laneRun (cb - ca) a 1 else laneRun (ca - cb) a 3) ++
  (if a ≤ b / 8 * 8 + ca then laneRun (b / 8 - a / 8) turn 2 else laneRun (a / 8 - b / 8) turn 0)

/-- The lanes from a place straight to the four edges, each with the edge lane (R21, R22). -/
def edgeLanes (a : Nat) : List Nat :=
  laneRun (a / 8 + 1) a 0 ++ laneRun (8 - a % 8) a 1 ++ laneRun (8 - a / 8) a 2 ++ laneRun (a % 8 + 1) a 3

/-- The lanes on the routes of a cell: to and from each cell whose points its role work reads or writes, and straight to the edges (R22, R68; log entry 26). -/
def State.routeLanes (s : State) (i : Img) (c : Nat) : List Nat :=
  let phys := s.physOf
  let at_ (k : Nat) : Nat := phys.getD k k
  let homes := (List.range 64).filter (fun h => decide (s.execOf h = c))
  let others := nubNat ((homes.map (fun h => h :: (cellReads i h).map (fun id => idLocal id / 2048))).flatten)
  edgeLanes (at_ c) ++ (others.map (fun k => lanePath (at_ c) (at_ k) ++ lanePath (at_ k) (at_ c))).flatten

/-- A failed lane lies on the routes of a cell (R68). -/
def State.laneFault (s : State) (c : Nat) : Bool :=
  match s.img.run with
  | none => false
  | some i => !s.fab.failed.isEmpty && (s.routeLanes i c).any (fun l => decide (l ∈ s.fab.failed))

/-- A safety-relevant fault signal goes to the Conjunction (R19, R415). -/
def State.faultSignal (s : State) (m : MainSignal) : State := s.onSaf (fun i => { i with arrived := i.arrived ++ [m] })

/-- A lane fault: the first is met by a repetition, and a fault of the repetition fails the lane (R68). -/
def State.laneFaulted (s : State) (lane : Nat) (again : Bool) : State :=
  let l := laneOf (lane / 4) (lane % 4)
  if !again || decide (l ∈ s.fab.failed) then s
  else ((s.onFab (fun f => { f with failed := f.failed ++ [l] })).count 0x088).faultSignal .laneFault |>.selfCause 4

/-- LANE_CODEWORD_ERROR: both rails of a bit pair were high; `again`, in the repetition of a transfer (R68). -/
def execLaneCodewordError (lane : Fin 256) (again : Bool) (s : State) : Out := .next (s.laneFaulted lane.val again)

/-- LANE_HANDSHAKE_TIMEOUT: a handshake did not reach phase 4 within 2 µs; `again`, in the repetition of a transfer (R68). -/
def execLaneHandshakeTimeout (lane : Fin 256) (again : Bool) (s : State) : Out := .next (s.laneFaulted lane.val again)

/-! Clauses (R82). -/

/-- CLAUSE_LAPSE: 8 handshake periods pass at an arbiter without a request of its clause's owner (R82). -/
def execClauseLapse (a : Arb) (s : State) : Out := .next (if (s.arb a).starved then s.arbLapse a else s)

/-- REFRESH_EMERGENCY: the refresh debt of a DDR5 channel is at its limit and a request of class EMERGENCY enters; a queued ordinary request stays (R84). -/
def execRefreshEmergency (ch : Fin 2) (s : State) : Out := .next (s.refreshEnter ch.val .emergency)

/-! SAFE and release (R76, R77). -/

/-- A cell enters SAFE: 1 base overruns, 2 fast overruns, 3 LANE_FAULT (R76, R387, R473). -/
def State.enterSafe (s : State) (c cause : Nat) : State :=
  let s := ((s.wrCause Reg.CEL_STATUS_STATE 3 2 [c]).wr Reg.CEL_STATUS_SAFE_CAUSE cause [c]).count 0x080
  ((s.faultSignal (.cellSafe (Fin.ofNat 64 c))).selfCause 1).onFab (fun f => { f with cells := f.cells.upd c {} (fun x => { x with frozen := true, firstSafe := true, releasing := false }) })

/-- CEL_CTL.RELEASE is written 1: it is taken while the cell is SAFE, under the key (R9, R77). -/
def State.releaseWrite (s : State) (c : Nat) : State :=
  if !s.keyOk then (if s.flag Reg.CEL_CTL_RELEASE [c] then s else s.count 0x203)
  else if s.cellSafe c then s.wr Reg.CEL_CTL_RELEASE 1 [c]
  else s

/-- A write of 1 to CEL_CTL.RELEASE (R77). -/
def execCelReleaseWrite (cell : Fin 64) (s : State) : Out := .next (s.releaseWrite cell.val)

/-- CEL_CTL.PEAK_CLR is written 1: the peaks clear at the next base mark (R88). -/
def State.peakClrWrite (s : State) (c : Nat) : State :=
  s.onFab (fun f => { f with peakClr := if c ∈ f.peakClr then f.peakClr else f.peakClr ++ [c] })

/-- A write of 1 to CEL_CTL.PEAK_CLR (R88). -/
def execPeakClrWrite (cell : Fin 64) (s : State) : Out := .next (s.peakClrWrite cell.val)

/-! The debug block (R503, R504). -/

/-- One access of at most 4 bytes at a BAR0 address of the DBG block; an access of the aperture is one request of the debug port, performed when its arbiter grants it (R2, R84, R85, R504). -/
def State.dbgBlock (s : State) (addr : Nat) (write : Bool) (size : Nat) (value : Word) : State :=
  let off := addr % 0x100000
  let closed := !s.flag Reg.SEC_DBG_OPEN
  let s := if write ∧ size < 4 then s.count 0x201 else s
  let none_ (s : State) : State := if write then s else s.returned 0 size
  if closed then (none_ s).count 0x1F6
  else if write ∧ size < 4 then s
  else if off < 4 then (if write then s.setReg Reg.DBG_SEL (value.toNat % 2048) else s.returnedAt off size (s.reg Reg.DBG_SEL))
  else if off < 0x80000 then none_ s
  else match s.dbgTarget with
    | some (base, t) => s.arbEnter (arbOf t) { port := .debug, owner := .debug, target := t, cls := .emergency, addr := off - 0x80000, write := write, word := (base + (off - 0x80000) / 4, value, size) }
    | none => none_ s

/-- DEBUG_BLOCK_ACCESS at a BAR0 address of the DBG block, after what happened at the arbiters; 8 bytes are two accesses, the lower address first (R2, R84, R85, R504). -/
def execDebugBlockAccess (addr : BitVec 25) (write : Bool) (size : Nat) (value : BitVec 64) (traffic : List FabEvent) (s : State) : Out :=
  let s := s.traffic traffic
  let s := if write then s else s.readBegin
  .next (if size = 8 then (s.dbgBlock addr.toNat write 4 (value.setWidth 32)).dbgBlock (addr.toNat + 4) write 4 ((value >>> 32).setWidth 32)
    else s.dbgBlock addr.toNat write size (value.setWidth 32))

end Sys2Proof.Machine
end

