-- ==== Sys2Proof/Machine/SafCmds.lean ====
section
/-! DEFINITION. The commands of the safety island, its password, proposals and approvals (chapter 16, R424 to R431). -/

namespace Sys2Proof.Machine

/-- 600 s in ns: the life of a proposal and of a lockout (R424, R425, R497). -/
def tenMinutes : Nat := 600000000000

/-- A password of n bytes in the argument words from index i (log entry 2). -/
def pwdAt (args : List Nat) (n i : Nat) : List Byte := slice (argBytes args i) 0 n

/-- The characters of a new password (R424). -/
def pwdOk (p : List Byte) : Bool :=
  decide (8 ≤ p.length ∧ p.length ≤ 64) && p.all (fun c => decide (0x20 ≤ c.toNat ∧ c.toNat ≤ 0x7E))

/-- A password is the one stored; while none is stored only the empty one is (R424). -/
def State.pwdRight (s : State) (p : List Byte) : Bool :=
  match s.saf.password with
  | some (salt, hash) => decide (sha256 (salt ++ p) = hash)
  | none => p.isEmpty

/-- A wrong password: counted, and the fifth in a row locks passwords out for 10 minutes (R424). -/
def State.wrongPwd (s : State) (ref : CmdRef) : State :=
  let s := s.count 0x18C
  let s :=
    if s.saf.wrongs + 1 < 5 then s.onSaf (fun i => { i with wrongs := i.wrongs + 1 })
    else ((s.onSaf (fun i => { i with wrongs := 0, lockEnd := some (s.runNs + tenMinutes) })).safLog 6 .denied [] s.safDigest []).safShow
  s.complete ref .denied 4

/-- A command that carries a password, then a proposal already pending, then the command (R424, R425). -/
def State.withPwd (s : State) (ref : CmdRef) (p : List Byte) (k : State → State) : State :=
  if s.saf.lockEnd.isSome then s.complete ref .denied 6
  else if !s.pwdRight p then s.wrongPwd ref
  else
    let s := s.onSaf (fun i => { i with wrongs := 0 })
    if s.saf.proposal.isSome ∨ s.saf.switch.isSome then s.complete ref .busy else k s

/-- A proposal is created; its PROP_SEQ is the RESULT and its digest the output (R425, R494). -/
def State.safProposal (s : State) (ref : CmdRef) (c : SafChange) (digest : List Byte) : State :=
  let s := s.newProposal
  let p : SafProposal := { change := c, digest := digest, propSeq := s.sys.propSeq, at_ := s.runNs }
  ((s.onSaf (fun i => { i with proposal := some p })).safShow).complete ref .ok 0 s.sys.propSeq digest

/-- SAF_PROPOSE: a set and the password (R423 to R425). -/
def execSafPropose (ref : CmdRef) (args : List Nat) (s : State) : Out :=
  let n := argN args 0
  let b := slice (argBytes args 17) 0 1472
  .next (s.command ref 0x0D04
    [(decide (args.length < 385 ∨ 64 < n), .invalid, 0), noRoom ref 32, (decide (setCheck b ≠ 0), .invalid, setCheck b)]
    [(s.saf.password.isNone, .denied, 6)]
    (fun ref s => s.withPwd ref (pwdAt args n 1) (fun s => s.safProposal ref (.config b) (setDigest b))))

/-- SAF_PASSWORD: the old and the new password (R424, R425). -/
def execSafPassword (ref : CmdRef) (args : List Nat) (s : State) : Out :=
  let n := argN args 0
  let m := argN args 1
  let new := pwdAt args m 18
  .next (s.command ref 0x0D06 [(decide (args.length < 34 ∨ 64 < n), .invalid, 0), (decide (64 < m) || !pwdOk new, .invalid, 1), noRoom ref 32] []
    (fun ref s => s.withPwd ref (pwdAt args n 2) (fun s =>
      let d := s.draw 16
      let hash := sha256 (d.1 ++ new)
      d.2.safProposal ref (.password d.1 hash) (sha256 (d.1 ++ hash)))))

/-- SAF_RESTART: proposes an island restart (R425). -/
def execSafRestart (ref : CmdRef) (args : List Nat) (s : State) : Out :=
  let n := argN args 0
  let seq : Nat := match s.saf.cfg with | some c => c.seq | none => 0
  .next (s.command ref 0x0D07 [(decide (args.length < 17 ∨ 64 < n), .invalid, 0), noRoom ref 32] [(s.saf.password.isNone, .denied, 6)]
    (fun ref s => s.withPwd ref (pwdAt args n 1) (fun s =>
      s.safProposal ref .restart (sha256 (leBytes 16 Config.restartLabel.toNat ++ leBytes 4 seq)))))

/-- The conditions of a second approval (R425). -/
def State.safMay (s : State) (c : SafChange) : List Check :=
  let stopped : Bool := match s.saf.cfg with
    | some k => (List.zipWith (fun (d : SafOutDef) (o : SafOut) => !d.enabled || decide (o.st = .off ∨ o.st = .fault)) k.outs s.saf.a.outs).all id
    | none => true
  let quiet := (decide (s.saf.cause = 0) && stopped) || (decide (s.saf.cause = 6) && s.saf.cfg.isNone)
  [(!decide (s.lc = 1 ∨ s.lc = 2 ∨ s.lc = 3), .denied, 5),
   (!s.keyMaintOk, .denied, 1),
   ((match c with | .config _ => !quiet | _ => false), .denied, 6)]

/-- The change of a proposal whose second approval stands (R426). -/
def State.safChange (s : State) (ref : CmdRef) (p : SafProposal) (slots : List Nat) : State :=
  let s := s.onSaf (fun i => { i with proposal := none })
  match p.change with
  | .password salt hash =>
    let s := (s.onSaf (fun i => { i with password := some (salt, hash), pwdBad := [], wrongs := 0 })).safLog 3 .ok slots s.safDigest p.digest
    (s.complete ref .ok).safShow
  | .restart =>
    let s := (s.onSaf (fun i => { i with restartDue := some (s.runNs + 100000000) })).safLog 4 .ok slots s.safDigest p.digest
    (s.complete ref .ok).safShow
  | .config b =>
    let seq : Nat := match s.saf.cfg with | some c => (c.seq + 1) % 2 ^ 32 | none => 1
    let bank : Nat := match s.saf.cfg with | some c => 1 - c.bank | none => 0
    let w : SafSwitch := { ref := ref, cfg := cfgOf (setWith b seq) bank, slots := slots, first := s.saf.cfg.isNone }
    (s.onSaf (fun i => { i with switch := some w })).safShow

/-- SAF_APPROVE: a proposal's digest and an authority signature (R425, R495). -/
def execSafApprove (ref : CmdRef) (args : List Nat) (s : State) : Out :=
  let digest := slice (argBytes args 0) 0 32
  let sig := slice (argBytes args 8) 0 384
  .next (s.command ref 0x0D05 [(decide (args.length < 104), .invalid, 0)] [] (fun ref s =>
    match s.saf.proposal with
    | none => if digest = s.saf.expired then s.complete ref .timeout else s.complete ref .invalid
    | some p =>
      if p.digest ≠ digest then (if digest = s.saf.expired then s.complete ref .timeout else s.complete ref .invalid)
      else if p.at_ + tenMinutes ≤ s.runNs then s.complete ref .timeout
      else match s.approver (approvalMsg 1 p.propSeq digest) sig with
        | none => s.complete ref .denied 4
        | some k =>
          match p.slots with
          | [] =>
            let p : SafProposal := { p with slots := [k] }
            ((s.onSaf (fun i => { i with proposal := some p })).safShow).complete ref .needsSecond
          | k1 :: _ =>
            if k = k1 then s.complete ref .denied 4
            else match judge (s.safMay p.change) with
              | some (st, d) => s.complete ref st d
              | none =>
                let ref := { ref with long := true }
                (s.accept ref).safChange ref p [k1, k]))

/-- The pending proposal ends by expiry or cancel, with its log entry (R425). -/
def State.safWithdraw (s : State) (p : SafProposal) (result : Status) : State :=
  ((s.onSaf (fun i => { i with proposal := none })).safLog 5 result p.slots s.safDigest p.digest).safShow

/-- SAF_CANCEL: withdraws the pending proposal (R425). -/
def execSafCancel (ref : CmdRef) (_args : List Nat) (s : State) : Out :=
  .next (s.command ref 0x0D08 [(s.saf.proposal.isNone, .invalid, 0)] [] (fun ref s =>
    match s.saf.proposal with
    | some p => (s.safWithdraw p .ok).complete ref .ok
    | none => s))

/-- SAF_PROPOSAL_EXPIRY: 600 s after its acceptance the proposal expires (R425). -/
def execSafProposalExpiry (s : State) : Out :=
  .next (match s.saf.proposal with
    | some p => if p.at_ + tenMinutes ≤ s.runNs then (s.safWithdraw p .timeout).onSaf (fun i => { i with expired := p.digest }) else s
    | none => s)

/-- PASSWORD_LOCKOUT_END: 10 minutes after the lockout passwords are admitted again (R424). -/
def execPasswordLockoutEnd (s : State) : Out :=
  .next (match s.saf.lockEnd with
    | some t => if t ≤ s.runNs then (s.onSaf (fun i => { i with lockEnd := none })).safShow else s
    | none => s)

/-- SAF_READ: every SAF register from one update (R431). -/
def execSafRead (ref : CmdRef) (_args : List Nat) (s : State) : Out :=
  .next (s.command ref 0x0D01 [noRoom ref 368] [] (fun ref s =>
    let one := [Reg.SAF_STATE, Reg.SAF_PAIRS, Reg.SAF_PAIR_FLT, Reg.SAF_FUNCS, Reg.SAF_OUTS, Reg.SAF_SAMPLE, Reg.SAF_CFG_SEQ, Reg.SAF_CFG_BANK]
    let many := fun (d : RegDesc) (n : Nat) => (List.range n).map (fun i => s.reg d [i])
    s.complete ref .ok 0 0 (((one.map (fun d => s.reg d)) ++ many Reg.SAF_DIGEST 8 ++ many Reg.SAF_PAIR 32 ++ many Reg.SAF_FUNC 32 ++ many Reg.SAF_OUT 12).map (leBytes 4)).flatten))

/-- SAF_CFG_READ: the active set, its bank, SEQ and digest; nothing while none is active (R431). -/
def execSafCfgRead (ref : CmdRef) (_args : List Nat) (s : State) : Out :=
  .next (s.command ref 0x0D02 [noRoom ref 1512] [] (fun ref s =>
    s.complete ref .ok 0 0 (match s.saf.cfg with
      | some c => c.bytes ++ leBytes 4 c.bank ++ leBytes 4 c.seq ++ c.digest
      | none => [])))

/-- SAF_LOG_READ: up to 64 change-log entries from a SEQ (R427, R431). -/
def execSafLogRead (ref : CmdRef) (args : List Nat) (s : State) : Out :=
  let n := argN args 0
  let c := argN args 1
  let first := s.saf.logSeq + 1 - s.saf.log.length
  .next (s.command ref 0x0D03
    [(decide (args.length < 2 ∨ n < first ∨ s.saf.logSeq < n), .invalid, 0), (decide (c = 0 ∨ 64 < c), .invalid, 1), noRoom ref (64 * c)] []
    (fun ref s => s.complete ref .ok 0 0 (((s.saf.log.drop (n - first)).take c).flatten)))

end Sys2Proof.Machine
end

