-- ==== Sys2Proof/Machine/Sec.lean ====
section
/-! DEFINITION. Firmware slots, identity, attestation, device proposals, life cycle, tamper and the debug gate (chapter 19, R482 to R508). -/

namespace Sys2Proof.Machine

/-- The state with the security block changed. -/
def State.onSec (s : State) (f : SecState → SecState) : State := { s with sec := f s.sec }

/-! Firmware (R484 to R486). -/

/-- ROOT_HASH_k as bytes. -/
def rootHashBytes (k : Nat) : List Byte := leBytes 32 (if k = 0 then Config.rootHash 0 else Config.rootHash 1).toNat

/-- A firmware image verifies (R484). -/
def State.fwVerifies (s : State) (b : List Byte) : Bool :=
  let root := fieldLE b 6 1
  let len := fieldLE b 0x10 4
  let zero := fun (off n : Nat) => (slice b off n).all (fun x => decide (x = 0#8))
  let revoked := if root = 0 then s.sec.fuses.revoke0 else s.sec.fuses.revoke1
  decide (fieldLE b 0 4 = 0x57464C43) && decide (fieldLE b 4 2 = 1) && decide (root < 2) &&
  decide (fieldLE b 7 1 = 0 ∨ (fieldLE b 7 1 = 1 ∧ root = 1)) && zero 0x0E 2 && decide (len % 64 = 0 ∧ len ≤ 0x400000) && zero 0x14 44 && zero 0x1C0 64 &&
  decide (sha256 (slice b 0x40 384) = rootHashBytes root) && !revoked && decide (s.sys.svnFloor ≤ fieldLE b 0x0C 2) &&
  pssVerify (slice b 0x40 384) (slice b (0x200 + len) 384) (sha256 (slice b 0 (0x200 + len)))

/-- A flash slot of firmware: 0 is A, 1 is B. -/
def State.fwSlot (s : State) (k : Nat) : List Byte := if k = 0 then s.sec.fwA else s.sec.fwB

/-- The boot ROM tries FW_ACTIVE, then the other slot; a refused slot is counted (R485). -/
def State.fwBoot (s : State) : State :=
  let first := s.sys.fwActive % 2
  let other := 1 - first
  let run := fun (s : State) (k : Nat) (fallback : Bool) =>
    let b := s.fwSlot k
    let s := ((s.wrb Reg.SEC_LC_FW_FALLBACK fallback).wr Reg.SEC_LC_FW_SLOT (k + 1)).wr Reg.SEC_LC_RECOVERY 0
    let s := (s.wr Reg.SEC_FW_VER_VERSION (fieldLE b 8 4)).wr Reg.SEC_FW_SVN_SVN (fieldLE b 0x0C 2)
    let s := s.onSec (fun x => { x with fwDigest := sha256 (slice b 0 (0x200 + fieldLE b 0x10 4)) })
    if fieldLE b 7 1 = 1 then s.onSec (fun x => { x with fuses := { x.fuses with revoke0 := true } }) else s
  if s.fwVerifies (s.fwSlot first) then run s first false
  else
    let s := s.count 0x1F7
    if s.fwVerifies (s.fwSlot other) then run s other true
    else ((s.count 0x1F7).wr Reg.SEC_LC_RECOVERY 1).wr Reg.SEC_LC_FW_SLOT 0

/-- SEC_FW_WRITE: writes the slot that is not running and verifies it (R486, log entry 2). -/
def execSecFwWrite (ref : CmdRef) (args : List Nat) (s : State) : Out :=
  let n := argN args 0
  let b := slice (argBytes args 10) 0 n
  .next (s.commandLong ref 0x0E08 [(decide (n < 0x380 ∨ 0x1000000 < n ∨ 4 * (args.length - 10) < n), .invalid, 0)] [] (fun ref s =>
    let k := if s.rd Reg.SEC_LC_FW_SLOT = 1 then 1 else if s.rd Reg.SEC_LC_FW_SLOT = 2 then 0 else 1 - s.sys.fwActive % 2
    let s := s.onSec (fun x => if k = 0 then { x with fwA := b } else { x with fwB := b })
    if s.fwVerifies b then (s.sysWrite (fun y => { y with fwActive := k })).complete ref .ok
    else s.complete ref .invalid))

/-! Identity and attestation (R490 to R492). -/

/-- A signature by the device key over a record: a free value (log entry 7). -/
def State.sign (s : State) : List Byte × State :=
  (beBytes 384 (Config.deviceSignature s.fresh).toNat, { s with fresh := s.fresh + 1 })

/-- BLANK or RETIRED: the device has no key of its own (R491, R492). -/
def State.keyless (s : State) : Bool := decide (s.lc = 0 ∨ s.lc = 4)

/-- SEC_IDENTITY: the identity record (R491). -/
def execSecIdentity (ref : CmdRef) (_args : List Nat) (s : State) : Out :=
  .next (s.command ref 0x0E06 [noRoom ref 832] [] (fun ref s =>
    let head := leBytes 4 0x59444943 ++ leBytes 2 1 ++ leBytes 2 0x4830 ++ leBytes 1 (s.rd Reg.GLB_PART_ID_STEPPING) ++ List.replicate 7 0 ++ dieSerialBytes ++
      leBytes 8 (if s.keyless then 0 else s.sys.provSec) ++ List.replicate 24 0
    if s.keyless then s.complete ref .ok 0 0 (head ++ List.replicate 768 0)
    else
      let g := s.sign
      g.2.complete ref .ok 0 0 (head ++ slice s.sys.devModulus 0 384 ++ g.1)))

/-- The report of SEC_ATTEST without its signature (R492). -/
def State.report640 (s : State) (nonce : List Byte) : List Byte :=
  let flags := b2n (s.flag Reg.SEC_DBG_OPEN) + 2 * b2n (s.flag Reg.SEC_LC_FW_FALLBACK) + 4 * b2n (s.flag Reg.GLB_IMG_STATUS_FALLBACK) +
    8 * b2n (s.flag Reg.SEC_TAMPER_LATCH) + 16 * b2n s.forerunner + 32 * b2n (s.flag Reg.SEC_LC_SYSBANK_LOST)
  let img : List Byte := match s.img.run with | some i => slice i.digest 0 32 | none => List.replicate 32 0
  let slots := ((s.sys.imgKeys ++ s.sys.authKeys).map (fun k => slice k 0 384)).flatten
  leBytes 4 0x54544154 ++ leBytes 2 1 ++ leBytes 1 s.lc ++ leBytes 1 flags ++ slice nonce 0 32 ++ dieSerialBytes ++
  leBytes 4 (s.rd Reg.SEC_FW_VER_VERSION) ++ leBytes 4 (s.reg Reg.SEC_FW_SVN) ++ slice s.sec.fwDigest 0 32 ++ img ++
  leBytes 4 (match s.img.run with | some i => i.serial | none => 0) ++ leBytes 4 (s.reg Reg.GLB_CERT_STATUS) ++ slice s.safDigest 0 32 ++
  leBytes 4 (s.rd Reg.SAF_CFG_SEQ_SEQ) ++ ((List.range 4).map (fun k => leBytes 4 (s.reg Reg.AGE_FCAST [k]))).flatten ++ sha256 slots ++
  leBytes 4 (s.rd Reg.AGE_HOURS_OP_HOURS) ++ leBytes 4 (s.rd Reg.AGE_PCYC_PCYCLES) ++ leBytes 4 (s.rd Reg.SEC_TAMPER_COUNT) ++ leBytes 8 s.now64 ++ List.replicate 16 0

/-- SEC_ATTEST: a signed report over a nonce (R492). -/
def execSecAttest (ref : CmdRef) (args : List Nat) (s : State) : Out :=
  .next (s.command ref 0x0E05 [(decide (args.length < 8), .invalid, 0), noRoom ref 640, (s.keyless, .denied, 5)] [] (fun ref s =>
    let body := s.report640 (argBytes args 0)
    let g := s.sign
    (g.2.count 0x1F8).complete ref .ok 0 0 (body ++ g.1)))

/-! Registers that show the block (R506). -/

/-- Whole seconds left until a run time in ns. -/
def State.secondsTo (s : State) (t : Nat) : Nat := (t - s.runNs) / 1000000000

/-- SEC_PROP and SEC_DBG as they stand now. -/
def State.secShow (s : State) : State :=
  let s := match s.sec.proposal with
    | none => s.setReg Reg.SEC_PROP 0
    | some p =>
      let n : Nat := (if p.first.isSome then 1 else 0) + (if p.second.isSome then 1 else 0)
      let slots : Nat := (match p.first with | some (k, _) => 2 ^ k | none => 0) + (match p.second with | some a => 2 ^ a.slot | none => 0)
      let mnt : Bool := match p.first with | some (_, m) => m | none => false
      (((((s.wr Reg.SEC_PROP_PENDING 1).wr Reg.SEC_PROP_APPROVALS n).wrb Reg.SEC_PROP_VIA_MNT mnt).wr Reg.SEC_PROP_KIND p.kind).wr Reg.SEC_PROP_SLOTS slots).wr
        Reg.SEC_PROP_LEFT_S (s.secondsTo (p.at_ + tenMinutes))
  s.wr Reg.SEC_DBG_LEFT_S (match s.sec.gateEnd with | some t => s.secondsTo t | none => 0)

/-- SEC_STATUS: the SEC registers (R508). -/
def execSecStatus (ref : CmdRef) (_args : List Nat) (s : State) : Out :=
  .next (s.command ref 0x0E01 [noRoom ref 44] [] (fun ref s =>
    let s := s.secShow
    s.complete ref .ok 0 0 ((([Reg.SEC_LC, Reg.SEC_FW_VER, Reg.SEC_FW_SVN, Reg.SEC_PROP, Reg.SEC_PROP_SEQ, Reg.SEC_TAMPER].map (fun d => s.reg d)) ++
      (List.range 4).map (fun k => s.reg Reg.SEC_SERIAL [k]) ++ [s.reg Reg.SEC_DBG]).map (leBytes 4)).flatten))

/-! Debug gate (R503, R84). -/

/-- The gate closes with a cause; queued debug requests are removed and counted (R84, R503). -/
def State.gateClose (s : State) (cause : Nat) : State :=
  if !s.flag Reg.SEC_DBG_OPEN then s
  else
    let s : State := s.dropDebug
    let s : State := { s with sec := { s.sec with gateEnd := none, gateClose := none } }
    ((s.wr Reg.SEC_DBG_OPEN 0).wr Reg.SEC_DBG_CAUSE cause).secShow

/-- DEBUG_GATE_TIMEOUT: the approved minutes of run time end (R503). -/
def execDebugGateTimeout (s : State) : Out :=
  .next (match s.sec.gateEnd with
    | some t => if t ≤ s.runNs then s.gateClose 1 else s
    | none => s)

/-- SEC_DBG_CLOSE: the gate closes at the next base mark (R503). -/
def execSecDbgClose (ref : CmdRef) (_args : List Nat) (s : State) : Out :=
  .next (s.command ref 0x0E09 [] [] (fun ref s =>
    (if s.flag Reg.SEC_DBG_OPEN then s.onSec (fun x => { x with gateClose := some 3 }) else s).complete ref .ok))

/-! Proposals (R493 to R497). -/

/-- The filled authority slots are at least two and no two hold one modulus (R493). -/
def authOk (l : List (List Byte)) : Bool :=
  let f := l.filter (fun k => !k.isEmpty)
  decide (2 ≤ f.length) && distinct f

/-- A life-cycle transition that an approval may make (R499). -/
def lcAllowed (from_ to_ : Nat) : Bool :=
  decide ((from_, to_) ∈ [(1, 2), (2, 3), (3, 2), (1, 4), (2, 4), (3, 4)])

/-- The RWA bits of a register (R8). -/
def rwaMask (d : RegDesc) : Nat :=
  d.fields.foldl (fun a f => if f.acc = .rwa then setBits a f.hi f.lo (2 ^ (f.hi + 1 - f.lo) - 1) else a) 0

/-- A word with the masked bits taken from a value. -/
def masked32 (old value mask : Nat) : Nat := (old &&& (0xFFFFFFFF ^^^ mask)) ||| (value &&& mask)

/-- The arguments of a REG_WRITE proposal name RWA bits of one register and a value that it admits (R44, R475, R494, R506). -/
def State.regWriteOk (s : State) (addr value mask : Nat) : Bool :=
  match regAt addr with
  | none => false
  | some (d, ix) =>
    let new := masked32 (s.reg d ix) value mask
    decide (mask ≠ 0) && decide (mask &&& rwaMask d = mask) &&
    (if d.base = Reg.RNG_ETH_CFG.base then
      let p := bitsOf new 19 16
      decide (p < 6) || (decide (p < 9) && prpPair s.sec.platform (p - 6))
    else true)

/-- A modulus argument: a length of 0 or 384 bytes, then the bytes (log entry 2). -/
def modulusArg (args : List Nat) (i : Nat) : Option (List Byte) :=
  if argN args i = 0 then some []
  else if argN args i = 384 ∧ i + 97 ≤ args.length then some (slice (argBytes args (i + 1)) 0 384)
  else none

/-- The argument bytes of a proposal of a kind, if they are admitted (R493, R494, R499). -/
def State.proposalArgs (s : State) (args : List Nat) : Option (List Byte) :=
  let bytes := fun (n : Nat) => some (slice (argBytes args 1) 0 n)
  match argN args 0 with
  | 1 => match modulusArg args 2 with
    | some m => if argN args 1 < 4 then bytes (8 + m.length) else none
    | none => none
  | 2 => match modulusArg args 2 with
    | some m => if argN args 1 < 4 ∧ authOk (modAt (fun _ => m) s.sys.authKeys (argN args 1)) then bytes (8 + m.length) else none
    | none => none
  | 3 => if 4 ≤ args.length ∧ s.regWriteOk (argN args 1) (argN args 2) (argN args 3) then bytes 12 else none
  | 4 => if lcAllowed s.lc (argN args 1) then bytes 4 else none
  | 5 => if 1 ≤ argN args 1 ∧ argN args 1 ≤ 240 then bytes 4 else none
  | 6 => some []
  | 7 => if 257 ≤ args.length ∧ platformOk (slice (argBytes args 1) 0 1024) then bytes 1024 else none
  | _ => none

/-- A pending proposal ends by expiry or cancel; a second approval under verification completes ABORTED (R497). -/
def State.dropProposal (s : State) : State :=
  match s.sec.proposal with
  | none => s
  | some p =>
    let s := (s.onSec (fun x => { x with proposal := none })).count 0x1F4
    let s := match p.second with | some a => s.complete a.ref .aborted | none => s
    s.secShow

/-- SEC_PROPOSE: creates a device proposal (R494, log entry 2). -/
def execSecPropose (ref : CmdRef) (args : List Nat) (s : State) : Out :=
  let a := s.proposalArgs args
  .next (s.command ref 0x0E02 [(decide (args.length < 1) || a.isNone, .invalid, 0), noRoom ref 32, (s.keyless, .denied, 5)]
    [(s.sec.proposal.isSome, .busy, 0)] (fun ref s =>
    let s := s.newProposal
    let b := a.getD []
    let kind := argN args 0
    let digest := sha256 (leBytes 4 s.sys.propSeq ++ leBytes 1 kind ++ List.replicate 3 0 ++ b)
    let p : SecProposal := { kind := kind, args := b, digest := digest, propSeq := s.sys.propSeq, at_ := s.runNs }
    ((s.onSec (fun x => { x with proposal := some p })).secShow).complete ref .ok 0 s.sys.propSeq digest))

/-- The conditions of a second approval (R496). -/
def State.secMay (s : State) (p : SecProposal) (mnt : Bool) : List Check :=
  let mnts : Nat := b2n mnt + (match p.first with | some (_, m) => b2n m | none => 0)
  [(!decide (s.lc = 1 ∨ s.lc = 2 ∨ s.lc = 3), .denied, 5),
   (if p.kind = 3 then !s.keyOk else !s.keyMaintOk, .denied, 1),
   (decide (p.kind = 5) && s.flag Reg.SEC_TAMPER_LATCH, .denied, 6),
   (decide (p.kind = 5) && decide (s.lc = 1 ∨ s.lc = 2) && decide (mnts ≠ 1), .denied, 4),
   (decide (p.kind = 4) && !lcAllowed s.lc (fieldLE p.args 0 4), .denied, 6)]

/-- An approval is refused: counted (R496). -/
def State.approvalRefused (s : State) (ref : CmdRef) (d : Nat) : State := (s.count 0x1F3).complete ref .denied d

/-- SEC_APPROVE: the digest, the slot and the signature (R495, R496, R497, log entry 2). -/
def execSecApprove (ref : CmdRef) (args : List Nat) (s : State) : Out :=
  let digest := slice (argBytes args 0) 0 32
  let slot := argN args 8
  let sig := slice (argBytes args 9) 0 384
  let mnt := decide (128 ≤ ref.ring)
  .next (s.command ref 0x0E03 [(decide (args.length < 105), .invalid, 0), (decide (4 ≤ slot), .invalid, 8)] [] (fun ref s =>
    match s.sec.proposal with
    | none => s.complete ref (if digest = s.sec.expired then .timeout else .invalid)
    | some p =>
      if p.digest ≠ digest then s.complete ref (if digest = s.sec.expired then .timeout else .invalid)
      else if p.at_ + tenMinutes ≤ s.runNs then s.complete ref .timeout
      else if (s.sys.authKeys.getD slot []).isEmpty then s.complete ref .invalid 8
      else if !s.approves slot (approvalMsg 0 p.propSeq digest) sig then s.approvalRefused ref 4
      else match p.first with
        | none =>
          let p : SecProposal := { p with first := some (slot, mnt) }
          ((s.onSec (fun x => { x with proposal := some p })).secShow).complete ref .needsSecond
        | some (k, _) =>
          if k = slot ∨ p.second.isSome then s.approvalRefused ref 4
          else match judge (s.secMay p mnt) with
            | some (_, d) => s.approvalRefused ref d
            | none =>
              let ref := { ref with long := true }
              let p : SecProposal := { p with second := some { ref := ref, slot := slot } }
              ((s.accept ref).onSec (fun x => { x with proposal := some p })).secShow))

/-- SEC_CANCEL: withdraws the pending proposal (R497, R508). -/
def execSecCancel (ref : CmdRef) (_args : List Nat) (s : State) : Out :=
  let none_ : Bool := match s.sec.proposal with | some p => p.second.isSome | none => true
  .next (s.command ref 0x0E04 [(none_, .invalid, 0)] [] (fun ref s => s.dropProposal.complete ref .ok))

/-- SEC_PROPOSAL_EXPIRY: 600 s of run time after its acceptance the proposal expires (R497). -/
def execSecProposalExpiry (s : State) : Out :=
  .next (match s.sec.proposal with
    | some p => if p.at_ + tenMinutes ≤ s.runNs ∧ p.second.isNone then s.dropProposal.onSec (fun x => { x with expired := p.digest }) else s
    | none => s)

/-- What waits for the next base mark (R494, R500, R503). -/
def State.atMark (s : State) (c : MarkChange) : State := s.onSec (fun x => { x with atMark := x.atMark ++ [c] })

/-- DEVICE_CHANGE_COMMIT: the verified second approval makes its change; `detecting` tells whether a tamper sensor still detects (R493 to R503). -/
def execDeviceChangeCommit (detecting : Bool) (s : State) : Out :=
  .next (match s.sec.proposal with
    | none => s
    | some p =>
      match p.second with
      | none => s
      | some a =>
        let s := s.onSec (fun x => { x with proposal := none })
        let slot := fieldLE p.args 0 4
        let modulus := slice p.args 8 (fieldLE p.args 4 4)
        let s := match p.kind with
          | 1 => (s.sysWrite (fun b => { b with imgKeys := modAt (fun _ => modulus) b.imgKeys slot })).complete a.ref .ok
          | 2 => (s.sysWrite (fun b => { b with authKeys := modAt (fun _ => modulus) b.authKeys slot })).complete a.ref .ok
          | 3 => s.atMark (.regWrite a.ref (fieldLE p.args 0 4) (fieldLE p.args 4 4) (fieldLE p.args 8 4))
          | 4 => (s.sysWrite (fun b => { b with lc := slot })).atMark (.lifeCycle (some a.ref) slot)
          | 5 => (s.complete a.ref .ok).atMark (.dbgOpen a.ref slot)
          | 6 =>
            if detecting then s.complete a.ref .aborted
            else
              let w := setBits s.sec.tamper.toNat 31 26 0
              ((s.onSec (fun x => { x with tamper := BitVec.ofNat 32 w })).setReg Reg.SEC_TAMPER w).complete a.ref .ok
          | _ => (s.sysWrite (fun b => { b with platform := p.args })).complete a.ref .ok
        s.secShow)

/-! Life cycle (R499, R500). -/

/-- SEC_PROVISION: authority and image moduli and a platform record make a BLANK part PROVISIONED (R490, R499, log entry 2). -/
def execSecProvision (ref : CmdRef) (args : List Nat) (s : State) : Out :=
  let na := argN args 0
  let ni := argN args 1
  let key := fun (i : Nat) => slice (argBytes args (2 + 96 * i)) 0 384
  let auth := (List.range na).map key
  let img := (List.range ni).map (fun i => key (na + i))
  let plat := slice (argBytes args (2 + 96 * (na + ni))) 0 1024
  .next (s.commandLong ref 0x0E07
    [(decide (na < 2 ∨ 4 < na), .invalid, 0), (decide (ni < 1 ∨ 4 < ni), .invalid, 1), (decide (args.length < 2 + 96 * (na + ni) + 256), .invalid, 2),
     (!platformOk plat, .invalid, 3), (decide (s.lc ≠ 0), .denied, 5)] [] (fun ref s =>
    if !distinct (auth ++ img) then s.complete ref .invalid 2
    else
      let pad := fun (l : List (List Byte)) => l ++ List.replicate (4 - l.length) []
      let modulus := beBytes 384 (Config.deviceModulus s.fresh).toNat
      let s := { s with fresh := s.fresh + 1 }
      let s := s.sysWrite (fun b => { b with authKeys := pad auth, imgKeys := pad img, platform := plat, devModulus := modulus, provSec := s.time.d.sec % 2 ^ 48, lc := 1 })
      (s.onSec (fun x => { x with fuses := { x.fuses with prov := true } })).atMark (.lifeCycle (some ref) 1)))

/-- A committed transition takes effect (R500). -/
def State.lifeCycle (s : State) (ref : Option CmdRef) (to_ : Nat) : State :=
  let s := ((s.secWipe 2).gateClose 5).dropProposal
  let s := ((s.wr Reg.SEC_LC_STATE to_).countLog 0x1F1).cause 9
  let s := match ref with | some r => s.complete r .ok | none => s
  if to_ ≠ 4 then s
  else
    let s := s.onSec (fun x => { x with fuses := { x.fuses with retired := true } })
    let s := s.sysWrite (fun b => { b with imgKeys := [[], [], [], []], authKeys := [[], [], [], []], devModulus := [] })
    s.dropBanks.onPair (fun p => { p with restartDue := some (4, false) })

/-- The RWA registers that are kept in the system bank (R440, R451, R475, R484). -/
def State.rwaKeep (s : State) (d : RegDesc) (ix : List Nat) : State :=
  if d.base = Reg.GLB_IMG_SERIAL_FLOOR.base then s.sysWrite (fun b => { b with serialFloor := s.rd Reg.GLB_IMG_SERIAL_FLOOR_FLOOR })
  else if d.base = Reg.SEC_FW_SVN.base then s.sysWrite (fun b => { b with svnFloor := s.rd Reg.SEC_FW_SVN_FLOOR })
  else if d.base = Reg.AGE_VCFG.base ∨ d.base = Reg.AGE_VFIX.base then s
  else s.sysWrite (fun b => { b with rwa := b.rwa.put (regAddr d ix) (BitVec.ofNat 32 (s.reg d ix &&& rwaMask d)) })

/-- An approved write of RWA fields; the two floors can only be raised (R8, R44, R494). -/
def State.rwaWrite (s : State) (addr value mask : Nat) : State :=
  match regAt addr with
  | none => s
  | some (d, ix) =>
    let old := s.reg d ix
    let new := masked32 old value (mask &&& rwaMask d)
    let lower := (decide (d.base = Reg.GLB_IMG_SERIAL_FLOOR.base) && decide (new < old)) || (decide (d.base = Reg.SEC_FW_SVN.base) && decide (bitsOf new 31 16 < bitsOf old 31 16))
    if lower then s else (s.setReg d new ix).rwaKeep d ix

/-- What chapter 19 does at a base mark: changes that waited, and a closing asked for (R494, R500, R503). -/
def State.secMark (s : State) : State :=
  let l := s.sec.atMark
  let s := s.onSec (fun x => { x with atMark := [] })
  let s := forL l (fun c s => match c with
    | .regWrite ref addr value mask => (s.rwaWrite addr value mask).complete ref .ok
    | .lifeCycle ref to_ => s.lifeCycle ref to_
    | .dbgOpen _ minutes =>
      ((s.onSec (fun x => { x with gateEnd := some (s.runNs + minutes * 60000000000) })).wr Reg.SEC_DBG_OPEN 1).count 0x1F5) s
  let s := match s.sec.gateClose with | some c => s.gateClose c | none => s
  s.secShow

/-- The gate closes at the mark at which the key leaves MAINTENANCE (R503). -/
def State.gateKey (s : State) : State := if s.rd Reg.GLB_KEY_EFFECTIVE ≠ keyMaint then s.gateClose 2 else s

/-! Tamper (R501, R502). -/

/-- TAMPER_DETECT: a sensor (0 mesh, 1 voltage, 2 temperature, 3 light) detects, on VBAT or while powered (R502). -/
def execTamperDetect (sensor : Fin 4) (onVbat : Bool) (s : State) : Out :=
  let w := s.sec.tamper.toNat
  let w := setBits (setBits (setBits w 31 31 1) (30 - sensor.val) (30 - sensor.val) 1) 15 0 (min (w % 65536 + 1) 0xFFFF)
  let w := if onVbat then setBits w 26 26 1 else w
  let s := s.onSec (fun x => { x with tamper := BitVec.ofNat 32 w, vbatLog := x.vbatLog || onVbat })
  .next (if onVbat then s
    else (((((s.setReg Reg.SEC_TAMPER w).count 0x1F0).secWipe 1).gateClose 4).dropProposal.logEvent 0x1F0).cause 9)

end Sys2Proof.Machine
end

