-- ==== Sys2Proof/Machine/Load.lean ====
section
/-! DEFINITION. Loads: the jobs of the parser, admission and refusal, splice preparation, and the commands of family 0x01 (chapter 02, R45 to R65; R517). -/

namespace Sys2Proof.Machine

/-! The parser's jobs (R47, R48). -/

/-- What the parser needs of the device. -/
def State.loadEnv (s : State) (reads : List (Nat × List Byte)) : LoadEnv :=
  { lc := s.lc, stepping := s.rd Reg.GLB_PART_ID_STEPPING, mgr := s.flag Reg.GLB_ROLE_MGR_STRAP, keys := s.sys.imgKeys, floor := s.rd Reg.GLB_IMG_SERIAL_FLOOR_FLOOR
    platform := s.sec.platform, gib0 := s.rd Reg.DDR_STAT_SIZE_GIB [0], gib1 := s.rd Reg.DDR_STAT_SIZE_GIB [1], paired := s.paired
    safety := s.safDigest, reads := reads }

/-- An attempt begins: the parser's work is `jobs`; a load and a prepare ask for a measurement (R49, R71), and the report of the attempt before goes (R58, R65). -/
def State.newAttempt (s : State) (j : LoadJob) (jobs : List LoadJob) : State :=
  let s := (s.onImg (fun x => { x with jobs := jobs, report := {} })).showLoad
  let s := (s.wr Reg.GLB_IMG_REJECT_COUNT 0).wr Reg.GLB_IMG_REJECT_REASON 0
  if j.kind = .check then s
  else
    let s := (s.reqMeas false false []).onFab (fun f => { f with measNext := f.measNext.map (fun m => { m with forLoad := true }) })
    (s.onImg (fun x => { x with refused := false })).showLoad

/-- A parse joins the parser's work. -/
def State.addJob (s : State) (j : LoadJob) : State := s.newAttempt j (s.img.jobs ++ [j])

/-- The slot that the parser tries first at a restart (R47). -/
def State.bootSlot (s : State) : Bool :=
  match s.pair.newer with
  | some (_, b) =>
    if !b.digest.isEmpty && decide (s.img.areaA.digest = b.digest) then false
    else if !b.digest.isEmpty && decide (s.img.areaB.digest = b.digest) then true
    else decide (s.sys.bootSlot = 1)
  | none => decide (s.sys.bootSlot = 1)

/-- The parser starts at a restart (R47, R49). -/
def State.bootLoad (s : State) : State :=
  let k := s.bootSlot
  s.addJob { kind := .boot false, slot := k, bytes := s.img.slotBytes k }

/-- The parser waits for the measurement that the attempt asked for (R49, R53). -/
def State.measWait (s : State) : Bool :=
  (match s.fab.measNext with | some m => m.forLoad | none => false) || (match s.fab.meas with | some m => m.forLoad | none => false)

/-- The attempt is refused: the report is kept, a refusal other than a check's is logged with every identity mismatch, a restart tries the other slot, a command ends INVALID or CERT_FAIL with the first reason (R47, R50, R58, R65). -/
def State.refuse (s : State) (j : LoadJob) (p : Parsed) (recs : List RejRecord) : State :=
  let digest := p.img.digest
  let first := match recs with | r :: _ => r.reason | [] => 0
  let s := s.onImg (fun x => { x with jobs := x.jobs.drop 1, poisoned := false
                                      report := { recs := recs.take 64, digest := if digest.isEmpty then List.replicate 16 0 else digest.take 16, sec := s.time.d.sec } })
  let s := (s.wr Reg.GLB_IMG_REJECT_COUNT (min 64 recs.length)).wr Reg.GLB_IMG_REJECT_REASON first
  let s := if j.kind = .check then s else (s.logEvent 0x401 first).logMisses p.img p.mis
  let s := if j.kind = .check then s else s.onImg (fun x => { x with refused := true })
  let s := match j.ref with
    | some r => s.complete r (if first = 0x000F ∨ first = 0x0010 then .certFail else .invalid) first
    | none => s
  let s := match j.kind with
    | .boot false =>
      let k := !j.slot
      let next : LoadJob := { kind := .boot true, slot := k, bytes := s.img.slotBytes k }
      s.newAttempt next (next :: s.img.jobs)
    | _ => s
  s.showLoad

/-! Splice preparation (R59, R61, R235). -/

/-- Device-wide sections that a cell uses: those whose block is bound to a point it holds, as source, DAC output or transmit field, and the converter section for encoder axes (R59). -/
def sectionsUsed (i : Img) (c : Nat) : List Nat :=
  let l := (i.points.filter (fun e => decide (e.1 / 2048 = c))).map (·.2)
  let here (id : Nat) : Bool := decide (id ≠ NONE) && decide (idDev id = i.devnum) && decide (idCell id = c)
  let dac := match i.conv with | some x => x.dacs.any (fun d => here d.srcPt) | none => false
  let sent := match i.can with | some x => canSends x here | none => false
  (if l.any (fun d => decide (d.ownerKind = 4)) then [0x0003] else []) ++
  (if l.any (fun d => decide (d.recPolicy ≠ 0)) then [0x0040] else []) ++
  (if dac || l.any (fun d => decide (d.ownerKind = 1)) || i.axes.any (fun e => decide (e.1 / 32 = c) && !e.2.fbPt) then [0x0060] else []) ++
  (if sent || l.any (fun d => decide (d.ownerKind = 3)) then [0x0070] else []) ++
  (if l.any (fun d => decide (d.ownerKind = 2)) then [0x0072] else [])

/-- What of an image a cell sees: its role, its sections and the device-wide sections it uses, by digest (R59). -/
def cellImage (i : Img) (c : Nat) : Nat × List (Nat × List Byte) :=
  let own := i.dir.filter (fun e => decide (e.cell = c))
  let dev := i.dir.filter (fun e => decide (64 ≤ e.cell) && decide (e.type ∈ sectionsUsed i c))
  let l := (own ++ dev).map (fun e => (e.type, e.digest))
  (i.roles.getD c 0, l.foldl (fun a e => (a.takeWhile (fun x => decide (x.1 < e.1))) ++ [e] ++ (a.dropWhile (fun x => decide (x.1 < e.1)))) [])

/-- The cells that a splice changes (R59). -/
def changedCells (old new : Img) : List Nat := (List.range 64).filter (fun c => decide (cellImage old c ≠ cellImage new c))

/-- Splice faults of header and steps (R59, R61). -/
def spliceFaults (old new : Img) : List RejRecord :=
  (if old.role = new.role ∧ old.devnum = new.devnum ∧ old.compat = new.compat ∧ old.constellation = new.constellation then [] else [{ reason := 0x0013 }]) ++
  (old.recipes.map (fun e =>
    match new.recipes.look e.1 with
    | none => []
    | some n =>
      ((List.range e.2.flows.length).map (fun f =>
        if flowSame e.2 n f ∨ n.flows.length ≤ f then []
        else match e.2.graphOf f with
          | some g => ((e.2.stepsOf g).filter (fun d => (n.stepBy f d.stepId).isNone)).map (fun d =>
              ({ reason := 0x0014, cell := e.1, obj := new.devnum * 131072 + e.1 * 2048 + f, d0 := d.stepId } : RejRecord))
          | none => [])).flatten)).flatten

/-- Bytes of the per-cell sections of a cell. -/
def cellBytes (i : Img) (c : Nat) : Nat := (i.dir.filter (fun e => decide (e.cell = c))).foldl (fun a e => a + e.length) 0

/-- The new configuration of a changed cell fits beside the old one (R59, R235, log entry 23). -/
def configFits (old new : Img) (c : Nat) : Bool :=
  let r := new.roles.getD c 0
  if r = 0 ∨ old.roles.getD c 0 = 0 then true
  else match old.logics.look c, new.logics.look c with
    | some a, some b => decide (a.code.length + b.code.length ≤ 262144) && decide (logicBytes a + logicBytes b ≤ 524288)
    | _, _ => Config.sramFits r (cellBytes old c) (cellBytes new c)

/-- Changed cells placed: the new map and the cells without room (R59). -/
def placeCells (old new : Img) (phys bs lost : List Nat) : List Nat → Tab Nat → List Nat → Tab Nat × List Nat
  | [], map, bad => (map, bad)
  | c :: t, map, bad =>
    if configFits old new c then placeCells old new phys bs lost t map bad
    else match candidate new map phys bs lost c with
      | some x => placeCells old new phys bs lost t (map.put c x) bad
      | none => placeCells old new phys bs lost t map (bad ++ [c])

/-- Bytes of the LOGIC state of a home cell that R235 carries over, at the sizes of R217: tasks, markers, words, objects and image entries that both images have. -/
def carriedLogic (o n : LogicSec) : Nat :=
  let objs := n.objects.filter (fun d => (o.objMatch d).isSome)
  32 * (n.tasks.filter (fun d => (o.tasks[d.task]?).isSome)).length + ceilDiv (min o.mBits n.mBits) 8 + 4 * min o.wWords n.wWords +
  16 * (objs.filter (fun d => !isEdge d.kind)).length + ceilDiv (objs.filter (fun d => isEdge d.kind)).length 4 +
  4 * (n.images.filter (fun d => o.images.any (fun e => decide (e.point = d.point) && decide (e.dir = d.dir)))).length

/-- Bytes of the role state of a home cell that R60 carries over (R60, R61, R145, R162, R209, R217; log entry 23). -/
def carriedRole (old new : Img) (h : Nat) : Nat :=
  let both {α : Type} (n : Nat) (x y : Tab α) (ok : α → α → Bool) : Nat :=
    (x.filter (fun e => decide (e.1 / n = h) && (match y.look e.1 with | some v => ok e.2 v | none => false))).length
  64 * both 256 old.loops new.loops (fun _ _ => true) + 64 * both 32 old.axes new.axes sameFeedback +
  128 * both 8 old.pgs new.pgs (fun a b => decide (a.rate = b.rate)) +
  (match old.recipes.look h, new.recipes.look h with
   | some a, some b => ((List.range (min a.flows.length b.flows.length)).map (fun f =>
      128 + (if flowSame a b f then 8 * ((match b.graphOf f with | some g => (b.stepsOf g).map (fun (d : StepDef) => d.verbCount) | none => ([] : List Nat)).sum) else 0))).sum
   | _, _ => 0) +
  (match old.logics.look h, new.logics.look h with | some a, some b => carriedLogic a b | _, _ => 0)

/-- Bytes carried over into a changed cell: the points that both images give it in one format, and the role state of its home (R59, R60). -/
def carriedBytes (old new : Img) (c : Nat) : Nat :=
  let pts := (new.points.filter (fun e => decide (e.1 / 2048 = c) && !pointNew old e.1 e.2)).map (·.2)
  16 * pts.length + 8 * (pts.filter (fun d => d.extended)).length + carriedRole old new c

/-- The splice is prepared, or refused, with the faults of header, steps, placement and certificate beside those found before (R58, R59). -/
def State.prepared (s : State) (j : LoadJob) (old : Img) (p : Parsed) (found : List RejRecord) (reads : List (Nat × List Byte)) : State :=
  let new := p.img
  let ch := changedCells old new
  let phys := s.physFor new.compat
  let keep : Tab Nat := s.planMap.filter (fun e => decide (new.roles.getD e.1 0 ≠ 0))
  let pl := placeCells old new phys s.budgets s.sys.lost ch keep []
  let w := certAll new pl.1 phys
  let extra : Tab Nat := ch.foldl (fun t c =>
    let x := pl.1.at' c c
    t.put x (t.at' x 0 + 64 + ceilDiv (carriedBytes old new c) 8)) []
  let bad : List RejRecord := pl.2.map (fun c => { reason := 0x0015, cell := c })
  let recs := found ++ bad ++ certFaults w s.budgets (fun c => extra.at' c 0)
  if !recs.isEmpty then s.refuse j p recs
  else
    let mask : Nat := ch.foldl (fun a c => a + 2 ^ c) 0
    let s := s.onImg (fun x => { x with jobs := x.jobs.drop 1, poisoned := false, spliceLost := false
                                        splice := some { img := new, slot := j.slot, cert := s.certRecord new w, changed := ch, extra := extra, map := pl.1, mis := p.mis, reads := reads } })
    let s := s.showLoad
    match j.ref with | some r => s.complete r .ok 0 mask | none => s

/-! Admission (R48, R54, R517). -/

/-- The map that a load starts from: a warm restart keeps the stored one (R517). -/
def State.loadMap (s : State) (j : LoadJob) (i : Img) : Tab Nat :=
  match j.kind with
  | .boot _ => if (s.warmCut i j.kind).isSome && !i.compat then (s.img.area j.slot).map else []
  | _ => []

/-- An image is admitted for the next base mark. -/
def State.admitImage (s : State) (j : LoadJob) (p : Parsed) (w : List (Nat × Nat)) (map : Tab Nat) (reads : List (Nat × List Byte)) : State :=
  (s.onImg (fun x => { x with jobs := x.jobs.drop 1, poisoned := false
                              due := some { img := p.img, slot := j.slot, kind := j.kind, ref := j.ref, cert := s.certRecord p.img w, map := map, mis := p.mis, reads := reads } })).showLoad

/-- The certificate of a load: admitted, or met by voltage steps, then migrations, or refused (R54, R517); `check` changes nothing. -/
def State.certify (s : State) (j : LoadJob) (p : Parsed) (reads : List (Nat × List Byte)) : State :=
  let i := p.img
  let phys := s.physFor i.compat
  let map := s.loadMap j i
  let w := certAll i map phys
  let faults := certFaults w s.budgets (fun _ => 0)
  if j.kind = .check then
    if faults.isEmpty then
      let s := (s.onImg (fun x => { x with jobs := x.jobs.drop 1, poisoned := false })).showLoad
      match j.ref with | some r => s.complete r .ok | none => s
    else s.refuse j p faults
  else if faults.isEmpty then s.admitImage j p w map reads
  else if i.compat then s.refuse j p faults
  else if s.age.volt.isSome then s
  else if s.canSet && decide (s.vset < s.vmax) then s.raiseVolt
  else
    let r := planMoves i phys s.budgets s.sys.lost (failingCells w s.budgets) map [] false
    let w' := certAll i r.1 phys
    if r.2.2 ∨ !(certFaults w' s.budgets (fun _ => 0)).isEmpty then s.refuse j p faults else s.admitImage j p w' r.1 reads

/-- The faults of a verified image that failed other checks: those, then its certificate's (R58). -/
def State.withCert (s : State) (j : LoadJob) (p : Parsed) : List RejRecord :=
  if p.img.dir.isEmpty then p.recs
  else p.recs ++ certFaults (certAll p.img (s.loadMap j p.img) (s.physFor p.img.compat)) s.budgets (fun _ => 0)

/-- IMAGE_PARSE_COMPLETE: the parse at the head of the parser's work ends, once the measurement it asked for has ended; `reads` are the identity records that the Steward read (R48 to R54, R58, R59). -/
def execImageParseComplete (reads : List (Nat × List Byte)) (s : State) : Out :=
  match s.img.jobs with
  | [] => .next s
  | j :: _ =>
    if s.img.due.isSome || (decide (j.kind ≠ .check) && s.measWait) then .next s
    else
      let p := parseImg (s.loadEnv reads) j.bytes s.img.poisoned
      if j.kind = .prepare then
        .next (match s.img.run with
        | none => s.refuse j p [{ reason := 0x0013 }]
        | some old =>
          if s.img.splice.isSome then
            let s := (s.onImg (fun x => { x with jobs := x.jobs.drop 1, poisoned := false })).showLoad
            (match j.ref with | some r => s.complete r .busy | none => s)
          else
            if p.img.dir.isEmpty then s.refuse j p p.recs
            else s.prepared j old p (p.recs ++ spliceFaults old p.img) reads)
      else if p.recs.isEmpty then .next (s.certify j p reads)
      else .next (s.refuse j p (s.withCert j p))

/-! Commands (R65). -/

/-- A slot argument: 0 A, 1 B. -/
def slotArg (n : Nat) : Bool := decide (n = 1)

/-- The running image came from this slot. -/
def State.runsFrom (s : State) (k : Bool) : Bool := s.img.run.isSome && decide (s.img.slot = k)

/-- IMAGE_WRITE_SLOT: slot, then the image from the buffer; the recorded digest is that of its bytes before the signature block, the record and map of the slot go, and the verification finds what was written (R46, R65, log entries 2 and 36). -/
def execImageWriteSlot (ref : CmdRef) (args : List Nat) (s : State) : Out :=
  let n := argN args 0
  let b := (argBytes args 10).take ref.bufLen
  .next (s.commandLong ref 0x0101 [(decide (args.length < 1 ∨ 1 < n), .invalid, 0), (decide (67108864 < ref.bufLen ∨ ref.bufLen < 512 ∨ b.length < ref.bufLen), .invalid, 1)]
    [(s.runsFrom (slotArg n), .denied, 6)] (fun ref s =>
      let k := slotArg n
      let a : CertArea := { digest := sha256 (b.take (b.length - 512)) }
      let s := s.onImg (fun x => (if k then { x with slotB := b } else { x with slotA := b }).putArea k a)
      s.complete ref .ok))

/-- IMAGE_LOAD: a cold restart onto a slot (R65). -/
def execImageLoad (ref : CmdRef) (args : List Nat) (s : State) : Out :=
  let n := argN args 0
  .next (s.commandLong ref 0x0102 [(decide (args.length < 1 ∨ 1 < n), .invalid, 0)] [] (fun ref s =>
    s.addJob { kind := .load, slot := slotArg n, bytes := s.img.slotBytes (slotArg n), ref := some ref }))

/-- IMAGE_CHECK of slot 0 or 1, or 2 for the command's buffer (R48, R65, log entry 2). -/
def execImageCheck (ref : CmdRef) (args : List Nat) (s : State) : Out :=
  let n := argN args 0
  let b := if n = 2 then (argBytes args 10).take ref.bufLen else s.img.slotBytes (slotArg n)
  .next (s.commandLong ref 0x0103 [(decide (args.length < 1 ∨ 2 < n), .invalid, 0)] [] (fun ref s =>
    s.addJob { kind := .check, slot := slotArg n, bytes := b, ref := some ref }))

/-- SPLICE_PREPARE of the slot that the running image did not come from; the completion's RESULT has bit c for each changed cell c (R59, R63, log entry 2). -/
def execSplicePrepare (ref : CmdRef) (_args : List Nat) (s : State) : Out :=
  .next (s.commandLong ref 0x0104 [(s.img.run.isNone, .absent, 0)] [(s.img.splice.isSome, .busy, 0)] (fun ref s =>
    s.addJob { kind := .prepare, slot := !s.img.slot, bytes := s.img.slotBytes (!s.img.slot), ref := some ref }))

/-- SPLICE_COMMIT with N_s, 0 for the earliest; with no prepared splice, or one already committed, INVALID after the key (R62, R63, R65; log entry 36). -/
def execSpliceCommit (ref : CmdRef) (args : List Nat) (s : State) : Out :=
  let n := if arg64 args 0 = 0 then s.time.n + 8 else arg64 args 0
  let lost := s.img.spliceLost
  let free := match s.img.splice with | some p => p.commit.isNone | none => false
  .next (s.commandLong ref 0x0105 [(decide (args.length < 2), .invalid, 0)] [(!lost && !free, .invalid, 0), (!lost && decide (n < s.time.n + 8), .invalid, 0)] (fun ref s =>
    if lost then (s.onImg (fun x => { x with spliceLost := false })).complete ref .aborted
    else match s.img.splice with
      | none => s
      | some p =>
        let s := s.onImg (fun x => { x with splice := some { p with commit := some { mark := n, ref := some ref } } })
        let s := s.sysWrite (fun b => { b with bootSlot := b2n p.slot })
        let s := (s.wr64 Reg.GLB_SPLICE_MARK_LO_MARK_LO Reg.GLB_SPLICE_MARK_HI_MARK_HI n).showLoad
        s.noteCmd (.splice n p.img.digest)))

/-- SPLICE_CANCEL: before the mark the splice is discarded, the commit ends ABORTED; else INVALID, after the key (R63, R65). -/
def execSpliceCancel (ref : CmdRef) (_args : List Nat) (s : State) : Out :=
  .next (s.command ref 0x0106 [] [(s.img.splice.isNone, .invalid, 0)] (fun ref s => (s.endSplice .aborted).complete ref .ok))

/-- SPLICE_TIMEOUT of the new image: the time since the requested mark has passed; the splice stays prepared (R61; log entry 36). -/
def execSpliceTimeout (s : State) : Out :=
  match s.img.splice with
  | some p =>
    (match p.commit with
     | some c =>
       let ms := if p.img.spliceTimeout = 0 then 10000 else p.img.spliceTimeout
       if c.mark + 8 * ms ≤ s.time.n then
         let s := (s.onImg (fun x => { x with splice := some { p with commit := none } })).showLoad
         .next (match c.ref with | some r => s.complete r .timeout | none => s)
       else .next s
     | none => .next s)
  | none => .next s

/-- A rejection record's 64 bytes (R58). -/
def rejBytes (x : Report) (r : RejRecord) : List Byte :=
  leBytes 2 r.reason ++ leBytes 2 r.section_ ++ leBytes 1 r.cell ++ leBytes 3 0 ++ leBytes 4 r.obj ++ leBytes 4 r.offset ++ leBytes 4 r.d0 ++ leBytes 4 r.d1 ++
  x.digest ++ leBytes 8 x.sec ++ List.replicate 16 0

/-- REPORT_READ: the records of the last report (R58, R65). -/
def execReportRead (ref : CmdRef) (_args : List Nat) (s : State) : Out :=
  let b := (s.img.report.recs.map (rejBytes s.img.report)).flatten
  .next (s.command ref 0x0107 [noRoom ref b.length] [] (fun ref s => s.complete ref .ok 0 0 b))

/-- The 1,088 bytes of a certificate record (R57). -/
def certBytes (r : CertRecord) : List Byte :=
  leBytes 4 0x54524543 ++ leBytes 2 1 ++ leBytes 2 64 ++ slice r.digest 0 32 ++ leBytes 8 r.sec ++ leBytes 2 r.vcore ++ leBytes 2 (twos 16 r.tj) ++ leBytes 2 r.util ++
  List.replicate 10 0 ++ (r.cells.map (fun x => leBytes 4 x.1 ++ leBytes 4 x.2.1 ++ leBytes 4 x.2.2.1 ++ leBytes 1 x.2.2.2 ++ leBytes 3 0)).flatten

/-- CERT_READ: the certificate record of the running image with its CRC-32C; ABSENT without one (R57, R65). -/
def execCertRead (ref : CmdRef) (_args : List Nat) (s : State) : Out :=
  let b := match (s.img.area s.img.slot).record with | some r => certBytes r ++ leBytes 4 (crc32c (certBytes r)) | none => []
  .next (s.command ref 0x0108 [noRoom ref 1092, (s.img.run.isNone, .absent, 0)] [] (fun ref s => s.complete ref .ok 0 0 b))

/-- SET_ACTIVE_SLOT: ACTIVE_SLOT without a load (R65). -/
def execSetActiveSlot (ref : CmdRef) (args : List Nat) (s : State) : Out :=
  let n := argN args 0
  .next (s.command ref 0x0109 [(decide (args.length < 1 ∨ 1 < n), .invalid, 0)] [] (fun ref s => (s.sysWrite (fun b => { b with bootSlot := n })).complete ref .ok))

end Sys2Proof.Machine
end

