-- ==== Sys2Proof/Machine/Power.lean ====
section
/-! DEFINITION. Resets of the main die, boot, DDR5 training and the retention domain (chapter 21, R534 to R551; R378, R441, R440, R488, R489, R524). -/

namespace Sys2Proof.Machine

/-- Registers that the retention domain keeps (R20, R502, R524). -/
def retained : List RegDesc := [Reg.AGE_HOURS, Reg.AGE_OPSEC, Reg.AGE_PCYC, Reg.SEC_TAMPER]

/-- The main die enters reset: every block of it at its power-on state; the Conjunction, the retention domain, MRAM, fuses and flash keep theirs, and so do failed lanes (R68, R539, R545; log entry 27). -/
def State.mainReset (s : State) (cause : Nat) (warm : Bool) : State :=
  let regs : Tab Word := s.regs.filter (fun e => retained.any (fun d => decide (regAddr d [] = e.1)))
  let rings : Tab Ring := (List.range 128).map (fun r => (r, { gen := (s.host.rings.at' r {}).gen + 1 }))
  let t : State :=
    { pending := s.pending, regs := regs, fresh := s.fresh
      host := { perst := s.host.perst, rings := rings, sent := s.host.sent, toHost := s.host.toHost, window := if cause = 0 then [] else s.host.window }
      time := { retentionSec := s.time.retentionSec, refOk := s.time.refOk, tioLevel := s.time.tioLevel }
      img := { slotA := s.img.slotA, slotB := s.img.slotB, areaA := s.img.areaA, areaB := s.img.areaB }
      fab := { failed := s.fab.failed }
      conv := { dioIn := s.conv.dioIn, vanaLow := s.conv.vanaLow, encs := s.conv.encs.map (fun e => (e.1, { a := e.2.a, b := e.2.b })) }
      pair := { bankA := s.pair.bankA, bankB := s.pair.bankB, coldAsked := !warm }
      sec := { fuses := s.sec.fuses, bank0 := s.sec.bank0, bank1 := s.sec.bank1, fwA := s.sec.fwA, fwB := s.sec.fwB, tamper := s.sec.tamper, vbatLog := s.sec.vbatLog }
      saf := { s.saf with proposal := none, expired := [], wrongs := 0, lockEnd := none, statusAt := none, logDue := none
                          restartDue := s.saf.restartDue.map (fun x => x - s.runNs) }
      recd := { log := s.recd.log, baseSeq := s.recd.baseSeq, bad := s.recd.bad }
      power := { s.power with inReset := true, fw := false } }
  let t := (t.wr Reg.PWR_RST_CAUSE cause).wrb Reg.PWR_STAT_VANA_OK (s.flag Reg.PWR_STAT_VANA_OK)
  let t := (t.wrb Reg.PWR_STAT_VSAFE_A_OK (s.flag Reg.PWR_STAT_VSAFE_A_OK)).wrb Reg.PWR_STAT_VSAFE_B_OK (s.flag Reg.PWR_STAT_VSAFE_B_OK)
  let t := (t.wrb Reg.MEM_CKPT_STAT_FEED_A_LOW (s.flag Reg.MEM_CKPT_STAT_FEED_A_LOW)).wrb Reg.MEM_CKPT_STAT_FEED_B_LOW (s.flag Reg.MEM_CKPT_STAT_FEED_B_LOW)
  if cause = 3 then t.count 0x161 else t

/-- MAIN_POWER_ON_RESET: a rail fell below its threshold (R537, R545). -/
def execMainPowerOnReset (s : State) : Out := .next (s.mainReset 0 true)

/-- PORST_N_ASSERT: no freeze and no flush; a flush in progress is abandoned without its COMMIT (R545, R546). -/
def execPorstNAssert (s : State) : Out := .next (s.mainReset 1 true)

/-! Boot (R488, R489, R539). -/

/-- The larger of two (OP_HOURS, PCYCLES) pairs. -/
def pairMax (a b : Nat × Nat) : Nat × Nat := if a.1 < b.1 ∨ (a.1 = b.1 ∧ a.2 < b.2) then b else a

/-- The loss of the retained values, detected at boot (R539). -/
def State.retentionLost (s : State) : State :=
  if !s.power.retLost then s
  else
    let last := s.recd.log.foldl (fun a r => pairMax a r.sum.last) (0, 0)
    let cycles := if s.recd.log.isEmpty then 0 else last.2 + 1
    let s : State := { s with time := { s.time with retentionSec := 0 }, sec := { s.sec with tamper := 0x80000000 }, power := { s.power with retLost := false } }
    (((s.wr Reg.PWR_STAT_RET_LOST 1).wr Reg.AGE_HOURS_OP_HOURS last.1).wr Reg.AGE_OPSEC_OP_SEC 0).wr Reg.AGE_PCYC_PCYCLES cycles

/-- The life-cycle state that the boot ROM finds; a bank that reads RETIRED blows the fuse and its commit is completed (R488, R500). -/
def State.bootLc (s : State) : State :=
  let s := if !s.sysLost && decide (s.sys.lc = 4) && !s.sec.fuses.retired then
      (s.onSec (fun x => { x with fuses := { x.fuses with retired := true } })).sysWrite (fun b => { b with imgKeys := [[], [], [], []], authKeys := [[], [], [], []], devModulus := [] }) |>.dropBanks
    else s
  let lost := s.sysLost && s.sec.fuses.prov
  let lc := if s.sec.fuses.retired || lost then 4 else if s.sysLost then 0 else s.sys.lc
  (s.wr Reg.SEC_LC_STATE lc).wrb Reg.SEC_LC_SYSBANK_LOST lost

/-- The RWA registers that the system bank keeps (R440). -/
def State.loadRwa (s : State) : State :=
  let s := forL s.sys.rwa (fun e (s : State) =>
    match regAt e.1 with
    | some (d, ix) => s.setReg d (masked32 (s.reg d ix) e.2.toNat (rwaMask d)) ix
    | none => s) s
  s.wr Reg.GLB_IMG_SERIAL_FLOOR_FLOOR s.sys.serialFloor

/-- RESET_RELEASE: straps sampled, system banks and retention domain read, the recorder rebuilt; without a release pending it has no effect (R347, R382, R439, R489, R524, R527, R541, R547). -/
def execResetRelease (mgr : Bool) (pair : Fin 4) (plp pmb : Fin 8) (s : State) : Out :=
  if !s.power.inReset then .next s
  else
    let s : State := { s with power := { s.power with inReset := false } }
    let s := (s.wrb Reg.GLB_ROLE_MGR_STRAP mgr).wr Reg.GLB_PAIR_STRAP pair.val
    let s := (s.wr Reg.GLB_PAIR_PORT plp.val).wrb Reg.GLB_PAIR_STRAP_ERR (decide (pair.val = 3) || (decide (pair.val ∈ [1, 2]) && decide (6 ≤ plp.val)))
    let s := (s.wr Reg.PWR_RST_STRAP_PMB pmb.val).wr Reg.PWR_PMB_ADDR (0x40 + pmb.val)
    let s := s.recBoot
    let s := if s.power.retLost then s.retentionLost else if s.rd Reg.PWR_RST_CAUSE = 0 then s.incWrap Reg.AGE_PCYC_PCYCLES else s
    let s := (s.bootLc.loadRwa.sysShow).setReg Reg.SEC_TAMPER s.sec.tamper.toNat
    let s := if s.sec.vbatLog then s.logEvent 0x1F0 else s
    let s := s.onSec (fun x => { x with platform := s.sys.platform, vbatLog := false })
    let s := forN 4 (fun n (s : State) => s.wr Reg.SEC_SERIAL_SERIAL (fieldLE dieSerialBytes (4 * n) 4) [n]) s
    let s := (s.showBanks.showSwap).wr Reg.AGE_SPARE_ROWS_MIN s.rowsMin
    .next (forN 64 (fun c (s : State) => s.wr Reg.AGE_MAP_EXEC c [c]) s)

/-- FIRMWARE_START: the boot ROM verifies a slot; its firmware starts the parser, unless neither verifies (R47, R485, R489, R548). -/
def execFirmwareStart (s : State) : Out :=
  if s.power.inReset ∨ s.power.fw then .next s
  else
    let s := s.fwBoot.wr Reg.RNG_GLB_STAT_STW_OK 1
    .next (if s.flag Reg.SEC_LC_RECOVERY then s else { s with power := { s.power with fw := true } }.bootLoad)

/-- DDR_TRAINING_DONE: a channel trained from the platform record reads its capacity and data rate; without a platform record none is trained (R441, R489; log entry 28). -/
def execDdrTrainingDone (ch : Fin 2) (gib : Fin 256) (mts : Fin 65536) (s : State) : Out :=
  .next (if s.sec.platform.isEmpty then s
    else (((s.wr Reg.DDR_STAT_TRAINED 1 [ch.val]).wr Reg.DDR_STAT_PRESENT 1 [ch.val]).wr Reg.DDR_STAT_SIZE_GIB gib.val [ch.val]).wr Reg.DDR_STAT_MTS mts.val [ch.val])

/-- RETENTION_SWITCH: the retention domain runs on VBAT, or on a VRET feed again; `lost` when VBAT was below 2.2 V in the meantime (R538, R539). -/
def execRetentionSwitch (toVbat lost : Bool) (s : State) : Out :=
  .next { s with power := { s.power with onVbat := toVbat, retLost := s.power.retLost || lost } }

/-- VBAT_SAMPLE, every 1 s (R551). -/
def execVbatSample (low : Bool) (s : State) : Out := .next (s.wrb Reg.PWR_STAT_VBAT_LOW low)

end Sys2Proof.Machine
end

