-- ==== Sys2Proof/Machine/Rings.lean ====
section
/-! DEFINITION. The host interface: ring states and indices, command fetch, completion records, interrupts, resets, the Steward, rings over Ethernet and the maintenance port (chapter 18, R458 to R478; R435 to R437, R505). -/

namespace Sys2Proof.Machine

/-! Ring states and indices (R461, R462). -/

/-- A difference of 16-bit indices (R461). -/
def idxDiff (a b : Nat) : Nat := (a + 65536 - b % 65536) % 65536

/-- A ring is READY. -/
def State.ringReady (s : State) (r : Nat) : Bool := decide (s.rd Reg.RNG_STAT_STATE [r] = 1)

/-- A ring is bound to Ethernet (R475). -/
def State.ringEth (s : State) (r : Nat) : Bool := s.flag Reg.RNG_CTL_TRANSPORT [r]

/-- Every index of a ring and its sequence number at 0, and the first completion pass (R459, R462, R466). -/
def State.ringZero (s : State) (r : Nat) : State :=
  let s := ((s.wr Reg.RNG_CMD_TAIL_TAIL 0 [r]).wr Reg.RNG_CMD_HEAD_HEAD 0 [r]).wr Reg.RNG_CPL_TAIL_CTAIL 0 [r]
  ((s.wr Reg.RNG_CPL_HEAD_CHEAD 0 [r]).wr Reg.RNG_SEQ_SEQ 0 [r]).onRing r (fun x => { x with written := 0 })

/-- A ring's records of commands fetched so far are discarded (R459, R478). -/
def State.ringDrop (s : State) (r : Nat) : State :=
  let s := s.onRing r (fun x => { gen := x.gen + 1 })
  (s.wr Reg.RNG_STAT_LONG 0 [r]).wr Reg.RNG_STAT_CPL_FULL 0 [r]

/-- A ring becomes READY while the ring engine is (R462). -/
def State.ringStart (s : State) (r : Nat) : State :=
  if s.host.ready && s.flag Reg.RNG_CTL_EN [r] && !s.ringReady r then (s.ringZero r).wr Reg.RNG_STAT_STATE 1 [r] else s

/-- RNG_CTL_r.EN is written (R462). -/
def State.ringEnable (s : State) (r : Nat) (en : Bool) : State :=
  let s := s.wrb Reg.RNG_CTL_EN en [r]
  if en then s.ringStart r else s.wr Reg.RNG_STAT_STATE 0 [r]

/-- A write of RNG_CTL_r.EN (R462). -/
def execRingEnWrite (ring : Fin 128) (en : Bool) (s : State) : Out := .next (s.ringEnable ring.val en)

/-- An index write that breaks its rule is ignored (R461). -/
def State.idxError (s : State) (r : Nat) : State := (s.wr Reg.RNG_STAT_IDX_ERR 1 [r]).count 0x221

/-- RNG_CMD_TAIL_r is written (R461, R462). -/
def State.tailWrite (s : State) (r v : Nat) : State :=
  if !s.ringReady r || s.ringEth r then s.count 0x220
  else if 128 < idxDiff v (s.rd Reg.RNG_CMD_HEAD_HEAD [r]) then s.idxError r
  else s.wr Reg.RNG_CMD_TAIL_TAIL v [r]

/-- A write of RNG_CMD_TAIL_r (R461). -/
def execTailWrite (ring : Fin 128) (value : Word) (s : State) : Out := .next (s.tailWrite ring.val (value.toNat % 65536))

/-- RNG_CPL_HEAD_r is written; a difference of 32,768 or more is negative (R461). -/
def State.cheadWrite (s : State) (r v : Nat) : State :=
  if 32768 ≤ idxDiff (s.rd Reg.RNG_CPL_TAIL_CTAIL [r]) v then s.idxError r else s.wr Reg.RNG_CPL_HEAD_CHEAD v [r]

/-- A write of RNG_CPL_HEAD_r (R461). -/
def execCheadWrite (ring : Fin 128) (value : Word) (s : State) : Out := .next (s.cheadWrite ring.val (value.toNat % 65536))

/-- PCIE_FUNCTION_READY: the function answers and every enabled ring reports READY (R458, R459, R462). -/
def execPcieFunctionReady (s : State) : Out :=
  if s.power.inReset then .next s
  else .next (forN 128 (fun r (s : State) => s.ringStart r) (s.onHost (fun h => { h with ready := true, perst := false })))

/-- A reset of the host interface only (R459). -/
def State.hostReset (s : State) : State :=
  let s := s.onHost (fun h => { h with ready := false, msix := [], pba := [] })
  let s := forN 128 (fun r (s : State) => ((s.ringDrop r).ringZero r).wr Reg.RNG_STAT_STATE 0 [r]) s
  (s.wr Reg.RNG_DEV_CAUSE_CAUSE 0).tearOf (fun o => decide (o = .host))

/-- FUNCTION_LEVEL_RESET: a function-level or hot reset, after what happened at the arbiters (R459, R86). -/
def execFunctionLevelReset (traffic : List FabEvent) (s : State) : Out := .next (s.traffic traffic).hostReset

/-- PERST_N_ASSERT: the pin resets the host interface only (R459, R545). -/
def execPerstNAssert (traffic : List FabEvent) (s : State) : Out := .next ((s.traffic traffic).hostReset.onHost (fun h => { h with perst := true }))

/-! The window from the host's side (R435 to R437). -/

/-- One 8-byte word of a host write: dropped where a fabric write of the same write window left another value (R436). -/
def State.hostWord (s : State) (w : Nat) (l : List (Nat × Byte)) (touched : Bool) : State :=
  if touched && l.any (fun e => decide (s.winByte e.1 ≠ e.2)) then
    let s := (s.count 0x110).wr Reg.MEM_WIN_STAT_COLLISION 1
    (s.incHold Reg.MEM_WIN_COLL_COUNT).wr Reg.MEM_WIN_COLL_ADDR_ADDR (8 * w)
  else s.onHost (fun h => { h with window := l.foldl (fun t e => t.store 0 e.1 e.2) h.window })

/-- BAR2_WRITE: a host write of bytes at a window offset, with the fabric writes of the same write window (R435, R436, R577). -/
def execBar2Write (addr : BitVec 22) (bytes : List Byte) (fabric : List (Nat × Byte)) (s : State) : Out :=
  let a := addr.toNat
  let s := s.onHost (fun h => { h with window := (fabric.filter (fun e => decide (e.1 < 0x400000))).foldl (fun t e => t.store 0 e.1 e.2) h.window })
  let host : List (Nat × Byte) := ((List.range bytes.length).map (fun k => (a + k, bytes.getD k 0))).filter (fun e => decide (e.1 < 0x400000))
  .next (if bytes.isEmpty then s
    else forN ((a + bytes.length - 1) / 8 + 1 - a / 8) (fun k (s : State) =>
      let w := a / 8 + k
      s.hostWord w (host.filter (fun e => decide (e.1 / 8 = w))) (fabric.any (fun e => decide (e.1 / 8 = w)))) s)

/-! Command records and fetch (R463 to R465, R467). -/

/-- The commands that are long operations: their chapters list ACCEPTED_LONG (R467). -/
def longCmds : List Nat :=
  [0x0101, 0x0102, 0x0103, 0x0104, 0x0105, 0x0302, 0x0303, 0x0304, 0x0311, 0x0314, 0x0315, 0x0401, 0x0402, 0x0403, 0x0404, 0x0405, 0x0406,
   0x0502, 0x0503, 0x0505, 0x0506, 0x0601, 0x0606, 0x0706, 0x0707, 0x0803, 0x0903, 0x0904, 0x0A01, 0x0B04, 0x0C01, 0x0C04, 0x0C06, 0x0D05,
   0x0E03, 0x0E07, 0x0E08, 0x0F02, 0x0F03, 0x0F04, 0x0F12, 0x1001, 0x1002]

/-- Every opcode that a chapter assigns (R479). -/
def assignedCmds : List Nat :=
  longCmds ++
  [0x0106, 0x0107, 0x0108, 0x0109, 0x0201, 0x0202, 0x0203, 0x0204, 0x0205, 0x0206, 0x0301, 0x0305, 0x0306, 0x0307, 0x0308, 0x0309, 0x0310,
   0x0312, 0x0313, 0x0316, 0x0317, 0x0318, 0x0407, 0x0501, 0x0504, 0x0602, 0x0603, 0x0604, 0x0605, 0x0607, 0x0701, 0x0702, 0x0703, 0x0704,
   0x0705, 0x0708, 0x0709, 0x0801, 0x0802, 0x0804, 0x0805, 0x0806, 0x0901, 0x0902, 0x0905, 0x0906, 0x0A02, 0x0A03, 0x0B01, 0x0B02, 0x0B03,
   0x0B05, 0x0B06, 0x0C02, 0x0C03, 0x0C05, 0x0C07, 0x0D01, 0x0D02, 0x0D03, 0x0D04, 0x0D06, 0x0D07, 0x0D08, 0x0E01, 0x0E02, 0x0E04, 0x0E05,
   0x0E06, 0x0E09, 0x0F01, 0x0F10, 0x0F11, 0x0F13, 0x0F14, 0x0F15, 0x0F20, 0x0F21, 0x0F22]

/-- A 64-byte command record decoded (R464). -/
def cmdRecordOf (b : List Byte) : CmdRecord :=
  { opcode := fieldLE b 0 2, irq := bitOf (fieldLE b 2 1) 0, fence := bitOf (fieldLE b 2 1) 1, bufHost := bitOf (fieldLE b 2 1) 2
    tag := fieldLE b 4 4, bufAddr := fieldLE b 8 8, bufLen := fieldLE b 0x10 4, args := slice b 0x18 40 }

/-- A command record's 64 bytes (R464). -/
def cmdRecordBytes (c : CmdRecord) : List Byte :=
  leBytes 2 c.opcode ++ leBytes 1 (b2n c.irq + 2 * b2n c.fence + 4 * b2n c.bufHost) ++ leBytes 1 0 ++ leBytes 4 c.tag ++ leBytes 8 c.bufAddr ++
  leBytes 4 c.bufLen ++ leBytes 4 0 ++ c.args

/-- A record whose reserved fields or buffer fields break R464; over Ethernet BUF_HOST is 0 and BUF_LEN bounds the output whatever its size (R478). -/
def recordFault (b : List Byte) (eth : Bool) : Bool :=
  let c := cmdRecordOf b
  decide (8 ≤ fieldLE b 2 1) || decide (fieldLE b 3 1 ≠ 0) || decide (fieldLE b 0x14 4 ≠ 0) ||
  decide (c.bufAddr % 8 ≠ 0) || decide (c.bufLen % 8 ≠ 0) || (eth && c.bufHost) ||
  (!c.bufHost && decide (c.bufLen ≠ 0) && (decide (c.bufAddr < 0x200000) || decide (0x400000 ≤ c.bufAddr) || (!eth && decide (0x400000 < c.bufAddr + c.bufLen))))

/-- The argument words of a command: its ARGS, then its buffer (log entry 2). -/
def argWords (c : CmdRecord) (buf : List Byte) : List Nat :=
  (List.range 10).map (fun k => fieldLE c.args (4 * k) 4) ++ (List.range (buf.length / 4)).map (fun k => fieldLE buf (4 * k) 4)

/-- A decoded command goes to its executor, or is refused by the ring engine itself (R463, R464, R469, R479). -/
def State.submit (s : State) (ref : CmdRef) (rec_ : List Byte) (fault past : Bool) (buf : List Byte) : State :=
  let c := cmdRecordOf rec_
  if fault then (s.count 0x221).complete ref .invalid 0xFFFF0001
  else if !decide (c.opcode ∈ assignedCmds) then s.complete ref .invalid
  else if past then (s.count 0x226).complete ref .busy 0x40
  else s.toExecutor { ref := ref, args := argWords c buf, executor := executorOf c.opcode }

/-- Completion slots reserved by fetched commands (R463). -/
def Ring.reserved (x : Ring) : Nat := x.open_.length + x.acks.length

/-- The ring engine may fetch the slot at HEAD (R463). -/
def State.mayFetch (s : State) (r : Nat) : Bool :=
  let x := s.host.rings.at' r {}
  let used := idxDiff (s.rd Reg.RNG_CPL_TAIL_CTAIL [r]) (s.rd Reg.RNG_CPL_HEAD_CHEAD [r])
  s.ringReady r && decide (s.rd Reg.RNG_CMD_TAIL_TAIL [r] ≠ s.rd Reg.RNG_CMD_HEAD_HEAD [r]) && decide (x.reserved + 2 + used ≤ 256) && x.fence.isNone

/-- COMMAND_FETCH: the ring engine fetches the command at HEAD; `hostBuf` is what a buffer in host memory holds (R463 to R465, R467). -/
def execCommandFetch (ring : Fin 128) (hostBuf : List Byte) (s : State) : Out :=
  let r := ring.val
  if !s.mayFetch r then .next s
  else
    let head := s.rd Reg.RNG_CMD_HEAD_HEAD [r]
    let rec_ := s.winRead (0x4000 * r + 64 * (head % 128)) 64
    let c := cmdRecordOf rec_
    let eth := s.ringEth r
    let fault := recordFault rec_ eth
    let seq := s.rd Reg.RNG_SEQ_SEQ [r]
    let x := s.host.rings.at' r {}
    let isLong := !fault && decide (c.opcode ∈ longCmds)
    let past := isLong && decide (64 ≤ x.longs.length)
    let ref : CmdRef :=
      { ring := r, handle := r * 2 ^ 25 + seq, tag := c.tag, irq := c.irq, fence := c.fence, op := c.opcode, gen := x.gen, long := isLong
        bufAddr := c.bufAddr, bufLen := c.bufLen, bufHost := c.bufHost }
    let buf := if fault then [] else if c.bufHost then slice hostBuf 0 c.bufLen else s.winRead c.bufAddr (min c.bufLen (0x400000 - c.bufAddr))
    let s := (s.wr Reg.RNG_CMD_HEAD_HEAD (head + 1) [r]).wr Reg.RNG_SEQ_SEQ (seq + 1) [r]
    let s := s.onRing r (fun x => { x with
      open_ := x.open_ ++ [ref.handle], longs := if isLong && !past then x.longs ++ [ref.handle] else x.longs
      acks := if isLong && !past then x.acks ++ [ref.handle] else x.acks, fence := if c.fence then some ref.handle else x.fence })
    let s := s.wr Reg.RNG_STAT_LONG (s.host.rings.at' r {}).longs.length [r]
    .next (s.submit ref rec_ fault past buf)

/-! Datagrams (R475 to R478). -/

/-- UDP port of ring datagrams (R480). -/
def State.ringUdp (s : State) : Nat := if s.rd Reg.RNG_ETH_CFG_UDP = 0 then 47831 else s.rd Reg.RNG_ETH_CFG_UDP

/-- The port of ring datagrams, or the first of its pair (R480). -/
def State.ringPort (s : State) : Nat := let p := s.rd Reg.RNG_ETH_CFG_PORT; if p < 6 then p else 2 * (p - 6)

/-- The state with a ring's Ethernet transport changed; key 128 is the maintenance port. -/
def State.onEth (s : State) (r : Nat) (f : EthRing → EthRing) : State := s.onHost (fun h => { h with eth := h.eth.upd r {} f })

/-- A datagram's bytes (R476). -/
def dgramBytes (ty ring count dseq ackseq handle off : Nat) (payload : List Byte) : List Byte :=
  let h := leBytes 2 0x4D52 ++ leBytes 1 1 ++ leBytes 1 ty ++ leBytes 1 ring ++ leBytes 1 count ++ leBytes 2 payload.length ++ leBytes 4 dseq ++ leBytes 4 ackseq ++
    leBytes 4 handle ++ leBytes 4 off ++ leBytes 4 0
  h ++ leBytes 4 (crc32c (h ++ payload)) ++ payload

/-- ACKSEQ: DSEQ of the last datagram received in order, or all ones (R476). -/
def EthRing.ackSeq (x : EthRing) : Nat := if x.dseqIn = 0 then 0xFFFFFFFF else x.dseqIn - 1

/-- A datagram leaves: it carries the acknowledgement that is owed (R477). -/
def State.dgramTx (s : State) (r ty count dseq handle off : Nat) (payload : List Byte) : State :=
  let x := s.host.eth.at' r {}
  let b := dgramBytes ty (if r = 128 then 0xFF else r) count dseq x.ackSeq handle off payload
  let s := s.onEth r (fun x => { x with ackDue := none })
  if r = 128 then s.onField (fun f => { f with sent := { port := 0, kind := .maintenance, prpSeq := none, data := b } :: f.sent })
  else s.txIp s.ringPort (s.rd Reg.RNG_ETH_PEER_IPV4) .ring b

/-- A numbered datagram is sent and kept until it is acknowledged (R476, R477). -/
def State.dgramSend (s : State) (r ty handle off : Nat) (payload : List Byte) : State :=
  let q := (s.host.eth.at' r {}).dseqOut
  let s := s.onEth r (fun x => { x with
    dseqOut := (q + 1) % 2 ^ 32, unacked := x.unacked ++ [{ ty := ty, dseq := q, handle := handle, offset := off, payload := payload, sentAt := s.runNs }] })
  s.dgramTx r ty (if ty = 2 then payload.length / 32 else 0) q handle off payload

/-- An acknowledgement leaves in a datagram of its own (R477). -/
def State.ackTx (s : State) (r : Nat) : State :=
  (s.onEth r (fun x => { x with acksSent := x.acksSent + 1 })).dgramTx r 5 0 0 0 0 []

/-- Output data as DATA_OUT datagrams of at most 1,408 bytes (R476, R478). -/
def State.dataOut (s : State) (r handle : Nat) (data : List Byte) : State :=
  forN (ceilDiv data.length 1408) (fun k (s : State) => s.dgramSend r 4 handle (1408 * k) ((data.drop (1408 * k)).take 1408)) s

/-! Completion records and interrupts (R463, R466, R472). -/

/-- A ring message is sent (R472). -/
def State.ringMsg (s : State) (r : Nat) : State := (s.onRing r (fun x => { x with irqDue := 0, irqFirst := none })).msi r

/-- A ring message becomes due (R472). -/
def State.ringMsgDue (s : State) (r : Nat) : State :=
  let x := s.host.rings.at' r {}
  let s := s.onRing r (fun x => { x with irqDue := x.irqDue + 1, irqFirst := match x.irqFirst with | some t => some t | none => some s.runNs })
  if max 1 (s.rd Reg.RNG_IRQ_CFG_COUNT [r]) ≤ x.irqDue + 1 then s.ringMsg r else s

/-- A due record is written to its ring, or sent to the ring's peer with its output first (R466, R472, R477, R478). -/
def State.writeRecord (s : State) (r : Nat) (c : Cpl) (rest : List Cpl) : State :=
  let x := s.host.rings.at' r {}
  let ct := s.rd Reg.RNG_CPL_TAIL_CTAIL [r]
  let b := cplRecBytes c (decide (x.written / 256 % 2 = 0)) (stamp32 s.time.d)
  let s :=
    if s.ringEth r then (s.dataOut r c.ref.handle c.data).dgramSend r 2 0 0 b
    else
      let s := if c.data.isEmpty then s
        else if c.ref.bufHost then s.onHost (fun h => { h with toHost := (c.ref.bufAddr, c.data) :: h.toHost })
        else s.winWrite c.ref.bufAddr c.data
      s.winWrite (0x4000 * r + 0x2000 + 32 * (ct % 256)) b
  let s := (s.wr Reg.RNG_CPL_TAIL_CTAIL (ct + 1) [r]).wr Reg.RNG_STAT_CPL_FULL 0 [r]
  let drop (l : List Nat) : List Nat := l.filter (fun h => decide (h ≠ c.ref.handle))
  let s := s.onRing r (fun x =>
    let open_ := if c.final then drop x.open_ else x.open_
    { x with due := rest, written := x.written + 1, waitCounted := false, open_ := open_, longs := if c.final then drop x.longs else x.longs
             acks := drop x.acks, fence := if open_.isEmpty then none else x.fence })
  let s := s.wr Reg.RNG_STAT_LONG (s.host.rings.at' r {}).longs.length [r]
  if s.flag Reg.RNG_IRQ_CFG_ALL [r] || (c.final && c.ref.irq) then s.ringMsgDue r else s

/-- COMPLETION_RECORD_WRITE: the oldest due record of a ring is written when a slot is free; ring 128 is the maintenance port (R463, R466, R505). -/
def execCompletionRecordWrite (ring : Fin 129) (s : State) : Out :=
  let r := ring.val
  if r = 128 then
    match s.host.mnt with
    | [] => .next s
    | c :: rest =>
      let s := s.onHost (fun h => { h with mnt := rest })
      .next ((s.dataOut 128 c.ref.handle c.data).dgramSend 128 2 0 0 (cplRecBytes c true (stamp32 s.time.d)))
  else
    let x := s.host.rings.at' r {}
    match x.due with
    | [] => .next s
    | c :: rest =>
      if idxDiff (s.rd Reg.RNG_CPL_TAIL_CTAIL [r]) (s.rd Reg.RNG_CPL_HEAD_CHEAD [r]) < 256 then .next (s.writeRecord r c rest)
      else
        let s := s.wr Reg.RNG_STAT_CPL_FULL 1 [r]
        .next (if x.waitCounted then s else (s.count 0x222).onRing r (fun x => { x with waitCounted := true }))

/-- IRQ_TIME_LIMIT: TIME_US after the first message that became due since the last one sent (R472). -/
def execIrqTimeLimit (ring : Fin 128) (s : State) : Out :=
  let r := ring.val
  let t := s.rd Reg.RNG_IRQ_CFG_TIME_US [r]
  .next (match (s.host.rings.at' r {}).irqFirst with
    | some f => if t ≠ 0 ∧ f + 1000 * t ≤ s.runNs then s.ringMsg r else s
    | none => s)

/-- A vector is unmasked: its pending message goes out (R472). -/
def State.unmask (s : State) (v : Nat) : State :=
  let w := (s.msixWord (4 * v + 3)).toNat
  let s := s.onHost (fun h => { h with msix := h.msix.store (1 : Word) (4 * v + 3) (BitVec.ofNat 32 (setBits w 0 0 0)) })
  if v ∈ s.host.pba then s.onHost (fun h => { h with pba := h.pba.filter (fun x => decide (x ≠ v)), sent := v :: h.sent }) else s

/-- MSIX_VECTOR_UNMASK (R472). -/
def execMsixVectorUnmask (vec : Fin 144) (s : State) : Out := .next (s.unmask vec.val)

/-- A read of RNG_VEC_STAMP_LO_v latches both halves (R474). -/
def State.latchStamp (s : State) (v : Nat) : State := s.onHost (fun h => { h with stampLatch := h.stampLatch.put v (s.host.stamps.at' v 0) })

/-! The Steward (R469, R471). -/

/-- The first waiting command of a list of rings, in order. -/
def pickRing (l : List Fetched) : List Nat → Option Fetched
  | [] => none
  | r :: t => match l.find? (fun f => decide (f.ref.ring = r)) with | some f => some f | none => pickRing l t

/-- STEWARD_TAKE_COMMAND: the Steward takes a waiting command in round-robin order over the rings; it waits while its keys are away after a wipe (R469, R500). -/
def execStewardTakeCommand (s : State) : Out :=
  let w := s.host.steward
  if w.hung || w.current.isSome || !s.flag Reg.RNG_GLB_STAT_STW_OK || s.sec.keysAt.isSome then .next s
  else
    match pickRing w.queue ((List.range 256).map (fun k => (w.turn + k) % 256)) with
    | none => .next s
    | some f => .next (s.onHost (fun h => { h with steward := { h.steward with
        queue := h.steward.queue.erase f, turn := (f.ref.ring + 1) % 256, current := some f } }))

/-- STEWARD_WATCHDOG: the Steward has not served its watchdog for 1 s and is reset, after what happened at the arbiters (R86, R387, R471). -/
def execStewardWatchdog (traffic : List FabEvent) (s : State) : Out :=
  let s := s.traffic traffic
  let torn := !(s.openClauses (fun o => decide (o = .steward))).isEmpty
  let s := s.tearOf (fun o => decide (o = .steward))
  let s := (((s.incHold Reg.RNG_GLB_STAT_STW_RESTARTS).count 0x223).wr Reg.RNG_GLB_STAT_STW_OK 0).cause 15
  .next ((s.selfCause 6).onHost (fun h => { h with steward := { h.steward with hung := true, tornClause := torn } }))

/-- STEWARD_RESTARTED: the Steward serves again, and what the reset interrupted completes ABORTED, or TORN where its clause was torn (R87, R471). -/
def execStewardRestarted (s : State) : Out :=
  let w := s.host.steward
  if !w.hung then .next s
  else
    let s := (s.onHost (fun h => { h with steward := { h.steward with hung := false, tornClause := false, current := none } })).wr Reg.RNG_GLB_STAT_STW_OK 1
    let fin (ref : CmdRef) (st : Status) (s : State) : State := s.post { ref := ref, status := st, final := true, stwRestart := true, detail := 0, result := 0, data := [] }
    let s := match w.current with | some f => fin f.ref (if w.tornClause then .torn else .aborted) s | none => s
    .next (match s.sec.proposal with
      | some p =>
        match p.second with
        | some a => (fin a.ref .aborted s).onSec (fun x => { x with proposal := some { p with second := none } })
        | none => s
      | none => s)

/-! Datagrams received (R475 to R478). -/

/-- A received datagram is well formed and of the type expected (R476). -/
def dgramOk (b : List Byte) (ty : Nat) (mnt : Bool) : Bool :=
  decide (32 ≤ b.length) && decide (fieldLE b 0 2 = 0x4D52) && decide (fieldLE b 2 1 = 1) && decide (fieldLE b 3 1 = ty) &&
  (if mnt then decide (fieldLE b 4 1 = 0xFF) else decide (fieldLE b 4 1 < 128)) && decide (fieldLE b 6 2 % 8 = 0) && decide (fieldLE b 6 2 ≤ 1408) &&
  decide (b.length = 32 + fieldLE b 6 2) && decide (fieldLE b 0x1C 4 = crc32c (b.take 28 ++ b.drop 32))

/-- What a datagram acknowledges is no longer kept, and the completion slots of the records in it are free (R477). -/
def State.acked (s : State) (r ackseq : Nat) : State :=
  let x := s.host.eth.at' r {}
  if ackseq = 0xFFFFFFFF ∧ x.dseqOut = 0 then s
  else
    let gone (d : Datagram) : Bool := decide ((ackseq + 2 ^ 32 - d.dseq) % 2 ^ 32 < 2 ^ 31)
    let n := ((x.unacked.filter gone).filter (fun d => decide (d.ty = 2))).length
    let s := s.onEth r (fun x => { x with unacked := x.unacked.filter (fun d => !gone d) })
    if r = 128 then s else s.wr Reg.RNG_CPL_HEAD_CHEAD (s.rd Reg.RNG_CPL_HEAD_CHEAD [r] + n) [r]

/-- A numbered datagram under the rules of R477: accepted in order, a duplicate answered, any other dropped. -/
def State.inOrder (s : State) (r dseq : Nat) (k : State → Option State) : State :=
  let x := s.host.eth.at' r {}
  if dseq = x.dseqIn then
    match k s with
    | some s => s.onEth r (fun x => { x with dseqIn := (x.dseqIn + 1) % 2 ^ 32, ackDue := match x.ackDue with | some t => some t | none => some s.runNs })
    | none => s
  else if (x.dseqIn + 2 ^ 32 - dseq) % 2 ^ 32 < 2 ^ 31 then s.ackTx r
  else s

/-- The records of a CMD datagram enter the command ring, when all fit together with the commands not yet finally completed (R477). -/
def State.cmdRecords (s : State) (r : Nat) (payload : List Byte) : Option State :=
  let n := payload.length / 64
  let tail := s.rd Reg.RNG_CMD_TAIL_TAIL [r]
  let held := idxDiff tail (s.rd Reg.RNG_CMD_HEAD_HEAD [r]) + (s.host.rings.at' r {}).open_.length
  if !s.ringReady r || decide (128 < held + n) then none
  else
    let s := forN n (fun k (s : State) => s.winWrite (0x4000 * r + 64 * ((tail + k) % 128)) (slice payload (64 * k) 64)) s
    some (s.wr Reg.RNG_CMD_TAIL_TAIL (tail + n) [r])

/-- Both directions restart at DSEQ 0, which the RESYNC itself carries, and the ring's sequence number at 0 (R476, R478; log entry 29). -/
def State.resync (s : State) (r : Nat) : State :=
  (((s.ringDrop r).ringZero r).onEth r (fun x => { acksSent := x.acksSent, dseqIn := 1, ackDue := some s.runNs }))

/-- A datagram comes from the one peer, by the one port (R475). -/
def State.fromPeer (s : State) (port : Nat) (src : Word) (udp : Nat) : Bool :=
  let p := s.rd Reg.RNG_ETH_CFG_PORT
  (if p < 6 then decide (netPort s.sec.platform port = netPort s.sec.platform p) else decide (port / 2 = p - 6)) &&
  decide (src.toNat = s.rd Reg.RNG_ETH_PEER_IPV4) && decide (udp = s.ringUdp)

/-- A ring datagram received on a port from an address and a UDP port (R316, R475 to R478). -/
def State.ringDgram (s : State) (ty port : Nat) (src : Word) (udp : Nat) (b : List Byte) : State :=
  let r := fieldLE b 4 1
  let payload := b.drop 32
  if !s.field.filterEnded then s.filterDrop port
  else if !s.fromPeer port src udp || !dgramOk b ty false || !s.ringEth r then s.count 0x225
  else
    let s := if ty = 6 then s else s.acked r (fieldLE b 0x0C 4)
    match ty with
    | 1 =>
      if fieldLE b 5 1 < 1 ∨ 22 < fieldLE b 5 1 ∨ payload.length ≠ 64 * fieldLE b 5 1 then s.count 0x225
      else s.inOrder r (fieldLE b 8 4) (fun s => s.cmdRecords r payload)
    | 3 => s.inOrder r (fieldLE b 8 4) (fun s =>
        let off := fieldLE b 0x14 4
        some (s.winWrite (0x200000 + 0x4000 * r + off) (payload.take (0x4000 - off))))
    | 6 => s.resync r
    | _ => s

/-- CMD: command records for an Ethernet ring (R477). -/
def execCmd (port : Fin 6) (src : Word) (udp : BitVec 16) (data : List Byte) (s : State) : Out := .next (s.ringDgram 1 port.val src udp.toNat data)

/-- DATA_IN: input for the ring's data area (R478). -/
def execDataIn (port : Fin 6) (src : Word) (udp : BitVec 16) (data : List Byte) (s : State) : Out := .next (s.ringDgram 3 port.val src udp.toNat data)

/-- ACK (R477). -/
def execAck (port : Fin 6) (src : Word) (udp : BitVec 16) (data : List Byte) (s : State) : Out := .next (s.ringDgram 5 port.val src udp.toNat data)

/-- RESYNC (R478). -/
def execResync (port : Fin 6) (src : Word) (udp : BitVec 16) (data : List Byte) (s : State) : Out := .next (s.ringDgram 6 port.val src udp.toNat data)

/-- DATAGRAM_RESEND: what stays unacknowledged 5 ms after its last sending is resent (R477). -/
def execDatagramResend (ring : Fin 128) (s : State) : Out :=
  let r := ring.val
  let old (d : Datagram) : Bool := decide (d.sentAt + 5000000 ≤ s.runNs)
  let l := (s.host.eth.at' r {}).unacked.filter old
  let s := s.onEth r (fun x => { x with unacked := x.unacked.map (fun d => if old d then { d with sentAt := s.runNs } else d) })
  .next (forL l (fun d (s : State) => (s.count 0x224).dgramTx r d.ty (if d.ty = 2 then d.payload.length / 32 else 0) d.dseq d.handle d.offset d.payload) s)

/-- DATAGRAM_ACK_TIMER: an acknowledgement that is owed leaves in an ACK (R477). -/
def execDatagramAckTimer (ring : Fin 129) (s : State) : Out :=
  .next (if (s.host.eth.at' ring.val {}).ackDue.isSome then s.ackTx ring.val else s)

/-! The maintenance port (R505). -/

/-- The commands of a CMD datagram of the maintenance port; none when one of them is not accepted there (R505). -/
def State.mntCmds (s : State) (payload : List Byte) : Option State :=
  let recs := (List.range (payload.length / 64)).map (fun k => slice payload (64 * k) 64)
  if recs.any (fun b => !decide (fieldLE b 0 2 ∈ [0x0E01, 0x0E03, 0x0E09])) then none
  else some (forL recs (fun b (s : State) =>
    let c := cmdRecordOf b
    let seq := s.host.mntSeq
    let ref : CmdRef :=
      { ring := 255, handle := (127 * 2 ^ 25 + seq) % 2 ^ 32, tag := c.tag, irq := c.irq, fence := c.fence, op := c.opcode, long := decide (c.opcode ∈ longCmds)
        bufAddr := c.bufAddr, bufLen := c.bufLen }
    let fault := recordFault b true
    let buf := if fault then [] else (List.range (min c.bufLen 0x4000)).map (fun k => s.host.mntArea.at' (c.bufAddr - 0x200000 + k) 0)
    (s.onHost (fun h => { h with mntSeq := (seq + 1) % 2 ^ 25 })).submit ref b fault false buf) s)

/-- MAINTENANCE_DATAGRAM: a datagram over SPI, accepted in MAINTENANCE for three commands and their input (R505; log entry 30). -/
def execMaintenanceDatagram (data : List Byte) (s : State) : Out :=
  let ty := fieldLE data 3 1
  let payload := data.drop 32
  if !s.keyMaintOk || !dgramOk data ty true || !decide (ty ∈ [1, 3, 5, 6]) then .next (s.count 0x225)
  else
    let s := if ty = 6 then s else s.acked 128 (fieldLE data 0x0C 4)
    match ty with
    | 1 =>
      if (s.mntCmds payload).isNone ∨ payload.length % 64 ≠ 0 ∨ payload.length ≠ 64 * fieldLE data 5 1 then .next (s.count 0x225)
      else .next (s.inOrder 128 (fieldLE data 8 4) (fun s => s.mntCmds payload))
    | 3 => .next (s.inOrder 128 (fieldLE data 8 4) (fun s =>
        let off := fieldLE data 0x14 4
        some (s.onHost (fun h => { h with mntArea := putBytes h.mntArea off (payload.take (0x4000 - off)) }))))
    | 6 => .next ((s.onHost (fun h => { h with mnt := [], mntSeq := 0 })).onEth 128 (fun x => { acksSent := x.acksSent, dseqIn := 1, ackDue := some s.runNs }))
    | _ => .next s

end Sys2Proof.Machine
end

