-- ==== Sys2Proof/Machine/Tense.lean ====
section
/-! DEFINITION. The Tense unit: the clocks, their discipline and sources, steps of D, stamps and time pins (R90 to R112). -/

namespace Sys2Proof.Machine

/-- The state with the Tense unit changed. -/
def State.onTime (s : State) (f : TimeState → TimeState) : State := { s with time := f s.time }

/-- A field after a host write of x over y, by its access code; `hw` are its bits that hardware sets in the same update slot, and `keyOn` admits RWK fields (R5, R7, R9). -/
def fieldWrite (acc : Access) (y x hw : Nat) (keyOn : Bool) : Nat :=
  match acc with
  | .rw => x
  | .w1c => (y - (y &&& x)) ||| hw
  | .w1s => y ||| x
  | .rwk => if keyOn then x else y
  | .ro | .wo | .rwa => y

/-- A register after a host write of a word: every field by its own access code, reserved bits unchanged (R3, R5, R6). -/
def wordWrite (d : RegDesc) (old v hw : Nat) (keyOn : Bool) : Nat :=
  d.fields.foldl (fun a f => setBits a f.hi f.lo (fieldWrite f.acc (bitsOf old f.hi f.lo) (bitsOf v f.hi f.lo) (bitsOf hw f.hi f.lo) keyOn)) old

/-- A register after a write of a word that no approval and no key position governs (R5). -/
def plainWrite (d : RegDesc) (old v : Nat) : Nat := wordWrite d old v 0 false

/-- A register written by the host, no field of it under an approval or the key. -/
def State.writePlain (s : State) (d : RegDesc) (v : Nat) (ix : List Nat := []) : State := s.setReg d (plainWrite d (s.reg d ix) v) ix

/-! Clocks (R90, R91, R94). -/

/-- A clock one tick later: the increment joins NS and its fraction, with a carry into SEC at 1,000,000,000 ns (R90). -/
def Clock.advance (c : Clock) (incr : Nat) : Clock :=
  let t := c.ns * 2 ^ 32 + c.frac + incr
  let ns := t / 2 ^ 32
  if 1000000000 ≤ ns then ⟨(c.sec + 1) % 2 ^ 48, ns - 1000000000, t % 2 ^ 32⟩ else ⟨c.sec, ns, t % 2 ^ 32⟩

/-- A clock moved by an offset in ns and normalised (R94, R100). -/
def Clock.move (c : Clock) (off : Int) : Clock := clockOf ((((clockNs c : Int) + off) % ((2 ^ 48 * 1000000000 : Nat) : Int)).toNat) c.frac

/-- Lowest and highest increment that a commit admits (R94). -/
def incrOk (x : Nat) : Bool := decide (0x1FF7CED92 ≤ x) && decide (x ≤ 0x20083126E)

/-- Domain A or B. -/
def State.dom (s : State) (x : Nat) : Domain := if x = 0 then s.time.a else s.time.b

/-- The state with domain A or B changed. -/
def State.onDom (s : State) (x : Nat) (f : Domain → Domain) : State :=
  s.onTime (fun t => if x = 0 then { t with a := f t.a } else { t with b := f t.b })

/-- What a domain does at a tick: a commit, its advance, a step (R94). -/
def State.domTick (s : State) (x : Nat) : State :=
  let d := s.dom x
  let inc := s.rd Reg.TNS_X_INCR_HI_INT [x] * 2 ^ 32 + s.rd Reg.TNS_X_INCR_LO_FRAC [x]
  let s := if d.commit && !incrOk inc then s.wr Reg.TNS_STATUS_REJ 1 else s
  let d : Domain := { d with incr := if d.commit && incrOk inc then inc else d.incr, commit := false }
  let d : Domain := { d with clk := d.clk.advance d.incr }
  let sec := signed 32 (s.rd Reg.TNS_X_ADJ_SEC_ADJ_SEC [x])
  let ns := signed 32 (s.rd Reg.TNS_X_ADJ_NS_ADJ_NS [x])
  let ok := decide (-999999999 ≤ ns) && decide (ns ≤ 999999999)
  let s := if d.step && !ok then s.wr Reg.TNS_STATUS_REJ 1 else s
  let d : Domain := { d with clk := if d.step && ok then d.clk.move (sec * 1000000000 + ns) else d.clk, step := false }
  s.onDom x (fun _ => d)

/-! Sources (R95, R96, R346, R397). -/

/-- A domain is OK: the host's validity, and a Sync within TMO × 100 ms or no timeout (R96). -/
def State.domOk (s : State) (x : Nat) : Bool :=
  let tmo := s.rd Reg.TNS_X_CTL_TMO [x]
  s.flag Reg.TNS_X_CTL_OK [x] && (decide (tmo = 0) || (match (s.dom x).lastSync with | some t => decide (s.runNs ≤ t + tmo * 100000000) | none => false))

/-- A source, coded as DSEL, is OK (R96, R356, R397). -/
def State.srcOk (s : State) (x : Nat) : Bool :=
  if x < 2 then s.domOk x else decide (x = 2) && s.follows && s.flag Reg.LNK_STATE_LINK_OK

/-- Some source is OK. -/
def State.anySrc (s : State) : Bool := s.srcOk 0 || s.srcOk 1 || s.srcOk 2

/-- DSEL is forced to LINK: a joined worker, and the unit of a paired manager without the lease (R346, R397). -/
def State.forcedLink (s : State) : Bool := s.isJoined || (s.isManager && s.follows)

/-- The increment of the source in effect. -/
def State.srcIncr (s : State) : Nat :=
  match s.rd Reg.TNS_STATUS_ACTIVE with
  | 1 => s.time.b.incr
  | 2 => s.time.linkIncr
  | _ => s.time.a.incr

/-- The largest slew correction, of SLEW_PPM with 500 as its limit (R95). -/
def State.slewMax (s : State) : Nat := min (s.rd Reg.TNS_CTL_SLEW_PPM) 500 * 2 ^ 33 / 1000000

/-- The slew correction c that closes Δ; 0 in HOLDOVER and while no image is in effect (R95, R96). -/
def State.slew (s : State) : Int :=
  if s.flag Reg.TNS_STATUS_HOLDOVER ∨ s.img.run.isNone then 0
  else
    let m : Int := s.slewMax
    let d := s.deltaFix
    if d.natAbs ≤ s.slewMax then d else if 0 ≤ d then m else -m

/-- What TNS_STATUS shows of the sources; HOLDOVER sets at once and clears at a base mark only (R95, R96). -/
def State.showSources (s : State) : State :=
  if !s.time.locked then s
  else
    let s := ((s.wrb Reg.TNS_STATUS_A_OK (s.srcOk 0)).wrb Reg.TNS_STATUS_B_OK (s.srcOk 1)).wrb Reg.TNS_STATUS_LINK_OK (s.srcOk 2)
    let s := if s.anySrc then s else s.wrCause Reg.TNS_STATUS_HOLDOVER 1 8
    s.wrb Reg.TNS_STATUS_SYNC (s.srcOk (s.rd Reg.TNS_STATUS_ACTIVE) && s.sourceClk.isSome && decide (s.deltaFix.natAbs ≤ 1000 * 2 ^ 32))

/-- The next effective increment E and SLEWING (R95, R96). -/
def State.discipline (s : State) : State :=
  let c := s.slew
  let e := if c = 0 ∧ (s.flag Reg.TNS_STATUS_HOLDOVER ∨ s.img.run.isNone) then s.srcIncr else clampIncr (((s.srcIncr : Int) + c).toNat)
  (s.onTime (fun t => { t with e := e })).wrb Reg.TNS_STATUS_SLEWING (decide (c ≠ 0))

/-- The pulses that end at this tick; after an output pulse MODE returns to 0 (R107). -/
def State.endPulses (s : State) : State :=
  forL (s.time.tioPulse.filter (fun e => decide (e.2 ≤ s.runNs))) (fun e s =>
    let s := s.onTime (fun t => { t with tioPulse := t.tioPulse.filter (fun p => decide (p.1 ≠ e.1)), tioLevel := t.tioLevel.put e.1 false })
    if s.rd Reg.TNS_TIO_CFG_MODE [e.1] = 4 then s.wr Reg.TNS_TIO_CFG_MODE 0 [e.1] else s) s

/-- One Tense tick: the run time and D advance by E, the domains and LINK by their own increments; while no image is in effect D takes the source's time (R90, R91, R94, R95). -/
def State.tenseTick (s : State) : State :=
  let s := (s.domTick 0).domTick 1
  let s := s.onTime (fun t =>
    let r := t.runFrac + t.e
    { t with run := (t.run + r / 2 ^ 32) % 2 ^ 64, runFrac := r % 2 ^ 32, d := t.d.advance t.e
             link := t.link.map (fun c => c.advance t.linkIncr) })
  let s := if s.img.run.isNone then (match s.sourceClk with | some c => s.onTime (fun t => { t with d := c }) | none => s) else s
  s.showSources.discipline.endPulses

/-- A change of source takes effect at a base mark (R96, R346, R397). -/
def State.sourceMark (s : State) : State :=
  let cur := s.rd Reg.TNS_STATUS_ACTIVE
  let auto : Option Nat := if s.flag Reg.TNS_CTL_AUTO && !s.srcOk cur then [0, 1, 2].find? (fun x => s.srcOk x && decide (x ≠ cur)) else none
  let next : Nat :=
    if s.forcedLink then 2
    else match s.time.dselPending, auto with
      | some h, some a => if s.srcOk h then h else a
      | some h, none => h
      | none, some a => a
      | none, none => cur
  let s := s.onTime (fun t => { t with dselPending := none })
  let s := if next = cur then s
    else ((s.wr Reg.TNS_CTL_DSEL next).wr Reg.TNS_STATUS_ACTIVE next).wrCause Reg.TNS_STATUS_SWITCHED 1 8
  let s := if s.forcedLink then s.wr Reg.TNS_CTL_DSEL 2 else s
  let s := s.wrCause Reg.TNS_STATUS_HOLDOVER (b2n (!s.anySrc)) 8
  s.showSources.discipline

/-- The due time of an output pulse in units of 250 ps of D: bits 47:32 of its seconds are those of D (R102, R107). -/
def State.tioDue (s : State) (n : Nat) : Nat :=
  4 * ((s.time.d.sec / 2 ^ 32 * 2 ^ 32 + s.rd Reg.TNS_TIO_SEC_SEC [n]) * 1000000000 + s.rd Reg.TNS_TIO_NS_NS [n]) + s.rd Reg.TNS_TIO_CFG_SUB [n]

/-- The pulses whose due time a forward step passed over are late: none is produced (R107, R110). -/
def State.tioPassed (s : State) : State :=
  let l := s.time.tioArmed.filter (fun n => decide (s.tioDue n < clock4 s.time.d))
  forL l (fun n s => s.wr Reg.TNS_TIO_CFG_LATE 1 [n]) (s.onTime (fun t => { t with tioArmed := t.tioArmed.filter (fun n => !decide (n ∈ l)) }))

/-- D steps by q ns at a mark: the cycle number jumps, the splice waiting for a mark is discarded, and the step is marked and logged (R98, R100, R110). -/
def State.stepD (s : State) (q : Int) : State :=
  if q = 0 then s
  else
    let k := Int.tdiv q 125000
    let n := s.time.n
    let s := s.onTime (fun t => { t with d := t.d.move q, n := (((t.n : Int) + k) % ((2 ^ 64 : Nat) : Int)).toNat })
    let s := (s.wrCause Reg.TNS_STATUS_STEPPED 1 8).logEvent 0x407 k
    let s : State := { s with acq := { s.acq with steps := s.acq.steps ++ [s.run4] } }
    let s := s.histTimeStep n k
    let s := if 0 < q then s.tioPassed else s
    match s.img.splice with
    | some p =>
      match p.commit with
      | some c =>
        if c.mark ≤ n then s.onImg (fun x => { x with splice := some { p with commit := some { c with mark := ((c.mark : Int) + k).toNat } } })
        else s.loseSplice
      | none => s.loseSplice
    | none => s

/-- EFFECTIVE reads STOP at the base mark whose tick this is, a change of this mark counted (R229, R564). -/
def State.stopAtMark (s : State) : Bool :=
  match s.key.pending with
  | some x => if s.key.pendingTick < s.runNs then decide (x = keyStop) else s.keyStopped
  | none => s.keyStopped

/-- A pending TIME_STEP at its mark, refused in STOP (R99, R100, R564); the step that beacons announced takes its q from them (R355). -/
def State.stepMark (s : State) : State :=
  match s.time.stepPend with
  | none => s
  | some p =>
    if s.time.n < p.mark then s
    else
      let q := match p.q with | some q => q | none => s.stepQ
      let s := (s.onTime (fun t => { t with stepPend := none })).wr Reg.TNS_STATUS_STEP_PEND 0
      match p.ref with
      | some r => if s.stopAtMark then s.complete r .denied 1 else (s.stepD q).complete r .ok
      | none => s.stepD q

/-- The number of the base cycle that starts (R30, R93, R98): with an image one more than the last, without one as D gives it. -/
def State.nextN (s : State) : State :=
  s.onTime (fun t => { t with
    n := if s.img.run.isSome then (t.n + 1) % 2 ^ 64 else clockNs t.d / 125000
    cycles := if t.lockMark then t.cycles else t.cycles + 1, lockMark := false, sub := 0 })

/-! Commands and events. -/

/-- PLL_LOCK: time starts at the retention domain's seconds, and the first tick is a base mark of index 0 (R93). -/
def execPllLock (s : State) : Out :=
  if s.time.locked then .next s
  else
    let c : Clock := ⟨s.time.retentionSec % 2 ^ 48, 0, 0⟩
    let s := s.onTime (fun t => { t with
      locked := true, d := c, a := { t.a with clk := c }, b := { t.b with clk := c }, run := 0, runFrac := 0, e := 0x200000000
      n := clockNs c / 125000, cycles := 0, sub := 0, lockMark := true })
    let s := s.wr64 Reg.TNS_SEC_LO_SEC_LO Reg.TNS_SEC_HI_SEC_HI c.sec
    let s := forN 2 (fun x (s : State) => s.wr64 Reg.TNS_X_SEC_LO_SEC_LO Reg.TNS_X_SEC_HI_SEC_HI c.sec [x]) s
    .next (s.wr Reg.TNS_STATUS_SYNC 0)

/-- REF_CLOCK_LOST: the PLL holds its last frequency (R93). -/
def execRefClockLost (s : State) : Out := .next ((s.onTime (fun t => { t with refOk := false })).wrCause Reg.TNS_STATUS_REF_LOST 1 8)

/-- REF_CLOCK_RETURN: the PLL relocks without a phase step (R93). -/
def execRefClockReturn (s : State) : Out := .next ((s.onTime (fun t => { t with refOk := true })).wrCause Reg.TNS_STATUS_REF_LOST 0 8)

/-- SEC_CARRY: the retention seconds count, PPS outputs, gate lists and rates of the second (R90, R93, R107, R314). -/
def execSecCarry (s : State) : Out :=
  let s := s.onTime (fun t => { t with retentionSec := t.d.sec })
  let s := forL ((List.range 8).filter (fun n => decide (s.rd Reg.TNS_TIO_CFG_MODE [n] = 5))) (fun n s =>
    let w := max 1 (s.rd Reg.TNS_TIO_CFG_WIDTH [n])
    s.onTime (fun t => { t with tioLevel := t.tioLevel.put n true, tioOut := t.tioOut.put n (4000000000 * t.d.sec), tioPulse := t.tioPulse.put n (s.runNs + w * 1000) })) s
  .next s.fieldSecond.histSecond

/-- INCR_COMMIT_WRITE: a write of TNS_x_INCR_HI (R94). -/
def execIncrCommitWrite (dom : Fin 2) (value : Word) (s : State) : Out :=
  .next ((s.writePlain Reg.TNS_X_INCR_HI value.toNat [dom.val]).onDom dom.val (fun d => { d with commit := true }))

/-- DOMAIN_STEP_WRITE: a write of TNS_x_CTL (R94, R96). -/
def execDomainStepWrite (dom : Fin 2) (value : Word) (s : State) : Out :=
  let s := s.writePlain Reg.TNS_X_CTL value.toNat [dom.val]
  .next ((if bitOf value.toNat 0 then s.onDom dom.val (fun d => { d with step := true }) else s).showSources)

/-- A host choice of DSEL (R96, R346, R397). -/
def State.hostDsel (s : State) (x : Nat) : State :=
  if x = 3 ∨ s.forcedLink then s.wr Reg.TNS_STATUS_REJ 1
  else (s.wr Reg.TNS_CTL_DSEL x).onTime (fun t => { t with dselPending := some x })

/-- DSEL_WRITE: a write of TNS_CTL (R95, R96, R112). -/
def execDselWrite (value : Word) (s : State) : Out :=
  let v := value.toNat
  let s := (s.wr Reg.TNS_CTL_SLEW_PPM (bitsOf v 24 16)).wr Reg.TNS_CTL_AUTO (bitsOf v 4 4)
  .next (s.hostDsel (bitsOf v 1 0))

/-- A read of TNS_NS captures the snapshot (R92). -/
def State.captureTense (s : State) : State :=
  let t := s.time
  let s := s.wr Reg.TNS_NS_NS t.d.ns
  let s := (s.wr64 Reg.TNS_SEC_LO_SEC_LO Reg.TNS_SEC_HI_SEC_HI t.d.sec).wr64 Reg.TNS_RUN_LO_RUN_LO Reg.TNS_RUN_HI_RUN_HI t.run
  (s.wr Reg.TNS_STAMP32_STAMP (stamp32 t.d)).wr64 Reg.TNS_CYCLE_LO_N_LO Reg.TNS_CYCLE_HI_N_HI t.n

/-- A read of TNS_x_NS captures the domain (R92). -/
def State.captureDomain (s : State) (x : Nat) : State :=
  let c := (s.dom x).clk
  (s.wr Reg.TNS_X_NS_NS c.ns [x]).wr64 Reg.TNS_X_SEC_LO_SEC_LO Reg.TNS_X_SEC_HI_SEC_HI c.sec [x]

/-- TIO_MODE_WRITE: a write of TNS_TIO_CFG_n ends what its mode was doing and begins the new mode; `hw` are the bits that hardware sets in the same update slot (R7, R107). -/
def execTioModeWrite (pin : Fin 8) (value hw : Word) (s : State) : Out :=
  let n := pin.val
  let old := s.rd Reg.TNS_TIO_CFG_MODE [n]
  let s := s.setReg Reg.TNS_TIO_CFG (wordWrite Reg.TNS_TIO_CFG (s.reg Reg.TNS_TIO_CFG [n]) value.toNat hw.toNat false) [n]
  let s := s.onTime (fun t => { t with tioArmed := t.tioArmed.filter (fun x => decide (x ≠ n)) })
  let s := if s.rd Reg.TNS_TIO_CFG_MODE [n] = old ∨ (s.time.tioPulse.look n).isNone then s
    else s.onTime (fun t => { t with tioPulse := t.tioPulse.filter (fun e => decide (e.1 ≠ n)), tioLevel := t.tioLevel.put n false })
  .next (if s.rd Reg.TNS_TIO_CFG_MODE [n] ≠ 4 then s
    else if s.tioDue n < clock4 s.time.d then s.wr Reg.TNS_TIO_CFG_LATE 1 [n]
    else s.onTime (fun t => { t with tioArmed := t.tioArmed ++ [n] }))

/-- TIO_PULSE_DUE: the edge of an armed pulse appears, at its due time, once D has reached it (R102, R107, R110). -/
def execTioPulseDue (pin : Fin 8) (s : State) : Out :=
  let n := pin.val
  if !(n ∈ s.time.tioArmed) ∨ clock4 s.time.d < s.tioDue n then .next s
  else
    let w := max 1 (s.rd Reg.TNS_TIO_CFG_WIDTH [n])
    .next (s.onTime (fun t => { t with
      tioArmed := t.tioArmed.filter (fun x => decide (x ≠ n)), tioLevel := t.tioLevel.put n true, tioOut := t.tioOut.put n (s.tioDue n), tioPulse := t.tioPulse.put n (s.runNs + w * 1000) }))

/-- TIO_EDGE: an edge at a time pin, `sub` in 250 ps after D; a capture mode stamps it, and it may trigger acquisition units and urgent sequences (R107, R271, R300). -/
def execTioEdge (pin : Fin 8) (rising : Bool) (sub : Fin 8) (s : State) : Out :=
  let n := pin.val
  let m := s.rd Reg.TNS_TIO_CFG_MODE [n]
  let s := s.onTime (fun t => { t with tioLevel := t.tioLevel.put n rising })
  let s := if m = 3 ∨ (m = 1 ∧ rising) ∨ (m = 2 ∧ !rising) then
      let s := if s.flag Reg.TNS_TIO_CFG_VALID [n] then s.wr Reg.TNS_TIO_CFG_OVF 1 [n] else s
      let s := (s.wr Reg.TNS_TIO_NS_NS s.time.d.ns [n]).wr Reg.TNS_TIO_SEC_SEC s.time.d.sec [n]
      (s.wr Reg.TNS_TIO_CFG_SUB sub.val [n]).wr Reg.TNS_TIO_CFG_VALID 1 [n]
    else s
  .next ((s.acqPin n rising sub.val).urgPin n rising)

/-- PTP_EVENT_RX: a received event message is stamped, in the port's domain when it carries that domain's number; a Sync restarts the domain's timeout (R103, R315). -/
def execPtpEventRx (port : Fin 6) (domainNumber : Fin 256) (isSync : Bool) (s : State) : Out :=
  let p := port.val
  let k := s.ptpClock p domainNumber.val
  let s := s.onTime (fun t => { t with ptpStamp := t.ptpStamp.put p (k.1, stamp64 (latencyMove k.2 (-(s.rd Reg.ETH_LAT_RX_NS [p] : Int)))) })
  let s := if k.1 ≠ 0 ∧ isSync then s.onDom (k.1 - 1) (fun d => { d with lastSync := some s.runNs }) else s
  .next s.showSources

/-- PTP_SYNC_TIMEOUT: without a Sync within TMO × 100 ms a domain is not OK (R96). -/
def execPtpSyncTimeout (_dom : Fin 2) (s : State) : Out := .next s.showSources

/-- TIME_STEP: a step of D at mark N_t, or at N + 8 for 0 (R99, R346, R397). -/
def execTimeStep (ref : CmdRef) (args : List Nat) (s : State) : Out :=
  let nt := if arg64 args 0 = 0 then s.time.n + 8 else arg64 args 0
  .next (s.commandLong ref 0x0A01 [(decide (nt < s.time.n + 8), .invalid, 0), (s.flag Reg.TNS_STATUS_HOLDOVER, .invalid, 0)]
    [(s.forcedLink, .denied, 6), (s.time.stepPend.isSome, .busy, 0)]
    (fun ref s => (s.onTime (fun t => { t with stepPend := some { mark := nt, ref := some ref } })).wr Reg.TNS_STATUS_STEP_PEND 1))

/-- The 16 bytes of a clock in an answer: SEC in 8 bytes, NS, FRAC (log entry 2). -/
def clockBytes (c : Clock) : List Byte := leBytes 8 c.sec ++ leBytes 4 c.ns ++ leBytes 4 c.frac

/-- TIME_READ: D, A, B, run time, capture stamp and N of one tick (R111, log entry 2). -/
def execTimeRead (ref : CmdRef) (_args : List Nat) (s : State) : Out :=
  .next (s.command ref 0x0A02 [noRoom ref 72] [] (fun ref s =>
    let t := s.time
    s.complete ref .ok 0 0 (clockBytes t.d ++ clockBytes t.a.clk ++ clockBytes t.b.clk ++ leBytes 8 t.run ++ leBytes 4 (stamp32 t.d) ++ leBytes 4 0 ++ leBytes 8 t.n)))

/-- SOURCE_SELECT: writes DSEL (R111). -/
def execSourceSelect (ref : CmdRef) (args : List Nat) (s : State) : Out :=
  .next (s.command ref 0x0A03 [(decide (2 < argN args 0), .invalid, 0)] [] (fun ref s => (s.hostDsel (argN args 0)).complete ref .ok))

end Sys2Proof.Machine
end

