-- ==== Sys2Proof/Machine/Frames.lean ====
section
/-! DEFINITION. A received Ethernet frame: the start-up filter, PRP duplicate discard, and the handler it reaches (R105, R315 to R318, R321, R476). -/

namespace Sys2Proof.Machine

/-- The type of an ICMPv6 message. -/
def icmp6Of (t : Nat) (p : List Byte) : Option Nat := if t = 0x86DD ∧ fieldLE p 6 1 = 58 then some (fieldLE p 40 1) else none

/-- What the start-up filter lets through (R316). -/
def filterPass (t : Nat) (p : List Byte) : Bool :=
  (ptpOf t p).isSome || decide (t = 0x0806) || decide (t = 0x88CC) ||
  (match icmp6Of t p with | some k => decide (133 ≤ k) && decide (k ≤ 137) | none => false)

/-- The sequence number of a redundancy control trailer (R317). -/
def prpSeqOf (b : List Byte) : Option Nat :=
  if 6 ≤ b.length ∧ fieldBE b (b.length - 2) 2 = 0x88FB then some (fieldBE b (b.length - 6) 2) else none

/-- A frame already received on the other port of its PRP node; entries are forgotten after 400 ms (R317). -/
def State.prpDup (s : State) (port : Nat) (b : List Byte) : State × Bool :=
  if !prpPair s.sec.platform (port / 2) then (s, false)
  else match prpSeqOf b with
    | none => (s, false)
    | some q =>
      let k := port / 2
      let mac := fieldBE b 6 6
      let l := s.field.prpSeen.filter (fun e => decide (s.runNs < e.2.2.2 + 400000000))
      if l.any (fun e => decide (e.1 = k) && decide (e.2.1 = mac) && decide (e.2.2.1 = q)) then ((s.onField (fun f => { f with prpSeen := l })).count 0x319, true)
      else (s.onField (fun f => { f with prpSeen := (k, mac, q, s.runNs) :: l }), false)

/-- A station frame reaches the station engine by its TYPE (R321). -/
def stationRx (port : Fin 6) (x : List Byte) (s : State) : Out :=
  match fieldLE x 3 1 with
  | 3 => execAdmitReq port x s
  | 5 => execLeave port x s
  | _ => if bitOf (fieldLE x 7 1) 0 then execStationFastInput port x s else execStationInputFrame port x s

/-- A frame that no other handler takes has no further effect. -/
def frameRx (port : Fin 6) (t : Nat) (p : List Byte) (s : State) : Out :=
  let np := netPort s.sec.platform port.val
  match ptpOf t p with
  | some m =>
    if fieldLE m 0 1 % 16 < 4 then execPtpEventRx port (Fin.ofNat 256 (fieldLE m 4 1)) (decide (fieldLE m 0 1 % 16 = 0)) s else .next s
  | none =>
    match udp4Of t p with
    | some (src, dst, _, d, x) =>
      let sta := match s.staSec with | some y => y.udp | none => 47830
      if portPrefix s.sec.platform np = 0 ∨ dst ≠ portIp s.sec.platform np then .next s
      else if d = sta then stationRx port x s
      else if d = s.ringUdp then .next (s.ringDgram (fieldLE x 3 1) port.val (BitVec.ofNat 32 src) d x)
      else .next s
    | none =>
      if t = 0x0806 then
        match fieldBE p 6 2 with
        | 1 => execArpRequest port (BitVec.ofNat 32 (fieldBE p 24 4)) s
        | 2 => .next (s.arpReply np (fieldBE p 14 4) (fieldLE p 8 6))
        | _ => .next s
      else if icmp6Of t p = some 135 then execNeighborSolicitation port (slice p 48 16) s
      else .next s

/-- ETH_FRAME_RX: a frame without its FCS; one addressed to another station is not for the device (R316 to R318). -/
def execEthFrameRx (port : Fin 6) (frame : List Byte) (s : State) : Out :=
  let e := etherOf frame
  let own := bitOf (fieldLE frame 0 1) 0 || decide (slice frame 0 6 = portMac s.sec.platform (netPort s.sec.platform port.val))
  if !own then .next s
  else if !s.field.filterEnded && !filterPass e.1 e.2 then .next (s.filterDrop port.val)
  else if (ptpOf e.1 e.2).isSome then frameRx port e.1 e.2 s
  else
    let d := s.prpDup port.val frame
    if d.2 then .next d.1 else frameRx port e.1 e.2 d.1

end Sys2Proof.Machine
end

