-- ==== Sys2Proof/Machine/Marks.lean ====
section
/-! DEFINITION. Cycle framing: a cell's work and seal, the base mark with its overruns, SAFE cells and changes of mode, and the fast mark (R29 to R32, R73 to R77, R161, R370, R561 to R572). -/

namespace Sys2Proof.Machine

/-! The work of a cycle and its seal (R31, R370, R562). -/

/-- The role work of a home cell in one cycle (R133, R167, R198, R213). -/
def State.runHome (s : State) (h : Nat) : State :=
  let r := s.roleAt h
  if r = roleLoop then (s.runLoops h).runPgs h
  else if r = roleSeq then s.runSeq h
  else if r = roleLogic then s.runLogic h
  else s

/-- A cell is in RUN or HOLD (R77). -/
def State.cellRuns (s : State) (c : Nat) : Bool := decide (s.rd Reg.CEL_STATUS_STATE [c] ∈ [1, 2])

/-- What a cell holds beside its registers. -/
def State.cell (s : State) (c : Nat) : CellState := s.fab.cells.at' c {}

/-- The points that a cell's seal governs: those it holds, but role-owned ones at the cell that executes the role (R76, R370, R516). -/
def State.governed (s : State) (c : Nat) : List Nat :=
  match s.img.run with
  | some i => (i.points.filter (fun e => decide (s.governor e.1 e.2 = c))).map (·.1)
  | none => []

/-- A cell seals its points for the cycle in progress (R119, R121, R370). -/
def State.sealCell (s : State) (c : Nat) : State :=
  forL (s.governed c) (fun idx s => s.sealPoint idx s.time.n (markStamp s.time.n)) s

/-- CELL_SEAL: a cell completes its role work and seals its half of the cut; `steps` from the mark to the completion, after what happened at the arbiters (R31, R72, R88, R370, R446, R562). -/
def execCellSeal (cell : Fin 64) (steps : Nat) (traffic : List FabEvent) (s : State) : Out :=
  let c := cell.val
  let s := s.traffic traffic
  match s.img.run with
  | none => .next s
  | some i =>
    if s.fab.frozen ∨ (s.cell c).sealed then .next s
    else
      let s := s.onFab (fun f => { f with cells := f.cells.upd c {} (fun x => { x with sealed := true, releasing := false }) })
      let s := s.asCell (fun s =>
        let s := if s.roleWork && s.cellRuns c then forL (s.workHomes i c) (fun h s => s.runHome h) s else s
        if s.cellSafe c then s else s.sealCell c)
      .next ((s.wr Reg.CEL_STEP_USED_LAST (min steps 1048575) [c]).peak Reg.CEL_STEP_PEAK_PEAK (min steps 1048575) [c])

/-! Overruns and SAFE cells (R73, R76, R214). -/

/-- A table with the keys of a kind as in another. -/
def mixTab {α : Type} (cur old : Tab α) (p : Nat → Bool) : Tab α :=
  let kept : Tab α := cur.filter (fun e => !p e.1)
  (old.filter (fun e => p e.1)).foldl (fun (t : Tab α) e => t.put e.1 e.2) kept

/-- A generator of RATE 1 as the last cut holds it; the request latched at the cycle's mark waits again (R73, R171). -/
def undonePg (cur old : PgState) : PgState :=
  let took := cur.took.toList
  let cmd := took.filter (fun q => q.ref.isSome || q.verb.isSome)
  { old with
    arrived := cmd ++ cur.arrived, latched := none, took := none
    tgtReq := match took.find? (fun q => q.ref.isNone && q.verb.isNone) with | some q => some q.target | none => none }

/-- The role work of a cell in the cycle that ends is undone: role state but that of axes and their generators, the points its roles own, the completions decided, the moves requested and the ends of moves taken; commands applied at the cycle's start wait again; `ovr` when the cycle overran (R73, R74, R147, R195, R214, R222). -/
def State.undoCell (s : State) (c : Nat) (ovr : Bool) : State :=
  let hs := (List.range 64).filter (fun h => decide (s.execOf h = c))
  let own (h : Nat) : Bool := decide (h ∈ hs)
  let axisPts := (hs.map s.axisPoints).flatten
  let pts := (s.governed c).filter (fun k => (match s.pdef k with | some d => d.byCell | none => false) && !decide (k ∈ axisPts))
  let s : State := { s with
    loops := mixTab s.loops s.cut.loops (fun k => own (k / 256)), seqs := mixTab s.seqs s.cut.seqs own, logics := mixTab s.logics s.cut.logics own
    pgs := s.pgs.map (fun e =>
      let g : PgState := { e.2 with arrived := e.2.arrived.filter (fun q => match q.verb with | some v => !own v.1 | none => true) }
      match s.pgDef (e.1 / 8) (e.1 % 8) with
      | some d => if own (e.1 / 8) ∧ d.rate = 1 then (e.1, undonePg g (s.cut.pgs.at' e.1 (coldPg d))) else (e.1, g)
      | none => (e.1, g)) }
  let s := forL pts (fun k s => s.onWork k (fun w => undoneWork w (s.cut.work.at' k { own := match s.pdef k with | some d => d.init | none => 0 }))) s
  let s := s.onFab (fun f => { f with
    done := f.done.filter (fun e => !own e.1), reports := f.reports.filter (fun e => !own e.1)
    moveDone := f.moveTaken.filter (fun e => own e.1.1) ++ f.moveDone, moveTaken := f.moveTaken.filter (fun e => !own e.1.1)
    baseMoved := f.baseMoved.filter (fun e => !own e.1)
    latched := f.applied.filter (fun l => own l.home) ++ f.latched, applied := f.applied.filter (fun l => !own l.home) })
  if !ovr then s else
  forL hs (fun h s => match s.logicSec h with
    | some x => forL x.tasks (fun d s => s.onLogic h (fun q => q.onTask x d.task (fun t => { t with cellOvr := true }))) s
    | none => s) s

/-- The cell's half of the cut repeats the cut before (R73). -/
def State.repeatCell (s : State) (c : Nat) : State :=
  let g := s.governed c
  s.onPts (fun p => { p with next := p.next.filter (fun e => !decide (e.1 ∈ g)) })

/-- A point of a SAFE cell: an output takes its safe value, any other keeps the owner's value of the last cut sealed in time, which is its VALUE unless a force ends now (R76, R119). -/
def State.sealSafePoint (s : State) (idx n t : Nat) : State :=
  let prev := s.pts.cut.at' idx {}
  let e := s.evalPoint idx n
  let e : PointEntry := if e.quality = .stale then { e with value := prev.shadow } else e
  let e : PointEntry := { e with shadow := prev.shadow, update := prev.update }
  let e : PointEntry := if s.replayed idx then s.pair.mirror.at' idx {} else { e with time := sealTime (s.imports idx) prev e false t }
  s.onPts (fun p => { p with next := p.next.put idx e })

/-- A SAFE cell's half of cut n (R76). -/
def State.sealSafe (s : State) (c n t : Nat) : State := forL (s.governed c) (fun idx s => s.sealSafePoint idx n t) s

/-- A base overrun of cycle k: counted, shown, logged; the cell took the whole cycle (R73, R88). -/
def State.countOverrun (s : State) (c k : Nat) : State :=
  let b := s.rd Reg.CEL_BUDGET_B [c]
  (((s.countLog c).wr Reg.CEL_OVR_LAST_CYCLE (k % 2 ^ 32) [c]).wr Reg.CEL_STEP_USED_LAST b [c]).peak Reg.CEL_STEP_PEAK_PEAK b [c]

/-- What the cycle's role work of a cell decided stands: completions, and the reports to the historian (R73, R147, R254). -/
def State.standCell (s : State) (c : Nat) : State :=
  let own (h : Nat) : Bool := decide (s.execOf h = c)
  let done := s.fab.done.filter (fun e => own e.1)
  let rep := s.fab.reports.filter (fun e => own e.1)
  let s := forL done (fun e s => s.post e.2) s
  let s : State := if s.hist.on then { s with hist := { s.hist with ptMarks := s.hist.ptMarks ++ rep.map (fun e => (e.2, 2)) } } else s
  s.onFab (fun f => { f with
    done := f.done.filter (fun e => !own e.1), reports := f.reports.filter (fun e => !own e.1), applied := f.applied.filter (fun l => !own l.home)
    moveDone := f.moveDone ++ (f.baseMoved.filter (fun e => own e.1)).map (·.2), baseMoved := f.baseMoved.filter (fun e => !own e.1)
    moveTaken := f.moveTaken.filter (fun e => !own e.1.1) })

/-- A cell at the base mark that ends cycle k; a failed lane on its routes goes before an overrun (R73, R76, R77, R86; log entry 13). -/
def State.endCell (s : State) (k : Nat) (c : Nat) : State :=
  let st := s.rd Reg.CEL_STATUS_STATE [c]
  let x := s.cell c
  let ok := x.sealed && !x.abandoned
  let s := if ok then s else s.closeClause c
  let miss (s : State) : State := if ok then s else s.countOverrun c k
  let past (s : State) : State := (s.repeatCell c).countOverrun c k
  if st = 3 then
    if x.firstSafe then miss (((s.undoCell c (!ok)).repeatCell c).sealSafe c k (markStamp (k + 1)))
    else if ok then (s.sealSafe c k (markStamp k)).standCell c |>.wr Reg.CEL_STATUS_OVR_RUN 0 [c]
    else past s
  else if st = 0 then
    if ok then s.standCell c else if (s.governed c).isEmpty then s else past s
  else if s.laneFault c then
    let s := s.tearOf (fun o => decide (o = .cell c))
    miss ((((s.undoCell c (!ok)).repeatCell c).enterSafe c 3).sealSafe c k (markStamp (k + 1)))
  else if ok then
    let s := (s.standCell c).wr Reg.CEL_STATUS_OVR_RUN 0 [c]
    if st = 2 ∧ s.rd Reg.CEL_STATUS_FOVR_RUN [c] = 0 then s.wr Reg.CEL_STATUS_STATE 1 [c] else s
  else
    let n := s.rd Reg.CEL_STATUS_OVR_RUN [c] + 1
    let s := (past (s.undoCell c true)).wr Reg.CEL_STATUS_OVR_RUN n [c]
    if 3 ≤ n then (s.enterSafe c 1).sealSafe c k (markStamp (k + 1)) else s.wrCause Reg.CEL_STATUS_STATE 2 2 [c]

/-- Cut k is sealed: what every cell contributes (R370). -/
def State.sealCut (s : State) (k : Nat) : State :=
  let okNow (c : Nat) : Bool := (s.cell c).sealed && !(s.cell c).abandoned && s.cellRuns c && !s.laneFault c
  let good := (List.range 64).filter okNow
  let s := forL (List.range 64) (fun c s => s.endCell k c) s
  let s := s.stationSeal k (fun c => decide (c ∈ good))
  s.onPts (fun p => { p with cut := p.next.foldl (fun (t : Tab PointEntry) e => t.put e.1 e.2) p.cut, next := [], cutN := k, bad := [] }) |>.sealRoles

/-! Changes of mode at the mark (R561, R563 to R566). -/

/-- A change of EFFECTIVE (R229, R232, R563, R565); `restart`: an image took effect at this mark (R571). -/
def State.keyStage (s : State) (restart : Bool) : State :=
  let old := s.rd Reg.GLB_KEY_EFFECTIVE
  let s := s.keyMark
  let new := s.rd Reg.GLB_KEY_EFFECTIVE
  let s := if new = old then s else s.noteCmd (.key new)
  let s := if s.keyStopped ∧ (new ≠ old ∨ restart) ∧ s.pairSt ≠ 4 then s.stopAxes else s
  s.gateKey.spliceKey

/-- One latched command on role state (R561). -/
def State.markCmd (s : State) (l : Latched) (overtaken : Bool) : State :=
  match l.op with
  | 0x0302 => s.markLoopSwap l
  | 0x0303 => s.markLoopAble l false
  | 0x0304 => s.markLoopAble l true
  | 0x0306 => s.markTraceTrigger l
  | 0x0309 => s.markLoopMode l
  | 0x0314 => s.markAxisAble l true
  | 0x0315 => s.markAxisAble l false
  | 0x0318 => s.markPgLimits l
  | op => if op / 256 = 4 then s.markFlow l else s.markLogic l overtaken

/-- A disable or enable of a task that a later one of the same cycle overtakes (R233). -/
def taskOvertaken (l : Latched) (later : List Latched) : Bool :=
  decide (l.op ∈ [0x0502, 0x0503]) && later.any (fun x => decide (x.op ∈ [0x0502, 0x0503]) && decide (x.home = l.home) && decide (x.obj = l.obj))

/-- A latched command may be applied: its cell is not SAFE, or enters SAFE at this mark; a loop's enable and disable are recorded in a SAFE cell (R77, R151, R152, R561). -/
def State.cmdApplies (s : State) (l : Latched) : Bool :=
  let c := s.execOf l.home
  !s.cellSafe c || (s.cell c).firstSafe || decide (l.op ∈ [0x0303, 0x0304])

/-- A command that a base overrun makes wait again: all but those a SAFE cell has answered (R73). -/
def State.cmdUndone (s : State) (l : Latched) : Bool := !s.cellSafe (s.execOf l.home)

/-- The commands latched for this mark, in arrival order (R470, R561). -/
def State.applyLatched (s : State) : State :=
  let l := s.fab.latched
  let go := l.filter s.cmdApplies
  let s := s.onFab (fun f => { f with latched := l.filter (fun x => !s.cmdApplies x), applied := f.applied ++ go.filter s.cmdUndone })
  forL ((List.range go.length).zip go) (fun e s => (s.noteCmd (.role e.2.op e.2.home e.2.obj e.2.args)).markCmd e.2 (taskOvertaken e.2 (go.drop (e.1 + 1)))) s

/-- Host writes, forces and constants of this mark, as the manifest carries them (R124, R125, R362, R388). -/
def State.applyPointCmds (s : State) : State :=
  let s := forL s.pts.hostWrites (fun w s => s.noteCmd (.write w.idx w.value)) s
  let s := forL s.pts.forceReqs (fun r s => s.noteCmd (.force r.idx r.value)) s
  s.applyHostWrites.applyForces.constMark.finishJobs

/-- The homes with role work executed by cells that run. -/
def State.runningHomes (s : State) : List Nat :=
  match s.img.run with
  | some i => ((List.range 64).filter s.cellRuns).map (fun c => s.workHomes i c) |>.flatten
  | none => []

/-- A SAFE cell resumes from its frozen state (R77, R144, R182, R206). -/
def State.releaseCell (s : State) (i : Img) (c : Nat) : State :=
  let s := (((s.wr Reg.CEL_STATUS_STATE 1 [c]).wr Reg.CEL_CTL_RELEASE 0 [c]).wr Reg.CEL_STATUS_OVR_RUN 0 [c]).wr Reg.CEL_STATUS_FOVR_RUN 0 [c]
  let s := s.onFab (fun f => { f with cells := f.cells.upd c {} (fun x => { x with frozen := false, firstSafe := false, releasing := true }) })
  forL (s.workHomes i c) (fun h s =>
    let s : State := { s with loops := s.loops.map (fun e => if e.1 / 256 = h then (e.1, { e.2 with resume := true }) else e) }
    let s := forL (s.axesOf h) (fun e s => s.axisResume h e.1 e.2 false) s
    if s.roleAt h = roleSeq then (s.onSeq h (fun q => { q with restart := true })).seqMarkFirst h
    else if s.roleAt h = roleLogic then s.logicMarkFirst h
    else s) s

/-- Releases at this mark; the commands recorded for the released cells apply, and their generators and flows go on as at any mark (R77, R205, R233). -/
def State.releaseCells (s : State) : State :=
  match s.img.run with
  | none => s
  | some i =>
    if s.rd Reg.GLB_CERT_STATUS_STATE ≠ 1 then s
    else
      let go := (List.range 64).filter (fun c => s.cellSafe c && s.flag Reg.CEL_CTL_RELEASE [c] && !(s.cell c).firstSafe && !s.laneFault c)
      if go.isEmpty then s
      else
        let s := (forL go (fun c s => s.releaseCell i c) s).applyLatched
        forL go (fun c s => forL (s.workHomes i c) (fun h s => (forL (s.pgsOf h) (fun e s => s.pgMark h e.1) s).seqMarkLast h) s) s

/-- The roles at a base mark: what precedes the commands, the commands in arrival order, what follows them, and releases (R198, R232, R561); a unit whose pair state refuses commands answers those still latched. -/
def State.roleMark (s : State) : State :=
  if s.roleWork then
    s.asCell (fun s =>
      let hs := s.runningHomes
      let s := forL hs (fun h s => (s.seqMarkFirst h).logicMarkFirst h) s
      let s := s.applyLatched.applyPointCmds
      let s := forL hs (fun h s => (forL (s.pgsOf h) (fun e s => s.pgMark h e.1) s).seqMarkLast h) s
      s.releaseCells)
  else if s.pairStandby ∧ !s.fab.frozen ∧ s.img.run.isSome then
    let l := s.fab.latched
    let s := forL (l.filter (fun x => !decide (x.op ∈ [0x0306, 0x0309]))) (fun x s => s.complete x.ref .denied 3) (s.onFab (fun f => { f with latched := [], applied := [] }))
    s.applyPointCmds
  else s

/-- GLB_MODE (R572). -/
def State.showModes (s : State) : State :=
  let st := s.rd Reg.LNK_STATE_STATE
  let held := s.seqs.any (fun e => e.2.flows.any (fun f => f.2.keyHeld)) || s.axes.any (fun e => e.2.keyHeld && decide (e.2.st = .run))
  let w := setBits 0 31 29 s.lc
  let w := setBits w 28 26 s.pairSt
  let w := setBits w 25 24 (s.rd Reg.GLB_KEY_EFFECTIVE)
  let w := setBits w 23 22 (s.rd Reg.SAF_STATE_STATE)
  let w := setBits w 21 20 (s.rd Reg.GLB_ROLE_ROLE)
  let w := setBits w 19 19 (s.rd Reg.GLB_IMG_STATUS_COMPAT)
  let w := setBits w 18 18 (s.rd Reg.GLB_IMG_STATUS_WARM)
  let w := setBits w 17 17 (b2n (decide (st = 2 ∨ st = 5)))
  let w := setBits w 16 16 (b2n held)
  s.setReg Reg.GLB_MODE (setBits w 15 15 (b2n (decide (s.pairSt = 4))))

/-- The join mark: D steps by Δ of LINK, and the worker is JOINED (R357). -/
def State.joinMark (s : State) : State :=
  if s.joinDue then ((s.stepD s.joinQ).joinFinish) else s

/-- Peaks and conflict counters whose clearing was asked for (R88, R446). -/
def State.clearStats (s : State) : State :=
  let s := forL s.fab.peakClr (fun c s => (s.wr Reg.CEL_STEP_PEAK_PEAK 0 [c]).wr Reg.CEL_WAIT_PEAK_WAIT 0 [c]) s
  let s := if s.fab.confClr then s.clearConflicts else s
  s.onFab (fun f => { f with peakClr := [], confClr := false })

/-- The cells start the cycle (R31). -/
def State.startCells (s : State) : State :=
  let s := if s.img.run.isSome then forL (List.range 64) (fun c s => s.wrb Reg.CEL_STATUS_LANE_FAIL (s.laneFault c) [c]) s else s
  s.onFab (fun f => { f with cells := f.cells.map (fun e => (e.1, { e.2 with sealed := false, abandoned := false, firstSafe := false, waits := 0 })) })

/-- What the shared blocks take in and give out at the mark (R31, R298, R302, R307, R315, R327, R334, R341, R359, R428). -/
def State.blockMark (s : State) : State :=
  let s := s.identMark.convLatch.importMark.safMark.stationMark.portsMark
  let s := if s.fab.frozen then s else s.canMark.exportMark
  s.baseOutputs.linkMark

/-- The historian and the acquisition units take the cut sealed at this mark; `skip` and `drop` name the cells of R262, `full` the units whose queue is full (R242, R256, R262, R267). -/
def State.readCut (s : State) (k : Nat) (skip drop full : List Nat) : State :=
  let s := match s.spliceNow, s.img.run with | some p, some old => s.histDiscards old p.img | _, _ => s
  let pts := match s.img.run with | some i => i.points | none => []
  let s := (s.histMark s.time.n).historianCut pts k skip drop
  s.acqMark.acqPoints k full

/-- The waits of the cycle that ends in the peaks, whether its seal was complete or not (R88). -/
def State.waitPeaks (s : State) : State :=
  forL s.fab.cells (fun e s => s.peak Reg.CEL_WAIT_PEAK_WAIT (min e.2.waits 1048575) [e.1]) s

/-! The end of a fast sub-cycle (R75 to R77). -/

/-- A cell with axes at the end of a sub-cycle: in time, what it gives out stands; late, its axes revert and it goes to HOLD or SAFE (R75, R76, R77). -/
def State.endFast (s : State) (i : Img) (late : List Nat) (c : Nat) : State :=
  let hs := (s.workHomes i c).filter (fun h => !(s.axesOf h).isEmpty)
  if hs.isEmpty ∨ !s.roleWork then s
  else if c ∈ late ∧ s.cellRuns c then
    let n := s.rd Reg.CEL_STATUS_FOVR_RUN [c] + 1
    let s := ((forL hs (fun h s => s.fastRevert h) s).count (0x040 + c)).wr Reg.CEL_STATUS_FOVR_RUN n [c]
    if 3 ≤ n then s.enterSafe c 2 else s.wrCause Reg.CEL_STATUS_STATE 2 2 [c]
  else
    let s := forL hs (fun h s => s.fastStand h) s
    if s.cellRuns c then s.wr Reg.CEL_STATUS_FOVR_RUN 0 [c] else s

/-- The sub-cycle that ends at a fast mark is settled, with the cells whose axis work is late (R75, R76). -/
def State.settleFast (s : State) (late : List Nat) : State :=
  match s.img.run with
  | some i => forL (List.range 64) (fun c s => s.endFast i late c) s
  | none => s

/-- A cut is sealed at a base mark: an image runs, the device is not frozen, and a standby has not just adopted a cut (R375, R392). -/
def State.sealsNow (s : State) : Bool :=
  s.img.run.isSome && !s.fab.frozen && !(decide (s.pairSt = 3) && (match s.pair.align with | some a => a.adopted | none => false))

/-- A base mark: sub-cycle 7 is settled, the cut of the cycle that ends is sealed and read, outputs take it, the changes of mode apply in the order of R561, and the next cycle starts (R29 to R31, R73 to R77, R100, R242, R370, R375, R561 to R572). -/
def State.baseMark (s : State) (tt late skip drop full : List Nat) : State :=
  let k := s.cycleN
  let old := s.pts.cut
  let s := (s.settleFast late).waitPeaks
  let s := s.nextN.onTime (fun t => { t with sub := 0 })
  let runs : Tab Nat := s.pair.markRuns.filter (fun e => decide (s.time.n < e.1 + 64))
  let s := s.onPair (fun p => { p with markRuns := runs.put s.time.n s.runNs })
  let s := (if s.sealsNow then (s.sealCut k).readCut k skip drop full else s).histCount.acqTick
  let s := if s.pair.freezeDue then s.freezeNow else s.ckptMark
  let s := s.clearStats.stepMark
  let restart := s.img.due.isSome
  let s := s.secMark.imageMark.migrationMark.swapMark
  let s := (s.pairMark old).standbySplice.migrationMark
  let s := s.joinMark.tableMark.sourceMark
  let s := s.keyStage restart
  let s := s.applyPolicySets.blockMark.roleMark
  let s := (s.measMark tt).voltMark
  s.startCells.showModes

/-- BASE_MARK, after what happened at the arbiters: `tt` are the counts of the 256 tell-tales in the cycle that ends (R69), `late` the cells whose axis work of sub-cycle 7 is late (R75), `skip` and `drop` the cells of R262, `full` the units of R283. -/
def execBaseMark (traffic : List FabEvent) (tt late skip drop full : List Nat) (s : State) : Out :=
  .next (if s.time.locked then (s.traffic traffic).baseMark tt late skip drop full else s)

/-! The fast mark (R75, R76, R161, R162). -/

/-- FAST_MARK: the sub-cycle that ends is settled, with the cells whose axis work is late, unless the base mark of the same instant has done so; fast outputs and inputs move, and every axis executes (R29, R75, R161, R162, R164, R165). -/
def execFastMark (late : List Nat) (s : State) : Out :=
  match s.img.run with
  | none => .next s
  | some _ =>
    if !s.time.locked then .next s
    else
      let j := clockNs s.time.d % 125000 / 15625
      let s := if j = 0 then s else s.settleFast late
      let s := if j = 0 then s.stationFast s.pts.cutN 7 else s.stationFast s.cycleN (j - 1)
      let s := s.onTime (fun t => { t with sub := j })
      let s := (s.deliverFb.fastOutputs.encFastFirst.fastFeedback j).fastSave
      let s := if s.roleWork then s.asCell (fun s => forL (s.runningHomes.filter (fun h => decide (s.roleAt h = roleLoop))) (fun h s => s.runAxes h) s) else s
      .next s.encFastLast

end Sys2Proof.Machine
end

