-- ==== Sys2Proof/Machine/Bus.lean ====
section
/-! DEFINITION. BAR0: the word that each register reads as, and host writes by address (R2 to R9, R573 to R578). -/

namespace Sys2Proof.Machine

/-! What registers read as (R5, R578). -/

/-- The first and last byte of the unassigned range (R573, R574). -/
def unassigned (a : Nat) : Bool := decide (0x1700000 ≤ a) && decide (a ≤ 0x1EFFFFF)

/-- The home cell whose role registers the window of cell c shows: its own work, or the work that executes at it (R516). -/
def State.windowHome (s : State) (c : Nat) : Nat :=
  if s.roleAt c ≠ 0 then c
  else match (List.range 64).find? (fun h => decide (h ≠ c) && decide (s.roleAt h ≠ 0) && decide (s.execOf h = c)) with
    | some h => h
    | none => c

/-- A point whose station awaits its resync cut (R238). -/
def State.awaitsResync (s : State) (idx : Nat) : Bool :=
  match s.pdef idx with
  | some d => decide (d.ownerKind = 2) && d.output && decide ((s.sta (staOf d).1).st = .resync)
  | none => false

/-- A role register of home cell h, as the word it reads; none for a register of another kind (R159, R185, R210, R240). -/
def State.roleWord (s : State) (d : RegDesc) (h i : Nat) : Option Nat :=
  let role := s.roleAt h
  let only (r v : Nat) : Option Nat := some (if role = r then v else 0)
  if d.base = Reg.CEL_LOOP_SUM.base then only roleLoop (s.viewLoopSum h (s.axesOf h).length)
  else if d.base = Reg.CEL_TRACE_SUM.base then only roleLoop (s.viewTraceSum h)
  else if d.base = Reg.CEL_LOOP_STAT.base then only roleLoop (s.viewLoopStat h i)
  else if d.base = Reg.CEL_LOOP_MANHOLD.base then only roleLoop (s.viewLoopBits h i (·.manHold))
  else if d.base = Reg.CEL_LOOP_TRACK.base then only roleLoop (s.viewLoopBits h i (·.track))
  else if d.base = Reg.CEL_AXIS_STAT.base then only roleLoop (s.viewAxis h i)
  else if d.base = Reg.CEL_PG_STAT.base then only roleLoop (s.viewPg h i)
  else if d.base = Reg.CEL_SEQ_SUM.base then only roleSeq (s.viewSeqSum h)
  else if d.base = Reg.CEL_SEQ_RES.base then only roleSeq (s.viewSeqRes h)
  else if d.base = Reg.CEL_SEQ_TMR.base then only roleSeq (s.timers h)
  else if d.base = Reg.CEL_SEQ_DISP.base then only roleSeq (s.viewSeqDisp h)
  else if d.base = Reg.CEL_SEQ_LATE.base then only roleSeq (s.rd Reg.CEL_SEQ_LATE_COUNT [h])
  else if d.base = Reg.CEL_FLOW_STAT.base then only roleSeq (s.viewFlow h i)
  else if d.base = Reg.CEL_LOGIC_SUM.base then only roleLogic (s.viewLogicSum h (fun k => s.awaitsResync k))
  else if d.base = Reg.CEL_LOGIC_CODE.base then only roleLogic (s.viewLogicCode h)
  else if d.base = Reg.CEL_TASK_STAT.base then only roleLogic (s.viewTask h i)
  else none

/-- A register that shows state kept elsewhere, as the word it reads; none where the register file holds it. -/
def State.shownWord (s : State) (d : RegDesc) (i j : Nat) : Option Nat :=
  if d.base = Reg.TNS_NS.base then some s.time.d.ns
  else if d.base = Reg.TNS_X_NS.base then some (s.dom i).clk.ns
  else if d.base = Reg.CTR_LO.base then some (valLo (s.ctr.tab.at' i {}).value)
  else if d.base = Reg.CTR_HI.base then some (valHi (s.ctr.latch.at' i {}).value (s.ctr.latch.at' i {}).wrap)
  else if d.base = Reg.CTR_SNAP_LO.base then some (valLo (s.ctr.snap.at' i {}).value)
  else if d.base = Reg.CTR_SNAP_HI.base then some (valHi (s.ctr.snap.at' i {}).value (s.ctr.snap.at' i {}).wrap)
  else if d.base = Reg.ADC_RES.base then some (s.viewRes i j)
  else if d.base = Reg.ADC_URES.base then some (s.viewUres i j)
  else if d.base = Reg.ENC_COUNT.base then some (s.viewEncCount i)
  else if d.base = Reg.ETH_PORT_CFG.base then some (s.viewPortCfg i)
  else if d.base = Reg.RNG_VEC_STAMP_LO.base then some (s.host.stamps.at' i 0 % 2 ^ 32)
  else if d.base = Reg.RNG_VEC_STAMP_HI.base then some (s.host.stampLatch.at' i 0 / 2 ^ 32)
  else if d.base = Reg.GLB_PAIR_EXER.base then some (setBits (s.reg Reg.GLB_PAIR_EXER) Reg.GLB_PAIR_EXER_DUE_S.hi Reg.GLB_PAIR_EXER_DUE_S.lo s.viewExer)
  else if d.base = Reg.SEC_PROP.base then some (s.secShow.reg Reg.SEC_PROP)
  else if d.base = Reg.SEC_DBG.base then some (s.secShow.reg Reg.SEC_DBG)
  else s.roleWord d (s.windowHome i) j

/-- The word that a BAR0 read of an aligned word returns; what the read changes is the read's own command (R3, R5, R472, R574, R576). -/
def State.readWord (s : State) (a : Nat) : Nat :=
  if unassigned a then 0
  else if 0x2C0000 ≤ a ∧ a < 0x2C0000 + 144 * 16 then (s.msixWord ((a - 0x2C0000) / 4)).toNat
  else if 0x2D0000 ≤ a ∧ a < 0x2D0000 + 20 then
    ((List.range 32).map (fun b => if (8 * (a - 0x2D0000) + b) ∈ s.host.pba then 2 ^ b else 0)).sum
  else match regAt a with
    | none => 0
    | some (d, ix) =>
      match s.shownWord d (ix.headD 0) (ix.getD 1 0) with
      | some v => v
      | none => s.reg d ix &&& (0xFFFFFFFF ^^^ woMask d)

/-! Host writes (R2 to R9). -/

/-- A write access that leaves a field of a code unchanged although it carries another value for it (R8, R9). -/
def carriesChange (d : RegDesc) (old v : Nat) (acc : Access) : Bool :=
  d.fields.any (fun f => decide (f.acc = acc) && decide (bitsOf v f.hi f.lo ≠ bitsOf old f.hi f.lo))

/-- Every field of a register written by its own access code; refused RWA and RWK fields are counted once each way (R5, R6, R8, R9). -/
def State.writeFields (s : State) (d : RegDesc) (ix : List Nat) (v hw : Nat) : State :=
  let old := s.reg d ix
  let s := if carriesChange d old v .rwa then s.count 0x202 else s
  let s := if carriesChange d old v .rwk && !s.keyOk then s.count 0x203 else s
  s.setReg d (wordWrite d old v hw s.keyOk) ix

/-- A device cause arises when bits of a register under a mask changed (R473). -/
def State.causeIfChanged (s : State) (old new mask i : Nat) : State := if old &&& mask = new &&& mask then s else s.cause i

/-- CEL_CTL is written: RELEASE is requested by a 1, and a 0 never clears it; PEAK_CLR clears the peaks (R9, R77, R88). -/
def State.celCtlWrite (s : State) (c v : Nat) : State :=
  let s := if bitOf v 0 then s.releaseWrite c
    else if s.flag Reg.CEL_CTL_RELEASE [c] && !s.keyOk then s.count 0x203 else s
  if bitOf v 1 then s.peakClrWrite c else s

/-- A word of the MSI-X table is written; of a vector's control only the mask bit is kept, and clearing it sends what is pending (R472, R480). -/
def State.msixWrite (s : State) (i v : Nat) : State :=
  if i % 4 ≠ 3 then s.onHost (fun h => { h with msix := h.msix.store (0 : Word) i (BitVec.ofNat 32 v) })
  else if bitOf v 0 then s.onHost (fun h => { h with msix := h.msix.store (1 : Word) i 1 })
  else s.unmask (i / 4)

/-- RNG_DEV_CAUSE is written: the bits written as 1 clear, and a cause that arises in the same slot sets and sends again (R7, R473). -/
def State.causeWrite (s : State) (v hw : Nat) : State :=
  let c := s.rd Reg.RNG_DEV_CAUSE_CAUSE
  let s := s.wr Reg.RNG_DEV_CAUSE_CAUSE (c - (c &&& v))
  forN 16 (fun i (s : State) => if bitOf hw i then s.cause i else s) s

/-- The state that an outcome leaves; a stop leaves the state as it was. -/
def outState (s : State) (o : Out) : State :=
  match o with
  | .next t => t
  | _ => s

/-- A register with a behaviour of its own is written: the behaviour's operation; none for a register without one. -/
def State.ownWrite (s : State) (d : RegDesc) (i j v hw : Nat) : Option State :=
  let w := BitVec.ofNat 32 v
  if d.base = Reg.CEL_CTL.base then some (s.celCtlWrite i v)
  else if d.base = Reg.TNS_CTL.base then some (outState s (execDselWrite w s))
  else if d.base = Reg.TNS_X_INCR_HI.base then some ((s.writePlain d v [i]).onDom i (fun e => { e with commit := true }))
  else if d.base = Reg.TNS_X_CTL.base then
    let s := s.writePlain d v [i]
    some ((if bitOf v 0 then s.onDom i (fun e => { e with step := true }) else s).showSources)
  else if d.base = Reg.TNS_TIO_CFG.base then some (if h : i < 8 then outState s (execTioModeWrite ⟨i, h⟩ w (BitVec.ofNat 32 hw) s) else s)
  else if d.base = Reg.ADC_URG_CTL.base then
    let s := s.writeFields d [i] v hw
    some (if bitOf v 31 then s.urgTrigger i else s)
  else if d.base = Reg.HST_CTL.base then some (if bitOf v 0 then outState s (execHstCutWrite s) else s)
  else if d.base = Reg.CTR_SNAP_CTL.base then
    let s := s.writeFields d [] v hw
    some (if bitOf v 0 then s.freezeOrDrop else s)
  else if d.base = Reg.CTR_PRE_CTL.base then some (outState s (execPresetGoWrite w (bitOf hw 31) s))
  else if d.base = Reg.CTR_BW_CFG.base then
    let s := s.writeFields d [i] v hw
    some (if bitOf v 29 then s.bwPeakClr i else s)
  else if d.base = Reg.MEM_CONF_CLR.base then some (if bitOf v 0 then outState s (execConfClrWrite s) else s)
  else if d.base = Reg.RNG_CTL.base then
    let s := if carriesChange d (s.reg d [i]) v .rwa then s.count 0x202 else s
    some (s.ringEnable i (bitOf v 0))
  else if d.base = Reg.RNG_CMD_TAIL.base then some (s.tailWrite i (v % 65536))
  else if d.base = Reg.RNG_CPL_HEAD.base then some (s.cheadWrite i (v % 65536))
  else if d.base = Reg.RNG_DEV_CAUSE.base then some (s.causeWrite v hw)
  else if d.base = Reg.ETH_PORT_CFG.base then some (s.onField (fun f => { f with ptpPend := f.ptpPend.put i (bitsOf v 25 24) }))
  else if d.base = Reg.GLB_KEY.base then
    let old := s.reg d []
    let s := s.writeFields d [] v hw
    some (s.causeIfChanged old (s.reg d []) 0x80 11)
  else if d.base = Reg.TNS_STATUS.base then
    let old := s.reg d []
    let s := s.writeFields d [] v hw
    some (s.causeIfChanged old (s.reg d []) 0x60000 8)
  else if d.base = Reg.CEL_LOOP_STAT.base then some (s.clearLoopStat (s.windowHome i) j v hw)
  else if d.base = Reg.CEL_AXIS_STAT.base then some (s.clearAxisStat (s.windowHome i) j v hw)
  else if d.base = Reg.CEL_PG_STAT.base then some (s.clearPgStat (s.windowHome i) j v hw)
  else if d.base = Reg.CEL_FLOW_STAT.base then some (s.clearFlowStat (s.windowHome i) j v hw)
  else if d.base = Reg.CEL_TASK_STAT.base then some (s.clearTaskStat (s.windowHome i) j v hw)
  else none

/-- A 32-bit host write at an aligned BAR0 offset below the DBG block, with the bits that hardware sets in the same update slot (R3, R5 to R9, R472, R574). -/
def State.writeWord (s : State) (a v hw : Nat) : State :=
  if unassigned a then s.count 0x200
  else if 0x2C0000 ≤ a ∧ a < 0x2C0000 + 144 * 16 then s.msixWrite ((a - 0x2C0000) / 4) v
  else match regAt a with
    | none => s
    | some (d, ix) =>
      match s.ownWrite d (ix.headD 0) (ix.getD 1 0) v hw with
      | some t => t
      | none => s.writeFields d ix v hw

/-- A write narrower than 32 bits is discarded and counted, with the count of its range (R2, R504, R574). -/
def State.narrowWrite (s : State) (a : Nat) : State :=
  let s := s.count 0x201
  if unassigned a then s.count 0x200
  else if 0x1F00000 ≤ a ∧ !s.flag Reg.SEC_DBG_OPEN then s.count 0x1F6
  else s

/-- A write of bytes at a BAR0 offset as successive 32-bit accesses in ascending order; a word that the bytes cover in part is a narrow write (R2, R575). -/
def State.writeBytes (s : State) (a : Nat) (b : List Byte) (hw : List Nat) : State :=
  if b.isEmpty then s
  else forN ((a + b.length - 1) / 4 + 1 - a / 4) (fun k (s : State) =>
    let w := 4 * (a / 4 + k)
    if w < a ∨ a + b.length < w + 4 then s.narrowWrite w
    else
      let v := leNat (slice b (w - a) 4)
      if 0x1F00000 ≤ w then s.dbgBlock w true 4 (BitVec.ofNat 32 v)
      else s.writeWord w v (hw.getD k 0)) s

/-- REGISTER_WRITE: a host write of bytes at a BAR0 offset; `hw`, word by word, are the bits that hardware sets in the same update slot (R2 to R9, R574, R575). -/
def execRegisterWrite (addr : BitVec 25) (bytes : List Byte) (hw : List Word) (s : State) : Out :=
  .next (s.writeBytes addr.toNat bytes (hw.map (·.toNat)))

/-! Host reads (R2, R574 to R576). -/

/-- What a read of a register changes (R576). -/
def State.readEffect (s : State) (a : Nat) : State :=
  match regAt a with
  | none => s
  | some (d, ix) =>
    let i := ix.headD 0
    if d.base = Reg.TNS_NS.base then s.captureTense
    else if d.base = Reg.TNS_X_NS.base then s.captureDomain i
    else if d.base = Reg.TNS_TIO_SEC.base then s.wr Reg.TNS_TIO_CFG_VALID 0 [i]
    else if d.base = Reg.ADC_RES.base then s.captureRes i (ix.getD 1 0)
    else if d.base = Reg.ENC_INDEX.base then s.wr Reg.ENC_STAT_INDEX_VALID 0 [i]
    else if d.base = Reg.CTR_LO.base then s.latchCounter i
    else if d.base = Reg.RNG_VEC_STAMP_LO.base then s.latchStamp i
    else s

/-- A read of `len` bytes at a BAR0 offset as successive accesses of at most 32 bits in ascending order; each returns the bytes of its register that it addresses, with every effect of a read of the register (R2, R574, R575). -/
def State.readBytes (s : State) (a len : Nat) : State :=
  if len = 0 then s
  else forN ((a + len - 1) / 4 + 1 - a / 4) (fun k (s : State) =>
    let w := 4 * (a / 4 + k)
    let at_ := max a w
    let n := min (a + len) (w + 4) - at_
    if 0x1F00000 ≤ w then s.dbgBlock at_ false n 0
    else ((if unassigned w then s.count 0x200 else s).returnedAt at_ n (s.readWord w)).readEffect w) s

/-- A host read of `len` bytes from byte `off` of a register with a read effect: the register's value, its effect, then the registers that follow (R2, R575, R576). -/
def State.readAt (s : State) (addr : Nat) (off : Fin 4) (len v : Nat) (effect : State → State) : State :=
  let n := min len (4 - off.val)
  let s := effect (s.readBegin.returnedAt off.val n v)
  s.readBytes (addr + 4) (len - n)

/-- TNS_NS_READ: a read of TNS_NS captures the snapshot (R92). -/
def execTnsNsRead (off : Fin 4) (len : Nat) (s : State) : Out :=
  .next (s.readAt (regAddr Reg.TNS_NS []) off len s.time.d.ns (fun s => s.captureTense))

/-- TNS_DOMAIN_NS_READ: a read of TNS_x_NS captures the domain (R92). -/
def execTnsDomainNsRead (dom : Fin 2) (off : Fin 4) (len : Nat) (s : State) : Out :=
  .next (s.readAt (regAddr Reg.TNS_X_NS [dom.val]) off len (s.dom dom.val).clk.ns (fun s => s.captureDomain dom.val))

/-- TIO_SEC_READ: the seconds are returned and VALID clears (R107). -/
def execTioSecRead (pin : Fin 8) (off : Fin 4) (len : Nat) (s : State) : Out :=
  .next (s.readAt (regAddr Reg.TNS_TIO_SEC [pin.val]) off len (s.rd Reg.TNS_TIO_SEC_SEC [pin.val]) (fun s => s.wr Reg.TNS_TIO_CFG_VALID 0 [pin.val]))

/-- ADC_RES_READ: a result is returned with its flags captured (R297). -/
def execAdcResRead (conv : Fin 16) (entry : Fin 32) (off : Fin 4) (len : Nat) (s : State) : Out :=
  .next (s.readAt (regAddr Reg.ADC_RES [conv.val, entry.val]) off len (s.viewRes conv.val entry.val) (fun s => s.captureRes conv.val entry.val))

/-- ENC_INDEX_READ: the index count is returned and INDEX_VALID clears (R304). -/
def execEncIndexRead (ch : Fin 32) (off : Fin 4) (len : Nat) (s : State) : Out :=
  .next (s.readAt (regAddr Reg.ENC_INDEX [ch.val]) off len (s.rd Reg.ENC_INDEX_INDEX [ch.val]) (fun s => s.wr Reg.ENC_STAT_INDEX_VALID 0 [ch.val]))

/-- CTR_LO_READ: the low half is returned, the counter latched and its sticky wrap cleared (R448). -/
def execCtrLoRead (n : Fin 1024) (off : Fin 4) (len : Nat) (s : State) : Out :=
  .next (s.readAt (regAddr Reg.CTR_LO [n.val]) off len (valLo (s.ctr.tab.at' n.val {}).value) (fun s => s.latchCounter n.val))

/-- VEC_STAMP_READ: the low half is returned and both halves are latched (R474). -/
def execVecStampRead (vec : Fin 144) (off : Fin 4) (len : Nat) (s : State) : Out :=
  .next (s.readAt (regAddr Reg.RNG_VEC_STAMP_LO [vec.val]) off len (s.host.stamps.at' vec.val 0 % 2 ^ 32) (fun s => s.latchStamp vec.val))

/-- UNASSIGNED_ACCESS: an access of `len` bytes that begins in the unassigned range: each 32-bit access of it there is counted, a narrow write under 0x201 as well, and a read returns 0 (R2, R574, R575). -/
def execUnassignedAccess (addr : BitVec 25) (write : Bool) (len : Nat) (s : State) : Out :=
  let a := addr.toNat
  let t := forN (if len = 0 then 0 else (a + len - 1) / 4 + 1 - a / 4) (fun k (s : State) =>
    let w := 4 * (a / 4 + k)
    if !unassigned w then s
    else
      let s := s.count 0x200
      if write && (decide (w < a) || decide (a + len < w + 4)) then s.count 0x201 else s) s
  .next (if write then t else s.readBegin.readBytes a len)

end Sys2Proof.Machine
end

