-- ==== Sys2Proof/Machine/Dispatch.lean ====
section
/-! DEFINITION. One arm a command: each is one direct call of the command's meaning. -/

namespace Sys2Proof.Machine

/-- The effect of a command on everything but the queue. -/
def exec (i : Instr) (s : State) : Host.Outcome State Fault Refusal :=
  match i with
  | .imageWriteSlot ref args => Sys2Proof.Machine.execImageWriteSlot ref args s
  | .imageLoad ref args => Sys2Proof.Machine.execImageLoad ref args s
  | .imageCheck ref args => Sys2Proof.Machine.execImageCheck ref args s
  | .splicePrepare ref args => Sys2Proof.Machine.execSplicePrepare ref args s
  | .spliceCommit ref args => Sys2Proof.Machine.execSpliceCommit ref args s
  | .spliceCancel ref args => Sys2Proof.Machine.execSpliceCancel ref args s
  | .reportRead ref args => Sys2Proof.Machine.execReportRead ref args s
  | .certRead ref args => Sys2Proof.Machine.execCertRead ref args s
  | .setActiveSlot ref args => Sys2Proof.Machine.execSetActiveSlot ref args s
  | .timeStep ref args => Sys2Proof.Machine.execTimeStep ref args s
  | .timeRead ref args => Sys2Proof.Machine.execTimeRead ref args s
  | .sourceSelect ref args => Sys2Proof.Machine.execSourceSelect ref args s
  | .pointRead ref args => Sys2Proof.Machine.execPointRead ref args s
  | .pointWrite ref args => Sys2Proof.Machine.execPointWrite ref args s
  | .pointForce ref args => Sys2Proof.Machine.execPointForce ref args s
  | .pointUnforce ref args => Sys2Proof.Machine.execPointUnforce ref args s
  | .forceList ref args => Sys2Proof.Machine.execForceList ref args s
  | .defineRead ref args => Sys2Proof.Machine.execDefineRead ref args s
  | .loopRead ref args => Sys2Proof.Machine.execLoopRead ref args s
  | .loopSetCoef ref args => Sys2Proof.Machine.execLoopSetCoef ref args s
  | .loopDisable ref args => Sys2Proof.Machine.execLoopDisable ref args s
  | .loopEnable ref args => Sys2Proof.Machine.execLoopEnable ref args s
  | .traceArm ref args => Sys2Proof.Machine.execTraceArm ref args s
  | .traceTrigger ref args => Sys2Proof.Machine.execTraceTrigger ref args s
  | .traceRead ref args => Sys2Proof.Machine.execTraceRead ref args s
  | .tableRead ref args => Sys2Proof.Machine.execTableRead ref args s
  | .loopSetMode ref args => Sys2Proof.Machine.execLoopSetMode ref args s
  | .axisRead ref args => Sys2Proof.Machine.execAxisRead ref args s
  | .pgMove ref args => Sys2Proof.Machine.execPgMove ref args s
  | .axisStop ref args => Sys2Proof.Machine.execAxisStop ref args s
  | .axisSetMode ref args => Sys2Proof.Machine.execAxisSetMode ref args s
  | .axisEnable ref args => Sys2Proof.Machine.execAxisEnable ref args s
  | .axisDisable ref args => Sys2Proof.Machine.execAxisDisable ref args s
  | .axisReset ref args => Sys2Proof.Machine.execAxisReset ref args s
  | .axisSetPos ref args => Sys2Proof.Machine.execAxisSetPos ref args s
  | .pgSetLimits ref args => Sys2Proof.Machine.execPgSetLimits ref args s
  | .flowStart ref args => Sys2Proof.Machine.execFlowStart ref args s
  | .flowHold ref args => Sys2Proof.Machine.execFlowHold ref args s
  | .flowResume ref args => Sys2Proof.Machine.execFlowResume ref args s
  | .flowAbort ref args => Sys2Proof.Machine.execFlowAbort ref args s
  | .flowDisable ref args => Sys2Proof.Machine.execFlowDisable ref args s
  | .flowEnable ref args => Sys2Proof.Machine.execFlowEnable ref args s
  | .flowRead ref args => Sys2Proof.Machine.execFlowRead ref args s
  | .taskRead ref args => Sys2Proof.Machine.execTaskRead ref args s
  | .taskDisable ref args => Sys2Proof.Machine.execTaskDisable ref args s
  | .taskEnable ref args => Sys2Proof.Machine.execTaskEnable ref args s
  | .memRead ref args => Sys2Proof.Machine.execMemRead ref args s
  | .memWrite ref args => Sys2Proof.Machine.execMemWrite ref args s
  | .objSet ref args => Sys2Proof.Machine.execObjSet ref args s
  | .segDrain ref args => Sys2Proof.Machine.execSegDrain ref args s
  | .segRelease ref args => Sys2Proof.Machine.execSegRelease ref args s
  | .segCut ref args => Sys2Proof.Machine.execSegCut ref args s
  | .groupRead ref args => Sys2Proof.Machine.execGroupRead ref args s
  | .policyRead ref args => Sys2Proof.Machine.execPolicyRead ref args s
  | .policySet ref args => Sys2Proof.Machine.execPolicySet ref args s
  | .segList ref args => Sys2Proof.Machine.execSegList ref args s
  | .acqArm ref args => Sys2Proof.Machine.execAcqArm ref args s
  | .acqStop ref args => Sys2Proof.Machine.execAcqStop ref args s
  | .acqFire ref args => Sys2Proof.Machine.execAcqFire ref args s
  | .acqSelect ref args => Sys2Proof.Machine.execAcqSelect ref args s
  | .acqConfig ref args => Sys2Proof.Machine.execAcqConfig ref args s
  | .acqAlign ref args => Sys2Proof.Machine.execAcqAlign ref args s
  | .acqRead ref args => Sys2Proof.Machine.execAcqRead ref args s
  | .acqRelease ref args => Sys2Proof.Machine.execAcqRelease ref args s
  | .acqList ref args => Sys2Proof.Machine.execAcqList ref args s
  | .adcRead ref args => Sys2Proof.Machine.execAdcRead ref args s
  | .adcUrgent ref args => Sys2Proof.Machine.execAdcUrgent ref args s
  | .adcCal ref args => Sys2Proof.Machine.execAdcCal ref args s
  | .encRead ref args => Sys2Proof.Machine.execEncRead ref args s
  | .encSetCount ref args => Sys2Proof.Machine.execEncSetCount ref args s
  | .dacRead ref args => Sys2Proof.Machine.execDacRead ref args s
  | .stationRead ref args => Sys2Proof.Machine.execStationRead ref args s
  | .stationDrop ref args => Sys2Proof.Machine.execStationDrop ref args s
  | .identRead ref args mem stretch => Sys2Proof.Machine.execIdentRead ref args mem stretch s
  | .identScan ref args reads => Sys2Proof.Machine.execIdentScan ref args reads s
  | .canRead ref args => Sys2Proof.Machine.execCanRead ref args s
  | .ethRead ref args => Sys2Proof.Machine.execEthRead ref args s
  | .constRead ref args => Sys2Proof.Machine.execConstRead ref args s
  | .routeRead ref args => Sys2Proof.Machine.execRouteRead ref args s
  | .importRead ref args => Sys2Proof.Machine.execImportRead ref args s
  | .constWrite ref args => Sys2Proof.Machine.execConstWrite ref args s
  | .memberDrop ref args => Sys2Proof.Machine.execMemberDrop ref args s
  | .linkRetrain ref args => Sys2Proof.Machine.execLinkRetrain ref args s
  | .ckptWrite ref args => Sys2Proof.Machine.execCkptWrite ref args s
  | .ckptInfo ref args => Sys2Proof.Machine.execCkptInfo ref args s
  | .ckptInvalidate ref args => Sys2Proof.Machine.execCkptInvalidate ref args s
  | .restart ref args => Sys2Proof.Machine.execRestart ref args s
  | .pairRead ref args => Sys2Proof.Machine.execPairRead ref args s
  | .pairHandover ref args => Sys2Proof.Machine.execPairHandover ref args s
  | .pairClear ref args => Sys2Proof.Machine.execPairClear ref args s
  | .safRead ref args => Sys2Proof.Machine.execSafRead ref args s
  | .safCfgRead ref args => Sys2Proof.Machine.execSafCfgRead ref args s
  | .safLogRead ref args => Sys2Proof.Machine.execSafLogRead ref args s
  | .safPropose ref args => Sys2Proof.Machine.execSafPropose ref args s
  | .safApprove ref args => Sys2Proof.Machine.execSafApprove ref args s
  | .safPassword ref args => Sys2Proof.Machine.execSafPassword ref args s
  | .safRestart ref args => Sys2Proof.Machine.execSafRestart ref args s
  | .safCancel ref args => Sys2Proof.Machine.execSafCancel ref args s
  | .ctrRead ref args => Sys2Proof.Machine.execCtrRead ref args s
  | .ctrSnapshot ref args => Sys2Proof.Machine.execCtrSnapshot ref args s
  | .bwRead ref args => Sys2Proof.Machine.execBwRead ref args s
  | .memTest ref args => Sys2Proof.Machine.execMemTest ref args s
  | .secStatus ref args => Sys2Proof.Machine.execSecStatus ref args s
  | .secPropose ref args => Sys2Proof.Machine.execSecPropose ref args s
  | .secApprove ref args => Sys2Proof.Machine.execSecApprove ref args s
  | .secCancel ref args => Sys2Proof.Machine.execSecCancel ref args s
  | .secAttest ref args => Sys2Proof.Machine.execSecAttest ref args s
  | .secIdentity ref args => Sys2Proof.Machine.execSecIdentity ref args s
  | .secProvision ref args => Sys2Proof.Machine.execSecProvision ref args s
  | .secFwWrite ref args => Sys2Proof.Machine.execSecFwWrite ref args s
  | .secDbgClose ref args => Sys2Proof.Machine.execSecDbgClose ref args s
  | .ageRead ref args => Sys2Proof.Machine.execAgeRead ref args s
  | .marginMeasure ref args => Sys2Proof.Machine.execMarginMeasure ref args s
  | .marginProbe ref args => Sys2Proof.Machine.execMarginProbe ref args s
  | .migrateBack ref args => Sys2Proof.Machine.execMigrateBack ref args s
  | .recRead ref args => Sys2Proof.Machine.execRecRead ref args s
  | .recSummary ref args => Sys2Proof.Machine.execRecSummary ref args s
  | .recClear ref args => Sys2Proof.Machine.execRecClear ref args s
  | .recLog ref args => Sys2Proof.Machine.execRecLog ref args s
  | .recCodeSet ref args => Sys2Proof.Machine.execRecCodeSet ref args s
  | .recCodeInfo ref args => Sys2Proof.Machine.execRecCodeInfo ref args s
  | .ttCheck ref args => Sys2Proof.Machine.execTtCheck ref args s
  | .baseMark traffic tt late skip drop full => Sys2Proof.Machine.execBaseMark traffic tt late skip drop full s
  | .fastMark late => Sys2Proof.Machine.execFastMark late s
  | .converterStart full => Sys2Proof.Machine.execConverterStart full s
  | .tioPulseDue pin => Sys2Proof.Machine.execTioPulseDue pin s
  | .launchTimeReached net enq => Sys2Proof.Machine.execLaunchTimeReached net enq s
  | .prpSupervision pair => Sys2Proof.Machine.execPrpSupervision pair s
  | .stationOutputAssembly station => Sys2Proof.Machine.execStationOutputAssembly station s
  | .canReferenceSend bus => Sys2Proof.Machine.execCanReferenceSend bus s
  | .helloSend port => Sys2Proof.Machine.execHelloSend port s
  | .remoteCommandTimeout handle => Sys2Proof.Machine.execRemoteCommandTimeout handle s
  | .completionRecordWrite ring => Sys2Proof.Machine.execCompletionRecordWrite ring s
  | .irqTimeLimit ring => Sys2Proof.Machine.execIrqTimeLimit ring s
  | .datagramResend ring => Sys2Proof.Machine.execDatagramResend ring s
  | .datagramAckTimer ring => Sys2Proof.Machine.execDatagramAckTimer ring s
  | .ptpSyncTimeout dom => Sys2Proof.Machine.execPtpSyncTimeout dom s
  | .registerWrite addr bytes hw => Sys2Proof.Machine.execRegisterWrite addr bytes hw s
  | .unassignedAccess addr write len => Sys2Proof.Machine.execUnassignedAccess addr write len s
  | .bar2Write addr bytes fabric => Sys2Proof.Machine.execBar2Write addr bytes fabric s
  | .celReleaseWrite cell => Sys2Proof.Machine.execCelReleaseWrite cell s
  | .peakClrWrite cell => Sys2Proof.Machine.execPeakClrWrite cell s
  | .incrCommitWrite dom value => Sys2Proof.Machine.execIncrCommitWrite dom value s
  | .domainStepWrite dom value => Sys2Proof.Machine.execDomainStepWrite dom value s
  | .dselWrite value => Sys2Proof.Machine.execDselWrite value s
  | .tnsNsRead off len => Sys2Proof.Machine.execTnsNsRead off len s
  | .tnsDomainNsRead dom off len => Sys2Proof.Machine.execTnsDomainNsRead dom off len s
  | .tioSecRead pin off len => Sys2Proof.Machine.execTioSecRead pin off len s
  | .tioModeWrite pin value hw => Sys2Proof.Machine.execTioModeWrite pin value hw s
  | .adcResRead conv entry off len => Sys2Proof.Machine.execAdcResRead conv entry off len s
  | .encIndexRead ch off len => Sys2Proof.Machine.execEncIndexRead ch off len s
  | .adcUrgGoWrite conv => Sys2Proof.Machine.execAdcUrgGoWrite conv s
  | .ctrLoRead n off len => Sys2Proof.Machine.execCtrLoRead n off len s
  | .presetGoWrite value lost => Sys2Proof.Machine.execPresetGoWrite value lost s
  | .bwPeakClrWrite port => Sys2Proof.Machine.execBwPeakClrWrite port s
  | .tailWrite ring value => Sys2Proof.Machine.execTailWrite ring value s
  | .cheadWrite ring value => Sys2Proof.Machine.execCheadWrite ring value s
  | .ringEnWrite ring en => Sys2Proof.Machine.execRingEnWrite ring en s
  | .vecStampRead vec off len => Sys2Proof.Machine.execVecStampRead vec off len s
  | .debugBlockAccess addr write size value traffic => Sys2Proof.Machine.execDebugBlockAccess addr write size value traffic s
  | .cellSeal cell steps traffic => Sys2Proof.Machine.execCellSeal cell steps traffic s
  | .resetRelease mgr pair plp pmb => Sys2Proof.Machine.execResetRelease mgr pair plp pmb s
  | .ddrTrainingDone ch gib mts => Sys2Proof.Machine.execDdrTrainingDone ch gib mts s
  | .imageParseComplete reads => Sys2Proof.Machine.execImageParseComplete reads s
  | .laneCodewordError lane again => Sys2Proof.Machine.execLaneCodewordError lane again s
  | .laneHandshakeTimeout lane again => Sys2Proof.Machine.execLaneHandshakeTimeout lane again s
  | .clauseLapse a => Sys2Proof.Machine.execClauseLapse a s
  | .refreshEmergency ch => Sys2Proof.Machine.execRefreshEmergency ch s
  | .tioEdge pin rising sub => Sys2Proof.Machine.execTioEdge pin rising sub s
  | .ptpEventRx port domainNumber isSync => Sys2Proof.Machine.execPtpEventRx port domainNumber isSync s
  | .delayListExpiry cell => Sys2Proof.Machine.execDelayListExpiry cell s
  | .stepTimeout cell flow => Sys2Proof.Machine.execStepTimeout cell flow s
  | .vbSeqSet cell flow verb => Sys2Proof.Machine.execVbSeqSet cell flow verb s
  | .vbGet cell flow verb => Sys2Proof.Machine.execVbGet cell flow verb s
  | .vbCalc cell flow verb => Sys2Proof.Machine.execVbCalc cell flow verb s
  | .vbDelay cell flow verb => Sys2Proof.Machine.execVbDelay cell flow verb s
  | .vbWait cell flow verb => Sys2Proof.Machine.execVbWait cell flow verb s
  | .vbBranch cell flow verb => Sys2Proof.Machine.execVbBranch cell flow verb s
  | .vbMerge cell flow verb => Sys2Proof.Machine.execVbMerge cell flow verb s
  | .vbMove cell flow verb => Sys2Proof.Machine.execVbMove cell flow verb s
  | .vbRamp cell flow verb => Sys2Proof.Machine.execVbRamp cell flow verb s
  | .vbFork cell flow verb => Sys2Proof.Machine.execVbFork cell flow verb s
  | .vbMark cell flow verb => Sys2Proof.Machine.execVbMark cell flow verb s
  | .vbNext cell flow verb => Sys2Proof.Machine.execVbNext cell flow verb s
  | .vbSeqEnd cell flow verb => Sys2Proof.Machine.execVbSeqEnd cell flow verb s
  | .lgNop cell w => Sys2Proof.Machine.execLgNop cell w s
  | .lgLd cell w => Sys2Proof.Machine.execLgLd cell w s
  | .lgAnd cell w => Sys2Proof.Machine.execLgAnd cell w s
  | .lgOr cell w => Sys2Proof.Machine.execLgOr cell w s
  | .lgXor cell w => Sys2Proof.Machine.execLgXor cell w s
  | .lgSt cell w => Sys2Proof.Machine.execLgSt cell w s
  | .lgSet cell w => Sys2Proof.Machine.execLgSet cell w s
  | .lgRst cell w => Sys2Proof.Machine.execLgRst cell w s
  | .lgNot cell w => Sys2Proof.Machine.execLgNot cell w s
  | .lgAndp cell w => Sys2Proof.Machine.execLgAndp cell w s
  | .lgOrp cell w => Sys2Proof.Machine.execLgOrp cell w s
  | .lgPop cell w => Sys2Proof.Machine.execLgPop cell w s
  | .lgDup cell w => Sys2Proof.Machine.execLgDup cell w s
  | .lgPeek cell w => Sys2Proof.Machine.execLgPeek cell w s
  | .lgDrop cell w => Sys2Proof.Machine.execLgDrop cell w s
  | .lgEdg cell w => Sys2Proof.Machine.execLgEdg cell w s
  | .lgTmr cell w => Sys2Proof.Machine.execLgTmr cell w s
  | .lgTpt cell w => Sys2Proof.Machine.execLgTpt cell w s
  | .lgCnt cell w => Sys2Proof.Machine.execLgCnt cell w s
  | .lgCrst cell w => Sys2Proof.Machine.execLgCrst cell w s
  | .lgLdw cell w => Sys2Proof.Machine.execLgLdw cell w s
  | .lgStw cell w => Sys2Proof.Machine.execLgStw cell w s
  | .lgAdd cell w => Sys2Proof.Machine.execLgAdd cell w s
  | .lgSub cell w => Sys2Proof.Machine.execLgSub cell w s
  | .lgMul cell w => Sys2Proof.Machine.execLgMul cell w s
  | .lgDiv cell w => Sys2Proof.Machine.execLgDiv cell w s
  | .lgCmp cell w => Sys2Proof.Machine.execLgCmp cell w s
  | .lgCvt cell w => Sys2Proof.Machine.execLgCvt cell w s
  | .lgAndw cell w => Sys2Proof.Machine.execLgAndw cell w s
  | .lgOrw cell w => Sys2Proof.Machine.execLgOrw cell w s
  | .lgXorw cell w => Sys2Proof.Machine.execLgXorw cell w s
  | .lgJmp cell w => Sys2Proof.Machine.execLgJmp cell w s
  | .lgJmpc cell w => Sys2Proof.Machine.execLgJmpc cell w s
  | .lgJmpcn cell w => Sys2Proof.Machine.execLgJmpcn cell w s
  | .lgCall cell w => Sys2Proof.Machine.execLgCall cell w s
  | .lgRet cell w => Sys2Proof.Machine.execLgRet cell w s
  | .lgEnd cell w => Sys2Proof.Machine.execLgEnd cell w s
  | .keySample a b => Sys2Proof.Machine.execKeySample a b s
  | .drainComplete seg => Sys2Proof.Machine.execDrainComplete seg s
  | .drainFail seg => Sys2Proof.Machine.execDrainFail seg s
  | .recordReady unit => Sys2Proof.Machine.execRecordReady unit s
  | .alignFrame port f => Sys2Proof.Machine.execAlignFrame port f s
  | .conversionResult conv lsb full => Sys2Proof.Machine.execConversionResult conv lsb full s
  | .rotationBoundary mean peak => Sys2Proof.Machine.execRotationBoundary mean peak s
  | .fullCalDone good => Sys2Proof.Machine.execFullCalDone good s
  | .dacReadback ch err => Sys2Proof.Machine.execDacReadback ch err s
  | .encEdge ch a b => Sys2Proof.Machine.execEncEdge ch a b s
  | .encIndexEdge ch => Sys2Proof.Machine.execEncIndexEdge ch s
  | .ssiFrameStart ch low => Sys2Proof.Machine.execSsiFrameStart ch low s
  | .ssiFrameEnd ch data par high => Sys2Proof.Machine.execSsiFrameEnd ch data par high s
  | .ethFrameRx port frame => Sys2Proof.Machine.execEthFrameRx port frame s
  | .arpRequest port ip => Sys2Proof.Machine.execArpRequest port ip s
  | .neighborSolicitation port addr => Sys2Proof.Machine.execNeighborSolicitation port addr s
  | .stationInputFrame port data => Sys2Proof.Machine.execStationInputFrame port data s
  | .stationFastInput port data => Sys2Proof.Machine.execStationFastInput port data s
  | .admitReq port data => Sys2Proof.Machine.execAdmitReq port data s
  | .leave port data => Sys2Proof.Machine.execLeave port data s
  | .identReread reads => Sys2Proof.Machine.execIdentReread reads s
  | .canFrameRx bus id data ago lost => Sys2Proof.Machine.execCanFrameRx bus id data ago lost s
  | .canReferenceRx bus prio cycle => Sys2Proof.Machine.execCanReferenceRx bus prio cycle s
  | .canRefTimeout bus => Sys2Proof.Machine.execCanRefTimeout bus s
  | .canWindowStart bus window won => Sys2Proof.Machine.execCanWindowStart bus window won s
  | .canBusError bus dTec dRec => Sys2Proof.Machine.execCanBusError bus dTec dRec s
  | .canBusoffRecovery bus => Sys2Proof.Machine.execCanBusoffRecovery bus s
  | .linkTrainingDone port lanes => Sys2Proof.Machine.execLinkTrainingDone port lanes s
  | .hello port f => Sys2Proof.Machine.execHello port f s
  | .lack port f => Sys2Proof.Machine.execLack port f s
  | .lackTimeout port lseq => Sys2Proof.Machine.execLackTimeout port lseq s
  | .linkSilence port => Sys2Proof.Machine.execLinkSilence port s
  | .laneLoss port lane => Sys2Proof.Machine.execLaneLoss port lane s
  | .beacon port f => Sys2Proof.Machine.execBeacon port f s
  | .linkState port f => Sys2Proof.Machine.execLinkState port f s
  | .joinReq port f => Sys2Proof.Machine.execJoinReq port f s
  | .joinAck port f => Sys2Proof.Machine.execJoinAck port f s
  | .routeTable port f => Sys2Proof.Machine.execRouteTable port f s
  | .subscribe port f => Sys2Proof.Machine.execSubscribe port f s
  | .subAck port f => Sys2Proof.Machine.execSubAck port f s
  | .exportRx port f => Sys2Proof.Machine.execExportRx port f s
  | .pointReq port f => Sys2Proof.Machine.execPointReq port f s
  | .pointRsp port f => Sys2Proof.Machine.execPointRsp port f s
  | .hostFrame port f => Sys2Proof.Machine.execHostFrame port f s
  | .vretFeedLow feed => Sys2Proof.Machine.execVretFeedLow feed s
  | .vretFeedRestored feed => Sys2Proof.Machine.execVretFeedRestored feed s
  | .renew f => Sys2Proof.Machine.execRenew f s
  | .manifest lseq m => Sys2Proof.Machine.execManifest lseq m s
  | .cutCrc f => Sys2Proof.Machine.execCutCrc f s
  | .stateRx lseq n off len cut => Sys2Proof.Machine.execStateRx lseq n off len cut s
  | .handover f => Sys2Proof.Machine.execHandover f s
  | .status f => Sys2Proof.Machine.execStatus f s
  | .safetyStrobe interval => Sys2Proof.Machine.execSafetyStrobe interval s
  | .safetySample a b => Sys2Proof.Machine.execSafetySample a b s
  | .testReadbackCheck out onA onB => Sys2Proof.Machine.execTestReadbackCheck out onA onB s
  | .testPulseEnd out => Sys2Proof.Machine.execTestPulseEnd out s
  | .vsafeFeedFault chanB => Sys2Proof.Machine.execVsafeFeedFault chanB s
  | .mainFaultSignal m => Sys2Proof.Machine.execMainFaultSignal m s
  | .islandStart ramOk agree => Sys2Proof.Machine.execIslandStart ramOk agree s
  | .configDigestCheck ok => Sys2Proof.Machine.execConfigDigestCheck ok s
  | .safConfigWritten agree => Sys2Proof.Machine.execSafConfigWritten agree s
  | .eccUncorrectable mem cell addr r => Sys2Proof.Machine.execEccUncorrectable mem cell addr r s
  | .scrubStep mem cell addr corrected passEnd => Sys2Proof.Machine.execScrubStep mem cell addr corrected passEnd s
  | .marchSegment mem cell bank seg e memEnd passEnd => Sys2Proof.Machine.execMarchSegment mem cell bank seg e memEnd passEnd s
  | .ddrRefresh ch => Sys2Proof.Machine.execDdrRefresh ch s
  | .bwWindowEnd port bytes => Sys2Proof.Machine.execBwWindowEnd port bytes s
  | .commandFetch ring hostBuf => Sys2Proof.Machine.execCommandFetch ring hostBuf s
  | .functionLevelReset traffic => Sys2Proof.Machine.execFunctionLevelReset traffic s
  | .stewardWatchdog traffic => Sys2Proof.Machine.execStewardWatchdog traffic s
  | .cmd port src udp data => Sys2Proof.Machine.execCmd port src udp data s
  | .dataIn port src udp data => Sys2Proof.Machine.execDataIn port src udp data s
  | .ack port src udp data => Sys2Proof.Machine.execAck port src udp data s
  | .resync port src udp data => Sys2Proof.Machine.execResync port src udp data s
  | .maintenanceDatagram data => Sys2Proof.Machine.execMaintenanceDatagram data s
  | .tamperDetect sensor onVbat => Sys2Proof.Machine.execTamperDetect sensor onVbat s
  | .deviceChangeCommit detecting => Sys2Proof.Machine.execDeviceChangeCommit detecting s
  | .regulatorSettleTimeout e => Sys2Proof.Machine.execRegulatorSettleTimeout e s
  | .pmbusSettlePoll vout status e => Sys2Proof.Machine.execPmbusSettlePoll vout status e s
  | .pmbusTelemetryPoll vout iout temp e => Sys2Proof.Machine.execPmbusTelemetryPoll vout iout temp e s
  | .pmbAlert status e => Sys2Proof.Machine.execPmbAlert status e s
  | .pmbusBootRead mode vout e => Sys2Proof.Machine.execPmbusBootRead mode vout e s
  | .retentionSwitch toVbat lost => Sys2Proof.Machine.execRetentionSwitch toVbat lost s
  | .vbatSample low => Sys2Proof.Machine.execVbatSample low s
  | .tjSample tj => Sys2Proof.Machine.execTjSample tj s
  | .perstNAssert traffic => Sys2Proof.Machine.execPerstNAssert traffic s
  | .msixVectorUnmask vec => Sys2Proof.Machine.execMsixVectorUnmask vec s
  | .acqReadComplete unit ok => Sys2Proof.Machine.execAcqReadComplete unit ok s
  | .channelFeedReturn chanB => Sys2Proof.Machine.execChannelFeedReturn chanB s
  | .islandMemoryTest ok => Sys2Proof.Machine.execIslandMemoryTest ok s
  | .ethLinkChange port speed => Sys2Proof.Machine.execEthLinkChange port speed s
  | .hstCutWrite => Sys2Proof.Machine.execHstCutWrite s
  | .snapshotFreezeWrite => Sys2Proof.Machine.execSnapshotFreezeWrite s
  | .snapshotComplete => Sys2Proof.Machine.execSnapshotComplete s
  | .confClrWrite => Sys2Proof.Machine.execConfClrWrite s
  | .secCarry => Sys2Proof.Machine.execSecCarry s
  | .mainPowerOnReset => Sys2Proof.Machine.execMainPowerOnReset s
  | .porstNAssert => Sys2Proof.Machine.execPorstNAssert s
  | .pllLock => Sys2Proof.Machine.execPllLock s
  | .refClockLost => Sys2Proof.Machine.execRefClockLost s
  | .refClockReturn => Sys2Proof.Machine.execRefClockReturn s
  | .firmwareStart => Sys2Proof.Machine.execFirmwareStart s
  | .pcieFunctionReady => Sys2Proof.Machine.execPcieFunctionReady s
  | .spliceTimeout => Sys2Proof.Machine.execSpliceTimeout s
  | .measurementComplete => Sys2Proof.Machine.execMeasurementComplete s
  | .periodicMeasurement => Sys2Proof.Machine.execPeriodicMeasurement s
  | .keyDiscrepancy => Sys2Proof.Machine.execKeyDiscrepancy s
  | .quickCalDone => Sys2Proof.Machine.execQuickCalDone s
  | .vanaLow => Sys2Proof.Machine.execVanaLow s
  | .vanaReturn => Sys2Proof.Machine.execVanaReturn s
  | .startupFilterEnd => Sys2Proof.Machine.execStartupFilterEnd s
  | .arpRefresh => Sys2Proof.Machine.execArpRefresh s
  | .admissionWindow => Sys2Proof.Machine.execAdmissionWindow s
  | .beaconSend => Sys2Proof.Machine.execBeaconSend s
  | .linkLoss => Sys2Proof.Machine.execLinkLoss s
  | .joinReqSend => Sys2Proof.Machine.execJoinReqSend s
  | .joinRetry => Sys2Proof.Machine.execJoinRetry s
  | .fragmentSetTimeout => Sys2Proof.Machine.execFragmentSetTimeout s
  | .backgroundCheckpoint => Sys2Proof.Machine.execBackgroundCheckpoint s
  | .ckptWriteDone => Sys2Proof.Machine.execCkptWriteDone s
  | .flushDone => Sys2Proof.Machine.execFlushDone s
  | .powerReturn => Sys2Proof.Machine.execPowerReturn s
  | .leaseRenew => Sys2Proof.Machine.execLeaseRenew s
  | .leaseInToggle => Sys2Proof.Machine.execLeaseInToggle s
  | .leaseExpiry => Sys2Proof.Machine.execLeaseExpiry s
  | .leaseTake => Sys2Proof.Machine.execLeaseTake s
  | .listenEnd => Sys2Proof.Machine.execListenEnd s
  | .manifestLoss => Sys2Proof.Machine.execManifestLoss s
  | .statusSend => Sys2Proof.Machine.execStatusSend s
  | .handoverExercise => Sys2Proof.Machine.execHandoverExercise s
  | .compareBlockTimeout => Sys2Proof.Machine.execCompareBlockTimeout s
  | .mainHeartbeat => Sys2Proof.Machine.execMainHeartbeat s
  | .heartbeatLoss => Sys2Proof.Machine.execHeartbeatLoss s
  | .safProposalExpiry => Sys2Proof.Machine.execSafProposalExpiry s
  | .passwordLockoutEnd => Sys2Proof.Machine.execPasswordLockoutEnd s
  | .stewardTakeCommand => Sys2Proof.Machine.execStewardTakeCommand s
  | .stewardRestarted => Sys2Proof.Machine.execStewardRestarted s
  | .debugGateTimeout => Sys2Proof.Machine.execDebugGateTimeout s
  | .secProposalExpiry => Sys2Proof.Machine.execSecProposalExpiry s
  | .regulatorSettled => Sys2Proof.Machine.execRegulatorSettled s
  | .lowerHoldExpiry => Sys2Proof.Machine.execLowerHoldExpiry s
  | .marginProbeDue => Sys2Proof.Machine.execMarginProbeDue s
  | .swapInCopyDone => Sys2Proof.Machine.execSwapInCopyDone s
  | .opSecond => Sys2Proof.Machine.execOpSecond s
  | .recorderAppend => Sys2Proof.Machine.execRecorderAppend s
  | .recorderEpoch => Sys2Proof.Machine.execRecorderEpoch s
  | .channelBClockFault => Sys2Proof.Machine.execChannelBClockFault s
  | .companionBridgeError => Sys2Proof.Machine.execCompanionBridgeError s

end Sys2Proof.Machine
end

