-- ==== Sys2Proof/Machine/Handover.lean ====
section
/-! DEFINITION. The row that each opcode of a fetched command names (R469, R479). -/

namespace Sys2Proof.Machine

/-- The row that executes a fetched command; none for the commands whose row carries what an identity bus answers (log entry 1). -/
def instrOf (op : Nat) (ref : CmdRef) (args : List Nat) : Option Instr :=
  match op with
  | 0x0101 => some (.imageWriteSlot ref args)
  | 0x0102 => some (.imageLoad ref args)
  | 0x0103 => some (.imageCheck ref args)
  | 0x0104 => some (.splicePrepare ref args)
  | 0x0105 => some (.spliceCommit ref args)
  | 0x0106 => some (.spliceCancel ref args)
  | 0x0107 => some (.reportRead ref args)
  | 0x0108 => some (.certRead ref args)
  | 0x0109 => some (.setActiveSlot ref args)
  | 0x0A01 => some (.timeStep ref args)
  | 0x0A02 => some (.timeRead ref args)
  | 0x0A03 => some (.sourceSelect ref args)
  | 0x0201 => some (.pointRead ref args)
  | 0x0202 => some (.pointWrite ref args)
  | 0x0203 => some (.pointForce ref args)
  | 0x0204 => some (.pointUnforce ref args)
  | 0x0205 => some (.forceList ref args)
  | 0x0206 => some (.defineRead ref args)
  | 0x0301 => some (.loopRead ref args)
  | 0x0302 => some (.loopSetCoef ref args)
  | 0x0303 => some (.loopDisable ref args)
  | 0x0304 => some (.loopEnable ref args)
  | 0x0305 => some (.traceArm ref args)
  | 0x0306 => some (.traceTrigger ref args)
  | 0x0307 => some (.traceRead ref args)
  | 0x0308 => some (.tableRead ref args)
  | 0x0309 => some (.loopSetMode ref args)
  | 0x0310 => some (.axisRead ref args)
  | 0x0311 => some (.pgMove ref args)
  | 0x0312 => some (.axisStop ref args)
  | 0x0313 => some (.axisSetMode ref args)
  | 0x0314 => some (.axisEnable ref args)
  | 0x0315 => some (.axisDisable ref args)
  | 0x0316 => some (.axisReset ref args)
  | 0x0317 => some (.axisSetPos ref args)
  | 0x0318 => some (.pgSetLimits ref args)
  | 0x0401 => some (.flowStart ref args)
  | 0x0402 => some (.flowHold ref args)
  | 0x0403 => some (.flowResume ref args)
  | 0x0404 => some (.flowAbort ref args)
  | 0x0405 => some (.flowDisable ref args)
  | 0x0406 => some (.flowEnable ref args)
  | 0x0407 => some (.flowRead ref args)
  | 0x0501 => some (.taskRead ref args)
  | 0x0502 => some (.taskDisable ref args)
  | 0x0503 => some (.taskEnable ref args)
  | 0x0504 => some (.memRead ref args)
  | 0x0505 => some (.memWrite ref args)
  | 0x0506 => some (.objSet ref args)
  | 0x0601 => some (.segDrain ref args)
  | 0x0602 => some (.segRelease ref args)
  | 0x0603 => some (.segCut ref args)
  | 0x0604 => some (.groupRead ref args)
  | 0x0605 => some (.policyRead ref args)
  | 0x0606 => some (.policySet ref args)
  | 0x0607 => some (.segList ref args)
  | 0x0701 => some (.acqArm ref args)
  | 0x0702 => some (.acqStop ref args)
  | 0x0703 => some (.acqFire ref args)
  | 0x0704 => some (.acqSelect ref args)
  | 0x0705 => some (.acqConfig ref args)
  | 0x0706 => some (.acqAlign ref args)
  | 0x0707 => some (.acqRead ref args)
  | 0x0708 => some (.acqRelease ref args)
  | 0x0709 => some (.acqList ref args)
  | 0x0801 => some (.adcRead ref args)
  | 0x0802 => some (.adcUrgent ref args)
  | 0x0803 => some (.adcCal ref args)
  | 0x0804 => some (.encRead ref args)
  | 0x0805 => some (.encSetCount ref args)
  | 0x0806 => some (.dacRead ref args)
  | 0x0901 => some (.stationRead ref args)
  | 0x0902 => some (.stationDrop ref args)
  | 0x0905 => some (.canRead ref args)
  | 0x0906 => some (.ethRead ref args)
  | 0x0B01 => some (.constRead ref args)
  | 0x0B02 => some (.routeRead ref args)
  | 0x0B03 => some (.importRead ref args)
  | 0x0B04 => some (.constWrite ref args)
  | 0x0B05 => some (.memberDrop ref args)
  | 0x0B06 => some (.linkRetrain ref args)
  | 0x0C01 => some (.ckptWrite ref args)
  | 0x0C02 => some (.ckptInfo ref args)
  | 0x0C03 => some (.ckptInvalidate ref args)
  | 0x0C04 => some (.restart ref args)
  | 0x0C05 => some (.pairRead ref args)
  | 0x0C06 => some (.pairHandover ref args)
  | 0x0C07 => some (.pairClear ref args)
  | 0x0D01 => some (.safRead ref args)
  | 0x0D02 => some (.safCfgRead ref args)
  | 0x0D03 => some (.safLogRead ref args)
  | 0x0D04 => some (.safPropose ref args)
  | 0x0D05 => some (.safApprove ref args)
  | 0x0D06 => some (.safPassword ref args)
  | 0x0D07 => some (.safRestart ref args)
  | 0x0D08 => some (.safCancel ref args)
  | 0x0F20 => some (.ctrRead ref args)
  | 0x0F21 => some (.ctrSnapshot ref args)
  | 0x0F22 => some (.bwRead ref args)
  | 0x1001 => some (.memTest ref args)
  | 0x0E01 => some (.secStatus ref args)
  | 0x0E02 => some (.secPropose ref args)
  | 0x0E03 => some (.secApprove ref args)
  | 0x0E04 => some (.secCancel ref args)
  | 0x0E05 => some (.secAttest ref args)
  | 0x0E06 => some (.secIdentity ref args)
  | 0x0E07 => some (.secProvision ref args)
  | 0x0E08 => some (.secFwWrite ref args)
  | 0x0E09 => some (.secDbgClose ref args)
  | 0x0F01 => some (.ageRead ref args)
  | 0x0F02 => some (.marginMeasure ref args)
  | 0x0F03 => some (.marginProbe ref args)
  | 0x0F04 => some (.migrateBack ref args)
  | 0x0F10 => some (.recRead ref args)
  | 0x0F11 => some (.recSummary ref args)
  | 0x0F12 => some (.recClear ref args)
  | 0x0F13 => some (.recLog ref args)
  | 0x0F14 => some (.recCodeSet ref args)
  | 0x0F15 => some (.recCodeInfo ref args)
  | 0x1002 => some (.ttCheck ref args)
  | _ => none

end Sys2Proof.Machine
end

