-- ==== Sys2Proof/Machine/Idle.lean ====
section
/-! DEFINITION. What the block does with no command in its queue: it takes the next command from an executor's own queue, makes a reset that is due, or passes one Tense tick and puts the rows that fall due into its queue (log entry 1). -/

namespace Sys2Proof.Machine

/-- The numbers below n that satisfy a test, as elements of Fin n. -/
def finsWith (n : Nat) (p : Nat → Bool) : List (Fin n) := (List.finRange n).filter (fun i => p i.val)

/-- A row when a condition holds. -/
def rowIf (c : Bool) (i : Instr) : List Instr := if c then [i] else []

/-- A multiple of a period lies in the interval from one count to the next. -/
def crossed (p a b : Nat) : Bool := decide (a / p ≠ b / p)

/-- A deadline lies in the interval from one run time to the next. -/
def passed (a b : Nat) (t : Option Nat) : Bool :=
  match t with
  | some t => decide (a < t) && decide (t ≤ b)
  | none => false

/-- The rows of a base mark, in the order in which they act: a measurement of R509 is asked for before the mark; what chapters 13, 14 and 15 do at a mark follows it (R29, R31, R325, R329, R336, R355, R357, R373, R384, R385, R393, R509). -/
def State.markRows (s : State) : List Instr :=
  let index := if s.time.lockMark then 0 else s.time.cycles + 1
  rowIf (decide (index % 80000 = 0)) .periodicMeasurement ++ [.baseMark [] [] [] [] [] []] ++
  rowIf (match s.fab.meas with | some m => decide (m.startN + 8 ≤ s.time.n + 1) | none => false) .measurementComplete ++
  (finsWith 512 (fun k => (s.staDef k).isSome)).map .stationOutputAssembly ++
  rowIf (decide ((s.time.n + 1) % 80 = 0)) .admissionWindow ++
  rowIf s.paired .leaseRenew ++ rowIf (s.paired && !s.flag Reg.GLB_PAIR_LEASE) .leaseTake ++ rowIf (decide (s.pairSt = 4)) .manifestLoss ++
  rowIf (match s.pair.bgDue with | some t => decide (t ≤ s.runNs) | none => false) .backgroundCheckpoint ++
  rowIf s.isManager .beaconSend ++ rowIf s.link.slot .joinReqSend ++
  (finsWith 8 (fun b => (s.canBus b).isSome)).map .canReferenceSend ++
  rowIf (match s.img.splice with | some p => p.commit.isSome | none => false) .spliceTimeout

/-- The rows that the clock D brings due (R29, R90, R107, R108, R296). -/
def State.clockRows (s t : State) : List Instr :=
  let a := clockNs s.time.d
  let b := clockNs t.time.d
  rowIf (decide (s.time.d.sec ≠ t.time.d.sec)) .secCarry ++
  (if crossed 125000 a b then t.markRows else []) ++
  rowIf (crossed 15625 a b) (.fastMark []) ++
  rowIf (crossed 500 a b) (.converterStart []) ++
  ((finsWith 8 (fun n => decide (n ∈ t.time.tioArmed) && decide (t.tioDue n ≤ clock4 t.time.d))).map .tioPulseDue) ++
  ((finsWith 6 (fun p => t.field.launches.any (fun l => decide (l.port = p) && decide (l.at_ ≤ b)))).map (fun p => .launchTimeReached (.eth p) [])) ++
  ((finsWith 8 (fun k => (t.field.can.at' k {}).launches.any (fun f => f.due b))).map (fun k => .launchTimeReached (.can k) []))

/-- The rows that periods of run time bring due (R317, R318, R347, R383, R415, R518, R524, R528). -/
def State.periodRows (s t : State) : List Instr :=
  let on (p : Nat) : Bool := crossed p s.runNs t.runNs
  let sec := t.rd Reg.AGE_HOURS_OP_HOURS * 3600 + t.rd Reg.AGE_OPSEC_OP_SEC + 1
  let e := t.rd Reg.AGE_REC_CFG_EPOCH_MIN
  let epoch := 60 * (if e = 0 then 60 else min e 1440)
  rowIf (on 1000000) .mainHeartbeat ++
  rowIf (on 100000000 && t.paired) .statusSend ++
  (if on 1000000000 then
    [.opSecond] ++ rowIf (decide (sec % epoch = 0)) .recorderEpoch ++ (finsWith 6 (fun p => t.portUp p)).map .helloSend
   else []) ++
  (if on 2000000000 then (finsWith 3 (fun k => prpPair t.sec.platform k)).map .prpSupervision else []) ++
  rowIf (on 60000000000) .arpRefresh ++ rowIf (on 86400000000000) .marginProbeDue

/-- The rows whose deadline, held in the state, passes (R96, R230, R316, R351, R356, R357, R360, R384, R385, R395, R424, R425, R472, R477, R497, R503, R513). -/
def State.deadlineRows (s t : State) : List Instr :=
  let at_ (d : Option Nat) : Bool := passed s.runNs t.runNs d
  let rel : List Nat := (t.host.relays.filter (fun r => r.sent && !r.accepted && at_ (some (r.sentAt + 1000000)))).map (·.ref.handle)
  let job : List Nat := (t.host.jobs.filter (fun j => at_ (some (j.sentAt + 1000000)))).map (·.ref.handle)
  rowIf (t.flag Reg.GLB_PAIR_LEASE && t.paired && at_ (t.pair.renewed.map (· + 50000000))) .leaseExpiry ++
  rowIf (at_ t.pair.listenEnd) .listenEnd ++ rowIf (at_ t.pair.exerAt) .handoverExercise ++
  rowIf (t.key.between && at_ (some (t.key.betweenSince + 200000000))) .keyDiscrepancy ++
  rowIf (at_ (t.link.lastBeacon.map (· + 3000000))) .linkLoss ++
  rowIf (at_ (t.link.asked.map (fun e => e.1 + 2000000)) || at_ t.link.retryAt) .joinRetry ++
  rowIf (t.link.frags.any (fun x => at_ (some (x.first + 1000000))) || t.link.hosts.any (fun x => at_ (some (x.first + 1000000)))) .fragmentSetTimeout ++
  (rel ++ job).map .remoteCommandTimeout ++
  rowIf (at_ t.sec.gateEnd) .debugGateTimeout ++ rowIf (at_ (t.sec.proposal.map (fun p => p.at_ + tenMinutes))) .secProposalExpiry ++
  rowIf (at_ (t.saf.proposal.map (fun p => p.at_ + tenMinutes))) .safProposalExpiry ++ rowIf (at_ t.saf.lockEnd) .passwordLockoutEnd ++
  rowIf (t.flag Reg.AGE_STAT_LOWER_HOLD && at_ (some t.age.holdUntil)) .lowerHoldExpiry ++
  (finsWith 2 (fun x => at_ ((t.dom x).lastSync.map (fun r => r + t.rd Reg.TNS_X_CTL_TMO [x] * 100000000 + 1)))).map .ptpSyncTimeout ++
  (finsWith 128 (fun r => at_ ((t.host.rings.at' r {}).irqFirst.map (fun f => f + 1000 * t.rd Reg.RNG_IRQ_CFG_TIME_US [r])))).map .irqTimeLimit ++
  (finsWith 128 (fun r => (t.host.eth.at' r {}).unacked.any (fun d => at_ (some (d.sentAt + 5000000))))).map .datagramResend ++
  (finsWith 129 (fun r => at_ ((t.host.eth.at' r {}).ackDue.map (· + 1000000)))).map .datagramAckTimer

/-- The rows that wait for no time: a due record with a free slot, a waiting command at a free Steward, a summary at a power of two (R463, R466, R469, R528). -/
def State.readyRows (t : State) : List Instr :=
  let ring (r : Nat) : Bool :=
    let x := t.host.rings.at' r {}
    !x.due.isEmpty && (!x.waitCounted || decide (idxDiff (t.rd Reg.RNG_CPL_TAIL_CTAIL [r]) (t.rd Reg.RNG_CPL_HEAD_CHEAD [r]) < 256))
  (finsWith 129 (fun r => if r = 128 then !t.host.mnt.isEmpty else ring r)).map .completionRecordWrite ++
  rowIf (!t.host.steward.queue.isEmpty && t.host.steward.current.isNone && !t.host.steward.hung && t.flag Reg.RNG_GLB_STAT_STW_OK && t.sec.keysAt.isNone)
    .stewardTakeCommand ++
  rowIf (!t.recd.crossing.isEmpty) .recorderAppend

/-- One Tense tick, 2 ns at the nominal rate, with the rows that it brings due (R18, R90, R93). -/
def State.passTick (s : State) : State :=
  if !s.time.locked ∨ s.power.inReset then s
  else if s.time.lockMark then { s with pending := s.markRows ++ [.fastMark [], .converterStart []] }
  else
    let t := s.tenseTick.linkFlush.wipeTick
    { t with pending := s.clockRows t ++ s.periodRows t ++ s.deadlineRows t ++ t.readyRows }

/-- The Steward's command, handed to its row once; a command whose row carries a bus's answer stays until that row comes. -/
def State.stewardHand (s : State) : Option State :=
  match s.host.steward.current with
  | some f =>
    match instrOf f.ref.op f.ref f.args with
    | some i => some { s with pending := [i], host := { s.host with steward := { s.host.steward with current := none } } }
    | none => none
  | none => none

/-- What the block does with an empty queue: the head of the executors' queue, else the Steward's command, else a reset that is due, else one tick (R469, R377, R402; log entry 1). -/
def State.idle (s : State) : State :=
  match s.host.waiting with
  | f :: rest => { s with pending := (instrOf f.ref.op f.ref f.args).toList, host := { s.host with waiting := rest } }
  | [] =>
    match s.stewardHand with
    | some t => t
    | none =>
      match s.pair.restartDue with
      | some (cause, warm) => s.mainReset cause warm
      | none => s.passTick

end Sys2Proof.Machine
end

