-- ==== Sys2Proof/Safety.lean ====
section
/-! DEFINITION. What counts as a safe step and a safe run. -/

namespace Sys2Proof

/-- The step answers a next state: no fault and no refusal. -/
def SafeStep (s : Machine.State) : Prop := ∃ t, Machine.step s = .next t

/-- Every number of steps from a state answers a next state. -/
def SafeRun (s : Machine.State) : Prop := ∀ n, ∃ t, core.run n s = .next t

end Sys2Proof
end

