-- ==== Sys2Proof/WellFormed.lean ====
section
/-! DEFINITION. Which commands are well formed: operands inside the ranges that the device can meet. Ranges that a type states need no check. -/

namespace Sys2Proof

open Sys2Proof.Machine

/-- A command reference: a ring or the maintenance port, a 32-bit handle and tag, a 64-bit buffer address, a 32-bit buffer length (R464, R465). -/
def wfRef (r : CmdRef) : Bool :=
  decide (r.ring < 128 ∨ r.ring = 255) && decide (r.handle < 2 ^ 32) && decide (r.tag < 2 ^ 32) && decide (r.bufAddr < 2 ^ 64) && decide (r.bufLen < 2 ^ 32)

/-- Argument words of 32 bits (log entry 2). -/
def wfWords (l : List Nat) : Bool := l.all (fun w => decide (w < 2 ^ 32))

/-- Numbers of cells, units or lanes below a bound. -/
def wfBelow (n : Nat) (l : List Nat) : Bool := l.all (fun x => decide (x < n))

/-- A target of a clause: cells 0–63 with banks 0–2, window banks 0–7, channels 0–1 (R79). -/
def wfTarget : Target → Bool
  | .bank c b => decide (c < 64) && decide (b < 3)
  | .window b => decide (b < 8)
  | .ddr ch => decide (ch < 2)
  | .mram => true

/-- An arbiter of the device (R79). -/
def wfArb : Arb → Bool
  | .bank c b => decide (c < 64) && decide (b < 3)
  | .router c o => decide (c < 64) && decide (o < 5)
  | .edge n => decide (n < 32)
  | .window b => decide (b < 8)
  | .ddr ch => decide (ch < 2)
  | .mram => true

/-- What can happen at an arbiter: a request for a target that exists, of local points that exist (R24, R79). -/
def wfEvent : FabEvent → Bool
  | .enter a _ _ t _ _ _ points => wfArb a && wfTarget t && wfBelow 131072 points
  | .phase2 a => wfArb a
  | .periods a _ => wfArb a

/-- A frame with a launch time: a 64-bit stamp, a 32-bit identifier word, at most 1,518 bytes without the FCS (R108, R109, R314). -/
def wfLaunch (d : LaunchDesc) : Bool := wfRef d.ref && decide (d.stamp < 2 ^ 64) && decide (d.id < 2 ^ 32) && decide (d.data.length ≤ 1518)

/-- A link frame's header: one byte for its type, flags and devices, at most 4 hops, a payload of at most 1,024 bytes in multiples of 8 (R348). -/
def wfFrame (f : LinkFrame) : Bool :=
  decide (f.typ < 256) && decide (f.flags < 2) && decide (f.src < 256) && decide (f.dst < 256) && decide (f.hop ≤ 4) && decide (f.pathLen ≤ 4) &&
  decide (f.path < 2 ^ 16) && decide (f.lseq < 2 ^ 16) && decide (f.tag < 2 ^ 32) && decide (f.payload.length ≤ 1024) && decide (f.payload.length % 8 = 0)

/-- An access of at least one byte. -/
def wfAccess (l : List Byte) : Bool := decide (0 < l.length)

/-- An Ethernet frame without its check sequence: header to at most 1,522 bytes (R105). -/
def wfFrameBytes (l : List Byte) : Bool := decide (14 ≤ l.length) && decide (l.length ≤ 1522)

/-- Well-formed commands. -/
def wellFormed : Instr → Bool
  | .registerWrite _ bytes _ => wfAccess bytes
  | .unassignedAccess _ _ len => decide (0 < len)
  | .bar2Write _ bytes _ => wfAccess bytes
  | .celReleaseWrite _ => true
  | .peakClrWrite _ => true
  | .incrCommitWrite _ _ => true
  | .domainStepWrite _ _ => true
  | .dselWrite _ => true
  | .tnsNsRead _ len => decide (0 < len)
  | .tnsDomainNsRead _ _ len => decide (0 < len)
  | .tioSecRead _ _ len => decide (0 < len)
  | .tioModeWrite _ _ _ => true
  | .adcResRead _ _ _ len => decide (0 < len)
  | .encIndexRead _ _ len => decide (0 < len)
  | .adcUrgGoWrite _ => true
  | .hstCutWrite => true
  | .ctrLoRead _ _ len => decide (0 < len)
  | .snapshotFreezeWrite => true
  | .snapshotComplete => true
  | .presetGoWrite _ _ => true
  | .confClrWrite => true
  | .bwPeakClrWrite _ => true
  | .tailWrite _ _ => true
  | .cheadWrite _ _ => true
  | .ringEnWrite _ _ => true
  | .vecStampRead _ _ len => decide (0 < len)
  | .debugBlockAccess _ _ size _ traffic => decide (size ∈ [1, 2, 4, 8]) && traffic.all wfEvent
  | .baseMark traffic tt late skip drop full => traffic.all wfEvent && decide (tt.length = 0 ∨ tt.length = 256) && wfBelow 64 late && wfBelow 64 skip && wfBelow 64 drop && wfBelow 24 full
  | .fastMark late => wfBelow 64 late
  | .converterStart full => wfBelow 24 full
  | .secCarry => true
  | .cellSeal _ _ traffic => traffic.all wfEvent
  | .mainPowerOnReset => true
  | .porstNAssert => true
  | .resetRelease _ _ _ _ => true
  | .pllLock => true
  | .refClockLost => true
  | .refClockReturn => true
  | .firmwareStart => true
  | .ddrTrainingDone _ _ _ => true
  | .pcieFunctionReady => true
  | .imageParseComplete _ => true
  | .imageWriteSlot ref args => wfRef ref && wfWords args
  | .imageLoad ref args => wfRef ref && wfWords args
  | .imageCheck ref args => wfRef ref && wfWords args
  | .splicePrepare ref args => wfRef ref && wfWords args
  | .spliceCommit ref args => wfRef ref && wfWords args
  | .spliceCancel ref args => wfRef ref && wfWords args
  | .reportRead ref args => wfRef ref && wfWords args
  | .certRead ref args => wfRef ref && wfWords args
  | .setActiveSlot ref args => wfRef ref && wfWords args
  | .spliceTimeout => true
  | .measurementComplete => true
  | .periodicMeasurement => true
  | .laneCodewordError _ _ => true
  | .laneHandshakeTimeout _ _ => true
  | .clauseLapse a => wfArb a
  | .refreshEmergency _ => true
  | .timeStep ref args => wfRef ref && wfWords args
  | .timeRead ref args => wfRef ref && wfWords args
  | .sourceSelect ref args => wfRef ref && wfWords args
  | .tioEdge _ _ _ => true
  | .tioPulseDue _ => true
  | .launchTimeReached _ enq => enq.all wfLaunch
  | .ptpEventRx _ _ _ => true
  | .pointRead ref args => wfRef ref && wfWords args
  | .pointWrite ref args => wfRef ref && wfWords args
  | .pointForce ref args => wfRef ref && wfWords args
  | .pointUnforce ref args => wfRef ref && wfWords args
  | .forceList ref args => wfRef ref && wfWords args
  | .defineRead ref args => wfRef ref && wfWords args
  | .loopRead ref args => wfRef ref && wfWords args
  | .loopSetCoef ref args => wfRef ref && wfWords args
  | .loopDisable ref args => wfRef ref && wfWords args
  | .loopEnable ref args => wfRef ref && wfWords args
  | .traceArm ref args => wfRef ref && wfWords args
  | .traceTrigger ref args => wfRef ref && wfWords args
  | .traceRead ref args => wfRef ref && wfWords args
  | .tableRead ref args => wfRef ref && wfWords args
  | .loopSetMode ref args => wfRef ref && wfWords args
  | .axisRead ref args => wfRef ref && wfWords args
  | .pgMove ref args => wfRef ref && wfWords args
  | .axisStop ref args => wfRef ref && wfWords args
  | .axisSetMode ref args => wfRef ref && wfWords args
  | .axisEnable ref args => wfRef ref && wfWords args
  | .axisDisable ref args => wfRef ref && wfWords args
  | .axisReset ref args => wfRef ref && wfWords args
  | .axisSetPos ref args => wfRef ref && wfWords args
  | .pgSetLimits ref args => wfRef ref && wfWords args
  | .delayListExpiry _ => true
  | .stepTimeout _ flow => decide (flow < 2 ^ 10)
  | .vbSeqSet _ flow verb => decide (flow < 2 ^ 10) && decide (verb < 2 ^ 14)
  | .vbGet _ flow verb => decide (flow < 2 ^ 10) && decide (verb < 2 ^ 14)
  | .vbCalc _ flow verb => decide (flow < 2 ^ 10) && decide (verb < 2 ^ 14)
  | .vbDelay _ flow verb => decide (flow < 2 ^ 10) && decide (verb < 2 ^ 14)
  | .vbWait _ flow verb => decide (flow < 2 ^ 10) && decide (verb < 2 ^ 14)
  | .vbBranch _ flow verb => decide (flow < 2 ^ 10) && decide (verb < 2 ^ 14)
  | .vbMerge _ flow verb => decide (flow < 2 ^ 10) && decide (verb < 2 ^ 14)
  | .vbMove _ flow verb => decide (flow < 2 ^ 10) && decide (verb < 2 ^ 14)
  | .vbRamp _ flow verb => decide (flow < 2 ^ 10) && decide (verb < 2 ^ 14)
  | .vbFork _ flow verb => decide (flow < 2 ^ 10) && decide (verb < 2 ^ 14)
  | .vbMark _ flow verb => decide (flow < 2 ^ 10) && decide (verb < 2 ^ 14)
  | .vbNext _ flow verb => decide (flow < 2 ^ 10) && decide (verb < 2 ^ 14)
  | .vbSeqEnd _ flow verb => decide (flow < 2 ^ 10) && decide (verb < 2 ^ 14)
  | .flowStart ref args => wfRef ref && wfWords args
  | .flowHold ref args => wfRef ref && wfWords args
  | .flowResume ref args => wfRef ref && wfWords args
  | .flowAbort ref args => wfRef ref && wfWords args
  | .flowDisable ref args => wfRef ref && wfWords args
  | .flowEnable ref args => wfRef ref && wfWords args
  | .flowRead ref args => wfRef ref && wfWords args
  | .lgNop _ _ => true
  | .lgLd _ _ => true
  | .lgAnd _ _ => true
  | .lgOr _ _ => true
  | .lgXor _ _ => true
  | .lgSt _ _ => true
  | .lgSet _ _ => true
  | .lgRst _ _ => true
  | .lgNot _ _ => true
  | .lgAndp _ _ => true
  | .lgOrp _ _ => true
  | .lgPop _ _ => true
  | .lgDup _ _ => true
  | .lgPeek _ _ => true
  | .lgDrop _ _ => true
  | .lgEdg _ _ => true
  | .lgTmr _ _ => true
  | .lgTpt _ _ => true
  | .lgCnt _ _ => true
  | .lgCrst _ _ => true
  | .lgLdw _ _ => true
  | .lgStw _ _ => true
  | .lgAdd _ _ => true
  | .lgSub _ _ => true
  | .lgMul _ _ => true
  | .lgDiv _ _ => true
  | .lgCmp _ _ => true
  | .lgCvt _ _ => true
  | .lgAndw _ _ => true
  | .lgOrw _ _ => true
  | .lgXorw _ _ => true
  | .lgJmp _ _ => true
  | .lgJmpc _ _ => true
  | .lgJmpcn _ _ => true
  | .lgCall _ _ => true
  | .lgRet _ _ => true
  | .lgEnd _ _ => true
  | .keySample _ _ => true
  | .keyDiscrepancy => true
  | .taskRead ref args => wfRef ref && wfWords args
  | .taskDisable ref args => wfRef ref && wfWords args
  | .taskEnable ref args => wfRef ref && wfWords args
  | .memRead ref args => wfRef ref && wfWords args
  | .memWrite ref args => wfRef ref && wfWords args
  | .objSet ref args => wfRef ref && wfWords args
  | .segDrain ref args => wfRef ref && wfWords args
  | .drainComplete _ => true
  | .drainFail _ => true
  | .segRelease ref args => wfRef ref && wfWords args
  | .segCut ref args => wfRef ref && wfWords args
  | .groupRead ref args => wfRef ref && wfWords args
  | .policyRead ref args => wfRef ref && wfWords args
  | .policySet ref args => wfRef ref && wfWords args
  | .segList ref args => wfRef ref && wfWords args
  | .recordReady _ => true
  | .acqArm ref args => wfRef ref && wfWords args
  | .acqStop ref args => wfRef ref && wfWords args
  | .acqFire ref args => wfRef ref && wfWords args
  | .acqSelect ref args => wfRef ref && wfWords args
  | .acqConfig ref args => wfRef ref && wfWords args
  | .acqAlign ref args => wfRef ref && wfWords args
  | .acqRead ref args => wfRef ref && wfWords args
  | .acqRelease ref args => wfRef ref && wfWords args
  | .acqList ref args => wfRef ref && wfWords args
  | .alignFrame _ f => wfFrame f
  | .conversionResult _ _ full => wfBelow 24 full
  | .quickCalDone => true
  | .rotationBoundary _ _ => true
  | .fullCalDone _ => true
  | .vanaLow => true
  | .vanaReturn => true
  | .dacReadback _ _ => true
  | .encEdge _ _ _ => true
  | .encIndexEdge _ => true
  | .ssiFrameStart _ _ => true
  | .ssiFrameEnd _ _ _ _ => true
  | .adcRead ref args => wfRef ref && wfWords args
  | .adcUrgent ref args => wfRef ref && wfWords args
  | .adcCal ref args => wfRef ref && wfWords args
  | .encRead ref args => wfRef ref && wfWords args
  | .encSetCount ref args => wfRef ref && wfWords args
  | .dacRead ref args => wfRef ref && wfWords args
  | .ethFrameRx _ frame => wfFrameBytes frame
  | .startupFilterEnd => true
  | .prpSupervision _ => true
  | .arpRequest _ _ => true
  | .neighborSolicitation _ addr => decide (addr.length = 16)
  | .arpRefresh => true
  | .stationInputFrame _ _ => true
  | .stationFastInput _ _ => true
  | .admitReq _ _ => true
  | .leave _ _ => true
  | .admissionWindow => true
  | .stationOutputAssembly _ => true
  | .stationRead ref args => wfRef ref && wfWords args
  | .stationDrop ref args => wfRef ref && wfWords args
  | .identRead ref args _ _ => wfRef ref && wfWords args
  | .identScan ref args _ => wfRef ref && wfWords args
  | .identReread _ => true
  | .canRead ref args => wfRef ref && wfWords args
  | .ethRead ref args => wfRef ref && wfWords args
  | .canFrameRx _ id data ago _ => decide (id < 2 ^ 29) && decide (data.length ≤ 64) && decide (ago < 2 ^ 64)
  | .canReferenceRx _ _ _ => true
  | .canRefTimeout _ => true
  | .canReferenceSend _ => true
  | .canWindowStart _ window won => decide (window < 2 ^ 6) && decide (won < 2 ^ 32)
  | .canBusError _ dTec dRec => decide (dTec < 2 ^ 16) && decide (dRec < 2 ^ 16)
  | .canBusoffRecovery _ => true
  | .linkTrainingDone _ _ => true
  | .hello _ f => wfFrame f
  | .helloSend _ => true
  | .lack _ f => wfFrame f
  | .lackTimeout _ lseq => decide (lseq < 2 ^ 16)
  | .linkSilence _ => true
  | .laneLoss _ _ => true
  | .beacon _ f => wfFrame f
  | .beaconSend => true
  | .linkLoss => true
  | .linkState _ f => wfFrame f
  | .joinReqSend => true
  | .joinReq _ f => wfFrame f
  | .joinAck _ f => wfFrame f
  | .joinRetry => true
  | .routeTable _ f => wfFrame f
  | .subscribe _ f => wfFrame f
  | .subAck _ f => wfFrame f
  | .exportRx _ f => wfFrame f
  | .pointReq _ f => wfFrame f
  | .pointRsp _ f => wfFrame f
  | .hostFrame _ f => wfFrame f
  | .remoteCommandTimeout handle => decide (handle < 2 ^ 32)
  | .fragmentSetTimeout => true
  | .constRead ref args => wfRef ref && wfWords args
  | .routeRead ref args => wfRef ref && wfWords args
  | .importRead ref args => wfRef ref && wfWords args
  | .constWrite ref args => wfRef ref && wfWords args
  | .memberDrop ref args => wfRef ref && wfWords args
  | .linkRetrain ref args => wfRef ref && wfWords args
  | .backgroundCheckpoint => true
  | .ckptWriteDone => true
  | .vretFeedLow _ => true
  | .vretFeedRestored _ => true
  | .flushDone => true
  | .powerReturn => true
  | .leaseRenew => true
  | .leaseInToggle => true
  | .leaseExpiry => true
  | .leaseTake => true
  | .listenEnd => true
  | .renew f => wfFrame f
  | .manifest lseq _ => decide (lseq < 2 ^ 16)
  | .cutCrc f => wfFrame f
  | .manifestLoss => true
  | .stateRx lseq n _ len _ => decide (lseq < 2 ^ 16) && decide (n < 2 ^ 64) && decide (0 < len)
  | .handover f => wfFrame f
  | .status f => wfFrame f
  | .statusSend => true
  | .handoverExercise => true
  | .ckptWrite ref args => wfRef ref && wfWords args
  | .ckptInfo ref args => wfRef ref && wfWords args
  | .ckptInvalidate ref args => wfRef ref && wfWords args
  | .restart ref args => wfRef ref && wfWords args
  | .pairRead ref args => wfRef ref && wfWords args
  | .pairHandover ref args => wfRef ref && wfWords args
  | .pairClear ref args => wfRef ref && wfWords args
  | .safetyStrobe _ => true
  | .safetySample _ _ => true
  | .testReadbackCheck _ _ _ => true
  | .testPulseEnd _ => true
  | .compareBlockTimeout => true
  | .vsafeFeedFault _ => true
  | .mainHeartbeat => true
  | .mainFaultSignal _ => true
  | .heartbeatLoss => true
  | .islandStart _ _ => true
  | .configDigestCheck _ => true
  | .safConfigWritten _ => true
  | .safProposalExpiry => true
  | .passwordLockoutEnd => true
  | .safRead ref args => wfRef ref && wfWords args
  | .safCfgRead ref args => wfRef ref && wfWords args
  | .safLogRead ref args => wfRef ref && wfWords args
  | .safPropose ref args => wfRef ref && wfWords args
  | .safApprove ref args => wfRef ref && wfWords args
  | .safPassword ref args => wfRef ref && wfWords args
  | .safRestart ref args => wfRef ref && wfWords args
  | .safCancel ref args => wfRef ref && wfWords args
  | .eccUncorrectable _ _ _ _ => true
  | .scrubStep _ _ _ _ _ => true
  | .marchSegment _ _ _ _ _ _ _ => true
  | .ddrRefresh _ => true
  | .bwWindowEnd _ _ => true
  | .ctrRead ref args => wfRef ref && wfWords args
  | .ctrSnapshot ref args => wfRef ref && wfWords args
  | .bwRead ref args => wfRef ref && wfWords args
  | .memTest ref args => wfRef ref && wfWords args
  | .commandFetch _ _ => true
  | .stewardTakeCommand => true
  | .completionRecordWrite _ => true
  | .irqTimeLimit _ => true
  | .functionLevelReset traffic => traffic.all wfEvent
  | .stewardWatchdog traffic => traffic.all wfEvent
  | .stewardRestarted => true
  | .cmd _ _ _ _ => true
  | .dataIn _ _ _ _ => true
  | .ack _ _ _ _ => true
  | .resync _ _ _ _ => true
  | .datagramResend _ => true
  | .datagramAckTimer _ => true
  | .maintenanceDatagram _ => true
  | .tamperDetect _ _ => true
  | .debugGateTimeout => true
  | .secProposalExpiry => true
  | .deviceChangeCommit _ => true
  | .secStatus ref args => wfRef ref && wfWords args
  | .secPropose ref args => wfRef ref && wfWords args
  | .secApprove ref args => wfRef ref && wfWords args
  | .secCancel ref args => wfRef ref && wfWords args
  | .secAttest ref args => wfRef ref && wfWords args
  | .secIdentity ref args => wfRef ref && wfWords args
  | .secProvision ref args => wfRef ref && wfWords args
  | .secFwWrite ref args => wfRef ref && wfWords args
  | .secDbgClose ref args => wfRef ref && wfWords args
  | .regulatorSettled => true
  | .regulatorSettleTimeout _ => true
  | .pmbusSettlePoll _ _ _ => true
  | .pmbusTelemetryPoll _ _ _ _ => true
  | .pmbAlert _ _ => true
  | .pmbusBootRead _ _ _ => true
  | .lowerHoldExpiry => true
  | .marginProbeDue => true
  | .swapInCopyDone => true
  | .opSecond => true
  | .recorderAppend => true
  | .recorderEpoch => true
  | .ageRead ref args => wfRef ref && wfWords args
  | .marginMeasure ref args => wfRef ref && wfWords args
  | .marginProbe ref args => wfRef ref && wfWords args
  | .migrateBack ref args => wfRef ref && wfWords args
  | .recRead ref args => wfRef ref && wfWords args
  | .recSummary ref args => wfRef ref && wfWords args
  | .recClear ref args => wfRef ref && wfWords args
  | .recLog ref args => wfRef ref && wfWords args
  | .recCodeSet ref args => wfRef ref && wfWords args
  | .recCodeInfo ref args => wfRef ref && wfWords args
  | .ttCheck ref args => wfRef ref && wfWords args
  | .retentionSwitch _ _ => true
  | .vbatSample _ => true
  | .tjSample _ => true
  | .channelBClockFault => true
  | .ptpSyncTimeout _ => true
  | .perstNAssert traffic => traffic.all wfEvent
  | .msixVectorUnmask _ => true
  | .acqReadComplete _ _ => true
  | .companionBridgeError => true
  | .channelFeedReturn _ => true
  | .islandMemoryTest _ => true
  | .ethLinkChange _ _ => true

end Sys2Proof
end

