-- ==== Sys2Proof/Certificates/Slice0/Obligations.lean ====
section
/-! DEFINITION. The statements for the provers, family by family, with the few definitions that only they use. -/

set_option linter.unusedVariables false

open Sys2Proof Sys2Proof.Machine

namespace Sys2Proof.Claims

/-- None of the refusals of rows 4 and 5 of R568, and not the refusal of R485, applies to an opcode. -/
def Admitted (s : State) (op : Nat) : Prop := judge (s.gate op ++ s.recovery op) = none

/-- The reference with which a command's records are posted. -/
def opRef (ref : CmdRef) (op : Nat) : CmdRef := { ref with op := op }

/-- The reference with which a long operation's records are posted. -/
def longRef (ref : CmdRef) (op : Nat) : CmdRef := { ref with op := op, long := true }

/-- Two states agree on everything that a host sees of counters, records and messages apart: all blocks but the host interface and the counters. -/
def SameBlocks (s t : State) : Prop :=
  t = { s with regs := t.regs, host := t.host, ctr := t.ctr, recd := t.recd }

/-- The records due on a ring. -/
def due (s : State) (r : Nat) : List Cpl := (s.host.rings.at' r {}).due

/-- A command whose records go to the ring it came from, which has not been reset since (R459). -/
def OnRing (s : State) (ref : CmdRef) : Prop :=
  ref.replayed = false ∧ ref.origin = none ∧ ref.ring < 128 ∧ (s.host.rings.at' ref.ring {}).gen = ref.gen

/-- The bytes of a 32-bit word that a read of `len` bytes from byte `off` of it returns (R2). -/
def wordPart (v : Nat) (off : Fin 4) (len : Nat) : List Byte := leBytes (min len (4 - off.val)) (v / 2 ^ (8 * off.val))

/-- A state after a read within one word at an address, from byte `off`; a read beyond the word goes on with the registers that follow (R2). -/
def readOn (t : State) (addr : Nat) (off : Fin 4) (len : Nat) : State := if len ≤ 4 - off.val then t else t.readBytes (addr + 4) (len - (4 - off.val))

end Sys2Proof.Claims

open Sys2Proof.Claims

/-- A step takes the command at the front of the queue. With a command c at the front of the queue, step is exec of c on the state with the rest of the queue. With an empty queue step is what the block does by itself, and it always answers a next state; what it does then is the model's choice (log entry 1). -/
def Obligations.StepTakesTheFrontCommand : Prop :=
  (∀ (c : Instr) (rest : List Instr) (s : State), step { s with pending := c :: rest } = exec c { s with pending := rest }) ∧
  (∀ s : State, s.pending = [] → ∃ t, step s = .next t ∧ t = s.idle)

/-- No command stops the block. For every command and every state, exec answers a next state: no operand, mode or refusal ends a run. So every run of every length from every state is safe. -/
def Obligations.EveryCommandAnswersANextState : Prop :=
  (∀ (c : Instr) (s : State), ∃ t, exec c s = .next t) ∧ ∀ s : State, SafeRun s

/-- A command's refusals are judged in order and the first that applies answers it. For a command whose refusals before, at and after rows 4 and 5 of R568 are given: if none applies the command takes effect with its opcode in its reference. If some apply, the first in the order of the list alone gives status and DETAIL, and the state changes by that one final record and nothing else. For a long operation INVALID and BUSY come at once, any other refusal follows its acknowledgement, and the effect starts from the acknowledged state. -/
def Obligations.FirstApplicableRefusalDecides : Prop :=
  (∀ (s : State) (ref : CmdRef) (op : Nat) (pre suf : List Check) (k : CmdRef → State → State),
    ((∀ c ∈ pre ++ s.gate op ++ suf ++ s.recovery op, c.1 = false) → s.command ref op pre suf k = k (opRef ref op) s) ∧
    (∀ l1 l2 st d, pre ++ s.gate op ++ suf ++ s.recovery op = l1 ++ (true, st, d) :: l2 → (∀ c ∈ l1, c.1 = false) →
      s.command ref op pre suf k = s.complete (opRef ref op) st d)) ∧
  (∀ (s : State) (ref : CmdRef) (op : Nat) (pre suf : List Check) (k : CmdRef → State → State),
    ((∀ c ∈ pre ++ s.gate op ++ suf ++ s.recovery op, c.1 = false) → s.commandLong ref op pre suf k = k (longRef ref op) (s.accept (longRef ref op))) ∧
    (∀ l1 l2 st d, pre ++ s.gate op ++ suf ++ s.recovery op = l1 ++ (true, st, d) :: l2 → (∀ c ∈ l1, c.1 = false) →
      s.commandLong ref op pre suf k =
        if st = .invalid ∨ st = .busy then s.complete (longRef ref op) st d
        else (s.accept (longRef ref op)).complete (longRef ref op) st d))

/-- A final record is appended to its own ring's due records and to nothing else. A command that came from a ring which has not been reset since gets its record at the end of that ring's due list; every other ring's list and every other part of the state is unchanged. After a reset of the ring the record is discarded and nothing changes. A relayed command's record waits for its originating device, and a record of the maintenance port is kept there. -/
def Obligations.RecordsGoToTheirRing : Prop :=
  ∀ (s : State) (ref : CmdRef) (st : Status) (d r : Nat) (data : List Byte),
    (OnRing s ref →
      let c : Cpl := { ref := ref, status := st, final := true, detail := d, result := r, data := data }
      let t := s.complete ref st d r data
      due t ref.ring = due s ref.ring ++ [c] ∧ (∀ q, q ≠ ref.ring → t.host.rings.at' q {} = s.host.rings.at' q {}) ∧
      t = { s with host := { s.host with rings := t.host.rings } }) ∧
    (ref.replayed = false → ref.origin = none → ref.ring < 128 → (s.host.rings.at' ref.ring {}).gen ≠ ref.gen → s.complete ref st d r data = s) ∧
    (ref.replayed = false → ∀ dev, ref.origin = some dev → ∃ c : Cpl, c.ref = ref ∧ c.status = st ∧
      s.complete ref st d r data = { s with host := { s.host with remote := s.host.remote ++ [c] } }) ∧
    (ref.replayed = false → ref.origin = none → 128 ≤ ref.ring → ∃ c : Cpl, c.ref = ref ∧ c.status = st ∧
      s.complete ref st d r data = { s with host := { s.host with mnt := s.host.mnt ++ [c] } })

/-- Event counters add every occurrence and wrap at 2^48. Adding n occurrences and then m more leaves the counter as adding n + m at once: its value is the sum modulo 2^48, so 2^48 - 1 wraps to 0. Every other counter, and everything but the counters, is unchanged. -/
def Obligations.CounterAddsAndWrapsAt48Bits : Prop :=
  (∀ (s : State) (ev n m : Nat),
    ((((s.count ev n).count ev m).ctr.tab.at' ev {}).value = ((s.count ev (n + m)).ctr.tab.at' ev {}).value) ∧
    (((s.count ev n).ctr.tab.at' ev {}).value.toNat = ((s.ctr.tab.at' ev {}).value.toNat + n) % 2 ^ 48) ∧
    (∀ e, e ≠ ev → (s.count ev n).ctr.tab.look e = s.ctr.tab.look e) ∧
    s.count ev n = { s with ctr := { s.ctr with tab := (s.count ev n).ctr.tab } }) ∧
  (∀ (s : State) (ev n : Nat), (s.ctr.tab.at' ev {}).value = BitVec.ofNat 48 (2 ^ 48 - 1) → n = 1 → ((s.count ev n).ctr.tab.at' ev {}).value = 0)

/-- A read of CTR_LO_n latches counter n and reports every wrap since the previous latch. A read returns the bytes that it addresses of bits 31:0 of the counter, puts value and wrap into the shadow that CTR_HI_n shows and clears the sticky wrap; the counter's value, every other counter and all other state stay. A read beyond the word goes on with the registers that follow. After a latch and any sequence of additions, the next latch holds WRAP exactly when the additions carried the count past 2^48 - 1. -/
def Obligations.CounterLowReadLatchesTheCounter : Prop :=
  (∀ (n : Fin 1024) (off : Fin 4) (len : Nat) (s : State), ∃ t, exec (.ctrLoRead n off len) s = .next (readOn t (regAddr Reg.CTR_LO [n.val]) off len) ∧
    t.host.readData = wordPart ((s.ctr.tab.at' n.val {}).value.toNat % 2 ^ 32) off len ∧
    t.ctr.latch.look n.val = some { value := (s.ctr.tab.at' n.val {}).value, wrap := (s.ctr.tab.at' n.val {}).wrap } ∧
    (t.ctr.tab.at' n.val {}) = { (s.ctr.tab.at' n.val {}) with wrap := false } ∧
    (∀ m, m ≠ n.val → t.ctr.tab.look m = s.ctr.tab.look m ∧ t.ctr.latch.look m = s.ctr.latch.look m) ∧
    t.shownWord Reg.CTR_HI n.val 0 = some (b2n (s.ctr.tab.at' n.val {}).wrap * 2 ^ 31 + (s.ctr.tab.at' n.val {}).value.toNat / 2 ^ 32) ∧
    t = { s with ctr := { s.ctr with tab := t.ctr.tab, latch := t.ctr.latch }, host := { s.host with readData := t.host.readData } }) ∧
  (∀ (n : Nat) (l : List Nat) (s : State),
    let v := (s.ctr.tab.at' n {}).value.toNat
    let t := (l.foldl (fun (s : State) k => s.count n k) (s.latchCounter n)).latchCounter n
    (t.ctr.latch.at' n {}).wrap = decide (2 ^ 48 ≤ v + l.sum) ∧ (t.ctr.latch.at' n {}).value.toNat = (v + l.sum) % 2 ^ 48)

/-- A counter snapshot is taken at the freeze, shown when it is filled, and a FREEZE meanwhile is dropped and counted. FREEZE while BUSY is 0 sets BUSY and keeps the values of that instant; the counters' values stay. FREEZE while BUSY is 1 changes only DROPPED and event 0x131. When the values are in place BUSY clears, the kept values are the snapshot, and, with no command waiting, nothing else but SEQ changes; a waiting CTR_SNAPSHOT then completes OK with SEQ, its counters' values of the snapshot and the freeze stamp. CTR_SNAPSHOT whose numbers its ring may read freezes and waits; while BUSY it answers BUSY. That every value is captured at the freeze instant is the model's choice (log entry 9). -/
def Sys2Proof.Claims.SnapshotFreezesFillsAndCounts : Prop :=
  (∀ s : State, s.flag Reg.CTR_SNAP_CTL_BUSY = false → ∃ t, exec .snapshotFreezeWrite s = .next t ∧
    t.ctr.filling = some (s.ctr.tab.map (fun e => (e.1, { value := e.2.value, wrap := e.2.snapWrap }))) ∧
    (∀ n, (t.ctr.tab.at' n {}).value = (s.ctr.tab.at' n {}).value) ∧ t.flag Reg.CTR_SNAP_CTL_BUSY = true ∧
    t = { s with regs := t.regs, ctr := { s.ctr with tab := t.ctr.tab, filling := t.ctr.filling } }) ∧
  (∀ s : State, s.flag Reg.CTR_SNAP_CTL_BUSY = true →
    exec .snapshotFreezeWrite s = .next ((s.wr Reg.CTR_SNAP_CTL_DROPPED 1).count 0x131)) ∧
  (∀ (s : State) (cap : Tab SnapVal), s.ctr.filling = some cap → s.ctr.waiters = [] → ∃ t, exec .snapshotComplete s = .next t ∧
    t.ctr.snap = cap ∧ t.ctr.filling = none ∧ t.ctr.tab = s.ctr.tab ∧ t.regs = ((s.wr Reg.CTR_SNAP_CTL_BUSY 0).incWrap Reg.CTR_SNAP_SEQ_SEQ).regs ∧
    t = { s with regs := t.regs, ctr := { s.ctr with snap := cap, filling := none } }) ∧
  (∀ (s : State) (cap : Tab SnapVal) (ref : CmdRef) (l : List Nat), s.ctr.filling = some cap → s.ctr.waiters = [(ref, l)] → ∃ u : State,
    exec .snapshotComplete s = .next (u.complete ref .ok 0 (u.rd Reg.CTR_SNAP_SEQ_SEQ) ((l.map (fun n => leBytes 4 ((cap.at' n {}).value.toNat % 2 ^ 32) ++
      leBytes 4 (b2n (cap.at' n {}).wrap * 2 ^ 31 + (cap.at' n {}).value.toNat / 2 ^ 32))).flatten ++ leBytes 4 (u.rd Reg.CTR_SNAP_SEQ_SEQ) ++
      leBytes 8 (s.rd64 Reg.CTR_SNAP_T_LO_T_LO Reg.CTR_SNAP_T_HI_T_HI))) ∧
    u.rd Reg.CTR_SNAP_SEQ_SEQ = (s.rd Reg.CTR_SNAP_SEQ_SEQ + 1) % 2 ^ 32 ∧ u.flag Reg.CTR_SNAP_CTL_BUSY = false ∧
    u = { s with regs := u.regs, ctr := { s.ctr with snap := cap, filling := none, waiters := [] } }) ∧
  (∀ (ref : CmdRef) (l pad : List Nat) (s : State), Admitted s 0x0F21 → 1 ≤ l.length → l.length ≤ 64 → (∀ n ∈ l, n < 1024 ∧ s.mayCount ref.ring n = true) →
    8 * l.length + 12 ≤ ref.bufLen →
    exec (.ctrSnapshot ref (l.length :: (l ++ pad))) s =
      .next (if s.flag Reg.CTR_SNAP_CTL_BUSY then s.complete (opRef ref 0x0F21) .busy
        else { s.freeze with ctr := { s.freeze.ctr with waiters := s.freeze.ctr.waiters ++ [(opRef ref 0x0F21, l)] } }))

/-- The preset, the conflict clear and the bandwidth ports act as their registers say. GO writes the preset into counter NUM with its WRAP cleared and keeps every other counter; an increment in the same slot is lost and slips. Without GO only NUM is stored. MEM_CONF_CLR.CLR asks for the clear at the next base mark and changes nothing else. PEAK_CLR clears a port's PEAK and SAT. At a window's end a measured port whose window length is unchanged shows the amount in its unit, raises PEAK where it is larger and counts the window; one whose length has changed only takes the new length; an unmeasured port changes nothing. -/
def Sys2Proof.Claims.CounterPresetAndPortsAct : Prop :=
  (∀ (v : Word) (lost : Bool) (s : State), ∃ t, exec (.presetGoWrite v lost) s = .next t ∧
    (let n := bitsOf v.toNat 9 0
     (bitOf v.toNat 31 = false → t = s.wr Reg.CTR_PRE_CTL_NUM n) ∧
     (bitOf v.toNat 31 = true →
       (∃ c, t.ctr.tab.look n = some c ∧ c.wrap = false ∧
         c.value = BitVec.ofNat 48 ((s.wr Reg.CTR_PRE_CTL_NUM n).rd Reg.CTR_PRE_LO_VALUE_LO + 2 ^ 32 * (s.wr Reg.CTR_PRE_CTL_NUM n).rd Reg.CTR_PRE_HI_VALUE_HI)) ∧
       (∀ m, m ≠ n → t.ctr.tab.look m = s.ctr.tab.look m) ∧
       t.regs = (if lost then ((s.wr Reg.CTR_PRE_CTL_NUM n).incHold Reg.CTR_SLIP_COUNT).wr Reg.CTR_SLIP_LAST_NUM n else s.wr Reg.CTR_PRE_CTL_NUM n).regs ∧
       t = { s with regs := t.regs, ctr := { s.ctr with tab := t.ctr.tab } }))) ∧
  (∀ s : State, exec .confClrWrite s = .next { s with fab := { s.fab with confClr := true } }) ∧
  (∀ (p : Fin 48) (s : State), exec (.bwPeakClrWrite p) s =
    .next ((s.wr Reg.CTR_BW_PEAK_AMOUNT 0 [p.val]).wr Reg.CTR_BW_WIN_SAT 0 [p.val])) ∧
  (∀ (p : Fin 48) (bytes : Nat) (s : State),
    (s.flag Reg.CTR_BW_CFG_EN [p.val] = false → exec (.bwWindowEnd p bytes) s = .next s) ∧
    (s.flag Reg.CTR_BW_CFG_EN [p.val] = true → (s.ctr.bw.at' p.val {}).win ≠ winActs (s.rd Reg.CTR_BW_CFG_WIN_US [p.val]) →
      exec (.bwWindowEnd p bytes) s = .next { s with ctr := { s.ctr with bw := s.ctr.bw.put p.val { win := winActs (s.rd Reg.CTR_BW_CFG_WIN_US [p.val]) } } }) ∧
    (s.flag Reg.CTR_BW_CFG_EN [p.val] = true → (s.ctr.bw.at' p.val {}).win = winActs (s.rd Reg.CTR_BW_CFG_WIN_US [p.val]) →
      let a := if s.flag Reg.CTR_BW_CFG_UNIT [p.val] then bytes / 64 else bytes
      (a ≤ 0xFFFFFFFF → exec (.bwWindowEnd p bytes) s =
        .next (((s.wr Reg.CTR_BW_LAST_AMOUNT a [p.val]).peak Reg.CTR_BW_PEAK_AMOUNT a [p.val]).incWrap Reg.CTR_BW_WIN_WINDOWS [p.val])) ∧
      (0xFFFFFFFF < a → exec (.bwWindowEnd p bytes) s =
        .next ((((s.wr Reg.CTR_BW_WIN_SAT 1 [p.val]).wr Reg.CTR_BW_LAST_AMOUNT 0xFFFFFFFF [p.val]).peak Reg.CTR_BW_PEAK_AMOUNT 0xFFFFFFFF [p.val]).incWrap Reg.CTR_BW_WIN_WINDOWS [p.val]))))

/-- Snapshots, the preset, the conflict clear and the bandwidth ports act as their registers say. FREEZE while BUSY is 0 sets BUSY and keeps the values of that instant; the counters' values stay. FREEZE while BUSY is 1 changes only DROPPED and event 0x131. When the values are in place BUSY clears, the kept values are the snapshot, and, with no command waiting, nothing else but SEQ changes; a waiting CTR_SNAPSHOT then completes OK with SEQ, its counters' values of the snapshot and the freeze stamp. CTR_SNAPSHOT whose numbers its ring may read freezes and waits; while BUSY it answers BUSY. That every value is captured at the freeze instant is the model's choice (log entry 9). GO writes the preset into counter NUM with its WRAP cleared and keeps every other counter; an increment in the same slot is lost and slips. Without GO only NUM is stored. MEM_CONF_CLR.CLR asks for the clear at the next base mark and changes nothing else. PEAK_CLR clears a port's PEAK and SAT. At a window's end a measured port whose window length is unchanged shows the amount in its unit, raises PEAK where it is larger and counts the window; one whose length has changed only takes the new length; an unmeasured port changes nothing. -/
def Obligations.SnapshotPresetAndPortsOfTheCounters : Prop := Claims.SnapshotFreezesFillsAndCounts ∧ Claims.CounterPresetAndPortsAct

/-- Counter reads through a ring return the latched values under the ring's permission, and a refused read names the first number. When the ring may read every named counter, CTR_READ latches each and returns for each its low word and its high word with WRAP. When some number may not be read the command completes DENIED with the first such number in RESULT, event 0x204 is counted and nothing else changes. BW_READ returns LAST, PEAK and WIN of all 48 ports and changes nothing else. -/
def Obligations.CounterReadsObeyPermission : Prop :=
  (∀ (ref : CmdRef) (l pad : List Nat) (s : State), Admitted s 0x0F20 → 1 ≤ l.length → l.length ≤ 64 → (∀ n ∈ l, n < 1024) → 8 * l.length ≤ ref.bufLen →
    ((∀ n ∈ l, s.mayCount ref.ring n = true) →
      let t := l.foldl (fun (s : State) n => s.latchCounter n) s
      exec (.ctrRead ref (l.length :: (l ++ pad))) s =
        .next (t.complete (opRef ref 0x0F20) .ok 0 0 ((l.map (fun n => snapBytes (t.ctr.latch.at' n {}))).flatten))) ∧
    (∀ l1 n l2, l = l1 ++ n :: l2 → (∀ m ∈ l1, s.mayCount ref.ring m = true) → s.mayCount ref.ring n = false →
      exec (.ctrRead ref (l.length :: (l ++ pad))) s = .next ((s.count 0x204).complete (opRef ref 0x0F20) .denied 2 n))) ∧
  (∀ (ref : CmdRef) (args : List Nat) (s : State), Admitted s 0x0F22 → 576 ≤ ref.bufLen →
    exec (.bwRead ref args) s = .next (s.complete (opRef ref 0x0F22) .ok 0 0 (((List.range 48).map (fun p =>
      leBytes 4 (s.reg Reg.CTR_BW_LAST [p]) ++ leBytes 4 (s.reg Reg.CTR_BW_PEAK [p]) ++ leBytes 4 (s.reg Reg.CTR_BW_WIN [p]))).flatten)))

/-- A field that is written reads back, and no other register changes. For every register of the index and every instance of it, writing a field leaves that field at the value cut to the field's width, keeps the bits outside the field of a register whose field lies within its 32 bits, keeps the stored word of every register at another address, and changes nothing but the register file. -/
def Obligations.RegisterFieldReadsBack : Prop :=
  ∀ (s : State) (f : Fld) (v : Nat) (ix : List Nat), f.lo ≤ f.hi → f.hi < 32 →
    (s.wr f v ix).rd f ix = v % 2 ^ (f.hi + 1 - f.lo) ∧
    (∀ g : Fld, g.reg = f.reg → g.lo ≤ g.hi → g.hi < 32 → (g.hi < f.lo ∨ f.hi < g.lo) → (s.wr f v ix).rd g ix = s.rd g ix) ∧
    (∀ (d : RegDesc) (jx : List Nat), regAddr d jx ≠ regAddr f.reg ix → (s.wr f v ix).reg d jx = s.reg d jx) ∧
    s.wr f v ix = { s with regs := (s.wr f v ix).regs }

/-- Every write of a field keeps the register file's strict address order, and reset lists nothing. The register file lists offsets in strictly rising order, so equal files are equal data: it holds of the state after reset, where nothing is listed and every register reads its power-on value, and every field write keeps it. -/
def Obligations.RegisterFileKeepsStrictOrder : Prop :=
  State.reset.regs.sortedFrom 0 = true ∧ (∀ (d : RegDesc) (ix : List Nat), State.reset.reg d ix = regReset d ix % 2 ^ 32) ∧
  ∀ (s : State) (f : Fld) (v : Nat) (ix : List Nat), s.regs.sortedFrom 0 = true → (s.wr f v ix).regs.sortedFrom 0 = true

/-- The unassigned range reads 0, ignores writes, and counts each access. Every aligned word of the unassigned range reads 0. A 32-bit access there is counted once under 0x200 and changes nothing else; a read leaves zeros as the bytes read; a write narrower than 32 bits is counted under 0x201 as well. A 64-bit access is two accesses and is counted twice. A write of a whole word through its address acts in the same way. An offset outside the range, the MSI-X structures and the DBG block at which no register stands reads 0, and a write to it has no effect. -/
def Obligations.UnassignedRangeReadsZeroAndCounts : Prop :=
  (∀ (a : Nat) (s : State), 0x1700000 ≤ a → a ≤ 0x1EFFFFF → s.readWord a = 0) ∧
  (∀ (addr : BitVec 25) (write : Bool) (s : State), addr.toNat % 4 = 0 → 0x1700000 ≤ addr.toNat → addr.toNat ≤ 0x1EFFFFF →
    exec (.unassignedAccess addr write 4) s = .next (if write then s.count 0x200 else (s.readBegin.count 0x200).returned 0)) ∧
  (∀ (addr : BitVec 25) (write : Bool) (s : State), addr.toNat % 4 = 0 → 0x1700000 ≤ addr.toNat → addr.toNat + 7 ≤ 0x1EFFFFF →
    exec (.unassignedAccess addr write 8) s = .next (if write then (s.count 0x200).count 0x200 else (((s.readBegin.count 0x200).returned 0).count 0x200).returned 0)) ∧
  (∀ (addr : BitVec 25) (len : Nat) (s : State), 0x1700000 ≤ addr.toNat → addr.toNat ≤ 0x1EFFFFF → 1 ≤ len → len < 4 → addr.toNat % 4 + len ≤ 4 →
    exec (.unassignedAccess addr true len) s = .next ((s.count 0x200).count 0x201) ∧
    exec (.unassignedAccess addr false len) s = .next ((s.readBegin.count 0x200).returned 0 len)) ∧
  (∀ (addr : BitVec 25) (v hw : Word) (s : State), addr.toNat % 4 = 0 → 0x1700000 ≤ addr.toNat → addr.toNat ≤ 0x1EFFFFF →
    exec (.registerWrite addr (leBytes 4 v.toNat) [hw]) s = .next (s.count 0x200)) ∧
  (∀ (a v hw : Nat) (s : State), regAt a = none → unassigned a = false → ¬ (0x2C0000 ≤ a ∧ a < 0x2C0000 + 144 * 16) → ¬ (0x2D0000 ≤ a ∧ a < 0x2D0000 + 20) →
    s.readWord a = 0 ∧ s.writeWord a v hw = s)

/-- A write of a register without a behaviour of its own acts field by field, and refused RWA and RWK fields keep their value and count once. A 32-bit write of such a register changes the register file and event counters alone. RO and RWA fields keep their value; RWK fields keep it unless the key admits the write, and then take the written value; RW fields take the written value; a W1C field keeps the bits that the write does not clear and those that hardware sets in the same slot. Event 0x202 rises by 1 exactly when some RWA field was written another value, and 0x203 exactly when the key refused some RWK field another value. -/
def Obligations.ApprovalAndKeyFieldsKeepTheirValue : Prop :=
  ∀ (s : State) (d : RegDesc) (ix : List Nat) (v hw : Nat), d ∈ Reg.table → v < 2 ^ 32 → hw < 2 ^ 32 →
    let t := s.writeFields d ix v hw
    let old := s.reg d ix
    (∀ f ∈ d.fields,
      (f.acc = .ro ∨ f.acc = .rwa → bitsOf (t.reg d ix) f.hi f.lo = bitsOf old f.hi f.lo) ∧
      (f.acc = .rw → bitsOf (t.reg d ix) f.hi f.lo = bitsOf v f.hi f.lo) ∧
      (f.acc = .rwk → bitsOf (t.reg d ix) f.hi f.lo = if s.keyOk then bitsOf v f.hi f.lo else bitsOf old f.hi f.lo) ∧
      (f.acc = .w1c → ∀ i, f.lo ≤ i → i ≤ f.hi → bitOf (t.reg d ix) i = ((bitOf old i && !bitOf v i) || bitOf hw i))) ∧
    (∀ e jx, regAddr e jx ≠ regAddr d ix → t.reg e jx = s.reg e jx) ∧
    (let differs (a : Access) : Bool := d.fields.any (fun f => decide (f.acc = a) && decide (bitsOf v f.hi f.lo ≠ bitsOf old f.hi f.lo))
     let u := if differs .rwa then s.count 0x202 else s
     t.ctr = (if differs .rwk && !s.keyOk then u.count 0x203 else u).ctr) ∧
    t = { s with regs := t.regs, ctr := t.ctr }

/-- REGISTER_WRITE of one aligned word writes the register that stands there, field by field. A write of four bytes at the address of a register that has no behaviour of its own is the field-by-field write of the little-endian word, with the bits that hardware sets in the same slot; a behaviour of its own, where the register has one, takes the write instead. -/
def Sys2Proof.Claims.WholeWordWriteReachesItsRegister : Prop :=
  ∀ (addr : BitVec 25) (v hw : Word) (s : State) (d : RegDesc) (ix : List Nat), addr.toNat % 4 = 0 → addr.toNat < 0x1700000 →
    ¬ (0x2C0000 ≤ addr.toNat ∧ addr.toNat < 0x2C0000 + 144 * 16) → regAt addr.toNat = some (d, ix) →
    exec (.registerWrite addr (leBytes 4 v.toNat) [hw]) s =
      .next ((s.ownWrite d (ix.headD 0) (ix.getD 1 0) v.toNat hw.toNat).getD (s.writeFields d ix v.toNat hw.toNat))

/-- A register write narrower than 32 bits is discarded and counted. A write of 1 to 3 bytes that lie in one 32-bit word of BAR0 changes nothing but event counters: 0x201 rises by 1, and in the unassigned range 0x200 as well; in the DBG block 0x1F6 rises too while the gate is closed. Every register, and every block, is as before. -/
def Sys2Proof.Claims.NarrowRegisterWriteIsDiscarded : Prop :=
  ∀ (addr : BitVec 25) (bytes : List Byte) (hw : List Word) (s : State), 1 ≤ bytes.length → addr.toNat % 4 + bytes.length ≤ 4 → bytes.length < 4 →
    let w := addr.toNat / 4 * 4
    exec (.registerWrite addr bytes hw) s = .next
      (if 0x1700000 ≤ w ∧ w ≤ 0x1EFFFFF then (s.count 0x201).count 0x200
       else if 0x1F00000 ≤ w ∧ s.flag Reg.SEC_DBG_OPEN = false then (s.count 0x201).count 0x1F6
       else s.count 0x201)

/-- A write of two aligned words is the two writes, the lower address first. -/
def Sys2Proof.Claims.TwoWordWriteIsTwoWrites : Prop :=
  ∀ (addr : BitVec 25) (v w h1 h2 : Word) (s : State), addr.toNat % 4 = 0 → addr.toNat + 8 ≤ 2 ^ 25 →
    ∃ t, exec (.registerWrite addr (leBytes 4 v.toNat) [h1]) s = .next t ∧
      exec (.registerWrite addr (leBytes 4 v.toNat ++ leBytes 4 w.toNat) [h1, h2]) s = exec (.registerWrite (addr + 4) (leBytes 4 w.toNat) [h2]) t

/-- REGISTER_WRITE of one aligned word writes its register, a narrow one is discarded and counted, and two words are two writes. A write of four bytes at the address of a register that has no behaviour of its own is the field-by-field write of the little-endian word, with the bits that hardware sets in the same slot; a behaviour of its own, where the register has one, takes the write instead. A write of 1 to 3 bytes that lie in one 32-bit word of BAR0 changes nothing but event counters: 0x201 rises by 1, and in the unassigned range 0x200 as well; in the DBG block 0x1F6 rises too while the gate is closed. Every register, and every block, is as before. A write of two aligned words is the two writes, the lower address first. -/
def Obligations.RegisterWritesByWidth : Prop := Claims.WholeWordWriteReachesItsRegister ∧ Claims.NarrowRegisterWriteIsDiscarded ∧ Claims.TwoWordWriteIsTwoWrites

/-- Index writes move TAIL and CHEAD unless they break the index rule. On a READY ring that is not bound to Ethernet a TAIL write within 128 of HEAD, modulo 65,536, stores TAIL and changes nothing else; a farther one only sets IDX_ERR and counts 0x221. On any other ring it only counts 0x220. A CHEAD write that leaves CTAIL − CHEAD non-negative stores CHEAD and changes nothing else; otherwise it is refused in the same way. -/
def Obligations.RingIndexWritesObeyTheirRule : Prop :=
  ∀ (ring : Fin 128) (v : Word) (s : State),
    let r := ring.val
    let x := v.toNat % 65536
    let head := s.rd Reg.RNG_CMD_HEAD_HEAD [r]
    let ctail := s.rd Reg.RNG_CPL_TAIL_CTAIL [r]
    (s.rd Reg.RNG_STAT_STATE [r] = 1 → s.flag Reg.RNG_CTL_TRANSPORT [r] = false →
      (((x : Int) - head) % 65536 ≤ 128 → exec (.tailWrite ring v) s = .next (s.wr Reg.RNG_CMD_TAIL_TAIL x [r])) ∧
      (128 < ((x : Int) - head) % 65536 → exec (.tailWrite ring v) s = .next ((s.wr Reg.RNG_STAT_IDX_ERR 1 [r]).count 0x221))) ∧
    (s.rd Reg.RNG_STAT_STATE [r] ≠ 1 ∨ s.flag Reg.RNG_CTL_TRANSPORT [r] = true → exec (.tailWrite ring v) s = .next (s.count 0x220)) ∧
    (((ctail : Int) - x) % 65536 < 32768 → exec (.cheadWrite ring v) s = .next (s.wr Reg.RNG_CPL_HEAD_CHEAD x [r])) ∧
    (32768 ≤ ((ctail : Int) - x) % 65536 → exec (.cheadWrite ring v) s = .next ((s.wr Reg.RNG_STAT_IDX_ERR 1 [r]).count 0x221))

/-- A host write of the shared window stores its bytes, but for the 8-byte words where a fabric write of the same write window left another value. For every window byte after a host write of any length with any fabric writes of the same write window: it is the host's byte where the host covers it and its 8-byte word does not collide, and otherwise what the fabric writes leave. A word collides when a fabric write touches it and some host byte in it differs from that byte after the fabric writes. Event 0x110 rises by the number of colliding words. A window in canonical form stays in it. Without fabric writes exactly the host's bytes change, and nothing else of the state. -/
def Obligations.HostWindowWriteStoresItsBytes : Prop :=
  ∀ (addr : BitVec 22) (bytes : List Byte) (fabric : List (Nat × Byte)) (s : State), ∃ t, exec (.bar2Write addr bytes fabric) s = .next t ∧
    (let fab (a : Nat) : Byte := fabric.foldl (fun b e => if e.1 = a then e.2 else b) (s.winByte a)
     let host (a : Nat) : Bool := decide (addr.toNat ≤ a) && decide (a < addr.toNat + bytes.length) && decide (a < 0x400000)
     let data (a : Nat) : Byte := bytes.getD (a - addr.toNat) 0
     let collides (w : Nat) : Bool := fabric.any (fun e => decide (e.1 / 8 = w)) && (List.range 8).any (fun k => host (8 * w + k) && decide (fab (8 * w + k) ≠ data (8 * w + k)))
     (∀ a, a < 0x400000 → t.winByte a = if host a && !collides (a / 8) then data a else fab a) ∧
     (s.host.window.wf 0 = true → t.host.window.wf 0 = true) ∧
     (t.ctr.tab.at' 0x110 {}).value.toNat = ((s.ctr.tab.at' 0x110 {}).value.toNat + ((List.range 0x80000).filter collides).length) % 2 ^ 48 ∧
     (fabric = [] → t = { s with host := { s.host with window := t.host.window } }))

/-- Decoding the 64 bytes of a command record gives the record back. For every record with an opcode of 16 bits, a tag and a buffer length of 32 bits, a buffer address of 64 bits and 40 argument bytes, every flag at either value: its bytes number 64, their reserved fields are 0, and decoding them gives the same record. -/
def Obligations.CommandRecordsRoundTrip : Prop :=
  ∀ c : CmdRecord, c.opcode < 2 ^ 16 → c.tag < 2 ^ 32 → c.bufAddr < 2 ^ 64 → c.bufLen < 2 ^ 32 → c.args.length = 40 →
    (cmdRecordBytes c).length = 64 ∧ cmdRecordOf (cmdRecordBytes c) = c ∧ fieldLE (cmdRecordBytes c) 3 1 = 0 ∧ fieldLE (cmdRecordBytes c) 0x14 4 = 0

/-- A command fetch advances HEAD and hands the command to its executor, or answers it at once. When the ring is READY, holds a command, has two completion slots beyond those reserved and awaits no fence, a fetch of a record with the fields of R464 in order and an assigned opcode advances HEAD and the ring's sequence number by 1 and puts the command, with its handle, tag and argument words, at the end of its executor's queue; nothing but the register file and the host interface changes, and no record is due. A record with a broken field is answered INVALID with DETAIL 0xFFFF0001 and counted 0x221; an unassigned opcode is answered INVALID; a long operation beyond 64 is answered BUSY with DETAIL 0x40 and counted 0x226. When one of the conditions fails nothing changes. -/
def Obligations.FetchedCommandReachesItsExecutor : Prop :=
  ∀ (ring : Fin 128) (hostBuf : List Byte) (s : State),
    let r := ring.val
    let head := s.rd Reg.RNG_CMD_HEAD_HEAD [r]
    let seq := s.rd Reg.RNG_SEQ_SEQ [r]
    let b := s.winRead (0x4000 * r + 64 * (head % 128)) 64
    let c := cmdRecordOf b
    let x := s.host.rings.at' r {}
    let used := ((s.rd Reg.RNG_CPL_TAIL_CTAIL [r] : Int) - s.rd Reg.RNG_CPL_HEAD_CHEAD [r]) % 65536
    let free := s.rd Reg.RNG_STAT_STATE [r] = 1 ∧ s.rd Reg.RNG_CMD_TAIL_TAIL [r] ≠ head ∧ used + x.open_.length + x.acks.length + 2 ≤ 256 ∧ x.fence = none
    (¬ free → exec (.commandFetch ring hostBuf) s = .next s) ∧
    (free → ∃ t, exec (.commandFetch ring hostBuf) s = .next t ∧
      t.rd Reg.RNG_CMD_HEAD_HEAD [r] = (head + 1) % 65536 ∧ t.rd Reg.RNG_SEQ_SEQ [r] = (seq + 1) % 2 ^ 25 ∧
      (let past : Bool := decide (c.opcode ∈ longCmds) && decide (64 ≤ x.longs.length)
       (recordFault b (s.ringEth r) = false → c.opcode ∈ assignedCmds → past = false →
        ∃ f : Fetched, f.ref.ring = r ∧ f.ref.handle = r * 2 ^ 25 + seq ∧ f.ref.tag = c.tag ∧ f.ref.op = c.opcode ∧ f.executor = executorOf c.opcode ∧
          (∀ k < 10, f.args.getD k 0 = fieldLE c.args (4 * k) 4) ∧ due t r = due s r ∧
          (f.executor = .steward → t.host.steward.queue = s.host.steward.queue ++ [f] ∧ t.host.waiting = s.host.waiting) ∧
          (f.executor ≠ .steward → t.host.waiting = s.host.waiting ++ [f] ∧ t.host.steward = s.host.steward) ∧
          t = { s with regs := t.regs, host := t.host }) ∧
       (recordFault b (s.ringEth r) = true → ∃ p, due t r = due s r ++ [p] ∧ p.status = .invalid ∧ p.detail = 0xFFFF0001 ∧ p.final = true ∧
          t.ctr = (s.count 0x221).ctr ∧ t.host.waiting = s.host.waiting ∧ t.host.steward = s.host.steward) ∧
       (recordFault b (s.ringEth r) = false → c.opcode ∉ assignedCmds → ∃ p, due t r = due s r ++ [p] ∧ p.status = .invalid ∧ p.final = true ∧
          t.ctr = s.ctr ∧ t.host.waiting = s.host.waiting ∧ t.host.steward = s.host.steward) ∧
       (recordFault b (s.ringEth r) = false → c.opcode ∈ assignedCmds → past = true → ∃ p, due t r = due s r ++ [p] ∧ p.status = .busy ∧ p.detail = 0x40 ∧ p.final = true ∧
          t.ctr = (s.count 0x226).ctr ∧ t.host.waiting = s.host.waiting ∧ t.host.steward = s.host.steward)))

/-- A due record is written into the next completion slot with the pass's PHASE, or waits for a free slot. On a ring of the host bus with a free slot, the oldest due record is written as 32 bytes at slot CTAIL mod 256, CTAIL rises by 1 and the record leaves the due list; its output data goes to its buffer in the window or in host memory, and the window outside the slot and the buffer is as before; a message is sent only for a record that asks for one, and at once where COUNT is at most 1. On a ring bound to Ethernet the record of a command without output leaves in a numbered datagram that is kept until it is acknowledged. A record of the maintenance port leaves its list. With no free slot the record stays due, CPL_FULL reads 1, and the wait is counted under 0x222 once. -/
def Obligations.CompletionRecordTakesTheNextSlot : Prop :=
  (∀ (c : Cpl) (rest : List Cpl) (s : State), s.host.mnt = c :: rest → ∃ t, exec (.completionRecordWrite 128) s = .next t ∧ t.host.mnt = rest ∧ t.host.rings = s.host.rings) ∧
  ∀ (r : Nat) (hr : r < 129) (c : Cpl) (rest : List Cpl) (s : State), r < 128 → (s.host.rings.at' r {}).due = c :: rest →
    let ct := s.rd Reg.RNG_CPL_TAIL_CTAIL [r]
    let used := ((ct : Int) - s.rd Reg.RNG_CPL_HEAD_CHEAD [r]) % 65536
    let x := s.host.rings.at' r {}
    let rec_ := cplRecBytes c (decide (x.written / 256 % 2 = 0)) (stamp32 s.time.d)
    let slot := 0x4000 * r + 0x2000 + 32 * (ct % 256)
    let asks := s.flag Reg.RNG_IRQ_CFG_ALL [r] = true ∨ (c.final = true ∧ c.ref.irq = true)
    (used < 256 → s.flag Reg.RNG_CTL_TRANSPORT [r] = false →
      ∃ t, exec (.completionRecordWrite ⟨r, hr⟩) s = .next t ∧ due t r = rest ∧ t.rd Reg.RNG_CPL_TAIL_CTAIL [r] = (ct + 1) % 65536 ∧
        (∀ k < 32, t.winByte (slot + k) = rec_.getD k 0) ∧
        (∀ a, a < slot ∨ slot + 32 ≤ a → t.winByte a =
          if c.ref.bufHost = false ∧ c.ref.bufAddr ≤ a ∧ a < c.ref.bufAddr + c.data.length ∧ a < 0x400000 then c.data.getD (a - c.ref.bufAddr) 0 else s.winByte a) ∧
        (t.host.toHost = if c.ref.bufHost = true ∧ c.data ≠ [] then (c.ref.bufAddr, c.data) :: s.host.toHost else s.host.toHost) ∧
        (¬ asks → t.host.sent = s.host.sent ∧ t.host.pba = s.host.pba) ∧
        (asks → s.rd Reg.RNG_IRQ_CFG_COUNT [r] ≤ 1 → r ∉ s.host.pba → s.masked r = false → t.host.sent = r :: s.host.sent) ∧
        t.ctr = s.ctr ∧ t = { s with regs := t.regs, host := t.host }) ∧
    (used < 256 → s.flag Reg.RNG_CTL_TRANSPORT [r] = true → c.data = [] →
      let q := (s.host.eth.at' r {}).dseqOut
      ∃ t, exec (.completionRecordWrite ⟨r, hr⟩) s = .next t ∧ due t r = rest ∧ t.rd Reg.RNG_CPL_TAIL_CTAIL [r] = (ct + 1) % 65536 ∧ t.host.window = s.host.window ∧
        (t.host.eth.at' r {}).dseqOut = (q + 1) % 2 ^ 32 ∧ (t.host.eth.at' r {}).ackDue = none ∧
        (t.host.eth.at' r {}).unacked = (s.host.eth.at' r {}).unacked ++ [{ ty := 2, dseq := q, handle := 0, offset := 0, payload := rec_, sentAt := s.runNs }]) ∧
    (256 ≤ used → ∃ t, exec (.completionRecordWrite ⟨r, hr⟩) s = .next t ∧ due t r = due s r ∧ t.flag Reg.RNG_STAT_CPL_FULL [r] = true ∧
      t.ctr = (if x.waitCounted then s else s.count 0x222).ctr ∧ (t.host.rings.at' r {}).waitCounted = true ∧ t.host.window = s.host.window)

/-- The tick at which a vector's pending bit sets is stamped, whether the message goes out or waits, and a read latches both halves. When the message of a vector that is not pending becomes due, its stamp is the tick in stamp64 format, both when the vector is unmasked and the message goes out and when it is masked and the pending bit waits; no other vector's stamp changes. A read of RNG_VEC_STAMP_LO_v returns the bytes that it addresses of the low half and latches the stamp whose high half RNG_VEC_STAMP_HI_v then shows, and changes nothing else; a read beyond the word goes on with the registers that follow. -/
def Obligations.PendingStampAndLatchOfEachVector : Prop :=
  (∀ (v : Nat) (s : State), v ∉ s.host.pba →
    let t := s.msi v
    t.host.stamps.look v = some ((s.time.d.sec % 2 ^ 34) * 2 ^ 30 + s.time.d.ns) ∧ (∀ u, u ≠ v → t.host.stamps.look u = s.host.stamps.look u) ∧
    (s.masked v = false → t.host.sent = v :: s.host.sent ∧ t.host.pba = s.host.pba) ∧
    (s.masked v = true → t.host.sent = s.host.sent ∧ t.host.pba = s.host.pba ++ [v])) ∧
  (∀ (vec : Fin 144) (off : Fin 4) (len : Nat) (s : State), ∃ t, exec (.vecStampRead vec off len) s = .next (readOn t (regAddr Reg.RNG_VEC_STAMP_LO [vec.val]) off len) ∧
    t.host.readData = wordPart (s.host.stamps.at' vec.val 0 % 2 ^ 32) off len ∧
    t.shownWord Reg.RNG_VEC_STAMP_HI vec.val 0 = some (s.host.stamps.at' vec.val 0 / 2 ^ 32) ∧
    t = { s with host := { s.host with stampLatch := t.host.stampLatch, readData := t.host.readData } })

/-- A device cause sends its message when its bit rises unmasked, and not again while it reads 1. For each of the 16 causes: arising while the bit reads 1 changes nothing. Arising while it reads 0 sets the bit and no other, and its vector's message is due exactly when its mask bit is 0. A host write of RNG_DEV_CAUSE that clears the bit in the slot in which the cause arises again leaves the bit 1. -/
def Obligations.DeviceCauseSendsOncePerRise : Prop :=
  ∀ (i : Nat) (s : State), i < 16 →
    (bitOf (s.rd Reg.RNG_DEV_CAUSE_CAUSE) i = true → s.cause i = s) ∧
    (bitOf (s.rd Reg.RNG_DEV_CAUSE_CAUSE) i = false →
      (∀ j, j < 16 → bitOf ((s.cause i).rd Reg.RNG_DEV_CAUSE_CAUSE) j = (decide (j = i) || bitOf (s.rd Reg.RNG_DEV_CAUSE_CAUSE) j)) ∧
      (s.cause i).host = (if bitOf (s.rd Reg.RNG_DEV_MASK_MASK) i then s else s.msi (128 + i)).host) ∧
    (∀ v hw, bitOf hw i = true → bitOf ((s.causeWrite v hw).rd Reg.RNG_DEV_CAUSE_CAUSE) i = true)

/-- Rings start, stop and are reset without touching any block but the host interface. EN cleared puts the ring into INIT; EN set starts it while the function is ready. The function's readiness starts every enabled ring, and in reset it changes nothing. A function-level reset and PERST# leave every ring in INIT with its indices and sequence number at 0 and no record due, clear the MSI-X table, the pending bits and the cause bits, leave the executors' commands, and, with no arbiter in use, change nothing but registers and the host interface. The time limit sends the message that waits for it, and unmasking a vector sends what is pending. -/
def Obligations.RingStatesAndResetsOfTheHostInterface : Prop :=
  (∀ (ring : Fin 128) (s : State), exec (.ringEnWrite ring false) s = .next ((s.wrb Reg.RNG_CTL_EN false [ring.val]).wr Reg.RNG_STAT_STATE 0 [ring.val]) ∧
    (s.host.ready = true → s.rd Reg.RNG_STAT_STATE [ring.val] ≠ 1 →
      ∃ t, exec (.ringEnWrite ring true) s = .next t ∧ t.rd Reg.RNG_STAT_STATE [ring.val] = 1 ∧ t.rd Reg.RNG_CTL_EN [ring.val] = 1 ∧
        t.rd Reg.RNG_CMD_HEAD_HEAD [ring.val] = 0 ∧ t.rd Reg.RNG_SEQ_SEQ [ring.val] = 0 ∧ t = { s with regs := t.regs, host := { s.host with rings := t.host.rings } })) ∧
  (∀ s : State, s.power.inReset = false → ∃ t, exec .pcieFunctionReady s = .next t ∧ t.host.ready = true ∧ t.host.perst = false ∧
    (∀ r, r < 128 → s.flag Reg.RNG_CTL_EN [r] = true → t.rd Reg.RNG_STAT_STATE [r] = 1) ∧
    t = { s with regs := t.regs, host := { s.host with ready := true, perst := false, rings := t.host.rings } }) ∧
  (∀ s : State, s.power.inReset = true → exec .pcieFunctionReady s = .next s) ∧
  (∀ s : State, ∃ t, exec (.functionLevelReset []) s = .next t ∧ t.host.ready = false ∧ t.host.msix = [] ∧ t.host.pba = [] ∧ t.rd Reg.RNG_DEV_CAUSE_CAUSE = 0 ∧
    (∀ r, r < 128 → t.rd Reg.RNG_STAT_STATE [r] = 0 ∧ t.rd Reg.RNG_CMD_HEAD_HEAD [r] = 0 ∧ t.rd Reg.RNG_CMD_TAIL_TAIL [r] = 0 ∧ t.rd Reg.RNG_SEQ_SEQ [r] = 0 ∧ due t r = []) ∧
    t.host.waiting = s.host.waiting ∧ t.host.steward = s.host.steward ∧
    (s.fab.arbs = [] → t = { s with regs := t.regs, host := { s.host with ready := false, msix := [], pba := [], rings := t.host.rings } }) ∧
    exec (.perstNAssert []) s = .next { t with host := { t.host with perst := true } }) ∧
  (∀ (ring : Fin 128) (s : State) (f : Nat), (s.host.rings.at' ring.val {}).irqFirst = some f →
    s.rd Reg.RNG_IRQ_CFG_TIME_US [ring.val] ≠ 0 → f + 1000 * s.rd Reg.RNG_IRQ_CFG_TIME_US [ring.val] ≤ s.runNs →
    exec (.irqTimeLimit ring) s = .next ((s.onRing ring.val (fun x => { x with irqDue := 0, irqFirst := none })).msi ring.val)) ∧
  (∀ (ring : Fin 128) (s : State), (s.host.rings.at' ring.val {}).irqFirst = none → exec (.irqTimeLimit ring) s = .next s) ∧
  (∀ (vec : Fin 144) (s : State), vec.val ∈ s.host.pba → ∃ t, exec (.msixVectorUnmask vec) s = .next t ∧
    t.masked vec.val = false ∧ t.host.sent = vec.val :: s.host.sent ∧ vec.val ∉ t.host.pba ∧
    t = { s with host := { s.host with msix := t.host.msix, pba := t.host.pba, sent := t.host.sent } })

/-- The Steward takes a waiting command of the next ring in turn, and a restart aborts what it interrupted. A free Steward takes the first waiting command of the first ring from its turn on that has one, and the turn moves behind that ring. A watchdog reset is counted under 0x223 and hangs it, leaving the waiting commands in place, and notes whether a clause of it was open. When it serves again and no approval was in hand, STW_OK reads 1 and the interrupted command completes ABORTED, or TORN where its clause was torn, with STW_RESTART set; an approval in hand is given up, and the proposal waits for it again. A Steward that serves is not changed. -/
def Obligations.StewardServesRingsInTurnAndRestarts : Prop :=
  (∀ (s : State) (f : Fetched) (k : Nat), s.host.steward.hung = false → s.host.steward.current = none → s.flag Reg.RNG_GLB_STAT_STW_OK = true → s.sec.keysAt = none →
    k < 256 → f.ref.ring = (s.host.steward.turn + k) % 256 → s.host.steward.queue.find? (fun g => decide (g.ref.ring = f.ref.ring)) = some f →
    (∀ j, j < k → ∀ g ∈ s.host.steward.queue, g.ref.ring ≠ (s.host.steward.turn + j) % 256) →
    exec .stewardTakeCommand s = .next { s with host := { s.host with steward := { s.host.steward with
      queue := s.host.steward.queue.erase f, turn := (f.ref.ring + 1) % 256, current := some f } } }) ∧
  (∀ s : State, ∃ t, exec (.stewardWatchdog []) s = .next t ∧ t.host.steward.hung = true ∧ t.host.steward.queue = s.host.steward.queue ∧
    t.host.steward.current = s.host.steward.current ∧ t.host.steward.tornClause = !(s.openClauses (fun o => decide (o = .steward))).isEmpty ∧
    (t.ctr.tab.at' 0x223 {}).value.toNat = ((s.ctr.tab.at' 0x223 {}).value.toNat + 1) % 2 ^ 48 ∧
    t.flag Reg.RNG_GLB_STAT_STW_OK = false ∧ t.host.waiting = s.host.waiting) ∧
  (∀ s : State, s.host.steward.hung = false → exec .stewardRestarted s = .next s) ∧
  (∀ (s : State) (p : SecProposal) (a : SecondApproval), s.host.steward.hung = true → s.sec.proposal = some p → p.second = some a →
    ∃ t, exec .stewardRestarted s = .next t ∧ t.flag Reg.RNG_GLB_STAT_STW_OK = true ∧ t.sec = { s.sec with proposal := some { p with second := none } } ∧ t.host.steward.hung = false) ∧
  (∀ s : State, s.host.steward.hung = true → s.sec.proposal = none → ∃ t, exec .stewardRestarted s = .next t ∧ t.flag Reg.RNG_GLB_STAT_STW_OK = true ∧
    t.host.steward = { s.host.steward with hung := false, tornClause := false, current := none } ∧
    (∀ f, s.host.steward.current = some f → OnRing s f.ref → ∃ p, due t f.ref.ring = due s f.ref.ring ++ [p] ∧ p.ref = f.ref ∧ p.final = true ∧ p.stwRestart = true ∧
      p.status = if s.host.steward.tornClause then .torn else .aborted) ∧
    (s.host.steward.current = none → t.host.rings = s.host.rings))

/-- Datagrams of an Ethernet ring. Before the start-up filter ends one is dropped and counted on its port; after it, one from anyone but the peer, malformed, or for a ring of the host bus is only counted under 0x225. Otherwise what it acknowledges is dropped first. Input in order is stored into the ring's data area; a duplicate is answered with an acknowledgement and any other is dropped. Command records in order that fit enter the command ring and TAIL advances; without room nothing more changes. A RESYNC restarts both directions and the ring's sequence number and discards the ring's records. -/
def Sys2Proof.Claims.RingDatagramsAreAccepted : Prop :=
  ∀ (port : Fin 6) (src : Word) (udp : BitVec 16) (b : List Byte) (s : State),
    let r := fieldLE b 4 1
    let a := s.acked r (fieldLE b 0x0C 4)
    let x := s.host.eth.at' r {}
    let good (ty : Nat) : Prop := s.fromPeer port.val src udp.toNat = true ∧ s.ringEth r = true ∧ dgramOk b ty false = true
    (s.field.filterEnded = false → exec (.cmd port src udp b) s = .next (s.filterDrop port.val) ∧ exec (.dataIn port src udp b) s = .next (s.filterDrop port.val) ∧
      exec (.ack port src udp b) s = .next (s.filterDrop port.val) ∧ exec (.resync port src udp b) s = .next (s.filterDrop port.val)) ∧
    (s.field.filterEnded = true →
      (¬ good 1 → exec (.cmd port src udp b) s = .next (s.count 0x225)) ∧ (¬ good 3 → exec (.dataIn port src udp b) s = .next (s.count 0x225)) ∧
      (¬ good 5 → exec (.ack port src udp b) s = .next (s.count 0x225)) ∧ (¬ good 6 → exec (.resync port src udp b) s = .next (s.count 0x225)) ∧
      (good 3 → fieldLE b 8 4 = x.dseqIn → ∃ t, exec (.dataIn port src udp b) s = .next t ∧
        t.host.window = (s.winWrite (0x200000 + 0x4000 * r + fieldLE b 0x14 4) ((b.drop 32).take (0x4000 - fieldLE b 0x14 4))).host.window ∧
        (t.host.eth.at' r {}).dseqIn = (fieldLE b 8 4 + 1) % 2 ^ 32 ∧ (t.host.eth.at' r {}).unacked = (a.host.eth.at' r {}).unacked ∧ (t.host.eth.at' r {}).ackDue.isSome = true ∧
        t = { s with regs := a.regs, host := { s.host with window := t.host.window, eth := t.host.eth } }) ∧
      (good 3 → fieldLE b 8 4 ≠ x.dseqIn → exec (.dataIn port src udp b) s = .next (if (x.dseqIn + 2 ^ 32 - fieldLE b 8 4) % 2 ^ 32 < 2 ^ 31 then a.ackTx r else a)) ∧
      (good 1 → 1 ≤ fieldLE b 5 1 → fieldLE b 5 1 ≤ 22 → (b.drop 32).length = 64 * fieldLE b 5 1 → fieldLE b 8 4 = x.dseqIn →
        (∀ u, a.cmdRecords r (b.drop 32) = some u → ∃ t, exec (.cmd port src udp b) s = .next t ∧ t.regs = u.regs ∧ t.host.window = u.host.window ∧
          (t.host.eth.at' r {}).dseqIn = (fieldLE b 8 4 + 1) % 2 ^ 32 ∧ t = { u with host := { u.host with eth := t.host.eth } }) ∧
        (a.cmdRecords r (b.drop 32) = none → exec (.cmd port src udp b) s = .next a)) ∧
      (good 1 → fieldLE b 5 1 < 1 ∨ 22 < fieldLE b 5 1 ∨ (b.drop 32).length ≠ 64 * fieldLE b 5 1 → exec (.cmd port src udp b) s = .next (a.count 0x225)) ∧
      (good 5 → exec (.ack port src udp b) s = .next a) ∧
      (good 6 → ∃ t, exec (.resync port src udp b) s = .next t ∧ (t.host.eth.at' r {}).dseqIn = 1 ∧ (t.host.eth.at' r {}).dseqOut = 0 ∧ (t.host.eth.at' r {}).unacked = [] ∧
        t.rd Reg.RNG_SEQ_SEQ [r] = 0 ∧ due t r = [] ∧ t = { s with regs := t.regs, host := { s.host with rings := t.host.rings, eth := t.host.eth } }))

/-- An acknowledgement drops every datagram up to its number, modulo 2^32, and frees the completion slots of the records among them; before anything was sent the number of all ones acknowledges nothing. -/
def Sys2Proof.Claims.AcknowledgementsDropWhatTheyCover : Prop :=
  ∀ (s : State) (r q : Nat), let x := s.host.eth.at' r {}
    (x.dseqOut = 0 → s.acked r 0xFFFFFFFF = s) ∧
    (q ≠ 0xFFFFFFFF ∨ x.dseqOut ≠ 0 →
      let covered (d : Datagram) : Bool := decide ((q + 2 ^ 32 - d.dseq) % 2 ^ 32 < 2 ^ 31)
      ((s.acked r q).host.eth.at' r {}) = { x with unacked := x.unacked.filter (fun d => !covered d) } ∧
      (r < 128 → (s.acked r q).rd Reg.RNG_CPL_HEAD_CHEAD [r] = (s.rd Reg.RNG_CPL_HEAD_CHEAD [r] + ((x.unacked.filter covered).filter (fun d => decide (d.ty = 2))).length) % 65536))

/-- What stays unacknowledged for 5 ms is counted under 0x224 each and sent again with its number; an owed acknowledgement leaves. The maintenance port counts any datagram outside MAINTENANCE or malformed under 0x225, stores input in order, takes the accepted commands in order, and restarts at a RESYNC. -/
def Sys2Proof.Claims.DatagramsAreResentAndMaintained : Prop :=
  (∀ (ring : Fin 128) (s : State), let x := s.host.eth.at' ring.val {}
    (∃ t, exec (.datagramResend ring) s = .next t ∧
      (t.host.eth.at' ring.val {}).unacked = x.unacked.map (fun d => if d.sentAt + 5000000 ≤ s.runNs then { d with sentAt := s.runNs } else d) ∧
      (t.ctr.tab.at' 0x224 {}).value.toNat = ((s.ctr.tab.at' 0x224 {}).value.toNat + (x.unacked.filter (fun d => decide (d.sentAt + 5000000 ≤ s.runNs))).length) % 2 ^ 48) ∧
    (∀ d, x.unacked = [d] → d.sentAt + 5000000 ≤ s.runNs → exec (.datagramResend ring) s = .next (((s.onEth ring.val (fun x => { x with unacked := [{ d with sentAt := s.runNs }] })).count 0x224).dgramTx
      ring.val d.ty (if d.ty = 2 then d.payload.length / 32 else 0) d.dseq d.handle d.offset d.payload))) ∧
  (∀ (ring : Fin 129) (s : State),
    ((s.host.eth.at' ring.val {}).ackDue = none → exec (.datagramAckTimer ring) s = .next s) ∧
    ((s.host.eth.at' ring.val {}).ackDue.isSome = true → ∃ t, exec (.datagramAckTimer ring) s = .next t ∧
      (t.host.eth.at' ring.val {}).ackDue = none ∧ (t.host.eth.at' ring.val {}).acksSent = (s.host.eth.at' ring.val {}).acksSent + 1)) ∧
  (∀ (b : List Byte) (s : State), let a := s.acked 128 (fieldLE b 0x0C 4)
    (s.keyMaintOk = false ∨ dgramOk b (fieldLE b 3 1) true = false → exec (.maintenanceDatagram b) s = .next (s.count 0x225)) ∧
    (s.keyMaintOk = true → dgramOk b 3 true = true → fieldLE b 8 4 = (s.host.eth.at' 128 {}).dseqIn → ∃ t, exec (.maintenanceDatagram b) s = .next t ∧
      t.host.mntArea = putBytes s.host.mntArea (fieldLE b 0x14 4) ((b.drop 32).take (0x4000 - fieldLE b 0x14 4)) ∧ (t.host.eth.at' 128 {}).dseqIn = (fieldLE b 8 4 + 1) % 2 ^ 32 ∧
      t = { s with host := { s.host with mntArea := t.host.mntArea, eth := t.host.eth } }) ∧
    (∀ u, s.keyMaintOk = true → dgramOk b 1 true = true → a.mntCmds (b.drop 32) = some u → (b.drop 32).length = 64 * fieldLE b 5 1 → fieldLE b 8 4 = (s.host.eth.at' 128 {}).dseqIn →
      ∃ t, exec (.maintenanceDatagram b) s = .next t ∧ t = { u with host := { u.host with eth := t.host.eth } } ∧ (t.host.eth.at' 128 {}).ackDue.isSome = true) ∧
    (s.keyMaintOk = true → dgramOk b 6 true = true → ∃ t, exec (.maintenanceDatagram b) s = .next t ∧ t.host.mnt = [] ∧ t.host.mntSeq = 0 ∧
      (t.host.eth.at' 128 {}).dseqIn = 1 ∧ (t.host.eth.at' 128 {}).unacked = [] ∧ t = { s with host := t.host }))

/-- Datagrams of an Ethernet ring are accepted in order from their peer, answered, and resent until acknowledged. Before the start-up filter ends a ring datagram is dropped and counted on its port; after it, one from anyone but the peer, malformed, or for a ring of the host bus is only counted under 0x225. Otherwise what it acknowledges is dropped first, up to its number modulo 2^32. Input in order is stored into the ring's data area; a duplicate is answered with an acknowledgement and any other is dropped. Command records in order that fit enter the command ring and TAIL advances; without room nothing more changes. A RESYNC restarts both directions and the ring's sequence number and discards the ring's records. What stays unacknowledged for 5 ms is counted under 0x224 each and sent again with its number; an owed acknowledgement leaves. The maintenance port counts any datagram outside MAINTENANCE or malformed under 0x225, stores input in order, takes the accepted commands in order, and restarts at a RESYNC. -/
def Obligations.EthernetRingsAcceptInOrder : Prop :=
  Claims.RingDatagramsAreAccepted ∧ Claims.AcknowledgementsDropWhatTheyCover ∧ Claims.DatagramsAreResentAndMaintained

/-- Arbiters grant by class, clause and rank. An emergency request goes first, one of the debug port only 64 handshake periods after its last grant; while a clause is open only its owner's port is granted, for the clause's target; otherwise a waiting request of the lowest rank is granted. A transfer of class LOCK opens a clause; the owner's ORDINARY one ends it, and so, counted, does the 32nd of class LOCK. After a transfer outside a clause the rotation of its rank goes on past its port. -/
def Sys2Proof.Claims.ArbitersGrantByRank : Prop :=
  ∀ (x : Arbiter) (a : Arb) (r : ArbReq),
    (x.choose a = some r → r ∈ x.queue) ∧
    (x.choose a = some r → (∃ q ∈ x.queue, q.cls = .emergency ∧ (q.port = .debug → 64 ≤ x.sinceDebug)) → r.cls = .emergency) ∧
    (x.choose a = some r → r.cls = .emergency → r.port = .debug → 64 ≤ x.sinceDebug) ∧
    (∀ c, x.choose a = some r → r.cls ≠ .emergency → x.clause = some c → r.port = c.port ∧ r.target = c.target) ∧
    (x.choose a = some r → r.cls ≠ .emergency → x.clause = none → ∀ q ∈ x.queue, q.cls ≠ .emergency → ∀ k, rankOf a q.port = some k → ∃ j, rankOf a r.port = some j ∧ j ≤ k) ∧
    (x.clause = none → r.cls = .lock → ∃ c, (x.take r).clause = some c ∧ c.port = r.port ∧ c.owner = r.owner ∧ c.target = r.target ∧ c.count = 1 ∧ c.addr = r.addr) ∧
    (∀ c b, x.clause = some c → x.active = some (r, b) →
      (r.cls = .ordinary → (x.finish a).1.clause = none ∧ (x.finish a).2 = false) ∧
      (r.cls = .lock → 32 ≤ c.count → (x.finish a).1.clause = none ∧ (x.finish a).2 = true) ∧
      (r.cls = .lock → c.count < 32 → (x.finish a).1.clause.isSome = true ∧ (x.finish a).2 = false)) ∧
    (∀ b k i, x.clause = none → x.active = some (r, b) → r.cls = .ordinary → rankOf a r.port = some k → (arbPorts a k)[i]? = some r.port →
      (x.finish a).1.turn.at' k 0 = (i + 1) % (arbPorts a k).length)

/-- A clause whose owner is silent lapses, is counted under 0x083, and a request that waits behind it is granted; an arbiter whose owner is not silent is not changed. A torn clause is counted under 0x081, shown where its target is a cell's bank, and marks exactly the points that it has written. A row that carries what happened at the arbiters acts on the state which that leaves. -/
def Sys2Proof.Claims.ClausesLapseAndTear : Prop :=
  (∀ (a : Arb) (s : State),
    ((s.arb a).starved = false → exec (.clauseLapse a) s = .next s) ∧
    (∀ c, (s.arb a).clause = some c → (s.arb a).active = none → (s.arb a).queue = [] → ∃ t, exec (.clauseLapse a) s = .next t ∧ (t.arb a).clause = none ∧
      (∀ b, arbKey b ≠ arbKey a → t.arb b = s.arb b) ∧ t = { s with fab := { s.fab with arbs := t.fab.arbs }, ctr := (s.count 0x083).ctr }) ∧
    (∀ c q, (s.arb a).clause = some c → (s.arb a).active = none → (s.arb a).queue = [q] → q.cls = .ordinary → q.port ≠ c.port → (rankOf a q.port).isSome = true →
      ∃ t, exec (.clauseLapse a) s = .next t ∧ (t.arb a).clause = none ∧ (t.arb a).active = some (q, false) ∧ (t.arb a).queue = [] ∧ t.ctr = (s.count 0x083).ctr)) ∧
  (∀ (c : Clause) (s : State), (s.tear c).ctr = (s.count 0x081).ctr ∧ (∀ k ∈ c.points, ((s.tear c).work k).torn = true) ∧ (∀ k, k ∉ c.points → (s.tear c).work k = s.work k) ∧
    (∀ cell b, c.target = .bank cell b → (s.tear c).flag Reg.CEL_STATUS_TORN [cell] = true)) ∧
  (∀ (l : List FabEvent) (cell : Fin 64) (n : Nat) (addr : BitVec 25) (w : Bool) (size : Nat) (v : BitVec 64) (s : State),
    exec (.functionLevelReset l) s = exec (.functionLevelReset []) (s.traffic l) ∧ exec (.perstNAssert l) s = exec (.perstNAssert []) (s.traffic l) ∧
    exec (.stewardWatchdog l) s = exec (.stewardWatchdog []) (s.traffic l) ∧ exec (.cellSeal cell n l) s = exec (.cellSeal cell n []) (s.traffic l) ∧
    exec (.debugBlockAccess addr w size v l) s = exec (.debugBlockAccess addr w size v []) (s.traffic l))

/-- Lanes, refreshes and the cell controls. The first fault of a lane, and any of a failed one, changes nothing; a fault of its repetition fails the lane, counts 0x088 and signals LANE_FAULT to the Conjunction. An emergency refresh enters the queue of a busy controller, and a free one performs it when one is owed. RELEASE is taken for a SAFE cell under the key, refused and counted without it, and has no effect on a cell that is not SAFE. PEAK_CLR waits for the base mark. -/
def Sys2Proof.Claims.LanesRefreshesAndCellControls : Prop :=
  (∀ (lane : Fin 256) (s : State), let l := laneOf (lane.val / 4) (lane.val % 4)
    exec (.laneCodewordError lane false) s = .next s ∧ exec (.laneHandshakeTimeout lane false) s = .next s ∧
    (l ∈ s.fab.failed → exec (.laneCodewordError lane true) s = .next s ∧ exec (.laneHandshakeTimeout lane true) s = .next s) ∧
    (l ∉ s.fab.failed → ∃ t, exec (.laneCodewordError lane true) s = .next t ∧ exec (.laneHandshakeTimeout lane true) s = .next t ∧
      t.fab = { s.fab with failed := s.fab.failed ++ [l] } ∧ t.ctr = (s.count 0x088).ctr ∧ t.saf = { s.saf with arrived := s.saf.arrived ++ [.laneFault] } ∧ t.pts = s.pts)) ∧
  (∀ (ch : Fin 2) (s : State), let x := s.arb (.ddr ch.val)
    (x.active.isSome = true → ∃ t q, exec (.refreshEmergency ch) s = .next t ∧ (t.arb (.ddr ch.val)).queue = x.queue ++ [q] ∧ q.cls = .emergency ∧ q.port = .refresh ∧
      t = { s with fab := { s.fab with arbs := t.fab.arbs } }) ∧
    (x.active = none → x.queue = [] → ∃ t, exec (.refreshEmergency ch) s = .next t ∧ t.fab.refreshOwed.at' ch.val 0 = s.fab.refreshOwed.at' ch.val 0 - 1 ∧
      t.fab.refreshes.at' ch.val 0 = s.fab.refreshes.at' ch.val 0 + (if s.fab.refreshOwed.at' ch.val 0 = 0 then 0 else 1) ∧ (t.arb (.ddr ch.val)).active.isSome = true ∧
      t = { s with fab := { s.fab with arbs := t.fab.arbs, refreshOwed := t.fab.refreshOwed, refreshes := t.fab.refreshes } })) ∧
  (∀ (cell : Fin 64) (s : State),
    (s.keyOk = true → s.cellSafe cell.val = true → exec (.celReleaseWrite cell) s = .next (s.wr Reg.CEL_CTL_RELEASE 1 [cell.val])) ∧
    (s.keyOk = true → s.cellSafe cell.val = false → exec (.celReleaseWrite cell) s = .next s) ∧
    (s.keyOk = false → exec (.celReleaseWrite cell) s = .next (if s.flag Reg.CEL_CTL_RELEASE [cell.val] then s else s.count 0x203))) ∧
  (∀ (cell : Fin 64) (s : State), ∃ t, exec (.peakClrWrite cell) s = .next t ∧ cell.val ∈ t.fab.peakClr ∧ t = { s with fab := { s.fab with peakClr := t.fab.peakClr } })

/-- The debug port. With the gate closed every access of the DBG block is counted under 0x1F6, reads 0 and changes nothing else, an 8-byte one twice; with it open DBG_SEL is stored and read, and an access of a selected window bank is a request: a free arbiter grants it at once, counted under 0x084, when 64 periods have passed since the last, and the word is read or written; before that it waits. -/
def Sys2Proof.Claims.DebugPortAccesses : Prop :=
  (∀ (addr : BitVec 25) (size : Nat) (v : BitVec 64) (s : State), s.flag Reg.SEC_DBG_OPEN = false →
    (size < 8 → exec (.debugBlockAccess addr false size v []) s = .next ((s.readBegin.returned 0 size).count 0x1F6)) ∧
    (4 ≤ size → size < 8 → exec (.debugBlockAccess addr true size v []) s = .next (s.count 0x1F6)) ∧
    (size < 4 → exec (.debugBlockAccess addr true size v []) s = .next ((s.count 0x201).count 0x1F6)) ∧
    exec (.debugBlockAccess addr true 8 v []) s = .next ((s.count 0x1F6).count 0x1F6) ∧
    exec (.debugBlockAccess addr false 8 v []) s = .next ((((s.readBegin.returned 0 4).count 0x1F6).returned 0 4).count 0x1F6)) ∧
  (∀ (v : BitVec 64) (s : State), s.flag Reg.SEC_DBG_OPEN = true →
    exec (.debugBlockAccess 0x1F00000 true 4 v []) s = .next (s.setReg Reg.DBG_SEL (v.toNat % 2048)) ∧
    exec (.debugBlockAccess 0x1F00000 false 4 v []) s = .next (s.readBegin.returned (s.reg Reg.DBG_SEL))) ∧
  (∀ (addr : BitVec 25) (v : BitVec 64) (s : State) (b base : Nat), s.flag Reg.SEC_DBG_OPEN = true → s.dbgTarget = some (base, .window b) → 0x80000 ≤ addr.toNat % 0x100000 → addr.toNat % 4 = 0 →
    (s.arb (.window b)).active = none → (s.arb (.window b)).queue = [] →
    let k := base + (addr.toNat % 0x100000 - 0x80000) / 4
    (64 ≤ (s.arb (.window b)).sinceDebug →
      (∃ t, exec (.debugBlockAccess addr false 4 v []) s = .next t ∧ t.host.readData = s.winRead (4 * k) 4 ∧ t.ctr = (s.count 0x084).ctr ∧ (t.arb (.window b)).sinceDebug = 0 ∧
        t = { s with host := { s.host with readData := t.host.readData }, ctr := t.ctr, fab := { s.fab with arbs := t.fab.arbs } }) ∧
      ((s.arb (.window b)).clause = none → ∃ t, exec (.debugBlockAccess addr true 4 v []) s = .next t ∧ t.host.window = (s.winWrite (4 * k) (leBytes 4 (v.toNat % 2 ^ 32))).host.window ∧
        t = { s with host := { s.host with window := t.host.window }, ctr := (s.count 0x084).ctr, fab := { s.fab with arbs := t.fab.arbs } })) ∧
    ((s.arb (.window b)).sinceDebug < 64 → ∃ t q, exec (.debugBlockAccess addr true 4 v []) s = .next t ∧ (t.arb (.window b)).queue = [q] ∧ q.port = .debug ∧ q.cls = .emergency ∧
      t = { s with fab := { s.fab with arbs := t.fab.arbs } }))

/-- Arbiters, clauses, lanes, refreshes, the cell controls and the debug port act as chapter 03 says. An arbiter grants an emergency first, the debug port's only 64 handshake periods after its last grant; while a clause is open only its owner's port for its target; otherwise a waiting request of the lowest rank, after which the rotation goes on past its port. LOCK opens a clause; the owner's ORDINARY transfer, or its 32nd of class LOCK, ends it. A clause whose owner is silent lapses, counted under 0x083, and a request behind it is granted. A torn clause is counted under 0x081, shown at its cell, and marks exactly its points. A row that carries what happened at the arbiters acts on the state which that leaves. The first fault of a lane, and any of a failed one, changes nothing; a fault of its repetition fails the lane, counts 0x088 and signals LANE_FAULT. An emergency refresh waits at a busy controller, and a free one performs it when one is owed. RELEASE is taken for a SAFE cell under the key and refused and counted without it. PEAK_CLR waits for the base mark. With the gate closed every access of the DBG block is counted under 0x1F6, reads 0 and changes nothing else; with it open DBG_SEL is stored and read, and an access of a selected window bank is granted at once, counted under 0x084, or waits. -/
def Obligations.LanesClausesAndDebugPortAct : Prop :=
  Claims.ArbitersGrantByRank ∧ Claims.ClausesLapseAndTear ∧ Claims.LanesRefreshesAndCellControls ∧ Claims.DebugPortAccesses

/-- A tick adds the increment exactly and carries once into SEC. For a clock with NS below 1,000,000,000 and a 32-bit fraction, and an increment below one second: the clock one tick later has NS below 1,000,000,000 and a 32-bit fraction, and its whole value in units of 2^-32 ns is the old value plus the increment, modulo the 48-bit seconds. An increment that a commit admits is such an increment. -/
def Obligations.ClockAdvanceKeepsNanosecondsInRange : Prop :=
  (∀ (c : Clock) (incr : Nat), c.sec < 2 ^ 48 → c.ns < 1000000000 → c.frac < 2 ^ 32 → incr < 1000000000 * 2 ^ 32 →
    let t := c.advance incr
    t.ns < 1000000000 ∧ t.frac < 2 ^ 32 ∧ t.sec < 2 ^ 48 ∧
    (t.sec * 1000000000 + t.ns) * 2 ^ 32 + t.frac = ((c.sec * 1000000000 + c.ns) * 2 ^ 32 + c.frac + incr) % (2 ^ 48 * 1000000000 * 2 ^ 32)) ∧
  (∀ x, incrOk x = true → x < 1000000000 * 2 ^ 32)

/-- Every tick adds the same E to the run time and, while an image runs, to D. For every state with a 32-bit run-time fraction, a Tense tick raises the run time with its fraction by exactly E modulo 2^96, whatever the domains, sources and pulses do in that tick. While an image is in effect it moves D by the same E; without one, D is the clock of the source in effect where that source has one. -/
def Obligations.TickAdvancesRunTimeByE : Prop :=
  ∀ s : State, s.time.runFrac < 2 ^ 32 →
    let t := s.tenseTick
    t.time.run * 2 ^ 32 + t.time.runFrac = (s.time.run * 2 ^ 32 + s.time.runFrac + s.time.e) % 2 ^ 96 ∧
    (s.img.run.isSome = true → t.time.d = s.time.d.advance s.time.e) ∧
    (s.img.run = none → s.rd Reg.TNS_STATUS_ACTIVE ≠ 2 → t.time.d = if s.rd Reg.TNS_STATUS_ACTIVE = 1 then t.time.b.clk else t.time.a.clk)

/-- The slew correction closes the offset within its bound and the increment stays in range. While an image is in effect and HOLDOVER reads 0, the correction equals the offset where that is no larger than the bound that SLEW_PPM gives, with 500 ppm as its limit, and otherwise the bound with the offset's sign; with SLEW_PPM 0 it is 0. In HOLDOVER it is 0. Whenever it is not 0 the next increment lies within 1,000 ppm of nominal, and SLEWING tells whether it is 0. -/
def Obligations.SlewStaysWithinItsBound : Prop :=
  ∀ s : State,
    let max_ : Int := ((min (s.rd Reg.TNS_CTL_SLEW_PPM) 500 * 2 ^ 33 / 1000000 : Nat) : Int)
    (s.img.run.isSome = true → s.flag Reg.TNS_STATUS_HOLDOVER = false →
      (-max_ ≤ s.deltaFix → s.deltaFix ≤ max_ → s.slew = s.deltaFix) ∧ (max_ < s.deltaFix → s.slew = max_) ∧ (s.deltaFix < -max_ → s.slew = -max_) ∧
      (s.rd Reg.TNS_CTL_SLEW_PPM = 0 → s.slew = 0)) ∧
    (s.flag Reg.TNS_STATUS_HOLDOVER = true → s.slew = 0) ∧
    (s.slew ≠ 0 → 0x1FF7CED92 ≤ s.discipline.time.e ∧ s.discipline.time.e ≤ 0x20083126E) ∧
    s.discipline.flag Reg.TNS_STATUS_SLEWING = decide (s.slew ≠ 0)

/-- Reads of the time registers capture one tick, and TIME_READ returns it. A read of TNS_NS returns the bytes that it addresses of NS of D and leaves SEC, the run time, the capture stamp and N of that tick in their registers. A read of a domain's NS does the same for its SEC. A read of a time pin's seconds returns them and clears VALID only. TIME_READ returns D, both domains, the run time, the stamp and N. None of them changes anything but registers, the value read and the record; a read beyond its word goes on with the registers that follow. -/
def Sys2Proof.Claims.TimeReadsCaptureOneTick : Prop :=
  (∀ (off : Fin 4) (len : Nat) (s : State), ∃ t, exec (.tnsNsRead off len) s = .next (readOn t (regAddr Reg.TNS_NS []) off len) ∧
    t.host.readData = wordPart s.time.d.ns off len ∧
    t.rd64 Reg.TNS_SEC_LO_SEC_LO Reg.TNS_SEC_HI_SEC_HI = s.time.d.sec % 2 ^ 32 + 2 ^ 32 * (s.time.d.sec / 2 ^ 32 % 2 ^ 16) ∧
    t.rd64 Reg.TNS_RUN_LO_RUN_LO Reg.TNS_RUN_HI_RUN_HI = s.time.run % 2 ^ 64 ∧
    t.rd Reg.TNS_STAMP32_STAMP = (s.time.d.sec * 1000000000 + s.time.d.ns) % 2 ^ 32 ∧
    t.rd64 Reg.TNS_CYCLE_LO_N_LO Reg.TNS_CYCLE_HI_N_HI = s.time.n % 2 ^ 64 ∧
    t = { s with regs := t.regs, host := { s.host with readData := t.host.readData } }) ∧
  (∀ (x : Fin 2) (off : Fin 4) (len : Nat) (s : State), ∃ t, exec (.tnsDomainNsRead x off len) s = .next (readOn t (regAddr Reg.TNS_X_NS [x.val]) off len) ∧
    t.host.readData = wordPart (s.dom x.val).clk.ns off len ∧ t.rd Reg.TNS_X_SEC_LO_SEC_LO [x.val] = (s.dom x.val).clk.sec % 2 ^ 32 ∧
    t.rd Reg.TNS_X_SEC_HI_SEC_HI [x.val] = (s.dom x.val).clk.sec / 2 ^ 32 % 2 ^ 16 ∧
    t = { s with regs := t.regs, host := { s.host with readData := t.host.readData } }) ∧
  (∀ (pin : Fin 8) (off : Fin 4) (len : Nat) (s : State), ∃ t, exec (.tioSecRead pin off len) s = .next (readOn t (regAddr Reg.TNS_TIO_SEC [pin.val]) off len) ∧
    t.host.readData = wordPart (s.rd Reg.TNS_TIO_SEC_SEC [pin.val]) off len ∧ t.regs = (s.wr Reg.TNS_TIO_CFG_VALID 0 [pin.val]).regs ∧
    t = { s with regs := t.regs, host := { s.host with readData := t.host.readData } }) ∧
  (∀ (ref : CmdRef) (args : List Nat) (s : State), Admitted s 0x0A02 → 72 ≤ ref.bufLen →
    exec (.timeRead ref args) s = .next (s.complete (opRef ref 0x0A02) .ok 0 0
      (clockBytes s.time.d ++ clockBytes s.time.a.clk ++ clockBytes s.time.b.clk ++ leBytes 8 s.time.run ++ leBytes 4 (stamp32 s.time.d) ++ leBytes 4 0 ++ leBytes 8 s.time.n)))

/-- The first tick after PLL lock starts time, and the loss and return of the reference only show. At PLL lock D and both domains take the retention seconds with NS 0, E is 2.0 ns, the run time is 0, N is 8,000 times the seconds and SYNC reads 0; a second lock changes nothing. While the reference is away time goes on and REF_LOST reads 1; when it returns REF_LOST reads 0. At a carry into SEC the retention seconds take SEC, and a pin in MODE 5 rises. -/
def Sys2Proof.Claims.TimeStartsAtPllLock : Prop :=
  (∀ s : State, s.time.locked = true → exec .pllLock s = .next s) ∧
  (∀ s : State, s.time.locked = false → s.time.retentionSec < 2 ^ 48 → ∃ t, exec .pllLock s = .next t ∧ t.time.locked = true ∧
    t.time.d = ⟨s.time.retentionSec, 0, 0⟩ ∧ t.time.a.clk = t.time.d ∧ t.time.b.clk = t.time.d ∧ t.time.e = 2 * 2 ^ 32 ∧ t.time.run = 0 ∧
    t.time.n = 8000 * s.time.retentionSec ∧ t.rd Reg.TNS_STATUS_SYNC = 0 ∧ t = { s with regs := t.regs, time := t.time }) ∧
  (∀ s : State, ∃ t, exec .refClockLost s = .next t ∧ t.time = { s.time with refOk := false } ∧ t.rd Reg.TNS_STATUS_REF_LOST = 1 ∧ t = { s with regs := t.regs, time := t.time, host := t.host }) ∧
  (∀ s : State, ∃ t, exec .refClockReturn s = .next t ∧ t.time = { s.time with refOk := true } ∧ t.rd Reg.TNS_STATUS_REF_LOST = 0 ∧ t = { s with regs := t.regs, time := t.time, host := t.host }) ∧
  (∀ s : State, ∃ t, exec .secCarry s = .next t ∧ t.time.retentionSec = s.time.d.sec ∧ t.time.d = s.time.d ∧ t.time.n = s.time.n ∧
    (∀ n, n < 8 → s.rd Reg.TNS_TIO_CFG_MODE [n] = 5 → t.time.tioLevel.look n = some true))

/-- Time starts at the first tick after PLL lock, and every read of it captures one tick. A read of TNS_NS returns the bytes that it addresses of NS of D and leaves SEC, the run time, the capture stamp and N of that tick in their registers. A read of a domain's NS does the same for its SEC. A read of a time pin's seconds returns them and clears VALID only. TIME_READ returns D, both domains, the run time, the stamp and N. None of them changes anything but registers, the value read and the record; a read beyond its word goes on with the registers that follow. At PLL lock D and both domains take the retention seconds with NS 0, E is 2.0 ns, the run time is 0, N is 8,000 times the seconds and SYNC reads 0; a second lock changes nothing. While the reference is away time goes on and REF_LOST reads 1; when it returns REF_LOST reads 0. At a carry into SEC the retention seconds take SEC, and a pin in MODE 5 rises. -/
def Obligations.TimeStartsAndItsReadsCaptureOneTick : Prop := Claims.TimeReadsCaptureOneTick ∧ Claims.TimeStartsAtPllLock

/-- Writes of the domains and of DSEL, and PTP messages. A write of INCR_HI stores it and asks for the commit; a write of a domain's control stores its fields and with STEP asks for the phase step; neither moves D. A DSEL write stores SLEW_PPM, AUTO and the choice for the next base mark; on a unit forced to LINK, or for code 3, DSEL keeps its value and REJ is set. A received event message is stamped in the domain whose number it carries, else in D, less the receive latency, and its Sync restarts that domain's timeout. A Sync timeout leaves A_OK and B_OK showing whether each domain is OK. -/
def Sys2Proof.Claims.DomainWritesAndPtpMessages : Prop :=
  (∀ (x : Fin 2) (v : Word) (s : State), ∃ t, exec (.incrCommitWrite x v) s = .next t ∧ (t.dom x.val) = { s.dom x.val with commit := true } ∧
    t.rd Reg.TNS_X_INCR_HI_INT [x.val] = bitsOf v.toNat Reg.TNS_X_INCR_HI_INT.hi Reg.TNS_X_INCR_HI_INT.lo ∧ t.time.d = s.time.d ∧ t = { s with regs := t.regs, time := t.time }) ∧
  (∀ (x : Fin 2) (v : Word) (s : State), ∃ t, exec (.domainStepWrite x v) s = .next t ∧ (t.dom x.val) = { s.dom x.val with step := bitOf v.toNat 0 || (s.dom x.val).step } ∧ t.time.d = s.time.d ∧
    t.rd Reg.TNS_X_CTL_PTP_DOMAIN [x.val] = bitsOf v.toNat Reg.TNS_X_CTL_PTP_DOMAIN.hi Reg.TNS_X_CTL_PTP_DOMAIN.lo ∧
    t.rd Reg.TNS_X_CTL_TMO [x.val] = bitsOf v.toNat Reg.TNS_X_CTL_TMO.hi Reg.TNS_X_CTL_TMO.lo ∧ t = { s with regs := t.regs, time := t.time, host := t.host }) ∧
  (∀ (v : Word) (s : State),
    let stored (t : State) : Prop := t.rd Reg.TNS_CTL_SLEW_PPM = bitsOf v.toNat 24 16 ∧ t.rd Reg.TNS_CTL_AUTO = bitsOf v.toNat 4 4 ∧ t = { s with regs := t.regs, time := t.time }
    (s.forcedLink = false → bitsOf v.toNat 1 0 ≠ 3 → ∃ t, exec (.dselWrite v) s = .next t ∧ stored t ∧
      t.time = { s.time with dselPending := some (bitsOf v.toNat 1 0) } ∧ t.rd Reg.TNS_CTL_DSEL = bitsOf v.toNat 1 0) ∧
    (s.forcedLink = true ∨ bitsOf v.toNat 1 0 = 3 → ∃ t, exec (.dselWrite v) s = .next t ∧ stored t ∧ t.time = s.time ∧ t.rd Reg.TNS_CTL_DSEL = s.rd Reg.TNS_CTL_DSEL ∧
      t.flag Reg.TNS_STATUS_REJ = true)) ∧
  (∀ (port : Fin 6) (dn : Fin 256) (sync : Bool) (s : State),
    let x := s.rd Reg.ETH_PORT_CFG_PTP_DOM [port.val]
    let late (c : Clock) : Nat := stamp64 (c.move (-(s.rd Reg.ETH_LAT_RX_NS [port.val] : Int)))
    ((x = 1 ∨ x = 2) → s.rd Reg.TNS_X_CTL_PTP_DOMAIN [x - 1] = dn.val → ∃ t, exec (.ptpEventRx port dn sync) s = .next t ∧
      t.time.ptpStamp.look port.val = some (x, late (s.dom (x - 1)).clk) ∧ (∀ p, p ≠ port.val → t.time.ptpStamp.look p = s.time.ptpStamp.look p) ∧
      (t.dom (x - 1)) = (if sync then { s.dom (x - 1) with lastSync := some s.runNs } else s.dom (x - 1)) ∧ t.time.d = s.time.d ∧ t = { s with regs := t.regs, time := t.time, host := t.host }) ∧
    (¬ ((x = 1 ∨ x = 2) ∧ s.rd Reg.TNS_X_CTL_PTP_DOMAIN [x - 1] = dn.val) → ∃ t, exec (.ptpEventRx port dn sync) s = .next t ∧
      t.time.ptpStamp.look port.val = some (0, late s.time.d) ∧ (∀ p, p ≠ port.val → t.time.ptpStamp.look p = s.time.ptpStamp.look p) ∧
      t.time.a = s.time.a ∧ t.time.b = s.time.b ∧ t.time.d = s.time.d ∧ t = { s with regs := t.regs, time := t.time, host := t.host })) ∧
  (∀ (x : Fin 2) (s : State), s.time.locked = true → ∃ t, exec (.ptpSyncTimeout x) s = .next t ∧
    t.flag Reg.TNS_STATUS_A_OK = s.domOk 0 ∧ t.flag Reg.TNS_STATUS_B_OK = s.domOk 1 ∧ t.time = s.time ∧ t = { s with regs := t.regs, host := t.host })

/-- TIME_STEP and SOURCE_SELECT. TIME_STEP completes INVALID for a mark fewer than 8 cycles ahead, and in HOLDOVER; DENIED with DETAIL 6 on a unit forced to LINK; BUSY with a step pending; else it is acknowledged and waits for its mark with STEP_PEND 1. At its mark, away from STOP, D moves by q, the cycle number by q / 125,000, STEP_PEND clears and the command completes OK. SOURCE_SELECT completes INVALID above code 2; else it completes OK with DSEL written and the choice waiting for the next base mark, or, on a unit forced to LINK, with REJ set and DSEL kept. At the base mark the choice is in effect where AUTO is 0. That a forced unit answers so is the model's reading (log entry 12). -/
def Sys2Proof.Claims.TimeCommandsAct : Prop :=
  (∀ (ref : CmdRef) (args : List Nat) (s : State), let nt := if arg64 args 0 = 0 then s.time.n + 8 else arg64 args 0
    (nt < s.time.n + 8 → exec (.timeStep ref args) s = .next (s.complete (longRef ref 0x0A01) .invalid)) ∧
    (s.time.n + 8 ≤ nt → s.flag Reg.TNS_STATUS_HOLDOVER = true → exec (.timeStep ref args) s = .next (s.complete (longRef ref 0x0A01) .invalid)) ∧
    (Admitted s 0x0A01 → s.time.n + 8 ≤ nt → s.flag Reg.TNS_STATUS_HOLDOVER = false →
      (s.forcedLink = true → exec (.timeStep ref args) s = .next ((s.accept (longRef ref 0x0A01)).complete (longRef ref 0x0A01) .denied 6)) ∧
      (s.forcedLink = false → s.time.stepPend.isSome = true → exec (.timeStep ref args) s = .next (s.complete (longRef ref 0x0A01) .busy)) ∧
      (s.forcedLink = false → s.time.stepPend = none → ∃ t, exec (.timeStep ref args) s = .next t ∧
        t.time = { s.time with stepPend := some { mark := nt, ref := some (longRef ref 0x0A01) } } ∧
        t.rd Reg.TNS_STATUS_STEP_PEND = 1 ∧ t.host = (s.accept (longRef ref 0x0A01)).host ∧ t = { s with regs := t.regs, time := t.time, host := t.host }))) ∧
  (∀ (s : State) (p : TimeStepPend) (r : CmdRef), s.time.stepPend = some p → p.ref = some r → p.q = none →
    (s.time.n < p.mark → s.stepMark = s) ∧
    (p.mark ≤ s.time.n → s.stopAtMark = false → s.stepQ ≠ 0 → ∃ u : State, s.stepMark = u.complete r .ok ∧ u.time.d = s.time.d.move s.stepQ ∧
      u.time.n = (((s.time.n : Int) + Int.tdiv s.stepQ 125000) % ((2 ^ 64 : Nat) : Int)).toNat ∧ u.time.stepPend = none ∧ u.rd Reg.TNS_STATUS_STEP_PEND = 0) ∧
    (p.mark ≤ s.time.n → s.stopAtMark = true → ∃ u : State, s.stepMark = u.complete r .denied 1 ∧ u.time = { s.time with stepPend := none })) ∧
  (∀ (ref : CmdRef) (args : List Nat) (s : State),
    (2 < argN args 0 → exec (.sourceSelect ref args) s = .next (s.complete (opRef ref 0x0A03) .invalid)) ∧
    (Admitted s 0x0A03 → argN args 0 ≤ 2 → s.forcedLink = false → exec (.sourceSelect ref args) s =
      .next ((s.wr Reg.TNS_CTL_DSEL (argN args 0)).onTime (fun t => { t with dselPending := some (argN args 0) }) |>.complete (opRef ref 0x0A03) .ok)) ∧
    (Admitted s 0x0A03 → argN args 0 ≤ 2 → s.forcedLink = true → exec (.sourceSelect ref args) s = .next ((s.wr Reg.TNS_STATUS_REJ 1).complete (opRef ref 0x0A03) .ok))) ∧
  (∀ (s : State) (x : Nat), s.forcedLink = false → s.time.dselPending = some x → x ≤ 2 → s.flag Reg.TNS_CTL_AUTO = false →
    s.sourceMark.rd Reg.TNS_STATUS_ACTIVE = x ∧ s.sourceMark.time.dselPending = none)

/-- Time pins stamp edges and produce the pulse that was armed. An edge that a capture mode takes is stamped with D's seconds and nanoseconds and its 250 ps position, sets VALID, sets OVF as well when VALID already reads 1, and then reaches the units and sequences that its pin triggers; any other edge only moves the pin's level and triggers. A write of a pin's mode stores it, keeps an OVF that hardware sets in the same slot, and ends the pulse of another mode; output mode with a due time not yet past arms the pulse, and with one past sets LATE instead. An armed pulse whose due time D has reached raises the pin, its edge at the due time, until WIDTH µs later; one not yet due changes nothing. -/
def Sys2Proof.Claims.TimePinsCaptureAndPulse : Prop :=
  (∀ (pin : Fin 8) (rising : Bool) (sub : Fin 8) (s : State),
    let n := pin.val
    let m := s.rd Reg.TNS_TIO_CFG_MODE [n]
    let u := s.onTime (fun t => { t with tioLevel := t.tioLevel.put n rising })
    let takes := m = 3 ∨ (m = 1 ∧ rising = true) ∨ (m = 2 ∧ rising = false)
    (¬ takes → exec (.tioEdge pin rising sub) s = .next ((u.acqPin n rising sub.val).urgPin n rising)) ∧
    (takes → ∃ c : State, exec (.tioEdge pin rising sub) s = .next ((c.acqPin n rising sub.val).urgPin n rising) ∧
      c.rd Reg.TNS_TIO_NS_NS [n] = s.time.d.ns % 2 ^ 30 ∧ c.rd Reg.TNS_TIO_SEC_SEC [n] = s.time.d.sec % 2 ^ 32 ∧ c.rd Reg.TNS_TIO_CFG_SUB [n] = sub.val ∧
      c.flag Reg.TNS_TIO_CFG_VALID [n] = true ∧ c.flag Reg.TNS_TIO_CFG_OVF [n] = (s.flag Reg.TNS_TIO_CFG_OVF [n] || s.flag Reg.TNS_TIO_CFG_VALID [n]) ∧
      c = { u with regs := c.regs })) ∧
  (∀ (pin : Fin 8) (v hw : Word) (s : State), let m := bitsOf v.toNat Reg.TNS_TIO_CFG_MODE.hi Reg.TNS_TIO_CFG_MODE.lo
    let n := pin.val
    ∃ t, exec (.tioModeWrite pin v hw) s = .next t ∧ t.rd Reg.TNS_TIO_CFG_MODE [n] = m ∧ (bitOf hw.toNat Reg.TNS_TIO_CFG_OVF.lo = true → t.flag Reg.TNS_TIO_CFG_OVF [n] = true) ∧
    (m = s.rd Reg.TNS_TIO_CFG_MODE [n] → t.time.tioPulse = s.time.tioPulse ∧ t.time.tioLevel = s.time.tioLevel) ∧
    (m ≠ s.rd Reg.TNS_TIO_CFG_MODE [n] → (s.time.tioPulse.look n).isSome = true → t.time.tioPulse.look n = none ∧ t.time.tioLevel.look n = some false) ∧
    (m = 4 → clock4 s.time.d ≤ t.tioDue n → n ∈ t.time.tioArmed) ∧
    (m = 4 → t.tioDue n < clock4 s.time.d → n ∉ t.time.tioArmed ∧ t.flag Reg.TNS_TIO_CFG_LATE [n] = true) ∧
    (m ≠ 4 → n ∉ t.time.tioArmed) ∧ (∀ k, k ≠ n → (k ∈ t.time.tioArmed ↔ k ∈ s.time.tioArmed)) ∧
    t = { s with regs := t.regs, time := { s.time with tioArmed := t.time.tioArmed, tioPulse := t.time.tioPulse, tioLevel := t.time.tioLevel } }) ∧
  (∀ (pin : Fin 8) (s : State),
    (pin.val ∈ s.time.tioArmed → s.tioDue pin.val ≤ clock4 s.time.d → ∃ t, exec (.tioPulseDue pin) s = .next t ∧
      t.time.tioLevel.look pin.val = some true ∧ t.time.tioOut.look pin.val = some (s.tioDue pin.val) ∧
      t.time.tioPulse.look pin.val = some (s.runNs + max 1 (s.rd Reg.TNS_TIO_CFG_WIDTH [pin.val]) * 1000) ∧ pin.val ∉ t.time.tioArmed ∧ t.time.d = s.time.d ∧
      t = { s with time := t.time }) ∧
    (pin.val ∉ s.time.tioArmed ∨ clock4 s.time.d < s.tioDue pin.val → exec (.tioPulseDue pin) s = .next s))

/-- Writes of the domains and of DSEL, PTP messages, time commands and time pins act as chapter 04 says. A write of INCR_HI stores it and asks for the commit; one of a domain's control stores its fields and with STEP asks for the phase step; neither moves D. A DSEL write stores SLEW_PPM, AUTO and the choice for the next base mark; forced to LINK, or for code 3, DSEL stays and REJ is set. An event message is stamped in the domain whose number it carries, else in D, less the latency; its Sync restarts that timeout, after which A_OK and B_OK show what is OK. TIME_STEP completes INVALID fewer than 8 cycles ahead or in HOLDOVER, DENIED 6 when forced to LINK, BUSY with one pending; else it waits, and at its mark D moves by q, N by q / 125,000, and it completes OK, in STOP DENIED 1. SOURCE_SELECT writes DSEL, in effect at the next base mark, and completes OK; forced, REJ is set; above 2 it is INVALID. An edge that a capture mode takes is stamped to 250 ps, sets VALID, and OVF when VALID reads 1, and reaches what its pin triggers; any other only moves the level and triggers. A write of a mode stores it and ends the pulse of another mode; output mode with a due time not yet past arms the pulse, with one past sets LATE. An armed pulse due raises the pin until WIDTH µs later; one not yet due changes nothing. What a forced unit answers is the model's reading (log entry 12). -/
def Obligations.DomainsSourcesAndTimePins : Prop := Claims.DomainWritesAndPtpMessages ∧ Claims.TimeCommandsAct ∧ Claims.TimePinsCaptureAndPulse

/-- A base mark leaves every cell at work and the mode register telling the modes. Once time has started, a base mark with any traffic, counts, late, skipped and dropped cells and full units ends with no cell sealed or abandoned and no wait counted, and with GLB_MODE showing the life cycle, the pair state, the key position, the safety island's state and the device's role as their own registers have them. Before PLL lock it changes nothing. A fast mark without an image, or before PLL lock, changes nothing; with one, the sub-cycle that starts is the one of D, and no encoder fault of the sub-cycle stands. -/
def Obligations.MarksStartTheCycleAndShowTheModes : Prop :=
  (∀ (l : List FabEvent) (tt late skip drop full : List Nat) (s : State),
    (s.time.locked = true → ∃ t, exec (.baseMark l tt late skip drop full) s = .next t ∧
      (∀ e ∈ t.fab.cells, e.2.sealed = false ∧ e.2.abandoned = false ∧ e.2.firstSafe = false ∧ e.2.waits = 0) ∧
      bitsOf (t.reg Reg.GLB_MODE) 31 29 = t.rd Reg.SEC_LC_STATE % 8 ∧ bitsOf (t.reg Reg.GLB_MODE) 28 26 = t.rd Reg.GLB_PAIR_STATE % 8 ∧
      bitsOf (t.reg Reg.GLB_MODE) 25 24 = t.rd Reg.GLB_KEY_EFFECTIVE % 4 ∧ bitsOf (t.reg Reg.GLB_MODE) 23 22 = t.rd Reg.SAF_STATE_STATE % 4 ∧
      bitsOf (t.reg Reg.GLB_MODE) 21 20 = t.rd Reg.GLB_ROLE_ROLE % 4) ∧
    (s.time.locked = false → exec (.baseMark l tt late skip drop full) s = .next s)) ∧
  (∀ (late : List Nat) (s : State),
    (s.img.run = none ∨ s.time.locked = false → exec (.fastMark late) s = .next s) ∧
    (s.img.run.isSome = true → s.time.locked = true → ∃ t, exec (.fastMark late) s = .next t ∧ t.time.sub = clockNs s.time.d % 125000 / 15625 ∧ ∀ n, n < 32 → (t.enc n).faultNow = false))

/-- A cell seals once in a cycle and shows its step use. With an image in effect, on a device that is not frozen, the completion of a cell that has not sealed in this cycle leaves it sealed and shown with its step use, at most 1,048,575, and with a peak no smaller than that use; a cell that has sealed, a frozen device and a device without an image change nothing. -/
def Obligations.CellSealsOnceACycle : Prop :=
  ∀ (cell : Fin 64) (steps : Nat) (s : State),
    (s.img.run.isSome = true → s.fab.frozen = false → (s.fab.cells.at' cell.val {}).sealed = false → ∃ t, exec (.cellSeal cell steps []) s = .next t ∧ (t.fab.cells.at' cell.val {}).sealed = true ∧
      t.rd Reg.CEL_STEP_USED_LAST [cell.val] = min steps 1048575 ∧ min steps 1048575 ≤ t.rd Reg.CEL_STEP_PEAK_PEAK [cell.val]) ∧
    (s.img.run = none ∨ s.fab.frozen = true ∨ (s.fab.cells.at' cell.val {}).sealed = true → exec (.cellSeal cell steps []) s = .next s)

/-- Value and quality of a point follow the order of R119, and the shadow pair follows the owner. For a defined point of a unit that is not in REPLAY and not in a forerunner's lost cell: while its governing cell is SAFE an output is SUBSTITUTED with its safe value; otherwise a forced point is FORCED with the forced value; otherwise value and quality are the owner's. The owner's quality is ABSENT, then STALE, then an import's own quality, then OUT_OF_RANGE, then NOT_YET before the first write, and GOOD else. The shadow always carries the owner's last value and quality, and no value is ever clamped. -/
def Obligations.QualityFollowsTheOrderOfConditions : Prop :=
  ∀ (s : State) (idx n : Nat) (d : PointDef), s.pdef idx = some d → s.pairSt ≠ 4 → s.flag Reg.AGE_STAT_FORERUNNER = false →
    let w := s.work idx
    let safe := s.cellSafe (s.governor idx d)
    let e := s.evalPoint idx n
    e.shadow = w.own ∧
    (safe = true → d.output = true → e.value = d.safe ∧ e.quality = .substituted) ∧
    ((safe = false ∨ d.output = false) → ∀ v, w.force = some v → e.value = v ∧ e.quality = .forced) ∧
    ((safe = false ∨ d.output = false) → w.force = none → e.value = w.own ∧ e.quality = e.shadowQ) ∧
    (w.absent = true → e.shadowQ = .absent) ∧
    (w.absent = false → w.torn = true ∨ w.dropped = true ∨ (safe = true ∧ d.output = false) ∨ (0 < d.maxAge ∧ w.written = true ∧ d.maxAge < n - w.updateN) → e.shadowQ = .stale) ∧
    (w.absent = false → w.torn = false → w.dropped = false → (safe = false ∨ d.output = true) → (d.maxAge = 0 ∨ w.written = false ∨ n - w.updateN ≤ d.maxAge) →
      (w.written = false → e.shadowQ = .notYet) ∧
      (w.written = true → w.inQ ≠ .good → e.shadowQ = w.inQ) ∧
      (w.written = true → w.inQ = .good → e.shadowQ = if outOfRange d w.own then .outOfRange else .good))

/-- Of several host writes to one point in a cycle the last stands and every other is counted. When the latched host writes take effect at a base mark, each point written holds the value of the last write to it, stamped with the mark; a point that no write names is as before; event 0x211 rises by the number of writes that were overtaken; and none is latched any more. -/
def Obligations.LastHostWriteOfACycleStands : Prop :=
  ∀ s : State,
    let t := s.applyHostWrites
    (∀ (l1 l2 : List HostWrite) (w : HostWrite), s.pts.hostWrites = l1 ++ w :: l2 → (∀ x ∈ l2, x.idx ≠ w.idx) →
      ((t.pts.work.look w.idx).map (fun x => (x.own, x.written, x.ownTime)) = some (w.value, true, markStamp s.time.n))) ∧
    (∀ idx, (∀ x ∈ s.pts.hostWrites, x.idx ≠ idx) → t.pts.work.look idx = s.pts.work.look idx) ∧
    t.pts.hostWrites = [] ∧ t.pts.cut = s.pts.cut ∧
    ((t.ctr.tab.at' 0x211 {}).value.toNat + ((s.pts.hostWrites.map (·.idx)).eraseDups).length) % 2 ^ 48 =
      ((s.ctr.tab.at' 0x211 {}).value.toNat + s.pts.hostWrites.length) % 2 ^ 48

/-- A definition record read from its own bytes is the definition, and records and entries have 32 bytes. For every definition whose fields fit their places: its record has 32 bytes and reading it gives the definition back. Every entry of a sealed cut has 32 bytes, with the value first and the quality code at offset 4. -/
def Obligations.DefinitionRecordsRoundTrip : Prop :=
  (∀ d : PointDef, d.slot < 2 ^ 16 → d.format < 256 → d.flags < 256 → d.owner < 2 ^ 32 → d.maxAge < 2 ^ 16 → d.recPolicy < 2 ^ 16 → d.enumCount < 2 ^ 16 →
    (defBytes d).length = 32 ∧ pointDefOf (defBytes d) = d) ∧
  (∀ (d : PointDef) (e : PointEntry), (entryBytes d e).length = 32 ∧ wordLE (entryBytes d e) 0 = e.value ∧ fieldLE (entryBytes d e) 4 1 = qualCode e.quality)

namespace Sys2Proof.Claims

/-- The state after the acknowledgement of a received link frame (R350). -/
def acknowledged (s : State) (p : Nat) (f : LinkFrame) : State :=
  s.linkSend p { typ := 0x0E, src := s.hdrDev, dst := f.src, payload := leBytes 2 f.lseq ++ leBytes 6 0 }

/-- A path frame has arrived at its destination on a port that carries it (R348). -/
def Arrived (s : State) (p : Nat) (f : LinkFrame) : Prop := s.portUp p = true ∧ s.carries p = true ∧ f.pathLen ≤ f.hop ∧ f.dst = s.hdrDev

/-- A flooded frame that is seen for the first time, on a port that carries it (R349). -/
def FirstSeen (s : State) (p : Nat) (f : LinkFrame) : Prop := s.portUp p = true ∧ s.carries p = true ∧ (f.typ, f.src, f.tag) ∉ s.link.seen

end Sys2Proof.Claims

namespace Sys2Proof.Claims

/-- A point command whose count, room and points are in order: 1 to 64 points, all of this device and defined, each with a definition and a value that satisfy a test. -/
def LocalPoints (s : State) (op : Nat) (args : List Nat) (ok : PointDef → Word → Prop) : Prop :=
  1 ≤ argN args 0 ∧ argN args 0 ≤ 64 ∧ itemWords op (argN args 0) 0 ≤ args.length ∧
  ∀ e ∈ pointItems op args 0, bitsOf e.1 31 25 = 0 ∧ idDev e.1 = s.ownDev ∧ ∃ d, s.pdef (idLocal e.1) = some d ∧ ok d e.2

/-- None of the refusals of rows 4 and 5 of R568 applies to an opcode. -/
def Gated (s : State) (op : Nat) : Prop := judge (s.gate op) = none

/-- The entries of the last sealed cut of a command's points, or their definition records, one after another. -/
def pointBytes (s : State) (items : List (Nat × Word)) (f : Nat → PointDef → List Byte) : List Byte :=
  (items.map (fun e => match s.pdef (idLocal e.1) with | some d => f (idLocal e.1) d | none => [])).flatten

/-- The items of a command that name points of this device. -/
def ownItems (s : State) (items : List (Nat × Word)) : List (Nat × Word) := items.filter (fun e => decide (idDev e.1 = s.ownDev))

/-- The host writes that a command latches. -/
def latchWrites (ref : CmdRef) (items : List (Nat × Word)) : List HostWrite := items.map (fun e => { idx := idLocal e.1, value := e.2, ref := ref })

/-- The forces, or with no value the unforces, that a command latches. -/
def latchForces (ref : CmdRef) (items : List (Nat × Word)) (force : Bool) : List ForceReq :=
  items.map (fun e => { idx := idLocal e.1, value := if force then some e.2 else none, ref := ref })

/-- A point command whose count and room are in order, and which names points of this device or of joined devices, at least one of another device. -/
def OverDevices (s : State) (ref : CmdRef) (op : Nat) (args : List Nat) : Prop :=
  s.img.run.isSome = true ∧ 1 ≤ argN args 0 ∧ argN args 0 ≤ 64 ∧ itemWords op (argN args 0) 0 ≤ args.length ∧
  (pointRoom ref op (argN args 0) (itemDevs (pointItems op args 0)).length).1 = false ∧
  (∀ e ∈ pointItems op args 0, bitsOf e.1 31 25 = 0 ∧ (idDev e.1 = s.ownDev ∨ s.joined (idDev e.1) = true)) ∧ ∃ e ∈ pointItems op args 0, idDev e.1 ≠ s.ownDev

/-- The refusals of the points of this device in a command over several devices: none applies. -/
def OwnPartStands (s : State) (op : Nat) (args : List Nat) : Prop :=
  let mine := ownItems s (pointItems op args 0)
  mine = [] ∨ judge (s.pointPre op mine ++ s.gate op ++ s.pointSuf op mine) = none

end Sys2Proof.Claims

/-- Point commands on defined points of this device. POINT_READ returns the entries of the last sealed cut with its N, DEFINE_READ the definition records, each with the OWNER of now, and nothing else changes. POINT_WRITE with valid values on host-owned points, POINT_FORCE on forcible points within the limit and POINT_UNFORCE are latched in order behind those already latched, and nothing else changes. FORCE_LIST returns identifier and forced value of every point forced at the last sealed cut, with its N; on a joined other device it is sent on. -/
def Sys2Proof.Claims.PointCommandsTakeEffect : Prop :=
  (∀ (ref : CmdRef) (args : List Nat) (s : State), LocalPoints s 0x0201 args (fun _ _ => True) → Gated s 0x0201 → 32 * argN args 0 ≤ ref.bufLen →
    exec (.pointRead ref args) s = .next (s.complete (opRef ref 0x0201) .ok 0 s.pts.cutN
      (pointBytes s (pointItems 0x0201 args 0) (fun i d => entryBytes (s.defNow d) (s.cutAt i))))) ∧
  (∀ (ref : CmdRef) (args : List Nat) (s : State), LocalPoints s 0x0206 args (fun _ _ => True) → Gated s 0x0206 → 32 * argN args 0 ≤ ref.bufLen →
    exec (.defineRead ref args) s = .next (s.complete (opRef ref 0x0206) .ok 0 s.pts.cutN (pointBytes s (pointItems 0x0206 args 0) (fun _ d => defBytes (s.defNow d))))) ∧
  (∀ (ref : CmdRef) (args : List Nat) (s : State), LocalPoints s 0x0202 args (fun d v => valInvalid d v = false ∧ d.hostOwned = true) → Gated s 0x0202 →
    exec (.pointWrite ref args) s = .next { s with pts := { s.pts with hostWrites := s.pts.hostWrites ++ latchWrites (opRef ref 0x0202) (pointItems 0x0202 args 0) } }) ∧
  (∀ (ref : CmdRef) (args : List Nat) (s : State), LocalPoints s 0x0203 args (fun d v => valInvalid d v = false ∧ d.forcible = true ∧ d.ownerKind ≠ 6) → Gated s 0x0203 →
    forceFits ((pointItems 0x0203 args 0).map (fun e => idLocal e.1)) (forcedAfter s.pts.forceReqs s.forcedPoints) = true →
    exec (.pointForce ref args) s = .next { s with pts := { s.pts with forceReqs := s.pts.forceReqs ++ latchForces (opRef ref 0x0203) (pointItems 0x0203 args 0) true } }) ∧
  (∀ (ref : CmdRef) (args : List Nat) (s : State), LocalPoints s 0x0204 args (fun _ _ => True) → Gated s 0x0204 →
    exec (.pointUnforce ref args) s = .next { s with pts := { s.pts with forceReqs := s.pts.forceReqs ++ latchForces (opRef ref 0x0204) (pointItems 0x0204 args 0) false } }) ∧
  (∀ (ref : CmdRef) (args : List Nat) (s : State), Admitted s 0x0205 → 1 ≤ args.length → argN args 0 = s.ownDev → argN args 0 < 256 →
    8 * (s.cut.work.filter (fun e => e.2.force.isSome)).length ≤ ref.bufLen →
    exec (.forceList ref args) s = .next (s.complete (opRef ref 0x0205) .ok 0 s.pts.cutN
      ((s.cut.work.map (fun e => match e.2.force with | some v => leBytes 4 (s.ownDev * 131072 + e.1) ++ leBytes 4 v.toNat | none => [])).flatten))) ∧
  (∀ (ref : CmdRef) (args : List Nat) (s : State), Admitted s 0x0205 → 1 ≤ args.length → s.img.run.isSome = true → argN args 0 ≠ s.ownDev → argN args 0 < 256 →
    exec (.forceList ref args) s = .next (if s.joined (argN args 0) then
        { s with host := { s.host with relays := s.host.relays ++ [{ dev := argN args 0, ref := opRef ref 0x0205, op := 0x0205, args := args, sentAt := s.runNs }] } }
      else s.complete (opRef ref 0x0205) .absent))

/-- The refusals of point commands on points of this device, where rows 4 and 5 of R568 admit the command. A count outside 1 to 64 is INVALID. An identifier with a bit of 31:25 set is INVALID, and an undefined slot ABSENT, with the place of the first such item. A write with a valid value to a point that is not host-owned is DENIED with DETAIL 7 and counted under 0x210. A force of a point that is not forcible, or of the Conjunction mirror, is DENIED; one that meets the limit completes OVERFLOW at once, is counted under 0x212 and sets GLB_PT_FORCE.LIMIT, and none of the command's forces applies. -/
def Sys2Proof.Claims.PointCommandsAreRefused : Prop :=
  (∀ (ref : CmdRef) (args : List Nat) (s : State) (c : Instr) (op : Nat),
    (c, op) ∈ [(Instr.pointRead ref args, 0x0201), (.pointWrite ref args, 0x0202), (.pointForce ref args, 0x0203), (.pointUnforce ref args, 0x0204), (.defineRead ref args, 0x0206)] →
    ((argN args 0 = 0 ∨ 64 < argN args 0) → exec c s = .next (s.complete (opRef ref op) .invalid)) ∧
    (∀ i, 1 ≤ argN args 0 → argN args 0 ≤ 64 → itemWords op (argN args 0) 0 ≤ args.length → 32 * argN args 0 + 1024 ≤ ref.bufLen →
      (∀ e ∈ pointItems op args 0, idDev e.1 = s.ownDev) →
      (firstBad (fun (e : Nat × Word) => decide (bitsOf e.1 31 25 = 0)) (pointItems op args 0) = some i → exec c s = .next (s.complete (opRef ref op) .invalid i)) ∧
      ((∀ e ∈ pointItems op args 0, bitsOf e.1 31 25 = 0 ∧ ∀ d, s.pdef (idLocal e.1) = some d → valInvalid d e.2 = false) →
        firstBad (fun (e : Nat × Word) => (s.pdef (idLocal e.1)).isSome) (pointItems op args 0) = some i → exec c s = .next (s.complete (opRef ref op) .absent i)))) ∧
  (∀ (ref : CmdRef) (args : List Nat) (s : State), LocalPoints s 0x0202 args (fun d v => valInvalid d v = false) → Gated s 0x0202 →
    (∃ e ∈ pointItems 0x0202 args 0, ∃ d, s.pdef (idLocal e.1) = some d ∧ d.hostOwned = false) →
    exec (.pointWrite ref args) s = .next ((s.count 0x210).complete (opRef ref 0x0202) .denied 7)) ∧
  (∀ (ref : CmdRef) (args : List Nat) (s : State), LocalPoints s 0x0203 args (fun d v => valInvalid d v = false) → Gated s 0x0203 →
    (∃ e ∈ pointItems 0x0203 args 0, ∃ d, s.pdef (idLocal e.1) = some d ∧ (d.forcible = false ∨ d.ownerKind = 6)) →
    exec (.pointForce ref args) s = .next (s.complete (opRef ref 0x0203) .denied 6)) ∧
  (∀ (ref : CmdRef) (args : List Nat) (s : State), LocalPoints s 0x0203 args (fun d v => valInvalid d v = false ∧ d.forcible = true ∧ d.ownerKind ≠ 6) → Gated s 0x0203 →
    forceFits ((pointItems 0x0203 args 0).map (fun e => idLocal e.1)) (forcedAfter s.pts.forceReqs s.forcedPoints) = false →
    exec (.pointForce ref args) s = .next (((s.count 0x212).wr Reg.GLB_PT_FORCE_LIMIT 1).complete (opRef ref 0x0203) .overflow))

/-- Point commands over several joined devices. The devices other than this one are asked and their answers awaited; the writes, forces and unforces of this device's own points are latched at once, for the mark that follows their arrival, and that part is awaited with the others; a read takes its own part when the last answer has come. -/
def Sys2Proof.Claims.PointCommandsOverDevices : Prop :=
  ∀ (ref : CmdRef) (args : List Nat) (s : State) (c : Instr) (op : Nat),
    (c, op) ∈ [(Instr.pointRead ref args, 0x0201), (.pointWrite ref args, 0x0202), (.pointForce ref args, 0x0203), (.pointUnforce ref args, 0x0204), (.defineRead ref args, 0x0206)] →
    OverDevices s ref op args → OwnPartStands s op args →
    let items := pointItems op args 0
    let mine := ownItems s items
    let others := (itemDevs items).filter (fun d => decide (d ≠ s.ownDev))
    let own := if op = 0x0201 ∨ op = 0x0206 ∨ mine = [] then [] else [s.ownDev]
    ∃ t, exec c s = .next t ∧ t.host = { s.host with jobs := s.host.jobs ++ [{ ref := opRef ref op, op := op, items := items, sentAt := s.runNs, waiting := others ++ own, answers := [] }] } ∧
      t.pts = { s.pts with hostWrites := s.pts.hostWrites ++ (if op = 0x0202 then latchWrites (opRef ref op) mine else []),
                           forceReqs := s.pts.forceReqs ++ (if op = 0x0203 ∨ op = 0x0204 then latchForces (opRef ref op) mine (decide (op = 0x0203)) else []) } ∧
      t = { s with pts := t.pts, host := t.host, link := t.link, ctr := t.ctr }

/-- Point commands read the sealed cut or are latched for the next mark; their refusals and their parts on other devices. On defined points of this device POINT_READ returns the entries of the last sealed cut with its N, DEFINE_READ the definition records, each with the OWNER of now. POINT_WRITE with valid values on host-owned points, POINT_FORCE on forcible points within the limit and POINT_UNFORCE are latched in order behind those already latched; nothing else changes. FORCE_LIST returns identifier and forced value of every point forced at the last sealed cut, with its N; on a joined other device it is sent on. Refusals on points of this device: a count outside 1 to 64 is INVALID; an identifier with a bit of 31:25 set is INVALID, an undefined slot ABSENT, with the place of the first such item as DETAIL (log entry 59); a write with a valid value to a point that is not host-owned is DENIED with DETAIL 7 and counted under 0x210; a force of a point that is not forcible, or of the mirror, is DENIED; one that meets the limit completes OVERFLOW at once, is counted under 0x212, sets GLB_PT_FORCE.LIMIT, and no force of the command applies. Over several joined devices, the other devices are asked and awaited; the own writes, forces and unforces are latched at once and awaited too. -/
def Obligations.PointCommandsLatchAndRead : Prop := Claims.PointCommandsTakeEffect ∧ Claims.PointCommandsAreRefused ∧ Claims.PointCommandsOverDevices

/-- A CONST_WRITE to points all of this device, from the host. At a mark at least N + 16 and with valid values on host-owned points it is acknowledged and its writes wait for that mark; nothing is written yet. A count outside 1 to 64 is INVALID, and so is an earlier mark; without an image it is ABSENT. -/
def Sys2Proof.Claims.ConstWritesWait : Prop :=
  (∀ (ref : CmdRef) (args : List Nat) (s : State), Admitted s 0x0B04 → ref.origin = none → s.img.run.isSome = true → 1 ≤ argN args 0 → argN args 0 ≤ 64 →
    itemWords 0x0B04 (argN args 0) 2 ≤ args.length → s.time.n + 16 ≤ arg64 args 1 →
    (∀ e ∈ pointItems 0x0B04 args 2, bitsOf e.1 31 25 = 0 ∧ idDev e.1 = s.ownDev ∧ ∃ d, s.pdef (idLocal e.1) = some d ∧ valInvalid d e.2 = false ∧ d.hostOwned = true) →
    ∃ t, exec (.constWrite ref args) s = .next t ∧
      t.link = { s.link with
        constPend := s.link.constPend ++ [{ n := arg64 args 1, writes := (pointItems 0x0B04 args 2).map (fun e => (idLocal e.1, e.2)), ref := longRef ref 0x0B04 }]
        consts := s.link.consts ++ [{ ref := longRef ref 0x0B04, n := arg64 args 1, writes := pointItems 0x0B04 args 2, waiting := [], written := false }] } ∧
      t = { s.accept (longRef ref 0x0B04) with link := t.link }) ∧
  (∀ (ref : CmdRef) (args : List Nat) (s : State), (argN args 0 = 0 ∨ 64 < argN args 0) → exec (.constWrite ref args) s = .next (s.complete (longRef ref 0x0B04) .invalid)) ∧
  (∀ (ref : CmdRef) (args : List Nat) (s : State), ref.origin = none → 1 ≤ argN args 0 → argN args 0 ≤ 64 → itemWords 0x0B04 (argN args 0) 2 ≤ args.length →
    (∀ e ∈ pointItems 0x0B04 args 2, bitsOf e.1 31 25 = 0) →
    (arg64 args 1 < s.time.n + 16 → exec (.constWrite ref args) s = .next (s.complete (longRef ref 0x0B04) .invalid 1)) ∧
    (s.time.n + 16 ≤ arg64 args 1 → s.img.run = none → exec (.constWrite ref args) s = .next ((s.accept (longRef ref 0x0B04)).complete (longRef ref 0x0B04) .absent)))

/-- Requests from other devices and their answers. A POINT_REQ of 1 to 64 items on points of this device is acknowledged on its link and carried out here for the originating device: a read's entries wait for it with the N of the cut, valid writes on host-owned points are latched. A POINT_RSP in one fragment that is the last answer awaited by a write leaves no job waiting and completes it OK with the answer's N; one with a refusal completes it with that refusal; one that leaves others awaited only takes its device out. A relayed command, or a request, without an answer 1 ms after its departure completes TIMEOUT and is forgotten; where none is so late nothing changes. -/
def Sys2Proof.Claims.AnswersOfOtherDevices : Prop :=
  (∀ (port : Fin 6) (f : LinkFrame) (s : State), Arrived s port.val f → 1 ≤ fieldLE f.payload 1 1 → fieldLE f.payload 1 1 ≤ 64 → 8 + 8 * fieldLE f.payload 1 1 ≤ f.payload.length →
    let items := (recordsOf (f.payload.drop 8) 8 (fieldLE f.payload 1 1)).map (fun r => (fieldLE r 0 4, wordLE r 4))
    let ref : CmdRef := { ring := f.tag / 2 ^ 25, handle := f.tag, tag := 0, relayed := true, op := 0, origin := some f.src, bufLen := 4096 }
    let u := acknowledged s port.val f
    (∀ e ∈ items, bitsOf e.1 31 25 = 0 ∧ idDev e.1 = s.ownDev ∧ (s.pdef (idLocal e.1)).isSome = true) →
    (fieldLE f.payload 0 1 = 1 → Gated s 0x0201 →
      exec (.pointReq port f) s = .next (u.complete (opRef ref 0x0201) .ok 0 s.pts.cutN (pointBytes s items (fun i d => entryBytes (s.defNow d) (s.cutAt i))))) ∧
    (fieldLE f.payload 0 1 = 2 → Gated s 0x0202 → (∀ e ∈ items, ∀ d, s.pdef (idLocal e.1) = some d → valInvalid d e.2 = false ∧ d.hostOwned = true) →
      exec (.pointReq port f) s = .next { u with pts := { u.pts with hostWrites := u.pts.hostWrites ++ latchWrites (opRef ref 0x0202) items } })) ∧
  (∀ (port : Fin 6) (f : LinkFrame) (s : State) (j : PointJob), Arrived s port.val f → fieldLE f.payload 2 1 = 0 → fieldLE f.payload 3 1 = 1 → s.link.frags = [] →
    s.host.jobs = [j] → j.ref.handle = f.tag → f.src ∈ j.waiting →
    let u : State := { acknowledged s port.val f with host := { s.host with jobs := [] } }
    (j.waiting = [f.src] → j.op = 0x0202 → j.answers = [] → (∀ e ∈ j.items, idDev e.1 = f.src) → j.items ≠ [] →
      (fieldLE f.payload 0 1 = 0 → exec (.pointRsp port f) s = .next (u.complete j.ref .ok 0 (fieldLE f.payload 8 8))) ∧
      (statusOf (fieldLE f.payload 0 1) ≠ .ok → statusOf (fieldLE f.payload 0 1) ≠ .absent →
        exec (.pointRsp port f) s = .next (u.complete j.ref (statusOf (fieldLE f.payload 0 1)) (fieldLE f.payload 4 4)))) ∧
    (j.waiting.filter (fun d => decide (d ≠ f.src)) ≠ [] → ∃ t j', exec (.pointRsp port f) s = .next t ∧ t.host = { s.host with jobs := [j'] } ∧
      j'.waiting = j.waiting.filter (fun d => decide (d ≠ f.src)) ∧ j'.ref = j.ref ∧ j'.items = j.items ∧ (j'.answers.look f.src).isSome = true)) ∧
  (∀ (r : Relay) (s : State), s.host.relays = [r] → r.sent = true → r.accepted = false → r.sentAt + 1000000 ≤ s.runNs → r.op ≠ 0x0B04 →
    exec (.remoteCommandTimeout r.ref.handle) s = .next (({ s with host := { s.host with relays := [] } }).complete { r.ref with relayed := true } .timeout)) ∧
  (∀ (j : PointJob) (s : State), s.host.relays = [] → s.host.jobs = [j] → j.sentAt + 1000000 ≤ s.runNs →
    exec (.remoteCommandTimeout j.ref.handle) s = .next (({ s with host := { s.host with jobs := [] } }).complete j.ref .timeout)) ∧
  (∀ (h : Nat) (s : State), (∀ r ∈ s.host.relays, s.runNs < r.sentAt + 1000000) → (∀ j ∈ s.host.jobs, s.runNs < j.sentAt + 1000000) → exec (.remoteCommandTimeout h) s = .next s)

/-- CONST_WRITE waits for its mark, point requests are carried out here, and answers or their absence complete what waits. A CONST_WRITE to points all of this device, with valid values on host-owned points at a mark at least N + 16, is acknowledged and its writes wait for that mark; nothing is written yet. A count outside 1 to 64 or an earlier mark is INVALID; without an image it is ABSENT. A POINT_REQ of 1 to 64 items on points of this device is acknowledged on its link and carried out here for the originating device: a read's entries wait for it with the N of the cut, valid writes on host-owned points are latched. A POINT_RSP in one fragment that is the last answer awaited by a write completes it OK with the answer's N and leaves no job; one with a refusal other than ABSENT completes it with that refusal; one that leaves others awaited only takes its device out. A relayed command other than CONST_WRITE, or a request, without an answer 1 ms after its departure completes TIMEOUT and is forgotten; where nothing waits so long nothing changes. -/
def Obligations.ConstWritesAndAnswersOfOtherDevices : Prop := Claims.ConstWritesWait ∧ Claims.AnswersOfOtherDevices

/-- A port comes up on the lanes that trained, greets its neighbour, and goes down on silence. A port that is not up becomes UP on two lanes or ONE_LANE on one; one that is up, or trains no lane, is left alone. While up it sends a HELLO with its own identity; otherwise nothing. Silence on an up port puts it back into training, forgets the neighbour and counts its event; on another it changes nothing. The loss of one of two working lanes leaves the port on one, the loss of the only one puts it into training; in forerunner mode the loss of lane 0 with its spare free brings in the spare and the frames in flight repeat, the loss of lane 1 leaves no spare. The first HELLO of a neighbour is noted with its device and port; a HELLO from another port of a neighbour takes the port down. An acknowledgement drops the frame it names; a frame not acknowledged is sent again and counted, and at its third failure the port goes down. -/
def Sys2Proof.Claims.LinkPortsTrainAndFail : Prop :=
  (∀ (port : Fin 6) (lanes : Fin 3) (s : State),
    (s.portUp port.val = false → lanes.val ≠ 0 → ∃ t, exec (.linkTrainingDone port lanes) s = .next t ∧
      t.rd Reg.LNK_PORT_STATE [port.val] = (if lanes.val = 2 then 2 else 3) ∧ (t.lport port.val).lanes = lanes.val ∧
      (∃ f, f ∈ (t.lport port.val).sent ∧ f.typ = 0x0D) ∧ t = { s with regs := t.regs, link := t.link, ctr := t.ctr }) ∧
    (s.portUp port.val = true ∨ lanes.val = 0 → exec (.linkTrainingDone port lanes) s = .next s)) ∧
  (∀ (port : Fin 6) (s : State),
    (s.portUp port.val = true → ∃ t f, exec (.helloSend port) s = .next t ∧ (t.lport port.val).sent = f :: (s.lport port.val).sent ∧
      f.typ = 0x0D ∧ f.payload = s.helloBytes port.val ∧ (∀ q, q ≠ port.val → t.lport q = s.lport q) ∧ t = { s with link := { s.link with ports := t.link.ports } }) ∧
    (s.portUp port.val = false → exec (.helloSend port) s = .next s)) ∧
  (∀ (port : Fin 6) (s : State),
    (s.portUp port.val = true → ∃ t, exec (.linkSilence port) s = .next t ∧ t.rd Reg.LNK_PORT_STATE [port.val] = 1 ∧ (t.lport port.val).nb = none ∧
      (t.ctr.tab.at' (0x1C0 + port.val) {}).value = ((s.count (0x1C0 + port.val)).ctr.tab.at' (0x1C0 + port.val) {}).value ∧
      t = { s with regs := t.regs, link := t.link, ctr := t.ctr }) ∧
    (s.portUp port.val = false → exec (.linkSilence port) s = .next s)) ∧
  (∀ (port : Fin 6) (lane : Fin 2) (s : State), ∃ t, exec (.laneLoss port lane) s = .next t ∧
    (s.portUp port.val = false → t = s) ∧
    (s.portUp port.val = true → s.laneZero port.val = false →
      ((s.lport port.val).lanes = 2 → t.rd Reg.LNK_PORT_STATE [port.val] = 3 ∧ (t.lport port.val).lanes = 1) ∧
      ((s.lport port.val).lanes ≠ 2 → t.rd Reg.LNK_PORT_STATE [port.val] = 1 ∧ (t.lport port.val).nb = none)) ∧
    (s.portUp port.val = true → s.laneZero port.val = true →
      ((s.lport port.val).spare = true → t.rd Reg.LNK_PORT_STATE [port.val] = 1 ∧ (t.lport port.val).nb = none) ∧
      ((s.lport port.val).spare = false → (t.lport port.val).spare = true ∧ t.rd Reg.LNK_PORT_STATE [port.val] = s.rd Reg.LNK_PORT_STATE [port.val] ∧
        bitOf (t.rd (if lane.val = 0 then Reg.AGE_SPARE_LANE_SWAP else Reg.AGE_SPARE_LANE_BAD)) port.val = true ∧
        (lane.val = 0 → (t.lport port.val).sent = ((s.lport port.val).replay.map (·.frame)).reverse ++ (s.lport port.val).sent)))) ∧
  (∀ (port : Fin 6) (f : LinkFrame) (s : State), s.portUp port.val = true → f.typ = 0x0D →
    ((s.lport port.val).nb = none → ∃ t, exec (.hello port f) s = .next t ∧ (t.lport port.val).nb = some (fieldLE f.payload 0 1, fieldLE f.payload 1 1) ∧
      (t.lport port.val).nbFlags = fieldLE f.payload 2 1 ∧ (t.lport port.val).nbId = fieldLE f.payload 4 4 ∧ t.rd Reg.LNK_PORT_NB_DEV [port.val] = fieldLE f.payload 0 1 ∧
      (fieldLE f.payload 0x10 8 ≠ 0 → t.rd Reg.LNK_PORT_DELAY_NS [port.val] = min 65535 (((s.runNs - fieldLE f.payload 0x10 8) - fieldLE f.payload 0x18 4) / 2))) ∧
    (∀ n, (s.lport port.val).nb = some n → n.2 ≠ fieldLE f.payload 1 1 → ∃ t, exec (.hello port f) s = .next t ∧
      t.rd Reg.LNK_PORT_STATE [port.val] = 1 ∧ (t.lport port.val).nb = none)) ∧
  (∀ (port : Fin 6) (f : LinkFrame) (s : State), ∃ t, exec (.lack port f) s = .next t ∧
    (t.lport port.val).replay = (s.lport port.val).replay.filter (fun r => decide (r.frame.lseq ≠ fieldLE f.payload 0 2)) ∧
    (∀ q, q ≠ port.val → t.lport q = s.lport q) ∧ t = { s with link := { s.link with ports := t.link.ports } }) ∧
  (∀ (port : Fin 6) (lseq : Nat) (s : State), ∃ t, exec (.lackTimeout port lseq) s = .next t ∧
    ((s.lport port.val).replay.find? (fun (r : Replay) => r.frame.lseq = lseq) = none → t = s) ∧
    (∀ r : Replay, (s.lport port.val).replay.find? (fun (r : Replay) => r.frame.lseq = lseq) = some r →
      (r.repeats < 2 → (t.lport port.val).sent = r.frame :: (s.lport port.val).sent ∧ t.ctr = (s.count 0x1C6).ctr ∧
        (t.lport port.val).replay = (s.lport port.val).replay.map (fun y => if y.frame.lseq = lseq then { y with repeats := y.repeats + 1 } else y)) ∧
      (2 ≤ r.repeats → s.portUp port.val = true → t.rd Reg.LNK_PORT_STATE [port.val] = 1 ∧ (t.lport port.val).nb = none)))

/-- The constellation commands answer for this device. CONST_READ returns LNK_STATE, LNK_MEMBER and, port by port, LNK_PORT, LNK_PORT_ERR and LNK_PORT_LOAD; ROUTE_READ the paths in effect with N_r; IMPORT_READ the import records from an index that exist, each with its two identifiers first; none of them changes anything but the record. For a joined other device each is sent on, for one not joined it is ABSENT. MEMBER_DROP of a joined worker on the manager is noted for the re-plan and completes OK, of another ABSENT, on a device that is not the manager INVALID. LINK_RETRAIN puts its port into training and completes OK; a port above 5 is INVALID. -/
def Sys2Proof.Claims.ConstellationCommandsAnswer : Prop :=
  (∀ (ref : CmdRef) (args : List Nat) (s : State), Admitted s 0x0B01 → 1 ≤ args.length → argN args 0 < 256 → 108 ≤ ref.bufLen → (s.img.run = none ∨ argN args 0 = s.ownDev) →
    exec (.constRead ref args) s = .next (s.complete (opRef ref 0x0B01) .ok 0 0 (leBytes 4 (s.reg Reg.LNK_STATE) ++ ((List.range 8).map (fun m => leBytes 4 (s.reg Reg.LNK_MEMBER [m]))).flatten ++
      ((List.range 6).map (fun p => leBytes 4 (s.reg Reg.LNK_PORT [p]) ++ leBytes 4 (s.reg Reg.LNK_PORT_ERR [p]) ++ leBytes 4 (s.reg Reg.LNK_PORT_LOAD [p]))).flatten))) ∧
  (∀ (ref : CmdRef) (args : List Nat) (s : State), Admitted s 0x0B02 → 1 ≤ args.length → argN args 0 < 256 → 4 * s.link.table.paths.length ≤ ref.bufLen → (s.img.run = none ∨ argN args 0 = s.ownDev) →
    exec (.routeRead ref args) s = .next (s.complete (opRef ref 0x0B02) .ok 0 s.link.table.n ((s.link.table.paths.map (fun e => leBytes 1 e.1 ++ leBytes 1 e.2.1 ++ leBytes 2 e.2.2)).flatten))) ∧
  (∀ (ref : CmdRef) (args : List Nat) (s : State) (i : Img), Admitted s 0x0B03 → 3 ≤ args.length → argN args 0 < 256 → 1 ≤ argN args 2 → argN args 2 ≤ 64 → 16 * argN args 2 ≤ ref.bufLen →
    s.img.run = some i → argN args 0 = s.ownDev →
    (argN args 1 < i.imports.length → ∃ data, exec (.importRead ref args) s = .next (s.complete (opRef ref 0x0B03) .ok 0 0 data) ∧ data.length = 16 * min (argN args 2) (i.imports.length - argN args 1) ∧
      ∀ k e, k < argN args 2 → i.imports[argN args 1 + k]? = some e → slice data (16 * k) 8 = leBytes 4 e.1 ++ leBytes 4 e.2) ∧
    (i.imports.length ≤ argN args 1 → exec (.importRead ref args) s = .next (s.complete (opRef ref 0x0B03) .absent))) ∧
  (∀ (ref : CmdRef) (args : List Nat) (s : State) (c : Instr) (op : Nat), (c, op) ∈ [(Instr.constRead ref args, 0x0B01), (.routeRead ref args, 0x0B02), (.importRead ref args, 0x0B03)] →
    Admitted s op → 3 ≤ args.length → argN args 0 < 256 → 1 ≤ argN args 2 → argN args 2 ≤ 64 → 1024 ≤ ref.bufLen → s.img.run.isSome = true → argN args 0 ≠ s.ownDev →
    exec c s = .next (if s.joined (argN args 0) then { s with host := { s.host with relays := s.host.relays ++ [{ dev := argN args 0, ref := opRef ref op, op := op, args := args, sentAt := s.runNs }] } }
      else s.complete (opRef ref op) .absent)) ∧
  (∀ (ref : CmdRef) (args : List Nat) (s : State), Admitted s 0x0B05 → 1 ≤ args.length → argN args 0 < 256 → argN args 0 ≠ 0 → exec (.memberDrop ref args) s = .next (
    if !s.isManager then s.complete (opRef ref 0x0B05) .invalid
    else if argN args 0 ∈ s.joinedDevs then ({ s with link := { s.link with drops := argN args 0 :: s.link.drops, planDue := true } }).complete (opRef ref 0x0B05) .ok
    else s.complete (opRef ref 0x0B05) .absent)) ∧
  (∀ (ref : CmdRef) (args : List Nat) (s : State), Admitted s 0x0B06 → 1 ≤ args.length →
    (argN args 0 < 6 → ∃ t : State, exec (.linkRetrain ref args) s = .next (t.complete (opRef ref 0x0B06) .ok) ∧ t.rd Reg.LNK_PORT_STATE [argN args 0] = 1 ∧ (t.lport (argN args 0)).nb = none ∧
      t = { s with regs := t.regs, link := t.link, ctr := t.ctr }) ∧
    (6 ≤ argN args 0 → exec (.linkRetrain ref args) s = .next (s.complete (opRef ref 0x0B06) .invalid)))

/-- A port trains, greets and fails as chapter 14 says, and the constellation commands answer for this device. A port that is not up becomes UP on two lanes or ONE_LANE on one; one that is up, or trains no lane, is left alone. While up it sends a HELLO with its own identity. Silence on an up port puts it into training, forgets the neighbour and counts its event. The loss of one of two lanes leaves the port on one, of the only one puts it into training; in forerunner mode the loss of lane 0 brings in a free spare and the frames in flight repeat, the loss of lane 1 leaves no spare, and with no spare the port trains. A first HELLO is noted with device, port and delay; one from another port of the neighbour takes the port down. An acknowledgement drops its frame; a frame not acknowledged is sent again and counted, and at its third failure the port goes down. CONST_READ returns LNK_STATE, LNK_MEMBER and, port by port, LNK_PORT, LNK_PORT_ERR and LNK_PORT_LOAD; ROUTE_READ the paths in effect with N_r; IMPORT_READ the records from an index, each with its two identifiers first, or ABSENT past the end; nothing else changes. For a joined other device each is sent on, for one not joined ABSENT. MEMBER_DROP of a joined worker on the manager is noted for the re-plan and completes OK, of another ABSENT, on another device INVALID. LINK_RETRAIN puts its port into training and completes OK; a port above 5 is INVALID. The layout of what the reads return is the model's choice (log entry 2). -/
def Obligations.LinkPortsAndConstellationCommands : Prop := Claims.LinkPortsTrainAndFail ∧ Claims.ConstellationCommandsAnswer

/-- Beacons. The manager that holds the lease and found no conflict floods a beacon at a mark with N mod 8 = 0 and opens a new interval; otherwise nothing is sent. A unit that follows beacons takes the time of one that it sees first, with its correction and the port's delay, as LINK, which is then OK; one of another constellation is counted and discarded, and so is no part of its time. After 3 ms without one LINK is not OK and a joined worker is ISOLATED; before, nothing changes. -/
def Sys2Proof.Claims.BeaconsCarryTime : Prop :=
  (∀ s : State,
    (s.isManager = true → s.rd Reg.LNK_STATE_CAUSE ≠ 6 → s.flag Reg.GLB_PAIR_LEASE = true → s.time.n % 8 = 0 →
      ∃ t, exec .beaconSend s = .next t ∧ t.link.intervalN = s.time.n ∧ t.link.joinCount = 0 ∧ (0x01, 0, s.time.n / 8 % 2 ^ 32) ∈ t.link.seen ∧
        (∀ p, p < 6 → s.carries p = true → ∃ f, (t.lport p).sent = f :: (s.lport p).sent ∧ f.typ = 0x01 ∧ f.payload = s.beaconBytes) ∧
        (∀ p, p < 6 → s.carries p = false → t.lport p = s.lport p) ∧ t = { s with link := t.link }) ∧
    (s.isManager = false ∨ s.rd Reg.LNK_STATE_CAUSE = 6 ∨ s.flag Reg.GLB_PAIR_LEASE = false ∨ s.time.n % 8 ≠ 0 → exec .beaconSend s = .next s)) ∧
  (∀ (port : Fin 6) (f : LinkFrame) (s : State), FirstSeen s port.val f → s.isManager = false →
    (s.img.run = none ∨ fieldLE f.payload 0 4 = s.ownId →
      ∃ t, exec (.beacon port f) s = .next t ∧ t.flag Reg.LNK_STATE_LINK_OK = true ∧ t.link.lastBeacon = some s.runNs ∧
        t.time.link = some (clockOf (fieldLE f.payload 0x10 8 % 2 ^ 48 * 1000000000 + fieldLE f.payload 0x18 4 + (fieldLE f.payload 0x1C 4 + s.rd Reg.LNK_PORT_DELAY_NS [port.val])) 0) ∧
        t.time.d = s.time.d) ∧
    (s.img.run.isSome = true → fieldLE f.payload 0 4 ≠ s.ownId → exec (.beacon port f) s = .next ((acknowledged s port.val f).count 0x1C7))) ∧
  (∀ s : State, (∀ b, s.link.lastBeacon = some b → b + 3000000 ≤ s.runNs) → ∃ t, exec .linkLoss s = .next t ∧ t.flag Reg.LNK_STATE_LINK_OK = false ∧
    (s.isJoined = true → t.rd Reg.LNK_STATE_STATE = 3 ∧ t.rd Reg.GLB_ROLE_DEVNUM = 0 ∧ t.link.table.members = [] ∧ t.link.subs = []) ∧ (s.isJoined = false → t = s.wr Reg.LNK_STATE_LINK_OK 0)) ∧
  (∀ (s : State) (b : Nat), s.link.lastBeacon = some b → s.runNs < b + 3000000 → exec .linkLoss s = .next s)

/-- Joining. A listening worker in its slot sends a request on its upstream port and waits for the answer; without a slot, an upstream port or an image it sends none. The manager counts and answers a request on the port it came by; another device passes it on upstream with the port of arrival in its path, or discards and counts it. An admission awaits its mark, a deferral shows cause 5, a refusal its cause, REFUSED and a retry in 1 s; an answer to another request changes nothing. 2 ms without an answer end the request, and 1 s after a refusal with LINK OK the worker listens again. The manager notes the links that a device reports, for a re-plan; another device only passes them on. -/
def Sys2Proof.Claims.WorkersJoin : Prop :=
  (∀ (s : State) (i : Img) (p a b : Nat), s.link.upstream = some (p, a, b) → s.img.run = some i → s.rd Reg.LNK_STATE_STATE = 1 → s.flag Reg.LNK_STATE_LINK_OK = true → s.link.slot = true →
    ∃ t, exec .joinReqSend s = .next t ∧ t.link.slot = false ∧ t.link.asked = some (s.runNs, s.link.joinTag) ∧
      (s.portUp p = true → ∃ f, (t.lport p).sent = f :: (s.lport p).sent ∧ f.typ = 0x07 ∧ f.dst = 0 ∧ f.tag = s.link.joinTag ∧ fieldLE f.payload 0 1 = i.devnum % 256) ∧ t = { s with link := t.link }) ∧
  (∀ s : State, (s.link.upstream = none ∨ s.img.run = none ∨ s.rd Reg.LNK_STATE_STATE ≠ 1 ∨ s.flag Reg.LNK_STATE_LINK_OK = false ∨ s.link.slot = false) → exec .joinReqSend s = .next s) ∧
  (∀ (port : Fin 6) (f : LinkFrame) (s : State), s.portUp port.val = true → s.carries port.val = true →
    (s.isManager = true → ∃ t, exec (.joinReq port f) s = .next t ∧ t.link.joinCount = s.link.joinCount + 1) ∧
    (s.isManager = false → 4 ≤ f.hop → exec (.joinReq port f) s = .next ((acknowledged s port.val f).count 0x1C7)) ∧
    (∀ q a b, s.isManager = false → f.hop < 4 → s.link.upstream = some (q, a, b) → s.carries q = true →
      exec (.joinReq port f) s = .next ((acknowledged s port.val f).linkSend q { f with path := setBits f.path (4 * f.hop + 3) (4 * f.hop) port.val, hop := f.hop + 1 }))) ∧
  (∀ (port : Fin 6) (f : LinkFrame) (s : State) (a : Nat), Arrived s port.val f →
    (s.link.asked = some (a, f.tag) → s.rd Reg.LNK_STATE_STATE = 1 →
      ∃ t, exec (.joinAck port f) s = .next t ∧ t.link.asked = none ∧ (fieldLE f.payload 0 1 = 0 → t.link.joinAt = some (fieldLE f.payload 8 8) ∧ t.regs = s.regs) ∧
        (fieldLE f.payload 0 1 = 5 → t.rd Reg.LNK_STATE_CAUSE = 5 ∧ t.rd Reg.LNK_STATE_STATE = 1) ∧
        (fieldLE f.payload 0 1 ≠ 0 → fieldLE f.payload 0 1 ≠ 5 → t.rd Reg.LNK_STATE_STATE = 4 ∧ t.link.retryAt = some (s.runNs + 1000000000))) ∧
    (∀ g, s.link.asked = some (a, g) → g ≠ f.tag → exec (.joinAck port f) s = .next (acknowledged s port.val f))) ∧
  (∀ s : State,
    (∀ a g, s.link.asked = some (a, g) → s.link.retryAt = none → exec .joinRetry s = .next (if a + 2000000 ≤ s.runNs then { s with link := { s.link with asked := none } } else s)) ∧
    (∀ r, s.link.asked = none → s.link.retryAt = some r → r ≤ s.runNs → s.rd Reg.LNK_STATE_STATE = 4 → s.flag Reg.LNK_STATE_LINK_OK = true →
      ∃ t, exec .joinRetry s = .next t ∧ t.rd Reg.LNK_STATE_STATE = 1 ∧ t.link.retryAt = none)) ∧
  (∀ (port : Fin 6) (f : LinkFrame) (s : State), FirstSeen s port.val f →
    (s.isManager = true → f.src ≠ 0xFF → ∃ t, exec (.linkState port f) s = .next t ∧ t.link.planDue = true ∧
      t.link.reports.look (f.src * 2 + b2n (bitOf f.flags 0)) = some ((List.range 6).map (fun p =>
        (bitOf (fieldLE f.payload (2 * p) 1) 2 && decide (2 ≤ fieldLE f.payload (2 * p) 1 % 4), fieldLE f.payload (2 * p + 1) 1, fieldLE f.payload (2 * p) 1 / 16)))) ∧
    (s.isManager = false → exec (.linkState port f) s = .next (((acknowledged s port.val f).noteFlood f).flood f (some port.val))))

/-- The manager sends beacons, a follower takes LINK from them, and joining goes by its frames. The manager with the lease and no conflict floods a beacon at a mark with N mod 8 = 0, on every port that carries frames, and opens a new interval; otherwise nothing is sent. A unit that follows beacons takes the time of one it sees first, with its correction and the port's delay, as LINK, which is then OK; one of another constellation is discarded and counted. After 3 ms without one LINK is not OK and a joined worker is ISOLATED; before, nothing changes. A listening worker in its slot sends a request on its upstream port; without a slot, an upstream port or an image none. The manager counts each request it receives; another device passes it on upstream with the port of arrival in its path, and discards and counts one of four hops. An admission awaits its mark, a deferral shows cause 5, a refusal gives REFUSED and a retry in 1 s; an answer to another request changes nothing. 2 ms without an answer end the request; after a refusal's 1 s with LINK OK the worker listens again. The manager notes the links that a device reports, for a re-plan; another device only passes them on. -/
def Obligations.BeaconsCarryTimeAndMembership : Prop := Claims.BeaconsCarryTime ∧ Claims.WorkersJoin

/-- Frames of subscriptions, exports, routes, relayed commands and alignment take effect at their destination. At its destination: a subscription of one fragment is judged by its entries at the exporter; an acceptance gives the importer its number, a refusal its status and offending entry, counted; an export frame not yet late joins its buffer, one that is late is counted and discarded; a route table of one fragment waits for its mark; a relayed command without data enters its executor's queue with the sender's handle. Of a set of several fragments the first is kept and nothing else happens. A path frame that has not arrived goes out on its next port and does nothing else here. An alignment request seen for the first time reaches this device's subscribers after it was forwarded; one already seen does nothing. Sets not complete 1 ms after their first fragment are discarded. -/
def Obligations.SubscriptionsExportsAndTablesArrive : Prop :=
  (∀ (port : Fin 6) (f : LinkFrame) (s : State), Arrived s port.val f → s.link.frags = [] → fieldLE f.payload 2 1 = 0 →
    (fieldLE f.payload 3 1 = 1 → exec (.subscribe port f) s = .next ((acknowledged s port.val f).judgeSub f.src (fieldLE f.payload 0 2)
      ((recordsOf (f.payload.drop 16) 8 (fieldLE f.payload 4 2)).map (fun r => (fieldLE r 0 4, fieldLE r 4 1))))) ∧
    (2 ≤ fieldLE f.payload 3 1 → ∃ t x, exec (.subscribe port f) s = .next t ∧ t.link.frags = [x] ∧ x.src = f.src ∧ x.parts = [(0, f.payload)] ∧ t.link.exports = s.link.exports)) ∧
  (∀ (port : Fin 6) (f : LinkFrame) (s : State) (x : ImportSub), Arrived s port.val f → s.link.subs = [x] → x.exporter = f.src → x.req = fieldLE f.payload 0 2 →
    ∃ t, exec (.subAck port f) s = .next t ∧
      t.link.subs = [{ x with no := if fieldLE f.payload 2 1 = 0 then some (fieldLE f.payload 4 2) else none, status := fieldLE f.payload 2 1, bad := fieldLE f.payload 8 4 }] ∧
      t.ctr = (if fieldLE f.payload 2 1 = 0 then s else s.count 0x1CC).ctr) ∧
  (∀ (port : Fin 6) (f : LinkFrame) (s : State), Arrived s port.val f →
    (nearN s.time.n f.tag + 2 ≤ s.time.n → exec (.exportRx port f) s = .next (((acknowledged s port.val f).count 0x1C8).incHold Reg.LNK_LATE_COUNT)) ∧
    (s.time.n < nearN s.time.n f.tag + 2 → ∃ t, exec (.exportRx port f) s = .next t ∧
      (∃ b ∈ t.link.bufs, b.exporter = f.src ∧ b.no = fieldLE f.payload 0 2 ∧ b.cut = nearN s.time.n f.tag ∧
        ∀ i, i < fieldLE f.payload 4 2 → (b.entries.look (fieldLE f.payload 2 2 + i)) = some (wordLE f.payload (8 + 16 * i), fieldLE f.payload (12 + 16 * i) 1, fieldLE f.payload (16 + 16 * i) 8)) ∧
      t = { s with link := t.link })) ∧
  (∀ (port : Fin 6) (f : LinkFrame) (s : State), Arrived s port.val f → s.link.frags = [] → fieldLE f.payload 8 1 = 0 → fieldLE f.payload 9 1 = 1 →
    ∃ t r, exec (.routeTable port f) s = .next t ∧ t.link.next = some r ∧ r.n = fieldLE f.payload 0 8 ∧
      r.members = (List.range 256).filter (fun d => bitOf (fieldLE f.payload (0x10 + d / 8) 1) (d % 8)) ∧ t.link.table = s.link.table ∧ t = { s with link := t.link }) ∧
  (∀ (port : Fin 6) (f : LinkFrame) (s : State), Arrived s port.val f → s.link.hosts = [] → fieldLE f.payload 0 1 = 1 → fieldLE (slice f.payload 16 64) 16 4 = 0 →
    ∃ t g, exec (.hostFrame port f) s = .next t ∧ g.ref.handle = f.tag ∧ g.ref.origin = some f.src ∧ g.ref.op = fieldLE (slice f.payload 16 64) 0 2 ∧ g.executor = executorOf g.ref.op ∧
      g.args = (List.range 10).map (fun i => fieldLE (slice f.payload 16 64) (24 + 4 * i) 4) ∧
      (g.executor = .steward → t.host = { s.host with steward := { s.host.steward with queue := s.host.steward.queue ++ [g] } }) ∧
      (g.executor ≠ .steward → t.host = { s.host with waiting := s.host.waiting ++ [g] }) ∧ t = { s with link := t.link, host := t.host }) ∧
  (∀ (port : Fin 6) (f : LinkFrame) (s : State) (c : Instr), c ∈ [Instr.exportRx port f, .routeTable port f, .hostFrame port f, .pointReq port f, .pointRsp port f] →
    s.portUp port.val = true → s.carries port.val = true → f.hop < f.pathLen → exec c s = .next ((acknowledged s port.val f).routeOut f)) ∧
  (∀ (port : Fin 6) (f : LinkFrame) (s : State),
    (FirstSeen s port.val f → exec (.alignFrame port f) s = .next ((((acknowledged s port.val f).noteFlood f).flood f (some port.val)).alignRx (fieldLE f.payload 0 1) (fieldLE f.payload 8 8))) ∧
    (s.portUp port.val = true → s.carries port.val = true → (f.typ, f.src, f.tag) ∈ s.link.seen → exec (.alignFrame port f) s = .next (acknowledged s port.val f))) ∧
  (∀ s : State, exec .fragmentSetTimeout s = .next { s with link := { s.link with
    frags := s.link.frags.filter (fun x => decide (s.runNs < x.first + 1000000)), hosts := s.link.hosts.filter (fun x => decide (s.runNs < x.first + 1000000)) } })

namespace Sys2Proof.Claims

/-- A reference with its reserved bits 0 to an object of the own device. -/
def OwnRef (s : State) (r : Nat) : Prop := refBad r = false ∧ idDev r = s.ownDev

end Sys2Proof.Claims

/-- Loop commands read the sealed cut, arm traces at once, and latch changes for the next base mark. For a defined loop of this device: LOOP_READ returns nodes and status of each loop from the last sealed cut. A coefficient swap whose resulting set is in range and needs no longer table than the charged one is acknowledged and latched; one that needs a longer table ends CERT_FAIL with DETAIL 0x000F. A set out of range is INVALID at once. LOOP_DISABLE and LOOP_ENABLE are acknowledged and latched, or recorded and answered at once while the executing cell is SAFE. TRACE_ARM with POST below the depth of a loop with a trace empties the trace and arms it, and is INVALID otherwise. TRACE_TRIGGER is latched and answered. TRACE_READ returns a frozen trace and is BUSY otherwise. TABLE_READ returns a table of the cell, and is ABSENT for one it has not. LOOP_SET_MODE is latched and answered where MODE_PT is NONE, DENIED with DETAIL 6 otherwise, and INVALID for a mode above 2. -/
def Sys2Proof.Claims.LoopCommandsLatchReadAndArm : Prop :=
  ∀ (ref : CmdRef) (args : List Nat) (s : State),
    let r := argN args 0
    let h := idCell r
    let k := refObj r
    let lt (op : Nat) (ref : CmdRef) : Latched := { op := op, home := h, obj := k, args := args, ref := ref }
    (Admitted s 0x0301 → badCount args 16 = (false, .invalid, 0) → 68 * argN args 0 ≤ ref.bufLen →
      (∀ x ∈ (args.drop 1).take (argN args 0), OwnRef s x ∧ s.loopThere x = true ∧ idCell x = idCell (argN args 1)) →
      exec (.loopRead ref args) s = .next (s.complete (opRef ref 0x0301) .ok 0 0 ((((args.drop 1).take (argN args 0)).map (fun x =>
        let t := s.cut.loops.at' (idCell x * 256 + refObj x) (s.loopSt (idCell x) (refObj x))
        wordsBytes t.nodes ++ leBytes 4 (loopStat t))).flatten))) ∧
    (OwnRef s r → s.loopThere r = true →
      (∀ (d : LoopDef) (tab : TableDef), Admitted s 0x0302 → s.loopDef h k = some d → 11 ≤ args.length → argN args 1 < 512 → (bitOf (argN args 1) 0 = true → argN args 2 < 65536) →
        (let c := coefsUnder (argN args 1) (s.coefsDue h k) (coefArgs args)
         (∀ i, coefsBad c = some i → exec (.loopSetCoef ref args) s = .next (s.complete (longRef ref 0x0302) .invalid (2 + i))) ∧
         (coefsBad c = none → s.gainSize h c.gainTab = some tab.pairs.length →
          (tab.pairs.length ≤ (s.gainSize h d.gainTab).getD 0 → exec (.loopSetCoef ref args) s = .next ((s.accept (longRef ref 0x0302)).latch (lt 0x0302 (longRef ref 0x0302)))) ∧
          ((s.gainSize h d.gainTab).getD 0 < tab.pairs.length →
            exec (.loopSetCoef ref args) s = .next ((s.accept (longRef ref 0x0302)).complete (longRef ref 0x0302) .certFail 0x000F))))) ∧
      (s.cellSafe (s.execOf h) = false →
        (Admitted s 0x0303 → exec (.loopDisable ref args) s = .next ((s.accept (longRef ref 0x0303)).latch (lt 0x0303 (longRef ref 0x0303)))) ∧
        (Admitted s 0x0304 → exec (.loopEnable ref args) s = .next ((s.accept (longRef ref 0x0304)).latch (lt 0x0304 (longRef ref 0x0304))))) ∧
      (s.cellSafe (s.execOf h) = true → (s.fab.cells.at' (s.execOf h) {}).firstSafe = false →
        (Admitted s 0x0303 → ∃ u : State, exec (.loopDisable ref args) s = .next (u.complete (longRef ref 0x0303) .ok) ∧
          (u.loopSt h k).able = (s.loopSt h k).able ++ [(false, none)] ∧ u = { (s.accept (longRef ref 0x0303)) with loops := u.loops }) ∧
        (Admitted s 0x0304 → ∃ u : State, exec (.loopEnable ref args) s = .next (u.complete (longRef ref 0x0304) .ok) ∧
          (u.loopSt h k).able = (s.loopSt h k).able ++ [(true, none)] ∧ u = { (s.accept (longRef ref 0x0304)) with loops := u.loops })) ∧
      (s.cellSafe (s.execOf h) = true → (s.fab.cells.at' (s.execOf h) {}).firstSafe = true →
        (Admitted s 0x0303 → exec (.loopDisable ref args) s = .next (((s.accept (longRef ref 0x0303)).complete (longRef ref 0x0303) .ok).latch (lt 0x0303 { longRef ref 0x0303 with replayed := true }))) ∧
        (Admitted s 0x0304 → exec (.loopEnable ref args) s = .next (((s.accept (longRef ref 0x0304)).complete (longRef ref 0x0304) .ok).latch (lt 0x0304 { longRef ref 0x0304 with replayed := true })))) ∧
      (∀ d : LoopDef, Admitted s 0x0305 → s.loopDef h k = some d → d.traceEn = false ∨ d.traceDepth ≤ argN args 1 →
        exec (.traceArm ref args) s = .next (s.complete (opRef ref 0x0305) .invalid 1)) ∧
      (∀ d : LoopDef, Admitted s 0x0305 → s.loopDef h k = some d → d.traceEn = true → argN args 1 < d.traceDepth →
        ∃ u : State, exec (.traceArm ref args) s = .next (u.complete (opRef ref 0x0305) .ok) ∧
          (u.loopSt h k).trace.st = .armed ∧ (u.loopSt h k).trace.rows = [] ∧ (u.loopSt h k).trace.postN = argN args 1 ∧
          u = { s with loops := u.loops, cut := u.cut }) ∧
      (Admitted s 0x0306 → exec (.traceTrigger ref args) s = .next ((s.latch (lt 0x0306 (opRef ref 0x0306))).complete (opRef ref 0x0306) .ok)) ∧
      (∀ d : LoopDef, Admitted s 0x0307 → s.loopDef h k = some d →
        ((s.loopSt h k).trace.st = .frozen → (traceData r d.traceMask (s.loopSt h k).trace).length ≤ ref.bufLen →
          exec (.traceRead ref args) s = .next (s.complete (opRef ref 0x0307) .ok 0 0 (traceData r d.traceMask (s.loopSt h k).trace))) ∧
        ((s.loopSt h k).trace.st ≠ .frozen → exec (.traceRead ref args) s = .next (s.complete (opRef ref 0x0307) .busy))) ∧
      (∀ tab : TableDef, Admitted s 0x0308 → argN args 1 < 65536 → s.table h (argN args 1) = some tab → (tableBytes tab).length ≤ ref.bufLen →
        exec (.tableRead ref args) s = .next (s.complete (opRef ref 0x0308) .ok 0 0 (tableBytes tab))) ∧
      (argN args 1 < 65536 → s.table h (argN args 1) = none → exec (.tableRead ref args) s = .next (s.complete (opRef ref 0x0308) .absent 1)) ∧
      (3 ≤ argN args 1 → exec (.loopSetMode ref args) s = .next (s.complete (opRef ref 0x0309) .invalid 1)) ∧
      (∀ d : LoopDef, Admitted s 0x0309 → s.loopDef h k = some d → argN args 1 < 3 →
        (d.mode = NONE → exec (.loopSetMode ref args) s = .next ((s.latch (lt 0x0309 (opRef ref 0x0309))).complete (opRef ref 0x0309) .ok)) ∧
        (d.mode ≠ NONE → exec (.loopSetMode ref args) s = .next (s.complete (opRef ref 0x0309) .denied 6))))

/-- A trace never holds more rows than its depth, and freezes POST rows after its trigger. For every loop with a trace whose POST is below its depth: one execution keeps, of an armed trace, at most DEPTH − 1 − POST rows, of one that runs on after its trigger at most DEPTH − POST + the rows since, of a frozen one at most DEPTH; a row is added to an open trace only, and a frozen or idle trace keeps its rows. -/
def Sys2Proof.Claims.TraceKeepsItsDepth : Prop :=
  ∀ (d : LoopDef) (n : Nat) (st : LoopState) (trig : Bool), st.trace.postN < d.traceDepth →
    let fits (t : Trace) : Prop :=
      (t.st = .armed → t.rows.length ≤ d.traceDepth - 1 - t.postN) ∧
      (t.st = .post → t.after < t.postN ∧ t.rows.length ≤ d.traceDepth - t.postN + t.after) ∧
      (t.st = .frozen → t.rows.length ≤ d.traceDepth)
    let t := traceStep d n st trig
    (fits st.trace → fits t) ∧ t.postN = st.trace.postN ∧
    (st.trace.st = .idle ∨ st.trace.st = .frozen → t.st = st.trace.st ∧ t.rows = st.trace.rows ∧ t.trigRow = st.trace.trigRow) ∧
    (st.trace.st = .armed → st.trace.cmdTrig = true → t.rows = st.trace.rows ++ [(n, maskedNodes d.traceMask st.nodes)] ∧ t.trigRow = some st.trace.rows.length ∧
      t.st = if st.trace.postN = 0 then .frozen else .post)

/-- A loop command that names no loop. A LOOP_REF with a bit of 31:25 or 10:8 set is INVALID; one of this device that names a cell without the role LOOP, or a loop not defined, is ABSENT, for a long operation after its acknowledgement; one of a joined other device is sent on, and of one not joined ABSENT. -/
def Sys2Proof.Claims.LoopReferencesAreChecked : Prop :=
  ∀ (ref : CmdRef) (args : List Nat) (s : State) (c : Instr) (op : Nat),
    (c, op) ∈ [(Instr.loopDisable ref args, 0x0303), (.loopEnable ref args, 0x0304), (.traceArm ref args, 0x0305), (.traceTrigger ref args, 0x0306), (.traceRead ref args, 0x0307), (.loopSetMode ref args, 0x0309)] →
    let r := argN args 0
    let q := if op = 0x0303 ∨ op = 0x0304 then longRef ref op else opRef ref op
    (refBad r = true → exec c s = .next (s.complete q .invalid)) ∧
    (OwnRef s r → s.loopThere r = false → argN args 1 < 3 → exec c s = .next ((if op = 0x0303 ∨ op = 0x0304 then s.accept q else s).complete q .absent)) ∧
    (refBad r = false → s.img.run.isSome = true → idDev r ≠ s.ownDev →
      exec c s = .next (if s.joined (idDev r) then { s with host := { s.host with relays := s.host.relays ++ [{ dev := idDev r, ref := opRef ref op, op := op, args := args, sentAt := s.runNs }] } }
        else s.complete (opRef ref op) .absent))

/-- Loop commands read the sealed cut, arm traces and latch changes, and a trace keeps its depth. For a defined loop of this device: LOOP_READ returns nodes and status of each loop from the last sealed cut. A coefficient swap whose resulting set is in range and needs no longer table than the charged one is acknowledged and latched; one that needs a longer table ends CERT_FAIL with DETAIL 0x000F, one out of range INVALID. LOOP_DISABLE and LOOP_ENABLE are acknowledged and latched, or recorded and answered at once while the executing cell is SAFE. TRACE_ARM with POST below the depth of a loop with a trace empties the trace and arms it, and is INVALID otherwise. TRACE_TRIGGER is latched and answered. TRACE_READ returns a frozen trace and is BUSY otherwise. TABLE_READ returns a table of the cell, ABSENT for one it has not. LOOP_SET_MODE is latched and answered where MODE_PT is NONE, DENIED with DETAIL 6 otherwise, INVALID for a mode above 2. A LOOP_REF out of form is INVALID, one that names no loop of this device ABSENT, one of a joined other device is sent on. One execution of a loop whose POST is below its depth keeps, of an armed trace, at most DEPTH − 1 − POST rows, of one that runs on after its trigger at most DEPTH − POST + the rows since, of a frozen one at most DEPTH; a frozen or idle trace keeps its rows. -/
def Obligations.LoopCommandsAndTraces : Prop := Claims.LoopCommandsLatchReadAndArm ∧ Claims.LoopReferencesAreChecked ∧ Claims.TraceKeepsItsDepth

/-- Axis and generator commands on a defined axis or generator of this device. AXIS_READ returns, for each axis, CEL_AXIS_STAT_a, x, V_FILT, x_ref, v_ref, a_ref, U_PREV and I from the last sealed cut. PG_MOVE with a finite target in the axis's limits is acknowledged and reaches the generator as a request when it accepts moves, and ends DENIED 6 when not. AXIS_STOP asks for a quick stop in the next sub-cycle. AXIS_SET_MODE asks for the mode where MODE_PT is NONE, DENIED 6 otherwise. AXIS_ENABLE and AXIS_DISABLE are acknowledged and latched, PG_SET_LIMITS with three limits above 0 is latched. AXIS_RESET with no cause present clears every fault and takes HALT to RUN and TRIPPED to OFF, DENIED 6 otherwise. AXIS_SET_POS of an OFF axis takes the position for the next sub-cycle and clears REF_LOST, DENIED 6 otherwise. Those that act at once change that axis or generator and nothing else, in the working state and in the state to which a late sub-cycle reverts. -/
def Sys2Proof.Claims.AxisCommandsTakeEffect : Prop :=
  ∀ (ref : CmdRef) (args : List Nat) (s : State),
    let r := argN args 0
    let h := idCell r
    let k := refObj r
    let lt (op : Nat) (ref : CmdRef) : Latched := { op := op, home := h, obj := k, args := args, ref := ref }
    (Admitted s 0x0310 → badCount args 32 = (false, .invalid, 0) → 32 * argN args 0 ≤ ref.bufLen →
      (∀ x ∈ (args.drop 1).take (argN args 0), OwnRef s x ∧ refObj x < 32 ∧ s.axisThere x = true) →
      exec (.axisRead ref args) s = .next (s.complete (opRef ref 0x0310) .ok 0 0 ((((args.drop 1).take (argN args 0)).map (fun x =>
        let a := s.cut.axes.at' (idCell x * 32 + refObj x) (s.axisSt (idCell x) (refObj x))
        match s.axisDef (idCell x) (refObj x) with
        | some d =>
          let g := s.cut.pgs.at' (idCell x * 8 + d.pg) (s.pgSt (idCell x) d.pg)
          leBytes 4 (axisStat d a) ++ wordsBytes [a.x, a.vFilt, g.xRef, g.vRef, g.aRef, a.uPrev, a.i]
        | none => [])).flatten))) ∧
    (OwnRef s r → k < 8 → s.pgThere r = true →
      (∀ t : F32, t = BitVec.ofNat 32 (argN args 1) → F32.fin t = true → s.targetOk h k t = true → Admitted s 0x0311 →
        (s.moveReady h k = true → ∃ u : State, exec (.pgMove ref args) s = .next u ∧ u = { (s.accept (longRef ref 0x0311)) with pgs := u.pgs } ∧
          u.pgSt h k = { s.pgSt h k with arrived := (s.pgSt h k).arrived ++ [{ target := t, ref := some (longRef ref 0x0311) }] }) ∧
        (s.moveReady h k = false → exec (.pgMove ref args) s = .next ((s.accept (longRef ref 0x0311)).complete (longRef ref 0x0311) .denied 6))) ∧
      (Admitted s 0x0318 → (∀ i ∈ [1, 2, 3], finPos (BitVec.ofNat 32 (argN args i)) = true) →
        exec (.pgSetLimits ref args) s = .next (s.latch (lt 0x0318 (opRef ref 0x0318))))) ∧
    (OwnRef s r → k < 32 → s.axisThere r = true →
      (Admitted s 0x0312 → ∃ u : State, exec (.axisStop ref args) s = .next (u.complete (opRef ref 0x0312) .ok) ∧
        u = { s with axes := u.axes, fast := u.fast } ∧ u.axisSt h k = { s.axisSt h k with stopReq := true }) ∧
      (∀ d : AxisDef, Admitted s 0x0313 → s.axisDef h k = some d → argN args 1 < 3 →
        (d.modePt = NONE → ∃ u : State, exec (.axisSetMode ref args) s = .next (u.complete (opRef ref 0x0313) .ok) ∧
          u = { s with axes := u.axes, fast := u.fast } ∧ u.axisSt h k = { s.axisSt h k with modeReq := axisModeOf (argN args 1) }) ∧
        (d.modePt ≠ NONE → exec (.axisSetMode ref args) s = .next (s.complete (opRef ref 0x0313) .denied 6))) ∧
      (Admitted s 0x0314 → exec (.axisEnable ref args) s = .next ((s.accept (longRef ref 0x0314)).latch (lt 0x0314 (longRef ref 0x0314)))) ∧
      (Admitted s 0x0315 → exec (.axisDisable ref args) s = .next ((s.accept (longRef ref 0x0315)).latch (lt 0x0315 (longRef ref 0x0315)))) ∧
      (Admitted s 0x0316 →
        ((s.axisSt h k).causes = [] → ∃ u : State, exec (.axisReset ref args) s = .next (u.complete (opRef ref 0x0316) .ok) ∧
          u = { s with axes := u.axes, fast := u.fast } ∧
          u.axisSt h k = { s.axisSt h k with faults := [], satRun := 0, st := match (s.axisSt h k).st with | .halt => .run | .tripped => .off | x => x }) ∧
        ((s.axisSt h k).causes ≠ [] → exec (.axisReset ref args) s = .next (s.complete (opRef ref 0x0316) .denied 6))) ∧
      (∀ x : F32, x = BitVec.ofNat 32 (argN args 1) → F32.fin x = true → Admitted s 0x0317 →
        ((s.axisSt h k).st = .off → ∃ u : State, exec (.axisSetPos ref args) s = .next (u.complete (opRef ref 0x0317) .ok) ∧
          u = { s with axes := u.axes, fast := u.fast } ∧ u.axisSt h k = { s.axisSt h k with setPos := some x, refLost := false }) ∧
        ((s.axisSt h k).st ≠ .off → exec (.axisSetPos ref args) s = .next (s.complete (opRef ref 0x0317) .denied 6))))

/-- Refusals of axis and generator commands. An axis number above 31 or a generator number above 7 is INVALID; a reference of this device that names none is ABSENT, for a long operation after its acknowledgement; one of a joined other device is sent on. A target that is not finite, and a limit that is not above 0, is INVALID. -/
def Sys2Proof.Claims.AxisCommandsAreRefused : Prop :=
  (∀ (ref : CmdRef) (args : List Nat) (s : State) (c : Instr) (op : Nat),
    (c, op) ∈ [(Instr.pgMove ref args, 0x0311), (.axisStop ref args, 0x0312), (.axisSetMode ref args, 0x0313), (.axisEnable ref args, 0x0314), (.axisDisable ref args, 0x0315),
      (.axisReset ref args, 0x0316), (.axisSetPos ref args, 0x0317), (.pgSetLimits ref args, 0x0318)] →
    let r := argN args 0
    let long := decide (op ∈ [0x0311, 0x0314, 0x0315])
    let q := if long then longRef ref op else opRef ref op
    let top := if op = 0x0311 ∨ op = 0x0318 then 8 else 32
    (OwnRef s r → top ≤ refObj r → exec c s = .next (s.complete q .invalid)) ∧
    (OwnRef s r → refObj r < top → (if top = 8 then s.pgThere r else s.axisThere r) = false → (op = 0x0313 → argN args 1 < 3) →
      (op = 0x0311 ∨ op = 0x0317 → F32.fin (BitVec.ofNat 32 (argN args 1)) = true) → (op = 0x0318 → ∀ i ∈ [1, 2, 3], finPos (BitVec.ofNat 32 (argN args i)) = true) →
      exec c s = .next ((if long then s.accept q else s).complete q .absent)) ∧
    (refBad r = false → s.img.run.isSome = true → idDev r ≠ s.ownDev →
      exec c s = .next (if s.joined (idDev r) then { s with host := { s.host with relays := s.host.relays ++ [{ dev := idDev r, ref := opRef ref op, op := op, args := args, sentAt := s.runNs }] } }
        else s.complete (opRef ref op) .absent))) ∧
  (∀ (ref : CmdRef) (args : List Nat) (s : State), OwnRef s (argN args 0) → refObj (argN args 0) < 8 →
    (F32.fin (BitVec.ofNat 32 (argN args 1)) = false → exec (.pgMove ref args) s = .next (s.complete (longRef ref 0x0311) .invalid 1) ∧
      exec (.axisSetPos ref args) s = .next (s.complete (opRef ref 0x0317) .invalid 1)) ∧
    (∀ i, firstBad finPos [BitVec.ofNat 32 (argN args 1), BitVec.ofNat 32 (argN args 2), BitVec.ofNat 32 (argN args 3)] = some i →
      exec (.pgSetLimits ref args) s = .next (s.complete (opRef ref 0x0318) .invalid (1 + i))))

/-- At the mark, latched enables and disables join their axis's requests in order and change nothing else; latched limits, where the key is not STOP against them, are in effect at once on an IDLE generator and wait for the next plan on another, and complete OK with N. -/
def Sys2Proof.Claims.LatchedAxisCommandsReachTheirAxis : Prop :=
  (∀ (s : State) (l : Latched) (en : Bool), ((s.markAxisAble l en).axisSt l.home l.obj) = { s.axisSt l.home l.obj with able := (s.axisSt l.home l.obj).able ++ [(en, l.ref)] } ∧
    s.markAxisAble l en = { s with axes := (s.markAxisAble l en).axes }) ∧
  (∀ (s : State) (l : Latched), s.stoppedNow l.op = false →
    let w (i : Nat) : F32 := BitVec.ofNat 32 (argN l.args i)
    let t := s.markPgLimits l
    ((s.pgSt l.home l.obj).st = .idle → t.pgSt l.home l.obj = { s.pgSt l.home l.obj with v := w 1, a := w 2, j := w 3, limPend := none }) ∧
    ((s.pgSt l.home l.obj).st ≠ .idle → t.pgSt l.home l.obj = { s.pgSt l.home l.obj with limPend := some (w 1, w 2, w 3) }) ∧
    t.fab.done = s.fab.done ++ [(l.home, { ref := l.ref, status := .ok, final := true, detail := 0, result := s.time.n, data := [] })]) ∧
  (∀ (s : State) (l : Latched), s.stoppedNow l.op = true → s.markPgLimits l = s.complete l.ref .denied 1)

/-- Axis and generator commands act on their axis at once or are latched for the next base mark, and are refused as R186 says. For a defined axis or generator of this device: AXIS_READ returns, per axis, CEL_AXIS_STAT_a, x, V_FILT, x_ref, v_ref, a_ref, U_PREV and I from the last sealed cut. PG_MOVE with a finite target in limits is acknowledged and reaches the generator as a request when it accepts moves, and ends DENIED 6 when not. AXIS_STOP asks for a quick stop. AXIS_SET_MODE asks for the mode where MODE_PT is NONE, DENIED 6 otherwise. AXIS_ENABLE and AXIS_DISABLE are acknowledged and latched, PG_SET_LIMITS with limits above 0 is latched. AXIS_RESET with no cause present clears every fault and takes HALT to RUN and TRIPPED to OFF, DENIED 6 otherwise. AXIS_SET_POS of an OFF axis takes the position and clears REF_LOST, DENIED 6 otherwise. Those that act at once change that axis or generator and nothing else, in the working state and in the state to which a late sub-cycle reverts. A number out of range, a target that is not finite or a limit not above 0 is INVALID; a reference that names none is ABSENT; one of a joined other device is sent on. At the mark enables and disables join their axis's requests; limits are in effect at once on an IDLE generator, wait for the next plan on another, and complete OK with N, or DENIED 1 in STOP. -/
def Obligations.AxisCommandsAct : Prop := Claims.AxisCommandsTakeEffect ∧ Claims.AxisCommandsAreRefused ∧ Claims.LatchedAxisCommandsReachTheirAxis

namespace Sys2Proof.Claims

/-- A verb of an active flow that is ready at t with its tokens and may be dispatched. -/
def ReadyVerb (s : State) (h f v t : Nat) (d : VerbDef) : Prop :=
  (s.recipe h).isSome = true ∧ (s.rx h).verbs[v]? = some d ∧ ((s.flow h f).run v).st = .ready t false ∧ (s.flow h f).active = true ∧ s.blocked h f d = false

end Sys2Proof.Claims

/-- The dispatch of a ready verb of an active flow that is not blocked; the releases and the dead-end check that follow every dispatch are State.after. GET of a usable point takes its value and resolves on port 0, of an unusable one on port 1. CALC writes its flow variable, records an error and resolves on port 0. BRANCH resolves on port 1 exactly when its variable equals 0. MERGE resolves. DELAY with a time is in flight and enters the delay list, without one it resolves. WAIT resolves on port 0 when its condition holds; otherwise it is in flight, with its timeout in the delay list where it has one. Each is one dispatch of the cycle and changes nothing but sequence state before those releases. A ready verb without its tokens is skipped, one dispatch too. A verb that is not ready, is blocked, has another opcode or belongs to a flow that is not active changes nothing. -/
def Sys2Proof.Claims.VerbsDispatch : Prop :=
  ∀ (cell : Fin 64) (f v t : Nat) (d : VerbDef) (s : State),
    let h := cell.val
    let st (u : State) : VerbSt := ((u.flow h f).run v).st
    (ReadyVerb s h f v t d →
      (d.op = .get → ∃ u : State, exec (.vbGet cell f v) s = .next ((u.counted h).after h f) ∧ u = { s with seqs := u.seqs } ∧
        (usable false (s.inp h d.a) = true → st u = .resolved 0 t ∧ (u.flow h f).fv = (s.flow h f).fv.set d.dst (fromPoint (s.formatOf d.a) (s.inp h d.a).value)) ∧
        (usable false (s.inp h d.a) = false → st u = .resolved 1 t ∧ (u.flow h f).fv = (s.flow h f).fv)) ∧
      (d.op = .calc → let r := calcOp d.sub ((s.flow h f).fv.getD d.a 0) (operandOf d (s.flow h f))
        ∃ u : State, exec (.vbCalc cell f v) s = .next ((u.counted h).after h f) ∧ u = { s with seqs := u.seqs } ∧
          st u = .resolved 0 t ∧ (u.flow h f).fv = (s.flow h f).fv.set d.dst r.1 ∧ (u.flow h f).calcErr = ((s.flow h f).calcErr || r.2)) ∧
      (d.op = .branch → ∃ u : State, exec (.vbBranch cell f v) s = .next ((u.counted h).after h f) ∧ u = { s with seqs := u.seqs } ∧
        st u = .resolved (if F32.eq ((s.flow h f).fv.getD d.a 0) 0 then 1 else 0) t ∧ (u.flow h f).fv = (s.flow h f).fv) ∧
      (d.op = .merge → ∃ u : State, exec (.vbMerge cell f v) s = .next ((u.counted h).after h f) ∧ u = { s with seqs := u.seqs } ∧
        st u = .resolved 0 t ∧ (u.flow h f).fv = (s.flow h f).fv) ∧
      (d.op = .delay → ∃ u : State, exec (.vbDelay cell f v) s = .next ((u.counted h).after h f) ∧ u = { s with seqs := u.seqs } ∧
        (d.c = 0 → st u = .resolved 0 t ∧ (u.seq h).delays = (s.seq h).delays) ∧
        (0 < d.c → st u = .flight ∧ (u.seq h).delays = insertDelay { due := t + d.c * 10000, flow := f, verb := v } (s.seq h).delays)) ∧
      (d.op = .wait → ∃ u : State, exec (.vbWait cell f v) s = .next ((u.counted h).after h f) ∧ u = { s with seqs := u.seqs } ∧
        (waitTrue d.sub (s.formatOf d.a) (s.inp h d.a) (operandOf d (s.flow h f)) = true → st u = .resolved 0 t ∧ (u.seq h).delays = (s.seq h).delays) ∧
        (waitTrue d.sub (s.formatOf d.a) (s.inp h d.a) (operandOf d (s.flow h f)) = false → st u = .flight ∧
          (u.seq h).delays = if d.c = 0 then (s.seq h).delays else insertDelay { due := t + d.c * 10000, flow := f, verb := v } (s.seq h).delays))) ∧
    (∀ (c : Instr) (op : VerbOp), (c, op) ∈ [(Instr.vbGet cell f v, VerbOp.get), (.vbCalc cell f v, .calc), (.vbDelay cell f v, .delay), (.vbWait cell f v, .wait), (.vbBranch cell f v, .branch), (.vbMerge cell f v, .merge),
        (.vbSeqSet cell f v, .set), (.vbMove cell f v, .move), (.vbRamp cell f v, .ramp), (.vbFork cell f v, .fork), (.vbMark cell f v, .mark), (.vbNext cell f v, .next), (.vbSeqEnd cell f v, .finish)] →
      ((s.recipe h).isSome = true → (s.rx h).verbs[v]? = some d → d.op = op → ((s.flow h f).run v).st = .ready t true → (s.flow h f).active = true →
        ∃ u : State, exec c s = .next ((u.counted h).after h f) ∧ st u = .skipped t ∧ u = { s with seqs := u.seqs }) ∧
      ((s.recipe h = none ∨ (s.flow h f).active = false ∨ ((s.rx h).verbs[v]? = some d ∧ (d.op ≠ op ∨ ((∀ t k, ((s.flow h f).run v).st ≠ .ready t k) ∨ (((s.flow h f).run v).st = .ready t false ∧ s.blocked h f d = true)))) ∨ (s.rx h).verbs[v]? = none) →
        exec c s = .next s))

/-- SET, MOVE, RAMP, FORK, MARK, NEXT and END keep their operand at dispatch and are done at their time; only a release carries out their effect. Where every lower effecting verb of the step has been released or skipped, that release comes at once, at the later of the verb's time and the flow's last release, and then the later releases and the dead-end check follow. -/
def Sys2Proof.Claims.EffectsAreHeldAndReleased : Prop :=
  ∀ (cell : Fin 64) (f v t : Nat) (d : VerbDef) (s : State) (c : Instr), let h := cell.val
    (c, d.op) ∈ [(Instr.vbSeqSet cell f v, VerbOp.set), (.vbMove cell f v, .move), (.vbRamp cell f v, .ramp), (.vbFork cell f v, .fork), (.vbMark cell f v, .mark), (.vbNext cell f v, .next), (.vbSeqEnd cell f v, .finish)] → ReadyVerb s h f v t d →
    (∃ u : State, exec c s = .next ((u.counted h).after h f) ∧ u = { s with seqs := u.seqs } ∧ ((u.flow h f).run v).st = .done t ∧
      ((u.flow h f).run v).operand = operandOf d (s.flow h f) ∧ (u.flow h f).fv = (s.flow h f).fv) ∧
    ((s.flow h f).live = true → nextRelease (s.rx h) (s.flow h f).verbs = some (v, (s.flow h f).run v) →
      ∃ (w : State) (q : VerbRun) (n : Nat), exec c s = .next (((w.releaseEffect h f v q (max t (s.flow h f).tLast)).releaseN h f n).deadEnd h f) ∧ (s.flow h f).verbs.length ≤ n ∧
        q.operand = operandOf d (s.flow h f) ∧ (w.flow h f).tLast = max t (s.flow h f).tLast ∧ ((w.flow h f).run v).released = true ∧ w = { s with seqs := w.seqs })

/-- What the release of a verb at time t does. SET writes its point and resolves on port 0, MARK writes MARK_PT and resolves on port 0. FORK starts its flow and resolves on port 0 where that flow is IDLE, on port 1 where it is not. MOVE hands its target to the generator and is in flight where the generator accepts it, and resolves on port 1 otherwise. RAMP with C = 0 writes its target and resolves; with C its end enters the delay list and it is in flight. NEXT closes the step and makes step A pending, END closes it and ends the flow. -/
def Sys2Proof.Claims.ReleasesTakeEffect : Prop :=
  ∀ (s : State) (h f v t : Nat) (d : VerbDef) (r : VerbRun), (s.rx h).verbs[v]? = some d →
    let u := s.releaseEffect h f v r t
    (d.op = .set → u = (s.flowRelease h (t, f, v) d.a r.operand).resolve h f v (.resolved 0 t)) ∧
    (d.op = .mark → ∀ fd, (s.rx h).flows[f]? = some fd → u = (s.keyedWrite h (t, f, v) fd.markPt (BitVec.ofNat 32 d.c)).resolve h f v (.resolved 0 t)) ∧
    (d.op = .fork → ∀ g, (s.rx h).named d.a d.b.toNat = some g → g.retired = false →
      ((s.flow h d.a).st = .idle → d.a ≠ f → (u.flow h d.a).st = .running ∧ (u.flow h d.a).pending = some g.stepId ∧ ((u.flow h f).run v).st = .resolved 0 t) ∧
      ((s.flow h d.a).st ≠ .idle → u = s.resolve h f v (.resolved 1 t))) ∧
    (d.op = .move → 
      (s.pgThere d.a = true → s.targetOk (idCell d.a) (refObj d.a) r.operand = true → s.moveReady (idCell d.a) (refObj d.a) = true → s.keyStopped = false →
        (u.pgSt (idCell d.a) (refObj d.a)).arrived = (s.pgSt (idCell d.a) (refObj d.a)).arrived ++ [{ target := r.operand, verb := some (h, f, v, (s.flow h f).entry) }] ∧
        ((u.flow h f).run v).st = .flight ∧ u = { s with pgs := u.pgs, seqs := u.seqs }) ∧
      ((s.pgThere d.a && s.targetOk (idCell d.a) (refObj d.a) r.operand && s.moveReady (idCell d.a) (refObj d.a) && !s.keyStopped) = false → u = s.resolve h f v (.resolved 1 t))) ∧
    (d.op = .ramp →
      (d.c = 0 → u = (s.flowRelease h (t, f, v) d.a r.operand).resolve h f v (.resolved 0 t)) ∧
      (0 < d.c → ((u.flow h f).run v).st = .flight ∧ ((u.flow h f).run v).rampT0 = t ∧ ((u.flow h f).run v).rampLen = d.c * 10000 ∧
        (u.seq h).delays = insertDelay { due := t + d.c * 10000, flow := f, verb := v } (s.seq h).delays)) ∧
    (d.op = .next → (u.flow h f).pending = some d.a ∧ (u.flow h f).step = none ∧ (u.flow h f).verbs = [] ∧ (u.flow h f).live = false ∧
      (∀ e ∈ (u.seq h).delays, e.flow ≠ f) ∧ u = { s with seqs := u.seqs }) ∧
    (d.op = .finish → (u.flow h f).ended = true ∧ (u.flow h f).step = none ∧ (u.flow h f).verbs = [] ∧ (u.flow h f).live = false ∧
      (∀ e ∈ (u.seq h).delays, e.flow ≠ f) ∧ u = { s with seqs := u.seqs })

/-- The head of the delay list falls due. That of a DELAY resolves it on port 0, of a WAIT on port 1, of a RAMP writes the ramp's target and resolves it on port 0; it leaves the list and counts as a dispatch. That of a step timer ends its flow's step in fault. Each row acts on its own kind of head only, and an empty list changes nothing. -/
def Sys2Proof.Claims.DelayHeadsFallDue : Prop :=
  ∀ (cell : Fin 64) (f : Nat) (s : State), let h := cell.val
    ((s.seq h).delays = [] → exec (.delayListExpiry cell) s = .next s ∧ exec (.stepTimeout cell f) s = .next s) ∧
    (∀ (e : DelayEntry) (rest : List DelayEntry), (s.seq h).delays = e :: rest →
      (e.verb ≠ 16384 → exec (.stepTimeout cell f) s = .next s ∧ ∀ d : VerbDef, (s.rx h).verbs[e.verb]? = some d → ∃ u : State,
        u = { s with seqs := u.seqs } ∧ (u.seq h).delays = rest ∧ (u.seq h).disp = (s.seq h).disp + 1 ∧
        (d.op = .delay → exec (.delayListExpiry cell) s = .next ((u.resolve h e.flow e.verb (.resolved 0 e.due)).after h e.flow)) ∧
        (d.op = .wait → exec (.delayListExpiry cell) s = .next ((u.resolve h e.flow e.verb (.resolved 1 e.due)).after h e.flow)) ∧
        (d.op = .ramp → exec (.delayListExpiry cell) s = .next (((u.flowRelease h (e.due, e.flow, e.verb) d.a ((u.flow h e.flow).run e.verb).operand).resolve h e.flow e.verb (.resolved 0 e.due)).after h e.flow))) ∧
      (e.verb = 16384 → exec (.delayListExpiry cell) s = .next s ∧ (e.flow ≠ f → exec (.stepTimeout cell f) s = .next s) ∧
        (e.flow = f → ∃ u : State, exec (.stepTimeout cell f) s = .next (u.stepFault h f e.due true) ∧ (u.seq h).delays = rest ∧ (u.seq h).disp = (s.seq h).disp + 1 ∧ u = { s with seqs := u.seqs })))

/-- Verbs resolve on their port or hold their effect for the ordered release, releases take effect, and the delay list's head expires. A ready verb of an active flow that is not blocked: GET of a usable point takes its value and resolves on port 0, of an unusable one on port 1; CALC writes its flow variable, records an error and resolves on port 0; BRANCH resolves on 1 exactly when its variable equals 0; MERGE resolves; DELAY with a time is in flight and enters the delay list, without one it resolves; WAIT resolves on port 0 when its condition holds, else it is in flight with its timeout. SET, MOVE, RAMP, FORK, MARK, NEXT and END keep their operand and are done; where every lower effecting verb is released or skipped the release comes at once. Each changes only sequence state before the releases and is one dispatch; without its tokens a ready verb is skipped; not ready, blocked, of another opcode or of an inactive flow nothing changes. At release SET and MARK write; FORK starts an IDLE flow or resolves on port 1; MOVE hands its target to a generator that accepts it, else resolves on port 1; RAMP with C = 0 writes its target, with C its end enters the delay list; NEXT closes the step with A pending, END ends the flow. The delay list's head leaves it as a dispatch: a DELAY resolves on port 0, a WAIT on 1, a RAMP writes its target, a step timer ends its step in fault. -/
def Obligations.VerbsResolveAsTheirRowsSay : Prop := Claims.VerbsDispatch ∧ Claims.EffectsAreHeldAndReleased ∧ Claims.ReleasesTakeEffect ∧ Claims.DelayHeadsFallDue

/-- Flow commands of a defined flow of this device are acknowledged and latched, whatever the flow's state; FLOW_READ returns CEL_FLOW_STAT_f, FV0 to FV7 and the entry time of each flow from the last sealed cut. A FLOW_REF with a reserved bit set is INVALID, as is a step above 65,535; one of this device that names no flow is ABSENT, for a long operation after its acknowledgement; one of a joined other device is sent on. -/
def Sys2Proof.Claims.FlowCommandsLatch : Prop :=
  (∀ (ref : CmdRef) (args : List Nat) (s : State) (c : Instr) (op : Nat),
    (c, op) ∈ [(Instr.flowStart ref args, 0x0401), (.flowHold ref args, 0x0402), (.flowResume ref args, 0x0403), (.flowAbort ref args, 0x0404), (.flowDisable ref args, 0x0405), (.flowEnable ref args, 0x0406)] →
    let r := argN args 0
    (flowRefBad r = true → exec c s = .next (s.complete (longRef ref op) .invalid)) ∧
    (flowRefBad r = false → idDev r = s.ownDev → (op = 0x0401 → argN args 1 < 65536) →
      (s.flowThere r = true → Admitted s op →
        exec c s = .next ((s.accept (longRef ref op)).latch { op := op, home := idCell r, obj := flowNum r, args := args, ref := longRef ref op })) ∧
      (s.flowThere r = false → exec c s = .next ((s.accept (longRef ref op)).complete (longRef ref op) .absent))) ∧
    (flowRefBad r = false → idDev r = s.ownDev → op = 0x0401 → 65536 ≤ argN args 1 → exec c s = .next (s.complete (longRef ref op) .invalid 1)) ∧
    (flowRefBad r = false → s.img.run.isSome = true → idDev r ≠ s.ownDev →
      exec c s = .next (if s.joined (idDev r) then { s with host := { s.host with relays := s.host.relays ++ [{ dev := idDev r, ref := opRef ref op, op := op, args := args, sentAt := s.runNs }] } }
        else s.complete (opRef ref op) .absent))) ∧
  (∀ (ref : CmdRef) (args : List Nat) (s : State), Admitted s 0x0407 → badCount args 64 = (false, .invalid, 0) → 44 * argN args 0 ≤ ref.bufLen →
    (∀ x ∈ (args.drop 1).take (argN args 0), flowRefBad x = false ∧ idDev x = s.ownDev ∧ s.flowThere x = true ∧ x / 2048 = argN args 1 / 2048) →
    exec (.flowRead ref args) s = .next (s.complete (opRef ref 0x0407) .ok 0 0 ((((args.drop 1).take (argN args 0)).map (fun x =>
      let st := match s.cut.seqs.look (idCell x) with
        | some q => q.flows.at' (flowNum x) (s.flow (idCell x) (flowNum x))
        | none => s.flow (idCell x) (flowNum x)
      leBytes 4 (flowStat st) ++ wordsBytes st.fv ++ leBytes 8 st.entry)).flatten)))

/-- At its mark a flow command is completed, with its cell's cycle, as the state table says of the flow's state. In STOP every one of START, RESUME, DISABLE and ENABLE is DENIED with DETAIL 1. Away from STOP: START is OK on an IDLE flow with a step that exists and is not retired, INVALID with another step, BUSY on a flow that is not IDLE; HOLD is INVALID on an IDLE or DISABLED flow, DENIED 6 on an ABORTING one and makes a RUNNING one HOLDING; RESUME is INVALID on one that is neither HOLDING, HELD nor RUNNING and changes nothing on a RUNNING one; ABORT is INVALID on a DISABLED flow only; DISABLE is INVALID on a DISABLED flow only and makes another DISABLED; ENABLE is OK on a DISABLED flow only and makes it IDLE. A command answered other than OK leaves every block as it was. -/
def Sys2Proof.Claims.FlowOutcomesFollowTheTable : Prop :=
  ∀ (s : State) (h f arg op : Nat), 0x0401 ≤ op → op ≤ 0x0406 →
    let st := (s.flow h f).st
    let r := s.flowOutcome op h f arg
    (∀ l : Latched, l.op = op → l.home = h → l.obj = f → argN l.args 1 = arg → s.markFlow l = r.2.2.roleDone h l.ref r.1 r.2.1 (if r.1 = .ok then s.time.n else 0)) ∧
    (s.keyStopped = true → op ≠ 0x0402 → op ≠ 0x0404 → r = (.denied, 1, s)) ∧
    (s.stoppedNow op = false →
      (op = 0x0401 → (r.1 = .busy ↔ st ≠ .idle)) ∧
      (op = 0x0401 → st = .idle → (∀ d : StepDef, (s.rx h).named f arg = some d →
        (d.retired = false → r.1 = .ok ∧ (r.2.2.flow h f).st = .running ∧ (r.2.2.flow h f).pending = some d.stepId) ∧ (d.retired = true → r.1 = .invalid)) ∧
        ((s.rx h).named f arg = none → r.1 = .invalid)) ∧
      (op = 0x0402 → (r.1 = .invalid ↔ st = .idle ∨ st = .disabled) ∧ (r.1 = .denied ↔ st = .aborting) ∧ (st = .running → (r.2.2.flow h f).st = .holding)) ∧
      (op = 0x0403 → (r.1 = .invalid ↔ st ≠ .holding ∧ st ≠ .held ∧ st ≠ .running) ∧ (st = .running → r.2.2 = s)) ∧
      (op = 0x0404 → (r.1 = .invalid ↔ st = .disabled)) ∧
      (op = 0x0405 → (r.1 = .invalid ↔ st = .disabled) ∧ (st ≠ .disabled → (r.2.2.flow h f).st = .disabled)) ∧
      (op = 0x0406 → (r.1 = .invalid ↔ st ≠ .disabled) ∧ (st = .disabled → (r.2.2.flow h f).st = .idle)) ∧
      (r.1 ≠ .ok → r.2.2 = s))

/-- Flow commands wait for their mark, and there the state of the flow alone decides. For a defined flow of this device a flow command is acknowledged and latched, whatever the flow's state; FLOW_READ returns CEL_FLOW_STAT_f, FV0 to FV7 and the entry time from the sealed cut. A FLOW_REF with a reserved bit set, or a step above 65,535, is INVALID; one that names no flow of this device ABSENT; one of a joined other device is sent on. At the mark the command completes by the flow's state. In STOP every one of START, RESUME, DISABLE and ENABLE is DENIED with DETAIL 1. Away from STOP: START is OK on an IDLE flow with a step that exists and is not retired, INVALID with another step, BUSY on a flow that is not IDLE; HOLD is INVALID on an IDLE or DISABLED flow, DENIED on an ABORTING one and makes a RUNNING one HOLDING; RESUME is INVALID on one that is neither HOLDING, HELD nor RUNNING, and changes nothing on a RUNNING one; ABORT is INVALID on a DISABLED flow only; DISABLE is INVALID on a DISABLED flow only and makes another DISABLED; ENABLE is OK on a DISABLED flow only and makes it IDLE. A command answered other than OK leaves every block as it was. -/
def Obligations.FlowCommandsFollowTheStateTable : Prop := Claims.FlowCommandsLatch ∧ Claims.FlowOutcomesFollowTheTable

namespace Sys2Proof.Claims

/-- Between two states only the logic state of one cell differs, and it is the given one. -/
def LogicOnly (s t : State) (cell : Fin 64) (q : LogicState) : Prop :=
  t.logic cell.val = q ∧ (∀ c, c ≠ cell.val → t.logics.look c = s.logics.look c) ∧ t = { s with logics := t.logics }

/-- A logic state after an instruction that leaves ACC and goes on. -/
def accGoes (q : LogicState) (a : Bool) : LogicState := { q with scan := { q.scan with acc := a, pc := q.scan.pc + 1 } }

/-- A logic state after an instruction that leaves WACC and goes on. -/
def waccGoes (q : LogicState) (v : Word) : LogicState := { q with scan := { q.scan with wacc := v, pc := q.scan.pc + 1 } }

/-- A logic state with ARITH_ERR of the scanned task set. -/
def arithSet (q : LogicState) (x : LogicSec) : LogicState :=
  { q with tasks := q.tasks.put q.scan.task { q.task x q.scan.task with arithErr := true } }

end Sys2Proof.Claims

/-- Each bit and stack instruction leaves ACC, stack and operand as its row of R220 says, and nothing else. For every instruction word and every LOGIC cell with a program: LD, AND, OR and XOR combine ACC with the bit operand, inverted under NEG; ST, SET and RST write the operand's area and leave ACC; NOT inverts; ANDP and ORP push ACC and load; POP of a pushed value combines it by its entry; DUP pushes, PEEK reads and DROP discards the top; NOP does nothing. Each goes on with the next word; every other cell and every other block is unchanged. ST to a marker makes exactly that bit read so. In a cell without a program none of them changes anything. -/
def Obligations.BitInstructionsFollowTheirRows : Prop :=
  (∀ (cell : Fin 64) (w : Word) (s : State) (x : LogicSec), s.logicSec cell.val = some x →
    let q := s.logic cell.val
    let a := q.scan.acc
    let v := xor (q.bitRead x w) (wNeg w)
    let pushed (o : StackOp) : LogicState := { q with scan := { q.scan with stack := (a, o) :: q.scan.stack, acc := v, pc := q.scan.pc + 1 } }
    (∃ t', exec (.lgNop cell w) s = .next t' ∧ LogicOnly s t' cell (accGoes q a)) ∧
    (∃ t', exec (.lgLd cell w) s = .next t' ∧ LogicOnly s t' cell (accGoes q v)) ∧
    (∃ t', exec (.lgAnd cell w) s = .next t' ∧ LogicOnly s t' cell (accGoes q (a && v))) ∧
    (∃ t', exec (.lgOr cell w) s = .next t' ∧ LogicOnly s t' cell (accGoes q (a || v))) ∧
    (∃ t', exec (.lgXor cell w) s = .next t' ∧ LogicOnly s t' cell (accGoes q (xor a v))) ∧
    (∃ t', exec (.lgSt cell w) s = .next t' ∧ LogicOnly s t' cell (accGoes (q.bitWrite x w (xor a (wNeg w))) a)) ∧
    (∃ t', exec (.lgSet cell w) s = .next t' ∧ LogicOnly s t' cell (accGoes (if a then q.bitWrite x w true else q) a)) ∧
    (∃ t', exec (.lgRst cell w) s = .next t' ∧ LogicOnly s t' cell (accGoes (if a then q.bitWrite x w false else q) a)) ∧
    (∃ t', exec (.lgNot cell w) s = .next t' ∧ LogicOnly s t' cell (accGoes q (!a))) ∧
    (∃ t', exec (.lgAndp cell w) s = .next t' ∧ LogicOnly s t' cell (pushed .and)) ∧
    (∃ t', exec (.lgOrp cell w) s = .next t' ∧ LogicOnly s t' cell (pushed .or)) ∧
    (∃ t', exec (.lgDup cell w) s = .next t' ∧ LogicOnly s t' cell { q with scan := { q.scan with stack := (a, .none) :: q.scan.stack, pc := q.scan.pc + 1 } }) ∧
    (∀ (b : Bool) (o : StackOp) (rest : List (Bool × StackOp)), q.scan.stack = (b, o) :: rest →
      (∃ t', exec (.lgPop cell w) s = .next t' ∧ LogicOnly s t' cell { q with scan := { q.scan with stack := rest, pc := q.scan.pc + 1, acc := (match o with | .and => b && a | .or => b || a | .none => a) } }) ∧
      (∃ t', exec (.lgPeek cell w) s = .next t' ∧ LogicOnly s t' cell (accGoes q b)) ∧
      (∃ t', exec (.lgDrop cell w) s = .next t' ∧ LogicOnly s t' cell { q with scan := { q.scan with stack := rest, pc := q.scan.pc + 1 } })) ∧
    (wArea w = 1 → ∀ w2 : Word, wArea w2 = 1 → (q.bitWrite x w (xor a (wNeg w))).bitRead x w2 = if wIdx w2 = wIdx w then xor a (wNeg w) else q.bitRead x w2)) ∧
  (∀ (cell : Fin 64) (w : Word) (s : State), s.logicSec cell.val = none → ∀ c ∈ [Instr.lgNop cell w, .lgLd cell w, .lgAnd cell w, .lgOr cell w, .lgXor cell w, .lgSt cell w, .lgSet cell w, .lgRst cell w, .lgNot cell w, .lgAndp cell w,
    .lgOrp cell w, .lgPop cell w, .lgDup cell w, .lgPeek cell w, .lgDrop cell w], exec c s = .next s)

/-- Word, object and control instructions, in a LOGIC cell with a program. INT32 sums wrap, and a quotient truncates toward zero; a float result that is not finite, a division by 0 and a NaN to convert store 0 and set ARITH_ERR. CMP sets ACC. TMR steps its timer with ACC, and EDG and CNT their object by its kind, and load the output; a count that would pass a limit stays there and sets ARITH_ERR. TPT stores a time, or sets ARITH_ERR and 0 on a negative one; CRST restores a counter when ACC is 1. JMP, JMPC and JMPCN go to TARGET when taken and on otherwise; CALL keeps the return, RET takes it, END ends the scan. Nothing else changes, and in a cell without a program nothing at all. -/
def Sys2Proof.Claims.WordAndObjectRows : Prop :=
  (∀ (cell : Fin 64) (w : Word) (s : State) (x : LogicSec), s.logicSec cell.val = some x →
    let q := s.logic cell.val
    let a := q.scan.acc
    let u := q.scan.wacc
    let v := q.wordOperand x w
    let jumped : LogicState := { q with scan := { q.scan with pc := wTarget w } }
    let zeroed : LogicState := waccGoes (arithSet q x) 0
    let fl (r : F32) : LogicState := if F32.fin r then waccGoes q r else zeroed
    (∃ t', exec (.lgLdw cell w) s = .next t' ∧ LogicOnly s t' cell (waccGoes q v)) ∧
    (∃ t', exec (.lgStw cell w) s = .next t' ∧ LogicOnly s t' cell (waccGoes (q.wordWrite w u) u)) ∧
    (∃ t', exec (.lgAndw cell w) s = .next t' ∧ LogicOnly s t' cell (waccGoes q (u &&& v))) ∧
    (∃ t', exec (.lgOrw cell w) s = .next t' ∧ LogicOnly s t' cell (waccGoes q (u ||| v))) ∧
    (∃ t', exec (.lgXorw cell w) s = .next t' ∧ LogicOnly s t' cell (waccGoes q (u ^^^ v))) ∧
    (∃ t', exec (.lgAdd cell w) s = .next t' ∧ LogicOnly s t' cell (if wFlt w then fl (F32.add u v) else waccGoes q (BitVec.ofInt 32 (u.toInt + v.toInt)))) ∧
    (∃ t', exec (.lgSub cell w) s = .next t' ∧ LogicOnly s t' cell (if wFlt w then fl (F32.sub u v) else waccGoes q (BitVec.ofInt 32 (u.toInt - v.toInt)))) ∧
    (∃ t', exec (.lgMul cell w) s = .next t' ∧ LogicOnly s t' cell (if wFlt w then fl (F32.mul u v) else waccGoes q (BitVec.ofInt 32 (u.toInt * v.toInt)))) ∧
    (∃ t', exec (.lgDiv cell w) s = .next t' ∧ LogicOnly s t' cell (if wFlt w then (if F32.eq v 0 then zeroed else fl (F32.div u v)) else if v = 0 then zeroed else waccGoes q (BitVec.ofInt 32 (Int.tdiv u.toInt v.toInt)))) ∧
    (∃ t', exec (.lgCmp cell w) s = .next t' ∧ LogicOnly s t' cell (accGoes q (if wFlt w then cmpCode (wBit w) (F32.lt u v) (F32.eq u v) (F32.lt v u)
      else cmpCode (wBit w) (decide (u.toInt < v.toInt)) (decide (u.toInt = v.toInt)) (decide (v.toInt < u.toInt))))) ∧
    (wBit w = 0 → (∃ t', exec (.lgCvt cell w) s = .next t' ∧ LogicOnly s t' cell (waccGoes q (F32.ofInt u.toInt)))) ∧
    (wBit w ≠ 0 → (∃ t', exec (.lgCvt cell w) s = .next t' ∧ LogicOnly s t' cell (match F32.toInt32 u with | some r => waccGoes q r | none => zeroed))) ∧
    (∀ e : EdgeSt, q.obj x (wIdx w) = .edge e → (∃ t', exec (.lgEdg cell w) s = .next t' ∧ LogicOnly s t' cell (accGoes { q with objs := q.objs.put (wIdx w) (.edge { prev := a, first := false }) } (if e.first then false else match x.kind (wIdx w) with | .rising => a && !e.prev | .falling => e.prev && !a | _ => xor a e.prev)))) ∧
    (∀ t : TimerSt, q.obj x (wIdx w) = .timer t →
      (let r := tmrStep (x.kind (wIdx w)) (x.ms (wIdx w)) t a q.scan.ts
       (∃ t', exec (.lgTmr cell w) s = .next t' ∧ LogicOnly s t' cell (accGoes { q with objs := q.objs.put (wIdx w) (.timer r) } r.q))) ∧
      (0 ≤ u.toInt → (∃ t', exec (.lgTpt cell w) s = .next t' ∧ LogicOnly s t' cell (accGoes { q with objs := q.objs.put (wIdx w) (.timer { t with pt := u.toNat, newPt := none }) } a)))) ∧
    (u.toInt < 0 → (∃ t', exec (.lgTpt cell w) s = .next t' ∧ LogicOnly s t' cell zeroed)) ∧
    (∀ c : CounterSt, q.obj x (wIdx w) = .counter c →
      (x.kind (wIdx w) = .ctu → ∃ r : CounterSt, r.cu = a ∧ r.cd = c.cd ∧ r.pv = c.pv ∧ r.cv = satInt32 (c.cv.toInt + if a && !c.cu then 1 else 0) ∧
        (∃ t', exec (.lgCnt cell w) s = .next t' ∧ LogicOnly s t' cell (accGoes (let y : LogicState := { q with objs := q.objs.put (wIdx w) (.counter r) }
          if a && !c.cu && decide (c.cv.toInt = 2147483647) then arithSet y x else y) (decide (r.pv.toInt ≤ r.cv.toInt))))) ∧
      (x.kind (wIdx w) = .ctd → ∃ r : CounterSt, r.cu = c.cu ∧ r.cd = a ∧ r.pv = c.pv ∧ r.cv = satInt32 (c.cv.toInt - if a && !c.cd then 1 else 0) ∧
        (∃ t', exec (.lgCnt cell w) s = .next t' ∧ LogicOnly s t' cell (accGoes (let y : LogicState := { q with objs := q.objs.put (wIdx w) (.counter r) }
          if a && !c.cd && decide (c.cv.toInt = -2147483648) then arithSet y x else y) (decide (r.cv.toInt ≤ 0))))) ∧
      (∀ (b : Bool) (o : StackOp) (rest : List (Bool × StackOp)), x.kind (wIdx w) = .ctud → q.scan.stack = (b, o) :: rest →
        let up := a && !c.cu && !(b && !c.cd)
        let dn := b && !c.cd && !(a && !c.cu)
        ∃ r : CounterSt, r.cu = a ∧ r.cd = b ∧ r.pv = c.pv ∧ r.cv = satInt32 (c.cv.toInt + (if up then 1 else 0) - (if dn then 1 else 0)) ∧
          (∃ t', exec (.lgCnt cell w) s = .next t' ∧ LogicOnly s t' cell (accGoes (let y : LogicState := { q with objs := q.objs.put (wIdx w) (.counter r) }
            if (up && decide (c.cv.toInt = 2147483647)) || (dn && decide (c.cv.toInt = -2147483648)) then arithSet y x else y) (decide (r.pv.toInt ≤ r.cv.toInt))))) ∧
      (a = true → (∃ t', exec (.lgCrst cell w) s = .next t' ∧ LogicOnly s t' cell (accGoes { q with objs := q.objs.put (wIdx w) (.counter { c with cv := if x.kind (wIdx w) = .ctd then c.pv else 0 }) } a)))) ∧
    (a = false → (∃ t', exec (.lgCrst cell w) s = .next t' ∧ LogicOnly s t' cell (accGoes q a))) ∧
    (∃ t', exec (.lgJmp cell w) s = .next t' ∧ LogicOnly s t' cell jumped) ∧
    (∃ t', exec (.lgJmpc cell w) s = .next t' ∧ LogicOnly s t' cell (if a then jumped else accGoes q a)) ∧
    (∃ t', exec (.lgJmpcn cell w) s = .next t' ∧ LogicOnly s t' cell (if a then accGoes q a else jumped)) ∧
    (∃ t', exec (.lgCall cell w) s = .next t' ∧ LogicOnly s t' cell { q with scan := { q.scan with calls := (q.scan.pc + 1) :: q.scan.calls, pc := wTarget w } }) ∧
    (∀ (r : Nat) (rest : List Nat), q.scan.calls = r :: rest → (∃ t', exec (.lgRet cell w) s = .next t' ∧ LogicOnly s t' cell { q with scan := { q.scan with calls := rest, pc := r } })) ∧
    (∃ t', exec (.lgEnd cell w) s = .next t' ∧ LogicOnly s t' cell { q with scan := { q.scan with ended := true } })) ∧
  (∀ (cell : Fin 64) (w : Word) (s : State), s.logicSec cell.val = none → ∀ c ∈ [Instr.lgEdg cell w, .lgTmr cell w, .lgTpt cell w, .lgCnt cell w, .lgCrst cell w, .lgLdw cell w, .lgStw cell w, .lgAdd cell w, .lgSub cell w, .lgMul cell w,
    .lgDiv cell w, .lgCmp cell w, .lgCvt cell w, .lgAndw cell w, .lgOrw cell w, .lgXorw cell w, .lgJmp cell w, .lgJmpc cell w, .lgJmpcn cell w, .lgCall cell w, .lgRet cell w, .lgEnd cell w], exec c s = .next s)

/-- An evaluation of a timer follows the first row of R224 whose kind and condition hold, and otherwise keeps Q, RUNNING, DONE and START; IN_PREV is IN after every one, and a PT that a splice left for it is taken first. -/
def Sys2Proof.Claims.TimersFollowTheirTable : Prop :=
  ∀ (ms : Bool) (t : TimerSt) (inp : Bool) (ts : Nat) (k : ObjKind), k ∈ [ObjKind.ton, .tof, .tp] →
    let u := t.takePt
    let due := t.running = true ∧ ptUs ms u ≤ etUs u ts
    let r := tmrStep k ms t inp ts
    let starts (q : Bool) : Prop := r.start = ts ∧ r.running = true ∧ r.done = false ∧ r.q = q
    let ends (q : Bool) : Prop := r.q = q ∧ r.running = false ∧ r.done = true ∧ r.start = t.start
    let keeps : Prop := r.q = t.q ∧ r.running = t.running ∧ r.done = t.done ∧ r.start = t.start
    r.inPrev = inp ∧ r.pt = u.pt ∧
    (k = .ton →
      (inp = false → r.running = false ∧ r.q = false ∧ r.done = false) ∧
      (inp = true → t.inPrev = false → starts (decide (ptUs ms u = 0))) ∧
      (inp = true → t.inPrev = true → (due → ends true) ∧ (¬due → keeps))) ∧
    (k = .tof →
      (inp = true → r.running = false ∧ r.q = true ∧ r.done = false) ∧
      (inp = false → t.inPrev = true → starts (decide (0 < ptUs ms u))) ∧
      (inp = false → t.inPrev = false → (due → ends false) ∧ (¬due → keeps))) ∧
    (k = .tp →
      (inp = true → t.inPrev = false → t.running = false → starts (decide (0 < ptUs ms u))) ∧
      (¬(inp = true ∧ t.inPrev = false ∧ t.running = false) → (due → ends false) ∧
        (¬due → inp = false → t.running = false → r.done = false ∧ r.q = t.q ∧ r.running = false) ∧
        (¬due → (inp = true ∨ t.running = true) → keeps)))

/-- Each word, object and control instruction leaves WACC, its object and the next word as its row of R220 says. In a LOGIC cell with a program: INT32 sums wrap, and a quotient truncates toward zero; a float result that is not finite, a division by 0 and a NaN to convert store 0 and set ARITH_ERR. CMP sets ACC. TMR steps its timer with ACC, and EDG and CNT their object by its kind, and load the output; a count that would pass a limit stays there and sets ARITH_ERR. TPT stores a time, or sets ARITH_ERR and 0 on a negative one; CRST restores a counter when ACC is 1. JMP, JMPC and JMPCN go to TARGET when taken and on otherwise; CALL keeps the return, RET takes it, END ends the scan. Nothing else changes, and in a cell without a program nothing at all. An evaluation of a timer follows the first row of R224 whose kind and condition hold, and otherwise keeps Q, RUNNING, DONE and START; IN_PREV is IN after every one, and a PT that a splice left for it is taken first. -/
def Obligations.WordAndObjectInstructionsFollowTheirRows : Prop := Claims.WordAndObjectRows ∧ Claims.TimersFollowTheirTable

/-- Logic commands on a defined task of this device. TASK_READ returns CEL_TASK_STAT_t and N of the last scan of each task from the last sealed cut. MEM_READ returns the marker groups, words or objects asked for from the last sealed cut. TASK_DISABLE, TASK_ENABLE, MEM_WRITE of words or of marker groups with their masks, and OBJ_SET of a timer's PT or a counter's CV or PV, are acknowledged and latched. A TASK_REF with a reserved bit set is INVALID, one that names no task of this device ABSENT, one of a joined other device is sent on; a range past the area is INVALID. -/
def Sys2Proof.Claims.LogicCommandsAnswerOrLatch : Prop :=
  (∀ (ref : CmdRef) (args : List Nat) (s : State), Admitted s 0x0501 → badCount args 64 = (false, .invalid, 0) → 12 * argN args 0 ≤ ref.bufLen →
    (∀ r ∈ (args.drop 1).take (argN args 0), taskRefBad r = false ∧ idDev r = s.ownDev ∧ s.taskThere r = true ∧ r / 2048 = argN args 1 / 2048) →
    exec (.taskRead ref args) s = .next (s.complete (opRef ref 0x0501) .ok 0 0 ((((args.drop 1).take (argN args 0)).map (fun r =>
      match s.logicSec (idCell r) with
      | some x => (match x.tasks[taskNum r]? with
        | some d => leBytes 4 (taskStat d ((s.logicCut (idCell r)).task x (taskNum r))) ++ leBytes 8 ((s.logicCut (idCell r)).task x (taskNum r)).lastN
        | none => [])
      | none => [])).flatten))) ∧
  (∀ (ref : CmdRef) (args : List Nat) (s : State) (x : LogicSec), taskRefBad (argN args 0) = false → idDev (argN args 0) = s.ownDev → s.taskThere (argN args 0) = true →
    s.logicSec (idCell (argN args 0)) = some x →
    let area := argN args 1
    let n := argN args 3
    let lt (op : Nat) : Latched := { op := op, home := idCell (argN args 0), obj := taskNum (argN args 0), args := args, ref := longRef ref op }
    (Admitted s 0x0502 → exec (.taskDisable ref args) s = .next ((s.accept (longRef ref 0x0502)).latch (lt 0x0502))) ∧
    (Admitted s 0x0503 → exec (.taskEnable ref args) s = .next ((s.accept (longRef ref 0x0503)).latch (lt 0x0503))) ∧
    (1 ≤ area → area ≤ 3 → 1 ≤ n → n ≤ (if area = 3 then 64 else 256) →
      let data := ((List.range n).map (fun i => memBytes x (s.logicCut (idCell (argN args 0))) area (argN args 2 + i))).flatten
      (Admitted s 0x0504 → argN args 2 + n ≤ areaSize x area → data.length ≤ ref.bufLen → exec (.memRead ref args) s = .next (s.complete (opRef ref 0x0504) .ok 0 0 data)) ∧
      (areaSize x area < argN args 2 + n → exec (.memRead ref args) s = .next (s.complete (opRef ref 0x0504) .invalid 2))) ∧
    (1 ≤ area → area ≤ 2 → 1 ≤ n → n ≤ 64 → 4 + (if area = 1 then 2 * n else n) ≤ args.length →
      (Admitted s 0x0505 → argN args 2 + n ≤ areaSize x area → exec (.memWrite ref args) s = .next ((s.accept (longRef ref 0x0505)).latch (lt 0x0505))) ∧
      (areaSize x area < argN args 2 + n → exec (.memWrite ref args) s = .next (s.complete (longRef ref 0x0505) .invalid 2))) ∧
    (∀ i, x.objIndex (argN args 1) = some i → argN args 2 ≤ 2 →
      (Admitted s 0x0506 → (isTimer (x.kind i) = true ∧ argN args 2 = 0 ∧ argN args 3 ≤ 2147483647) ∨ (isTimer (x.kind i) = false ∧ isCounter (x.kind i) = true ∧ 1 ≤ argN args 2) →
        exec (.objSet ref args) s = .next ((s.accept (longRef ref 0x0506)).latch (lt 0x0506))) ∧
      ((isTimer (x.kind i) = false ∧ isCounter (x.kind i) = false) ∨ (isTimer (x.kind i) = true ∧ argN args 2 ≠ 0) → exec (.objSet ref args) s = .next (s.complete (longRef ref 0x0506) .invalid 2))) ∧
    (x.objIndex (argN args 1) = none → argN args 2 ≤ 2 → exec (.objSet ref args) s = .next ((s.accept (longRef ref 0x0506)).complete (longRef ref 0x0506) .absent 1))) ∧
  (∀ (ref : CmdRef) (args : List Nat) (s : State) (c : Instr) (op : Nat), (c, op) ∈ [(Instr.taskDisable ref args, 0x0502), (.taskEnable ref args, 0x0503)] →
    (taskRefBad (argN args 0) = true → exec c s = .next (s.complete (longRef ref op) .invalid)) ∧
    (taskRefBad (argN args 0) = false → idDev (argN args 0) = s.ownDev → s.taskThere (argN args 0) = false → exec c s = .next ((s.accept (longRef ref op)).complete (longRef ref op) .absent)) ∧
    (taskRefBad (argN args 0) = false → s.img.run.isSome = true → idDev (argN args 0) ≠ s.ownDev →
      exec c s = .next (if s.joined (idDev (argN args 0)) then { s with host := { s.host with relays := s.host.relays ++ [{ dev := idDev (argN args 0), ref := opRef ref op, op := op, args := args, sentAt := s.runNs }] } }
        else s.complete (opRef ref op) .absent)))

/-- At its mark a latched logic command completes with its cell's cycle. In STOP a command that STOP refuses is DENIED with DETAIL 1 and changes nothing. Otherwise one that no later one overtakes acts: a disable of an enabled task leaves it disabled, an enable of a disabled one leaves it enabled with FIRST_SCAN, one that asks for what already is changes nothing, an object that is set holds the value, and each is OK with N. -/
def Sys2Proof.Claims.LatchedLogicCommandsAct : Prop :=
  ∀ (s : State) (l : Latched) (x : LogicSec), s.logicSec l.home = some x →
    let done (u : State) : Prop := s.markLogic l false = u.roleDone l.home l.ref .ok 0 s.time.n
    (∀ b, s.stoppedNow l.op = true → s.markLogic l b = s.roleDone l.home l.ref .denied 1) ∧
    (s.stoppedNow l.op = false → s.markLogic l true = s.roleDone l.home l.ref .ok 0 s.time.n) ∧
    (s.stoppedNow l.op = false → ∀ d : TaskDef, x.tasks[l.obj]? = some d →
      (l.op = 0x0502 → ∃ u, done u ∧ ((u.logic l.home).task x d.task).enabled = false ∧ (((s.logic l.home).task x d.task).enabled = false → u = s)) ∧
      (l.op = 0x0503 → ∃ u, done u ∧ ((u.logic l.home).task x d.task).enabled = true ∧
        (((s.logic l.home).task x d.task).enabled = true → u = s) ∧ (((s.logic l.home).task x d.task).enabled = false → ((u.logic l.home).task x d.task).first = true ∧ u = { s with logics := u.logics }))) ∧
    (s.stoppedNow l.op = false → l.op = 0x0506 → ∀ i, x.objIndex (argN l.args 1) = some i → ∃ u, done u ∧ u = { s with logics := u.logics } ∧
      (∀ t, (s.logic l.home).obj x i = .timer t → (u.logic l.home).obj x i = .timer { t with pt := argN l.args 3, newPt := none }) ∧
      (∀ c, (s.logic l.home).obj x i = .counter c → argN l.args 2 = 1 → (u.logic l.home).obj x i = .counter { c with cv := BitVec.ofNat 32 (argN l.args 3) }) ∧
      (∀ c, (s.logic l.home).obj x i = .counter c → argN l.args 2 = 2 → (u.logic l.home).obj x i = .counter { c with pv := BitVec.ofNat 32 (argN l.args 3) }))

/-- A key sample stores both pairs. The third consecutive consistent sample of one code agrees it, ends BETWEEN and lets it wait for a mark where it is not in effect; an earlier one agrees nothing new; an inconsistent one sets BETWEEN and agrees nothing. EFFECTIVE never changes with a sample: at a mark after the tick of its sample the waiting position takes effect. KEY_DISCREPANCY sets DISC while BETWEEN, and otherwise changes nothing. -/
def Sys2Proof.Claims.KeySamplesAgreeAPosition : Prop :=
  (∀ (a b : Fin 4) (s : State), ∃ t, exec (.keySample a b) s = .next t ∧ t.rd Reg.GLB_KEY_RAW_A = a.val ∧ t.rd Reg.GLB_KEY_RAW_B = b.val ∧
    t.rd Reg.GLB_KEY_EFFECTIVE = s.rd Reg.GLB_KEY_EFFECTIVE ∧ t.flag Reg.GLB_KEY_BETWEEN = t.key.between ∧
    (∀ c, keyCode a.val b.val = some c →
      (s.key.run = 2 → s.key.runCode = c → t.key.agreed = some c ∧ t.key.between = false ∧ (s.rd Reg.GLB_KEY_EFFECTIVE ≠ c → t.key.pending = some c ∧ t.key.pendingTick = s.runNs)) ∧
      (s.key.run < 2 ∨ s.key.runCode ≠ c → t.key.agreed = s.key.agreed ∧ t.key.pending = s.key.pending ∧ t.key.run = (if s.key.run ≠ 0 ∧ s.key.runCode = c then s.key.run + 1 else 1) ∧ t.key.runCode = c ∧
        t.key.between = (s.key.between || decide (s.key.agreed ≠ some c)))) ∧
    (keyCode a.val b.val = none → t.key.run = 0 ∧ t.key.between = true ∧ t.key.agreed = s.key.agreed ∧ t.key.pending = s.key.pending) ∧
    t = { s with regs := t.regs, key := t.key }) ∧
  (∀ s : State, (s.key.between = true → ∃ t, exec .keyDiscrepancy s = .next t ∧ t.flag Reg.GLB_KEY_DISC = true ∧ t.key = s.key ∧ t.rd Reg.GLB_KEY_EFFECTIVE = s.rd Reg.GLB_KEY_EFFECTIVE) ∧
    (s.key.between = false → exec .keyDiscrepancy s = .next s)) ∧
  (∀ (s : State) (c : Nat), s.key.pending = some c →
    (s.key.pendingTick < s.runNs → c < 4 → s.keyMark.rd Reg.GLB_KEY_EFFECTIVE = c ∧ s.keyMark.key.pending = none) ∧ (s.runNs ≤ s.key.pendingTick → s.keyMark = s))

/-- Logic commands answer from the sealed cut or wait for their mark, and the key agrees a position after three equal samples. For a defined task of this device: TASK_READ returns status and N of the last scan, MEM_READ the marker groups, words or objects asked for; TASK_DISABLE, TASK_ENABLE, MEM_WRITE of words or marker groups, and OBJ_SET of a timer's PT or a counter's CV or PV are acknowledged and latched. A TASK_REF with a reserved bit set and a range past the area are INVALID, a reference that names no task of this device ABSENT, a disable or enable of a joined other device is sent on. At the mark a latched command that STOP refuses is DENIED 1 there; otherwise a disable leaves the task disabled, an enable leaves it enabled, with FIRST_SCAN where it was not, an object set holds the value, one overtaken or already met changes nothing, and each is OK with N. A key sample stores both pairs; the third consecutive consistent sample of one code agrees it, ends BETWEEN and lets it wait for a mark where it is not in effect; an earlier one agrees nothing; an inconsistent one sets BETWEEN and agrees nothing; EFFECTIVE changes at a mark after the sample's tick only. KEY_DISCREPANCY sets DISC while BETWEEN. -/
def Obligations.LogicCommandsAndTheKeySwitch : Prop := Claims.LogicCommandsAnswerOrLatch ∧ Claims.LatchedLogicCommandsAct ∧ Claims.KeySamplesAgreeAPosition

namespace Sys2Proof.Claims

/-- The bytes that a command reads of a list of entries named by its items. -/
def listed {α : Type} (l : List α) (args : List Nat) (f : α → List Byte) : List Byte :=
  (((args.drop 1).take (argN args 0)).map (fun k => match l[k]? with | some g => f g | none => [])).flatten

/-- A segment not free, as SEG_LIST returns it (log entry 2). -/
def segRow (g : SegState) : List Byte :=
  leBytes 4 (segCode g.st) ++ leBytes 4 g.seq ++ leBytes 4 g.bytes ++ leBytes 4 0 ++ leBytes 8 g.nFirst

end Sys2Proof.Claims

/-- SEG_DRAIN of a segment neither filling nor free is acknowledged and starts its drain; it is INVALID where its buffer is too small, and otherwise BUSY where the segment is DRAINING or four drains run; a SEQ of no such segment is ABSENT. A transfer that completes makes the segment SEALED and DRAINED, counts 0x3C5 and answers OK with SEQ, BYTES and the segment; one that fails makes it SEALED and answers ABORTED; an end of no drain changes nothing. -/
def Sys2Proof.Claims.SegmentsDrain : Prop :=
  (∀ (ref : CmdRef) (args : List Nat) (s : State), Admitted s 0x0601 →
    let l := longRef ref 0x0601
    (s.hist.findSeq (argN args 0) = none → exec (.segDrain ref args) s = .next ((s.accept l).complete l .absent)) ∧
    (∀ (i : Nat) (g : SegState), s.hist.findSeq (argN args 0) = some (i, g) →
      (ref.bufLen < g.bytes → exec (.segDrain ref args) s = .next ((s.accept l).complete l .invalid)) ∧
      (g.bytes ≤ ref.bufLen → 4 ≤ s.hist.drains.length ∨ g.st = .draining → exec (.segDrain ref args) s = .next ((s.accept l).complete l .busy)) ∧
      (g.bytes ≤ ref.bufLen → s.hist.drains.length < 4 → g.st = .sealed →
        ∃ u : State, exec (.segDrain ref args) s = .next u.histRegs ∧ u = { (s.accept l) with hist := u.hist } ∧ u.hist = { s.hist with segs := u.hist.segs, drains := s.hist.drains ++ [(i, l)] } ∧
          u.hist.seg i = { g with st := .draining } ∧ (∀ k, k ≠ i → u.hist.segs.look k = s.hist.segs.look k)))) ∧
  (∀ (seg : Fin 65536) (s : State),
    let g := s.hist.seg seg.val
    (s.hist.drains.find? (fun e => e.1 = seg.val) = none → exec (.drainComplete seg) s = .next s ∧ exec (.drainFail seg) s = .next s) ∧
    (∀ ref, s.hist.drains.find? (fun e => e.1 = seg.val) = some (seg.val, ref) →
      (∃ u : State, exec (.drainComplete seg) s = .next ((u.count 0x3C5).complete ref .ok 0 (g.seq + 2 ^ 32 * g.bytes) (segBytes s.hist g)).histRegs ∧
        u = { s with hist := { s.hist with segs := u.hist.segs, drains := s.hist.drains.filter (fun e => !(e.1 == seg.val)) } } ∧
        u.hist.seg seg.val = { g with st := .sealed, drained := true } ∧ (∀ k, k ≠ seg.val → u.hist.segs.look k = s.hist.segs.look k)) ∧
      (∃ u : State, exec (.drainFail seg) s = .next (u.complete ref .aborted).histRegs ∧
        u = { s with hist := { s.hist with segs := u.hist.segs, drains := s.hist.drains.filter (fun e => !(e.1 == seg.val)) } } ∧
        u.hist.seg seg.val = { g with st := .sealed } ∧ (∀ k, k ≠ seg.val → u.hist.segs.look k = s.hist.segs.look k))))

/-- SEG_RELEASE frees exactly the sealed segments from its SEQ on by age, BUSY where one of them is DRAINING and INVALID of a SEQ newer than the newest sealed. SEG_CUT is latched, or OK with no effect where no segment fills; a write of CUT asks for a cut. GROUP_READ, POLICY_READ and SEG_LIST answer with the groups, the policy records in effect, and state, SEQ, BYTES and N_FIRST of the segments from a SEQ, and change nothing else. -/
def Sys2Proof.Claims.SegmentsAreReleasedCutAndListed : Prop :=
  (∀ (ref : CmdRef) (args : List Nat) (s : State), Admitted s 0x0602 →
    (s.hist.seqAge (argN args 0) = none → exec (.segRelease ref args) s = .next (s.complete (opRef ref 0x0602) .invalid)) ∧
    (∀ a, s.hist.seqAge (argN args 0) = some a →
      let old (e : Nat × SegState) : Prop := ∃ b, s.hist.seqAge e.2.seq = some b ∧ a ≤ b
      ((∃ e ∈ s.hist.sealedSegs, old e ∧ e.2.st = .draining) → exec (.segRelease ref args) s = .next (s.complete (opRef ref 0x0602) .busy)) ∧
      ((∀ e ∈ s.hist.sealedSegs, old e → e.2.st ≠ .draining) →
        ∃ u : State, exec (.segRelease ref args) s = .next (u.histRegs.complete (opRef ref 0x0602) .ok) ∧ u = { s with hist := { s.hist with segs := u.hist.segs } } ∧
          (∀ e ∈ s.hist.sealedSegs, old e → u.hist.segs.look e.1 = none) ∧
          (∀ k, (∀ e ∈ s.hist.sealedSegs, old e → e.1 ≠ k) → u.hist.segs.look k = s.hist.segs.look k)))) ∧
  (∀ (ref : CmdRef) (args : List Nat) (s : State), Admitted s 0x0603 →
    ((s.hist.seg s.hist.idx).st = .filling → exec (.segCut ref args) s = .next { s with hist := { s.hist with cutRefs := s.hist.cutRefs ++ [opRef ref 0x0603] } }) ∧
    ((s.hist.seg s.hist.idx).st ≠ .filling → exec (.segCut ref args) s = .next (s.complete (opRef ref 0x0603) .ok))) ∧
  (∀ s : State, exec .hstCutWrite s = .next { s with hist := { s.hist with cutReq := true } }) ∧
  (∀ (ref : CmdRef) (args : List Nat) (s : State), Admitted s 0x0604 →
    ((badCount args 256).1 = true → exec (.groupRead ref args) s = .next (s.complete (opRef ref 0x0604) .invalid)) ∧
    ((badCount args 256).1 = false → (∀ k ∈ (args.drop 1).take (argN args 0), k < s.hist.groups.length) → (listed s.hist.groups args groupBytes).length ≤ ref.bufLen →
      exec (.groupRead ref args) s = .next (s.complete (opRef ref 0x0604) .ok 0 0 (listed s.hist.groups args groupBytes)))) ∧
  (∀ (ref : CmdRef) (args : List Nat) (s : State), Admitted s 0x0605 →
    ((badCount args 64).1 = true → exec (.policyRead ref args) s = .next (s.complete (opRef ref 0x0605) .invalid)) ∧
    ((badCount args 64).1 = false → (∀ k ∈ (args.drop 1).take (argN args 0), k < s.hist.policies.length) → 16 * argN args 0 ≤ ref.bufLen →
      exec (.policyRead ref args) s = .next (s.complete (opRef ref 0x0605) .ok 0 0 (listed s.hist.policies args policyBytes)))) ∧
  (∀ (ref : CmdRef) (args : List Nat) (s : State) (k : Nat) (l1 l2 : List Nat), (args.drop 1).take (argN args 0) = l1 ++ k :: l2 →
    ((badCount args 256).1 = false → (∀ m ∈ l1, m < s.hist.groups.length) → s.hist.groups.length ≤ k →
      exec (.groupRead ref args) s = .next (s.complete (opRef ref 0x0604) .absent l1.length)) ∧
    ((badCount args 64).1 = false → (∀ m ∈ l1, m < s.hist.policies.length) → s.hist.policies.length ≤ k →
      exec (.policyRead ref args) s = .next (s.complete (opRef ref 0x0605) .absent l1.length))) ∧
  (∀ (ref : CmdRef) (args : List Nat) (s : State), Admitted s 0x0607 →
    let live := s.hist.segs.filter (fun e => decide (e.2.st ≠ .free))
    let rows := ((List.range (min 64 (argN args 1))).map (fun k => (live.filter (fun e => e.2.seq = (argN args 0 + k) % 2 ^ 32)).map (fun e => segRow e.2))).flatten.flatten
    (rows.length ≤ ref.bufLen → exec (.segList ref args) s = .next (s.complete (opRef ref 0x0607) .ok 0 0 rows)) ∧
    (ref.bufLen < rows.length → exec (.segList ref args) s = .next (s.complete (opRef ref 0x0607) .invalid)))

/-- POLICY_SET with a bound that its mode admits is acknowledged and latched; out of range it is INVALID, and of no policy ABSENT. At its mark it sets BOUND and MAX_GAP of its record alone, writes its POLICY mark and is OK with N; a record that a splice took away makes it ABSENT and STOP DENIED 1. -/
def Sys2Proof.Claims.PoliciesChangeAtTheMark : Prop :=
  (∀ (ref : CmdRef) (args : List Nat) (s : State) (p : PolicyDef), s.hist.policies[argN args 0]? = some p →
    (Admitted s 0x0606 → boundOk p.mode (BitVec.ofNat 32 (argN args 1)) (argN args 2) = true →
      exec (.policySet ref args) s = .next (let u := s.accept (longRef ref 0x0606)
        { u with hist := { s.hist with sets := s.hist.sets ++ [(argN args 0, BitVec.ofNat 32 (argN args 1), argN args 2, longRef ref 0x0606)] } })) ∧
    (boundOk p.mode (BitVec.ofNat 32 (argN args 1)) (argN args 2) = false → exec (.policySet ref args) s = .next (s.complete (longRef ref 0x0606) .invalid 1))) ∧
  (∀ (ref : CmdRef) (args : List Nat) (s : State), s.hist.policies[argN args 0]? = none →
    exec (.policySet ref args) s = .next ((s.accept (longRef ref 0x0606)).complete (longRef ref 0x0606) .absent)) ∧
  (∀ (s : State) (i : Nat) (b : F32) (g : Nat) (ref : CmdRef), s.hist.sets = [(i, b, g, ref)] →
    let u : State := { s with hist := { s.hist with sets := [] } }
    (s.keyStopped = true → s.applyPolicySets = u.complete ref .denied 1) ∧
    (s.keyStopped = false → s.hist.policies[i]? = none → s.applyPolicySets = u.complete ref .absent) ∧
    (∀ p : PolicyDef, s.keyStopped = false → s.hist.policies[i]? = some p → boundOk p.mode b g = true →
      s.applyPolicySets = State.complete { u with hist := { u.hist with
        policies := s.hist.policies.set i { p with bound := b, maxGap := g }, marks := s.hist.marks ++ [devMark 0x0009 i s.time.n b.toNat] } } ref .ok 0 s.time.n))

/-- Segments drain, are released, cut and listed by command, and policies change at the next mark. SEG_DRAIN of a sealed segment that fits its buffer is acknowledged and makes it DRAINING; a buffer too small is INVALID, a segment already DRAINING or a fifth drain BUSY, a SEQ of no sealed segment ABSENT. A transfer that completes makes the segment SEALED and DRAINED, counts 0x3C5 and answers OK with SEQ, BYTES and the segment, one that fails SEALED and ABORTED. SEG_RELEASE frees exactly the sealed segments from its SEQ on by age, BUSY where one of them is DRAINING and INVALID where the SEQ is newer than the newest sealed. SEG_CUT is latched for the next mark, OK at once where no segment fills, and a write of CUT asks for a cut. GROUP_READ, POLICY_READ and SEG_LIST answer with what they name and change nothing else; an index past the list is ABSENT at its place, a bad count INVALID. POLICY_SET with a bound its mode admits is acknowledged and latched, INVALID otherwise and ABSENT of no policy; at its mark it sets BOUND and MAX_GAP of its record, writes its POLICY mark and is OK with N, ABSENT where the record is gone, DENIED 1 in STOP. -/
def Obligations.HistorianCommandsKeepTheRing : Prop := Claims.SegmentsDrain ∧ Claims.SegmentsAreReleasedCutAndListed ∧ Claims.PoliciesChangeAtTheMark

namespace Sys2Proof.Claims

/-- An ACQ_REF of a unit of the own device that the running image defines. -/
def OwnUnit (s : State) (r : Nat) (d : UnitDef) : Prop := acqRefBad r = false ∧ idDev r = s.ownDev ∧ s.unitDef (r % 32) = some d

/-- The commands of the acquisition family that name a unit, with opcode and form of their records. -/
def unitCommands (ref : CmdRef) (args : List Nat) : List (Instr × CmdRef × Nat) :=
  [(.acqArm ref args, opRef ref 0x0701, 0x0701), (.acqStop ref args, opRef ref 0x0702, 0x0702), (.acqFire ref args, opRef ref 0x0703, 0x0703),
   (.acqSelect ref args, opRef ref 0x0704, 0x0704), (.acqConfig ref args, opRef ref 0x0705, 0x0705), (.acqAlign ref args, longRef ref 0x0706, 0x0706),
   (.acqRead ref args, longRef ref 0x0707, 0x0707), (.acqRelease ref args, opRef ref 0x0708, 0x0708), (.acqList ref args, opRef ref 0x0709, 0x0709)]

/-- The trigger of an ACQ_FIRE that comes now. -/
def fireNow (s : State) : TrigPend := { kind := .command, run := s.run4, n := s.time.n, dNs := clockNs s.time.d }

/-- The trigger of an ACQ_ALIGN for an instant in D. -/
def alignAt (ref : CmdRef) (t : Nat) : TrigPend := { kind := .align, run := 0, n := t / 125000, dNs := t, ref := some (longRef ref 0x0706) }

/-- A record of a unit that a REC_SEQ names or that is older. -/
def Older (x : AcqUnit) (a : Nat) (y : AcqRecord) : Prop := ∃ b, recAge x y.seq = some b ∧ a ≤ b

end Sys2Proof.Claims

/-- Commands on a defined unit of this device: arming, stopping, and a new preset. -/
def Sys2Proof.Claims.UnitsAreArmedAndConfigured : Prop :=
  ∀ (ref : CmdRef) (args : List Nat) (s : State) (d : UnitDef),
    let r := argN args 0
    let u := r % 32
    OwnUnit s r d →
    (Admitted s 0x0701 →
      (s.notMaster u = true → exec (.acqArm ref args) s = .next (s.complete (opRef ref 0x0701) .denied 6)) ∧
      (s.notMaster u = false → s.rearmDiffers u = true → exec (.acqArm ref args) s = .next (s.complete (opRef ref 0x0701) .invalid)) ∧
      (s.notMaster u = false → s.rearmDiffers u = false → exec (.acqArm ref args) s = .next { s with acq := { s.acq with arms := s.acq.arms ++ [(u, opRef ref 0x0701)] } })) ∧
    (Admitted s 0x0702 →
      (s.notMaster u = true → exec (.acqStop ref args) s = .next (s.complete (opRef ref 0x0702) .denied 6)) ∧
      (s.notMaster u = false → ∃ v : State, exec (.acqStop ref args) s = .next (v.complete (opRef ref 0x0702) .ok) ∧
        (∀ m ∈ s.armSet u, (v.unit m).st = (if (s.unit m).st = .idle then .idle else .stopped) ∧
          ((s.unit m).st ≠ .post → (v.unit m).records = (s.unit m).records) ∧
          (∀ c, (s.unit m).st = .post → (s.unit m).cur = some c → ∃ y, (v.unit m).records = (s.unit m).records ++ [y] ∧ y.aborted = true ∧ y.seq = (s.unit m).recSeq % 2 ^ 32)) ∧
        (∀ m, m ∉ s.armSet u → v.unit m = s.unit m) ∧ v.pts = s.pts)) ∧
    (∀ x : AcqSec, Admitted s 0x0704 → s.acqSec = some x →
      (x.presets[argN args 1]? = none → exec (.acqSelect ref args) s = .next (s.complete (opRef ref 0x0704) .absent 1)) ∧
      (∀ p : PresetDef, x.presets[argN args 1]? = some p →
        (fits (some d) p = false → exec (.acqSelect ref args) s = .next (s.complete (opRef ref 0x0704) .invalid 1)) ∧
        (fits (some d) p = true → s.unitBusy u = true → exec (.acqSelect ref args) s = .next (s.complete (opRef ref 0x0704) .busy)) ∧
        (fits (some d) p = true → s.unitBusy u = false → exec (.acqSelect ref args) s =
          .next ((s.putUnit u { s.unit u with preset := some p, presetIdx := argN args 1 }).complete (opRef ref 0x0704) .ok)))) ∧
    (∀ (i : Img) (p : PresetDef), Admitted s 0x0705 → s.img.run = some i → p = presetOf (slice (argBytes args 1) 0 64) →
      let good := presetRanges (slice (argBytes args 1) 0 64) p (floatSrc i.points p) && srcOk i.points i.conv s.ownDev p && fits (some d) p
      (good = false → exec (.acqConfig ref args) s = .next (s.complete (opRef ref 0x0705) .invalid 1)) ∧
      (good = true → s.unitBusy u = true → exec (.acqConfig ref args) s = .next (s.complete (opRef ref 0x0705) .busy)) ∧
      (good = true → s.unitBusy u = false → exec (.acqConfig ref args) s =
        .next ((s.putUnit u { s.unit u with preset := some p, presetIdx := p.preset }).complete (opRef ref 0x0705) .ok)))

/-- ACQ_FIRE and ACQ_ALIGN: a trigger that no held sample reaches waits for its sample, one of a unit that is not open is ignored and counted, and one that a held sample reaches is taken at the first such sample: the unit is in POST with the record of that trigger, its pre-trigger samples and those already held after it. -/
def Sys2Proof.Claims.TriggersReachTheirSample : Prop :=
  (∀ (ref : CmdRef) (args : List Nat) (s : State) (d : UnitDef),
    let r := argN args 0
    let u := r % 32
    let ignored : State := (s.putUnit u { s.unit u with ignored := min ((s.unit u).ignored + 1) 0xFFFFFFFF }).count (0x380 + u)
    OwnUnit s r d →
    (Admitted s 0x0703 →
      let f := fireNow s
      ((s.unit u).open_ = false → exec (.acqFire ref args) s = .next (ignored.complete (opRef ref 0x0703) .ok)) ∧
      ((s.unit u).open_ = true → (∀ y ∈ (s.unit u).pre, reached f y = false) → exec (.acqFire ref args) s =
        .next ((s.setUnit u { s.unit u with trigs := (s.unit u).trigs ++ [f] }).complete (opRef ref 0x0703) .ok)) ∧
      (∀ (before after : List Sample) (y : Sample), (s.unit u).open_ = true → (s.unit u).pre = before ++ y :: after → (∀ z ∈ before, reached f z = false) → reached f y = true →
        exec (.acqFire ref args) s = .next ((s.takeTrig u f before y after).complete (opRef ref 0x0703) .ok))) ∧
    (Admitted s 0x0706 →
      let t := s.stampD (arg64 args 1)
      let l := longRef ref 0x0706
      let gap := match (s.unit u).preset with | some p => s.interval p | none => 0
      (d.align = false → exec (.acqAlign ref args) s = .next (s.complete l .invalid)) ∧
      (d.align = true → clockNs s.time.d + 2000000000 < t ∨ 1000000000 ≤ arg64 args 1 % 2 ^ 30 → exec (.acqAlign ref args) s = .next (s.complete l .invalid 1)) ∧
      (d.align = true → t ≤ clockNs s.time.d + 2000000000 → arg64 args 1 % 2 ^ 30 < 1000000000 →
        ((s.unit u).open_ = false → ∃ v : State, exec (.acqAlign ref args) s = .next (v.complete l .busy) ∧ v.ctr = (s.count (0x380 + u)).ctr ∧
          v.unit u = { s.unit u with ignored := min ((s.unit u).ignored + 1) 0xFFFFFFFF }) ∧
        (∀ (y : Sample) (rest : List Sample), (s.unit u).open_ = true → (s.unit u).pre = y :: rest → t + gap ≤ y.dNs → exec (.acqAlign ref args) s =
          .next (((s.accept l).count 0x39C).complete l .absent)) ∧
        ((s.unit u).open_ = true → (∀ y ∈ (s.unit u).pre, y.dNs < t) → exec (.acqAlign ref args) s =
          .next ((s.accept l).setUnit u { s.unit u with trigs := (s.unit u).trigs ++ [alignAt ref t] }))))) ∧
  (∀ (s : State) (u : Nat) (t : TrigPend) (before after : List Sample) (y : Sample) (p : PresetDef), (s.unit u).preset = some p →
    let v := s.takeCore u t before y after
    (v.unit u).st = .post ∧ (v.unit u).trigs = [] ∧ ∃ c, (v.unit u).cur = some c ∧ c.cause = some t ∧ c.trig = some y ∧ c.preset = p ∧
      c.pre = before.drop (before.length - p.pre) ∧ c.shortPre = decide (c.pre.length < p.pre) ∧ c.post = after.take p.post) ∧
  (∀ (s : State) (u : Nat) (c : AcqRecord), (s.unit u).cur = some c →
    (c.post.length < c.preset.post → s.postDone u = s) ∧
    (c.preset.post ≤ c.post.length → c.preset.rearm = false → ∃ y, ((s.postDone u).unit u).records = (s.unit u).records ++ [y] ∧ ((s.postDone u).unit u).st = .idle ∧
      ((s.postDone u).unit u).cur = none ∧ y.seq = (s.unit u).recSeq % 2 ^ 32 ∧ y.pre = c.pre ∧ y.trig = c.trig ∧ y.post = c.post ∧ y.ready = c.ready))

/-- ACQ_READ, ACQ_RELEASE and ACQ_LIST of a unit's records, the end of a read, and a closed record that becomes READY. -/
def Sys2Proof.Claims.RecordsAreReadAndReleased : Prop :=
  (∀ (ref : CmdRef) (args : List Nat) (s : State) (d : UnitDef),
    let r := argN args 0
    let u := r % 32
    let l := longRef ref 0x0707
    OwnUnit s r d →
    (Admitted s 0x0707 →
      ((s.unit u).find (argN args 1) = none → exec (.acqRead ref args) s = .next ((s.accept l).complete l .absent)) ∧
      (∀ y : AcqRecord, (s.unit u).find (argN args 1) = some y →
        (y.ready = false ∨ y.reading = true ∨ 2 ≤ s.acq.reads.length → exec (.acqRead ref args) s = .next ((s.accept l).complete l .busy)) ∧
        (y.ready = true → y.reading = false → s.acq.reads.length < 2 →
          (ref.bufLen < recordSize y.preset → exec (.acqRead ref args) s = .next ((s.accept l).complete l .invalid)) ∧
          (recordSize y.preset ≤ ref.bufLen → ∃ t, exec (.acqRead ref args) s = .next t ∧ t = { (s.accept l) with acq := t.acq } ∧ t.acq.reads = s.acq.reads ++ [(u, y.seq, l)] ∧
            t.unit u = { s.unit u with records := (s.unit u).records.map (fun z => if z.seq = y.seq then { z with reading := true } else z) } ∧ (∀ m, m ≠ u → t.unit m = s.unit m))))) ∧
    (Admitted s 0x0708 →
      (recAge (s.unit u) (argN args 1) = none → exec (.acqRelease ref args) s = .next (s.complete (opRef ref 0x0708) .invalid 1)) ∧
      (∀ a, recAge (s.unit u) (argN args 1) = some a →
        ((∃ y ∈ (s.unit u).records, Older (s.unit u) a y ∧ y.reading = true) → exec (.acqRelease ref args) s = .next (s.complete (opRef ref 0x0708) .busy)) ∧
        ((∀ y ∈ (s.unit u).records, Older (s.unit u) a y → y.reading = false) →
          ∃ rs, exec (.acqRelease ref args) s = .next ((s.putUnit u { s.unit u with records := rs }).complete (opRef ref 0x0708) .ok) ∧
            (∀ y, y ∈ rs ↔ y ∈ (s.unit u).records ∧ ¬Older (s.unit u) a y) ∧ rs.Sublist (s.unit u).records))) ∧
    (Admitted s 0x0709 →
      (64 < argN args 2 → exec (.acqList ref args) s = .next (s.complete (opRef ref 0x0709) .invalid 2)) ∧
      (argN args 2 ≤ 64 →
        let rows := (((s.unit u).records.filter (fun y => decide ((y.seq + 2 ^ 32 - argN args 1) % 2 ^ 32 < 2 ^ 31))).take (argN args 2)).map (fun y =>
          leBytes 4 y.seq ++ leBytes 4 y.flags ++ leBytes 4 (b2n y.ready) ++ leBytes 4 0 ++ leBytes 8 (match y.cause with | some t => t.n | none => 0))
        rows.flatten.length ≤ ref.bufLen → exec (.acqList ref args) s = .next (s.complete (opRef ref 0x0709) .ok 0 0 rows.flatten)))) ∧
  (∀ (unit : Fin 24) (s : State) (q : Nat) (ref : CmdRef), s.acq.reads.find? (fun e => e.1 = unit.val) = some (unit.val, q, ref) →
    let data := match (s.unit unit.val).find q with | some y => recordBytes y unit.val | none => []
    ∃ v : State, exec (.acqReadComplete unit true) s = .next (v.complete ref .ok 0 (q + 2 ^ 32 * data.length) data) ∧ exec (.acqReadComplete unit false) s = .next (v.complete ref .aborted) ∧
      v = { s with acq := v.acq } ∧ v.acq.reads = s.acq.reads.filter (fun x => !(x.1 == unit.val && x.2.1 == q)) ∧
      (v.unit unit.val).records = (s.unit unit.val).records.map (fun z => if z.seq = q then { z with reading := false } else z) ∧ (∀ m, m ≠ unit.val → v.unit m = s.unit m)) ∧
  (∀ (unit : Fin 24) (ok : Bool) (s : State), s.acq.reads.find? (fun e => e.1 = unit.val) = none → exec (.acqReadComplete unit ok) s = .next s) ∧
  (∀ (unit : Fin 24) (s : State),
    ((s.unit unit.val).records.find? (fun z => !z.ready) = none → exec (.recordReady unit) s = .next s) ∧
    (∀ y, (s.unit unit.val).records.find? (fun z => !z.ready) = some y → ∃ v : State, exec (.recordReady unit) s = .next (v.cause 5) ∧ v = { s with acq := v.acq } ∧
      v.unit unit.val = { s.unit unit.val with records := (s.unit unit.val).records.map (fun z => if z.seq = y.seq then { z with ready := true } else z) } ∧ (∀ m, m ≠ unit.val → v.unit m = s.unit m)))

/-- A malformed ACQ_REF is INVALID, a unit that the image does not define ABSENT with an ACCEPTED_LONG first for a long command, and a command for a unit of another device is sent on or ABSENT. -/
def Sys2Proof.Claims.UnitReferencesAreChecked : Prop :=
  ∀ (ref : CmdRef) (args : List Nat) (s : State) (c : Instr) (l : CmdRef) (op : Nat), (c, l, op) ∈ unitCommands ref args →
    (acqRefBad (argN args 0) = true → exec c s = .next (s.complete l .invalid)) ∧
    (acqRefBad (argN args 0) = false → idDev (argN args 0) = s.ownDev → s.unitDef (argN args 0 % 32) = none →
      exec c s = .next (if op = 0x0706 ∨ op = 0x0707 then (s.accept l).complete l .absent else s.complete l .absent)) ∧
    (acqRefBad (argN args 0) = false → s.img.run.isSome = true → idDev (argN args 0) ≠ s.ownDev →
      exec c s = .next (if s.joined (idDev (argN args 0)) then { s with host := { s.host with relays := s.host.relays ++ [{ dev := idDev (argN args 0), ref := opRef ref op, op := op, args := args, sentAt := s.runNs }] } }
        else s.complete (opRef ref op) .absent))

/-- Acquisition units are armed, fired, stopped, configured and read by their commands. For a defined unit of this device: ACQ_ARM is latched for the next mark, and ACQ_STOP takes every unit of its group that is not IDLE to STOPPED, closing records in POST as ABORTED; both are DENIED 6 of a member that is not the master, and ACQ_ARM INVALID where a member's REARM differs. ACQ_FIRE and ACQ_ALIGN of an open unit leave a trigger that waits where no held sample is at or after it, and take it at the first such sample otherwise; of a unit that is not open they are ignored and counted, ACQ_ALIGN BUSY; an instant before the oldest held sample is ABSENT and counted, one over 2 s ahead INVALID. A taken trigger puts the unit in POST with its record, and a complete POST closes it. ACQ_SELECT and ACQ_CONFIG change the preset in IDLE and STOPPED, BUSY otherwise, INVALID where it does not fit. ACQ_READ of a READY record starts a read whose end answers OK with the record or ABORTED; one not ready, being read, or a third is BUSY. A closed record becomes READY with its cause. ACQ_RELEASE frees the record and older ones, BUSY while one is read; ACQ_LIST lists up to 64. A malformed reference is INVALID, an undefined unit ABSENT, and another device's is sent on. -/
def Obligations.AcquisitionCommandsAct : Prop := Claims.UnitsAreArmedAndConfigured ∧ Claims.TriggersReachTheirSample ∧ Claims.RecordsAreReadAndReleased ∧ Claims.UnitReferencesAreChecked

namespace Sys2Proof.Claims

/-- The urgent conversions of a sequence triggered now, the first sampling 16 ns after (R300). -/
def urgentRun (s : State) (d : ConvDef) : List Conversion :=
  (List.range d.urgCount).map (fun i =>
    { entry := i, urgent := true, run := s.run4, dNs := clockNs s.time.d + 16, n := s.time.n, disp := false, sampled := s.runNs + 16 })

/-- An urgent trigger acts on a logical converter: it is on, has urgent entries, and results are produced (R292, R301). -/
def TriggerOn (s : State) (d : ConvDef) : Prop := d.enable = true ∧ d.urgCount ≠ 0 ∧ s.flag Reg.ADC_ROT_READY = true

/-- A converter after the conversion in progress has written its result (R300). -/
def nextConversion (s : State) (x : ConvState) : ConvState :=
  { x with cur := x.queue.head?.map (fun j => { j with sampled := s.runNs }), queue := x.queue.drop 1 }

/-- A retired core: rotation stops, and the calibrations asked for are refused (R293, R313). -/
def Retired (s t : State) (p : Nat) : Prop :=
  bitOf (t.rd Reg.ADC_CORE_FAIL) p = true ∧ t.flag Reg.ADC_ROT_DEGRADED = true ∧ t.rd Reg.ADC_ROT_CAL_CORE = 0x1F ∧ t.conv.rot.cals = [] ∧
  t.host = (forL s.conv.rot.cals (fun e (x : State) => x.complete e.2 .denied 6) s).host

end Sys2Proof.Claims

/-- Conversions and urgent sequences. A read of a result captures its flags and the entry number. A conversion in progress writes its result, flags and acquisition samples and gives way to the next one waiting. A start tick adds 1 to the start count of every enabled converter of a supplied die and starts or queues its conversion, and encoder counts are sampled. An urgent trigger aborts or follows the conversion in progress, is held while a sequence runs, and is lost while one is held. -/
def Sys2Proof.Claims.ConversionsFollowTheirStarts : Prop :=
  (∀ (conv : Fin 16) (entry : Fin 32) (off : Fin 4) (len : Nat) (s : State), ∃ t, exec (.adcResRead conv entry off len) s = .next (readOn t (regAddr Reg.ADC_RES [conv.val, entry.val]) off len) ∧
    t.host.readData = wordPart (s.viewRes conv.val entry.val) off len ∧ t.rd Reg.ADC_RES_STAT_ENTRY [conv.val] = entry.val ∧
    t.flag Reg.ADC_RES_STAT_OVR [conv.val] = (match (s.cv conv.val).results.look entry.val with | some r => r.ovr | none => false) ∧
    t.flag Reg.ADC_RES_STAT_DISP [conv.val] = (match (s.cv conv.val).results.look entry.val with | some r => r.disp | none => false) ∧
    t = { s with regs := t.regs, host := { s.host with readData := t.host.readData } }) ∧
  (∀ (conv : Fin 16) (lsb : Int) (full : List Nat) (s : State),
    let x := s.cv conv.val
    (x.cur = none ∨ s.cvDef conv.val = none → exec (.conversionResult conv lsb full) s = .next s) ∧
    (∀ (k : Conversion) (d : ConvDef), x.cur = some k → s.cvDef conv.val = some d → k.entry < 32 →
      let diff := (if k.urgent then d.urgent.getD k.entry (entryOf []) else d.entries.getD k.entry (entryOf [])).diff
      let r : Result := { code := (codeOf diff lsb).1, ovr := (codeOf diff lsb).2, disp := k.disp, diff := diff, dNs := k.dNs }
      (k.urgent = true → k.entry < 4 → ∃ t, exec (.conversionResult conv lsb full) s = .next t ∧ t = { s with regs := t.regs, conv := t.conv, ctr := t.ctr } ∧
        t.cv conv.val = nextConversion s { x with urgRes := x.urgRes.put k.entry r } ∧ bitOf (t.rd Reg.ADC_URG_CTL_OVR_U [conv.val]) k.entry = r.ovr ∧
        (k.entry + 1 = d.urgCount → t.flag Reg.ADC_URG_CTL_DONE [conv.val] = true ∧ t.ctr = (s.count 0x3D0).ctr) ∧ (k.entry + 1 ≠ d.urgCount → t.ctr = s.ctr)) ∧
      (k.urgent = false → ∃ u : State, exec (.conversionResult conv lsb full) s = .next (forL (s.unitsOn 0 (conv.val + 16 * k.entry)) (fun (n : Nat) (y : State) =>
          y.acqSample n (decide (n ∈ full)) { word := acqWord r, run := k.run, dNs := k.dNs, n := k.n }) u) ∧ u = { s with regs := u.regs, conv := u.conv, ctr := u.ctr } ∧
        u.cv conv.val = nextConversion s { x with results := x.results.put k.entry r } ∧ bitOf (u.rd Reg.ADC_OVR_OVR [conv.val]) k.entry = r.ovr ∧
        bitOf (u.rd Reg.ADC_NEW_NEW [conv.val]) k.entry = true ∧ u.ctr = (if k.disp then (s.count 0x3D7).ctr else s.ctr)))) ∧
  (∀ (full : List Nat) (s : State), ∃ u : State, exec (.converterStart full) s = .next (forL (List.range 24) (fun (n : Nat) (y : State) => match (y.unit n).preset with
      | some p => if p.srcKind = 1 then y.acqSample n (decide (n ∈ full)) { word := (y.enc p.src).sampled, run := y.grid4, dNs := y.gridNs, n := y.time.n } else y
      | none => y) u) ∧ u = { s with regs := u.regs, conv := u.conv } ∧
    (∀ n < 32, u.enc n = match s.encDef n with | some d => if d.mode = 0 then s.enc n else { s.enc n with sampled := (s.enc n).count } | none => s.enc n) ∧
    (s.conv.vanaLow = true → u.conv.convs = s.conv.convs ∧ u.regs = s.regs) ∧
    (s.conv.vanaLow = false → ∀ (c : Nat) (d : ConvDef), c < 16 → s.cvDef c = some d →
      let x := s.cv c
      let k : Conversion := { entry := x.s % d.len, urgent := false, run := s.grid4, dNs := s.gridNs, n := s.time.n, disp := false, sampled := s.runNs }
      (d.enable = false → u.cv c = x) ∧
      (d.enable = true → x.busy = false → s.flag Reg.ADC_ROT_READY = false → u.cv c = { x with s := x.s + 1 }) ∧
      (d.enable = true → s.flag Reg.ADC_ROT_READY = true → x.cur.isSome = true → u.cv c = { x with s := x.s + 1, queue := x.queue ++ [{ k with disp := true }] }) ∧
      (d.enable = true → s.flag Reg.ADC_ROT_READY = true → x.cur = none → x.pend = false → x.old = none → u.cv c = { x with s := x.s + 1, busy := false, cur := some k }))) ∧
  (∀ (conv : Fin 16) (s : State), exec (.adcUrgGoWrite conv) s = .next (s.urgTrigger conv.val)) ∧
  (∀ (s : State) (c : Nat) (d : ConvDef), c < 16 → s.cvDef c = some d →
    let x := s.cv c
    let t := s.urgTrigger c
    let run := urgentRun s d
    (¬TriggerOn s d → t = s) ∧
    (TriggerOn s d → x.pend = true → t = (s.wr Reg.ADC_URG_CTL_LOST 1 [c]).count 0x3D1) ∧
    (TriggerOn s d → x.pend = false → x.busy = true → t.cv c = { x with pend := true } ∧ t.flag Reg.ADC_URG_CTL_PEND [c] = true) ∧
    (TriggerOn s d → x.pend = false → x.busy = false →
      t.flag Reg.ADC_URG_CTL_BUSY [c] = true ∧ t.rd Reg.ADC_URG_STAMP_STAMP [c] = (stamp32 s.time.d + 16) % 2 ^ 32 ∧
      (x.cur = none → t.cv c = { x with busy := true, cur := run.head?, queue := run.drop 1 }) ∧
      (∀ k, x.cur = some k → k.sampled + 250 ≤ s.runNs + 16 → t.cv c = { x with busy := true, queue := run }) ∧
      (∀ k, x.cur = some k → s.runNs + 16 < k.sampled + 250 → t.cv c = { x with busy := true, cur := run.head?, queue := run.drop 1 ++ [{ k with disp := true }] })))

/-- Rotation and the analog supply. After the quick calibration results are produced. A rotation boundary that matches hands converter NEXT to the calibrating core and advances NEXT, on a busy converter it waits; a mismatch is shown and counted, and a second in succession retires the core. A full calibration is shown and answers the commands that wait for it; the second out of limits in succession retires the core. A VANA that falls takes converters, DACs and encoders into reset with their points ABSENT, and its return ends that. A third bad readback in succession sets RB_FAULT. -/
def Sys2Proof.Claims.CoresRotateAndCalibrate : Prop :=
  (∀ s : State, (s.conv.vanaLow = false → exec .quickCalDone s = .next (s.wr Reg.ADC_ROT_READY 1)) ∧ (s.conv.vanaLow = true → exec .quickCalDone s = .next s)) ∧
  (∀ (mean peak : Nat) (s : State),
    let c := s.rd Reg.ADC_ROT_NEXT
    let p := s.rd Reg.ADC_ROT_CAL_CORE
    let core (y : State) : Nat := bitsOf (y.reg Reg.ADC_MAP [c / 4]) (8 * (c % 4) + 4) (8 * (c % 4))
    (s.flag Reg.ADC_ROT_READY = false ∨ s.flag Reg.ADC_ROT_DEGRADED = true → exec (.rotationBoundary mean peak) s = .next s) ∧
    (s.flag Reg.ADC_ROT_READY = true → s.flag Reg.ADC_ROT_DEGRADED = false →
      (mean ≤ 16 → peak ≤ 256 → (s.cv c).busy = true → exec (.rotationBoundary mean peak) s = .next { s with conv := { s.conv with rot := { s.conv.rot with deferred := true } } }) ∧
      (mean ≤ 16 → peak ≤ 256 → (s.cv c).busy = false → ∃ t, exec (.rotationBoundary mean peak) s = .next t ∧ t.rd Reg.ADC_ROT_NEXT = (c + 1) % 16 ∧
        core t = p ∧ t.rd Reg.ADC_ROT_CAL_CORE = core s ∧ t = { s with regs := t.regs, conv := { s.conv with rot := { s.conv.rot with misses := 0, deferred := false } } }) ∧
      (16 < mean ∨ 256 < peak → ∃ t, exec (.rotationBoundary mean peak) s = .next t ∧ t.flag Reg.ADC_ROT_MISMATCH = true ∧ t.rd Reg.ADC_ROT_NEXT = c ∧ core t = core s ∧ t.conv.rot.misses = s.conv.rot.misses + 1 ∧
        (s.conv.rot.misses = 0 → t.ctr = (s.count 0x3D2).ctr ∧ t.rd Reg.ADC_ROT_CAL_CORE = p) ∧ (s.conv.rot.misses ≠ 0 → p < 17 → Retired s t p ∧ t.ctr = ((s.count 0x3D2).count 0x3D3).ctr)))) ∧
  (∀ (good : Bool) (s : State),
    let p := s.rd Reg.ADC_ROT_CAL_CORE
    let bad := if good then 0 else s.conv.rot.badCal.at' p 0 + 1
    (s.flag Reg.ADC_ROT_DEGRADED = true → exec (.fullCalDone good) s = .next s) ∧
    (s.flag Reg.ADC_ROT_DEGRADED = false → p ≤ 16 →
      (bad < 2 → ∃ u : State, exec (.fullCalDone good) s = .next (forL (s.conv.rot.cals.filter (fun e => e.1 = p)) (fun e (x : State) => x.complete e.2 .ok) u) ∧ u = { s with regs := u.regs, conv := u.conv } ∧
        bitOf (u.rd Reg.ADC_CORE_FULL_FULL) p = true ∧ u.conv.rot.badCal.at' p 0 = bad ∧ u.conv.rot.cals = s.conv.rot.cals.filter (fun e => !(e.1 == p))) ∧
      (2 ≤ bad → ∃ t, exec (.fullCalDone good) s = .next t ∧ Retired s t p ∧ t.ctr = (s.count 0x3D3).ctr))) ∧
  (∀ s : State, ∃ t, exec .vanaLow s = .next t ∧ t.conv.vanaLow = true ∧ t.conv.encs = [] ∧ t.conv.dacs = [] ∧ t.flag Reg.ADC_ROT_READY = false ∧ t.flag Reg.PWR_STAT_VANA_OK = false ∧
    (∀ c, t.cv c = { s := (s.cv c).s }) ∧ (∀ c < 16, t.flag Reg.DAC_STAT_DRIVEN [c] = false) ∧ (∀ e ∈ s.dieInputs, (t.work e.1).absent = true) ∧
    t.host = (forL (s.conv.encs.filterMap (fun e => e.2.preset)) (fun p (x : State) => x.complete p.2 .aborted) s).host) ∧
  (∀ s : State, ∃ t, exec .vanaReturn s = .next t ∧ t.conv = { s.conv with vanaLow := false } ∧ t.flag Reg.PWR_STAT_VANA_OK = true ∧
    (∀ e ∈ s.dieInputs, (t.work e.1).absent = false ∧ (t.work e.1).written = false)) ∧
  (∀ (ch : Fin 16) (err : Nat) (s : State),
    let x := s.conv.dacs.at' ch.val {}
    (x.checkDue = false → exec (.dacReadback ch err) s = .next s) ∧
    (x.checkDue = true → ∃ t, exec (.dacReadback ch err) s = .next t ∧
      t.conv.dacs.at' ch.val {} = { badRun := if 256 < err then x.badRun + 1 else 0, checkDue := false } ∧
      (256 < err → x.badRun = 2 → t.flag Reg.DAC_STAT_RB_FAULT [ch.val] = true ∧ t.ctr = (s.count 0x3D5).ctr) ∧ (err ≤ 256 ∨ x.badRun ≠ 2 → t = { s with conv := t.conv })))

/-- Encoders. One qualified quadrature edge moves the count by 1 in its direction, no change keeps it, and a change of both levels is an illegal transition that keeps it. An index edge captures the count, and a read of the capture clears INDEX_VALID. A valid SSI frame sets the count on the first frame and moves it by the position's signed step on a later one; a frame with a fault keeps it. A channel in another mode does not act. -/
def Sys2Proof.Claims.EncodersCount : Prop :=
  (∀ (ch : Fin 32) (a b : Bool) (s : State),
    let e := s.enc ch.val
    (∀ d, s.encDef ch.val = some d → d.mode = 1 → s.conv.vanaLow = false →
      (a = e.a → b = e.b → exec (.encEdge ch a b) s = .next (s.setEnc ch.val { e with a := a, b := b })) ∧
      (a ≠ e.a → b ≠ e.b → ∃ t, exec (.encEdge ch a b) s = .next t ∧ t.enc ch.val = { e with a := a, b := b, faultNow := true } ∧ t.ctr = (s.count 0x3D6).ctr ∧
        t.flag Reg.ENC_STAT_ILLEGAL [ch.val] = true ∧ t.flag Reg.ENC_STAT_FAULT_NOW [ch.val] = true ∧ t.flag Reg.ENC_STAT_FAULT [ch.val] = true) ∧
      ((a = e.a ↔ b ≠ e.b) → ∃ t, exec (.encEdge ch a b) s = .next t ∧ t = { s with conv := t.conv } ∧
        t.enc ch.val = { e with a := a, b := b, count := if decide ((a, b) = (!e.b, e.a)) != d.invert then e.count + 1 else e.count - 1 })) ∧
    (∀ d, s.encDef ch.val = some d → d.mode ≠ 1 ∨ s.conv.vanaLow = true → exec (.encEdge ch a b) s = .next s)) ∧
  (∀ (ch : Fin 32) (s : State) (d : EncDef), s.encDef ch.val = some d →
    (d.mode = 1 → d.index = true → s.conv.vanaLow = false → ∃ t, exec (.encIndexEdge ch) s = .next t ∧ t.rd Reg.ENC_INDEX_INDEX [ch.val] = (s.enc ch.val).count.toNat ∧
      t.flag Reg.ENC_STAT_INDEX_VALID [ch.val] = true ∧ t.enc ch.val = { s.enc ch.val with indexNs := some (clockNs s.time.d) }) ∧
    (d.mode ≠ 1 ∨ d.index = false ∨ s.conv.vanaLow = true → exec (.encIndexEdge ch) s = .next s)) ∧
  (∀ (ch : Fin 32) (off : Fin 4) (len : Nat) (s : State), ∃ t, exec (.encIndexRead ch off len) s = .next (readOn t (regAddr Reg.ENC_INDEX [ch.val]) off len) ∧
    t.host.readData = wordPart (s.rd Reg.ENC_INDEX_INDEX [ch.val]) off len ∧ t.flag Reg.ENC_STAT_INDEX_VALID [ch.val] = false ∧
    t.rd Reg.ENC_INDEX_INDEX [ch.val] = s.rd Reg.ENC_INDEX_INDEX [ch.val] ∧ t = { s with regs := t.regs, host := { s.host with readData := t.host.readData } }) ∧
  (∀ (ch : Fin 32) (low : Bool) (s : State) (d : EncDef), s.encDef ch.val = some d →
    (d.mode = 2 → s.conv.vanaLow = false → exec (.ssiFrameStart ch low) s = .next (s.setEnc ch.val { s.enc ch.val with lowBefore := some low, frameNs := clockNs s.time.d })) ∧
    (d.mode ≠ 2 ∨ s.conv.vanaLow = true → exec (.ssiFrameStart ch low) s = .next s)) ∧
  (∀ (ch : Fin 32) (data : Word) (par high : Bool) (s : State) (d : EncDef), s.encDef ch.val = some d →
    let e := s.enc ch.val
    (d.mode ≠ 2 ∨ s.conv.vanaLow = true ∨ e.lowBefore = none → exec (.ssiFrameEnd ch data par high) s = .next s) ∧
    (∀ low, d.mode = 2 → s.conv.vanaLow = false → e.lowBefore = some low →
      let raw := data.toNat % 2 ^ d.bits
      let pos := if d.gray then grayDecode 5 raw else raw
      ∃ t, exec (.ssiFrameEnd ch data par high) s = .next t ∧ t.rd Reg.ENC_RAW_RAW [ch.val] = raw ∧
        (low = true → high = true → (d.parity = true → oddOnes raw = par) → t.ctr = s.ctr ∧
          t.enc ch.val = { e with lowBefore := none, pos := pos, seen := true, dNs := e.frameNs, count := if e.seen then e.count + BitVec.ofInt 32 (signed d.bits (pos + 2 ^ d.bits - e.pos)) else BitVec.ofNat 32 pos }) ∧
        (low = false ∨ high = false ∨ (d.parity = true ∧ oddOnes raw ≠ par) → t.enc ch.val = { e with lowBefore := none, faultNow := true } ∧
          t.flag Reg.ENC_STAT_FRAME [ch.val] = true ∧ t.flag Reg.ENC_STAT_FAULT [ch.val] = true ∧ t.ctr = (s.count 0x3D6).ctr))) ∧
  (∀ (s : State) (n : Nat) (d : EncDef) (v : Word) (r : CmdRef), n < 32 → s.encDef n = some d → d.mode ≠ 0 → (s.enc n).preset = some (v, r) →
    s.encFastFirst.enc n = (if s.keyStopped then { s.enc n with preset := none, sampled := (s.enc n).count } else { s.enc n with count := v, preset := none, sampled := v }))

/-- The converter commands read registers, trigger, calibrate and preset, and are refused for an index out of range or a buffer too small, for a retired core, and for a channel that an axis uses. -/
def Sys2Proof.Claims.ConverterCommandsAnswer : Prop :=
  ∀ (ref : CmdRef) (args : List Nat) (s : State),
    let c := argN args 0
    let items := (args.drop 1).take c
    (Admitted s 0x0801 → c ≤ 15 → 288 ≤ ref.bufLen → exec (.adcRead ref args) s = .next (s.complete (opRef ref 0x0801) .ok 0 0
      (((List.range 32).map (fun e => resBytes (s.viewRes c e) ((s.cv c).results.look e))).flatten ++ ((List.range 4).map (fun i => resBytes (s.viewUres c i) ((s.cv c).urgRes.look i))).flatten))) ∧
    (15 < c ∨ ref.bufLen < 288 → exec (.adcRead ref args) s = .next (s.complete (opRef ref 0x0801) .invalid)) ∧
    (∀ d : ConvDef, s.cvDef c = some d → c ≤ 15 →
      (Admitted s 0x0802 → d.enable = true → d.urgCount ≠ 0 → exec (.adcUrgent ref args) s = .next ((s.urgTrigger c).complete (opRef ref 0x0802) .ok)) ∧
      (d.enable = false ∨ d.urgCount = 0 → exec (.adcUrgent ref args) s = .next (s.complete (opRef ref 0x0802) .invalid))) ∧
    (15 < c ∨ s.cvDef c = none → exec (.adcUrgent ref args) s = .next (s.complete (opRef ref 0x0802) .invalid)) ∧
    (16 < c → exec (.adcCal ref args) s = .next (s.complete (longRef ref 0x0803) .invalid)) ∧
    (Admitted s 0x0803 → c ≤ 16 →
      (s.flag Reg.ADC_ROT_DEGRADED = true ∨ bitOf (s.rd Reg.ADC_CORE_FAIL) c = true → exec (.adcCal ref args) s = .next ((s.accept (longRef ref 0x0803)).complete (longRef ref 0x0803) .denied 6)) ∧
      (s.flag Reg.ADC_ROT_DEGRADED = false → bitOf (s.rd Reg.ADC_CORE_FAIL) c = false → ∃ t, exec (.adcCal ref args) s = .next t ∧
        t = { (s.accept (longRef ref 0x0803)) with regs := t.regs, conv := { s.conv with rot := { s.conv.rot with cals := s.conv.rot.cals ++ [(c, longRef ref 0x0803)] } } } ∧
        (∀ k, s.served c = some k → t.rd Reg.ADC_ROT_NEXT = k) ∧ (s.served c = none → t.regs = s.regs))) ∧
    (Admitted s 0x0804 → (badCount args 32).1 = false → (∀ n ∈ items, n < 32) → 12 * c ≤ ref.bufLen → exec (.encRead ref args) s = .next (s.complete (opRef ref 0x0804) .ok 0 0
      ((items.map (fun n => leBytes 4 (s.reg Reg.ENC_STAT [n]) ++ leBytes 4 (s.enc n).count.toNat ++ leBytes 4 (s.rd Reg.ENC_INDEX_INDEX [n]))).flatten))) ∧
    ((badCount args 32).1 = true → exec (.encRead ref args) s = .next (s.complete (opRef ref 0x0804) .invalid)) ∧
    (∀ (l1 l2 : List Nat) (n : Nat), (badCount args 32).1 = false → items = l1 ++ n :: l2 → (∀ m ∈ l1, m < 32) → 32 ≤ n → exec (.encRead ref args) s = .next (s.complete (opRef ref 0x0804) .invalid l1.length)) ∧
    (∀ d : EncDef, s.encDef c = some d → c ≤ 31 →
      (d.mode = 0 → exec (.encSetCount ref args) s = .next (s.complete (opRef ref 0x0805) .invalid)) ∧
      (Admitted s 0x0805 → d.mode = 2 ∨ (d.mode ≠ 0 ∧ s.encInUse c = true) → exec (.encSetCount ref args) s = .next (s.complete (opRef ref 0x0805) .denied 6)) ∧
      (Admitted s 0x0805 → d.mode = 1 → s.encInUse c = false →
        let u := match (s.enc c).preset with | some p => s.complete p.2 .ok 0 s.time.n | none => s
        exec (.encSetCount ref args) s = .next (u.setEnc c { s.enc c with preset := some (BitVec.ofNat 32 (argN args 1), opRef ref 0x0805) }))) ∧
    (31 < c ∨ s.encDef c = none → exec (.encSetCount ref args) s = .next (s.complete (opRef ref 0x0805) .invalid)) ∧
    (Admitted s 0x0806 → 64 ≤ ref.bufLen → exec (.dacRead ref args) s = .next (s.complete (opRef ref 0x0806) .ok 0 0 (((List.range 16).map (fun d => leBytes 4 (s.reg Reg.DAC_STAT [d]))).flatten))) ∧
    (ref.bufLen < 64 → exec (.dacRead ref args) s = .next (s.complete (opRef ref 0x0806) .invalid))

/-- Conversions, rotation, encoders, DACs and the converter commands follow their rows. A read of a result captures its flags and entry. A conversion in progress writes its result, flags and acquisition samples and gives way to the next waiting. A start tick adds 1 to the start count of every enabled converter of a supplied die and starts or queues its conversion. An urgent trigger aborts or follows the conversion in progress, is held while a sequence runs, and lost while one is held. A boundary that matches hands converter NEXT to the calibrating core, on a busy one it waits; a mismatch is counted, a second retires the core. A full calibration is shown and answers those waiting; a second out of limits retires the core. VANA low takes the die into reset with its points ABSENT, its return ends that. A third bad readback sets RB_FAULT. One quadrature edge moves the count by 1, both edges are a fault; an index edge captures; a valid SSI frame moves the count by the position's step, a faulty one keeps it; a preset acts at the fast mark, but in STOP. ADC_READ, ENC_READ and DAC_READ return the registers. ADC_URGENT triggers, INVALID where there is nothing to trigger. ADC_CAL moves its core to the head, DENIED 6 of a retired core or degraded. ENC_SET_COUNT leaves its preset, DENIED 6 of SSI or in use by an axis. -/
def Obligations.ConverterBlockAndItsCommands : Prop := Claims.ConversionsFollowTheirStarts ∧ Claims.CoresRotateAndCalibrate ∧ Claims.EncodersCount ∧ Claims.ConverterCommandsAnswer

/-- IMAGE_WRITE_SLOT stores the bytes and the digest of all but the signature in the slot it names and leaves the other; a bad slot or size is INVALID, and the running image's slot DENIED 6. IMAGE_LOAD, IMAGE_CHECK and SPLICE_PREPARE add one parse of the bytes named and empty the report; a load and a prepare ask for a measurement, a check for none. SPLICE_PREPARE is ABSENT with no image running and BUSY where a splice is prepared or committed. -/
def Sys2Proof.Claims.ImagesAreWrittenAndQueued : Prop :=
  (∀ (ref : CmdRef) (args : List Nat) (s : State),
    let l := longRef ref 0x0101
    let k := slotArg (argN args 0)
    let b := (argBytes args 10).take ref.bufLen
    (args.length < 1 ∨ 1 < argN args 0 → exec (.imageWriteSlot ref args) s = .next (s.complete l .invalid)) ∧
    (1 ≤ args.length → argN args 0 ≤ 1 → 67108864 < ref.bufLen ∨ ref.bufLen < 512 ∨ b.length < ref.bufLen → exec (.imageWriteSlot ref args) s = .next (s.complete l .invalid 1)) ∧
    (Admitted s 0x0101 → 1 ≤ args.length → argN args 0 ≤ 1 → 512 ≤ ref.bufLen → ref.bufLen ≤ 67108864 → b.length = ref.bufLen →
      (s.runsFrom k = false → ∃ u : State, exec (.imageWriteSlot ref args) s = .next (u.complete l .ok) ∧ u.img.slotBytes k = b ∧ u.img.slotBytes (!k) = s.img.slotBytes (!k) ∧
        u.img.area k = { digest := sha256 (b.take (b.length - 512)) } ∧ u.img.area (!k) = s.img.area (!k) ∧ u = { (s.accept l) with img := u.img } ∧ u.img.run = s.img.run ∧ u.img.jobs = s.img.jobs) ∧
      (s.runsFrom k = true → exec (.imageWriteSlot ref args) s = .next ((s.accept l).complete l .denied 6)))) ∧
  (∀ (ref : CmdRef) (args : List Nat) (s : State),
    let n := argN args 0
    let queued (t : State) (l : CmdRef) (j : LoadJob) : Prop := t.img.jobs = s.img.jobs ++ [j] ∧ t.img.report = {} ∧ t.img.run = s.img.run ∧ t.img.splice = s.img.splice ∧
      t.rd Reg.GLB_IMG_REJECT_COUNT = 0 ∧ t.rd Reg.GLB_IMG_REJECT_REASON = 0 ∧ t = { (s.accept l) with regs := t.regs, img := t.img, fab := t.fab }
    let measures (t : State) : Prop := ∃ m, t.fab.measNext = some m ∧ m.forLoad = true
    (Admitted s 0x0102 → 1 ≤ args.length → n ≤ 1 → ∃ t, exec (.imageLoad ref args) s = .next t ∧
      queued t (longRef ref 0x0102) { kind := .load, slot := slotArg n, bytes := s.img.slotBytes (slotArg n), ref := some (longRef ref 0x0102) } ∧ measures t) ∧
    (args.length < 1 ∨ 1 < n → exec (.imageLoad ref args) s = .next (s.complete (longRef ref 0x0102) .invalid)) ∧
    (Admitted s 0x0103 → 1 ≤ args.length → n ≤ 2 → ∃ t, exec (.imageCheck ref args) s = .next t ∧ t.fab = s.fab ∧
      queued t (longRef ref 0x0103) { kind := .check, slot := slotArg n, bytes := if n = 2 then (argBytes args 10).take ref.bufLen else s.img.slotBytes (slotArg n), ref := some (longRef ref 0x0103) }) ∧
    (args.length < 1 ∨ 2 < n → exec (.imageCheck ref args) s = .next (s.complete (longRef ref 0x0103) .invalid)) ∧
    (Admitted s 0x0104 → s.img.run.isSome = true → s.img.splice = none → ∃ t, exec (.splicePrepare ref args) s = .next t ∧
      queued t (longRef ref 0x0104) { kind := .prepare, slot := !s.img.slot, bytes := s.img.slotBytes (!s.img.slot), ref := some (longRef ref 0x0104) } ∧ measures t) ∧
    (s.img.run = none → exec (.splicePrepare ref args) s = .next ((s.accept (longRef ref 0x0104)).complete (longRef ref 0x0104) .absent)) ∧
    (Admitted s 0x0104 → s.img.run.isSome = true → s.img.splice.isSome = true → exec (.splicePrepare ref args) s = .next (s.complete (longRef ref 0x0104) .busy)))

/-- The parse at the head of the parser's work ends. It waits while an image is due and, but for a check, for its measurement. Any rejection, the certificate's among them where the image was verified, refuses the attempt: the first 64 are the report, count and first reason are shown, the command ends INVALID or CERT_FAIL with that reason, and nothing else of the images changes. Without one a check is answered OK, and a load's image is due at the next mark. Of a load only the certificate that fails is first met by a voltage step where one is left. A splice is prepared with its changed cells in RESULT. -/
def Sys2Proof.Claims.ParsesAdmitOrRefuse : Prop :=
  (∀ (reads : List (Nat × List Byte)) (s : State), s.img.jobs = [] ∨ s.img.due.isSome = true → exec (.imageParseComplete reads) s = .next s) ∧
  (∀ (reads : List (Nat × List Byte)) (s : State) (j : LoadJob) (rest : List LoadJob), s.img.jobs = j :: rest → j.kind ≠ .check → s.measWait = true → exec (.imageParseComplete reads) s = .next s) ∧
  (∀ (reads : List (Nat × List Byte)) (s : State) (j : LoadJob) (rest : List LoadJob) (ref : CmdRef), s.img.jobs = j :: rest → s.img.due = none → j.kind = .check ∨ s.measWait = false → j.ref = some ref →
    let p := parseImg (s.loadEnv reads) j.bytes s.img.poisoned
    let phys := s.physFor p.img.compat
    let w := certAll p.img [] phys
    let cert := certFaults w s.budgets (fun _ => 0)
    let refused (r : RejRecord) (more : List RejRecord) : Prop := ∃ t, exec (.imageParseComplete reads) s = .next t ∧ t.img.jobs = rest ∧ t.img.run = s.img.run ∧ t.img.due = none ∧ t.img.splice = s.img.splice ∧
      t.img.report.recs = (r :: more).take 64 ∧ t.img.report.sec = s.time.d.sec ∧ t.img.refused = (s.img.refused || decide (j.kind ≠ .check)) ∧ t.rd Reg.GLB_IMG_REJECT_COUNT = min 64 (more.length + 1) ∧
      t.host = (s.complete ref (if r.reason = 0x000F ∨ r.reason = 0x0010 then .certFail else .invalid) r.reason).host ∧ t.pts = s.pts ∧ t.ctr = s.ctr
    (j.kind = .load ∨ j.kind = .check →
      (∀ (r : RejRecord) (more : List RejRecord), p.recs ≠ [] → p.recs ++ (if p.img.dir.isEmpty then [] else cert) = r :: more → refused r more) ∧
      (∀ (r : RejRecord) (more : List RejRecord), p.recs = [] → cert = r :: more → j.kind = .check ∨ p.img.compat = true → refused r more) ∧
      (p.recs = [] → cert ≠ [] → j.kind = .load → p.img.compat = false → s.age.volt.isSome = true → exec (.imageParseComplete reads) s = .next s) ∧
      (p.recs = [] → cert ≠ [] → j.kind = .load → p.img.compat = false → s.age.volt = none → s.canSet = true → s.vset < s.vmax → exec (.imageParseComplete reads) s = .next s.raiseVolt) ∧
      (p.recs = [] → cert = [] → ∃ t, exec (.imageParseComplete reads) s = .next t ∧ t.img.jobs = rest ∧ t.img.run = s.img.run ∧ t.img.splice = s.img.splice ∧ t.pts = s.pts ∧
        (j.kind = .check → t.img.due = none ∧ t.host = (s.complete ref .ok).host) ∧
        (j.kind = .load → t.host = s.host ∧ ∃ d, t.img.due = some d ∧ d.img = p.img ∧ d.slot = j.slot ∧ d.ref = some ref ∧ d.map = []))) ∧
    (j.kind = .prepare →
      (s.img.run = none → refused { reason := 0x0013 } []) ∧
      (∀ (r : RejRecord) (more : List RejRecord), s.img.run.isSome = true → s.img.splice = none → p.img.dir.isEmpty = true → p.recs = r :: more → refused r more) ∧
      (s.img.run.isSome = true → s.img.splice.isSome = true → ∃ u : State, exec (.imageParseComplete reads) s = .next (u.complete ref .busy) ∧ u.img.splice = s.img.splice ∧ u.img.jobs = rest ∧ u.host = s.host) ∧
      (∀ old : Img, s.img.run = some old → s.img.splice = none → p.img.dir.isEmpty = false →
        let ch := changedCells old p.img
        let pl := placeCells old p.img phys s.budgets s.sys.lost ch (s.planMap.filter (fun e => decide (p.img.roles.getD e.1 0 ≠ 0))) []
        let extra : Tab Nat := ch.foldl (fun t c => t.put (pl.1.at' c c) (t.at' (pl.1.at' c c) 0 + 64 + ceilDiv (carriedBytes old p.img c) 8)) []
        let all := p.recs ++ spliceFaults old p.img ++ pl.2.map (fun c => ({ reason := 0x0015, cell := c } : RejRecord)) ++ certFaults (certAll p.img pl.1 phys) s.budgets (fun c => extra.at' c 0)
        (all = [] → ∃ t q, exec (.imageParseComplete reads) s = .next t ∧ t.img.splice = some q ∧ q.img = p.img ∧ q.slot = j.slot ∧ q.changed = ch ∧ q.map = pl.1 ∧ q.commit = none ∧ t.img.jobs = rest ∧
          t.img.run = s.img.run ∧ t.host = (s.complete ref .ok 0 (ch.foldl (fun a c => a + 2 ^ c) 0)).host ∧ t.pts = s.pts) ∧
        (∀ (r : RejRecord) (more : List RejRecord), all = r :: more → refused r more))))

/-- SPLICE_COMMIT of a prepared splice sets its mark, at least 8 cycles ahead, and names the new slot as active; with none free to commit, or a nearer mark, it is INVALID, and after a splice was lost ABORTED. SPLICE_CANCEL discards the splice with its commit ABORTED, INVALID with none. The timeout ends the commit of a splice whose mark lies that long back and keeps the splice, and does nothing before. -/
def Sys2Proof.Claims.SplicesAreCommittedOrCancelled : Prop :=
  (∀ (ref : CmdRef) (args : List Nat) (s : State),
    let l := longRef ref 0x0105
    let n := if arg64 args 0 = 0 then s.time.n + 8 else arg64 args 0
    (args.length < 2 → exec (.spliceCommit ref args) s = .next (s.complete l .invalid)) ∧
    (Admitted s 0x0105 → 2 ≤ args.length → s.img.spliceLost = true → exec (.spliceCommit ref args) s = .next (State.complete { (s.accept l) with img := { s.img with spliceLost := false } } l .aborted)) ∧
    (Admitted s 0x0105 → 2 ≤ args.length → s.img.spliceLost = false → (∀ p, s.img.splice = some p → p.commit.isSome = true) → exec (.spliceCommit ref args) s = .next (s.complete l .invalid)) ∧
    (∀ p : Splice, Admitted s 0x0105 → 2 ≤ args.length → s.img.spliceLost = false → s.img.splice = some p → p.commit = none →
      (s.time.n + 8 ≤ n → ∃ t, exec (.spliceCommit ref args) s = .next t ∧ t.img = { s.img with splice := some { p with commit := some { mark := n, ref := some l } } } ∧
        t.sec = (s.sysWrite (fun b => { b with bootSlot := b2n p.slot })).sec ∧ t.rd Reg.GLB_SPLICE_MARK_LO_MARK_LO = n % 2 ^ 32 ∧ t.host = (s.accept l).host ∧ t.pts = s.pts) ∧
      (n < s.time.n + 8 → exec (.spliceCommit ref args) s = .next (s.complete l .invalid)))) ∧
  (∀ (ref : CmdRef) (args : List Nat) (s : State), Admitted s 0x0106 →
    (s.img.splice = none → exec (.spliceCancel ref args) s = .next (s.complete (opRef ref 0x0106) .invalid)) ∧
    (∀ p : Splice, s.img.splice = some p → ∃ u : State, exec (.spliceCancel ref args) s = .next (u.complete (opRef ref 0x0106) .ok) ∧ u.img = { s.img with splice := none } ∧ u.pts = s.pts ∧
      u.host = (match p.commit with | some c => (match c.ref with | some r => (s.complete r .aborted).host | none => s.host) | none => s.host))) ∧
  (∀ s : State,
    (s.img.splice = none → exec .spliceTimeout s = .next s) ∧
    (∀ p : Splice, s.img.splice = some p →
      let ms := if p.img.spliceTimeout = 0 then 10000 else p.img.spliceTimeout
      (p.commit = none → exec .spliceTimeout s = .next s) ∧
      (∀ c : Commit, p.commit = some c →
        (s.time.n < c.mark + 8 * ms → exec .spliceTimeout s = .next s) ∧
        (∀ r : CmdRef, c.ref = some r → c.mark + 8 * ms ≤ s.time.n → ∃ u : State, exec .spliceTimeout s = .next (u.complete r .timeout) ∧
          u = { s with regs := u.regs, img := { s.img with splice := some { p with commit := none } } }))))

/-- REPORT_READ returns the records of the last report, CERT_READ the running image's certificate record with its CRC, ABSENT with no image running, and SET_ACTIVE_SLOT writes the active slot and loads nothing. -/
def Sys2Proof.Claims.ReportsAndCertificatesAreRead : Prop :=
  ∀ (ref : CmdRef) (args : List Nat) (s : State),
    let report := (s.img.report.recs.map (rejBytes s.img.report)).flatten
    (Admitted s 0x0107 → report.length ≤ ref.bufLen → exec (.reportRead ref args) s = .next (s.complete (opRef ref 0x0107) .ok 0 0 report)) ∧
    (ref.bufLen < report.length → exec (.reportRead ref args) s = .next (s.complete (opRef ref 0x0107) .invalid)) ∧
    (∀ r : CertRecord, Admitted s 0x0108 → s.img.run.isSome = true → 1092 ≤ ref.bufLen → (s.img.area s.img.slot).record = some r →
      exec (.certRead ref args) s = .next (s.complete (opRef ref 0x0108) .ok 0 0 (certBytes r ++ leBytes 4 (crc32c (certBytes r)))) ∧
      fieldLE (certBytes r) 0 4 = 0x54524543 ∧ slice (certBytes r) 8 32 = slice r.digest 0 32) ∧
    (ref.bufLen < 1092 → exec (.certRead ref args) s = .next (s.complete (opRef ref 0x0108) .invalid)) ∧
    (1092 ≤ ref.bufLen → s.img.run = none → exec (.certRead ref args) s = .next (s.complete (opRef ref 0x0108) .absent)) ∧
    (Admitted s 0x0109 → 1 ≤ args.length → argN args 0 ≤ 1 →
      exec (.setActiveSlot ref args) s = .next ((s.sysWrite (fun b => { b with bootSlot := argN args 0 })).complete (opRef ref 0x0109) .ok)) ∧
    (args.length < 1 ∨ 1 < argN args 0 → exec (.setActiveSlot ref args) s = .next (s.complete (opRef ref 0x0109) .invalid))

/-- Image commands fill slots and queue parses, a parse admits or refuses, and a prepared splice is committed, cancelled or times out. IMAGE_WRITE_SLOT stores the bytes and their digest in the slot it names and leaves the other; on the running image's slot it is DENIED 6. IMAGE_LOAD, IMAGE_CHECK and SPLICE_PREPARE add one parse of the bytes named and empty the report; a load and a prepare ask for a measurement. A parse waits while an image is due and, but for a check, for its measurement. With rejections, the certificate's among them where the image was verified, the first 64 are the report, count is shown, the command ends INVALID or CERT_FAIL with the first reason, and the running image and the one due stay; a load whose certificate alone fails first takes the voltage steps left. Without any a check is OK, a load's image is due, and a splice is prepared with its changed cells in RESULT. SPLICE_COMMIT of a prepared splice sets its mark, at least 8 cycles ahead, and the active slot, INVALID with none free or a nearer mark, ABORTED once after a loss; SPLICE_CANCEL discards it with its commit ABORTED, INVALID with none; the timeout ends the commit and keeps the splice. REPORT_READ and CERT_READ return report and certificate; SET_ACTIVE_SLOT writes the slot and loads nothing. -/
def Obligations.ImageCommandsAndTheParser : Prop := Claims.ImagesAreWrittenAndQueued ∧ Claims.ParsesAdmitOrRefuse ∧ Claims.SplicesAreCommittedOrCancelled ∧ Claims.ReportsAndCertificatesAreRead

/-- A measurement is asked for by its occasion and its commands, merging into the one that waits. It runs over eight cycles, each of which lowers the smallest counts, and does not end before. Its end counts 0x086, answers its commands and writes every budget and count. With no image running it does nothing else; with one, STATE becomes VALID where every cell is admitted, and where one fails and a step is left MARGIN_LOW with VSET raised by a step. A probe's measurement is kept with U_top and changes no budget. -/
def Sys2Proof.Claims.MeasurementsSetTheBudgets : Prop :=
  (∀ s : State,
    let m : Measurement := s.fab.measNext.getD { startN := 0 }
    exec .periodicMeasurement s = .next { s with fab := { s.fab with measNext := some m } } ∧
    (∀ (ref : CmdRef) (args : List Nat),
      (Admitted s 0x0F02 → exec (.marginMeasure ref args) s = .next { (s.accept (longRef ref 0x0F02)) with fab := { s.fab with measNext := some { m with waiters := m.waiters ++ [(longRef ref 0x0F02, 0x0F02)] } } }) ∧
      (Admitted s 0x1002 → 1088 ≤ ref.bufLen → exec (.ttCheck ref args) s = .next { (s.accept (longRef ref 0x1002)) with fab := { s.fab with measNext := some { m with waiters := m.waiters ++ [(longRef ref 0x1002, 0x1002)] } } }) ∧
      (ref.bufLen < 1088 → exec (.ttCheck ref args) s = .next (s.complete (longRef ref 0x1002) .invalid)))) ∧
  (∀ (s : State) (m : Measurement) (tt : List Nat), s.fab.meas = some m →
    (m.cycles < 8 → tt.length = 256 → s.measMark tt = { s with fab := { s.fab with meas := some { m with cycles := min 8 (s.time.n - m.startN), counts := if m.counts.isEmpty then tt else List.zipWith Nat.min m.counts tt } } }) ∧
    (8 ≤ m.cycles → s.measMark tt = s)) ∧
  (∀ s : State, s.fab.meas = none → exec .measurementComplete s = .next s) ∧
  (∀ (s : State) (m : Measurement), s.fab.meas = some m →
    let b (c : Nat) : Nat := budgetOf (ttOf m.counts c)
    let fails := failingCells s.certW ((List.range 64).map b)
    (m.cycles < 8 → exec .measurementComplete s = .next s) ∧
    (8 ≤ m.cycles → m.probe = false → ∃ t, exec .measurementComplete s = .next t ∧ t.fab.measured = true ∧
      (s.fab.measNext = none → s.fab.measProbe = none → t.fab.meas = none) ∧
      (∀ c < 64, t.rd Reg.CEL_BUDGET_B [c] = b c ∧ t.flag Reg.CEL_BUDGET_TT_EXCL [c] = (excluded (ttOf m.counts c)).isSome ∧ ∀ k < 4, t.rd Reg.CEL_TT_COUNT [c, k] = (ttOf m.counts c).getD k 0) ∧
      (s.img.run = none → t.age.easy = 0 ∧ t.host = (s.measAnswers m.counts m.waiters).host ∧ (s.fab.measNext = none → s.fab.measProbe = none → t.ctr = (s.count 0x086).ctr)) ∧
      (∀ i, s.img.run = some i → fails = [] → t.rd Reg.GLB_CERT_STATUS_STATE = 1) ∧
      (∀ i, s.img.run = some i → fails ≠ [] → s.age.volt = none → s.forerunner = false → s.canSet = true → s.vset < s.vmax →
        t.vset = min (s.vset + 10) s.vmax ∧ t.rd Reg.GLB_CERT_STATUS_STATE = (if s.rd Reg.GLB_CERT_STATUS_STATE ≤ 1 then 2 else s.rd Reg.GLB_CERT_STATUS_STATE) ∧ ∃ p, t.age.volt = some p ∧ p.for_ = .raise ∧ p.target = t.vset)) ∧
    (8 ≤ m.cycles → m.probe = true → ∃ t p, exec .measurementComplete s = .next t ∧ (∀ c < 64, t.rd Reg.CEL_BUDGET_B [c] = s.rd Reg.CEL_BUDGET_B [c]) ∧
      t.age.probes = (s.age.probes ++ [p]).drop (s.age.probes.length + 1 - 64) ∧ p.hours = s.rd Reg.AGE_HOURS_OP_HOURS ∧
      (∀ c < 64, p.utop.at' c 0 = if limitBase (b c) = 0 then 0xFFFF else min 0xFFFF (ceilDiv (1000 * s.rd Reg.CEL_CERT_BASE_W_BASE [c]) (limitBase (b c))))))

/-- A settle poll that ends well adds a good reading within 10 mV and takes all away outside, one that does not shows why; a settled report needs two and then completes a raise, restores the setpoint's measurement, a probe's or nothing for the boot write; after 5 ms, or a write that failed twice, PMB_FAULT is set and the write given up. Telemetry and alerts are shown, a boot read shows the regulator and writes VSET back or sets PMB_FAULT, an expired LOWER_HOLD ends, and a die temperature is shown, above 110 °C as HOT, and asks for a measurement when it has changed by more than 5 °C. -/
def Sys2Proof.Claims.TheSetpointSettles : Prop :=
  (∀ (s : State) (p : VoltPend), s.age.volt = some p → p.settled = false → s.fab.frozen = false →
    let done : State := { s with age := { s.age with volt := some { p with settled := true } } }
    (p.good < 2 → exec .regulatorSettled s = .next s) ∧
    (2 ≤ p.good →
      (p.for_ = .raise ∨ p.for_ = .bound true → exec .regulatorSettled s = .next ((done.countLog 0x3E0 p.target).reqMeas true true [])) ∧
      (p.for_ = .lower ∨ p.for_ = .fix ∨ p.for_ = .bound false → exec .regulatorSettled s = .next (done.reqMeas true true [])) ∧
      (p.for_ = .probeUp → exec .regulatorSettled s = .next { done with fab := { s.fab with measProbe := some true } }) ∧
      (p.for_ = .probeDown → exec .regulatorSettled s = .next (done.endProbe.reqMeas true true [])) ∧
      (p.for_ = .boot → exec .regulatorSettled s = .next { s with age := { s.age with volt := none } })) ∧
    (∀ e : PmbEnd, e ≠ .ok ∨ p.at_ + 5000000 ≤ s.runNs → ∃ t, exec (.regulatorSettleTimeout e) s = .next t ∧ t.age.volt = none ∧ t.flag Reg.AGE_STAT_PMB_FAULT = true ∧ t.ctr = (s.count 0x3E2).ctr ∧ t.vset = s.vset ∧
      (s.age.probe.isSome = true → t.age.probe = none ∧ t.flag Reg.AGE_STAT_PROBE = false ∧ t.host = (forL s.age.probeRefs (fun r (x : State) => x.complete r .denied 6) s).host) ∧ (s.age.probe = none → t.host = s.host)) ∧
    (s.runNs < p.at_ + 5000000 → exec (.regulatorSettleTimeout .ok) s = .next s) ∧
    (∀ (vout status : BitVec 16), ∃ t, exec (.pmbusSettlePoll vout status .ok) s = .next t ∧ t.rd Reg.PWR_PMB_STATUS = status.toNat ∧
      (let v := voutMv vout.toNat s.age.pmbExp
       t = { s with regs := t.regs, age := { s.age with volt := some { p with good := if v.1 ≤ (p.target + 10) * v.2 ∧ (p.target - 10) * v.2 ≤ v.1 ∧ bitOf status.toNat 15 = false then p.good + 1 else 0 } } })) ∧
    (∀ (vout status : BitVec 16) (e : PmbEnd), e ≠ .ok → exec (.pmbusSettlePoll vout status e) s = .next { (s.pmbEnd e) with age := { s.age with volt := some { p with good := 0 } } })) ∧
  (∀ (s : State) (vout status : BitVec 16) (e : PmbEnd), s.age.volt = none ∨ s.fab.frozen = true → exec .regulatorSettled s = .next s ∧ exec (.regulatorSettleTimeout e) s = .next s ∧ exec (.pmbusSettlePoll vout status e) s = .next s) ∧
  (∀ s : State, (s.pmbEnd .nack).flag Reg.PWR_PMB_NACK = true ∧ (s.pmbEnd .pec).flag Reg.PWR_PMB_PEC_ERR = true ∧ s.pmbEnd .ok = s) ∧
  (∀ (vout iout : BitVec 16) (temp : BitVec 8) (s : State), s.age.volt = none → s.flag Reg.PWR_PMB_PRESENT = true →
    (∃ t, exec (.pmbusTelemetryPoll vout iout temp .ok) s = .next t ∧ t = { s with regs := t.regs } ∧ t.rd Reg.PWR_TEMP_REG_TEMP = temp.toNat ∧ t.rd Reg.PWR_VCORE_IOUT = iout.toNat ∧
      (let v := voutMv vout.toNat s.age.pmbExp
       t.rd Reg.PWR_VCORE_VOUT_MV = min 1023 ((2 * v.1 + v.2) / (2 * v.2)))) ∧
    (∀ e : PmbEnd, e ≠ .ok → exec (.pmbusTelemetryPoll vout iout temp e) s = .next (s.pmbEnd e))) ∧
  (∀ (vout iout : BitVec 16) (temp : BitVec 8) (e : PmbEnd) (s : State), (∃ p, s.age.volt = some p ∧ p.settled = false) ∨ s.flag Reg.PWR_PMB_PRESENT = false → exec (.pmbusTelemetryPoll vout iout temp e) s = .next s) ∧
  (∀ (status : BitVec 16) (s : State), ∃ t, exec (.pmbAlert status .ok) s = .next t ∧ t = { s with regs := t.regs, recd := t.recd } ∧ t.flag Reg.PWR_STAT_PMB_ALERT = true ∧ t.rd Reg.PWR_PMB_STATUS = status.toNat ∧ t.vset = s.vset) ∧
  (∀ (mode : BitVec 8) (vout : BitVec 16) (s : State),
    let v := voutMv vout.toNat (signed 5 mode.toNat)
    (mode.toNat < 32 → s.fab.frozen = false → ∃ t, exec (.pmbusBootRead mode vout .ok) s = .next t ∧ t.flag Reg.PWR_PMB_PRESENT = true ∧
      t.vset = max s.vmin (min s.vmax (10 * ((v.1 + 5 * v.2) / (10 * v.2)))) ∧ ∃ p, t.age.volt = some p ∧ p.for_ = .boot ∧ p.target = t.vset ∧ p.good = 0) ∧
    (mode.toNat < 32 → s.fab.frozen = true → ∃ t, exec (.pmbusBootRead mode vout .ok) s = .next t ∧ t.flag Reg.PWR_PMB_PRESENT = true ∧ t.vset = s.vset ∧ t.age.volt = none) ∧
    (∀ e : PmbEnd, e ≠ .ok ∨ 32 ≤ mode.toNat → ∃ t, exec (.pmbusBootRead mode vout e) s = .next t ∧ t = { s with regs := t.regs } ∧ t.flag Reg.PWR_PMB_PRESENT = false ∧ t.flag Reg.AGE_STAT_PMB_FAULT = true ∧ t.vset = 0)) ∧
  (∀ s : State,
    (s.flag Reg.AGE_STAT_LOWER_HOLD = true → s.age.holdUntil ≤ s.runNs → exec .lowerHoldExpiry s = .next (s.wr Reg.AGE_STAT_LOWER_HOLD 0).tryLower ∧ (s.wr Reg.AGE_STAT_LOWER_HOLD 0).tryLower.flag Reg.AGE_STAT_LOWER_HOLD = false) ∧
    (s.flag Reg.AGE_STAT_LOWER_HOLD = false ∨ s.runNs < s.age.holdUntil → exec .lowerHoldExpiry s = .next s)) ∧
  (∀ (tj : BitVec 8) (s : State), ∃ t, exec (.tjSample tj) s = .next t ∧ t = { s with regs := t.regs, recd := t.recd, fab := t.fab } ∧ t.rd Reg.PWR_TEMP_TJ_MAX = tj.toNat ∧ t.flag Reg.PWR_STAT_HOT_NOW = decide (110 < tj.toInt) ∧
    t.flag Reg.PWR_STAT_HOT = (s.flag Reg.PWR_STAT_HOT || decide (110 < tj.toInt)) ∧
    (s.fab.measTemp = none → t.fab = s.fab) ∧ (∀ o, s.fab.measTemp = some o → (5 < (tj.toInt - o).natAbs → ∃ m, t.fab.measNext = some m ∧ m.byChange = true) ∧ ((tj.toInt - o).natAbs ≤ 5 → t.fab = s.fab)))

/-- A probe is wanted when it is due with an image in native mode, or commanded with STATE VALID and no PMB_FAULT; MARGIN_PROBE is ABSENT with no image and DENIED 6 otherwise. A swap-in's copy is marked done. MIGRATE_BACK of a migrated cell that its home admits waits for mark N + 8 and takes a prepared splice away; it is INVALID of a bad cell, ABSENT with no image, DENIED 6 of a cell that is not migrated, moves already, or is not admitted. AGE_READ returns the ageing registers, the map and the forecast. -/
def Sys2Proof.Claims.ProbesAndMigrationsAreAskedFor : Prop :=
  (∀ s : State,
    (s.img.run.isSome = true → s.forerunner = false → s.age.probe = none → exec .marginProbeDue s = .next { s with age := { s.age with probeDue := true } }) ∧
    (s.img.run = none ∨ s.forerunner = true ∨ s.age.probe.isSome = true → exec .marginProbeDue s = .next s)) ∧
  (∀ (ref : CmdRef) (args : List Nat) (s : State),
    let l := longRef ref 0x0F03
    let bad := s.forerunner || decide (s.rd Reg.GLB_CERT_STATUS_STATE ≠ 1) || s.flag Reg.AGE_STAT_PMB_FAULT
    (Admitted s 0x0F03 → s.img.run.isSome = true → bad = false →
      exec (.marginProbe ref args) s = .next { (s.accept l) with age := { s.age with probeRefs := s.age.probeRefs ++ [l], probeDue := s.age.probeDue || s.age.probe.isNone } }) ∧
    (Admitted s 0x0F03 → s.img.run.isSome = true → bad = true → exec (.marginProbe ref args) s = .next ((s.accept l).complete l .denied 6)) ∧
    (s.img.run = none → exec (.marginProbe ref args) s = .next ((s.accept l).complete l .absent))) ∧
  (∀ s : State, exec .swapInCopyDone s = .next { s with age := { s.age with swap := s.age.swap.map (fun x => (x.1, x.2.1, x.2.2.1, true)) } }) ∧
  (∀ (ref : CmdRef) (args : List Nat) (s : State),
    let l := longRef ref 0x0F04
    let h := argN args 0
    (args.length < 1 ∨ 64 ≤ h → exec (.migrateBack ref args) s = .next (s.complete l .invalid)) ∧
    (1 ≤ args.length → h < 64 → s.img.run = none → exec (.migrateBack ref args) s = .next ((s.accept l).complete l .absent)) ∧
    (∀ i : Img, Admitted s 0x0F04 → 1 ≤ args.length → h < 64 → s.img.run = some i →
      let stays := !s.flag Reg.AGE_MAP_MIGRATED [h] || s.age.migrations.any (fun m => decide (m.home = h)) || !admitted (certOf i (s.planMap.drop' h) s.physOf h) (s.budgets.getD h 0)
      (stays = true → exec (.migrateBack ref args) s = .next ((s.accept l).complete l .denied 6)) ∧
      (stays = false → ∃ t, exec (.migrateBack ref args) s = .next t ∧ t.age = { s.age with migrations := s.age.migrations ++ [{ home := h, exec := h, mark := s.time.n + 8, ref := some l }] } ∧
        t.img.splice = none ∧ t.img.run = s.img.run ∧ t.pts = s.pts ∧ t.img.spliceLost = (match s.img.splice with | some p => p.commit.isNone | none => s.img.spliceLost)))) ∧
  (∀ (ref : CmdRef) (args : List Nat) (s : State),
    let data := (([Reg.AGE_STAT, Reg.AGE_VCFG, Reg.AGE_VFIX, Reg.AGE_HOURS, Reg.AGE_OPSEC, Reg.AGE_PCYC, Reg.AGE_REC_CFG, Reg.AGE_REC_STAT, Reg.AGE_REC_SEQ].map (fun d => leBytes 4 (s.reg d))).flatten ++
      ((List.range 64).map (fun c => leBytes 4 (s.reg Reg.AGE_MAP [c]))).flatten ++ leBytes 4 (s.reg Reg.AGE_SPARE) ++ s.fcastBytes)
    data.length = 312 ∧ (Admitted s 0x0F01 → 312 ≤ ref.bufLen → exec (.ageRead ref args) s = .next (s.complete (opRef ref 0x0F01) .ok 0 0 data)) ∧
    (ref.bufLen < 312 → exec (.ageRead ref args) s = .next (s.complete (opRef ref 0x0F01) .invalid)))

/-- Measurements are asked for and end, and the setpoint is written, settles or fails as chapters 20 and 21 say. A measurement is asked for by its occasion and its commands, merging into the one that waits; each of its eight cycles lowers the smallest counts, and it does not end before. Its end writes every budget and count; with no image it does no more; with one, STATE is VALID where every cell is admitted, and where one fails with a step left MARGIN_LOW with VSET a step up. A probe's is kept with U_top and changes no budget. A settle poll within 10 mV adds a good reading, one outside takes all away, one that fails shows why. Two make a settled report: a raise is counted, and a measurement follows, of a probe its own, of the boot write none. After 5 ms, or a failed write, PMB_FAULT is set and a probe's commands are DENIED 6. Telemetry and alerts are shown; a boot read shows the regulator and writes VSET back, or sets PMB_FAULT. An expired LOWER_HOLD ends. A die temperature is shown, above 110 °C as HOT, and a change of more than 5 °C asks for a measurement. A probe is wanted when due or commanded, DENIED 6 unless VALID. MIGRATE_BACK waits for mark N + 8, DENIED 6 where the work stays, and takes a prepared splice away. AGE_READ returns registers and forecast. Nothing acts where its condition does not hold. -/
def Obligations.MarginsVoltageAndTheRegulator : Prop := Claims.MeasurementsSetTheBudgets ∧ Claims.TheSetpointSettles ∧ Claims.ProbesAndMigrationsAreAskedFor

namespace Sys2Proof.Claims

/-- The signature argument of an approval verifies for its slot over the approval message of a proposal. -/
def Approves (s : State) (p : SecProposal) (args : List Nat) : Prop :=
  s.approves (argN args 8) (approvalMsg 0 p.propSeq p.digest) (slice (argBytes args 9) 0 384) = true

end Sys2Proof.Claims

/-- SEC_PROPOSE with arguments in order makes the one pending proposal and returns PROP_SEQ and digest; it is INVALID otherwise, DENIED 5 of a part without keys, BUSY with one pending. SEC_APPROVE of another digest is INVALID, or TIMEOUT of the expired one, at or after 600 s TIMEOUT, of an empty slot INVALID 8; a signature that fails, a second by the held slot, and a second whose conditions fail are DENIED and counted, the first approval held; a first asks for a second, and a second by another slot is acknowledged and held. SEC_CANCEL and the expiry end the proposal, counted; SEC_CANCEL is INVALID with none, or one that is being made. -/
def Sys2Proof.Claims.ProposalsNeedTwoApprovals : Prop :=
  (∀ (ref : CmdRef) (args : List Nat) (s : State),
    let r := opRef ref 0x0E02
    (args.length < 1 ∨ s.proposalArgs args = none ∨ ref.bufLen < 32 → exec (.secPropose ref args) s = .next (s.complete r .invalid)) ∧
    (∀ b : List Byte, 1 ≤ args.length → s.proposalArgs args = some b → 32 ≤ ref.bufLen →
      (s.keyless = true → exec (.secPropose ref args) s = .next (s.complete r .denied 5)) ∧
      (Admitted s 0x0E02 → s.keyless = false → s.sec.proposal.isSome = true → exec (.secPropose ref args) s = .next (s.complete r .busy)) ∧
      (Admitted s 0x0E02 → s.keyless = false → s.sec.proposal = none → ∃ (u : State) (p : SecProposal), exec (.secPropose ref args) s = .next (u.complete r .ok 0 p.propSeq p.digest) ∧
        u = { s with regs := u.regs, ctr := (s.count 0x1F2).ctr, sec := { u.sec with proposal := some p } } ∧ u.sys = { s.sys with propSeq := (s.sys.propSeq + 1) % 2 ^ 32 } ∧
        p = { kind := argN args 0, args := b, digest := sha256 (leBytes 4 p.propSeq ++ leBytes 1 (argN args 0) ++ List.replicate 3 0 ++ b), propSeq := (s.sys.propSeq + 1) % 2 ^ 32, at_ := s.runNs }))) ∧
  (∀ (ref : CmdRef) (args : List Nat) (s : State),
    let r := opRef ref 0x0E03
    let digest := slice (argBytes args 0) 0 32
    let slot := argN args 8
    let denied (d : Nat) : Out := .next ((s.count 0x1F3).complete r .denied d)
    (args.length < 105 → exec (.secApprove ref args) s = .next (s.complete r .invalid)) ∧
    (105 ≤ args.length → 4 ≤ slot → exec (.secApprove ref args) s = .next (s.complete r .invalid 8)) ∧
    (Admitted s 0x0E03 → 105 ≤ args.length → slot < 4 →
      ((∀ p, s.sec.proposal = some p → p.digest ≠ digest) → exec (.secApprove ref args) s = .next (s.complete r (if digest = s.sec.expired then .timeout else .invalid))) ∧
      (∀ p : SecProposal, s.sec.proposal = some p → p.digest = digest →
        (p.at_ + tenMinutes ≤ s.runNs → exec (.secApprove ref args) s = .next (s.complete r .timeout)) ∧
        (s.runNs < p.at_ + tenMinutes → (s.sys.authKeys.getD slot []).isEmpty = true → exec (.secApprove ref args) s = .next (s.complete r .invalid 8)) ∧
        (s.runNs < p.at_ + tenMinutes → (s.sys.authKeys.getD slot []).isEmpty = false →
          (¬Approves s p args → exec (.secApprove ref args) s = denied 4) ∧
          (Approves s p args → p.first = none → ∃ u : State, exec (.secApprove ref args) s = .next (u.complete r .needsSecond) ∧
            u = { s with regs := u.regs, sec := { s.sec with proposal := some { p with first := some (slot, decide (128 ≤ ref.ring)) } } }) ∧
          (Approves s p args → ∀ k m, p.first = some (k, m) →
            (k = slot ∨ p.second.isSome = true → exec (.secApprove ref args) s = denied 4) ∧
            (k ≠ slot → p.second = none →
              (∀ st d, judge (s.secMay p (decide (128 ≤ ref.ring))) = some (st, d) → exec (.secApprove ref args) s = denied d) ∧
              (judge (s.secMay p (decide (128 ≤ ref.ring))) = none → ∃ t, exec (.secApprove ref args) s = .next t ∧
                t = { (s.accept (longRef ref 0x0E03)) with regs := t.regs, sec := { s.sec with proposal := some { p with second := some { ref := longRef ref 0x0E03, slot := slot } } } })))))))  ∧
  (∀ (ref : CmdRef) (args : List Nat) (s : State),
    (s.sec.proposal = none ∨ (∃ p, s.sec.proposal = some p ∧ p.second.isSome = true) → exec (.secCancel ref args) s = .next (s.complete (opRef ref 0x0E04) .invalid)) ∧
    (∀ p : SecProposal, Admitted s 0x0E04 → s.sec.proposal = some p → p.second = none → ∃ u : State, exec (.secCancel ref args) s = .next (u.complete (opRef ref 0x0E04) .ok) ∧
      u = { s with regs := u.regs, ctr := (s.count 0x1F4).ctr, sec := { s.sec with proposal := none } })) ∧
  (∀ s : State,
    (s.sec.proposal = none → exec .secProposalExpiry s = .next s) ∧
    (∀ p : SecProposal, s.sec.proposal = some p →
      (s.runNs < p.at_ + tenMinutes ∨ p.second.isSome = true → exec .secProposalExpiry s = .next s) ∧
      (p.second = none → p.at_ + tenMinutes ≤ s.runNs → ∃ t, exec .secProposalExpiry s = .next t ∧ t = { s with regs := t.regs, ctr := (s.count 0x1F4).ctr, sec := { s.sec with proposal := none, expired := p.digest } })))

/-- A write of the system bank is in effect at once and leaves the bank that was newer. DEVICE_CHANGE_COMMIT of a proposal with its second approval ends it and makes its change: a key slot or the platform record in the bank and OK; a register write, a life-cycle state, written to the bank, or the open gate, already OK, for the next mark; a tamper latch cleared and OK, or ABORTED while a sensor detects. With no second approval it does nothing. At the mark a register write acts on the RWA fields and is OK, a transition is shown, with the gate closed, and the gate opens for its minutes. -/
def Sys2Proof.Claims.CommittedChangesAreMade : Prop :=
  (∀ (s : State) (f : SysBody → SysBody), (s.sysWrite f).sys = f s.sys ∧ (s.sysWrite f).sysLost = false ∧
    (s.sysLost = false → (if s.sysNewer1 then (s.sysWrite f).sec.bank1 = s.sec.bank1 else (s.sysWrite f).sec.bank0 = s.sec.bank0))) ∧
  (∀ (b : Bool) (s : State), (∀ p, s.sec.proposal = some p → p.second = none) → exec (.deviceChangeCommit b) s = .next s) ∧
  (∀ (detecting : Bool) (s : State) (p : SecProposal) (a : SecondApproval), s.sec.proposal = some p → p.second = some a →
    let slot := fieldLE p.args 0 4
    let modulus := slice p.args 8 (fieldLE p.args 4 4)
    ∃ t, exec (.deviceChangeCommit detecting) s = .next t ∧ t.sec.proposal = none ∧ t = { s with regs := t.regs, host := t.host, sec := t.sec } ∧
      (p.kind = 1 → t.sys = { s.sys with imgKeys := modAt (fun _ => modulus) s.sys.imgKeys slot } ∧ t.sec.atMark = s.sec.atMark ∧ t.host = (s.complete a.ref .ok).host) ∧
      (p.kind = 2 → t.sys = { s.sys with authKeys := modAt (fun _ => modulus) s.sys.authKeys slot } ∧ t.sec.atMark = s.sec.atMark ∧ t.host = (s.complete a.ref .ok).host) ∧
      (p.kind = 3 → t.sec = { s.sec with proposal := none, atMark := s.sec.atMark ++ [.regWrite a.ref slot (fieldLE p.args 4 4) (fieldLE p.args 8 4)] } ∧ t.host = s.host) ∧
      (p.kind = 4 → t.sys = { s.sys with lc := slot } ∧ t.sec.atMark = s.sec.atMark ++ [.lifeCycle (some a.ref) slot] ∧ t.host = s.host ∧ t.lc = s.lc) ∧
      (p.kind = 5 → t.sec = { s.sec with proposal := none, atMark := s.sec.atMark ++ [.dbgOpen a.ref slot] } ∧ t.host = (s.complete a.ref .ok).host ∧ t.flag Reg.SEC_DBG_OPEN = s.flag Reg.SEC_DBG_OPEN) ∧
      (p.kind = 6 → detecting = false → bitsOf t.sec.tamper.toNat 31 26 = 0 ∧ t.sec.tamper.toNat % 2 ^ 26 = s.sec.tamper.toNat % 2 ^ 26 ∧ t.flag Reg.SEC_TAMPER_LATCH = false ∧ t.host = (s.complete a.ref .ok).host) ∧
      (p.kind = 6 → detecting = true → t.sec = { s.sec with proposal := none } ∧ t.host = (s.complete a.ref .aborted).host) ∧
      (p.kind = 7 → t.sys = { s.sys with platform := p.args } ∧ t.host = (s.complete a.ref .ok).host)) ∧
  (∀ s : State, s.sec.gateClose = none →
    (∀ ref addr value mask, s.sec.atMark = [.regWrite ref addr value mask] → s.secMark = ((State.rwaWrite { s with sec := { s.sec with atMark := [] } } addr value mask).complete ref .ok).secShow) ∧
    (∀ ref to_, to_ < 5 → s.sec.atMark = [.lifeCycle ref to_] → s.secMark.lc = to_ ∧ s.secMark.flag Reg.SEC_DBG_OPEN = false ∧ s.secMark.sec.proposal = none ∧ bitOf (s.secMark.rd Reg.RNG_DEV_CAUSE_CAUSE) 9 = true ∧
      (to_ = 4 → s.secMark.sec.fuses.retired = true ∧ s.secMark.sys.authKeys = [[], [], [], []] ∧ s.secMark.sys.devModulus = [])) ∧
    (∀ ref minutes, s.sec.atMark = [.dbgOpen ref minutes] → s.secMark.flag Reg.SEC_DBG_OPEN = true ∧ s.secMark.sec.gateEnd = some (s.runNs + minutes * 60000000000) ∧ s.secMark.ctr = (s.count 0x1F5).ctr)) ∧
  (∀ (ref : CmdRef) (args : List Nat) (s : State),
    let na := argN args 0
    let ni := argN args 1
    let l := longRef ref 0x0E07
    let key (i : Nat) : List Byte := slice (argBytes args (2 + 96 * i)) 0 384
    let auth := (List.range na).map key
    let img := (List.range ni).map (fun i => key (na + i))
    let plat := slice (argBytes args (2 + 96 * (na + ni))) 0 1024
    (na < 2 ∨ 4 < na → exec (.secProvision ref args) s = .next (s.complete l .invalid)) ∧
    (2 ≤ na → na ≤ 4 → ni < 1 ∨ 4 < ni → exec (.secProvision ref args) s = .next (s.complete l .invalid 1)) ∧
    (2 ≤ na → na ≤ 4 → 1 ≤ ni → ni ≤ 4 →
      (args.length < 2 + 96 * (na + ni) + 256 → exec (.secProvision ref args) s = .next (s.complete l .invalid 2)) ∧
      (2 + 96 * (na + ni) + 256 ≤ args.length → platformOk plat = false → exec (.secProvision ref args) s = .next (s.complete l .invalid 3)) ∧
      (2 + 96 * (na + ni) + 256 ≤ args.length → platformOk plat = true → s.lc ≠ 0 → exec (.secProvision ref args) s = .next ((s.accept l).complete l .denied 5)) ∧
      (Admitted s 0x0E07 → 2 + 96 * (na + ni) + 256 ≤ args.length → platformOk plat = true → s.lc = 0 →
        (distinct (auth ++ img) = false → exec (.secProvision ref args) s = .next ((s.accept l).complete l .invalid 2)) ∧
        (distinct (auth ++ img) = true → ∃ t, exec (.secProvision ref args) s = .next t ∧ t.sys = { s.sys with authKeys := auth ++ List.replicate (4 - na) [], imgKeys := img ++ List.replicate (4 - ni) [], platform := plat, devModulus := beBytes 384 (Config.deviceModulus s.fresh).toNat, provSec := s.time.d.sec % 2 ^ 48, lc := 1 } ∧
          t.sec.fuses = { s.sec.fuses with prov := true } ∧ t.sec.atMark = s.sec.atMark ++ [.lifeCycle (some l) 1] ∧ t.lc = 0 ∧ t.host = (s.accept l).host))))

/-- A tamper detection sets the latch and its sensor and counts up to 65,535; on VBAT it marks ON_VBAT and waits for the boot to be logged; powered it wipes the secure region, closes the gate with cause 4, ends the proposal and is a device cause. The gate closes when its time ends, with cause 1, and SEC_DBG_CLOSE asks for the next mark. -/
def Sys2Proof.Claims.TamperAndTimeCloseTheGate : Prop :=
  (∀ (sensor : Fin 4) (s : State),
    let latched (t : State) : Prop := bitOf t.sec.tamper.toNat 31 = true ∧ bitOf t.sec.tamper.toNat (30 - sensor.val) = true ∧ t.sec.tamper.toNat % 65536 = min (s.sec.tamper.toNat % 65536 + 1) 0xFFFF
    (∃ t, exec (.tamperDetect sensor true) s = .next t ∧ latched t ∧ bitOf t.sec.tamper.toNat 26 = true ∧ t = { s with sec := { s.sec with tamper := t.sec.tamper, vbatLog := true } }) ∧
    (∃ t, exec (.tamperDetect sensor false) s = .next t ∧ latched t ∧ t.flag Reg.SEC_TAMPER_LATCH = true ∧ t.sec.proposal = none ∧ t.sec.vbatLog = s.sec.vbatLog ∧
      t.flag Reg.SEC_DBG_OPEN = false ∧ (s.flag Reg.SEC_DBG_OPEN = true → t.rd Reg.SEC_DBG_CAUSE = 4) ∧ t.flag Reg.MEM_SEC_STAT_WIPING = true ∧ bitOf (t.rd Reg.RNG_DEV_CAUSE_CAUSE) 9 = true ∧
      (t.ctr.tab.at' 0x1F0 {}).value.toNat = ((s.ctr.tab.at' 0x1F0 {}).value.toNat + 1) % 2 ^ 48)) ∧
  (∀ s : State,
    (s.sec.gateEnd = none → exec .debugGateTimeout s = .next s) ∧
    (∀ e, s.sec.gateEnd = some e →
      (s.runNs < e → exec .debugGateTimeout s = .next s) ∧
      (e ≤ s.runNs → s.flag Reg.SEC_DBG_OPEN = false → exec .debugGateTimeout s = .next s) ∧
      (e ≤ s.runNs → s.flag Reg.SEC_DBG_OPEN = true → ∃ t, exec .debugGateTimeout s = .next t ∧ t.flag Reg.SEC_DBG_OPEN = false ∧ t.rd Reg.SEC_DBG_CAUSE = 1 ∧ t.sec.gateEnd = none))) ∧
  (∀ (ref : CmdRef) (args : List Nat) (s : State), Admitted s 0x0E09 →
    exec (.secDbgClose ref args) s = .next ((if s.flag Reg.SEC_DBG_OPEN then { s with sec := { s.sec with gateClose := some 3 } } else s).complete (opRef ref 0x0E09) .ok))

/-- SEC_FW_WRITE stores the slot that does not run, which becomes active where it verifies and is INVALID where it does not. SEC_STATUS returns the security registers, SEC_IDENTITY the identity record with modulus and signature, both 0 of a part without keys, and SEC_ATTEST its signed report over the nonce, counted, DENIED 5 of a part without keys. -/
def Sys2Proof.Claims.FirmwareAndReportsAreSigned : Prop :=
  ∀ (ref : CmdRef) (args : List Nat) (s : State),
    let n := argN args 0
    let b := slice (argBytes args 10) 0 n
    let l := longRef ref 0x0E08
    let k := if s.rd Reg.SEC_LC_FW_SLOT = 1 then 1 else if s.rd Reg.SEC_LC_FW_SLOT = 2 then 0 else 1 - s.sys.fwActive % 2
    let v : State := { (s.accept l) with sec := if k = 0 then { s.sec with fwA := b } else { s.sec with fwB := b } }
    let head := leBytes 4 0x59444943 ++ leBytes 2 1 ++ leBytes 2 0x4830 ++ leBytes 1 (s.rd Reg.GLB_PART_ID_STEPPING) ++ List.replicate 7 0 ++ dieSerialBytes ++
      leBytes 8 (if s.keyless then 0 else s.sys.provSec) ++ List.replicate 24 0
    let signed : List Byte := beBytes 384 (Config.deviceSignature s.fresh).toNat
    let shown := s.secShow
    (n < 0x380 ∨ 0x1000000 < n ∨ 4 * (args.length - 10) < n → exec (.secFwWrite ref args) s = .next (s.complete l .invalid)) ∧
    (Admitted s 0x0E08 → 0x380 ≤ n → n ≤ 0x1000000 → n ≤ 4 * (args.length - 10) →
      (s.fwVerifies b = true → exec (.secFwWrite ref args) s = .next ((v.sysWrite (fun y => { y with fwActive := k })).complete l .ok)) ∧
      (s.fwVerifies b = false → exec (.secFwWrite ref args) s = .next (v.complete l .invalid))) ∧
    (Admitted s 0x0E01 → 44 ≤ ref.bufLen → exec (.secStatus ref args) s = .next (shown.complete (opRef ref 0x0E01) .ok 0 0
      ((([Reg.SEC_LC, Reg.SEC_FW_VER, Reg.SEC_FW_SVN, Reg.SEC_PROP, Reg.SEC_PROP_SEQ, Reg.SEC_TAMPER].map (fun d => shown.reg d)) ++ (List.range 4).map (fun j => shown.reg Reg.SEC_SERIAL [j]) ++ [shown.reg Reg.SEC_DBG]).map (leBytes 4)).flatten)) ∧
    (ref.bufLen < 44 → exec (.secStatus ref args) s = .next (s.complete (opRef ref 0x0E01) .invalid)) ∧
    (Admitted s 0x0E06 → 832 ≤ ref.bufLen →
      (s.keyless = true → exec (.secIdentity ref args) s = .next (s.complete (opRef ref 0x0E06) .ok 0 0 (head ++ List.replicate 768 0))) ∧
      (s.keyless = false → exec (.secIdentity ref args) s = .next (State.complete { s with fresh := s.fresh + 1 } (opRef ref 0x0E06) .ok 0 0 (head ++ slice s.sys.devModulus 0 384 ++ signed)))) ∧
    (ref.bufLen < 832 → exec (.secIdentity ref args) s = .next (s.complete (opRef ref 0x0E06) .invalid)) ∧
    (args.length < 8 ∨ ref.bufLen < 640 → exec (.secAttest ref args) s = .next (s.complete (opRef ref 0x0E05) .invalid)) ∧
    (8 ≤ args.length → 640 ≤ ref.bufLen →
      (s.keyless = true → exec (.secAttest ref args) s = .next (s.complete (opRef ref 0x0E05) .denied 5)) ∧
      (Admitted s 0x0E05 → s.keyless = false → exec (.secAttest ref args) s = .next ((State.count { s with fresh := s.fresh + 1 } 0x1F8).complete (opRef ref 0x0E05) .ok 0 0 (s.report640 (argBytes args 0) ++ signed)))) ∧
    (fieldLE (s.report640 (argBytes args 0)) 0 4 = 0x54544154 ∧ slice (s.report640 (argBytes args 0)) 8 32 = slice (argBytes args 0) 0 32)

/-- Proposals need two approvals of different slots, a committed change is in the system bank or waits for the mark, and tamper and time close the debug gate. A write of the system bank is in effect at once and leaves the bank that was newer. SEC_PROPOSE makes the one pending proposal, INVALID where its arguments are not in order, DENIED 5 without keys, BUSY with one pending. A first valid approval asks for a second; a bad signature, the same slot again and a condition that fails are DENIED and counted; another digest or an empty slot is INVALID, an expired proposal TIMEOUT; a second by another slot is held. SEC_CANCEL and expiry end it. A commit puts key slots and the platform record into the bank, clears the tamper latch or is ABORTED while a sensor detects, and leaves register write, transition and gate to the mark, where they act. SEC_PROVISION of a BLANK part with distinct keys fills the bank and waits for the mark; it is INVALID by its first bad argument, DENIED 5 of another state. A tamper detection latches its sensor; powered it wipes, closes the gate and ends the proposal. The gate's time closes it; SEC_DBG_CLOSE asks for the mark. SEC_FW_WRITE stores the slot that does not run, active where it verifies, INVALID else. SEC_STATUS, SEC_IDENTITY and SEC_ATTEST return their records, the latter two signed by a free value (log entry 7). -/
def Obligations.DeviceSecurityFollowsItsRows : Prop := Claims.ProposalsNeedTwoApprovals ∧ Claims.CommittedChangesAreMade ∧ Claims.TamperAndTimeCloseTheGate ∧ Claims.FirmwareAndReportsAreSigned

/-- RECORDER_APPEND appends the crossings due in ascending code order as KIND 2 records, and an epoch every code changed, in the fall-back without those that had an append in it, as KIND 1 records. The log before is a prefix of the log after, numbers follow one another, each record carries the live summary, D and LIMITED of a deferred code, and the registers show the log. In the fall-back a crossing of a code that had its append is deferred and counted; a full log drops, sets FULL and counts. -/
def Sys2Proof.Claims.AppendsFollowCrossingsAndEpochs : Prop :=
  (∀ (s : State) (e : Instr) (kind : Nat) (due : List Nat), s.recd.log.length ≤ recCapacity →
    (e = .recorderAppend ∧ kind = 2 ∧ due = sortCodes s.recd.crossing) ∨
    (e = .recorderEpoch ∧ kind = 1 ∧ due = (sortCodes s.recd.changed).filter (fun c => decide (¬(28644 < s.recd.log.length ∧ c ∈ s.recd.epochDone)))) →
    ∃ t new, exec e s = .next t ∧ t = { s with recd := t.recd, regs := t.regs, ctr := t.ctr, host := t.host } ∧
      t.recd.log = s.recd.log ++ new ∧ t.recd.log.length ≤ recCapacity ∧ t.recd.baseSeq = s.recd.baseSeq ∧ t.recd.hostCodes = s.recd.hostCodes ∧ t.recd.bad = s.recd.bad ∧
      (∀ c, c ≠ 0x3EA → c ≠ 0x3EB → t.recd.live.look c = s.recd.live.look c) ∧
      (∀ i, i < new.length → ∃ r, new[i]? = some r ∧ r.seq = (s.recd.baseSeq + s.recd.log.length + i) % 2 ^ 32 ∧ r.kind = kind ∧ r.code ∈ due ∧ r.t = s.now64 ∧
        r.limited = decide (r.code ∈ s.recd.deferred) ∧ (r.code ≠ 0x3EA → r.code ≠ 0x3EB → r.sum = s.recd.live.at' r.code {})) ∧
      (s.recd.log.length + due.length ≤ (if kind = 2 then 28645 else recCapacity) → new.map (·.code) = due ∧ t.ctr = s.ctr ∧ t.recd.live = s.recd.live ∧ (kind = 2 → t.recd.crossing = [])) ∧
      (kind = 1 → t.recd.epochDone = []) ∧
      (new ≠ [] → t.rd Reg.AGE_REC_STAT_USED = t.recd.log.length ∧ t.flag Reg.AGE_REC_STAT_LIMITED = decide (28644 < t.recd.log.length) ∧
        t.rd Reg.AGE_REC_SEQ_SEQ = (t.recd.baseSeq + t.recd.log.length) % 2 ^ 32 ∧
        (28644 < t.recd.log.length → s.flag Reg.AGE_REC_STAT_LIMITED = false → bitOf (t.rd Reg.RNG_DEV_CAUSE_CAUSE) 12 = true)) ∧
      (kind = 1 → new.map (·.code) = due.take (recCapacity - s.recd.log.length)) ∧ (due = [] → t.regs = s.regs ∧ t.host = s.host)) ∧
  (∀ (s : State) (c : Nat), s.recd.crossing = [c] → 28644 < s.recd.log.length → c ∈ s.recd.epochDone →
    exec .recorderAppend s = .next ({ s with recd := { s.recd with crossing := [], deferred := if c ∈ s.recd.deferred then s.recd.deferred else c :: s.recd.deferred } }.countLog 0x3EA c)) ∧
  (∀ (s : State) (c : Nat) (e : Instr), (e = .recorderAppend ∧ s.recd.crossing = [c]) ∨ (e = .recorderEpoch ∧ s.recd.changed = [c]) → s.recd.log.length = recCapacity → ¬c ∈ s.recd.epochDone →
    ∃ t, exec e s = .next t ∧ t.recd.log = s.recd.log ∧ t.flag Reg.AGE_REC_STAT_FULL = true ∧ t.ctr = (s.count 0x3EB).ctr ∧
      t.recd.live = (s.logEvent 0x3EB c).recd.live ∧ t = { s with recd := t.recd, regs := t.regs, ctr := t.ctr })

/-- REC_READ gives the bytes of up to 64 records from a SEQ, REC_SUMMARY those of live summaries with SEQ 0, REC_CODE_INFO the scales of codes; counts, codes, numbers before BASE_SEQ and short buffers are INVALID. REC_LOG adds one occurrence with its value to its code's summary: COUNT, MIN, MAX, the bin of the value, first and last seen; REC_CODE_SET keeps LO and SHIFT of a host code; other codes and shifts are INVALID. -/
def Sys2Proof.Claims.RecorderCommandsAnswer : Prop :=
  ∀ (ref : CmdRef) (args : List Nat) (s : State),
    let n := argN args 0
    let l := (args.drop 1).take n
    let from_ := (n + 2 ^ 32 - s.recd.baseSeq % 2 ^ 32) % 2 ^ 32
    let recs := (s.recd.log.drop from_).take (argN args 1)
    let r (op : Nat) := opRef ref op
    (argN args 1 < 1 ∨ 64 < argN args 1 → exec (.recRead ref args) s = .next (s.complete (r 0x0F10) .invalid 1)) ∧
    (1 ≤ argN args 1 → argN args 1 ≤ 64 →
      (2 ^ 31 ≤ from_ ∨ ref.bufLen < 128 * recs.length → exec (.recRead ref args) s = .next (s.complete (r 0x0F10) .invalid)) ∧
      (Admitted s 0x0F10 → from_ < 2 ^ 31 → 128 * recs.length ≤ ref.bufLen →
        exec (.recRead ref args) s = .next (s.complete (r 0x0F10) .ok 0 0 (recs.map (fun x => recordRow x.seq x.code x.kind x.limited x.sum x.t)).flatten))) ∧
    (∀ i op row, (i, op, row) ∈ [(Instr.recSummary ref args, 0x0F11, fun c => recordRow 0 c 0 false (s.recd.live.at' c {}) s.now64),
        (.recCodeInfo ref args, 0x0F15, fun c => leBytes 4 (twos 32 (codeScale s.recd c).1) ++ leBytes 4 (codeScale s.recd c).2)] →
      let size := if op = 0x0F11 then 128 else 8
      (n < 1 ∨ 64 < n ∨ args.length < n + 1 → exec i s = .next (s.complete (r op) .invalid)) ∧
      (1 ≤ n → n ≤ 64 → n + 1 ≤ args.length →
        (∀ k, firstBad (fun c => decide (c < 4096)) l = some k → exec i s = .next (s.complete (r op) .invalid k)) ∧
        ((∀ c ∈ l, c < 4096) →
          (ref.bufLen < size * n → exec i s = .next (s.complete (r op) .invalid)) ∧
          (Admitted s op → size * n ≤ ref.bufLen → exec i s = .next (s.complete (r op) .ok 0 0 (l.map row).flatten))))) ∧
    (hostCode n = false → exec (.recLog ref args) s = .next (s.complete (r 0x0F13) .invalid) ∧ exec (.recCodeSet ref args) s = .next (s.complete (r 0x0F14) .invalid)) ∧
    (hostCode n = true → Admitted s 0x0F13 → ∃ u : State, exec (.recLog ref args) s = .next (u.complete (r 0x0F13) .ok) ∧ u = { s with recd := u.recd } ∧
      (let x := s.recd.live.at' n {}
       let y := u.recd.live.at' n {}
       let v := signed 32 (argN args 1)
       let sc := s.recd.hostCodes.at' n (0, 27)
       let bin := (max 0 (min 15 ((v - sc.1) / ((2 ^ sc.2 : Nat) : Int)))).toNat
       let seen := (s.rd Reg.AGE_HOURS_OP_HOURS, s.rd Reg.AGE_PCYC_PCYCLES)
       y.count = (x.count + 1) % 2 ^ 64 ∧ y.last = seen ∧
       (x.count = 0 → y.min = v ∧ y.max = v ∧ y.first = seen) ∧ (x.count ≠ 0 → y.min = min x.min v ∧ y.max = max x.max v ∧ y.first = x.first) ∧
       y.bins.length = x.bins.length ∧ (∀ k, k < x.bins.length → y.bins.getD k 0 = if k = bin then min (x.bins.getD k 0 + 1) 0xFFFFFFFF else x.bins.getD k 0) ∧
       (isPow2 y.count = true → n ∈ u.recd.crossing) ∧ n ∈ u.recd.changed) ∧
      (∀ c, c ≠ n → u.recd.live.look c = s.recd.live.look c) ∧ u.recd.log = s.recd.log ∧ u.recd.hostCodes = s.recd.hostCodes) ∧
    (hostCode n = true → 31 < argN args 2 → exec (.recCodeSet ref args) s = .next (s.complete (r 0x0F14) .invalid 2)) ∧
    (hostCode n = true → argN args 2 ≤ 31 → Admitted s 0x0F14 → ∃ u : State, exec (.recCodeSet ref args) s = .next (u.complete (r 0x0F14) .ok) ∧
      u = { s with recd := { s.recd with hostCodes := u.recd.hostCodes } } ∧ codeScale u.recd n = (signed 32 (argN args 1), argN args 2) ∧ (∀ c, c ≠ n → codeScale u.recd c = codeScale s.recd c))

/-- Crossings and epochs append to the log in order, the fall-back defers, a full log drops, and the recorder's commands answer. RECORDER_APPEND appends the crossings due, and RECORDER_EPOCH the codes changed, in ascending code order as KIND 2 and KIND 1 records; the log before is a prefix of the log after, never beyond 32,736 records, and numbers follow one another. A record carries the live summary, D and LIMITED for a deferred code; registers show the log, and LIMITED rising is device cause 12. Above 28,644 records a crossing of a code that had its append is deferred and counted 0x3EA; a full log drops the append, sets FULL and counts 0x3EB. REC_READ, REC_SUMMARY and REC_CODE_INFO give their rows, REC_LOG adds an occurrence to its summary, REC_CODE_SET keeps a scale, each with its INVALID cases. REC_CLEAR leaves one KIND 4 record per code with COUNT above 0, numbered from where the log stood, summaries kept and FULL off. One second of operation adds 1 to OP_SEC, or carries into OP_HOURS. -/
def Obligations.RecorderKeepsItsLog : Prop :=
  Sys2Proof.Claims.AppendsFollowCrossingsAndEpochs ∧ Sys2Proof.Claims.RecorderCommandsAnswer ∧
  (∀ s : State,
    (s.rd Reg.AGE_OPSEC_OP_SEC < 3599 → exec .opSecond s = .next (s.wr Reg.AGE_OPSEC_OP_SEC (s.rd Reg.AGE_OPSEC_OP_SEC + 1))) ∧
    (3599 ≤ s.rd Reg.AGE_OPSEC_OP_SEC → ∃ t, exec .opSecond s = .next t ∧ t.rd Reg.AGE_OPSEC_OP_SEC = 0 ∧ t.rd Reg.AGE_HOURS_OP_HOURS = (s.rd Reg.AGE_HOURS_OP_HOURS + 1) % 2 ^ 32 ∧ t = { s with regs := t.regs })) ∧
  (∀ (ref : CmdRef) (args : List Nat) (s : State), Admitted s 0x0F12 → s.recd.live.length ≤ 4096 →
    let codes := (s.recd.live.filter (fun e => decide (0 < e.2.count))).map (·.1)
    ∃ u : State, exec (.recClear ref args) s = .next (u.complete (longRef ref 0x0F12) .ok) ∧ u = { (s.accept (longRef ref 0x0F12)) with recd := u.recd, regs := u.regs } ∧
      u.recd.baseSeq = (s.recd.baseSeq + s.recd.log.length) % 2 ^ 32 ∧ u.recd.log.map (·.code) = codes ∧ u.recd.live = s.recd.live ∧
      (∀ i, i < codes.length → ∃ r, u.recd.log[i]? = some r ∧ r.kind = 4 ∧ r.seq = (s.recd.baseSeq + s.recd.log.length + i) % 2 ^ 32 ∧ r.sum = s.recd.live.at' r.code {} ∧ r.t = s.now64) ∧
      u.flag Reg.AGE_REC_STAT_FULL = false ∧ u.rd Reg.AGE_REC_STAT_USED = codes.length ∧ u.flag Reg.AGE_REC_STAT_LIMITED = false)

/-- Either reset input puts the main die in reset with its cause, its blocks as at power on; the queue, banks, log, fuses, slots, tamper bits, operating time, window of a pin reset and failed lanes stay. A release acts in reset only: straps, their registers, one power cycle more of a power-on, the life-cycle state that the banks and fuses give, the platform record and the identity map; with the retention lost it shows it, takes operating time from the log and sets the tamper bit. -/
def Sys2Proof.Claims.ResetsKeepTheirDomains : Prop :=
  (∀ (s : State) (e : Instr) (c : Nat), (e, c) ∈ [(Instr.mainPowerOnReset, 0), (.porstNAssert, 1)] →
    ∃ t, exec e s = .next t ∧ t.power = { s.power with inReset := true, fw := false } ∧ t.pending = s.pending ∧ t.rd Reg.PWR_RST_CAUSE = c ∧
      t.img.run = none ∧ t.img.due = none ∧ t.img.splice = none ∧ t.img.jobs = [] ∧ t.ctr = {} ∧ t.pts = {} ∧ t.loops = [] ∧ t.axes = [] ∧ t.pgs = [] ∧ t.seqs = [] ∧ t.logics = [] ∧ t.hist = {} ∧ t.link = {} ∧
      t.fab = { failed := s.fab.failed } ∧ t.recd = { log := s.recd.log, baseSeq := s.recd.baseSeq, bad := s.recd.bad } ∧
      t.pair.bankA = s.pair.bankA ∧ t.pair.bankB = s.pair.bankB ∧ t.img.slotA = s.img.slotA ∧ t.img.slotB = s.img.slotB ∧ t.img.areaA = s.img.areaA ∧ t.img.areaB = s.img.areaB ∧
      t.sec.fuses = s.sec.fuses ∧ t.sec.bank0 = s.sec.bank0 ∧ t.sec.bank1 = s.sec.bank1 ∧ t.sec.fwA = s.sec.fwA ∧ t.sec.fwB = s.sec.fwB ∧ t.sec.tamper = s.sec.tamper ∧ t.sec.proposal = none ∧
      t.host.window = (if c = 0 then [] else s.host.window) ∧ t.host.waiting = [] ∧ t.time.run = 0 ∧ t.time.retentionSec = s.time.retentionSec ∧ t.saf.bankA = s.saf.bankA ∧ t.saf.bankB = s.saf.bankB ∧
      t.rd Reg.AGE_HOURS_OP_HOURS = s.rd Reg.AGE_HOURS_OP_HOURS ∧ t.rd Reg.AGE_OPSEC_OP_SEC = s.rd Reg.AGE_OPSEC_OP_SEC ∧ t.rd Reg.AGE_PCYC_PCYCLES = s.rd Reg.AGE_PCYC_PCYCLES) ∧
  (∀ (mgr : Bool) (pair : Fin 4) (plp pmb : Fin 8) (s : State),
    (s.power.inReset = false → exec (.resetRelease mgr pair plp pmb) s = .next s) ∧
    (s.power.inReset = true → s.sys.lc ≤ 4 → ∃ t, exec (.resetRelease mgr pair plp pmb) s = .next t ∧
      t = { s with regs := t.regs, host := t.host, recd := t.recd, sec := t.sec, pair := t.pair, time := { s.time with retentionSec := t.time.retentionSec }, power := { s.power with inReset := false, retLost := false } } ∧
      t.flag Reg.GLB_ROLE_MGR_STRAP = mgr ∧ t.rd Reg.GLB_PAIR_STRAP = pair.val ∧ t.rd Reg.GLB_PAIR_PORT = plp.val ∧
      t.flag Reg.GLB_PAIR_STRAP_ERR = decide (pair.val = 3 ∨ ((pair.val = 1 ∨ pair.val = 2) ∧ 6 ≤ plp.val)) ∧ t.rd Reg.PWR_RST_STRAP_PMB = pmb.val ∧ t.rd Reg.PWR_PMB_ADDR = 0x40 + pmb.val ∧
      (let lost := s.sysLost && s.sec.fuses.prov
       t.flag Reg.SEC_LC_SYSBANK_LOST = lost ∧ t.rd Reg.SEC_LC_STATE = if s.sec.fuses.retired || lost then 4 else if s.sysLost then 0 else s.sys.lc) ∧
      (s.sysLost = false → s.sys.lc = 4 → t.sec.fuses.retired = true) ∧
      t.sec.platform = t.sys.platform ∧ t.sec.vbatLog = false ∧ (∀ c < 64, t.rd Reg.AGE_MAP_EXEC [c] = c) ∧
      (s.power.retLost = false → t.sec.tamper = s.sec.tamper ∧ t.time.retentionSec = s.time.retentionSec ∧ t.rd Reg.AGE_HOURS_OP_HOURS = s.rd Reg.AGE_HOURS_OP_HOURS ∧
        t.rd Reg.AGE_PCYC_PCYCLES = if s.rd Reg.PWR_RST_CAUSE = 0 then (s.rd Reg.AGE_PCYC_PCYCLES + 1) % 2 ^ 32 else s.rd Reg.AGE_PCYC_PCYCLES) ∧
      (s.power.retLost = true → t.flag Reg.PWR_STAT_RET_LOST = true ∧ t.sec.tamper = 0x80000000 ∧ t.time.retentionSec = 0 ∧ t.rd Reg.AGE_OPSEC_OP_SEC = 0 ∧
        (let log := match s.recd.bad with | some k => s.recd.log.take k | none => s.recd.log
         (log = [] → t.rd Reg.AGE_HOURS_OP_HOURS = 0 ∧ t.rd Reg.AGE_PCYC_PCYCLES = 0) ∧
         (log ≠ [] → ∃ h p : Nat, (h, p) = log.foldl (fun a r => pairMax a r.sum.last) (0, 0) ∧ (∀ r ∈ log, r.sum.last.1 < h ∨ (r.sum.last.1 = h ∧ r.sum.last.2 ≤ p)) ∧
           t.rd Reg.AGE_HOURS_OP_HOURS = h % 2 ^ 32 ∧ t.rd Reg.AGE_PCYC_PCYCLES = (p + 1) % 2 ^ 32)))))

/-- Firmware starts once, out of reset: FW_ACTIVE's slot when it verifies, else the other with FALLBACK and one refusal counted, else RECOVERY with two; a start shows version and SVN, blows REVOKE0 for firmware of root 1 that asks for it, and puts one boot parse of the restart slot at the end of the parser's work. A training shows its channel when a platform record exists; supply samples show themselves. -/
def Sys2Proof.Claims.BootFollowsItsSteps : Prop :=
  (∀ s : State,
    let first := s.sys.fwActive % 2
    let ok (k : Nat) := s.fwVerifies (s.fwSlot k)
    (s.power.inReset = true ∨ s.power.fw = true → exec .firmwareStart s = .next s) ∧
    (s.power.inReset = false → s.power.fw = false →
      (∀ k fall, (k, fall) ∈ [(first, false), (1 - first, true)] → ok k = true → (fall = true → ok first = false) → ∃ t j, exec .firmwareStart s = .next t ∧
        t = { s with regs := t.regs, ctr := t.ctr, fab := t.fab, img := t.img, sec := { s.sec with fuses := t.sec.fuses, fwDigest := t.sec.fwDigest }, power := { s.power with fw := true } } ∧
        t.rd Reg.SEC_LC_FW_SLOT = k + 1 ∧ t.flag Reg.SEC_LC_FW_FALLBACK = fall ∧ t.flag Reg.SEC_LC_RECOVERY = false ∧ t.flag Reg.RNG_GLB_STAT_STW_OK = true ∧
        t.rd Reg.SEC_FW_VER_VERSION = fieldLE (s.fwSlot k) 8 4 ∧ t.rd Reg.SEC_FW_SVN_SVN = fieldLE (s.fwSlot k) 0x0C 2 ∧
        t.sec.fwDigest = sha256 (slice (s.fwSlot k) 0 (0x200 + fieldLE (s.fwSlot k) 0x10 4)) ∧ t.sec.fuses = { s.sec.fuses with revoke0 := s.sec.fuses.revoke0 || decide (fieldLE (s.fwSlot k) 7 1 = 1) } ∧
        t.ctr = (if fall then s.count 0x1F7 else s).ctr ∧
        t.img.jobs = s.img.jobs ++ [j] ∧ j.kind = .boot false ∧ j.slot = s.bootSlot ∧ j.bytes = s.img.slotBytes s.bootSlot ∧ j.ref = none) ∧
      (ok first = false → ok (1 - first) = false → ∃ t, exec .firmwareStart s = .next t ∧ t = { s with regs := t.regs, ctr := ((s.count 0x1F7).count 0x1F7).ctr } ∧
        t.flag Reg.SEC_LC_RECOVERY = true ∧ t.rd Reg.SEC_LC_FW_SLOT = 0 ∧ t.flag Reg.RNG_GLB_STAT_STW_OK = true))) ∧
  (∀ (ch : Fin 2) (gib : Fin 256) (mts : Fin 65536) (s : State),
    (s.sec.platform = [] → exec (.ddrTrainingDone ch gib mts) s = .next s) ∧
    (s.sec.platform ≠ [] → ∃ t, exec (.ddrTrainingDone ch gib mts) s = .next t ∧ t.flag Reg.DDR_STAT_TRAINED [ch.val] = true ∧ t.flag Reg.DDR_STAT_PRESENT [ch.val] = true ∧
      t.rd Reg.DDR_STAT_SIZE_GIB [ch.val] = gib.val ∧ t.rd Reg.DDR_STAT_MTS [ch.val] = mts.val ∧ t = { s with regs := t.regs })) ∧
  (∀ (v l : Bool) (s : State), exec (.retentionSwitch v l) s = .next { s with power := { s.power with onVbat := v, retLost := s.power.retLost || l } }) ∧
  (∀ (l : Bool) (s : State), ∃ t, exec (.vbatSample l) s = .next t ∧ t.flag Reg.PWR_STAT_VBAT_LOW = l ∧ t = { s with regs := t.regs })

/-- An uncorrectable error is counted, logged, latched with its memory, cell and address, and a self-diagnosis cause; then its memory and reader decide: the own engine's cycle is abandoned, points read by others are bad, a command's operation ends ABORTED, an image staged is poisoned, the secure region is wiped, a bank of MRAM is lost. -/
def Sys2Proof.Claims.ErrorsAreHandledWhereRead : Prop :=
  ∀ (mem : Fin 7) (cell : Fin 64) (addr : BitVec 37) (s : State),
    let ev := if mem.val ≤ 1 then 0x101 else 0x101 + 2 * (mem.val - 1)
    let a := addr.toNat
    ∃ t : State, exec (.eccUncorrectable mem cell addr .none_) s = .next t ∧
      t = { s with regs := t.regs, ctr := t.ctr, host := t.host, recd := t.recd, pair := t.pair, sec := t.sec, saf := t.saf } ∧
      t.rd Reg.MEM_ECC_LAST_MEMORY = mem.val ∧ t.rd Reg.MEM_ECC_LAST_CELL = (if mem.val ≤ 1 then cell.val else 0) ∧ t.flag Reg.MEM_ECC_LAST_VALID = true ∧
      t.rd64 Reg.MEM_ECC_ADDR_LO_ADDR_LO Reg.MEM_ECC_ADDR_HI_ADDR_HI = a ∧ t.pair.cause = (s.selfCause 3).pair.cause ∧
      t.ctr = (if mem.val = 3 then (s.count ev).count 0x112 else s.count ev).ctr ∧ { t.recd with bad := none } = { (s.logEvent ev).recd with bad := none } ∧
      (s.flag Reg.MEM_ECC_LAST_VALID = false → bitOf (t.rd Reg.RNG_DEV_CAUSE_CAUSE) 10 = true) ∧
      (mem.val ≠ 3 → mem.val ≠ 4 → t.sec = s.sec ∧ t.saf = s.saf ∧ t.recd.bad = s.recd.bad ∧ t.pair = (s.selfCause 3).pair) ∧
      (mem.val = 3 → t.rd Reg.MEM_SEC_STAT_CAUSE = 3 ∧ t.flag Reg.MEM_SEC_STAT_WIPING = true ∧
        (s.flag Reg.MEM_SEC_STAT_WIPING = false → t.sec = { s.sec with wipeEnd := some (s.runNs + 100000), keysAt := some (s.runNs + 50000000) } ∧
          t.rd Reg.MEM_SEC_STAT_WIPES = min (s.rd Reg.MEM_SEC_STAT_WIPES + 1) 0xFFFF) ∧
        (s.flag Reg.MEM_SEC_STAT_WIPING = true → t.sec = s.sec)) ∧
      (mem.val = 4 → (a < 0x400000 → t.pair.bankA = none) ∧ (0x400000 ≤ a → a < 0x800000 → t.pair.bankB = none) ∧
        (0x801000 ≤ a → a < 0xC00000 → t.recd.bad = some (match s.recd.bad with | some j => min j ((a - 0x801000) / 128) | none => (a - 0x801000) / 128)) ∧
        (0xC00000 ≤ a → a < 0xC40000 → t.sec = { s.sec with bank0 := none }) ∧ (0xC40000 ≤ a → a < 0xC80000 → t.sec = { s.sec with bank1 := none }) ∧
        (0xC80000 ≤ a → a < 0xC80800 → t.saf = { s.saf with bankA := none }) ∧ (0xC80800 ≤ a → a < 0xC81000 → t.saf = { s.saf with bankB := none }) ∧
        (0xC81000 ≤ a → a < 0xC81080 → (a - 0xC81000) / 64 ∈ t.saf.pwdBad ∧ t.saf.password = if 0 ∈ t.saf.pwdBad ∧ 1 ∈ t.saf.pwdBad then none else s.saf.password) ∧
        (0xC81080 ≤ a → t.sec = s.sec ∧ t.saf = s.saf ∧ t.recd.bad = s.recd.bad)) ∧
      (mem.val = 0 → ∃ u, exec (.eccUncorrectable mem cell addr .own) s = .next u ∧ u = { t with fab := u.fab } ∧ u.fab = { s.fab with cells := u.fab.cells } ∧ (u.fab.cells.at' cell.val {}).abandoned = true) ∧
      (mem.val ≠ 0 → exec (.eccUncorrectable mem cell addr .own) s = .next t) ∧
      (∀ l : List Nat, exec (.eccUncorrectable mem cell addr (.points l)) s = .next (if mem.val ≤ 1 then { t with pts := { s.pts with bad := l ++ s.pts.bad } } else t)) ∧
      (exec (.eccUncorrectable mem cell addr .staging) s = .next (if 5 ≤ mem.val then { t with img := { s.img with poisoned := true } } else t)) ∧
      (∀ ring handle : Nat,
        let hit (f : Fetched) : Bool := decide (f.ref.ring = ring ∧ f.ref.handle = handle)
        let all := s.host.steward.queue ++ s.host.waiting ++ s.host.steward.current.toList
        ((∀ f ∈ all, hit f = false) ∨ (mem.val ≠ 2 ∧ mem.val < 5) → exec (.eccUncorrectable mem cell addr (.command ring handle)) s = .next t) ∧
        (∀ f ∈ all, hit f = true → (∀ g ∈ all, hit g = true → g = f) → mem.val = 2 ∨ 5 ≤ mem.val → ∃ u : State, exec (.eccUncorrectable mem cell addr (.command ring handle)) s = .next (u.complete f.ref .aborted) ∧
          u = { t with host := { t.host with waiting := s.host.waiting.filter (fun f => !hit f)
                                             steward := { s.host.steward with queue := s.host.steward.queue.filter (fun f => !hit f), current := s.host.steward.current.filter (fun f => !hit f) } } }))

/-- A scrub step counts a correction and the end of a DDR5 pass; in forerunner mode a second correction of a segment within 24 h takes a spare row of its bank, or counts the spare as exhausted and asks for a swap-in. March segments borrow only while the test runs and the cell has sealed: a pass clears the aborts, a failure is latched, counted and logged, the 64th abort skips the segment; ends of passes answer MEM_TEST and count. A DDR5 refresh falls due, is performed by an idle controller, and waits at a busy one. -/
def Sys2Proof.Claims.MemoriesAreScrubbedTestedAndRefreshed : Prop :=
  (∀ (mem : Fin 7) (cell : Fin 64) (addr : BitVec 37) (s : State),
    let ev := if mem.val ≤ 1 then 0x100 else 0x100 + 2 * (mem.val - 1)
    exec (.scrubStep mem cell addr false false) s = .next s ∧
    (∀ c t, exec (.scrubStep mem cell addr c false) s = .next t → ∃ u, exec (.scrubStep mem cell addr c true) s = .next u ∧ u = { t with regs := u.regs } ∧
      (mem.val < 5 → u = t) ∧ (5 ≤ mem.val → u.rd Reg.DDR_SCRUB_PASSES [mem.val - 5] = (t.rd Reg.DDR_SCRUB_PASSES [mem.val - 5] + 1) % 2 ^ 32)) ∧
    (s.flag Reg.AGE_STAT_FORERUNNER = false ∨ mem.val = 1 ∨ 4 ≤ mem.val → exec (.scrubStep mem cell addr true false) s = .next (s.count ev)) ∧
    (∀ b g : Nat, s.flag Reg.AGE_STAT_FORERUNNER = true → bankSeg mem.val cell.val addr.toNat = some (b, g) →
      let k := b * 1024 + g
      let old := s.age.corrected.look k
      let used := s.sys.rows.at' b 0
      ((∀ t, old = some t → t + 86400000000000 < s.runNs) →
        exec (.scrubStep mem cell addr true false) s = .next { (s.count ev) with age := { s.age with corrected := s.age.corrected.put k s.runNs } }) ∧
      (∀ t, old = some t → s.runNs ≤ t + 86400000000000 → ∃ u : State, exec (.scrubStep mem cell addr true false) s = .next u ∧
        u = { s with regs := u.regs, sec := u.sec, ctr := u.ctr, recd := u.recd, age := u.age } ∧ u.age.corrected = s.age.corrected.drop' k ∧
        (used < 4 → u.sys = { s.sys with rows := s.sys.rows.put b (used + 1) } ∧ u.ctr = ((s.count ev).count 0x3E8).ctr ∧ u.recd = (s.logEvent 0x3E8 ((3 - used : Nat) : Int)).recd ∧
          u.rd Reg.AGE_SPARE_ROWS_MIN = u.rowsMin % 8 ∧ u.age.swapWant = s.age.swapWant) ∧
        (4 ≤ used → u.sec = s.sec ∧ u.regs = s.regs ∧ u.ctr = ((s.count ev).count 0x3E9).ctr ∧ u.recd = (s.logEvent 0x3E9 2).recd ∧
          u.age.swapWant = if b < 192 then s.age.swapWant ++ [b / 3] else s.age.swapWant)))) ∧
  (∀ (mem : Fin 3) (cell : Fin 64) (bank : Fin 8) (seg : Fin 256) (e : MarchEnd) (m p : Bool) (s : State),
    let k := (if mem.val = 0 then cell.val * 3 + bank.val else if mem.val = 1 then 192 + bank.val else 200 + bank.val) * 1024 + seg.val
    let n := s.age.aborts.at' k 0 + 1
    let go (e : MarchEnd) (m p : Bool) : Out := exec (.marchSegment mem cell bank seg e m p) s
    let running := s.flag Reg.MEM_MARCH_CTL_EN = true ∨ ∃ x ∈ s.age.memTests, x.2.1 = mem.val
    let lends := mem.val ≠ 0 ∨ (s.fab.cells.at' cell.val {}).sealed = true
    (¬running ∨ ¬lends → go e m p = .next s) ∧
    (running → lends →
      (go .passed false false = .next { s with age := { s.age with aborts := s.age.aborts.drop' k } }) ∧
      (n < 64 → go .aborted false false = .next { s with age := { s.age with aborts := s.age.aborts.put k n } }) ∧
      (64 ≤ n → go .aborted false false = .next ({ s with age := { s.age with aborts := s.age.aborts.drop' k } }.count 0x121)) ∧
      (∀ a : Nat, ∃ t : State, go (.failed a) false false = .next t ∧ t = { s with regs := t.regs, sec := t.sec, ctr := t.ctr, recd := t.recd, age := t.age } ∧
        t.flag Reg.MEM_MARCH_STAT_FAULT = true ∧ t.rd Reg.MEM_MARCH_FAIL_MEMORY = mem.val ∧ t.rd Reg.MEM_MARCH_FAIL_ADDR = (if mem.val = 0 then cell.val * 0x180000 + a else a) % 2 ^ 27 ∧
        t.age.aborts = s.age.aborts.drop' k ∧ t.age.memTests = s.age.memTests.map (fun x => if x.2.1 = mem.val ∧ x.2.2 = none then (x.1, x.2.1, some a) else x) ∧
        (s.flag Reg.AGE_STAT_FORERUNNER = false → t.ctr = (s.count 0x120).ctr ∧ t.recd = (s.logEvent 0x120).recd ∧ t.sec = s.sec) ∧
        (s.flag Reg.AGE_STAT_FORERUNNER = true → s.sys.rows.at' (k / 1024) 0 < 4 → t.sys = { s.sys with rows := s.sys.rows.put (k / 1024) (s.sys.rows.at' (k / 1024) 0 + 1) } ∧ t.ctr = ((s.count 0x120).count 0x3E8).ctr) ∧
        (s.flag Reg.AGE_STAT_FORERUNNER = true → 4 ≤ s.sys.rows.at' (k / 1024) 0 → t.ctr = ((s.count 0x120).count 0x3E9).ctr ∧ t.sec = s.sec)) ∧
      (∀ t, go e m false = .next t → ∃ u, go e m true = .next u ∧ u = { t with regs := u.regs } ∧ u.rd Reg.MEM_MARCH_STAT_PASSES = (t.rd Reg.MEM_MARCH_STAT_PASSES + 1) % 2 ^ 16) ∧
      (∀ t, go e false false = .next t →
        ((∀ x ∈ t.age.memTests, x.2.1 ≠ mem.val) → go e true false = .next t) ∧
        (∀ x, t.age.memTests.filter (fun x => decide (x.2.1 = mem.val)) = [x] →
          go e true false = .next ({ t with age := { t.age with memTests := t.age.memTests.filter (fun x => decide (x.2.1 ≠ mem.val)) } }.complete x.1 .ok 0 (x.2.2.getD 0xFFFFFFFF)))))) ∧
  (∀ (ch : Fin 2) (s : State),
    let x := s.arb (.ddr ch.val)
    let owed : State := { s with fab := { s.fab with refreshOwed := s.fab.refreshOwed.put ch.val (s.fab.refreshOwed.at' ch.val 0 + 1) } }
    let r : ArbReq := { port := .refresh, owner := .other, target := .ddr ch.val, cls := .ordinary }
    ((∃ q ∈ x.queue, q.port = .refresh ∧ q.cls = .ordinary) → exec (.ddrRefresh ch) s = .next owed) ∧
    (x = {} → ∃ t, exec (.ddrRefresh ch) s = .next t ∧ t = { s with fab := { s.fab with refreshOwed := t.fab.refreshOwed, refreshes := t.fab.refreshes, arbs := t.fab.arbs } } ∧
      t.fab.refreshOwed.at' ch.val 0 = s.fab.refreshOwed.at' ch.val 0 ∧ t.fab.refreshes.at' ch.val 0 = s.fab.refreshes.at' ch.val 0 + 1 ∧ t.arb (.ddr ch.val) = { active := some (r, false) }) ∧
    (x.active.isSome = true → x.clause = none → (∀ q ∈ x.queue, ¬(q.port = .refresh ∧ q.cls = .ordinary)) →
      ∃ t, exec (.ddrRefresh ch) s = .next t ∧ t = { owed with fab := { owed.fab with arbs := t.fab.arbs } } ∧ t.arb (.ddr ch.val) = { x with queue := x.queue ++ [r] })) ∧
  (∀ (ref : CmdRef) (args : List Nat) (s : State),
    (args.length < 1 ∨ 2 < argN args 0 → exec (.memTest ref args) s = .next (s.complete (longRef ref 0x1001) .invalid)) ∧
    (Admitted s 0x1001 → 1 ≤ args.length → argN args 0 ≤ 2 →
      exec (.memTest ref args) s = .next { (s.accept (longRef ref 0x1001)) with age := { s.age with memTests := s.age.memTests ++ [(longRef ref 0x1001, argN args 0, none)] } }))

/-- Resets keep their domains, boot follows its steps, and memories are handled on errors, scrubbed, marched and refreshed. Four claims. Both reset inputs leave the main die in reset with their cause, keeping queue, banks, log, fuses, slots and operating time; a release acts in reset only and gives straps, PCYCLES, life-cycle state and identity map, or the loss of the retained values. Firmware starts once from the first slot that verifies, else RECOVERY, its refusals counted; a training and the supply samples show themselves. An uncorrectable error is counted, logged and latched with its place; then memory and reader decide: cycle abandoned, points bad, command ABORTED, image poisoned, region wiped, bank lost. Scrubbing counts corrections and passes and, in forerunner mode, takes a spare row or asks for a swap-in; march segments pass, fail or abort, skipped at the 64th, and MEM_TEST is answered at the end of a pass; a refresh falls due, performed at once by an idle controller. Log entries 10, 23 and 27 are the model's readings of refresh order, boot order and reset domains. -/
def Obligations.ResetBootAndTheMemories : Prop :=
  Sys2Proof.Claims.ResetsKeepTheirDomains ∧ Sys2Proof.Claims.BootFollowsItsSteps ∧ Sys2Proof.Claims.ErrorsAreHandledWhereRead ∧ Sys2Proof.Claims.MemoriesAreScrubbedTestedAndRefreshed

namespace Sys2Proof.Claims

/-- A frame in an image's run that passes R321, of a station with a definition. -/
def StationFrame (s : State) (data : List Byte) (type : Nat) (d : StationDef) : Prop :=
  s.field.filterEnded = true ∧ s.img.run.isSome = true ∧ staFrameOk s.ownDev data = true ∧ s.staDef (fieldLE data 4 2) = some d ∧ fieldLE data 3 1 = type

/-- The commands that bring a station frame of a TYPE, and for an INPUT frame its FAST flag. -/
def FrameCommand (c : Fin 6 → List Byte → Instr) (type : Nat) (flag : Option Bool) : Prop :=
  (c = .stationInputFrame ∧ type = 2 ∧ flag = some false) ∨ (c = .stationFastInput ∧ type = 2 ∧ flag = some true) ∨ (c = .admitReq ∧ type = 3 ∧ flag = none) ∨ (c = .leave ∧ type = 5 ∧ flag = none)

/-- A SEQ lies after another as a signed 32-bit difference (R323). -/
def Later (seq last : Nat) : Prop := 0 < signed 32 (twos 32 ((seq : Int) - (last : Int)))

end Sys2Proof.Claims

/-- Before the filter ends a station frame is dropped and counted on its port, then without an image counted, malformed or of no defined station counted, of another type or FAST flag without effect. Of an admitted station a fragment of a later SEQ, or a new one of the last, is accepted; a duplicate sets DUP and is counted, an older one counted. An accepted block of a module without fault gives its points their values and the frame's stamp, another makes them ABSENT; fast values are held. Requests are kept whole, the latest; a refused station's equal request and an admitted one's is counted; LEAVE waits for the mark. -/
def Sys2Proof.Claims.StationFramesAreChecked : Prop :=
  (∀ (c : Fin 6 → List Byte → Instr) (type : Nat) (flag : Option Bool) (port : Fin 6) (data : List Byte) (s : State), FrameCommand c type flag →
    (s.field.filterEnded = false → ∃ t, exec (c port data) s = .next t ∧ t = { s with regs := t.regs, ctr := (s.count 0x310).ctr } ∧
      t.rd Reg.ETH_DROP_COUNT [port.val] = min (s.rd Reg.ETH_DROP_COUNT [port.val] + 1) 0xFFFFFFFF) ∧
    (s.field.filterEnded = true → s.img.run = none → exec (c port data) s = .next (s.count 0x311)) ∧
    (s.field.filterEnded = true → s.img.run.isSome = true → staFrameOk s.ownDev data = false ∨ s.staDef (fieldLE data 4 2) = none → exec (c port data) s = .next (s.count 0x314)) ∧
    (∀ (d : StationDef) (k : Nat), StationFrame s data k d → k ≠ type ∨ flag = some (!bitOf (fieldLE data 7 1) 0) → exec (c port data) s = .next s)) ∧
  (∀ (port : Fin 6) (data : List Byte) (s : State) (d : StationDef) (fast : Bool), StationFrame s data 2 d → bitOf (fieldLE data 7 1) 0 = fast →
    let x := s.sta d.station
    let seq := fieldLE data 8 4
    let frag := fieldLE data 0x14 1
    let go : Out := exec (if fast then .stationFastInput port data else .stationInputFrame port data) s
    let kept := if fast then x.fast else x.base
    let blocks := modBlocks 64 (data.drop 32)
    (x.admitted = false ∨ (fast = true ∧ d.fast = false) → go = .next s) ∧
    (x.admitted = true → (fast = true → d.fast = true) →
      (∀ l, kept.last = some l → ¬Later seq l →
        (signed 32 (twos 32 ((seq : Int) - (l : Int))) < 0 → go = .next (s.count 0x313)) ∧
        (signed 32 (twos 32 ((seq : Int) - (l : Int))) = 0 → frag ∈ kept.frags → ∃ t, go = .next t ∧ t = { s with regs := t.regs, ctr := (s.count 0x312).ctr } ∧ t.flag Reg.ETH_STA_STAT_DUP [d.station] = true)) ∧
      (∀ new : SeqCheck,
        ((kept.last = none ∨ ∃ l, kept.last = some l ∧ Later seq l) ∧ new = { last := some seq, frags := [frag] }) ∨
          (∃ l, kept.last = some l ∧ signed 32 (twos 32 ((seq : Int) - (l : Int))) = 0 ∧ frag ∉ kept.frags ∧ new = { kept with frags := frag :: kept.frags }) →
        ∃ t, go = .next t ∧ t = { s with regs := t.regs, pts := t.pts, field := { s.field with stations := t.field.stations } } ∧ (t.sta d.station).st = x.st ∧
          (∀ k, k ≠ d.station → t.sta k = s.sta k) ∧ (∀ idx, (∀ e ∈ s.staPoints d.station, e.1 ≠ idx) → t.work idx = s.work idx) ∧
          (fast = true → t.pts = s.pts ∧ (t.sta d.station).fast = new ∧ (t.sta d.station).fastFresh = true ∧ (t.sta d.station).base = x.base ∧
            (∀ b m, blocks = [b] → d.modules.find? (fun m => m.module = b.1 && m.fast) = some m → m.module ∉ x.notDriven → statusGood b.2.1 = true →
              ∀ g v, g < m.ins → b.2.2[g]? = some v → (t.sta d.station).fastIn.look (m.module * 64 + g) = some v)) ∧
          (fast = false → (t.sta d.station).base = new ∧ (t.sta d.station).fast = x.fast ∧ (x.fresh = true ∨ kept.last = none ∨ (∃ l, kept.last = some l ∧ Later seq l) → (t.sta d.station).fresh = true) ∧
            (x.st = .resync → x.firstIn = none → (t.sta d.station).firstIn = some s.time.n) ∧
            (blocks = [] → t.pts = s.pts) ∧
            (∀ b m idx p g, blocks = [b] → d.modules.find? (fun m => m.module = b.1) = some m → m.module ∉ x.notDriven → s.staPoints d.station = [(idx, p)] → (staOf p).2 = (m.module, g) →
              (statusGood b.2.1 = false → (t.work idx).absent = true ∧ (t.work idx).own = (s.work idx).own) ∧
              (∀ v, statusGood b.2.1 = true → p.output = false → g < m.ins → b.2.2[g]? = some v →
                (t.work idx).absent = false ∧ (t.work idx).dropped = false ∧ (t.work idx).own = v ∧ (t.work idx).ownTime = fieldLE data 12 8)))))) ∧
  (∀ (port : Fin 6) (data : List Byte) (s : State) (d : StationDef), StationFrame s data 3 d →
    let x := s.sta d.station
    let seq := fieldLE data 8 4
    let frag := fieldLE data 0x14 1
    let parts : Tab (List Byte) := (if x.parts.1 = seq then x.parts.2 else []).put frag (data.drop 32)
    let req := (parts.map (·.2)).flatten
    let all := ∀ i, i < fieldLE data 0x15 1 → (parts.look i).isSome = true
    ∃ t, exec (.admitReq port data) s = .next t ∧ t = { s with regs := t.regs, host := t.host, ctr := t.ctr, field := { s.field with stations := t.field.stations } } ∧ (∀ k, k ≠ d.station → t.sta k = s.sta k) ∧
      (¬all → t.sta d.station = { x with parts := (seq, parts) } ∧ t.ctr = s.ctr) ∧
      (all → x.st = .absent ∨ x.st = .waiting ∨ (x.st = .refused ∧ x.refused.map reqBlocks ≠ some (reqBlocks req)) →
        t.sta d.station = { x with parts := (0, []), lastReq := req, st := .waiting, request := req } ∧ t.ctr = s.ctr) ∧
      (all → x.admitted = true ∨ (x.st = .refused ∧ x.refused.map reqBlocks = some (reqBlocks req)) → t.sta d.station = { x with parts := (0, []), lastReq := req } ∧ t.ctr = (s.count 0x311).ctr)) ∧
  (∀ (port : Fin 6) (data : List Byte) (s : State) (d : StationDef), StationFrame s data 5 d →
    ((s.sta d.station).admitted = true → ∃ t, exec (.leave port data) s = .next t ∧ t = { s with regs := t.regs, field := { s.field with stations := t.field.stations } } ∧
      t.sta d.station = { s.sta d.station with leaving := true } ∧ (∀ k, k ≠ d.station → t.sta k = s.sta k)) ∧
    ((s.sta d.station).admitted = false → exec (.leave port data) s = .next s))

/-- A window opens only with an image in effect, the filter ended and N mod 80 = 0, and takes at most 32 waiting stations in ascending order: one with a mismatched module of policy refuse is refused and counted, another is admitted in RESYNC, its degrading modules not driven, and, where the pair state sends, answered with a GRANT. Outputs of the last cut enter the launch queue for an ONLINE station in its period; at its launch time a frame leaves, discarded when more than 1 ms late, kept before it and behind a closed gate; a frame that is enqueued more than 2 s ahead is INVALID, and one sent completes with its stamp. -/
def Sys2Proof.Claims.StationsAreAdmittedAndServed : Prop :=
  (∀ s : State,
    (s.img.run = none ∨ s.field.filterEnded = false ∨ s.time.n % 80 ≠ 0 → exec .admissionWindow s = .next s) ∧
    (s.img.run.isSome = true → s.field.filterEnded = true → s.time.n % 80 = 0 →
      let waiting := s.staDefs.filter (fun d => decide ((s.sta d.station).st = .waiting))
      let bad (d : StationDef) := d.modules.filter (reqMismatch (reqBlocks (s.sta d.station).request))
      ∃ t, exec .admissionWindow s = .next t ∧ t = { s with regs := t.regs, host := t.host, ctr := t.ctr, recd := t.recd, pts := t.pts, field := t.field } ∧ ((∀ d ∈ waiting, d.station < 512) → t.flag Reg.ETH_STA_SUM_ADMIT_OPEN = true) ∧
        (∀ k, (∀ d ∈ waiting.take 32, d.station ≠ k) → t.sta k = s.sta k) ∧
        (∀ ev, ev ≠ 0x317 → ev ≠ 0x318 → ev ≠ 0x31C → t.ctr.tab.look ev = s.ctr.tab.look ev) ∧
        ((s.staDefs.map (·.station)).Nodup → ∀ d ∈ waiting.take 32,
          ((∃ m ∈ bad d, m.policy = 0) → t.sta d.station = { s.sta d.station with st := .refused, refused := some (s.sta d.station).request, request := [] }) ∧
          ((∀ m ∈ bad d, m.policy ≠ 0) → (t.sta d.station).st = .resync ∧ (t.sta d.station).notDriven = ((bad d).filter (fun m => decide (m.policy = 1))).map (·.module) ∧ (t.sta d.station).base = {} ∧
            (t.sta d.station).fast = {} ∧ (t.sta d.station).request = [] ∧ (t.sta d.station).refused = none ∧ (t.sta d.station).firstIn = none ∧ (t.sta d.station).miss = 0)) ∧
        (∀ d, waiting = [d] → d.station < 512 →
          ((∃ m ∈ bad d, m.policy = 0) → t.ctr = (s.count 0x318).ctr ∧ t.field.sent = s.field.sent ∧ t.recd = (s.logEvent 0x318).recd) ∧
          ((∀ m ∈ bad d, m.policy ≠ 0) → t.rd Reg.ETH_STA_STAT_STATE [d.station] = 2 ∧
            (s.staSends s.time.n = false ∨ s.fab.frozen = true → t.ctr = (s.count 0x317).ctr ∧ t.field.sent = s.field.sent) ∧
            (∀ h, s.staSends s.time.n = true → s.fab.frozen = false → nextHop s.sec.platform (netPort s.sec.platform (staPort d.port)) d.ipv4 = some h →
              (s.field.hops.at' (hopKey (netPort s.sec.platform (staPort d.port)) h) {}).usable s.runNs = true → prpPair s.sec.platform (netPort s.sec.platform (staPort d.port) / 2) = false →
              t.ctr = (s.count 0x317).ctr ∧ t.field.sent = { port := netPort s.sec.platform (staPort d.port), kind := .station, prpSeq := none, data := staFrameBytes d.station s.ownDev { typ := 4, flags := 2 * b2n s.unitB, seq := s.time.n % 2 ^ 32, stamp := markStamp s.time.n, frag := 0, frags := 1, payload := leBytes 2 d.period ++ leBytes 2 d.phase ++ leBytes 2 d.holdMs ++ leBytes 2 (b2n d.fast) ++ leBytes 4 s.time.n } } :: s.field.sent))))) ∧
  (∀ (station : Fin 512) (s : State),
    let x := s.sta station.val
    let k := s.pts.cutN
    (s.staDef station.val = none → exec (.stationOutputAssembly station) s = .next s) ∧
    (∀ d, s.staDef station.val = some d →
      (x.st ≠ .online ∨ (x.firstOut = false ∧ d.due k = false) ∨ s.staSends k = false ∨ (k + 1 ≠ s.time.n ∧ k + 33 ≠ s.time.n) → exec (.stationOutputAssembly station) s = .next s) ∧
      (x.st = .online → x.firstOut = true ∨ d.due k = true → s.staSends k = true → k + 1 = s.time.n ∨ k + 33 = s.time.n →
        let parts := packBlocks ((d.modules.filter (fun m => decide (0 < m.outs ∧ m.module ∉ x.notDriven))).map (outBlock (fun idx => (s.pts.cut.at' idx {}).value) (s.staPoints d.station))) []
        ∃ (t : State) (new : List Launch), exec (.stationOutputAssembly station) s = .next t ∧ t = { s with regs := t.regs, field := { s.field with stations := t.field.stations, launches := s.field.launches ++ new } } ∧
          (t.sta station.val) = { x with firstOut := false } ∧
          new = ((List.range parts.length).zip parts).map (fun e => { port := staPort d.port, station := d.station, at_ := s.time.n * 125000 + d.launchUs * 1000, cut := k, queue := s.staQueue (staPort d.port) false, data := staFrameBytes d.station s.ownDev { typ := 1, flags := 2 * b2n s.unitB, seq := k % 2 ^ 32, stamp := markStamp k, frag := e.1, frags := parts.length, payload := e.2 } })))) ∧
  (∀ (port : Fin 6) (s : State),
    let go (enq : List LaunchDesc) : Out := exec (.launchTimeReached (.eth port) enq) s
    let now := clockNs s.time.d
    ((∀ l ∈ s.field.launches, l.port = port.val → now < l.at_) → go [] = .next s) ∧
    (∃ t, go [] = .next t ∧ (∀ l ∈ t.field.launches, l ∈ s.field.launches) ∧ (∀ l ∈ s.field.launches, l.port ≠ port.val → l ∈ t.field.launches)) ∧
    (∀ l : Launch, s.field.launches = [l] → l.port = port.val → l.at_ ≤ now →
      let rest : State := { s with field := { s.field with launches := [] } }
      let opened := s.gateOpen port.val l.queue (l.data.length + if l.ref.isSome then 0 else 46)
      (l.at_ + 1000000 < now → l.ref = none → go [] = .next (rest.count 0x31B)) ∧
      (∀ r, l.at_ + 1000000 < now → l.ref = some r → go [] = .next (rest.complete r .timeout)) ∧
      (now ≤ l.at_ + 1000000 → opened = false → go [] = .next s) ∧
      (∀ d, now ≤ l.at_ + 1000000 → opened = true → l.ref = none → s.staDef l.station = some d → go [] = .next (rest.txIp port.val d.ipv4 .station l.data)) ∧
      (∀ r, now ≤ l.at_ + 1000000 → opened = true → l.ref = some r → ptpAt (etherOf l.data).1 (etherOf l.data).2 = none → prpPair s.sec.platform (port.val / 2) = false →
        go [] = .next ({ rest with field := { rest.field with sent := { port := port.val, kind := .launched, prpSeq := none, data := l.data } :: s.field.sent } }.complete r .ok 0
          (stamp64 (latencyMove s.time.d (s.rd Reg.ETH_LAT_TX_NS [port.val] : Int)))))) ∧
    (∀ e : LaunchDesc, s.field.launches = [] →
      (now + 2000000000 < s.launchAt e.stamp → go [e] = .next (s.complete e.ref .invalid)) ∧
      (now < s.launchAt e.stamp → s.launchAt e.stamp ≤ now + 2000000000 →
        go [e] = .next { s with field := { s.field with launches := [{ port := port.val, station := 512, at_ := s.launchAt e.stamp, cut := 0, queue := e.queue.val, data := e.data, ref := some e.ref }] } }))) ∧
  (∀ (port ip : Nat) (kind : TxKind) (data : List Byte) (s : State),
    let p := netPort s.sec.platform port
    (nextHop s.sec.platform p ip = none → s.txIp port ip kind data = s.count 0x31C) ∧
    (∀ h, nextHop s.sec.platform p ip = some h →
      ((s.field.hops.at' (hopKey p h) {}).usable s.runNs = true → prpPair s.sec.platform (p / 2) = false →
        s.txIp port ip kind data = { s with field := { s.field with sent := { port := p, kind := kind, prpSeq := none, data := data } :: s.field.sent } }) ∧
      ((s.field.hops.at' (hopKey p h) {}).usable s.runNs = false → (s.txIp port ip kind data).ctr = (s.count 0x31C).ctr ∧ ((s.txIp port ip kind data).field.hops.at' (hopKey p h) {}).asked.isSome = true ∧
        (∀ f ∈ (s.txIp port ip kind data).field.sent, f ∈ s.field.sent ∨ (f.kind = .arpRequest ∧ f.data = beBytes 4 h)))))

/-- A frame addressed to another station has no effect, and one that the filter drops is counted. A frame with a PRP sequence number already seen within 400 ms is discarded and counted, another remembered. Then PTP event messages, station and ring datagrams to the port's address, ARP requests and replies and neighbour solicitations reach their handlers, and no other frame has an effect. The filter ends on six ports at once; PRP nodes send supervision on both ports with one number; ARP and neighbour discovery answer for the port's own address; a refresh asks for every wanted next hop; links show themselves. -/
def Sys2Proof.Claims.FramesReachTheirHandlers : Prop :=
  (∀ (port : Fin 6) (frame : List Byte) (s : State),
    let np := netPort s.sec.platform port.val
    let t := (etherOf frame).1
    let b := (etherOf frame).2
    let go : Out := exec (.ethFrameRx port frame) s
    let own := bitOf (fieldLE frame 0 1) 0 = true ∨ slice frame 0 6 = portMac s.sec.platform np
    let passed := s.field.filterEnded = true ∨ filterPass t b = true
    let pair := prpPair s.sec.platform (port.val / 2)
    let kept := s.field.prpSeen.filter (fun e => decide (s.runNs < e.2.2.2 + 400000000))
    let seen (q : Nat) := ∃ at_, (port.val / 2, fieldBE frame 6 6, q, at_) ∈ kept
    (¬own → go = .next s) ∧
    (own → ¬passed → ∃ u, go = .next u ∧ u = { s with regs := u.regs, ctr := (s.count 0x310).ctr } ∧ u.rd Reg.ETH_DROP_COUNT [port.val] = min (s.rd Reg.ETH_DROP_COUNT [port.val] + 1) 0xFFFFFFFF) ∧
    (own → passed →
      (∀ m, ptpOf t b = some m → go = if fieldLE m 0 1 % 16 < 4 then exec (.ptpEventRx port (Fin.ofNat 256 (fieldLE m 4 1)) (decide (fieldLE m 0 1 % 16 = 0))) s else .next s) ∧
      (∀ q, ptpOf t b = none → pair = true → prpSeqOf frame = some q → seen q → go = .next ({ s with field := { s.field with prpSeen := kept } }.count 0x319)) ∧
      (∀ s1 : State, ptpOf t b = none →
        ((pair = false ∨ prpSeqOf frame = none) ∧ s1 = s) ∨ (∃ q, pair = true ∧ prpSeqOf frame = some q ∧ ¬seen q ∧ s1 = { s with field := { s.field with prpSeen := (port.val / 2, fieldBE frame 6 6, q, s.runNs) :: kept } }) →
        (∀ src dst sp dp x, udp4Of t b = some (src, dst, sp, dp, x) →
          let sta := match s.staSec with | some y => y.udp | none => 47830
          (portPrefix s.sec.platform np = 0 ∨ dst ≠ portIp s.sec.platform np ∨ (dp ≠ sta ∧ dp ≠ s.ringUdp) → go = .next s1) ∧
          (portPrefix s.sec.platform np ≠ 0 → dst = portIp s.sec.platform np → dp = sta →
            go = exec (if fieldLE x 3 1 = 3 then .admitReq port x else if fieldLE x 3 1 = 5 then .leave port x else if bitOf (fieldLE x 7 1) 0 then .stationFastInput port x else .stationInputFrame port x) s1) ∧
          (portPrefix s.sec.platform np ≠ 0 → dst = portIp s.sec.platform np → dp = s.ringUdp → dp ≠ sta → go = .next (s1.ringDgram (fieldLE x 3 1) port.val (BitVec.ofNat 32 src) dp x))) ∧
        (udp4Of t b = none →
          (t = 0x0806 → fieldBE b 6 2 = 1 → go = exec (.arpRequest port (BitVec.ofNat 32 (fieldBE b 24 4))) s1) ∧
          (t = 0x0806 → fieldBE b 6 2 = 2 → go = .next (if (s.field.hops.look (hopKey np (fieldBE b 14 4))).isSome then { s1 with field := { s1.field with hops := s.field.hops.put (hopKey np (fieldBE b 14 4)) { mac := fieldLE b 8 6, resolved := true, asked := none } } } else s1)) ∧
          (t = 0x0806 → fieldBE b 6 2 ≠ 1 → fieldBE b 6 2 ≠ 2 → go = .next s1) ∧
          (t ≠ 0x0806 → go = if icmp6Of t b = some 135 then exec (.neighborSolicitation port (slice b 48 16)) s1 else .next s1))))) ∧
  (∀ s : State, ∃ t, exec .startupFilterEnd s = .next t ∧ t = { s with regs := t.regs, field := { s.field with filterEnded := true } } ∧ ∀ p < 6, t.flag Reg.ETH_PORT_CFG_FILTER [p] = false) ∧
  (∀ (pair : Fin 3) (s : State),
    (prpPair s.sec.platform pair.val = false → exec (.prpSupervision pair) s = .next s) ∧
    (prpPair s.sec.platform pair.val = true →
      let n := s.field.prpSeq.at' pair.val 0
      let f (port : Nat) : TxFrame := { port := port, kind := .supervision, prpSeq := some n, data := portMac s.sec.platform (2 * pair.val) }
      exec (.prpSupervision pair) s = .next { s with field := { s.field with prpSeq := s.field.prpSeq.put pair.val ((n + 1) % 65536), sent := f (2 * pair.val + 1) :: f (2 * pair.val) :: s.field.sent } })) ∧
  (∀ (port : Fin 6) (ip : Word) (addr : List Byte) (s : State),
    let p := netPort s.sec.platform port.val
    let mac := portMac s.sec.platform p
    exec (.arpRequest port ip) s = .next (if portPrefix s.sec.platform p ≠ 0 ∧ portIp s.sec.platform p = ip.toNat then s.tx p .arpReply (mac ++ beBytes 4 ip.toNat) else s) ∧
    exec (.neighborSolicitation port addr) s = .next (if s.sec.platform ≠ [] ∧ addr = linkLocal s.sec.platform p then s.tx p .neighbourAdvert (mac ++ addr) else s)) ∧
  (∀ s : State, ∃ t, exec .arpRefresh s = .next t ∧ t = { s with field := { s.field with hops := t.field.hops, sent := t.field.sent, prpSeq := t.field.prpSeq } } ∧
    (∀ e ∈ s.wantedHops, (t.field.hops.at' (hopKey e.1 e.2) {}).asked = some ((s.field.hops.at' (hopKey e.1 e.2) {}).asked.getD s.runNs)) ∧
    (∀ f ∈ t.field.sent, f ∈ s.field.sent ∨ ∃ e ∈ s.wantedHops, f.kind = .arpRequest ∧ f.data = beBytes 4 e.2)) ∧
  (∀ (port : Fin 6) (speed : Fin 4) (s : State), ∃ t, exec (.ethLinkChange port speed) s = .next t ∧ t.flag Reg.ETH_PORT_CFG_LINK [port.val] = decide (speed.val ≠ 0) ∧
    t.rd Reg.ETH_PORT_CFG_SPEED [port.val] = speed.val ∧ t = { s with regs := t.regs })

/-- STATION_READ gives the status word and the 64 module STATUS bytes of each station asked, ETH_READ the port registers, latencies and drop counts of six ports and ETH_STA_SUM; counts, numbers and buffers are checked. STATION_DROP of a station that is present waits for the next base mark, of an absent one or one without a definition is ABSENT. -/
def Sys2Proof.Claims.StationCommandsAnswer : Prop :=
  ∀ (ref : CmdRef) (args : List Nat) (s : State),
    let n := argN args 0
    let l := (args.drop 1).take n
    let x := s.sta n
    (n < 1 ∨ 64 < n ∨ args.length < n + 1 → exec (.stationRead ref args) s = .next (s.complete (opRef ref 0x0901) .invalid)) ∧
    (1 ≤ n → n ≤ 64 → n + 1 ≤ args.length →
      (∀ k, firstBad (fun i => decide (i < 512)) l = some k → exec (.stationRead ref args) s = .next (s.complete (opRef ref 0x0901) .invalid k)) ∧
      ((∀ i ∈ l, i < 512) →
        (ref.bufLen < 68 * n → exec (.stationRead ref args) s = .next (s.complete (opRef ref 0x0901) .invalid)) ∧
        (Admitted s 0x0901 → 68 * n ≤ ref.bufLen → exec (.stationRead ref args) s = .next (s.complete (opRef ref 0x0901) .ok 0 0
          ((l.map (fun i => leBytes 4 (s.reg Reg.ETH_STA_STAT [i]) ++ (List.range 64).map (fun m => BitVec.ofNat 8 ((s.sta i).status.at' m 0)))).flatten))))) ∧
    (args.length < 1 ∨ 512 ≤ n → exec (.stationDrop ref args) s = .next (s.complete (opRef ref 0x0902) .invalid)) ∧
    (1 ≤ args.length → n < 512 →
      (s.staDef n = none ∨ x.st = .absent → exec (.stationDrop ref args) s = .next (s.complete (opRef ref 0x0902) .absent)) ∧
      (Admitted s 0x0902 → (s.staDef n).isSome = true → x.st ≠ .absent → ∃ t, exec (.stationDrop ref args) s = .next t ∧ t = { s with regs := t.regs, field := { s.field with stations := t.field.stations } } ∧
        t.sta n = { x with leaving := true, dropRefs := x.dropRefs ++ [opRef ref 0x0902] } ∧ ∀ k, k ≠ n → t.sta k = s.sta k)) ∧
    (ref.bufLen < 76 → exec (.ethRead ref args) s = .next (s.complete (opRef ref 0x0906) .invalid)) ∧
    (Admitted s 0x0906 → 76 ≤ ref.bufLen → exec (.ethRead ref args) s = .next (s.complete (opRef ref 0x0906) .ok 0 0
      (((List.range 6).map (fun p => leBytes 4 (setBits (s.reg Reg.ETH_PORT_CFG [p]) 17 16 (if prpPair s.sec.platform (p / 2) then 1 + p % 2 else 0)) ++ leBytes 4 (s.reg Reg.ETH_LAT [p]) ++ leBytes 4 (s.reg Reg.ETH_DROP [p]))).flatten ++
        leBytes 4 (s.reg Reg.ETH_STA_SUM))))

/-- Station frames are filtered, checked and applied, stations admitted and served in their windows, frames reach their handlers, commands answer. Four claims. A station frame is dropped by the filter, without an image, malformed or of no defined station, each counted; of an admitted station a fragment with a later SEQ, or a new fragment of the last, is accepted and its module blocks give points their values or make them ABSENT, a duplicate sets DUP, an older one is counted; requests are kept whole, LEAVE waits. An admission window takes at most 32 waiting stations, refusing or admitting each by its comparison, with a GRANT; outputs of the last cut are launched in the station's period, late frames discarded, gates obeyed; descriptors complete with their stamp, TIMEOUT or INVALID; a datagram without a next hop is counted and asked for. Received frames reach the PTP, station, ring, ARP and neighbour handlers, PRP duplicates discarded. STATION_READ, STATION_DROP and ETH_READ answer or refuse. Log entry 12 gives what a launch descriptor holds. -/
def Obligations.StationsAndEthernetPortsAct : Prop :=
  Sys2Proof.Claims.StationFramesAreChecked ∧ Sys2Proof.Claims.StationsAreAdmittedAndServed ∧ Sys2Proof.Claims.FramesReachTheirHandlers ∧ Sys2Proof.Claims.StationCommandsAnswer

namespace Sys2Proof.Claims

/-- A bus of the running image with its record, not in bus-off. -/
def LiveBus (s : State) (b : Fin 8) (x : CanSec) (d : CanBusDef) : Prop := s.canBus b.val = some (x, d) ∧ s.rd Reg.CAN_STAT_MODE [b.val] ≠ 3

end Sys2Proof.Claims

/-- A frame lost to a full buffer sets OVR and is counted; a disabled bus or one in bus-off takes none. A received frame lowers the receive error count and writes each word bound to a receive frame of its identifier and long enough, with the stamp of D at its start of frame; other points stay. A frame with a launch time waits for it, is INVALID more than 2 s ahead, TIMEOUT more than 1 ms late, ABORTED in bus-off; eligible ones go by launch time, then identifier, on an event-driven bus, and join the queue of a time-triggered one. An exclusive window sends its frame of the basic cycle, an arbitrating window queued frames, a free window none. -/
def Sys2Proof.Claims.CanFramesComeAndGo : Prop :=
  (∀ (bus : Fin 8) (id : Nat) (data : List Byte) (ago : Nat) (s : State),
    let b := bus.val
    let at_ := (clockNs s.time.d * 2 ^ 32 + s.time.d.frac - s.time.e * ago) / 2 ^ 32
    let sof := (at_ / 1000000000 % 2 ^ 34) * 2 ^ 30 + at_ % 1000000000
    (∃ t, exec (.canFrameRx bus id data ago true) s = .next t ∧ t = { s with regs := t.regs, ctr := (s.count 0x30A).ctr } ∧ t.flag Reg.CAN_ERR_OVR [b] = true) ∧
    (s.rd Reg.CAN_STAT_MODE [b] = 0 ∨ s.rd Reg.CAN_STAT_MODE [b] = 3 → exec (.canFrameRx bus id data ago false) s = .next s) ∧
    (s.rd Reg.CAN_STAT_MODE [b] ≠ 0 → s.rd Reg.CAN_STAT_MODE [b] ≠ 3 → ∃ t, exec (.canFrameRx bus id data ago false) s = .next t ∧ t = { s with regs := t.regs, pts := t.pts } ∧
      t.rd Reg.CAN_STAT_REC [b] = s.rd Reg.CAN_STAT_REC [b] - 1 ∧ (s.canBus b = none → t.pts = s.pts) ∧
      (∀ (x : CanSec) (d : CanBusDef) (i : Img), s.canBus b = some (x, d) → s.img.run = some i →
        let takes (e : Nat × PointDef) : Prop := e.2.ownerKind = 3 ∧ (canOf e.2).1 = b ∧ 4 * (canOf e.2).2.2 + 4 ≤ data.length ∧ ∃ f, (x.framesOf d)[(canOf e.2).2.1]? = some f ∧ f.transmit = false ∧ f.id = id
        (∀ idx, (∀ e ∈ i.points, e.1 = idx → ¬takes e) → t.work idx = s.work idx) ∧
        ((i.points.map (·.1)).Nodup → ∀ e ∈ i.points, takes e → (t.work e.1).own = wordLE data (4 * (canOf e.2).2.2) ∧ (t.work e.1).ownTime = sof ∧ (t.work e.1).written = true)))) ∧
  (∀ (bus : Fin 8) (s : State),
    let b := bus.val
    let x := s.field.can.at' b {}
    let go (enq : List LaunchDesc) : Out := exec (.launchTimeReached (.can bus) enq) s
    let now := clockNs s.time.d
    let timed := ∃ c d, s.canBus b = some (c, d) ∧ d.mode = 2
    (∀ f : CanQueued, ∀ r at_, x.launches = [f] → f.launch = some (r, at_) →
      let gone : State := { s with field := { s.field with can := s.field.can.put b { x with launches := [] } } }
      (s.rd Reg.CAN_STAT_MODE [b] = 3 → x.queue = [] → go [] = .next (gone.complete r .aborted)) ∧
      (s.rd Reg.CAN_STAT_MODE [b] ≠ 3 →
        (at_ + 1000000 < now → go [] = .next (gone.complete r .timeout)) ∧
        (now ≤ at_ + 1000000 → now < at_ ∨ s.canLive b = false → ∃ t, go [] = .next t ∧ t = { s with field := { s.field with can := t.field.can } } ∧ ∀ k, t.field.can.at' k {} = s.field.can.at' k {}) ∧
        (now ≤ at_ + 1000000 → at_ ≤ now → s.canLive b = true →
          (¬timed → ∃ u : State, go [] = .next (u.complete r .ok 0 s.now64) ∧ u = { s with field := { s.field with can := u.field.can } } ∧ u.field.can.at' b {} = { x with launches := [], sent := (f.id, f.data) :: x.sent }) ∧
          (timed → ∃ t, go [] = .next t ∧ t = { s with field := { s.field with can := t.field.can } } ∧ t.field.can.at' b {} = { x with launches := [], queue := x.queue ++ [f] })))) ∧
    (∀ (f g : CanQueued) (rf rg : CmdRef) (tf tg : Nat), x.launches = [f, g] → f.launch = some (rf, tf) → g.launch = some (rg, tg) → tf ≤ now → tg ≤ now → now ≤ tf + 1000000 → now ≤ tg + 1000000 →
      s.rd Reg.CAN_STAT_MODE [b] = 2 → s.canSends = true → ¬timed →
      let first := tf < tg ∨ (tf = tg ∧ f.id % 2 ^ 29 ≤ g.id % 2 ^ 29)
      ∃ t, go [] = .next t ∧ (t.field.can.at' b {}).launches = [] ∧
        (first → (t.field.can.at' b {}).sent = (g.id, g.data) :: (f.id, f.data) :: x.sent) ∧ (¬first → (t.field.can.at' b {}).sent = (f.id, f.data) :: (g.id, g.data) :: x.sent)) ∧
    (∀ e : LaunchDesc, x.launches = [] → s.rd Reg.CAN_STAT_MODE [b] ≠ 3 → now < s.launchAt e.stamp →
      (now + 2000000000 < s.launchAt e.stamp → ∃ u : State, go [e] = .next (u.complete e.ref .invalid) ∧ u = { s with field := { s.field with can := u.field.can } } ∧ ∀ k, u.field.can.at' k {} = s.field.can.at' k {}) ∧
      (s.launchAt e.stamp ≤ now + 2000000000 → ∃ t, go [e] = .next t ∧ t = { s with field := { s.field with can := t.field.can } } ∧
        t.field.can.at' b {} = { x with launches := [{ id := e.id, data := e.data, launch := some (e.ref, s.launchAt e.stamp) }] }))) ∧
  (∀ (bus : Fin 8) (window won : Nat) (s : State),
    let b := bus.val
    let x := s.field.can.at' b {}
    let go : Out := exec (.canWindowStart bus window won) s
    (s.canBus b = none → go = .next s) ∧
    (∀ c d, s.canBus b = some (c, d) →
      (d.mode ≠ 2 ∨ (c.winsOf d)[window]? = none → go = .next s) ∧
      (∀ w, d.mode = 2 → (c.winsOf d)[window]? = some w →
        (2 ≤ w.type ∨ (w.type = 1 ∧ (s.canLive b = false ∨ s.rd Reg.CAN_STAT_TT [b] = 3)) → go = .next s) ∧
        (w.type = 1 → s.canLive b = true → s.rd Reg.CAN_STAT_TT [b] ≠ 3 →
          ((∀ f ∈ x.queue, f.launch = none) → ∃ t, go = .next t ∧ t = { s with field := { s.field with can := t.field.can } } ∧
            t.field.can.at' b {} = { x with queue := x.queue.drop won, sent := ((x.queue.take won).map (fun f => (f.id, f.data))).reverse ++ x.sent }) ∧
          (∀ f r at_, x.queue = [f] → f.launch = some (r, at_) →
            (at_ + 1000000 < clockNs s.time.d → ∃ u : State, go = .next (u.complete r .timeout) ∧ (u.field.can.at' b {}).queue = [] ∧ (u.field.can.at' b {}).sent = x.sent) ∧
            (clockNs s.time.d ≤ at_ + 1000000 → 1 ≤ won → ∃ u : State, go = .next (u.complete r .ok 0 s.now64) ∧ (u.field.can.at' b {}).queue = [] ∧ (u.field.can.at' b {}).sent = (f.id, f.data) :: x.sent))) ∧
        (w.type = 0 → ∃ t, go = .next t ∧ t = { s with regs := t.regs, ctr := t.ctr, field := { s.field with can := t.field.can } } ∧
          (∀ k, k ≠ b → t.field.can.at' k {} = s.field.can.at' k {}) ∧
          ((∀ f ∈ c.framesOf d, ¬(f.transmit = true ∧ f.win = window ∧ s.rd Reg.CAN_STAT_CYCLE [b] % f.repeat_ = f.cycBase)) → t = s) ∧
          (∀ f, c.framesOf d = [f] → f.transmit = true → f.win = window → s.rd Reg.CAN_STAT_CYCLE [b] % f.repeat_ = f.cycBase →
            (s.rd Reg.CAN_STAT_MODE [b] = 3 → t.ctr = (s.count 0x308).ctr ∧ t.flag Reg.CAN_ERR_TX_MISS [b] = true ∧ t.field = s.field) ∧
            (s.rd Reg.CAN_STAT_MODE [b] ≠ 3 → s.canLive b = false ∨ s.rd Reg.CAN_STAT_TT [b] = 3 → t = s) ∧
            (s.canLive b = true → s.rd Reg.CAN_STAT_TT [b] ≠ 3 → t.ctr = s.ctr ∧ t.regs = s.regs ∧ t.field.can.at' b {} = { x with sent := (f.id, s.canData c d.firstFrame f) :: x.sent }))))))

/-- A reference makes a slave that follows its master and cycle count; the current master gives way only to a lower identifier. Without one a slave counts the loss and shows REF_LOST, and a potential master sends its own reference; a current master sends it at its marks with the count of N. Errors raise the counts, and past 255 the bus is off, its frames with launch times ABORTED; recovery clears both counts, and a time-triggered bus waits for a reference. -/
def Sys2Proof.Claims.CanBusesFollowReferencesAndErrors : Prop :=
  (∀ (bus prio : Fin 8) (cycle : Fin 64) (s : State),
    let b := bus.val
    let go : Out := exec (.canReferenceRx bus prio cycle) s
    (s.canBus b = none → go = .next s) ∧
    (∀ x d, s.canBus b = some (x, d) →
      (d.mode ≠ 2 ∨ s.rd Reg.CAN_STAT_MODE [b] = 3 → go = .next s) ∧
      (LiveBus s bus x d → d.mode = 2 → ∃ t, go = .next t ∧ t = { s with regs := t.regs } ∧ t.rd Reg.CAN_STAT_REC [b] = s.rd Reg.CAN_STAT_REC [b] - 1 ∧ t.rd Reg.CAN_STAT_MODE [b] = s.rd Reg.CAN_STAT_MODE [b] ∧
        (s.rd Reg.CAN_STAT_TT [b] ≠ 2 ∨ prio.val ≤ d.ttPrio → t.rd Reg.CAN_STAT_TT [b] = 1 ∧ t.rd Reg.CAN_STAT_MASTER [b] = prio.val ∧ t.rd Reg.CAN_STAT_CYCLE [b] = cycle.val) ∧
        (s.rd Reg.CAN_STAT_TT [b] = 2 → d.ttPrio < prio.val → t.rd Reg.CAN_STAT_TT [b] = 2 ∧ t.rd Reg.CAN_STAT_MASTER [b] = s.rd Reg.CAN_STAT_MASTER [b] ∧ t.rd Reg.CAN_STAT_CYCLE [b] = s.rd Reg.CAN_STAT_CYCLE [b])))) ∧
  (∀ (bus : Fin 8) (s : State),
    let b := bus.val
    let x := s.field.can.at' b {}
    let tt := s.rd Reg.CAN_STAT_TT [b]
    let sends (d : CanBusDef) (t : State) : Prop := let c := (s.time.n / d.bcBase) % d.cycles
      t.rd Reg.CAN_STAT_CYCLE [b] = c % 64 ∧ t.rd Reg.CAN_STAT_MASTER [b] = d.ttPrio ∧ t.rd Reg.CAN_STAT_TT [b] = 2 ∧ t.field.can.at' b {} = { x with sent := (d.refId + d.ttPrio, [BitVec.ofNat 8 c]) :: x.sent }
    (s.canBus b = none → exec (.canRefTimeout bus) s = .next s ∧ exec (.canReferenceSend bus) s = .next s) ∧
    (∀ c d, s.canBus b = some (c, d) →
      (d.mode ≠ 2 ∨ tt = 2 ∨ s.rd Reg.CAN_STAT_MODE [b] = 3 → exec (.canRefTimeout bus) s = .next s) ∧
      (d.mode = 2 → tt ≠ 2 → s.rd Reg.CAN_STAT_MODE [b] ≠ 3 → ∃ t, exec (.canRefTimeout bus) s = .next t ∧ t = { s with regs := t.regs, host := t.host, ctr := t.ctr, field := { s.field with can := t.field.can } } ∧
        (tt = 1 → t.ctr = (s.count 0x309).ctr ∧ t.flag Reg.CAN_ERR_REF_LOST [b] = true ∧ bitOf (t.rd Reg.RNG_DEV_CAUSE_CAUSE) 14 = true) ∧
        (tt ≠ 1 → t.ctr = s.ctr ∧ t.host = s.host) ∧
        (7 < d.ttPrio ∨ s.canLive b = false → t.field = s.field ∧ (tt = 1 → t.rd Reg.CAN_STAT_TT [b] = 3) ∧ (tt ≠ 1 → t = s)) ∧
        (d.ttPrio ≤ 7 → s.canLive b = true → sends d t)) ∧
      (d.mode ≠ 2 ∨ tt ≠ 2 ∨ s.canLive b = false ∨ s.time.n % d.bcBase ≠ 0 → exec (.canReferenceSend bus) s = .next s) ∧
      (d.mode = 2 → tt = 2 → d.ttPrio ≤ 7 → s.canLive b = true → s.time.n % d.bcBase = 0 →
        ∃ t, exec (.canReferenceSend bus) s = .next t ∧ t = { s with regs := t.regs, field := { s.field with can := t.field.can } } ∧ sends d t))) ∧
  (∀ (bus : Fin 8) (p q : Nat) (s : State),
    let b := bus.val
    let x := s.field.can.at' b {}
    let tec := s.rd Reg.CAN_STAT_TEC [b] + p
    (s.rd Reg.CAN_STAT_MODE [b] = 0 ∨ s.rd Reg.CAN_STAT_MODE [b] = 3 → exec (.canBusError bus p q) s = .next s) ∧
    (s.rd Reg.CAN_STAT_MODE [b] ≠ 0 → s.rd Reg.CAN_STAT_MODE [b] ≠ 3 → ∃ t, exec (.canBusError bus p q) s = .next t ∧ t.rd Reg.CAN_STAT_TEC [b] = min tec 255 ∧
      t.rd Reg.CAN_STAT_REC [b] = min (s.rd Reg.CAN_STAT_REC [b] + q) 255 ∧
      (tec ≤ 255 → t = { s with regs := t.regs } ∧ t.rd Reg.CAN_STAT_MODE [b] = s.rd Reg.CAN_STAT_MODE [b]) ∧
      (255 < tec → t = { s with regs := t.regs, host := t.host, ctr := (s.count (0x300 + b)).ctr, field := { s.field with can := t.field.can } } ∧ t.rd Reg.CAN_STAT_MODE [b] = 3 ∧ t.flag Reg.CAN_ERR_BUSOFF [b] = true ∧
        t.rd Reg.CAN_ERR_BUSOFF_CNT [b] = min (s.rd Reg.CAN_ERR_BUSOFF_CNT [b] + 1) 0xFFFF ∧ bitOf (t.rd Reg.RNG_DEV_CAUSE_CAUSE) 14 = true ∧
        t.field.can.at' b {} = { x with launches := [], queue := x.queue.filter (fun f => decide (f.launch = none)) } ∧
        (∀ f r at_, x.launches ++ x.queue = [f] → f.launch = some (r, at_) → ∃ u : State, t = (u.complete r .aborted).cause 14 ∧ u.host = s.host))))  ∧
  (∀ (bus : Fin 8) (s : State),
    let b := bus.val
    (s.rd Reg.CAN_STAT_MODE [b] ≠ 3 → exec (.canBusoffRecovery bus) s = .next s) ∧
    (s.rd Reg.CAN_STAT_MODE [b] = 3 → ∃ t, exec (.canBusoffRecovery bus) s = .next t ∧ t = { s with regs := t.regs } ∧ t.rd Reg.CAN_STAT_TEC [b] = 0 ∧ t.rd Reg.CAN_STAT_REC [b] = 0 ∧
      (s.canBus b = none → t.rd Reg.CAN_STAT_MODE [b] = 1) ∧
      (∀ x d, s.canBus b = some (x, d) → t.rd Reg.CAN_STAT_TT [b] = (if d.mode = 2 then 3 else 0) ∧
        t.rd Reg.CAN_STAT_MODE [b] = if d.mode = 0 then 0 else if s.canSends = true ∨ s.fab.frozen = true then 2 else 1)))

/-- Every local expectation is reread: its mismatch bit is set unless a valid record of its vendor and type was read, a record that fails is counted, a valid one kept; a change of the bit or a replacement is logged. IDENT_READ gives a local record, or a station module's block of its last request; a stretch is TIMEOUT, what fails its check ABSENT, both counted, and arguments and buffers are checked. IDENT_SCAN rereads all, CAN_READ gives both registers of eight buses. -/
def Sys2Proof.Claims.IdentityMemoriesAreCompared : Prop :=
  (∀ (reads : List (Nat × List Byte)) (s : State),
    let read (k : Nat) : List Byte := match reads.find? (fun r => r.1 = k) with | some r => r.2 | none => []
    (s.img.run = none → exec (.identReread reads) s = .next s) ∧
    (∀ i : Img, s.img.run = some i → ∃ t, exec (.identReread reads) s = .next t ∧ t = { s with regs := t.regs, ctr := t.ctr, recd := t.recd, field := { s.field with idents := t.field.idents } } ∧
      (∀ ev, ev ≠ 0x320 → t.ctr.tab.look ev = s.ctr.tab.look ev) ∧ (∀ k, i.idents.length ≤ k → t.field.idents.look k = s.field.idents.look k) ∧
      (∀ k d, i.idents[k]? = some d → t.identMis k = !identMatches d (read k) ∧ t.field.idents.look k = if identValid (read k) = true then some (read k) else s.field.idents.look k) ∧
      (∀ d, i.idents = [d] → t.ctr = (if identValid (read 0) = true then s else s.count 0x320).ctr ∧
        (let replaced := identMatches d (read 0) = true ∧ ∃ o, s.field.idents.look 0 = some o ∧ identMatches d o = true ∧ slice o 0x0C 16 ≠ slice (read 0) 0x0C 16
         (s.identMis 0 = identMatches d (read 0) ∨ replaced → t.recd = (s.logEvent 0x40F).recd) ∧ (s.identMis 0 ≠ identMatches d (read 0) → ¬replaced → t.recd = s.recd))))) ∧
  (∀ (ref : CmdRef) (args : List Nat) (mem : List Byte) (stretch : Bool) (reads : List (Nat × List Byte)) (s : State),
    let r := longRef ref 0x0903
    let s0 := s.stwDone ref
    let a := s0.accept r
    let station := argN args 0 = 1
    let go : Out := exec (.identRead ref args mem stretch) s
    let good := 3 ≤ args.length ∧ argN args 0 ≤ 1 ∧ (station → argN args 1 < 512 ∧ argN args 2 < 64) ∧ (¬station → argN args 1 < 4 ∧ argN args 2 < 128) ∧ (if station then 36 else 256) ≤ ref.bufLen
    (¬good → go = .next (s0.complete r .invalid)) ∧
    (Admitted s 0x0903 → good →
      (station → go = .next (match (reqBlocks (s.sta (argN args 1)).lastReq).look (argN args 2) with | some b => a.complete r .ok 0 0 b | none => a.complete r .absent)) ∧
      (¬station → go = .next (if stretch then (a.count 0x320).complete r .timeout else if identValid mem then a.complete r .ok 0 0 mem else (a.count 0x320).complete r .absent))) ∧
    (Admitted s 0x0904 → ∃ u : State, exec (.identScan ref args reads) s = .next (u.complete (longRef ref 0x0904) .ok) ∧ exec (.identReread reads) (s0.accept (longRef ref 0x0904)) = .next u)) ∧
  (∀ (ref : CmdRef) (args : List Nat) (s : State),
    (ref.bufLen < 64 → exec (.canRead ref args) s = .next (s.complete (opRef ref 0x0905) .invalid)) ∧
    (Admitted s 0x0905 → 64 ≤ ref.bufLen → exec (.canRead ref args) s = .next (s.complete (opRef ref 0x0905) .ok 0 0
      (((List.range 8).map (fun b => leBytes 4 (s.reg Reg.CAN_STAT [b]) ++ leBytes 4 (s.reg Reg.CAN_ERR [b]))).flatten))))

/-- CAN controllers receive, launch, send in windows, follow references, fail and recover, and identity memories are compared. Three claims. A lost frame sets OVR and is counted; a received frame writes the words bound to receive frames of its identifier with its start-of-frame stamp, and no other point. Frames with a launch time go by launch time and identifier when D reaches it, or complete INVALID, TIMEOUT or ABORTED; a time-triggered bus holds them for arbitrating windows. Exclusive windows send the frame of the basic cycle, free windows none. A valid reference makes a slave, and the current master gives way only to a lower identifier; without one a slave loses its reference and a potential master sends its own; a master sends at its marks with the count of N. Errors raise the counts and past 255 take the bus off; recovery clears both. Every expectation is reread, its mismatch bit and record following, changes logged. IDENT_READ, IDENT_SCAN and CAN_READ answer or refuse. The error counts' steps of ISO 11898-1 are operands, outside the spec. -/
def Obligations.CanBusesAndIdentityMemoriesAct : Prop :=
  Sys2Proof.Claims.CanFramesComeAndGo ∧ Sys2Proof.Claims.CanBusesFollowReferencesAndErrors ∧ Sys2Proof.Claims.IdentityMemoriesAreCompared

namespace Sys2Proof.Claims

/-- Every code changed since its last append is appended with a KIND, in ascending code order, as far as the log has room (R528, R529). -/
def AllAppended (s t : State) (kind : Nat) : Prop :=
  ∃ new, t.recd.log = s.recd.log ++ new ∧ new.map (·.code) = (sortCodes s.recd.changed).take (recCapacity - s.recd.log.length) ∧ ∀ r ∈ new, r.kind = kind

/-- A write of a KIND of the last cut starts into the bank that is not the newer, whose COMMIT is written 0 first (R371 to R373). -/
def WriteStarts (s t : State) (i : Img) (kind : Nat) (refs : List CmdRef) : Prop :=
  ∃ w : CkptWrite, t.pair.writing = some w ∧ w.b = (match s.pair.newer with | some e => !e.1 | none => false) ∧ w.refs = refs ∧
    w.bank.kind = kind ∧ w.bank.cut = s.sealedCut ∧ w.bank.committed = false ∧ w.bank.seq = (match s.pair.newer with | some e => (e.2.seq + 1) % 2 ^ 32 | none => 1) ∧
    w.bank.digest = i.digest ∧ w.bank.serial = i.serial ∧ w.bank.devnum = i.devnum ∧ w.bank.forces = s.rd Reg.GLB_PT_FORCE_COUNT ∧ w.bank.tMark = markStamp s.pts.cutN ∧
    w.bank.hours = s.rd Reg.AGE_HOURS_OP_HOURS ∧ w.bank.pcycles = s.rd Reg.AGE_PCYC_PCYCLES ∧
    (if w.b then t.pair.bankA = s.pair.bankA ∧ t.pair.bankB = s.pair.bankB.map (fun y => { y with committed := false })
      else t.pair.bankB = s.pair.bankB ∧ t.pair.bankA = s.pair.bankA.map (fun y => { y with committed := false })) ∧ t.flag Reg.MEM_CKPT_STAT_BUSY = true

end Sys2Proof.Claims

/-- A background mark falls due 10 s later each time; with an image, BG_EN and no freeze it starts a write of the last cut, or is skipped and counted while one runs. A write that ends makes its bank valid with COMMIT last and leaves the other bank; kinds 2 and 3 are counted and answer their commands, kind 4 appends to the recorder and makes a warm reset due, a flush, kind 1, appends and waits for the feeds. -/
def Sys2Proof.Claims.CheckpointsAreWritten : Prop :=
  (∀ s : State, s.img.run = none → exec .backgroundCheckpoint s = .next s) ∧
  (∀ (s : State) (i : Img), s.img.run = some i →
    let next := some (s.pair.bgDue.getD s.runNs + 10000000000)
    (s.flag Reg.MEM_CKPT_CTL_BG_EN = false ∨ s.fab.frozen = true → exec .backgroundCheckpoint s = .next { s with pair := { s.pair with bgDue := next } }) ∧
    (s.flag Reg.MEM_CKPT_CTL_BG_EN = true → s.fab.frozen = false →
      (s.pair.writing = none → ∃ t, exec .backgroundCheckpoint s = .next t ∧ t = { s with regs := t.regs, pair := t.pair } ∧ t.pair.bgDue = next ∧ Sys2Proof.Claims.WriteStarts s t i 2 []) ∧
      (s.pair.writing.isSome = true → ∃ t, exec .backgroundCheckpoint s = .next t ∧ t.flag Reg.MEM_CKPT_STAT_SKIPPED = true ∧
        t = { s with regs := t.regs, ctr := (s.count 0x162).ctr, pair := { s.pair with bgDue := next } }))) ∧
  (∀ s : State, s.pair.writing = none → exec .ckptWriteDone s = .next s ∧ exec .flushDone s = .next s) ∧
  (∀ (s : State) (w : CkptWrite), s.pair.writing = some w →
    let stored (t : State) : Prop := t.pair.writing = none ∧ (if w.b then t.pair.bankB else t.pair.bankA) = some { w.bank with committed := true } ∧
      (if w.b then t.pair.bankA else t.pair.bankB) = (if w.b then s.pair.bankA else s.pair.bankB) ∧ t.rd Reg.MEM_CKPT_STAT_KIND = w.bank.kind % 8 ∧ t.flag Reg.MEM_CKPT_STAT_BUSY = false
    (w.bank.kind = 1 → exec .ckptWriteDone s = .next s) ∧ (w.bank.kind ≠ 1 → exec .flushDone s = .next s) ∧
    (w.bank.kind ≠ 1 → ∃ t, exec .ckptWriteDone s = .next t ∧ stored t ∧
      (w.bank.kind ≠ 4 → t.pair.restartDue = s.pair.restartDue ∧ t.recd = s.recd ∧ t.ctr = (if w.bank.kind = 2 ∨ w.bank.kind = 3 then s.count 0x160 else s).ctr) ∧
      (w.bank.kind = 4 → t.pair.restartDue = some (2, true) ∧ Sys2Proof.Claims.AllAppended s t 3) ∧
      (∀ r, w.bank.kind ≠ 4 → w.refs = [r] → ∃ u : State, t = u.complete r .ok w.bank.seq w.bank.cut.n ∧ u.host = s.host)) ∧
    (w.bank.kind = 1 → ∃ t, exec .flushDone s = .next t ∧ stored t ∧ t.pair.flushed = true ∧ t.pair.restartDue = s.pair.restartDue ∧ t.fab = s.fab ∧ Sys2Proof.Claims.AllAppended s t 5))

/-- A feed that is low already changes nothing; the first low is shown and counted, the second makes a freeze due unless frozen, and either is a device cause. A feed restored clears its bit alone. After a flush that is done, with both feeds back, an internal warm reset is due; else POWER_RETURN has no effect. -/
def Sys2Proof.Claims.SuppliesFlushAndReturn : Prop :=
  (∀ (feed : Fin 2) (s : State) (own other : Fld), (feed.val, own, other) ∈ [(0, Reg.MEM_CKPT_STAT_FEED_A_LOW, Reg.MEM_CKPT_STAT_FEED_B_LOW), (1, Reg.MEM_CKPT_STAT_FEED_B_LOW, Reg.MEM_CKPT_STAT_FEED_A_LOW)] →
    (s.flag own = true → exec (.vretFeedLow feed) s = .next s) ∧
    (s.flag own = false → ∃ t, exec (.vretFeedLow feed) s = .next t ∧ t.flag own = true ∧ t.flag other = s.flag other ∧ bitOf (t.rd Reg.RNG_DEV_CAUSE_CAUSE) 13 = true ∧
      (s.flag other = false → t = { s with regs := t.regs, host := t.host, ctr := (s.count 0x165).ctr, recd := (s.logEvent 0x165).recd }) ∧
      (s.flag other = true → t = { s with regs := t.regs, host := t.host, pair := { s.pair with freezeDue := !s.fab.frozen } })) ∧
    (∃ t, exec (.vretFeedRestored feed) s = .next t ∧ t.flag own = false ∧ t.flag other = s.flag other ∧ t = { s with regs := t.regs })) ∧
  (∀ s : State,
    let back := s.fab.frozen = true ∧ s.pair.flushed = true ∧ s.flag Reg.MEM_CKPT_STAT_FEED_A_LOW = false ∧ s.flag Reg.MEM_CKPT_STAT_FEED_B_LOW = false
    (back → exec .powerReturn s = .next { s with pair := { s.pair with restartDue := some (3, true) } }) ∧ (¬back → exec .powerReturn s = .next s))

/-- CKPT_WRITE waits for the next mark, or is BUSY while a write runs or the unit is frozen; CKPT_INFO gives both headers and their validity; CKPT_INVALIDATE writes COMMIT 0 into both banks, or is BUSY; RESTART warm with an image waits for its checkpoint, and cold, or warm without an image, appends to the recorder and makes its reset due; another kind is INVALID. -/
def Sys2Proof.Claims.CheckpointCommandsAnswer : Prop :=
  ∀ (ref : CmdRef) (args : List Nat) (s : State),
    let due (op : Nat) : State := s.accept (longRef ref op)
    (Admitted s 0x0C01 → s.ckptFree = true → exec (.ckptWrite ref args) s = .next { due 0x0C01 with pair := { s.pair with hostCkpt := s.pair.hostCkpt ++ [longRef ref 0x0C01] } }) ∧
    (Gated s 0x0C01 → s.ckptFree = false → exec (.ckptWrite ref args) s = .next (s.complete (longRef ref 0x0C01) .busy)) ∧
    (ref.bufLen < 516 → exec (.ckptInfo ref args) s = .next (s.complete (opRef ref 0x0C02) .invalid)) ∧
    (Admitted s 0x0C02 → 516 ≤ ref.bufLen →
      let v := b2n (bankValid s.pair.bankA) + 2 * b2n (bankValid s.pair.bankB)
      exec (.ckptInfo ref args) s = .next (s.complete (opRef ref 0x0C02) .ok 0 0 (bankHeader s.pair.bankA ++ bankHeader s.pair.bankB ++ leBytes 4 v))) ∧
    (Admitted s 0x0C03 → s.ckptFree = true → ∃ u : State, exec (.ckptInvalidate ref args) s = .next (u.complete (opRef ref 0x0C03) .ok) ∧ u = { s with regs := u.regs, pair := u.pair } ∧
      u.pair = { s.pair with bankA := s.pair.bankA.map (fun x => { x with committed := false }), bankB := s.pair.bankB.map (fun x => { x with committed := false }) } ∧
      u.flag Reg.MEM_CKPT_STAT_A_VALID = false ∧ u.flag Reg.MEM_CKPT_STAT_B_VALID = false) ∧
    (Gated s 0x0C03 → s.ckptFree = false → exec (.ckptInvalidate ref args) s = .next (s.complete (opRef ref 0x0C03) .busy)) ∧
    (1 < argN args 0 → exec (.restart ref args) s = .next (s.complete (longRef ref 0x0C04) .invalid)) ∧
    (Admitted s 0x0C04 → argN args 0 = 0 → s.img.run.isSome = true →
      exec (.restart ref args) s = .next { due 0x0C04 with pair := { s.pair with restartCkpt := s.pair.restartCkpt ++ [longRef ref 0x0C04] } }) ∧
    (Admitted s 0x0C04 → argN args 0 = 1 ∨ (argN args 0 = 0 ∧ s.img.run = none) → ∃ t, exec (.restart ref args) s = .next t ∧ t = { s with regs := t.regs, host := t.host, ctr := t.ctr, recd := t.recd, pair := t.pair } ∧
      t.pair = { s.pair with restartDue := some (2, decide (argN args 0 = 0)) } ∧ Sys2Proof.Claims.AllAppended s t 3 ∧
      (s.recd.changed = [] → t.host = ((due 0x0C04).complete (longRef ref 0x0C04) .ok).host))

/-- Checkpoints are written to the bank that is not newer, a failing supply flushes, and checkpoint and restart commands answer. Three claims. A background mark with BG_EN starts a write of the last cut, with its next SEQ, into the bank that is not the newer, COMMIT of the target 0 first, or is skipped and counted while one runs; a frozen unit starts none. A completed write makes its bank valid and keeps the other, is counted for kinds 2 and 3, answers its commands; a restart checkpoint appends to the recorder and makes a warm reset due; a completed flush appends and waits for the feeds. One feed low is counted and logged, the second makes a freeze due; with both back after the flush a reset is due. CKPT_WRITE waits for the mark or is BUSY; CKPT_INFO returns the headers; CKPT_INVALIDATE leaves no valid bank; RESTART cold makes a cold reset due, warm waits for its checkpoint when an image runs, another kind is INVALID. RESTART's argument is log entry 2's. -/
def Obligations.CheckpointsFlushAndRestart : Prop :=
  Sys2Proof.Claims.CheckpointsAreWritten ∧ Sys2Proof.Claims.SuppliesFlushAndReturn ∧ Sys2Proof.Claims.CheckpointCommandsAnswer

namespace Sys2Proof.Claims

/-- A frame of the pair link comes in on a paired unit whose link is up (R382, R383). -/
def OnPairLink (s : State) : Prop := s.paired = true ∧ s.portUp (s.rd Reg.GLB_PAIR_PORT) = true

/-- The unit holds the lease. -/
def holds (s : State) : Bool := s.flag Reg.GLB_PAIR_LEASE

/-- A frame of the pair link with a sub-type, a TAG and a body leaves, where the port is up; else none. -/
def SendsOnPairLink (s t : State) (sub tag : Nat) (body : List Byte) : Prop :=
  let p := s.rd Reg.GLB_PAIR_PORT
  (s.portUp p = false → t.link = s.link) ∧
  (s.portUp p = true → ∃ f, (t.lport p).sent = f :: (s.lport p).sent ∧ f.typ = 2 ∧ f.tag = tag % 2 ^ 32 ∧ f.payload = leBytes 1 sub ++ leBytes 1 1 ++ leBytes 2 0 ++ leBytes 4 0 ++ body)

/-- The unit is ACTIVE with a lease it has just taken and renewed (R384, R385, R398). -/
def TookLease (s t : State) : Prop :=
  t.pairSt = 2 ∧ holds t = true ∧ t.ctr.tab.look 0x1E0 = (s.count 0x1E0).ctr.tab.look 0x1E0 ∧ t.pair.renewed = some s.runNs ∧ t.pair.out = !s.pair.out ∧ t.pair.epoch = (s.pair.epoch + 1) % 2 ^ 32 ∧
  t.pair.exerAt = some (s.runNs + 3600000000000) ∧ t.pair.align = none ∧ t.pair.hand = none ∧ t.img = s.img ∧ t.pts = s.pts ∧ t.time = s.time ∧ t.sec = s.sec ∧
  (s.pairSt = 3 → s.pair.adopted = false → t.loops = [] ∧ t.axes = [] ∧ t.pgs = [] ∧ t.seqs = [] ∧ t.logics = []) ∧
  (s.pairSt ≠ 3 ∨ s.pair.adopted = true → t.loops = s.loops ∧ t.pgs = s.pgs ∧ t.seqs = s.seqs ∧ t.logics = s.logics) ∧
  (s.pairSt = 4 → t.pair.offset = (s.pair.replayCell : Int) - (s.pair.markRuns.at' s.pair.replay s.runNs : Int)) ∧ (s.pairSt ≠ 4 → t.pair.offset = s.pair.offset)

/-- Why a planned handover is deferred (R395): no standby in REPLAY, a mismatch within the last hour, or a generator that is not IDLE. -/
def Deferred (s : State) : Prop :=
  s.pair.partner = none ∨ (∃ x, s.pair.partner = some x ∧ (x.1 / 2 ^ 29 ≠ 4 ∨ bitOf x.1 24 = true)) ∨ ∃ e ∈ s.pgs, e.2.st ≠ .idle

end Sys2Proof.Claims

/-- The holder renews at marks with N mod 80 = 0, toggling LEASE_OUT and sending RENEW, unless frozen or FAULTY. A toggle seen is noted; a holder that sees one sets DUAL, and unit B gives up for ALIGNING. An expired lease leaves the outputs undriven. A unit in ALIGNING, REPLAY or LIVE, or at the end of its listen time, takes the lease only after 52 ms of quiet on the pin, and on the link or with the link down; with the pin alone quiet it shows PIN_FAULT; in every other case nothing changes. -/
def Sys2Proof.Claims.TheLeaseHasOneHolder : Prop :=
  ∀ s : State,
    let renews := s.paired = true ∧ holds s = true ∧ s.time.n % 80 = 0 ∧ s.fab.frozen = false ∧ s.pairSt ≠ 6
    let still (x : Option Nat) : Prop := x.getD 0 + 52000000 ≤ s.runNs
    let free := still s.pair.toggle ∧ (still s.pair.renewIn ∨ s.flag Reg.GLB_PAIR_LINK_UP = false)
    let standby := s.paired = true ∧ s.img.run.isSome = true ∧ holds s = false ∧ s.fab.frozen = false ∧ (s.pairSt = 3 ∨ s.pairSt = 4 ∨ s.pairSt = 5)
    let listening := s.paired = true ∧ s.img.run.isSome = true ∧ s.pairSt = 1
    (renews → ∃ t, exec .leaseRenew s = .next t ∧ t = { s with link := t.link, pair := { s.pair with out := !s.pair.out, renewed := some s.runNs, epoch := (s.pair.epoch + 1) % 2 ^ 32 } } ∧
      SendsOnPairLink s t 1 s.time.n (leBytes 4 ((s.pair.epoch + 1) % 2 ^ 32) ++ leBytes 4 0)) ∧
    (¬renews → exec .leaseRenew s = .next s) ∧
    (s.paired = false ∨ holds s = false → exec .leaseInToggle s = .next { s with pair := { s.pair with toggle := some s.runNs } }) ∧
    (s.paired = true → holds s = true → ∃ t, exec .leaseInToggle s = .next t ∧ t.flag Reg.GLB_PAIR_DUAL = true ∧ t.ctr = (s.count 0x1E6).ctr ∧ t.pair.toggle = some s.runNs ∧
      (s.sendsB = false → t = { s with regs := t.regs, ctr := t.ctr, pair := { s.pair with toggle := some s.runNs } } ∧ holds t = true ∧ t.pairSt = s.pairSt) ∧
      (s.sendsB = true → holds t = false ∧ t.pairSt = 3 ∧ t.conv.dioOut = [] ∧ t.pair.renewed = none ∧ t.pair.align = none ∧ t.pair.hand = none)) ∧
    (s.paired = false ∨ holds s = false → exec .leaseExpiry s = .next s) ∧
    (s.paired = true → holds s = true → ∃ t, exec .leaseExpiry s = .next t ∧ t = { s with regs := t.regs, pair := { s.pair with renewed := none, exerAt := none }, conv := { s.conv with dioOut := [] } } ∧
      holds t = false ∧ t.pairSt = s.pairSt ∧ (∀ x, s.convSec = some x → ∀ d ∈ x.dacs, t.flag Reg.DAC_STAT_DRIVEN [d.ch] = false)) ∧
    (standby → free → ∃ t, exec .leaseTake s = .next t ∧ TookLease s t) ∧
    (standby → ¬free → still s.pair.toggle → exec .leaseTake s = .next (s.wr Reg.GLB_PAIR_PIN_FAULT 1)) ∧
    (¬standby ∨ ¬still s.pair.toggle → exec .leaseTake s = .next s) ∧
    (listening → free → ∃ t, exec .listenEnd s = .next t ∧ TookLease s t) ∧
    (listening → ¬free → ∃ t, exec .listenEnd s = .next t ∧ t = { s with regs := t.regs, host := t.host, pair := { s.pair with align := none, hand := none, liveAfter := none } } ∧ t.pairSt = 3 ∧ holds t = holds s ∧
      (still s.pair.toggle → t.flag Reg.GLB_PAIR_PIN_FAULT = true)) ∧
    (¬listening → exec .listenEnd s = .next s) ∧
    (s.active = true → s.pair.cause = none → exec .companionBridgeError s = .next { s with pair := { s.pair with cause := some 5 } }) ∧
    (s.active = false ∨ s.pair.cause.isSome = true → exec .companionBridgeError s = .next s)

/-- With the pair port down a frame has no effect; on a unit that is not paired it is acknowledged only. RENEW is noted with its time; MANIFEST fragments are joined, the whole buffered with those of the last 64 cuts, a LIVE unit without the lease realigns, OVERFLOW ends REPLAY, counted; CUT_CRC keeps 64 values for its cut; STATE fragments in order build the alignment cut, out of order end the attempt; HANDOVER is noted in REPLAY; STATUS shows DIGEST_DIFF, and the active answers an ALIGNING partner of its digest with its last cut while both lanes are up. -/
def Sys2Proof.Claims.PairFramesAreNoted : Prop :=
  (∀ (f : LinkFrame) (lseq n off len : Nat) (m : Manifest) (cut : Option SealedCut) (s : State),
    ∀ c ∈ [Instr.renew f, .manifest lseq m, .cutCrc f, .stateRx lseq n off len cut, .handover f, .status f],
      (s.portUp (s.rd Reg.GLB_PAIR_PORT) = false → exec c s = .next s) ∧
      (s.portUp (s.rd Reg.GLB_PAIR_PORT) = true → s.paired = false → ∃ t, exec c s = .next t ∧ t = { s with link := t.link })) ∧
  (∀ (f : LinkFrame) (s : State), OnPairLink s →
    (∃ t, exec (.renew f) s = .next t ∧ t = { s with link := t.link, pair := { s.pair with renewIn := some s.runNs } }) ∧
    (∃ t, exec (.cutCrc f) s = .next t ∧ t = { s with link := t.link, pair := { s.pair with crcs := t.pair.crcs } } ∧
      t.pair.crcs.look (nearN s.time.n f.tag) = some ((List.range 64).map (fun c => BitVec.ofNat 32 (fieldLE f.payload (8 + 4 * c) 4))) ∧
      ∀ k, k ≠ nearN s.time.n f.tag → t.pair.crcs.look k = if nearN s.time.n f.tag < k + 64 then s.pair.crcs.look k else none) ∧
    (∃ t, exec (.handover f) s = .next t ∧ t = { s with link := t.link, pair := if s.pairSt = 4 then { s.pair with hand := some (fieldLE f.payload 8 8) } else s.pair }) ∧
    (let reg := fieldLE f.payload 8 4
     let dig := fieldLE f.payload 12 8
     let answers := s.pairSt = 2 ∧ reg / 2 ^ 29 = 3 ∧ dig = s.digest8 ∧ s.pairLanes = true ∧ s.fab.frozen = false
     ∃ t, exec (.status f) s = .next t ∧ t = { s with regs := t.regs, link := t.link, pair := { s.pair with partner := some (reg, dig), sent := t.pair.sent } } ∧
      t.flag Reg.GLB_PAIR_DIGEST_DIFF = decide (dig ≠ s.digest8) ∧ (¬answers → t.pair.sent = s.pair.sent) ∧
      (answers → ∃ x, t.pair.sent = .align x :: s.pair.sent ∧ x.n = s.pts.cutN ∧ x.role = s.cut ∧ x.entries = s.pts.cut))) ∧
  (∀ (lseq : Nat) (m : Manifest) (s : State), OnPairLink s →
    let j : Manifest := match s.pair.part with
      | some a => if a.n = m.n then { m with cellTime := a.cellTime, points := a.points ++ m.points, fast := a.fast ++ m.fast, cmds := a.cmds ++ m.cmds, giveUp := a.giveUp || m.giveUp, handover := a.handover || m.handover, overflow := a.overflow || m.overflow } else m
      | none => m
    (m.last = false → ∃ t, exec (.manifest lseq m) s = .next t ∧ t = { s with link := t.link, pair := { s.pair with part := some j } }) ∧
    (m.last = true → ∃ t, exec (.manifest lseq m) s = .next t ∧ t = { s with regs := t.regs, host := t.host, ctr := t.ctr, link := t.link, field := t.field, pair := t.pair } ∧
      t.pair.manifests = s.pair.manifests.filter (fun x => decide (j.n < x.n + 64 ∧ x.n ≠ j.n)) ++ [j] ∧ t.pair.part = none ∧ t.rd Reg.GLB_PAIR_REPLAY_MAN_RECS = j.points.length % 65536 ∧
      (s.pairSt = 5 ∧ holds s = false → t.pairSt = 3 ∧ t.ctr = s.ctr) ∧ (s.pairSt = 4 ∧ j.overflow = true → t.pairSt = 3 ∧ t.ctr = (s.count 0x1E8).ctr) ∧
      (¬(s.pairSt = 5 ∧ holds s = false) → ¬(s.pairSt = 4 ∧ j.overflow = true) → t.pairSt = s.pairSt ∧ t.ctr = s.ctr ∧ t.host = s.host ∧ t.field = s.field))) ∧
  (∀ (lseq n off len : Nat) (cut : Option SealedCut) (s : State), OnPairLink s →
    let keeps (x : Option Align) : Prop := ∃ t, exec (.stateRx lseq n off len cut) s = .next t ∧ t = { s with link := t.link, pair := { s.pair with align := x } }
    let whole := if s.time.n ≤ n + 32 then cut else none
    (s.pairSt ≠ 3 ∨ s.flag Reg.GLB_PAIR_DIGEST_DIFF = true ∨ s.pairLanes = false → keeps s.pair.align) ∧
    (s.pairSt = 3 → s.flag Reg.GLB_PAIR_DIGEST_DIFF = false → s.pairLanes = true →
      (off = 0 → keeps (some { cut := n, got := len, full := whole })) ∧
      (off ≠ 0 → s.pair.align = none → keeps none) ∧
      (∀ a, off ≠ 0 → s.pair.align = some a → keeps (if a.cut = n ∧ a.got = off then some { a with got := off + len, full := whole } else none))))

/-- In REPLAY the manifest of cut N − 2 not held, with no end named yet, is counted once and names the last cut of the unbroken row held as the last to replay. STATUS goes out with the register and digest of a paired unit. The hourly exercise, or PAIR_HANDOVER, of an active names mark N + 16 in a HANDOVER frame, deferred by an hour and counted, or DENIED, without a standby in REPLAY, with a mismatch or a moving generator. PAIR_CLEAR takes a FAULTY unit to ALIGNING, of another it is INVALID; PAIR_READ gives the registers and the partner's last STATUS. -/
def Sys2Proof.Claims.HandoversAndPairCommandsAct : Prop :=
  (∀ s : State,
    let lost := s.pairSt = 4 ∧ s.pair.liveAfter = none ∧ s.pair.hand = none ∧ 2 ≤ s.time.n ∧ s.pair.holds (s.time.n - 2) = false
    (¬lost → exec .manifestLoss s = .next s) ∧
    (lost → ∃ f, exec .manifestLoss s = .next { s with ctr := (s.count 0x1E4).ctr, pair := { s.pair with liveAfter := some f } } ∧ s.pair.replay ≤ f ∧
      (∀ k, s.pair.replay < k → k ≤ f → s.pair.holds k = true) ∧ (f < s.pair.replay + 64 → s.pair.holds (f + 1) = false)) ∧
    (s.paired = false → exec .statusSend s = .next s) ∧
    (s.paired = true → ∃ t, exec .statusSend s = .next t ∧ t = { s with link := t.link } ∧ SendsOnPairLink s t 6 s.time.n (leBytes 4 (s.reg Reg.GLB_PAIR) ++ leBytes 8 s.digest8 ++ leBytes 4 0)) ∧
    (s.active = false ∨ s.fab.frozen = true ∨ s.pair.hand.isSome = true → exec .handoverExercise s = .next s) ∧
    (s.active = true → s.fab.frozen = false → s.pair.hand = none →
      (Deferred s → exec .handoverExercise s = .next { s with ctr := (s.count 0x1E3).ctr, pair := { s.pair with exerAt := some (s.runNs + 3600000000000) } }) ∧
      (¬Deferred s → ∃ t, exec .handoverExercise s = .next t ∧ t = { s with link := t.link, pair := { s.pair with exerAt := some (s.runNs + 3600000000000), hand := some (s.time.n + 16) } } ∧
        SendsOnPairLink s t 5 s.time.n (leBytes 8 (s.time.n + 16))))) ∧
  (∀ (ref : CmdRef) (args : List Nat) (s : State),
    let r := longRef ref 0x0C06
    let p := s.pair.partner.getD (0, 0)
    (s.active = false → exec (.pairHandover ref args) s = .next (s.complete r .invalid)) ∧
    (s.active = true →
      (Gated s 0x0C06 → Deferred s → exec (.pairHandover ref args) s = .next ((s.accept r).complete r .denied 6)) ∧
      (Admitted s 0x0C06 → ¬Deferred s →
        (s.pair.hand.isSome = true → exec (.pairHandover ref args) s = .next { (s.accept r) with pair := { s.pair with handRefs := s.pair.handRefs ++ [r] } }) ∧
        (s.pair.hand = none → ∃ t, exec (.pairHandover ref args) s = .next t ∧ t = { (s.accept r) with link := t.link, pair := { s.pair with hand := some (s.time.n + 16), handRefs := s.pair.handRefs ++ [r] } } ∧
          SendsOnPairLink s t 5 s.time.n (leBytes 8 (s.time.n + 16))))) ∧
    (s.pairSt ≠ 6 → exec (.pairClear ref args) s = .next (s.complete (opRef ref 0x0C07) .invalid)) ∧
    (Admitted s 0x0C07 → s.pairSt = 6 → ∃ u : State, exec (.pairClear ref args) s = .next (u.complete (opRef ref 0x0C07) .ok) ∧ u.pairSt = 3 ∧ u.rd Reg.GLB_PAIR_CAUSE = 0 ∧
      u.pair = { s.pair with align := none, hand := none, liveAfter := none } ∧ u.pts = s.pts ∧ u.img = s.img) ∧
    (ref.bufLen < 28 → exec (.pairRead ref args) s = .next (s.complete (opRef ref 0x0C05) .invalid)) ∧
    (Admitted s 0x0C05 → 28 ≤ ref.bufLen → exec (.pairRead ref args) s = .next (s.complete (opRef ref 0x0C05) .ok 0 0
      (leBytes 4 (s.reg Reg.GLB_PAIR) ++ leBytes 4 (s.reg Reg.GLB_PAIR_REPLAY) ++ leBytes 4 (s.reg Reg.GLB_PAIR_XCHK) ++ leBytes 4 s.viewExer ++ leBytes 4 p.1 ++ leBytes 8 p.2))))

/-- The lease is renewed, lost and taken, and the frames and commands of the pair act. Three claims. The holder renews every 10 ms unless frozen or FAULTY; an expired lease leaves outputs undriven; a holder that sees the partner's pin sets DUAL and unit B gives up; a unit takes the lease only after 52 ms of quiet on pin and link, showing PIN_FAULT when only the pin is quiet, at a mark or the end of its listen time; in every other case nothing changes; a bridge error is self-diagnosis cause 5 of an active unit. Frames of the pair link are acknowledged, and on a paired unit RENEW, MANIFEST, CUT_CRC, STATE, HANDOVER and STATUS are noted as their rules say, LIVE and OVERFLOW ending in ALIGNING. A lost manifest names the last cut to replay; a handover names mark N + 16 (log entry 21's choice) unless deferred; PAIR_HANDOVER, PAIR_CLEAR and PAIR_READ answer or refuse, PAIR_READ's layout being log entry 2's. -/
def Obligations.LeaseAndPairLinkKeepOneActive : Prop :=
  Sys2Proof.Claims.TheLeaseHasOneHolder ∧ Sys2Proof.Claims.PairFramesAreNoted ∧ Sys2Proof.Claims.HandoversAndPairCommandsAct

namespace Sys2Proof.Claims

/-- An output as SAFETY_FAULT at sample n leaves it: from ON or TEST it goes OFF with both pins low and no pulse, its EDM timer started; else it stays (R412, R418). -/
def fellOff (n : Nat) (o : SafOut) : SafOut :=
  if o.st = .on ∨ o.st = .test then { o with st := .off, left := n, edmPhase := .release, edmFrom := n, wrong := 0, pinA := false, pinB := false, pulse := none } else o

/-- A state with island events counted; nothing is counted while the main die does not run (R418, R454). -/
def counted (s : State) (l : List Nat) : State := if s.mainRuns then l.foldl (fun (u : State) e => u.count e) s else s

/-- A state in which the island has entered SAFETY_FAULT: cause kept and to be logged, outputs of both channels off, events counted, nothing else changed (R418). -/
def faulted (s : State) (cause : Nat) (l : List Nat) : State :=
  let n := s.saf.s.getD 0
  { s with saf := { s.saf with cause := cause, logDue := some cause, a := { s.saf.a with outs := s.saf.a.outs.map (fellOff n) }, b := { s.saf.b with outs := s.saf.b.outs.map (fellOff n) } }, ctr := (counted s (l ++ [0x186])).ctr }

/-- One channel of the island. -/
def chan (s : State) (b : Bool) : SafChannel := if b then s.saf.b else s.saf.a

/-- A safety sample of two channels' inputs with index n, the main die's view and the outputs that it acts on as they were before. -/
def sampleOf (c : SafCfg) (n : Nat) (ra rb : SafRaw) (s : State) : SafIsland :=
  let v : MainView := { arrived := s.saf.arrived, lost := s.saf.lost }
  let a := (s.saf.a.step c n s.saf.cause v ra).1
  let b := (s.saf.b.step c n s.saf.cause v rb).1
  { s.saf with s := some n, sinceHb := s.saf.sinceHb + 1, a := a, b := b, arrived := [], lossCounted := s.saf.lost, diffs := s.saf.diffs ++ [diffAt 0 (a.record c) (b.record c)] }

/-- An enabled output of one channel follows the table of R412 with the rows of R413 to R415. It is neither ON nor in TEST after a sample at which a function of its mask does not permit, the island is in SAFETY_FAULT, or a mapped signal or loss acts; the last sets MAIN_DEMAND. With no reset pair and no signal: an OFF output with all conditions and the EDM input released, or not monitored, goes ON with both pins high and its test due after TP_INTERVAL; an ON output goes to TEST at its due sample, the next pin low; an ON output whose function falls counts a demand, one in TEST counts 0x188. A second wrong readback of an OFF output faults it STUCK_ON, of an ON output STUCK_OFF, counted 0x183. One that is not enabled keeps its state. -/
def OutputsFollowTheirTable : Prop :=
  ∀ (d : SafOutDef) (fs : List SafFunc) (ps : List SafPair) (n cause : Nat) (v : MainView) (rb edm : Bool) (o : SafOut),
    let r := SafOut.step d fs ps n cause v rb edm o
    let all := ∀ f, f < 32 → bitOf d.funcs f = true → (fs.getD f {}).st = .permit
    let con := all ∧ o.mainDemand = false ∧ cause = 0
    let rel := (o.edm.step 2 edm false).level = some true
    let on := (o.rb.step 2 rb false).level = some true
    (d.enabled = false → r = ({ o with rb := o.rb.step 2 rb false, edm := o.edm.step 2 edm false }, [])) ∧
    (d.enabled = true →
      (¬ all ∨ cause ≠ 0 → r.1.st ≠ .on ∧ r.1.st ≠ .test) ∧
      (v.hits d = true → r.1.mainDemand = true ∧ r.1.st ≠ .on ∧ r.1.st ≠ .test) ∧
      (v.hits d = false → d.reset = 0xFF →
        (o.st = .off → con → (d.edmEn = false ∨ rel) → ∃ q, r = (q, []) ∧ q.st = .on ∧ q.pinA = true ∧ q.pinB = true ∧ q.entered = n ∧ q.due = n + 4000 * d.interval ∧ q.pulse = none) ∧
        (o.st = .on → con → o.due ≤ n → ∃ q, r = (q, []) ∧ q.st = .test ∧ q.pinA = o.nextB ∧ q.pinB = (!o.nextB) ∧ q.nextB = (!o.nextB) ∧ q.pulse = some (n, o.nextB, none)) ∧
        (o.st = .on → ¬ all → ∃ q, r = (q, [0x180]) ∧ q.st = .off ∧ q.pinA = false ∧ q.pinB = false ∧ q.left = n) ∧
        (o.st = .test → ¬ all ∨ cause ≠ 0 → ∃ q, r = (q, [0x188]) ∧ q.st = .off ∧ q.pinA = false ∧ q.pinB = false ∧ q.left = n ∧ q.pulse = o.pulse) ∧
        (o.st = .off → ¬ all → o.left + 2 ≤ n → 1 ≤ o.wrong → on → ∃ q, r = (q, [0x183]) ∧ q.st = .fault ∧ q.cause = 1 ∧ q.pinA = false ∧ q.pinB = false) ∧
        (o.st = .on → con → n < o.due → o.entered + 2 ≤ n → 1 ≤ o.wrong → ¬ on → ∃ q, r = (q, [0x183]) ∧ q.st = .fault ∧ q.cause = 2 ∧ q.pinA = false ∧ q.pinB = false) ∧
        (o.st = .fault → ∃ q, r = (q, []) ∧ q.st = .fault ∧ q.cause = o.cause)))

/-- Every fault of the island enters SAFETY_FAULT once, with its cause and counts and nothing else changed; a cause that stands is kept and only the event itself is counted. A strobe within 45 to 55 µs and a check that passes change nothing. A strobe, compare, digest or memory fault asks that the island runs; a clock or a feed fault does not. A feed that goes or returns shows in the power status. -/
def IslandFaultsTurnAllOff : Prop :=
  ∀ s : State,
    (∀ i, exec (.safetyStrobe i) s = .next (if s.saf.running = true ∧ s.saf.cause = 0 ∧ (i < 45000 ∨ 55000 < i) then faulted s 2 [] else s)) ∧
    (exec .channelBClockFault s = .next (if s.saf.cause = 0 then faulted s 2 [] else s)) ∧
    (exec .compareBlockTimeout s = .next (if s.saf.running = false then s else if s.saf.cause = 0 then faulted s 3 [0x185] else counted s [0x185])) ∧
    (∀ ok, exec (.configDigestCheck ok) s = .next (if s.saf.running = true ∧ s.saf.cause = 0 ∧ ok = false then faulted s 6 [] else s)) ∧
    (∀ ok, exec (.islandMemoryTest ok) s = .next (if s.saf.running = true ∧ s.saf.cause = 0 ∧ ok = false then faulted s 4 [] else s)) ∧
    (∀ b,
      let u := { s.wr (if b then Reg.PWR_STAT_VSAFE_B_OK else Reg.PWR_STAT_VSAFE_A_OK) 0 with saf := if b then { s.saf with feedB := false } else { s.saf with feedA := false } }
      exec (.vsafeFeedFault b) s = .next (if s.saf.cause = 0 then faulted u 5 [0x18F] else counted u [0x18F])) ∧
    (∀ b,
      let u := { s.wr (if b then Reg.PWR_STAT_VSAFE_B_OK else Reg.PWR_STAT_VSAFE_A_OK) 1 with saf := if b then { s.saf with feedB := true } else { s.saf with feedA := true } }
      exec (.channelFeedReturn b) s = .next (if s.saf.cause = 0 then faulted u 5 [] else u))

/-- What the main die tells the island waits for the next sample: a fault signal joins those that arrived; a heartbeat of a running main die ends a loss and brings the signals of cells in SAFE and failed lanes; 40 samples without one are a loss. -/
def MainDieSignalsReachTheNextSample : Prop :=
  ∀ s : State,
    (s.mainRuns = false → exec .mainHeartbeat s = .next s) ∧
    (s.mainRuns = true → ∃ l, exec .mainHeartbeat s = .next { s with saf := { s.saf with sinceHb := 0, lost := false, arrived := s.saf.arrived ++ l } } ∧
      (∀ c : Fin 64, MainSignal.cellSafe c ∈ l ↔ s.cellSafe c.val = true) ∧ (MainSignal.laneFault ∈ l ↔ s.fab.failed ≠ [])) ∧
    (∀ m, exec (.mainFaultSignal m) s = .next { s with saf := { s.saf with arrived := s.saf.arrived ++ [m] } }) ∧
    (s.saf.sinceHb < 40 → exec .heartbeatLoss s = .next s) ∧
    (40 ≤ s.saf.sinceHb → exec .heartbeatLoss s = .next { s with saf := { s.saf with lost := true } })

/-- A test pulse's two instants act on one output of both channels, each by its own pulse. At the check a readback that shows on at an output that a demand turned off faults it with cause 3, and any other is kept for the pulse's end. At the end an output still in TEST whose readback showed on faults; else it is ON again with both pins high, its next test due after TP_INTERVAL; one that has left TEST keeps its pins and ends the pulse. An output without that pulse, and every other output, stays. Channel A's events are counted. -/
def TestPulsesEndByTheirReadback : Prop :=
  (∀ (out : Fin 12) (onA onB : Bool) (s : State), ∃ t, exec (.testReadbackCheck out onA onB) s = .next t ∧
    (∀ b, ∀ o, (chan s b).outs[out.val]? = some o →
      let on := if b then onB else onA
      (∀ t0 p, o.pulse = some (t0, p, none) →
        (o.st = .off → on = true → (chan t b).outs[out.val]? = some { o with st := .fault, cause := 3, pulse := none, pinA := false, pinB := false, wrong := 0 } ∧ (b = false → t.ctr = (counted s [0x183]).ctr)) ∧
        (o.st ≠ .off ∨ on = false → (chan t b).outs[out.val]? = some { o with pulse := some (t0, p, some on) } ∧ (b = false → t.ctr = s.ctr))) ∧
      ((∀ t0 p, o.pulse ≠ some (t0, p, none)) → (chan t b).outs[out.val]? = some o ∧ (b = false → t.ctr = s.ctr))) ∧
    (∀ b m, m ≠ out.val → (chan t b).outs[m]? = (chan s b).outs[m]?) ∧
    t = { s with ctr := t.ctr, saf := { s.saf with a := { s.saf.a with outs := t.saf.a.outs }, b := { s.saf.b with outs := t.saf.b.outs } } }) ∧
  (∀ (out : Fin 12) (s : State), (s.saf.cfg = none ∨ (∃ c, s.saf.cfg = some c ∧ c.outs.length ≤ out.val) → exec (.testPulseEnd out) s = .next s) ∧
    ∀ c d, s.saf.cfg = some c → c.outs[out.val]? = some d → ∃ t, exec (.testPulseEnd out) s = .next t ∧
      (∀ b, ∀ o, (chan s b).outs[out.val]? = some o →
        (∀ t0 p on, o.pulse = some (t0, p, some on) →
          (o.st ≠ .test → (chan t b).outs[out.val]? = some { o with pulse := none } ∧ (b = false → t.ctr = s.ctr)) ∧
          (o.st = .test → on = true → (∃ q, (chan t b).outs[out.val]? = some q ∧ q.st = .fault ∧ q.cause = 3 ∧ q.pinA = false ∧ q.pinB = false ∧ q.pulse = none ∧ q.left = s.saf.s.getD 0) ∧ (b = false → t.ctr = (counted s [0x183]).ctr)) ∧
          (o.st = .test → on = false →
            (chan t b).outs[out.val]? = some { o with st := .on, pulse := none, pinA := true, pinB := true, wrong := 0, due := t0 + ceilDiv (50 * d.width + 25) 250 + 4000 * d.interval } ∧ (b = false → t.ctr = (counted s [0x187]).ctr))) ∧
        ((∀ t0 p on, o.pulse ≠ some (t0, p, some on)) → (chan t b).outs[out.val]? = some o ∧ (b = false → t.ctr = s.ctr))) ∧
      (∀ b m, m ≠ out.val → (chan t b).outs[m]? = (chan s b).outs[m]?) ∧
      t = { s with ctr := t.ctr, saf := { s.saf with a := { s.saf.a with outs := t.saf.a.outs }, b := { s.saf.b with outs := t.saf.b.outs } } })

/-- A start takes the newer valid set from sample 0's states with both feeds shown good; failed self-tests are cause 4, no valid set or no agreement is cause 6. A first set that was written and agreed is answered there: OK and counted 0x18D when the start is in service with it, ABORTED otherwise, with a log entry and nothing pending. Any other pending set waits. A written set is in its bank; agreed, it waits for the compare sample, or, as the first, for the restart 100 ms later; not agreed, the bank is not valid and, unless it is the first, the change is aborted and logged and the old set stays. With none written, or one already agreed, nothing changes. -/
def SetsAreWrittenAndStarted : Prop :=
  (∀ (ramOk agree : Bool) (s : State), ∃ t, exec (.islandStart ramOk agree) s = .next t ∧ t.saf.running = true ∧ t.saf.cfg = s.saf.newest ∧ t.saf.s = none ∧ t.saf.restartDue = none ∧ t.saf.arrived = [] ∧ t.saf.lost = false ∧
    t.saf.feedA = true ∧ t.saf.feedB = true ∧ t.saf.cause = (if ramOk = false then 4 else if s.saf.newest = none ∨ agree = false then 6 else 0) ∧
    t.saf.bankA = s.saf.bankA ∧ t.saf.bankB = s.saf.bankB ∧ t.saf.password = s.saf.password ∧ t.saf.proposal = s.saf.proposal ∧
    (∀ c, s.saf.newest = some c → ramOk = true → agree = true → t.saf.a = channelStart c ∧ t.saf.b = channelStart c) ∧
    ((∀ w, s.saf.switch = some w → ¬ (w.first = true ∧ w.ready = true)) → t.saf.switch = s.saf.switch ∧ t.saf.logSeq = s.saf.logSeq ∧ t.host = s.host) ∧
    (∀ w, s.saf.switch = some w → w.first = true → w.ready = true → t.saf.switch = none ∧ t.saf.logSeq = s.saf.logSeq + 1 ∧
      (∀ c, s.saf.newest = some c → c.digest = w.cfg.digest → ramOk = true → agree = true → t.host = (s.complete w.ref .ok).host ∧ t.ctr = (s.count 0x18D).ctr) ∧
      (ramOk = false ∨ agree = false ∨ s.saf.newest = none → t.host = (s.complete w.ref .aborted).host))) ∧
  (∀ (agree : Bool) (s : State),
    (s.saf.switch = none → exec (.safConfigWritten agree) s = .next s) ∧
    (∀ w, s.saf.switch = some w →
      (w.ready = true → exec (.safConfigWritten agree) s = .next s) ∧
      (w.ready = false →
        (agree = true → exec (.safConfigWritten agree) s = .next { s with saf := { s.saf with bankA := (if w.cfg.bank = 0 then some w.cfg.bytes else s.saf.bankA), bankB := (if w.cfg.bank = 0 then s.saf.bankB else some w.cfg.bytes), switch := some { w with ready := true }, restartDue := (if w.first then some (s.runNs + 100000000) else s.saf.restartDue) } }) ∧
        (agree = false → ∃ t, exec (.safConfigWritten agree) s = .next t ∧ t.saf.bankA = (if w.cfg.bank = 0 then none else s.saf.bankA) ∧ t.saf.bankB = (if w.cfg.bank = 0 then s.saf.bankB else none) ∧ t.saf.cfg = s.saf.cfg ∧ t.ctr = s.ctr ∧
          (w.first = false → t.saf.switch = none ∧ t.saf.logSeq = s.saf.logSeq + 1 ∧ t.host = (s.complete w.ref .aborted).host) ∧
          (w.first = true → t.saf.switch = some { w with ready := true } ∧ t.saf.logSeq = s.saf.logSeq ∧ t.saf.restartDue = some (s.runNs + 100000000) ∧ t.host = s.host)))))

/-- A sample of an island that does not run changes nothing; else its index rises, and with a configuration both channels are evaluated once, each on its own inputs, taking what arrived from the main die. At a sample whose index 4 does not divide nothing else changes but the events counted, the last being cause 7 when a channel's pins do not follow its commands. At an index that 4 divides, after the first, a difference in one quantity at two consecutive samples is cause 1, counted 0x185, before the channels are evaluated; an agreed set that is not the first then comes into force from sample 0's states, its approval OK and logged; and a running main die takes the island's status at that instant. -/
def SamplesCompareAndEvaluate : Prop :=
  ∀ (ra rb : SafRaw) (s : State),
    (s.saf.running = false → exec (.safetySample ra rb) s = .next s) ∧
    (∀ n, s.saf.running = true → n = (match s.saf.s with | some k => k + 1 | none => 0) →
      (∃ t, exec (.safetySample ra rb) s = .next t ∧ t.saf.s = some n ∧ t.saf.running = true ∧ (s.saf.cfg ≠ none → t.saf.cfg ≠ none ∧ t.saf.arrived = [] ∧ t.saf.lossCounted = s.saf.lost)) ∧
      (n % 4 ≠ 0 →
        (s.saf.cfg = none → exec (.safetySample ra rb) s = .next { s with saf := { s.saf with s := some n, sinceHb := s.saf.sinceHb + 1 } }) ∧
        (∀ c, s.saf.cfg = some c →
          (ra.pinsOk = true ∧ rb.pinsOk = true ∨ s.saf.cause ≠ 0 → ∃ t, exec (.safetySample ra rb) s = .next t ∧ t = { s with saf := sampleOf c n ra rb s, ctr := t.ctr } ∧ (s.mainRuns = false → t.ctr = s.ctr)) ∧
          (ra.pinsOk = false ∨ rb.pinsOk = false → s.saf.cause = 0 →
            ∃ t, exec (.safetySample ra rb) s = .next t ∧ t.saf = (faulted { s with saf := sampleOf c n ra rb s } 7 []).saf ∧ t = { s with saf := t.saf, ctr := t.ctr }))) ∧
      (n % 4 = 0 →
        (s.mainRuns = true → ∃ t, exec (.safetySample ra rb) s = .next t ∧ t.saf.statusAt = some s.runNs ∧ t.flag Reg.SAF_STATE_BRIDGE_OK = true ∧ t.rd Reg.SAF_SAMPLE_S = n % 2 ^ 32) ∧
        (n ≠ 0 → diffTwice s.saf.diffs = true → s.saf.cause = 0 → ∃ t, exec (.safetySample ra rb) s = .next t ∧ t.saf.cause = 1) ∧
        (∀ w, n ≠ 0 → s.saf.switch = some w → w.ready = true → w.first = false → ∃ t, exec (.safetySample ra rb) s = .next t ∧ t.saf.cfg = some w.cfg ∧ t.saf.switch = none ∧ t.saf.logSeq = s.saf.logSeq + 1 ∧ t.host.rings = (s.complete w.ref .ok).host.rings)))

end Sys2Proof.Claims

/-- An output that may not be on is off after a sample, every fault of the island turns all outputs off, and sets, samples and test pulses act as chapter 16 says. Outputs of one channel follow their table with its counts and pins, enabled or not. A strobe out of range, a clock, compare, digest, memory, feed or pin fault enters SAFETY_FAULT with its cause, once, and all outputs leave ON. Heartbeats, losses and fault signals reach the next sample. A test pulse ends by its readback, in each channel. A start takes the newer valid set or is in fault, and answers a first set; a written set waits or is aborted. A sample evaluates both channels once; every fourth compares, switches and reports. -/
def Obligations.SafetyIslandFailsSafe : Prop :=
  OutputsFollowTheirTable ∧ IslandFaultsTurnAllOff ∧ MainDieSignalsReachTheNextSample ∧ TestPulsesEndByTheirReadback ∧ SetsAreWrittenAndStarted ∧ SamplesCompareAndEvaluate

namespace Sys2Proof.Claims

/-- The change log of the safety area has one more entry, of a kind, with a result and up to two approvers; the oldest is dropped after 256 (R427). -/
def Logged (i j : SafIsland) (kind : Nat) (result : Status) (slots : List Nat) : Prop :=
  j.logSeq = i.logSeq + 1 ∧ ∃ e : List Byte, j.log = (i.log ++ [e]).drop (i.log.length + 1 - 256) ∧ e.length = 64 ∧ fieldLE e 0 4 = (i.logSeq + 1) % 2 ^ 32 ∧ fieldLE e 4 1 = kind ∧ fieldLE e 5 1 = statusCode result ∧
    fieldLE e 6 1 = slots.getD 0 0xFF % 2 ^ 8 ∧ fieldLE e 7 1 = slots.getD 1 0xFF % 2 ^ 8 ∧ fieldLE e 60 4 = crc32c (e.take 60) % 2 ^ 32

/-- How a command that carries a password goes on: in a lockout DENIED 6; a wrong password is counted and DENIED 4, the fifth in a row locks passwords out for 10 minutes and is logged; with a right one the count of wrong ones is 0, and a proposal or a change that is pending answers BUSY; else a proposal for the change is created, its PROP_SEQ the result and its digest the output. Of the device nothing else changes, but that drawing a salt uses random bytes. -/
def PasswordGuards (o : Out) (s : State) (ref : CmdRef) (pw : List Byte) (drawn : Nat) (change : SafChange) (digest : List Byte) : Prop :=
  (s.saf.lockEnd.isSome = true → o = .next (s.complete ref .denied 6)) ∧
  (s.saf.lockEnd = none →
    (s.pwdRight pw = false →
      (s.saf.wrongs < 4 → o = .next ({ (s.count 0x18C) with saf := { s.saf with wrongs := s.saf.wrongs + 1 } }.complete ref .denied 4)) ∧
      (4 ≤ s.saf.wrongs → ∃ u : State, o = .next (u.complete ref .denied 4) ∧ Logged s.saf u.saf 6 .denied [] ∧ u.flag Reg.SAF_STATE_LOCKOUT = true ∧
        u = { (s.count 0x18C) with regs := u.regs, saf := { s.saf with wrongs := 0, lockEnd := some (s.runNs + 600000000000), log := u.saf.log, logSeq := u.saf.logSeq } })) ∧
    (s.pwdRight pw = true →
      (s.saf.proposal.isSome = true ∨ s.saf.switch.isSome = true → o = .next ({ s with saf := { s.saf with wrongs := 0 } }.complete ref .busy)) ∧
      (s.saf.proposal = none → s.saf.switch = none →
        let n := (s.sys.propSeq + 1) % 2 ^ 32
        ∃ u : State, o = .next (u.complete ref .ok 0 n digest) ∧ u.sys = { s.sys with propSeq := n } ∧
          u = { s with regs := u.regs, ctr := (s.count 0x1F2).ctr, sec := u.sec, fresh := s.fresh + drawn, saf := { s.saf with wrongs := 0, proposal := some { change := change, digest := digest, propSeq := n, at_ := s.runNs } } })))

/-- SAF_PROPOSE, SAF_PASSWORD and SAF_RESTART refuse, in this order, arguments that are too short or name a password above 64 bytes, a new password outside its characters or lengths, an output below 32 bytes, and a set with its check code. SAF_PROPOSE and SAF_RESTART are DENIED while no password is stored; SAF_PASSWORD then takes an empty old one. Else the password guards the proposal, whose digest is that of the set, of the drawn salt and hash, or of the restart label and SEQ. -/
def ProposalsNeedThePassword : Prop :=
  (∀ (ref : CmdRef) (args : List Nat) (s : State),
    let b := slice (argBytes args 17) 0 1472
    let pw := pwdAt args (argN args 0) 1
    let r := opRef ref 0x0D04
    let o := exec (.safPropose ref args) s
    (args.length < 385 ∨ 64 < argN args 0 → o = .next (s.complete r .invalid)) ∧
    (385 ≤ args.length → argN args 0 ≤ 64 →
      (ref.bufLen < 32 → o = .next (s.complete r .invalid)) ∧
      (32 ≤ ref.bufLen → setCheck b ≠ 0 → o = .next (s.complete r .invalid (setCheck b))) ∧
      (32 ≤ ref.bufLen → setCheck b = 0 → Admitted s 0x0D04 →
        (s.saf.password = none → o = .next (s.complete r .denied 6)) ∧
        (s.saf.password ≠ none → PasswordGuards o s r pw 0 (.config b) (setDigest b))))) ∧
  (∀ (ref : CmdRef) (args : List Nat) (s : State),
    let pw := pwdAt args (argN args 0) 2
    let new := pwdAt args (argN args 1) 18
    let r := opRef ref 0x0D06
    let o := exec (.safPassword ref args) s
    (args.length < 34 ∨ 64 < argN args 0 → o = .next (s.complete r .invalid)) ∧
    (34 ≤ args.length → argN args 0 ≤ 64 →
      (argN args 1 < 8 ∨ 64 < argN args 1 ∨ (∃ c ∈ new, c.toNat < 0x20 ∨ 0x7E < c.toNat) → o = .next (s.complete r .invalid 1)) ∧
      (8 ≤ argN args 1 → argN args 1 ≤ 64 → (∀ c ∈ new, 0x20 ≤ c.toNat ∧ c.toNat ≤ 0x7E) →
        (ref.bufLen < 32 → o = .next (s.complete r .invalid)) ∧
        (32 ≤ ref.bufLen → Admitted s 0x0D06 → ∃ salt, salt.length = 16 ∧ PasswordGuards o s r pw 16 (.password salt (sha256 (salt ++ new))) (sha256 (salt ++ sha256 (salt ++ new))))))) ∧
  (∀ (ref : CmdRef) (args : List Nat) (s : State),
    let r := opRef ref 0x0D07
    let o := exec (.safRestart ref args) s
    (args.length < 17 ∨ 64 < argN args 0 ∨ ref.bufLen < 32 → o = .next (s.complete r .invalid)) ∧
    (17 ≤ args.length → argN args 0 ≤ 64 → 32 ≤ ref.bufLen → Admitted s 0x0D07 →
      (s.saf.password = none → o = .next (s.complete r .denied 6)) ∧
      (s.saf.password ≠ none → PasswordGuards o s r (pwdAt args (argN args 0) 1) 0 .restart
        (sha256 (leBytes 16 Config.restartLabel.toNat ++ leBytes 4 (match s.saf.cfg with | some c => c.seq | none => 0)))))) ∧
  (∀ s : State, s.saf.password = none → s.pwdRight [] = true)

/-- SAF_APPROVE refuses short arguments, and answers TIMEOUT for the digest that expired or has lasted 600 s, INVALID for any other that is not pending, DENIED 4 for a signature of no authority and for the same authority again. The first good one is held: NEEDS_SECOND. A second authority's is DENIED with the first kept outside PROVISIONED, OPERATIONAL and DIAGNOSTIC, outside MAINTENANCE, and, for a set, while an enabled output is on or in test or the island is in a fault other than having no set. Else it is acknowledged and carried out: a password is stored, a restart comes in 100 ms, both answered OK and logged; a set waits to be written into the other bank with the next SEQ, the first into bank A with SEQ 1. -/
def ApprovalsNeedTwoAuthorities : Prop :=
  ∀ (ref : CmdRef) (args : List Nat) (s : State),
    let digest := slice (argBytes args 0) 0 32
    let sig := slice (argBytes args 8) 0 384
    let r := opRef ref 0x0D05
    let o := exec (.safApprove ref args) s
    (args.length < 104 → o = .next (s.complete r .invalid)) ∧
    (104 ≤ args.length → Admitted s 0x0D05 →
      ((∀ p, s.saf.proposal = some p → p.digest ≠ digest) →
        (digest ≠ s.saf.expired → o = .next (s.complete r .invalid)) ∧ (digest = s.saf.expired → o = .next (s.complete r .timeout))) ∧
      (∀ p, s.saf.proposal = some p → p.digest = digest →
        (p.at_ + 600000000000 ≤ s.runNs → o = .next (s.complete r .timeout)) ∧
        (s.runNs < p.at_ + 600000000000 →
          (s.approver (approvalMsg 1 p.propSeq digest) sig = none → o = .next (s.complete r .denied 4)) ∧
          (∀ k, s.approver (approvalMsg 1 p.propSeq digest) sig = some k →
            (p.slots = [] → ∃ u : State, o = .next (u.complete r .needsSecond) ∧ u = { s with regs := u.regs, saf := { s.saf with proposal := some { p with slots := [k] } } }) ∧
            (∀ rest, p.slots = k :: rest → o = .next (s.complete r .denied 4)) ∧
            (∀ k1 rest, p.slots = k1 :: rest → k1 ≠ k →
              let quiet := (s.saf.cause = 0 ∧ ∀ c, s.saf.cfg = some c → ∀ (n : Nat) (d : SafOutDef) (q : SafOut), c.outs[n]? = some d → s.saf.a.outs[n]? = some q → d.enabled = true → q.st = .off ∨ q.st = .fault) ∨ (s.saf.cause = 6 ∧ s.saf.cfg = none)
              let life := s.lc = 1 ∨ s.lc = 2 ∨ s.lc = 3
              (¬ life → o = .next (s.complete r .denied 5)) ∧
              (life → s.keyMaintOk = false → o = .next (s.complete r .denied 1)) ∧
              (life → s.keyMaintOk = true → ∀ b, p.change = .config b → ¬ quiet → o = .next (s.complete r .denied 6)) ∧
              (life → s.keyMaintOk = true → ((∀ b, p.change ≠ .config b) ∨ quiet) →
                (p.change = .restart → ∃ t, o = .next t ∧ Logged s.saf t.saf 4 .ok [k1, k] ∧ t.host = ((s.accept (longRef ref 0x0D05)).complete (longRef ref 0x0D05) .ok).host ∧
                  t = { s with host := t.host, regs := t.regs, saf := { s.saf with proposal := none, restartDue := some (s.runNs + 100000000), log := t.saf.log, logSeq := t.saf.logSeq } }) ∧
                (∀ salt hash, p.change = .password salt hash → ∃ t, o = .next t ∧ Logged s.saf t.saf 3 .ok [k1, k] ∧ t.host = ((s.accept (longRef ref 0x0D05)).complete (longRef ref 0x0D05) .ok).host ∧
                  t = { s with host := t.host, regs := t.regs, saf := { s.saf with proposal := none, password := some (salt, hash), pwdBad := [], wrongs := 0, log := t.saf.log, logSeq := t.saf.logSeq } }) ∧
                (∀ b, p.change = .config b → ∃ (t : State) (w : SafSwitch), o = .next t ∧ w.ref = longRef ref 0x0D05 ∧ w.slots = [k1, k] ∧ w.ready = false ∧
                  t = { s with host := (s.accept (longRef ref 0x0D05)).host, regs := t.regs, saf := { s.saf with proposal := none, switch := some w } } ∧
                  (s.saf.cfg = none → w.cfg = cfgOf (setWith b 1) 0 ∧ w.first = true) ∧ (∀ c, s.saf.cfg = some c → w.cfg = cfgOf (setWith b ((c.seq + 1) % 2 ^ 32)) (1 - c.bank) ∧ w.first = false))))))))

/-- SAF_CANCEL withdraws the pending proposal, OK with a log entry of kind 5; with none it is INVALID. The expiry row withdraws a proposal 600 s old with such an entry and keeps its digest, and changes nothing before that or with none pending. A lockout ends at its instant and not before; its row changes nothing without one. -/
def ProposalsAndLockoutsEnd : Prop :=
  (∀ (ref : CmdRef) (args : List Nat) (s : State),
    (s.saf.proposal = none → exec (.safCancel ref args) s = .next (s.complete (opRef ref 0x0D08) .invalid)) ∧
    (∀ p, Admitted s 0x0D08 → s.saf.proposal = some p → ∃ u : State, exec (.safCancel ref args) s = .next (u.complete (opRef ref 0x0D08) .ok) ∧ Logged s.saf u.saf 5 .ok p.slots ∧
      u = { s with regs := u.regs, saf := { s.saf with proposal := none, log := u.saf.log, logSeq := u.saf.logSeq } })) ∧
  (∀ s : State,
    (s.saf.proposal = none → exec .safProposalExpiry s = .next s) ∧
    (∀ p, s.saf.proposal = some p →
      (p.at_ + 600000000000 ≤ s.runNs → ∃ t, exec .safProposalExpiry s = .next t ∧ Logged s.saf t.saf 5 .timeout p.slots ∧
        t = { s with regs := t.regs, saf := { s.saf with proposal := none, expired := p.digest, log := t.saf.log, logSeq := t.saf.logSeq } }) ∧
      (s.runNs < p.at_ + 600000000000 → exec .safProposalExpiry s = .next s)) ∧
    (s.saf.lockEnd = none → exec .passwordLockoutEnd s = .next s) ∧
    (∀ e, s.saf.lockEnd = some e →
      (e ≤ s.runNs → ∃ t, exec .passwordLockoutEnd s = .next t ∧ t = { s with regs := t.regs, saf := { s.saf with lockEnd := none } } ∧ t.flag Reg.SAF_STATE_LOCKOUT = false) ∧
      (s.runNs < e → exec .passwordLockoutEnd s = .next s)))

/-- SAF_READ returns the 92 SAF registers in the order of their offsets, SAF_CFG_READ the active set, its bank, SEQ and digest, or nothing without one, SAF_LOG_READ up to 64 entries from a SEQ that the log holds, as many as there are; another SEQ is INVALID, a count of 0 or above 64 INVALID 1, and an output without room INVALID for each. -/
def SafReadsReturn : Prop :=
  ∀ (ref : CmdRef) (args : List Nat) (s : State),
    (ref.bufLen < 368 → exec (.safRead ref args) s = .next (s.complete (opRef ref 0x0D01) .invalid)) ∧
    (368 ≤ ref.bufLen → Admitted s 0x0D01 → ∃ data, exec (.safRead ref args) s = .next (s.complete (opRef ref 0x0D01) .ok 0 0 data) ∧ data.length = 368 ∧
      data.take 32 = ([Reg.SAF_STATE, Reg.SAF_PAIRS, Reg.SAF_PAIR_FLT, Reg.SAF_FUNCS, Reg.SAF_OUTS, Reg.SAF_SAMPLE, Reg.SAF_CFG_SEQ, Reg.SAF_CFG_BANK].map (fun d => leBytes 4 (s.reg d))).flatten ∧
      (∀ k, k < 8 → slice data (32 + 4 * k) 4 = leBytes 4 (s.reg Reg.SAF_DIGEST [k])) ∧ (∀ p, p < 32 → slice data (64 + 4 * p) 4 = leBytes 4 (s.reg Reg.SAF_PAIR [p])) ∧
      (∀ f, f < 32 → slice data (192 + 4 * f) 4 = leBytes 4 (s.reg Reg.SAF_FUNC [f])) ∧ (∀ n, n < 12 → slice data (320 + 4 * n) 4 = leBytes 4 (s.reg Reg.SAF_OUT [n]))) ∧
    (ref.bufLen < 1512 → exec (.safCfgRead ref args) s = .next (s.complete (opRef ref 0x0D02) .invalid)) ∧
    (1512 ≤ ref.bufLen → Admitted s 0x0D02 →
      (s.saf.cfg = none → exec (.safCfgRead ref args) s = .next (s.complete (opRef ref 0x0D02) .ok)) ∧
      (∀ c, s.saf.cfg = some c → exec (.safCfgRead ref args) s = .next (s.complete (opRef ref 0x0D02) .ok 0 0 (c.bytes ++ leBytes 4 c.bank ++ leBytes 4 c.seq ++ c.digest)))) ∧
    (let first := s.saf.logSeq + 1 - s.saf.log.length
     let n := argN args 0
     let c := argN args 1
     let r := opRef ref 0x0D03
     let o := exec (.safLogRead ref args) s
     (args.length < 2 ∨ n < first ∨ s.saf.logSeq < n → o = .next (s.complete r .invalid)) ∧
     (2 ≤ args.length → first ≤ n → n ≤ s.saf.logSeq →
       (c = 0 ∨ 64 < c → o = .next (s.complete r .invalid 1)) ∧
       (1 ≤ c → c ≤ 64 → ref.bufLen < 64 * c → o = .next (s.complete r .invalid)) ∧
       (1 ≤ c → c ≤ 64 → 64 * c ≤ ref.bufLen → Admitted s 0x0D03 → o = .next (s.complete r .ok 0 0 ((s.saf.log.drop (n - first)).take c).flatten))))

end Sys2Proof.Claims

/-- A safety change needs the password and the approvals of two authorities, and the island's commands read and withdraw as chapter 16 says. SAF_PROPOSE, SAF_PASSWORD and SAF_RESTART refuse malformed arguments, sets that fail a check and passwords as chapter 16 says, and else create one proposal; the fifth wrong password locks passwords out. An approval needs the pending digest, a good signature of an authority, and for the second another authority in the modes that R425 names; only then the change is carried out. Expiry and cancel withdraw with a log entry; a lockout ends after 10 minutes. The reads return registers, set and log. DETAIL of these refusals and the argument layouts are the model's reading (log entries 2 and 14). -/
def Obligations.SafetyChangesNeedPasswordAndTwoApprovals : Prop :=
  ProposalsNeedThePassword ∧ ApprovalsNeedTwoAuthorities ∧ ProposalsAndLockoutsEnd ∧ SafReadsReturn
end

