-- ==== Sys2Proof/Laws/Bits.lean ====
section
/-! SUPPORT. Laws of the sparse tables, of bit fields and of byte lists. -/

namespace Sys2Proof

/-! Sparse tables. -/

@[simp] theorem Tab.look_put_same {α : Type} (t : Tab α) (a : Nat) (x : α) : (t.put a x).look a = some x := by
  induction t with
  | nil => simp [Tab.put, Tab.look]
  | cons e t ih =>
    obtain ⟨k, v⟩ := e
    simp only [Tab.put]
    split
    · simp [Tab.look]
    · split
      · simp [Tab.look]
      · rename_i h _; simp [Tab.look, h, ih]

theorem Tab.look_put_ne {α : Type} (t : Tab α) (a b : Nat) (x : α) (h : b ≠ a) : (t.put a x).look b = t.look b := by
  induction t with
  | nil => simp [Tab.put, Tab.look, Ne.symm h]
  | cons e t ih =>
    obtain ⟨k, v⟩ := e
    simp only [Tab.put]
    split
    · rename_i hk; subst hk; simp [Tab.look, Ne.symm h]
    · split
      · simp [Tab.look, Ne.symm h]
      · simp [Tab.look, ih]

@[simp] theorem Tab.look_drop_same {α : Type} (t : Tab α) (a : Nat) : (t.drop' a).look a = none := by
  induction t with
  | nil => rfl
  | cons e t ih =>
    obtain ⟨k, v⟩ := e
    simp only [Tab.drop']
    split
    · exact ih
    · rename_i h; simp [Tab.look, h, ih]

theorem Tab.look_drop_ne {α : Type} (t : Tab α) (a b : Nat) (h : b ≠ a) : (t.drop' a).look b = t.look b := by
  induction t with
  | nil => rfl
  | cons e t ih =>
    obtain ⟨k, v⟩ := e
    simp only [Tab.drop']
    split
    · rename_i hk; subst hk; simp [Tab.look, Ne.symm h, ih]
    · simp [Tab.look, ih]

@[simp] theorem Tab.at_put_same {α : Type} (t : Tab α) (a : Nat) (x d : α) : (t.put a x).at' a d = x := by simp [Tab.at']

theorem Tab.at_put_ne {α : Type} (t : Tab α) (a b : Nat) (x d : α) (h : b ≠ a) : (t.put a x).at' b d = t.at' b d := by
  simp [Tab.at', Tab.look_put_ne t a b x h]

@[simp] theorem Tab.at_upd_same {α : Type} (t : Tab α) (a : Nat) (d : α) (f : α → α) : (t.upd a d f).at' a d = f (t.at' a d) := by simp [Tab.upd]

theorem Tab.at_upd_ne {α : Type} (t : Tab α) (a b : Nat) (d e : α) (f : α → α) (h : b ≠ a) : (t.upd a d f).at' b e = t.at' b e := by
  simp [Tab.upd, Tab.at_put_ne _ _ _ _ _ h]

/-- What is stored at a key is read there, with the table's default. -/
@[simp] theorem Tab.at_store_same {α : Type} [DecidableEq α] (t : Tab α) (a : Nat) (x d : α) : (t.store d a x).at' a d = x := by
  unfold Tab.store
  split
  · rename_i h; simp [Tab.at', h]
  · simp

/-- A store leaves every other key alone. -/
theorem Tab.look_store_ne {α : Type} [DecidableEq α] (t : Tab α) (a b : Nat) (x d : α) (h : b ≠ a) : (t.store d a x).look b = t.look b := by
  unfold Tab.store
  split
  · exact Tab.look_drop_ne t a b h
  · exact Tab.look_put_ne t a b x h

theorem Tab.at_store_ne {α : Type} [DecidableEq α] (t : Tab α) (a b : Nat) (x d e : α) (h : b ≠ a) : (t.store d a x).at' b e = t.at' b e := by
  simp [Tab.at', Tab.look_store_ne t a b x d h]

/-! Canonical form. -/

theorem Tab.sortedFrom_mono {α : Type} (t : Tab α) (a b : Nat) (h : a ≤ b) (s : t.sortedFrom b = true) : t.sortedFrom a = true := by
  cases t with
  | nil => rfl
  | cons e t => simp only [Tab.sortedFrom, Bool.and_eq_true, decide_eq_true_eq] at *; exact ⟨by omega, s.2⟩

theorem Tab.sortedFrom_put {α : Type} (t : Tab α) (b a : Nat) (x : α) (h : b ≤ a) (s : t.sortedFrom b = true) : (t.put a x).sortedFrom b = true := by
  induction t generalizing b with
  | nil => simp [Tab.put, Tab.sortedFrom, h]
  | cons e t ih =>
    obtain ⟨k, v⟩ := e
    simp only [Tab.sortedFrom, Bool.and_eq_true, decide_eq_true_eq] at s
    simp only [Tab.put]
    split
    · rename_i hk; subst hk; simp [Tab.sortedFrom, h, s.2]
    · split
      · simp only [Tab.sortedFrom, Bool.and_eq_true, decide_eq_true_eq]; exact ⟨h, by omega, s.2⟩
      · simp only [Tab.sortedFrom, Bool.and_eq_true, decide_eq_true_eq]
        exact ⟨s.1, ih (k + 1) (by omega) s.2⟩

theorem Tab.sortedFrom_drop {α : Type} (t : Tab α) (b a : Nat) (s : t.sortedFrom b = true) : (t.drop' a).sortedFrom b = true := by
  induction t generalizing b with
  | nil => rfl
  | cons e t ih =>
    obtain ⟨k, v⟩ := e
    simp only [Tab.sortedFrom, Bool.and_eq_true, decide_eq_true_eq] at s
    simp only [Tab.drop']
    split
    · exact Tab.sortedFrom_mono _ b (k + 1) (by omega) (ih (k + 1) s.2)
    · simp only [Tab.sortedFrom, Bool.and_eq_true, decide_eq_true_eq]; exact ⟨s.1, ih (k + 1) s.2⟩

theorem Tab.all_put {α : Type} (p : Nat × α → Bool) (t : Tab α) (a : Nat) (x : α) (h : p (a, x) = true) (s : t.all p = true) : (t.put a x).all p = true := by
  induction t with
  | nil => simp [Tab.put, h]
  | cons e t ih =>
    obtain ⟨k, v⟩ := e
    simp only [List.all_cons, Bool.and_eq_true] at s
    simp only [Tab.put]
    split
    · simp [h, s.2]
    · split
      · simp only [List.all_cons, Bool.and_eq_true]; exact ⟨h, s.1, s.2⟩
      · simp only [List.all_cons, Bool.and_eq_true]; exact ⟨s.1, ih s.2⟩

theorem Tab.all_drop {α : Type} (p : Nat × α → Bool) (t : Tab α) (a : Nat) (s : t.all p = true) : (t.drop' a).all p = true := by
  induction t with
  | nil => rfl
  | cons e t ih =>
    obtain ⟨k, v⟩ := e
    simp only [List.all_cons, Bool.and_eq_true] at s
    simp only [Tab.drop']
    split
    · exact ih s.2
    · simp only [List.all_cons, Bool.and_eq_true]; exact ⟨s.1, ih s.2⟩

/-- A store keeps the canonical form. -/
theorem Tab.wf_store {α : Type} [DecidableEq α] (d : α) (t : Tab α) (a : Nat) (x : α) (s : t.wf d = true) : (t.store d a x).wf d = true := by
  simp only [Tab.wf, Bool.and_eq_true] at *
  unfold Tab.store
  split
  · exact ⟨Tab.sortedFrom_drop t 0 a s.1, Tab.all_drop _ t a s.2⟩
  · rename_i h
    exact ⟨Tab.sortedFrom_put t 0 a x (Nat.zero_le a) s.1, Tab.all_put _ t a x (by simpa using h) s.2⟩

theorem Tab.sortedFrom_bound {α : Type} (t : Tab α) (b a : Nat) (h : a < b) (s : t.sortedFrom b = true) : t.look a = none := by
  induction t generalizing b with
  | nil => rfl
  | cons e t ih =>
    obtain ⟨k, v⟩ := e
    simp only [Tab.sortedFrom, Bool.and_eq_true, decide_eq_true_eq] at s
    have : k ≠ a := by omega
    simp [Tab.look, this, ih (k + 1) (by omega) s.2]

/-- Two tables in canonical form that read alike at every key are equal. -/
theorem Tab.wf_ext {α : Type} [DecidableEq α] (d : α) (t u : Tab α) (ht : t.wf d = true) (hu : u.wf d = true)
    (h : ∀ a, t.at' a d = u.at' a d) : t = u := by
  simp only [Tab.wf, Bool.and_eq_true] at ht hu
  suffices H : ∀ (t u : Tab α) (b : Nat), t.sortedFrom b = true → u.sortedFrom b = true → t.all (fun e => decide (e.2 ≠ d)) = true →
      u.all (fun e => decide (e.2 ≠ d)) = true → (∀ a, t.at' a d = u.at' a d) → t = u from H t u 0 ht.1 hu.1 ht.2 hu.2 h
  intro t
  induction t with
  | nil =>
    intro u b _ _ _ hu h
    cases u with
    | nil => rfl
    | cons e u =>
      obtain ⟨k, v⟩ := e
      have := h k
      simp [Tab.at', Tab.look] at this
      simp [this] at hu
  | cons e t ih =>
    obtain ⟨k, v⟩ := e
    intro u b st su at_ au h
    cases u with
    | nil => have := h k; simp [Tab.at', Tab.look] at this; simp [this] at at_
    | cons f u =>
      obtain ⟨l, w⟩ := f
      simp only [Tab.sortedFrom, Bool.and_eq_true, decide_eq_true_eq] at st su
      simp only [List.all_cons, Bool.and_eq_true, decide_eq_true_eq] at at_ au
      have hk : k = l := by
        rcases Nat.lt_trichotomy k l with c | c | c
        · have := h k
          simp [Tab.at', Tab.look, show l ≠ k by omega, Tab.sortedFrom_bound u (l + 1) k (by omega) su.2] at this
          exact absurd this at_.1
        · exact c
        · have := h l
          simp [Tab.at', Tab.look, show k ≠ l by omega, Tab.sortedFrom_bound t (k + 1) l (by omega) st.2] at this
          exact absurd this.symm au.1
      subst hk
      have hv : v = w := by have := h k; simpa [Tab.at', Tab.look] using this
      subst hv
      congr 1
      refine ih u (k + 1) st.2 su.2 at_.2 au.2 ?_
      intro a
      by_cases c : k = a
      · subst c
        simp [Tab.at', Tab.sortedFrom_bound _ _ _ (Nat.lt_succ_self k) st.2, Tab.sortedFrom_bound _ _ _ (Nat.lt_succ_self k) su.2]
      · have := h a; simpa [Tab.at', Tab.look, c] using this

/-! Bit fields. -/

theorem bitsOf_lt (x hi lo : Nat) : bitsOf x hi lo < 2 ^ (hi + 1 - lo) := Nat.mod_lt _ (by positivity)

/-- The high part, the field and the low part of a number. -/
theorem bits_split (x hi lo : Nat) : x = (x / 2 ^ lo / 2 ^ (hi + 1 - lo)) * 2 ^ (hi + 1 - lo) * 2 ^ lo + bitsOf x hi lo * 2 ^ lo + x % 2 ^ lo := by
  have a := Nat.div_add_mod x (2 ^ lo)
  have b := Nat.div_add_mod (x / 2 ^ lo) (2 ^ (hi + 1 - lo))
  unfold bitsOf
  calc x = 2 ^ lo * (x / 2 ^ lo) + x % 2 ^ lo := a.symm
    _ = 2 ^ lo * (2 ^ (hi + 1 - lo) * (x / 2 ^ lo / 2 ^ (hi + 1 - lo)) + x / 2 ^ lo % 2 ^ (hi + 1 - lo)) + x % 2 ^ lo := by rw [b]
    _ = _ := by ring

/-- What setBits leaves: the high part, the new field and the low part. -/
theorem setBits_eq (x hi lo v : Nat) :
    setBits x hi lo v = (x / 2 ^ lo / 2 ^ (hi + 1 - lo)) * 2 ^ (hi + 1 - lo) * 2 ^ lo + v % 2 ^ (hi + 1 - lo) * 2 ^ lo + x % 2 ^ lo := by
  have h := bits_split x hi lo
  unfold setBits
  omega

/-- A field that is set reads as the value set, its high bits lost. -/
@[simp] theorem bitsOf_setBits_same (x hi lo v : Nat) : bitsOf (setBits x hi lo v) hi lo = v % 2 ^ (hi + 1 - lo) := by
  rw [setBits_eq]
  unfold bitsOf
  have p : 0 < 2 ^ lo := by positivity
  have e : (x / 2 ^ lo / 2 ^ (hi + 1 - lo)) * 2 ^ (hi + 1 - lo) * 2 ^ lo + v % 2 ^ (hi + 1 - lo) * 2 ^ lo + x % 2 ^ lo =
      ((x / 2 ^ lo / 2 ^ (hi + 1 - lo)) * 2 ^ (hi + 1 - lo) + v % 2 ^ (hi + 1 - lo)) * 2 ^ lo + x % 2 ^ lo := by ring
  rw [e, Nat.add_comm, Nat.add_mul_div_right _ _ p, Nat.div_eq_of_lt (Nat.mod_lt _ p), Nat.zero_add, Nat.add_comm, Nat.add_mul_mod_self_right, Nat.mod_mod]

theorem setBits_lt (x hi lo v n : Nat) (hn : hi + 1 ≤ n) (hlo : lo ≤ hi + 1) (hx : x < 2 ^ n) : setBits x hi lo v < 2 ^ n := by
  have h := bits_split x hi lo
  have b : bitsOf x hi lo * 2 ^ lo ≤ x := by omega
  have hv : v % 2 ^ (hi + 1 - lo) < 2 ^ (hi + 1 - lo) := Nat.mod_lt _ (by positivity)
  have e : n = lo + (hi + 1 - lo) + (n - (hi + 1)) := by omega
  rw [setBits_eq]
  have q : x / 2 ^ lo / 2 ^ (hi + 1 - lo) < 2 ^ (n - (hi + 1)) := by
    rw [Nat.div_div_eq_div_mul, ← Nat.pow_add, Nat.div_lt_iff_lt_mul (by positivity), ← Nat.pow_add]
    have : n - (hi + 1) + (lo + (hi + 1 - lo)) = n := by omega
    rwa [this]
  have r : x % 2 ^ lo < 2 ^ lo := Nat.mod_lt _ (by positivity)
  have pe : 2 ^ n = 2 ^ (n - (hi + 1)) * 2 ^ (hi + 1 - lo) * 2 ^ lo := by rw [← Nat.pow_add, ← Nat.pow_add]; congr 1; omega
  rw [pe]
  calc _ < (x / 2 ^ lo / 2 ^ (hi + 1 - lo)) * 2 ^ (hi + 1 - lo) * 2 ^ lo + v % 2 ^ (hi + 1 - lo) * 2 ^ lo + 2 ^ lo := by omega
    _ = (x / 2 ^ lo / 2 ^ (hi + 1 - lo)) * 2 ^ (hi + 1 - lo) * 2 ^ lo + (v % 2 ^ (hi + 1 - lo) + 1) * 2 ^ lo := by ring
    _ ≤ (x / 2 ^ lo / 2 ^ (hi + 1 - lo)) * 2 ^ (hi + 1 - lo) * 2 ^ lo + 2 ^ (hi + 1 - lo) * 2 ^ lo := by gcongr; omega
    _ = ((x / 2 ^ lo / 2 ^ (hi + 1 - lo)) + 1) * 2 ^ (hi + 1 - lo) * 2 ^ lo := by ring
    _ ≤ 2 ^ (n - (hi + 1)) * 2 ^ (hi + 1 - lo) * 2 ^ lo := by gcongr; omega

/-! Byte lists. -/

@[simp] theorem length_leBytes (n x : Nat) : (leBytes n x).length = n := by
  induction n generalizing x with
  | zero => rfl
  | succ n ih => simp [leBytes, ih]

/-- Bytes written and read back little-endian give the number, its high bytes lost. -/
@[simp] theorem leNat_leBytes (n x : Nat) : leNat (leBytes n x) = x % 256 ^ n := by
  induction n generalizing x with
  | zero => simp [leBytes, leNat, Nat.mod_one]
  | succ n ih =>
    have e : (BitVec.ofNat 8 x).toNat = x % 256 := by simp
    simp only [leBytes, leNat, ih, e]
    rw [Nat.pow_succ', Nat.mod_mul]

theorem leNat_lt (l : List Byte) : leNat l < 256 ^ l.length := by
  induction l with
  | nil => simp [leNat]
  | cons b t ih =>
    have := b.isLt
    simp only [leNat, List.length_cons, Nat.pow_succ']
    omega

@[simp] theorem length_slice (l : List Byte) (off n : Nat) : (slice l off n).length = n := by
  simp [slice]

/-! Folds. -/

/-- A property that each round keeps holds after the fold over 0 to n − 1. -/
theorem forN_keep {α : Type} (p : α → Prop) (n : Nat) (f : Nat → α → α) (a : α) (h : p a) (k : ∀ i x, i < n → p x → p (f i x)) : p (forN n f a) := by
  induction n with
  | zero => exact h
  | succ n ih => exact k n _ (Nat.lt_succ_self n) (ih (fun i x hi hx => k i x (by omega) hx))

/-- A property that each element keeps holds after the fold over a list. -/
theorem forL_keep {β α : Type} (p : α → Prop) (l : List β) (f : β → α → α) (a : α) (h : p a) (k : ∀ b x, b ∈ l → p x → p (f b x)) : p (forL l f a) := by
  unfold forL
  induction l generalizing a with
  | nil => exact h
  | cons b t ih =>
    simp only [List.foldl_cons]
    exact ih _ (k b a (by simp) h) (fun c x hc hx => k c x (by simp [hc]) hx)

end Sys2Proof
end

