-- ==== Sys2Proof/Laws/State.lean ====
section
/-! SUPPORT. What each update of State leaves as it was: one lemma for each field and each update. -/

namespace Sys2Proof.Machine

variable (s : State)

/-! setReg -/

@[simp] theorem State.setReg_pending (d : RegDesc) (v : Nat) (ix : List Nat) : (s.setReg d v ix).pending = s.pending := rfl
@[simp] theorem State.setReg_host (d : RegDesc) (v : Nat) (ix : List Nat) : (s.setReg d v ix).host = s.host := rfl
@[simp] theorem State.setReg_ctr (d : RegDesc) (v : Nat) (ix : List Nat) : (s.setReg d v ix).ctr = s.ctr := rfl
@[simp] theorem State.setReg_time (d : RegDesc) (v : Nat) (ix : List Nat) : (s.setReg d v ix).time = s.time := rfl
@[simp] theorem State.setReg_img (d : RegDesc) (v : Nat) (ix : List Nat) : (s.setReg d v ix).img = s.img := rfl
@[simp] theorem State.setReg_pts (d : RegDesc) (v : Nat) (ix : List Nat) : (s.setReg d v ix).pts = s.pts := rfl
@[simp] theorem State.setReg_fab (d : RegDesc) (v : Nat) (ix : List Nat) : (s.setReg d v ix).fab = s.fab := rfl
@[simp] theorem State.setReg_loops (d : RegDesc) (v : Nat) (ix : List Nat) : (s.setReg d v ix).loops = s.loops := rfl
@[simp] theorem State.setReg_axes (d : RegDesc) (v : Nat) (ix : List Nat) : (s.setReg d v ix).axes = s.axes := rfl
@[simp] theorem State.setReg_pgs (d : RegDesc) (v : Nat) (ix : List Nat) : (s.setReg d v ix).pgs = s.pgs := rfl
@[simp] theorem State.setReg_seqs (d : RegDesc) (v : Nat) (ix : List Nat) : (s.setReg d v ix).seqs = s.seqs := rfl
@[simp] theorem State.setReg_logics (d : RegDesc) (v : Nat) (ix : List Nat) : (s.setReg d v ix).logics = s.logics := rfl
@[simp] theorem State.setReg_cut (d : RegDesc) (v : Nat) (ix : List Nat) : (s.setReg d v ix).cut = s.cut := rfl
@[simp] theorem State.setReg_fast (d : RegDesc) (v : Nat) (ix : List Nat) : (s.setReg d v ix).fast = s.fast := rfl
@[simp] theorem State.setReg_key (d : RegDesc) (v : Nat) (ix : List Nat) : (s.setReg d v ix).key = s.key := rfl
@[simp] theorem State.setReg_hist (d : RegDesc) (v : Nat) (ix : List Nat) : (s.setReg d v ix).hist = s.hist := rfl
@[simp] theorem State.setReg_acq (d : RegDesc) (v : Nat) (ix : List Nat) : (s.setReg d v ix).acq = s.acq := rfl
@[simp] theorem State.setReg_conv (d : RegDesc) (v : Nat) (ix : List Nat) : (s.setReg d v ix).conv = s.conv := rfl
@[simp] theorem State.setReg_field (d : RegDesc) (v : Nat) (ix : List Nat) : (s.setReg d v ix).field = s.field := rfl
@[simp] theorem State.setReg_link (d : RegDesc) (v : Nat) (ix : List Nat) : (s.setReg d v ix).link = s.link := rfl
@[simp] theorem State.setReg_pair (d : RegDesc) (v : Nat) (ix : List Nat) : (s.setReg d v ix).pair = s.pair := rfl
@[simp] theorem State.setReg_sec (d : RegDesc) (v : Nat) (ix : List Nat) : (s.setReg d v ix).sec = s.sec := rfl
@[simp] theorem State.setReg_saf (d : RegDesc) (v : Nat) (ix : List Nat) : (s.setReg d v ix).saf = s.saf := rfl
@[simp] theorem State.setReg_recd (d : RegDesc) (v : Nat) (ix : List Nat) : (s.setReg d v ix).recd = s.recd := rfl
@[simp] theorem State.setReg_age (d : RegDesc) (v : Nat) (ix : List Nat) : (s.setReg d v ix).age = s.age := rfl
@[simp] theorem State.setReg_power (d : RegDesc) (v : Nat) (ix : List Nat) : (s.setReg d v ix).power = s.power := rfl
@[simp] theorem State.setReg_fresh (d : RegDesc) (v : Nat) (ix : List Nat) : (s.setReg d v ix).fresh = s.fresh := rfl

/-! wr -/

@[simp] theorem State.wr_pending (f : Fld) (v : Nat) (ix : List Nat) : (s.wr f v ix).pending = s.pending := rfl
@[simp] theorem State.wr_host (f : Fld) (v : Nat) (ix : List Nat) : (s.wr f v ix).host = s.host := rfl
@[simp] theorem State.wr_ctr (f : Fld) (v : Nat) (ix : List Nat) : (s.wr f v ix).ctr = s.ctr := rfl
@[simp] theorem State.wr_time (f : Fld) (v : Nat) (ix : List Nat) : (s.wr f v ix).time = s.time := rfl
@[simp] theorem State.wr_img (f : Fld) (v : Nat) (ix : List Nat) : (s.wr f v ix).img = s.img := rfl
@[simp] theorem State.wr_pts (f : Fld) (v : Nat) (ix : List Nat) : (s.wr f v ix).pts = s.pts := rfl
@[simp] theorem State.wr_fab (f : Fld) (v : Nat) (ix : List Nat) : (s.wr f v ix).fab = s.fab := rfl
@[simp] theorem State.wr_loops (f : Fld) (v : Nat) (ix : List Nat) : (s.wr f v ix).loops = s.loops := rfl
@[simp] theorem State.wr_axes (f : Fld) (v : Nat) (ix : List Nat) : (s.wr f v ix).axes = s.axes := rfl
@[simp] theorem State.wr_pgs (f : Fld) (v : Nat) (ix : List Nat) : (s.wr f v ix).pgs = s.pgs := rfl
@[simp] theorem State.wr_seqs (f : Fld) (v : Nat) (ix : List Nat) : (s.wr f v ix).seqs = s.seqs := rfl
@[simp] theorem State.wr_logics (f : Fld) (v : Nat) (ix : List Nat) : (s.wr f v ix).logics = s.logics := rfl
@[simp] theorem State.wr_cut (f : Fld) (v : Nat) (ix : List Nat) : (s.wr f v ix).cut = s.cut := rfl
@[simp] theorem State.wr_fast (f : Fld) (v : Nat) (ix : List Nat) : (s.wr f v ix).fast = s.fast := rfl
@[simp] theorem State.wr_key (f : Fld) (v : Nat) (ix : List Nat) : (s.wr f v ix).key = s.key := rfl
@[simp] theorem State.wr_hist (f : Fld) (v : Nat) (ix : List Nat) : (s.wr f v ix).hist = s.hist := rfl
@[simp] theorem State.wr_acq (f : Fld) (v : Nat) (ix : List Nat) : (s.wr f v ix).acq = s.acq := rfl
@[simp] theorem State.wr_conv (f : Fld) (v : Nat) (ix : List Nat) : (s.wr f v ix).conv = s.conv := rfl
@[simp] theorem State.wr_field (f : Fld) (v : Nat) (ix : List Nat) : (s.wr f v ix).field = s.field := rfl
@[simp] theorem State.wr_link (f : Fld) (v : Nat) (ix : List Nat) : (s.wr f v ix).link = s.link := rfl
@[simp] theorem State.wr_pair (f : Fld) (v : Nat) (ix : List Nat) : (s.wr f v ix).pair = s.pair := rfl
@[simp] theorem State.wr_sec (f : Fld) (v : Nat) (ix : List Nat) : (s.wr f v ix).sec = s.sec := rfl
@[simp] theorem State.wr_saf (f : Fld) (v : Nat) (ix : List Nat) : (s.wr f v ix).saf = s.saf := rfl
@[simp] theorem State.wr_recd (f : Fld) (v : Nat) (ix : List Nat) : (s.wr f v ix).recd = s.recd := rfl
@[simp] theorem State.wr_age (f : Fld) (v : Nat) (ix : List Nat) : (s.wr f v ix).age = s.age := rfl
@[simp] theorem State.wr_power (f : Fld) (v : Nat) (ix : List Nat) : (s.wr f v ix).power = s.power := rfl
@[simp] theorem State.wr_fresh (f : Fld) (v : Nat) (ix : List Nat) : (s.wr f v ix).fresh = s.fresh := rfl

/-! wrb -/

@[simp] theorem State.wrb_pending (f : Fld) (v : Bool) (ix : List Nat) : (s.wrb f v ix).pending = s.pending := rfl
@[simp] theorem State.wrb_host (f : Fld) (v : Bool) (ix : List Nat) : (s.wrb f v ix).host = s.host := rfl
@[simp] theorem State.wrb_ctr (f : Fld) (v : Bool) (ix : List Nat) : (s.wrb f v ix).ctr = s.ctr := rfl
@[simp] theorem State.wrb_time (f : Fld) (v : Bool) (ix : List Nat) : (s.wrb f v ix).time = s.time := rfl
@[simp] theorem State.wrb_img (f : Fld) (v : Bool) (ix : List Nat) : (s.wrb f v ix).img = s.img := rfl
@[simp] theorem State.wrb_pts (f : Fld) (v : Bool) (ix : List Nat) : (s.wrb f v ix).pts = s.pts := rfl
@[simp] theorem State.wrb_fab (f : Fld) (v : Bool) (ix : List Nat) : (s.wrb f v ix).fab = s.fab := rfl
@[simp] theorem State.wrb_loops (f : Fld) (v : Bool) (ix : List Nat) : (s.wrb f v ix).loops = s.loops := rfl
@[simp] theorem State.wrb_axes (f : Fld) (v : Bool) (ix : List Nat) : (s.wrb f v ix).axes = s.axes := rfl
@[simp] theorem State.wrb_pgs (f : Fld) (v : Bool) (ix : List Nat) : (s.wrb f v ix).pgs = s.pgs := rfl
@[simp] theorem State.wrb_seqs (f : Fld) (v : Bool) (ix : List Nat) : (s.wrb f v ix).seqs = s.seqs := rfl
@[simp] theorem State.wrb_logics (f : Fld) (v : Bool) (ix : List Nat) : (s.wrb f v ix).logics = s.logics := rfl
@[simp] theorem State.wrb_cut (f : Fld) (v : Bool) (ix : List Nat) : (s.wrb f v ix).cut = s.cut := rfl
@[simp] theorem State.wrb_fast (f : Fld) (v : Bool) (ix : List Nat) : (s.wrb f v ix).fast = s.fast := rfl
@[simp] theorem State.wrb_key (f : Fld) (v : Bool) (ix : List Nat) : (s.wrb f v ix).key = s.key := rfl
@[simp] theorem State.wrb_hist (f : Fld) (v : Bool) (ix : List Nat) : (s.wrb f v ix).hist = s.hist := rfl
@[simp] theorem State.wrb_acq (f : Fld) (v : Bool) (ix : List Nat) : (s.wrb f v ix).acq = s.acq := rfl
@[simp] theorem State.wrb_conv (f : Fld) (v : Bool) (ix : List Nat) : (s.wrb f v ix).conv = s.conv := rfl
@[simp] theorem State.wrb_field (f : Fld) (v : Bool) (ix : List Nat) : (s.wrb f v ix).field = s.field := rfl
@[simp] theorem State.wrb_link (f : Fld) (v : Bool) (ix : List Nat) : (s.wrb f v ix).link = s.link := rfl
@[simp] theorem State.wrb_pair (f : Fld) (v : Bool) (ix : List Nat) : (s.wrb f v ix).pair = s.pair := rfl
@[simp] theorem State.wrb_sec (f : Fld) (v : Bool) (ix : List Nat) : (s.wrb f v ix).sec = s.sec := rfl
@[simp] theorem State.wrb_saf (f : Fld) (v : Bool) (ix : List Nat) : (s.wrb f v ix).saf = s.saf := rfl
@[simp] theorem State.wrb_recd (f : Fld) (v : Bool) (ix : List Nat) : (s.wrb f v ix).recd = s.recd := rfl
@[simp] theorem State.wrb_age (f : Fld) (v : Bool) (ix : List Nat) : (s.wrb f v ix).age = s.age := rfl
@[simp] theorem State.wrb_power (f : Fld) (v : Bool) (ix : List Nat) : (s.wrb f v ix).power = s.power := rfl
@[simp] theorem State.wrb_fresh (f : Fld) (v : Bool) (ix : List Nat) : (s.wrb f v ix).fresh = s.fresh := rfl

/-! incWrap -/

@[simp] theorem State.incWrap_pending (f : Fld) (ix : List Nat) (n : Nat) : (s.incWrap f ix n).pending = s.pending := rfl
@[simp] theorem State.incWrap_host (f : Fld) (ix : List Nat) (n : Nat) : (s.incWrap f ix n).host = s.host := rfl
@[simp] theorem State.incWrap_ctr (f : Fld) (ix : List Nat) (n : Nat) : (s.incWrap f ix n).ctr = s.ctr := rfl
@[simp] theorem State.incWrap_time (f : Fld) (ix : List Nat) (n : Nat) : (s.incWrap f ix n).time = s.time := rfl
@[simp] theorem State.incWrap_img (f : Fld) (ix : List Nat) (n : Nat) : (s.incWrap f ix n).img = s.img := rfl
@[simp] theorem State.incWrap_pts (f : Fld) (ix : List Nat) (n : Nat) : (s.incWrap f ix n).pts = s.pts := rfl
@[simp] theorem State.incWrap_fab (f : Fld) (ix : List Nat) (n : Nat) : (s.incWrap f ix n).fab = s.fab := rfl
@[simp] theorem State.incWrap_loops (f : Fld) (ix : List Nat) (n : Nat) : (s.incWrap f ix n).loops = s.loops := rfl
@[simp] theorem State.incWrap_axes (f : Fld) (ix : List Nat) (n : Nat) : (s.incWrap f ix n).axes = s.axes := rfl
@[simp] theorem State.incWrap_pgs (f : Fld) (ix : List Nat) (n : Nat) : (s.incWrap f ix n).pgs = s.pgs := rfl
@[simp] theorem State.incWrap_seqs (f : Fld) (ix : List Nat) (n : Nat) : (s.incWrap f ix n).seqs = s.seqs := rfl
@[simp] theorem State.incWrap_logics (f : Fld) (ix : List Nat) (n : Nat) : (s.incWrap f ix n).logics = s.logics := rfl
@[simp] theorem State.incWrap_cut (f : Fld) (ix : List Nat) (n : Nat) : (s.incWrap f ix n).cut = s.cut := rfl
@[simp] theorem State.incWrap_fast (f : Fld) (ix : List Nat) (n : Nat) : (s.incWrap f ix n).fast = s.fast := rfl
@[simp] theorem State.incWrap_key (f : Fld) (ix : List Nat) (n : Nat) : (s.incWrap f ix n).key = s.key := rfl
@[simp] theorem State.incWrap_hist (f : Fld) (ix : List Nat) (n : Nat) : (s.incWrap f ix n).hist = s.hist := rfl
@[simp] theorem State.incWrap_acq (f : Fld) (ix : List Nat) (n : Nat) : (s.incWrap f ix n).acq = s.acq := rfl
@[simp] theorem State.incWrap_conv (f : Fld) (ix : List Nat) (n : Nat) : (s.incWrap f ix n).conv = s.conv := rfl
@[simp] theorem State.incWrap_field (f : Fld) (ix : List Nat) (n : Nat) : (s.incWrap f ix n).field = s.field := rfl
@[simp] theorem State.incWrap_link (f : Fld) (ix : List Nat) (n : Nat) : (s.incWrap f ix n).link = s.link := rfl
@[simp] theorem State.incWrap_pair (f : Fld) (ix : List Nat) (n : Nat) : (s.incWrap f ix n).pair = s.pair := rfl
@[simp] theorem State.incWrap_sec (f : Fld) (ix : List Nat) (n : Nat) : (s.incWrap f ix n).sec = s.sec := rfl
@[simp] theorem State.incWrap_saf (f : Fld) (ix : List Nat) (n : Nat) : (s.incWrap f ix n).saf = s.saf := rfl
@[simp] theorem State.incWrap_recd (f : Fld) (ix : List Nat) (n : Nat) : (s.incWrap f ix n).recd = s.recd := rfl
@[simp] theorem State.incWrap_age (f : Fld) (ix : List Nat) (n : Nat) : (s.incWrap f ix n).age = s.age := rfl
@[simp] theorem State.incWrap_power (f : Fld) (ix : List Nat) (n : Nat) : (s.incWrap f ix n).power = s.power := rfl
@[simp] theorem State.incWrap_fresh (f : Fld) (ix : List Nat) (n : Nat) : (s.incWrap f ix n).fresh = s.fresh := rfl

/-! incHold -/

@[simp] theorem State.incHold_pending (f : Fld) (ix : List Nat) (n : Nat) : (s.incHold f ix n).pending = s.pending := rfl
@[simp] theorem State.incHold_host (f : Fld) (ix : List Nat) (n : Nat) : (s.incHold f ix n).host = s.host := rfl
@[simp] theorem State.incHold_ctr (f : Fld) (ix : List Nat) (n : Nat) : (s.incHold f ix n).ctr = s.ctr := rfl
@[simp] theorem State.incHold_time (f : Fld) (ix : List Nat) (n : Nat) : (s.incHold f ix n).time = s.time := rfl
@[simp] theorem State.incHold_img (f : Fld) (ix : List Nat) (n : Nat) : (s.incHold f ix n).img = s.img := rfl
@[simp] theorem State.incHold_pts (f : Fld) (ix : List Nat) (n : Nat) : (s.incHold f ix n).pts = s.pts := rfl
@[simp] theorem State.incHold_fab (f : Fld) (ix : List Nat) (n : Nat) : (s.incHold f ix n).fab = s.fab := rfl
@[simp] theorem State.incHold_loops (f : Fld) (ix : List Nat) (n : Nat) : (s.incHold f ix n).loops = s.loops := rfl
@[simp] theorem State.incHold_axes (f : Fld) (ix : List Nat) (n : Nat) : (s.incHold f ix n).axes = s.axes := rfl
@[simp] theorem State.incHold_pgs (f : Fld) (ix : List Nat) (n : Nat) : (s.incHold f ix n).pgs = s.pgs := rfl
@[simp] theorem State.incHold_seqs (f : Fld) (ix : List Nat) (n : Nat) : (s.incHold f ix n).seqs = s.seqs := rfl
@[simp] theorem State.incHold_logics (f : Fld) (ix : List Nat) (n : Nat) : (s.incHold f ix n).logics = s.logics := rfl
@[simp] theorem State.incHold_cut (f : Fld) (ix : List Nat) (n : Nat) : (s.incHold f ix n).cut = s.cut := rfl
@[simp] theorem State.incHold_fast (f : Fld) (ix : List Nat) (n : Nat) : (s.incHold f ix n).fast = s.fast := rfl
@[simp] theorem State.incHold_key (f : Fld) (ix : List Nat) (n : Nat) : (s.incHold f ix n).key = s.key := rfl
@[simp] theorem State.incHold_hist (f : Fld) (ix : List Nat) (n : Nat) : (s.incHold f ix n).hist = s.hist := rfl
@[simp] theorem State.incHold_acq (f : Fld) (ix : List Nat) (n : Nat) : (s.incHold f ix n).acq = s.acq := rfl
@[simp] theorem State.incHold_conv (f : Fld) (ix : List Nat) (n : Nat) : (s.incHold f ix n).conv = s.conv := rfl
@[simp] theorem State.incHold_field (f : Fld) (ix : List Nat) (n : Nat) : (s.incHold f ix n).field = s.field := rfl
@[simp] theorem State.incHold_link (f : Fld) (ix : List Nat) (n : Nat) : (s.incHold f ix n).link = s.link := rfl
@[simp] theorem State.incHold_pair (f : Fld) (ix : List Nat) (n : Nat) : (s.incHold f ix n).pair = s.pair := rfl
@[simp] theorem State.incHold_sec (f : Fld) (ix : List Nat) (n : Nat) : (s.incHold f ix n).sec = s.sec := rfl
@[simp] theorem State.incHold_saf (f : Fld) (ix : List Nat) (n : Nat) : (s.incHold f ix n).saf = s.saf := rfl
@[simp] theorem State.incHold_recd (f : Fld) (ix : List Nat) (n : Nat) : (s.incHold f ix n).recd = s.recd := rfl
@[simp] theorem State.incHold_age (f : Fld) (ix : List Nat) (n : Nat) : (s.incHold f ix n).age = s.age := rfl
@[simp] theorem State.incHold_power (f : Fld) (ix : List Nat) (n : Nat) : (s.incHold f ix n).power = s.power := rfl
@[simp] theorem State.incHold_fresh (f : Fld) (ix : List Nat) (n : Nat) : (s.incHold f ix n).fresh = s.fresh := rfl

/-! wr64 -/

@[simp] theorem State.wr64_pending (f g : Fld) (v : Nat) (ix : List Nat) : (s.wr64 f g v ix).pending = s.pending := rfl
@[simp] theorem State.wr64_host (f g : Fld) (v : Nat) (ix : List Nat) : (s.wr64 f g v ix).host = s.host := rfl
@[simp] theorem State.wr64_ctr (f g : Fld) (v : Nat) (ix : List Nat) : (s.wr64 f g v ix).ctr = s.ctr := rfl
@[simp] theorem State.wr64_time (f g : Fld) (v : Nat) (ix : List Nat) : (s.wr64 f g v ix).time = s.time := rfl
@[simp] theorem State.wr64_img (f g : Fld) (v : Nat) (ix : List Nat) : (s.wr64 f g v ix).img = s.img := rfl
@[simp] theorem State.wr64_pts (f g : Fld) (v : Nat) (ix : List Nat) : (s.wr64 f g v ix).pts = s.pts := rfl
@[simp] theorem State.wr64_fab (f g : Fld) (v : Nat) (ix : List Nat) : (s.wr64 f g v ix).fab = s.fab := rfl
@[simp] theorem State.wr64_loops (f g : Fld) (v : Nat) (ix : List Nat) : (s.wr64 f g v ix).loops = s.loops := rfl
@[simp] theorem State.wr64_axes (f g : Fld) (v : Nat) (ix : List Nat) : (s.wr64 f g v ix).axes = s.axes := rfl
@[simp] theorem State.wr64_pgs (f g : Fld) (v : Nat) (ix : List Nat) : (s.wr64 f g v ix).pgs = s.pgs := rfl
@[simp] theorem State.wr64_seqs (f g : Fld) (v : Nat) (ix : List Nat) : (s.wr64 f g v ix).seqs = s.seqs := rfl
@[simp] theorem State.wr64_logics (f g : Fld) (v : Nat) (ix : List Nat) : (s.wr64 f g v ix).logics = s.logics := rfl
@[simp] theorem State.wr64_cut (f g : Fld) (v : Nat) (ix : List Nat) : (s.wr64 f g v ix).cut = s.cut := rfl
@[simp] theorem State.wr64_fast (f g : Fld) (v : Nat) (ix : List Nat) : (s.wr64 f g v ix).fast = s.fast := rfl
@[simp] theorem State.wr64_key (f g : Fld) (v : Nat) (ix : List Nat) : (s.wr64 f g v ix).key = s.key := rfl
@[simp] theorem State.wr64_hist (f g : Fld) (v : Nat) (ix : List Nat) : (s.wr64 f g v ix).hist = s.hist := rfl
@[simp] theorem State.wr64_acq (f g : Fld) (v : Nat) (ix : List Nat) : (s.wr64 f g v ix).acq = s.acq := rfl
@[simp] theorem State.wr64_conv (f g : Fld) (v : Nat) (ix : List Nat) : (s.wr64 f g v ix).conv = s.conv := rfl
@[simp] theorem State.wr64_field (f g : Fld) (v : Nat) (ix : List Nat) : (s.wr64 f g v ix).field = s.field := rfl
@[simp] theorem State.wr64_link (f g : Fld) (v : Nat) (ix : List Nat) : (s.wr64 f g v ix).link = s.link := rfl
@[simp] theorem State.wr64_pair (f g : Fld) (v : Nat) (ix : List Nat) : (s.wr64 f g v ix).pair = s.pair := rfl
@[simp] theorem State.wr64_sec (f g : Fld) (v : Nat) (ix : List Nat) : (s.wr64 f g v ix).sec = s.sec := rfl
@[simp] theorem State.wr64_saf (f g : Fld) (v : Nat) (ix : List Nat) : (s.wr64 f g v ix).saf = s.saf := rfl
@[simp] theorem State.wr64_recd (f g : Fld) (v : Nat) (ix : List Nat) : (s.wr64 f g v ix).recd = s.recd := rfl
@[simp] theorem State.wr64_age (f g : Fld) (v : Nat) (ix : List Nat) : (s.wr64 f g v ix).age = s.age := rfl
@[simp] theorem State.wr64_power (f g : Fld) (v : Nat) (ix : List Nat) : (s.wr64 f g v ix).power = s.power := rfl
@[simp] theorem State.wr64_fresh (f g : Fld) (v : Nat) (ix : List Nat) : (s.wr64 f g v ix).fresh = s.fresh := rfl

/-! count -/

@[simp] theorem State.count_pending (e n : Nat) : (s.count e n).pending = s.pending := rfl
@[simp] theorem State.count_regs (e n : Nat) : (s.count e n).regs = s.regs := rfl
@[simp] theorem State.count_host (e n : Nat) : (s.count e n).host = s.host := rfl
@[simp] theorem State.count_time (e n : Nat) : (s.count e n).time = s.time := rfl
@[simp] theorem State.count_img (e n : Nat) : (s.count e n).img = s.img := rfl
@[simp] theorem State.count_pts (e n : Nat) : (s.count e n).pts = s.pts := rfl
@[simp] theorem State.count_fab (e n : Nat) : (s.count e n).fab = s.fab := rfl
@[simp] theorem State.count_loops (e n : Nat) : (s.count e n).loops = s.loops := rfl
@[simp] theorem State.count_axes (e n : Nat) : (s.count e n).axes = s.axes := rfl
@[simp] theorem State.count_pgs (e n : Nat) : (s.count e n).pgs = s.pgs := rfl
@[simp] theorem State.count_seqs (e n : Nat) : (s.count e n).seqs = s.seqs := rfl
@[simp] theorem State.count_logics (e n : Nat) : (s.count e n).logics = s.logics := rfl
@[simp] theorem State.count_cut (e n : Nat) : (s.count e n).cut = s.cut := rfl
@[simp] theorem State.count_fast (e n : Nat) : (s.count e n).fast = s.fast := rfl
@[simp] theorem State.count_key (e n : Nat) : (s.count e n).key = s.key := rfl
@[simp] theorem State.count_hist (e n : Nat) : (s.count e n).hist = s.hist := rfl
@[simp] theorem State.count_acq (e n : Nat) : (s.count e n).acq = s.acq := rfl
@[simp] theorem State.count_conv (e n : Nat) : (s.count e n).conv = s.conv := rfl
@[simp] theorem State.count_field (e n : Nat) : (s.count e n).field = s.field := rfl
@[simp] theorem State.count_link (e n : Nat) : (s.count e n).link = s.link := rfl
@[simp] theorem State.count_pair (e n : Nat) : (s.count e n).pair = s.pair := rfl
@[simp] theorem State.count_sec (e n : Nat) : (s.count e n).sec = s.sec := rfl
@[simp] theorem State.count_saf (e n : Nat) : (s.count e n).saf = s.saf := rfl
@[simp] theorem State.count_recd (e n : Nat) : (s.count e n).recd = s.recd := rfl
@[simp] theorem State.count_age (e n : Nat) : (s.count e n).age = s.age := rfl
@[simp] theorem State.count_power (e n : Nat) : (s.count e n).power = s.power := rfl
@[simp] theorem State.count_fresh (e n : Nat) : (s.count e n).fresh = s.fresh := rfl

/-! logEvent -/

@[simp] theorem State.logEvent_pending (e : Nat) (v : Int) : (s.logEvent e v).pending = s.pending := rfl
@[simp] theorem State.logEvent_regs (e : Nat) (v : Int) : (s.logEvent e v).regs = s.regs := rfl
@[simp] theorem State.logEvent_host (e : Nat) (v : Int) : (s.logEvent e v).host = s.host := rfl
@[simp] theorem State.logEvent_ctr (e : Nat) (v : Int) : (s.logEvent e v).ctr = s.ctr := rfl
@[simp] theorem State.logEvent_time (e : Nat) (v : Int) : (s.logEvent e v).time = s.time := rfl
@[simp] theorem State.logEvent_img (e : Nat) (v : Int) : (s.logEvent e v).img = s.img := rfl
@[simp] theorem State.logEvent_pts (e : Nat) (v : Int) : (s.logEvent e v).pts = s.pts := rfl
@[simp] theorem State.logEvent_fab (e : Nat) (v : Int) : (s.logEvent e v).fab = s.fab := rfl
@[simp] theorem State.logEvent_loops (e : Nat) (v : Int) : (s.logEvent e v).loops = s.loops := rfl
@[simp] theorem State.logEvent_axes (e : Nat) (v : Int) : (s.logEvent e v).axes = s.axes := rfl
@[simp] theorem State.logEvent_pgs (e : Nat) (v : Int) : (s.logEvent e v).pgs = s.pgs := rfl
@[simp] theorem State.logEvent_seqs (e : Nat) (v : Int) : (s.logEvent e v).seqs = s.seqs := rfl
@[simp] theorem State.logEvent_logics (e : Nat) (v : Int) : (s.logEvent e v).logics = s.logics := rfl
@[simp] theorem State.logEvent_cut (e : Nat) (v : Int) : (s.logEvent e v).cut = s.cut := rfl
@[simp] theorem State.logEvent_fast (e : Nat) (v : Int) : (s.logEvent e v).fast = s.fast := rfl
@[simp] theorem State.logEvent_key (e : Nat) (v : Int) : (s.logEvent e v).key = s.key := rfl
@[simp] theorem State.logEvent_hist (e : Nat) (v : Int) : (s.logEvent e v).hist = s.hist := rfl
@[simp] theorem State.logEvent_acq (e : Nat) (v : Int) : (s.logEvent e v).acq = s.acq := rfl
@[simp] theorem State.logEvent_conv (e : Nat) (v : Int) : (s.logEvent e v).conv = s.conv := rfl
@[simp] theorem State.logEvent_field (e : Nat) (v : Int) : (s.logEvent e v).field = s.field := rfl
@[simp] theorem State.logEvent_link (e : Nat) (v : Int) : (s.logEvent e v).link = s.link := rfl
@[simp] theorem State.logEvent_pair (e : Nat) (v : Int) : (s.logEvent e v).pair = s.pair := rfl
@[simp] theorem State.logEvent_sec (e : Nat) (v : Int) : (s.logEvent e v).sec = s.sec := rfl
@[simp] theorem State.logEvent_saf (e : Nat) (v : Int) : (s.logEvent e v).saf = s.saf := rfl
@[simp] theorem State.logEvent_age (e : Nat) (v : Int) : (s.logEvent e v).age = s.age := rfl
@[simp] theorem State.logEvent_power (e : Nat) (v : Int) : (s.logEvent e v).power = s.power := rfl
@[simp] theorem State.logEvent_fresh (e : Nat) (v : Int) : (s.logEvent e v).fresh = s.fresh := rfl

/-! countLog -/

@[simp] theorem State.countLog_pending (e : Nat) (v : Int) : (s.countLog e v).pending = s.pending := rfl
@[simp] theorem State.countLog_regs (e : Nat) (v : Int) : (s.countLog e v).regs = s.regs := rfl
@[simp] theorem State.countLog_host (e : Nat) (v : Int) : (s.countLog e v).host = s.host := rfl
@[simp] theorem State.countLog_time (e : Nat) (v : Int) : (s.countLog e v).time = s.time := rfl
@[simp] theorem State.countLog_img (e : Nat) (v : Int) : (s.countLog e v).img = s.img := rfl
@[simp] theorem State.countLog_pts (e : Nat) (v : Int) : (s.countLog e v).pts = s.pts := rfl
@[simp] theorem State.countLog_fab (e : Nat) (v : Int) : (s.countLog e v).fab = s.fab := rfl
@[simp] theorem State.countLog_loops (e : Nat) (v : Int) : (s.countLog e v).loops = s.loops := rfl
@[simp] theorem State.countLog_axes (e : Nat) (v : Int) : (s.countLog e v).axes = s.axes := rfl
@[simp] theorem State.countLog_pgs (e : Nat) (v : Int) : (s.countLog e v).pgs = s.pgs := rfl
@[simp] theorem State.countLog_seqs (e : Nat) (v : Int) : (s.countLog e v).seqs = s.seqs := rfl
@[simp] theorem State.countLog_logics (e : Nat) (v : Int) : (s.countLog e v).logics = s.logics := rfl
@[simp] theorem State.countLog_cut (e : Nat) (v : Int) : (s.countLog e v).cut = s.cut := rfl
@[simp] theorem State.countLog_fast (e : Nat) (v : Int) : (s.countLog e v).fast = s.fast := rfl
@[simp] theorem State.countLog_key (e : Nat) (v : Int) : (s.countLog e v).key = s.key := rfl
@[simp] theorem State.countLog_hist (e : Nat) (v : Int) : (s.countLog e v).hist = s.hist := rfl
@[simp] theorem State.countLog_acq (e : Nat) (v : Int) : (s.countLog e v).acq = s.acq := rfl
@[simp] theorem State.countLog_conv (e : Nat) (v : Int) : (s.countLog e v).conv = s.conv := rfl
@[simp] theorem State.countLog_field (e : Nat) (v : Int) : (s.countLog e v).field = s.field := rfl
@[simp] theorem State.countLog_link (e : Nat) (v : Int) : (s.countLog e v).link = s.link := rfl
@[simp] theorem State.countLog_pair (e : Nat) (v : Int) : (s.countLog e v).pair = s.pair := rfl
@[simp] theorem State.countLog_sec (e : Nat) (v : Int) : (s.countLog e v).sec = s.sec := rfl
@[simp] theorem State.countLog_saf (e : Nat) (v : Int) : (s.countLog e v).saf = s.saf := rfl
@[simp] theorem State.countLog_age (e : Nat) (v : Int) : (s.countLog e v).age = s.age := rfl
@[simp] theorem State.countLog_power (e : Nat) (v : Int) : (s.countLog e v).power = s.power := rfl
@[simp] theorem State.countLog_fresh (e : Nat) (v : Int) : (s.countLog e v).fresh = s.fresh := rfl

/-! returned -/

@[simp] theorem State.returned_pending (v : Nat) : (s.returned v).pending = s.pending := rfl
@[simp] theorem State.returned_regs (v : Nat) : (s.returned v).regs = s.regs := rfl
@[simp] theorem State.returned_ctr (v : Nat) : (s.returned v).ctr = s.ctr := rfl
@[simp] theorem State.returned_time (v : Nat) : (s.returned v).time = s.time := rfl
@[simp] theorem State.returned_img (v : Nat) : (s.returned v).img = s.img := rfl
@[simp] theorem State.returned_pts (v : Nat) : (s.returned v).pts = s.pts := rfl
@[simp] theorem State.returned_fab (v : Nat) : (s.returned v).fab = s.fab := rfl
@[simp] theorem State.returned_loops (v : Nat) : (s.returned v).loops = s.loops := rfl
@[simp] theorem State.returned_axes (v : Nat) : (s.returned v).axes = s.axes := rfl
@[simp] theorem State.returned_pgs (v : Nat) : (s.returned v).pgs = s.pgs := rfl
@[simp] theorem State.returned_seqs (v : Nat) : (s.returned v).seqs = s.seqs := rfl
@[simp] theorem State.returned_logics (v : Nat) : (s.returned v).logics = s.logics := rfl
@[simp] theorem State.returned_cut (v : Nat) : (s.returned v).cut = s.cut := rfl
@[simp] theorem State.returned_fast (v : Nat) : (s.returned v).fast = s.fast := rfl
@[simp] theorem State.returned_key (v : Nat) : (s.returned v).key = s.key := rfl
@[simp] theorem State.returned_hist (v : Nat) : (s.returned v).hist = s.hist := rfl
@[simp] theorem State.returned_acq (v : Nat) : (s.returned v).acq = s.acq := rfl
@[simp] theorem State.returned_conv (v : Nat) : (s.returned v).conv = s.conv := rfl
@[simp] theorem State.returned_field (v : Nat) : (s.returned v).field = s.field := rfl
@[simp] theorem State.returned_link (v : Nat) : (s.returned v).link = s.link := rfl
@[simp] theorem State.returned_pair (v : Nat) : (s.returned v).pair = s.pair := rfl
@[simp] theorem State.returned_sec (v : Nat) : (s.returned v).sec = s.sec := rfl
@[simp] theorem State.returned_saf (v : Nat) : (s.returned v).saf = s.saf := rfl
@[simp] theorem State.returned_recd (v : Nat) : (s.returned v).recd = s.recd := rfl
@[simp] theorem State.returned_age (v : Nat) : (s.returned v).age = s.age := rfl
@[simp] theorem State.returned_power (v : Nat) : (s.returned v).power = s.power := rfl
@[simp] theorem State.returned_fresh (v : Nat) : (s.returned v).fresh = s.fresh := rfl

/-! onRing -/

@[simp] theorem State.onRing_pending (r : Nat) (f : Ring → Ring) : (s.onRing r f).pending = s.pending := rfl
@[simp] theorem State.onRing_regs (r : Nat) (f : Ring → Ring) : (s.onRing r f).regs = s.regs := rfl
@[simp] theorem State.onRing_ctr (r : Nat) (f : Ring → Ring) : (s.onRing r f).ctr = s.ctr := rfl
@[simp] theorem State.onRing_time (r : Nat) (f : Ring → Ring) : (s.onRing r f).time = s.time := rfl
@[simp] theorem State.onRing_img (r : Nat) (f : Ring → Ring) : (s.onRing r f).img = s.img := rfl
@[simp] theorem State.onRing_pts (r : Nat) (f : Ring → Ring) : (s.onRing r f).pts = s.pts := rfl
@[simp] theorem State.onRing_fab (r : Nat) (f : Ring → Ring) : (s.onRing r f).fab = s.fab := rfl
@[simp] theorem State.onRing_loops (r : Nat) (f : Ring → Ring) : (s.onRing r f).loops = s.loops := rfl
@[simp] theorem State.onRing_axes (r : Nat) (f : Ring → Ring) : (s.onRing r f).axes = s.axes := rfl
@[simp] theorem State.onRing_pgs (r : Nat) (f : Ring → Ring) : (s.onRing r f).pgs = s.pgs := rfl
@[simp] theorem State.onRing_seqs (r : Nat) (f : Ring → Ring) : (s.onRing r f).seqs = s.seqs := rfl
@[simp] theorem State.onRing_logics (r : Nat) (f : Ring → Ring) : (s.onRing r f).logics = s.logics := rfl
@[simp] theorem State.onRing_cut (r : Nat) (f : Ring → Ring) : (s.onRing r f).cut = s.cut := rfl
@[simp] theorem State.onRing_fast (r : Nat) (f : Ring → Ring) : (s.onRing r f).fast = s.fast := rfl
@[simp] theorem State.onRing_key (r : Nat) (f : Ring → Ring) : (s.onRing r f).key = s.key := rfl
@[simp] theorem State.onRing_hist (r : Nat) (f : Ring → Ring) : (s.onRing r f).hist = s.hist := rfl
@[simp] theorem State.onRing_acq (r : Nat) (f : Ring → Ring) : (s.onRing r f).acq = s.acq := rfl
@[simp] theorem State.onRing_conv (r : Nat) (f : Ring → Ring) : (s.onRing r f).conv = s.conv := rfl
@[simp] theorem State.onRing_field (r : Nat) (f : Ring → Ring) : (s.onRing r f).field = s.field := rfl
@[simp] theorem State.onRing_link (r : Nat) (f : Ring → Ring) : (s.onRing r f).link = s.link := rfl
@[simp] theorem State.onRing_pair (r : Nat) (f : Ring → Ring) : (s.onRing r f).pair = s.pair := rfl
@[simp] theorem State.onRing_sec (r : Nat) (f : Ring → Ring) : (s.onRing r f).sec = s.sec := rfl
@[simp] theorem State.onRing_saf (r : Nat) (f : Ring → Ring) : (s.onRing r f).saf = s.saf := rfl
@[simp] theorem State.onRing_recd (r : Nat) (f : Ring → Ring) : (s.onRing r f).recd = s.recd := rfl
@[simp] theorem State.onRing_age (r : Nat) (f : Ring → Ring) : (s.onRing r f).age = s.age := rfl
@[simp] theorem State.onRing_power (r : Nat) (f : Ring → Ring) : (s.onRing r f).power = s.power := rfl
@[simp] theorem State.onRing_fresh (r : Nat) (f : Ring → Ring) : (s.onRing r f).fresh = s.fresh := rfl

/-! latch -/

@[simp] theorem State.latch_fab (l : Latched) : (s.latch l).fab = { s.fab with latched := s.fab.latched ++ [l] } := rfl
@[simp] theorem State.latch_pending (l : Latched) : (s.latch l).pending = s.pending := rfl
@[simp] theorem State.latch_regs (l : Latched) : (s.latch l).regs = s.regs := rfl
@[simp] theorem State.latch_host (l : Latched) : (s.latch l).host = s.host := rfl
@[simp] theorem State.latch_ctr (l : Latched) : (s.latch l).ctr = s.ctr := rfl
@[simp] theorem State.latch_time (l : Latched) : (s.latch l).time = s.time := rfl
@[simp] theorem State.latch_img (l : Latched) : (s.latch l).img = s.img := rfl
@[simp] theorem State.latch_pts (l : Latched) : (s.latch l).pts = s.pts := rfl
@[simp] theorem State.latch_loops (l : Latched) : (s.latch l).loops = s.loops := rfl
@[simp] theorem State.latch_axes (l : Latched) : (s.latch l).axes = s.axes := rfl
@[simp] theorem State.latch_pgs (l : Latched) : (s.latch l).pgs = s.pgs := rfl
@[simp] theorem State.latch_seqs (l : Latched) : (s.latch l).seqs = s.seqs := rfl
@[simp] theorem State.latch_logics (l : Latched) : (s.latch l).logics = s.logics := rfl
@[simp] theorem State.latch_cut (l : Latched) : (s.latch l).cut = s.cut := rfl
@[simp] theorem State.latch_fast (l : Latched) : (s.latch l).fast = s.fast := rfl
@[simp] theorem State.latch_key (l : Latched) : (s.latch l).key = s.key := rfl
@[simp] theorem State.latch_hist (l : Latched) : (s.latch l).hist = s.hist := rfl
@[simp] theorem State.latch_acq (l : Latched) : (s.latch l).acq = s.acq := rfl
@[simp] theorem State.latch_conv (l : Latched) : (s.latch l).conv = s.conv := rfl
@[simp] theorem State.latch_field (l : Latched) : (s.latch l).field = s.field := rfl
@[simp] theorem State.latch_link (l : Latched) : (s.latch l).link = s.link := rfl
@[simp] theorem State.latch_pair (l : Latched) : (s.latch l).pair = s.pair := rfl
@[simp] theorem State.latch_sec (l : Latched) : (s.latch l).sec = s.sec := rfl
@[simp] theorem State.latch_saf (l : Latched) : (s.latch l).saf = s.saf := rfl
@[simp] theorem State.latch_recd (l : Latched) : (s.latch l).recd = s.recd := rfl
@[simp] theorem State.latch_age (l : Latched) : (s.latch l).age = s.age := rfl
@[simp] theorem State.latch_power (l : Latched) : (s.latch l).power = s.power := rfl
@[simp] theorem State.latch_fresh (l : Latched) : (s.latch l).fresh = s.fresh := rfl

/-! onWork -/

@[simp] theorem State.onWork_pending (i : Nat) (f : PointWork → PointWork) : (s.onWork i f).pending = s.pending := rfl
@[simp] theorem State.onWork_regs (i : Nat) (f : PointWork → PointWork) : (s.onWork i f).regs = s.regs := rfl
@[simp] theorem State.onWork_host (i : Nat) (f : PointWork → PointWork) : (s.onWork i f).host = s.host := rfl
@[simp] theorem State.onWork_ctr (i : Nat) (f : PointWork → PointWork) : (s.onWork i f).ctr = s.ctr := rfl
@[simp] theorem State.onWork_time (i : Nat) (f : PointWork → PointWork) : (s.onWork i f).time = s.time := rfl
@[simp] theorem State.onWork_img (i : Nat) (f : PointWork → PointWork) : (s.onWork i f).img = s.img := rfl
@[simp] theorem State.onWork_fab (i : Nat) (f : PointWork → PointWork) : (s.onWork i f).fab = s.fab := rfl
@[simp] theorem State.onWork_loops (i : Nat) (f : PointWork → PointWork) : (s.onWork i f).loops = s.loops := rfl
@[simp] theorem State.onWork_axes (i : Nat) (f : PointWork → PointWork) : (s.onWork i f).axes = s.axes := rfl
@[simp] theorem State.onWork_pgs (i : Nat) (f : PointWork → PointWork) : (s.onWork i f).pgs = s.pgs := rfl
@[simp] theorem State.onWork_seqs (i : Nat) (f : PointWork → PointWork) : (s.onWork i f).seqs = s.seqs := rfl
@[simp] theorem State.onWork_logics (i : Nat) (f : PointWork → PointWork) : (s.onWork i f).logics = s.logics := rfl
@[simp] theorem State.onWork_cut (i : Nat) (f : PointWork → PointWork) : (s.onWork i f).cut = s.cut := rfl
@[simp] theorem State.onWork_fast (i : Nat) (f : PointWork → PointWork) : (s.onWork i f).fast = s.fast := rfl
@[simp] theorem State.onWork_key (i : Nat) (f : PointWork → PointWork) : (s.onWork i f).key = s.key := rfl
@[simp] theorem State.onWork_hist (i : Nat) (f : PointWork → PointWork) : (s.onWork i f).hist = s.hist := rfl
@[simp] theorem State.onWork_acq (i : Nat) (f : PointWork → PointWork) : (s.onWork i f).acq = s.acq := rfl
@[simp] theorem State.onWork_conv (i : Nat) (f : PointWork → PointWork) : (s.onWork i f).conv = s.conv := rfl
@[simp] theorem State.onWork_field (i : Nat) (f : PointWork → PointWork) : (s.onWork i f).field = s.field := rfl
@[simp] theorem State.onWork_link (i : Nat) (f : PointWork → PointWork) : (s.onWork i f).link = s.link := rfl
@[simp] theorem State.onWork_pair (i : Nat) (f : PointWork → PointWork) : (s.onWork i f).pair = s.pair := rfl
@[simp] theorem State.onWork_sec (i : Nat) (f : PointWork → PointWork) : (s.onWork i f).sec = s.sec := rfl
@[simp] theorem State.onWork_saf (i : Nat) (f : PointWork → PointWork) : (s.onWork i f).saf = s.saf := rfl
@[simp] theorem State.onWork_recd (i : Nat) (f : PointWork → PointWork) : (s.onWork i f).recd = s.recd := rfl
@[simp] theorem State.onWork_age (i : Nat) (f : PointWork → PointWork) : (s.onWork i f).age = s.age := rfl
@[simp] theorem State.onWork_power (i : Nat) (f : PointWork → PointWork) : (s.onWork i f).power = s.power := rfl
@[simp] theorem State.onWork_fresh (i : Nat) (f : PointWork → PointWork) : (s.onWork i f).fresh = s.fresh := rfl

/-! onCan -/

@[simp] theorem State.onCan_pending (b : Nat) (f : CanState → CanState) : (s.onCan b f).pending = s.pending := rfl
@[simp] theorem State.onCan_regs (b : Nat) (f : CanState → CanState) : (s.onCan b f).regs = s.regs := rfl
@[simp] theorem State.onCan_host (b : Nat) (f : CanState → CanState) : (s.onCan b f).host = s.host := rfl
@[simp] theorem State.onCan_ctr (b : Nat) (f : CanState → CanState) : (s.onCan b f).ctr = s.ctr := rfl
@[simp] theorem State.onCan_time (b : Nat) (f : CanState → CanState) : (s.onCan b f).time = s.time := rfl
@[simp] theorem State.onCan_img (b : Nat) (f : CanState → CanState) : (s.onCan b f).img = s.img := rfl
@[simp] theorem State.onCan_pts (b : Nat) (f : CanState → CanState) : (s.onCan b f).pts = s.pts := rfl
@[simp] theorem State.onCan_fab (b : Nat) (f : CanState → CanState) : (s.onCan b f).fab = s.fab := rfl
@[simp] theorem State.onCan_loops (b : Nat) (f : CanState → CanState) : (s.onCan b f).loops = s.loops := rfl
@[simp] theorem State.onCan_axes (b : Nat) (f : CanState → CanState) : (s.onCan b f).axes = s.axes := rfl
@[simp] theorem State.onCan_pgs (b : Nat) (f : CanState → CanState) : (s.onCan b f).pgs = s.pgs := rfl
@[simp] theorem State.onCan_seqs (b : Nat) (f : CanState → CanState) : (s.onCan b f).seqs = s.seqs := rfl
@[simp] theorem State.onCan_logics (b : Nat) (f : CanState → CanState) : (s.onCan b f).logics = s.logics := rfl
@[simp] theorem State.onCan_cut (b : Nat) (f : CanState → CanState) : (s.onCan b f).cut = s.cut := rfl
@[simp] theorem State.onCan_fast (b : Nat) (f : CanState → CanState) : (s.onCan b f).fast = s.fast := rfl
@[simp] theorem State.onCan_key (b : Nat) (f : CanState → CanState) : (s.onCan b f).key = s.key := rfl
@[simp] theorem State.onCan_hist (b : Nat) (f : CanState → CanState) : (s.onCan b f).hist = s.hist := rfl
@[simp] theorem State.onCan_acq (b : Nat) (f : CanState → CanState) : (s.onCan b f).acq = s.acq := rfl
@[simp] theorem State.onCan_conv (b : Nat) (f : CanState → CanState) : (s.onCan b f).conv = s.conv := rfl
@[simp] theorem State.onCan_link (b : Nat) (f : CanState → CanState) : (s.onCan b f).link = s.link := rfl
@[simp] theorem State.onCan_pair (b : Nat) (f : CanState → CanState) : (s.onCan b f).pair = s.pair := rfl
@[simp] theorem State.onCan_sec (b : Nat) (f : CanState → CanState) : (s.onCan b f).sec = s.sec := rfl
@[simp] theorem State.onCan_saf (b : Nat) (f : CanState → CanState) : (s.onCan b f).saf = s.saf := rfl
@[simp] theorem State.onCan_recd (b : Nat) (f : CanState → CanState) : (s.onCan b f).recd = s.recd := rfl
@[simp] theorem State.onCan_age (b : Nat) (f : CanState → CanState) : (s.onCan b f).age = s.age := rfl
@[simp] theorem State.onCan_power (b : Nat) (f : CanState → CanState) : (s.onCan b f).power = s.power := rfl
@[simp] theorem State.onCan_fresh (b : Nat) (f : CanState → CanState) : (s.onCan b f).fresh = s.fresh := rfl

/-! onPort -/

@[simp] theorem State.onPort_pending (p : Nat) (f : LinkPort → LinkPort) : (s.onPort p f).pending = s.pending := rfl
@[simp] theorem State.onPort_regs (p : Nat) (f : LinkPort → LinkPort) : (s.onPort p f).regs = s.regs := rfl
@[simp] theorem State.onPort_host (p : Nat) (f : LinkPort → LinkPort) : (s.onPort p f).host = s.host := rfl
@[simp] theorem State.onPort_ctr (p : Nat) (f : LinkPort → LinkPort) : (s.onPort p f).ctr = s.ctr := rfl
@[simp] theorem State.onPort_time (p : Nat) (f : LinkPort → LinkPort) : (s.onPort p f).time = s.time := rfl
@[simp] theorem State.onPort_img (p : Nat) (f : LinkPort → LinkPort) : (s.onPort p f).img = s.img := rfl
@[simp] theorem State.onPort_pts (p : Nat) (f : LinkPort → LinkPort) : (s.onPort p f).pts = s.pts := rfl
@[simp] theorem State.onPort_fab (p : Nat) (f : LinkPort → LinkPort) : (s.onPort p f).fab = s.fab := rfl
@[simp] theorem State.onPort_loops (p : Nat) (f : LinkPort → LinkPort) : (s.onPort p f).loops = s.loops := rfl
@[simp] theorem State.onPort_axes (p : Nat) (f : LinkPort → LinkPort) : (s.onPort p f).axes = s.axes := rfl
@[simp] theorem State.onPort_pgs (p : Nat) (f : LinkPort → LinkPort) : (s.onPort p f).pgs = s.pgs := rfl
@[simp] theorem State.onPort_seqs (p : Nat) (f : LinkPort → LinkPort) : (s.onPort p f).seqs = s.seqs := rfl
@[simp] theorem State.onPort_logics (p : Nat) (f : LinkPort → LinkPort) : (s.onPort p f).logics = s.logics := rfl
@[simp] theorem State.onPort_cut (p : Nat) (f : LinkPort → LinkPort) : (s.onPort p f).cut = s.cut := rfl
@[simp] theorem State.onPort_fast (p : Nat) (f : LinkPort → LinkPort) : (s.onPort p f).fast = s.fast := rfl
@[simp] theorem State.onPort_key (p : Nat) (f : LinkPort → LinkPort) : (s.onPort p f).key = s.key := rfl
@[simp] theorem State.onPort_hist (p : Nat) (f : LinkPort → LinkPort) : (s.onPort p f).hist = s.hist := rfl
@[simp] theorem State.onPort_acq (p : Nat) (f : LinkPort → LinkPort) : (s.onPort p f).acq = s.acq := rfl
@[simp] theorem State.onPort_conv (p : Nat) (f : LinkPort → LinkPort) : (s.onPort p f).conv = s.conv := rfl
@[simp] theorem State.onPort_field (p : Nat) (f : LinkPort → LinkPort) : (s.onPort p f).field = s.field := rfl
@[simp] theorem State.onPort_pair (p : Nat) (f : LinkPort → LinkPort) : (s.onPort p f).pair = s.pair := rfl
@[simp] theorem State.onPort_sec (p : Nat) (f : LinkPort → LinkPort) : (s.onPort p f).sec = s.sec := rfl
@[simp] theorem State.onPort_saf (p : Nat) (f : LinkPort → LinkPort) : (s.onPort p f).saf = s.saf := rfl
@[simp] theorem State.onPort_recd (p : Nat) (f : LinkPort → LinkPort) : (s.onPort p f).recd = s.recd := rfl
@[simp] theorem State.onPort_age (p : Nat) (f : LinkPort → LinkPort) : (s.onPort p f).age = s.age := rfl
@[simp] theorem State.onPort_power (p : Nat) (f : LinkPort → LinkPort) : (s.onPort p f).power = s.power := rfl
@[simp] theorem State.onPort_fresh (p : Nat) (f : LinkPort → LinkPort) : (s.onPort p f).fresh = s.fresh := rfl

/-! setLoop -/

@[simp] theorem State.setLoop_pending (h k : Nat) (x : LoopState) : (s.setLoop h k x).pending = s.pending := rfl
@[simp] theorem State.setLoop_regs (h k : Nat) (x : LoopState) : (s.setLoop h k x).regs = s.regs := rfl
@[simp] theorem State.setLoop_host (h k : Nat) (x : LoopState) : (s.setLoop h k x).host = s.host := rfl
@[simp] theorem State.setLoop_ctr (h k : Nat) (x : LoopState) : (s.setLoop h k x).ctr = s.ctr := rfl
@[simp] theorem State.setLoop_time (h k : Nat) (x : LoopState) : (s.setLoop h k x).time = s.time := rfl
@[simp] theorem State.setLoop_img (h k : Nat) (x : LoopState) : (s.setLoop h k x).img = s.img := rfl
@[simp] theorem State.setLoop_pts (h k : Nat) (x : LoopState) : (s.setLoop h k x).pts = s.pts := rfl
@[simp] theorem State.setLoop_fab (h k : Nat) (x : LoopState) : (s.setLoop h k x).fab = s.fab := rfl
@[simp] theorem State.setLoop_axes (h k : Nat) (x : LoopState) : (s.setLoop h k x).axes = s.axes := rfl
@[simp] theorem State.setLoop_pgs (h k : Nat) (x : LoopState) : (s.setLoop h k x).pgs = s.pgs := rfl
@[simp] theorem State.setLoop_seqs (h k : Nat) (x : LoopState) : (s.setLoop h k x).seqs = s.seqs := rfl
@[simp] theorem State.setLoop_logics (h k : Nat) (x : LoopState) : (s.setLoop h k x).logics = s.logics := rfl
@[simp] theorem State.setLoop_cut (h k : Nat) (x : LoopState) : (s.setLoop h k x).cut = s.cut := rfl
@[simp] theorem State.setLoop_fast (h k : Nat) (x : LoopState) : (s.setLoop h k x).fast = s.fast := rfl
@[simp] theorem State.setLoop_key (h k : Nat) (x : LoopState) : (s.setLoop h k x).key = s.key := rfl
@[simp] theorem State.setLoop_hist (h k : Nat) (x : LoopState) : (s.setLoop h k x).hist = s.hist := rfl
@[simp] theorem State.setLoop_acq (h k : Nat) (x : LoopState) : (s.setLoop h k x).acq = s.acq := rfl
@[simp] theorem State.setLoop_conv (h k : Nat) (x : LoopState) : (s.setLoop h k x).conv = s.conv := rfl
@[simp] theorem State.setLoop_field (h k : Nat) (x : LoopState) : (s.setLoop h k x).field = s.field := rfl
@[simp] theorem State.setLoop_link (h k : Nat) (x : LoopState) : (s.setLoop h k x).link = s.link := rfl
@[simp] theorem State.setLoop_pair (h k : Nat) (x : LoopState) : (s.setLoop h k x).pair = s.pair := rfl
@[simp] theorem State.setLoop_sec (h k : Nat) (x : LoopState) : (s.setLoop h k x).sec = s.sec := rfl
@[simp] theorem State.setLoop_saf (h k : Nat) (x : LoopState) : (s.setLoop h k x).saf = s.saf := rfl
@[simp] theorem State.setLoop_recd (h k : Nat) (x : LoopState) : (s.setLoop h k x).recd = s.recd := rfl
@[simp] theorem State.setLoop_age (h k : Nat) (x : LoopState) : (s.setLoop h k x).age = s.age := rfl
@[simp] theorem State.setLoop_power (h k : Nat) (x : LoopState) : (s.setLoop h k x).power = s.power := rfl
@[simp] theorem State.setLoop_fresh (h k : Nat) (x : LoopState) : (s.setLoop h k x).fresh = s.fresh := rfl

/-! setAxis -/

@[simp] theorem State.setAxis_pending (h a : Nat) (x : AxisState) : (s.setAxis h a x).pending = s.pending := rfl
@[simp] theorem State.setAxis_regs (h a : Nat) (x : AxisState) : (s.setAxis h a x).regs = s.regs := rfl
@[simp] theorem State.setAxis_host (h a : Nat) (x : AxisState) : (s.setAxis h a x).host = s.host := rfl
@[simp] theorem State.setAxis_ctr (h a : Nat) (x : AxisState) : (s.setAxis h a x).ctr = s.ctr := rfl
@[simp] theorem State.setAxis_time (h a : Nat) (x : AxisState) : (s.setAxis h a x).time = s.time := rfl
@[simp] theorem State.setAxis_img (h a : Nat) (x : AxisState) : (s.setAxis h a x).img = s.img := rfl
@[simp] theorem State.setAxis_pts (h a : Nat) (x : AxisState) : (s.setAxis h a x).pts = s.pts := rfl
@[simp] theorem State.setAxis_fab (h a : Nat) (x : AxisState) : (s.setAxis h a x).fab = s.fab := rfl
@[simp] theorem State.setAxis_loops (h a : Nat) (x : AxisState) : (s.setAxis h a x).loops = s.loops := rfl
@[simp] theorem State.setAxis_pgs (h a : Nat) (x : AxisState) : (s.setAxis h a x).pgs = s.pgs := rfl
@[simp] theorem State.setAxis_seqs (h a : Nat) (x : AxisState) : (s.setAxis h a x).seqs = s.seqs := rfl
@[simp] theorem State.setAxis_logics (h a : Nat) (x : AxisState) : (s.setAxis h a x).logics = s.logics := rfl
@[simp] theorem State.setAxis_cut (h a : Nat) (x : AxisState) : (s.setAxis h a x).cut = s.cut := rfl
@[simp] theorem State.setAxis_fast (h a : Nat) (x : AxisState) : (s.setAxis h a x).fast = s.fast := rfl
@[simp] theorem State.setAxis_key (h a : Nat) (x : AxisState) : (s.setAxis h a x).key = s.key := rfl
@[simp] theorem State.setAxis_hist (h a : Nat) (x : AxisState) : (s.setAxis h a x).hist = s.hist := rfl
@[simp] theorem State.setAxis_acq (h a : Nat) (x : AxisState) : (s.setAxis h a x).acq = s.acq := rfl
@[simp] theorem State.setAxis_conv (h a : Nat) (x : AxisState) : (s.setAxis h a x).conv = s.conv := rfl
@[simp] theorem State.setAxis_field (h a : Nat) (x : AxisState) : (s.setAxis h a x).field = s.field := rfl
@[simp] theorem State.setAxis_link (h a : Nat) (x : AxisState) : (s.setAxis h a x).link = s.link := rfl
@[simp] theorem State.setAxis_pair (h a : Nat) (x : AxisState) : (s.setAxis h a x).pair = s.pair := rfl
@[simp] theorem State.setAxis_sec (h a : Nat) (x : AxisState) : (s.setAxis h a x).sec = s.sec := rfl
@[simp] theorem State.setAxis_saf (h a : Nat) (x : AxisState) : (s.setAxis h a x).saf = s.saf := rfl
@[simp] theorem State.setAxis_recd (h a : Nat) (x : AxisState) : (s.setAxis h a x).recd = s.recd := rfl
@[simp] theorem State.setAxis_age (h a : Nat) (x : AxisState) : (s.setAxis h a x).age = s.age := rfl
@[simp] theorem State.setAxis_power (h a : Nat) (x : AxisState) : (s.setAxis h a x).power = s.power := rfl
@[simp] theorem State.setAxis_fresh (h a : Nat) (x : AxisState) : (s.setAxis h a x).fresh = s.fresh := rfl

/-! onSeq -/

@[simp] theorem State.onSeq_pending (h : Nat) (f : SeqState → SeqState) : (s.onSeq h f).pending = s.pending := rfl
@[simp] theorem State.onSeq_regs (h : Nat) (f : SeqState → SeqState) : (s.onSeq h f).regs = s.regs := rfl
@[simp] theorem State.onSeq_host (h : Nat) (f : SeqState → SeqState) : (s.onSeq h f).host = s.host := rfl
@[simp] theorem State.onSeq_ctr (h : Nat) (f : SeqState → SeqState) : (s.onSeq h f).ctr = s.ctr := rfl
@[simp] theorem State.onSeq_time (h : Nat) (f : SeqState → SeqState) : (s.onSeq h f).time = s.time := rfl
@[simp] theorem State.onSeq_img (h : Nat) (f : SeqState → SeqState) : (s.onSeq h f).img = s.img := rfl
@[simp] theorem State.onSeq_pts (h : Nat) (f : SeqState → SeqState) : (s.onSeq h f).pts = s.pts := rfl
@[simp] theorem State.onSeq_fab (h : Nat) (f : SeqState → SeqState) : (s.onSeq h f).fab = s.fab := rfl
@[simp] theorem State.onSeq_loops (h : Nat) (f : SeqState → SeqState) : (s.onSeq h f).loops = s.loops := rfl
@[simp] theorem State.onSeq_axes (h : Nat) (f : SeqState → SeqState) : (s.onSeq h f).axes = s.axes := rfl
@[simp] theorem State.onSeq_pgs (h : Nat) (f : SeqState → SeqState) : (s.onSeq h f).pgs = s.pgs := rfl
@[simp] theorem State.onSeq_logics (h : Nat) (f : SeqState → SeqState) : (s.onSeq h f).logics = s.logics := rfl
@[simp] theorem State.onSeq_cut (h : Nat) (f : SeqState → SeqState) : (s.onSeq h f).cut = s.cut := rfl
@[simp] theorem State.onSeq_fast (h : Nat) (f : SeqState → SeqState) : (s.onSeq h f).fast = s.fast := rfl
@[simp] theorem State.onSeq_key (h : Nat) (f : SeqState → SeqState) : (s.onSeq h f).key = s.key := rfl
@[simp] theorem State.onSeq_hist (h : Nat) (f : SeqState → SeqState) : (s.onSeq h f).hist = s.hist := rfl
@[simp] theorem State.onSeq_acq (h : Nat) (f : SeqState → SeqState) : (s.onSeq h f).acq = s.acq := rfl
@[simp] theorem State.onSeq_conv (h : Nat) (f : SeqState → SeqState) : (s.onSeq h f).conv = s.conv := rfl
@[simp] theorem State.onSeq_field (h : Nat) (f : SeqState → SeqState) : (s.onSeq h f).field = s.field := rfl
@[simp] theorem State.onSeq_link (h : Nat) (f : SeqState → SeqState) : (s.onSeq h f).link = s.link := rfl
@[simp] theorem State.onSeq_pair (h : Nat) (f : SeqState → SeqState) : (s.onSeq h f).pair = s.pair := rfl
@[simp] theorem State.onSeq_sec (h : Nat) (f : SeqState → SeqState) : (s.onSeq h f).sec = s.sec := rfl
@[simp] theorem State.onSeq_saf (h : Nat) (f : SeqState → SeqState) : (s.onSeq h f).saf = s.saf := rfl
@[simp] theorem State.onSeq_recd (h : Nat) (f : SeqState → SeqState) : (s.onSeq h f).recd = s.recd := rfl
@[simp] theorem State.onSeq_age (h : Nat) (f : SeqState → SeqState) : (s.onSeq h f).age = s.age := rfl
@[simp] theorem State.onSeq_power (h : Nat) (f : SeqState → SeqState) : (s.onSeq h f).power = s.power := rfl
@[simp] theorem State.onSeq_fresh (h : Nat) (f : SeqState → SeqState) : (s.onSeq h f).fresh = s.fresh := rfl

/-! onLogic -/

@[simp] theorem State.onLogic_pending (h : Nat) (f : LogicState → LogicState) : (s.onLogic h f).pending = s.pending := rfl
@[simp] theorem State.onLogic_regs (h : Nat) (f : LogicState → LogicState) : (s.onLogic h f).regs = s.regs := rfl
@[simp] theorem State.onLogic_host (h : Nat) (f : LogicState → LogicState) : (s.onLogic h f).host = s.host := rfl
@[simp] theorem State.onLogic_ctr (h : Nat) (f : LogicState → LogicState) : (s.onLogic h f).ctr = s.ctr := rfl
@[simp] theorem State.onLogic_time (h : Nat) (f : LogicState → LogicState) : (s.onLogic h f).time = s.time := rfl
@[simp] theorem State.onLogic_img (h : Nat) (f : LogicState → LogicState) : (s.onLogic h f).img = s.img := rfl
@[simp] theorem State.onLogic_pts (h : Nat) (f : LogicState → LogicState) : (s.onLogic h f).pts = s.pts := rfl
@[simp] theorem State.onLogic_fab (h : Nat) (f : LogicState → LogicState) : (s.onLogic h f).fab = s.fab := rfl
@[simp] theorem State.onLogic_loops (h : Nat) (f : LogicState → LogicState) : (s.onLogic h f).loops = s.loops := rfl
@[simp] theorem State.onLogic_axes (h : Nat) (f : LogicState → LogicState) : (s.onLogic h f).axes = s.axes := rfl
@[simp] theorem State.onLogic_pgs (h : Nat) (f : LogicState → LogicState) : (s.onLogic h f).pgs = s.pgs := rfl
@[simp] theorem State.onLogic_seqs (h : Nat) (f : LogicState → LogicState) : (s.onLogic h f).seqs = s.seqs := rfl
@[simp] theorem State.onLogic_cut (h : Nat) (f : LogicState → LogicState) : (s.onLogic h f).cut = s.cut := rfl
@[simp] theorem State.onLogic_fast (h : Nat) (f : LogicState → LogicState) : (s.onLogic h f).fast = s.fast := rfl
@[simp] theorem State.onLogic_key (h : Nat) (f : LogicState → LogicState) : (s.onLogic h f).key = s.key := rfl
@[simp] theorem State.onLogic_hist (h : Nat) (f : LogicState → LogicState) : (s.onLogic h f).hist = s.hist := rfl
@[simp] theorem State.onLogic_acq (h : Nat) (f : LogicState → LogicState) : (s.onLogic h f).acq = s.acq := rfl
@[simp] theorem State.onLogic_conv (h : Nat) (f : LogicState → LogicState) : (s.onLogic h f).conv = s.conv := rfl
@[simp] theorem State.onLogic_field (h : Nat) (f : LogicState → LogicState) : (s.onLogic h f).field = s.field := rfl
@[simp] theorem State.onLogic_link (h : Nat) (f : LogicState → LogicState) : (s.onLogic h f).link = s.link := rfl
@[simp] theorem State.onLogic_pair (h : Nat) (f : LogicState → LogicState) : (s.onLogic h f).pair = s.pair := rfl
@[simp] theorem State.onLogic_sec (h : Nat) (f : LogicState → LogicState) : (s.onLogic h f).sec = s.sec := rfl
@[simp] theorem State.onLogic_saf (h : Nat) (f : LogicState → LogicState) : (s.onLogic h f).saf = s.saf := rfl
@[simp] theorem State.onLogic_recd (h : Nat) (f : LogicState → LogicState) : (s.onLogic h f).recd = s.recd := rfl
@[simp] theorem State.onLogic_age (h : Nat) (f : LogicState → LogicState) : (s.onLogic h f).age = s.age := rfl
@[simp] theorem State.onLogic_power (h : Nat) (f : LogicState → LogicState) : (s.onLogic h f).power = s.power := rfl
@[simp] theorem State.onLogic_fresh (h : Nat) (f : LogicState → LogicState) : (s.onLogic h f).fresh = s.fresh := rfl

/-! onHost -/

@[simp] theorem State.onHost_host (f : HostIf → HostIf) : (s.onHost f).host = f s.host := rfl
@[simp] theorem State.onHost_pending (f : HostIf → HostIf) : (s.onHost f).pending = s.pending := rfl
@[simp] theorem State.onHost_regs (f : HostIf → HostIf) : (s.onHost f).regs = s.regs := rfl
@[simp] theorem State.onHost_ctr (f : HostIf → HostIf) : (s.onHost f).ctr = s.ctr := rfl
@[simp] theorem State.onHost_time (f : HostIf → HostIf) : (s.onHost f).time = s.time := rfl
@[simp] theorem State.onHost_img (f : HostIf → HostIf) : (s.onHost f).img = s.img := rfl
@[simp] theorem State.onHost_pts (f : HostIf → HostIf) : (s.onHost f).pts = s.pts := rfl
@[simp] theorem State.onHost_fab (f : HostIf → HostIf) : (s.onHost f).fab = s.fab := rfl
@[simp] theorem State.onHost_loops (f : HostIf → HostIf) : (s.onHost f).loops = s.loops := rfl
@[simp] theorem State.onHost_axes (f : HostIf → HostIf) : (s.onHost f).axes = s.axes := rfl
@[simp] theorem State.onHost_pgs (f : HostIf → HostIf) : (s.onHost f).pgs = s.pgs := rfl
@[simp] theorem State.onHost_seqs (f : HostIf → HostIf) : (s.onHost f).seqs = s.seqs := rfl
@[simp] theorem State.onHost_logics (f : HostIf → HostIf) : (s.onHost f).logics = s.logics := rfl
@[simp] theorem State.onHost_cut (f : HostIf → HostIf) : (s.onHost f).cut = s.cut := rfl
@[simp] theorem State.onHost_fast (f : HostIf → HostIf) : (s.onHost f).fast = s.fast := rfl
@[simp] theorem State.onHost_key (f : HostIf → HostIf) : (s.onHost f).key = s.key := rfl
@[simp] theorem State.onHost_hist (f : HostIf → HostIf) : (s.onHost f).hist = s.hist := rfl
@[simp] theorem State.onHost_acq (f : HostIf → HostIf) : (s.onHost f).acq = s.acq := rfl
@[simp] theorem State.onHost_conv (f : HostIf → HostIf) : (s.onHost f).conv = s.conv := rfl
@[simp] theorem State.onHost_field (f : HostIf → HostIf) : (s.onHost f).field = s.field := rfl
@[simp] theorem State.onHost_link (f : HostIf → HostIf) : (s.onHost f).link = s.link := rfl
@[simp] theorem State.onHost_pair (f : HostIf → HostIf) : (s.onHost f).pair = s.pair := rfl
@[simp] theorem State.onHost_sec (f : HostIf → HostIf) : (s.onHost f).sec = s.sec := rfl
@[simp] theorem State.onHost_saf (f : HostIf → HostIf) : (s.onHost f).saf = s.saf := rfl
@[simp] theorem State.onHost_recd (f : HostIf → HostIf) : (s.onHost f).recd = s.recd := rfl
@[simp] theorem State.onHost_age (f : HostIf → HostIf) : (s.onHost f).age = s.age := rfl
@[simp] theorem State.onHost_power (f : HostIf → HostIf) : (s.onHost f).power = s.power := rfl
@[simp] theorem State.onHost_fresh (f : HostIf → HostIf) : (s.onHost f).fresh = s.fresh := rfl

/-! onTime -/

@[simp] theorem State.onTime_time (f : TimeState → TimeState) : (s.onTime f).time = f s.time := rfl
@[simp] theorem State.onTime_pending (f : TimeState → TimeState) : (s.onTime f).pending = s.pending := rfl
@[simp] theorem State.onTime_regs (f : TimeState → TimeState) : (s.onTime f).regs = s.regs := rfl
@[simp] theorem State.onTime_host (f : TimeState → TimeState) : (s.onTime f).host = s.host := rfl
@[simp] theorem State.onTime_ctr (f : TimeState → TimeState) : (s.onTime f).ctr = s.ctr := rfl
@[simp] theorem State.onTime_img (f : TimeState → TimeState) : (s.onTime f).img = s.img := rfl
@[simp] theorem State.onTime_pts (f : TimeState → TimeState) : (s.onTime f).pts = s.pts := rfl
@[simp] theorem State.onTime_fab (f : TimeState → TimeState) : (s.onTime f).fab = s.fab := rfl
@[simp] theorem State.onTime_loops (f : TimeState → TimeState) : (s.onTime f).loops = s.loops := rfl
@[simp] theorem State.onTime_axes (f : TimeState → TimeState) : (s.onTime f).axes = s.axes := rfl
@[simp] theorem State.onTime_pgs (f : TimeState → TimeState) : (s.onTime f).pgs = s.pgs := rfl
@[simp] theorem State.onTime_seqs (f : TimeState → TimeState) : (s.onTime f).seqs = s.seqs := rfl
@[simp] theorem State.onTime_logics (f : TimeState → TimeState) : (s.onTime f).logics = s.logics := rfl
@[simp] theorem State.onTime_cut (f : TimeState → TimeState) : (s.onTime f).cut = s.cut := rfl
@[simp] theorem State.onTime_fast (f : TimeState → TimeState) : (s.onTime f).fast = s.fast := rfl
@[simp] theorem State.onTime_key (f : TimeState → TimeState) : (s.onTime f).key = s.key := rfl
@[simp] theorem State.onTime_hist (f : TimeState → TimeState) : (s.onTime f).hist = s.hist := rfl
@[simp] theorem State.onTime_acq (f : TimeState → TimeState) : (s.onTime f).acq = s.acq := rfl
@[simp] theorem State.onTime_conv (f : TimeState → TimeState) : (s.onTime f).conv = s.conv := rfl
@[simp] theorem State.onTime_field (f : TimeState → TimeState) : (s.onTime f).field = s.field := rfl
@[simp] theorem State.onTime_link (f : TimeState → TimeState) : (s.onTime f).link = s.link := rfl
@[simp] theorem State.onTime_pair (f : TimeState → TimeState) : (s.onTime f).pair = s.pair := rfl
@[simp] theorem State.onTime_sec (f : TimeState → TimeState) : (s.onTime f).sec = s.sec := rfl
@[simp] theorem State.onTime_saf (f : TimeState → TimeState) : (s.onTime f).saf = s.saf := rfl
@[simp] theorem State.onTime_recd (f : TimeState → TimeState) : (s.onTime f).recd = s.recd := rfl
@[simp] theorem State.onTime_age (f : TimeState → TimeState) : (s.onTime f).age = s.age := rfl
@[simp] theorem State.onTime_power (f : TimeState → TimeState) : (s.onTime f).power = s.power := rfl
@[simp] theorem State.onTime_fresh (f : TimeState → TimeState) : (s.onTime f).fresh = s.fresh := rfl

/-! onImg -/

@[simp] theorem State.onImg_img (f : ImageState → ImageState) : (s.onImg f).img = f s.img := rfl
@[simp] theorem State.onImg_pending (f : ImageState → ImageState) : (s.onImg f).pending = s.pending := rfl
@[simp] theorem State.onImg_regs (f : ImageState → ImageState) : (s.onImg f).regs = s.regs := rfl
@[simp] theorem State.onImg_host (f : ImageState → ImageState) : (s.onImg f).host = s.host := rfl
@[simp] theorem State.onImg_ctr (f : ImageState → ImageState) : (s.onImg f).ctr = s.ctr := rfl
@[simp] theorem State.onImg_time (f : ImageState → ImageState) : (s.onImg f).time = s.time := rfl
@[simp] theorem State.onImg_pts (f : ImageState → ImageState) : (s.onImg f).pts = s.pts := rfl
@[simp] theorem State.onImg_fab (f : ImageState → ImageState) : (s.onImg f).fab = s.fab := rfl
@[simp] theorem State.onImg_loops (f : ImageState → ImageState) : (s.onImg f).loops = s.loops := rfl
@[simp] theorem State.onImg_axes (f : ImageState → ImageState) : (s.onImg f).axes = s.axes := rfl
@[simp] theorem State.onImg_pgs (f : ImageState → ImageState) : (s.onImg f).pgs = s.pgs := rfl
@[simp] theorem State.onImg_seqs (f : ImageState → ImageState) : (s.onImg f).seqs = s.seqs := rfl
@[simp] theorem State.onImg_logics (f : ImageState → ImageState) : (s.onImg f).logics = s.logics := rfl
@[simp] theorem State.onImg_cut (f : ImageState → ImageState) : (s.onImg f).cut = s.cut := rfl
@[simp] theorem State.onImg_fast (f : ImageState → ImageState) : (s.onImg f).fast = s.fast := rfl
@[simp] theorem State.onImg_key (f : ImageState → ImageState) : (s.onImg f).key = s.key := rfl
@[simp] theorem State.onImg_hist (f : ImageState → ImageState) : (s.onImg f).hist = s.hist := rfl
@[simp] theorem State.onImg_acq (f : ImageState → ImageState) : (s.onImg f).acq = s.acq := rfl
@[simp] theorem State.onImg_conv (f : ImageState → ImageState) : (s.onImg f).conv = s.conv := rfl
@[simp] theorem State.onImg_field (f : ImageState → ImageState) : (s.onImg f).field = s.field := rfl
@[simp] theorem State.onImg_link (f : ImageState → ImageState) : (s.onImg f).link = s.link := rfl
@[simp] theorem State.onImg_pair (f : ImageState → ImageState) : (s.onImg f).pair = s.pair := rfl
@[simp] theorem State.onImg_sec (f : ImageState → ImageState) : (s.onImg f).sec = s.sec := rfl
@[simp] theorem State.onImg_saf (f : ImageState → ImageState) : (s.onImg f).saf = s.saf := rfl
@[simp] theorem State.onImg_recd (f : ImageState → ImageState) : (s.onImg f).recd = s.recd := rfl
@[simp] theorem State.onImg_age (f : ImageState → ImageState) : (s.onImg f).age = s.age := rfl
@[simp] theorem State.onImg_power (f : ImageState → ImageState) : (s.onImg f).power = s.power := rfl
@[simp] theorem State.onImg_fresh (f : ImageState → ImageState) : (s.onImg f).fresh = s.fresh := rfl

/-! onPts -/

@[simp] theorem State.onPts_pts (f : Points → Points) : (s.onPts f).pts = f s.pts := rfl
@[simp] theorem State.onPts_pending (f : Points → Points) : (s.onPts f).pending = s.pending := rfl
@[simp] theorem State.onPts_regs (f : Points → Points) : (s.onPts f).regs = s.regs := rfl
@[simp] theorem State.onPts_host (f : Points → Points) : (s.onPts f).host = s.host := rfl
@[simp] theorem State.onPts_ctr (f : Points → Points) : (s.onPts f).ctr = s.ctr := rfl
@[simp] theorem State.onPts_time (f : Points → Points) : (s.onPts f).time = s.time := rfl
@[simp] theorem State.onPts_img (f : Points → Points) : (s.onPts f).img = s.img := rfl
@[simp] theorem State.onPts_fab (f : Points → Points) : (s.onPts f).fab = s.fab := rfl
@[simp] theorem State.onPts_loops (f : Points → Points) : (s.onPts f).loops = s.loops := rfl
@[simp] theorem State.onPts_axes (f : Points → Points) : (s.onPts f).axes = s.axes := rfl
@[simp] theorem State.onPts_pgs (f : Points → Points) : (s.onPts f).pgs = s.pgs := rfl
@[simp] theorem State.onPts_seqs (f : Points → Points) : (s.onPts f).seqs = s.seqs := rfl
@[simp] theorem State.onPts_logics (f : Points → Points) : (s.onPts f).logics = s.logics := rfl
@[simp] theorem State.onPts_cut (f : Points → Points) : (s.onPts f).cut = s.cut := rfl
@[simp] theorem State.onPts_fast (f : Points → Points) : (s.onPts f).fast = s.fast := rfl
@[simp] theorem State.onPts_key (f : Points → Points) : (s.onPts f).key = s.key := rfl
@[simp] theorem State.onPts_hist (f : Points → Points) : (s.onPts f).hist = s.hist := rfl
@[simp] theorem State.onPts_acq (f : Points → Points) : (s.onPts f).acq = s.acq := rfl
@[simp] theorem State.onPts_conv (f : Points → Points) : (s.onPts f).conv = s.conv := rfl
@[simp] theorem State.onPts_field (f : Points → Points) : (s.onPts f).field = s.field := rfl
@[simp] theorem State.onPts_link (f : Points → Points) : (s.onPts f).link = s.link := rfl
@[simp] theorem State.onPts_pair (f : Points → Points) : (s.onPts f).pair = s.pair := rfl
@[simp] theorem State.onPts_sec (f : Points → Points) : (s.onPts f).sec = s.sec := rfl
@[simp] theorem State.onPts_saf (f : Points → Points) : (s.onPts f).saf = s.saf := rfl
@[simp] theorem State.onPts_recd (f : Points → Points) : (s.onPts f).recd = s.recd := rfl
@[simp] theorem State.onPts_age (f : Points → Points) : (s.onPts f).age = s.age := rfl
@[simp] theorem State.onPts_power (f : Points → Points) : (s.onPts f).power = s.power := rfl
@[simp] theorem State.onPts_fresh (f : Points → Points) : (s.onPts f).fresh = s.fresh := rfl

/-! onFab -/

@[simp] theorem State.onFab_fab (f : Fabric → Fabric) : (s.onFab f).fab = f s.fab := rfl
@[simp] theorem State.onFab_pending (f : Fabric → Fabric) : (s.onFab f).pending = s.pending := rfl
@[simp] theorem State.onFab_regs (f : Fabric → Fabric) : (s.onFab f).regs = s.regs := rfl
@[simp] theorem State.onFab_host (f : Fabric → Fabric) : (s.onFab f).host = s.host := rfl
@[simp] theorem State.onFab_ctr (f : Fabric → Fabric) : (s.onFab f).ctr = s.ctr := rfl
@[simp] theorem State.onFab_time (f : Fabric → Fabric) : (s.onFab f).time = s.time := rfl
@[simp] theorem State.onFab_img (f : Fabric → Fabric) : (s.onFab f).img = s.img := rfl
@[simp] theorem State.onFab_pts (f : Fabric → Fabric) : (s.onFab f).pts = s.pts := rfl
@[simp] theorem State.onFab_loops (f : Fabric → Fabric) : (s.onFab f).loops = s.loops := rfl
@[simp] theorem State.onFab_axes (f : Fabric → Fabric) : (s.onFab f).axes = s.axes := rfl
@[simp] theorem State.onFab_pgs (f : Fabric → Fabric) : (s.onFab f).pgs = s.pgs := rfl
@[simp] theorem State.onFab_seqs (f : Fabric → Fabric) : (s.onFab f).seqs = s.seqs := rfl
@[simp] theorem State.onFab_logics (f : Fabric → Fabric) : (s.onFab f).logics = s.logics := rfl
@[simp] theorem State.onFab_cut (f : Fabric → Fabric) : (s.onFab f).cut = s.cut := rfl
@[simp] theorem State.onFab_fast (f : Fabric → Fabric) : (s.onFab f).fast = s.fast := rfl
@[simp] theorem State.onFab_key (f : Fabric → Fabric) : (s.onFab f).key = s.key := rfl
@[simp] theorem State.onFab_hist (f : Fabric → Fabric) : (s.onFab f).hist = s.hist := rfl
@[simp] theorem State.onFab_acq (f : Fabric → Fabric) : (s.onFab f).acq = s.acq := rfl
@[simp] theorem State.onFab_conv (f : Fabric → Fabric) : (s.onFab f).conv = s.conv := rfl
@[simp] theorem State.onFab_field (f : Fabric → Fabric) : (s.onFab f).field = s.field := rfl
@[simp] theorem State.onFab_link (f : Fabric → Fabric) : (s.onFab f).link = s.link := rfl
@[simp] theorem State.onFab_pair (f : Fabric → Fabric) : (s.onFab f).pair = s.pair := rfl
@[simp] theorem State.onFab_sec (f : Fabric → Fabric) : (s.onFab f).sec = s.sec := rfl
@[simp] theorem State.onFab_saf (f : Fabric → Fabric) : (s.onFab f).saf = s.saf := rfl
@[simp] theorem State.onFab_recd (f : Fabric → Fabric) : (s.onFab f).recd = s.recd := rfl
@[simp] theorem State.onFab_age (f : Fabric → Fabric) : (s.onFab f).age = s.age := rfl
@[simp] theorem State.onFab_power (f : Fabric → Fabric) : (s.onFab f).power = s.power := rfl
@[simp] theorem State.onFab_fresh (f : Fabric → Fabric) : (s.onFab f).fresh = s.fresh := rfl

/-! onHist -/

@[simp] theorem State.onHist_hist (f : HistState → HistState) : (s.onHist f).hist = f s.hist := rfl
@[simp] theorem State.onHist_pending (f : HistState → HistState) : (s.onHist f).pending = s.pending := rfl
@[simp] theorem State.onHist_regs (f : HistState → HistState) : (s.onHist f).regs = s.regs := rfl
@[simp] theorem State.onHist_host (f : HistState → HistState) : (s.onHist f).host = s.host := rfl
@[simp] theorem State.onHist_ctr (f : HistState → HistState) : (s.onHist f).ctr = s.ctr := rfl
@[simp] theorem State.onHist_time (f : HistState → HistState) : (s.onHist f).time = s.time := rfl
@[simp] theorem State.onHist_img (f : HistState → HistState) : (s.onHist f).img = s.img := rfl
@[simp] theorem State.onHist_pts (f : HistState → HistState) : (s.onHist f).pts = s.pts := rfl
@[simp] theorem State.onHist_fab (f : HistState → HistState) : (s.onHist f).fab = s.fab := rfl
@[simp] theorem State.onHist_loops (f : HistState → HistState) : (s.onHist f).loops = s.loops := rfl
@[simp] theorem State.onHist_axes (f : HistState → HistState) : (s.onHist f).axes = s.axes := rfl
@[simp] theorem State.onHist_pgs (f : HistState → HistState) : (s.onHist f).pgs = s.pgs := rfl
@[simp] theorem State.onHist_seqs (f : HistState → HistState) : (s.onHist f).seqs = s.seqs := rfl
@[simp] theorem State.onHist_logics (f : HistState → HistState) : (s.onHist f).logics = s.logics := rfl
@[simp] theorem State.onHist_cut (f : HistState → HistState) : (s.onHist f).cut = s.cut := rfl
@[simp] theorem State.onHist_fast (f : HistState → HistState) : (s.onHist f).fast = s.fast := rfl
@[simp] theorem State.onHist_key (f : HistState → HistState) : (s.onHist f).key = s.key := rfl
@[simp] theorem State.onHist_acq (f : HistState → HistState) : (s.onHist f).acq = s.acq := rfl
@[simp] theorem State.onHist_conv (f : HistState → HistState) : (s.onHist f).conv = s.conv := rfl
@[simp] theorem State.onHist_field (f : HistState → HistState) : (s.onHist f).field = s.field := rfl
@[simp] theorem State.onHist_link (f : HistState → HistState) : (s.onHist f).link = s.link := rfl
@[simp] theorem State.onHist_pair (f : HistState → HistState) : (s.onHist f).pair = s.pair := rfl
@[simp] theorem State.onHist_sec (f : HistState → HistState) : (s.onHist f).sec = s.sec := rfl
@[simp] theorem State.onHist_saf (f : HistState → HistState) : (s.onHist f).saf = s.saf := rfl
@[simp] theorem State.onHist_recd (f : HistState → HistState) : (s.onHist f).recd = s.recd := rfl
@[simp] theorem State.onHist_age (f : HistState → HistState) : (s.onHist f).age = s.age := rfl
@[simp] theorem State.onHist_power (f : HistState → HistState) : (s.onHist f).power = s.power := rfl
@[simp] theorem State.onHist_fresh (f : HistState → HistState) : (s.onHist f).fresh = s.fresh := rfl

/-! onAcq -/

@[simp] theorem State.onAcq_acq (f : AcqState → AcqState) : (s.onAcq f).acq = f s.acq := rfl
@[simp] theorem State.onAcq_pending (f : AcqState → AcqState) : (s.onAcq f).pending = s.pending := rfl
@[simp] theorem State.onAcq_regs (f : AcqState → AcqState) : (s.onAcq f).regs = s.regs := rfl
@[simp] theorem State.onAcq_host (f : AcqState → AcqState) : (s.onAcq f).host = s.host := rfl
@[simp] theorem State.onAcq_ctr (f : AcqState → AcqState) : (s.onAcq f).ctr = s.ctr := rfl
@[simp] theorem State.onAcq_time (f : AcqState → AcqState) : (s.onAcq f).time = s.time := rfl
@[simp] theorem State.onAcq_img (f : AcqState → AcqState) : (s.onAcq f).img = s.img := rfl
@[simp] theorem State.onAcq_pts (f : AcqState → AcqState) : (s.onAcq f).pts = s.pts := rfl
@[simp] theorem State.onAcq_fab (f : AcqState → AcqState) : (s.onAcq f).fab = s.fab := rfl
@[simp] theorem State.onAcq_loops (f : AcqState → AcqState) : (s.onAcq f).loops = s.loops := rfl
@[simp] theorem State.onAcq_axes (f : AcqState → AcqState) : (s.onAcq f).axes = s.axes := rfl
@[simp] theorem State.onAcq_pgs (f : AcqState → AcqState) : (s.onAcq f).pgs = s.pgs := rfl
@[simp] theorem State.onAcq_seqs (f : AcqState → AcqState) : (s.onAcq f).seqs = s.seqs := rfl
@[simp] theorem State.onAcq_logics (f : AcqState → AcqState) : (s.onAcq f).logics = s.logics := rfl
@[simp] theorem State.onAcq_cut (f : AcqState → AcqState) : (s.onAcq f).cut = s.cut := rfl
@[simp] theorem State.onAcq_fast (f : AcqState → AcqState) : (s.onAcq f).fast = s.fast := rfl
@[simp] theorem State.onAcq_key (f : AcqState → AcqState) : (s.onAcq f).key = s.key := rfl
@[simp] theorem State.onAcq_hist (f : AcqState → AcqState) : (s.onAcq f).hist = s.hist := rfl
@[simp] theorem State.onAcq_conv (f : AcqState → AcqState) : (s.onAcq f).conv = s.conv := rfl
@[simp] theorem State.onAcq_field (f : AcqState → AcqState) : (s.onAcq f).field = s.field := rfl
@[simp] theorem State.onAcq_link (f : AcqState → AcqState) : (s.onAcq f).link = s.link := rfl
@[simp] theorem State.onAcq_pair (f : AcqState → AcqState) : (s.onAcq f).pair = s.pair := rfl
@[simp] theorem State.onAcq_sec (f : AcqState → AcqState) : (s.onAcq f).sec = s.sec := rfl
@[simp] theorem State.onAcq_saf (f : AcqState → AcqState) : (s.onAcq f).saf = s.saf := rfl
@[simp] theorem State.onAcq_recd (f : AcqState → AcqState) : (s.onAcq f).recd = s.recd := rfl
@[simp] theorem State.onAcq_age (f : AcqState → AcqState) : (s.onAcq f).age = s.age := rfl
@[simp] theorem State.onAcq_power (f : AcqState → AcqState) : (s.onAcq f).power = s.power := rfl
@[simp] theorem State.onAcq_fresh (f : AcqState → AcqState) : (s.onAcq f).fresh = s.fresh := rfl

/-! onConv -/

@[simp] theorem State.onConv_conv (f : ConvBlock → ConvBlock) : (s.onConv f).conv = f s.conv := rfl
@[simp] theorem State.onConv_pending (f : ConvBlock → ConvBlock) : (s.onConv f).pending = s.pending := rfl
@[simp] theorem State.onConv_regs (f : ConvBlock → ConvBlock) : (s.onConv f).regs = s.regs := rfl
@[simp] theorem State.onConv_host (f : ConvBlock → ConvBlock) : (s.onConv f).host = s.host := rfl
@[simp] theorem State.onConv_ctr (f : ConvBlock → ConvBlock) : (s.onConv f).ctr = s.ctr := rfl
@[simp] theorem State.onConv_time (f : ConvBlock → ConvBlock) : (s.onConv f).time = s.time := rfl
@[simp] theorem State.onConv_img (f : ConvBlock → ConvBlock) : (s.onConv f).img = s.img := rfl
@[simp] theorem State.onConv_pts (f : ConvBlock → ConvBlock) : (s.onConv f).pts = s.pts := rfl
@[simp] theorem State.onConv_fab (f : ConvBlock → ConvBlock) : (s.onConv f).fab = s.fab := rfl
@[simp] theorem State.onConv_loops (f : ConvBlock → ConvBlock) : (s.onConv f).loops = s.loops := rfl
@[simp] theorem State.onConv_axes (f : ConvBlock → ConvBlock) : (s.onConv f).axes = s.axes := rfl
@[simp] theorem State.onConv_pgs (f : ConvBlock → ConvBlock) : (s.onConv f).pgs = s.pgs := rfl
@[simp] theorem State.onConv_seqs (f : ConvBlock → ConvBlock) : (s.onConv f).seqs = s.seqs := rfl
@[simp] theorem State.onConv_logics (f : ConvBlock → ConvBlock) : (s.onConv f).logics = s.logics := rfl
@[simp] theorem State.onConv_cut (f : ConvBlock → ConvBlock) : (s.onConv f).cut = s.cut := rfl
@[simp] theorem State.onConv_fast (f : ConvBlock → ConvBlock) : (s.onConv f).fast = s.fast := rfl
@[simp] theorem State.onConv_key (f : ConvBlock → ConvBlock) : (s.onConv f).key = s.key := rfl
@[simp] theorem State.onConv_hist (f : ConvBlock → ConvBlock) : (s.onConv f).hist = s.hist := rfl
@[simp] theorem State.onConv_acq (f : ConvBlock → ConvBlock) : (s.onConv f).acq = s.acq := rfl
@[simp] theorem State.onConv_field (f : ConvBlock → ConvBlock) : (s.onConv f).field = s.field := rfl
@[simp] theorem State.onConv_link (f : ConvBlock → ConvBlock) : (s.onConv f).link = s.link := rfl
@[simp] theorem State.onConv_pair (f : ConvBlock → ConvBlock) : (s.onConv f).pair = s.pair := rfl
@[simp] theorem State.onConv_sec (f : ConvBlock → ConvBlock) : (s.onConv f).sec = s.sec := rfl
@[simp] theorem State.onConv_saf (f : ConvBlock → ConvBlock) : (s.onConv f).saf = s.saf := rfl
@[simp] theorem State.onConv_recd (f : ConvBlock → ConvBlock) : (s.onConv f).recd = s.recd := rfl
@[simp] theorem State.onConv_age (f : ConvBlock → ConvBlock) : (s.onConv f).age = s.age := rfl
@[simp] theorem State.onConv_power (f : ConvBlock → ConvBlock) : (s.onConv f).power = s.power := rfl
@[simp] theorem State.onConv_fresh (f : ConvBlock → ConvBlock) : (s.onConv f).fresh = s.fresh := rfl

/-! onField -/

@[simp] theorem State.onField_field (f : FieldState → FieldState) : (s.onField f).field = f s.field := rfl
@[simp] theorem State.onField_pending (f : FieldState → FieldState) : (s.onField f).pending = s.pending := rfl
@[simp] theorem State.onField_regs (f : FieldState → FieldState) : (s.onField f).regs = s.regs := rfl
@[simp] theorem State.onField_host (f : FieldState → FieldState) : (s.onField f).host = s.host := rfl
@[simp] theorem State.onField_ctr (f : FieldState → FieldState) : (s.onField f).ctr = s.ctr := rfl
@[simp] theorem State.onField_time (f : FieldState → FieldState) : (s.onField f).time = s.time := rfl
@[simp] theorem State.onField_img (f : FieldState → FieldState) : (s.onField f).img = s.img := rfl
@[simp] theorem State.onField_pts (f : FieldState → FieldState) : (s.onField f).pts = s.pts := rfl
@[simp] theorem State.onField_fab (f : FieldState → FieldState) : (s.onField f).fab = s.fab := rfl
@[simp] theorem State.onField_loops (f : FieldState → FieldState) : (s.onField f).loops = s.loops := rfl
@[simp] theorem State.onField_axes (f : FieldState → FieldState) : (s.onField f).axes = s.axes := rfl
@[simp] theorem State.onField_pgs (f : FieldState → FieldState) : (s.onField f).pgs = s.pgs := rfl
@[simp] theorem State.onField_seqs (f : FieldState → FieldState) : (s.onField f).seqs = s.seqs := rfl
@[simp] theorem State.onField_logics (f : FieldState → FieldState) : (s.onField f).logics = s.logics := rfl
@[simp] theorem State.onField_cut (f : FieldState → FieldState) : (s.onField f).cut = s.cut := rfl
@[simp] theorem State.onField_fast (f : FieldState → FieldState) : (s.onField f).fast = s.fast := rfl
@[simp] theorem State.onField_key (f : FieldState → FieldState) : (s.onField f).key = s.key := rfl
@[simp] theorem State.onField_hist (f : FieldState → FieldState) : (s.onField f).hist = s.hist := rfl
@[simp] theorem State.onField_acq (f : FieldState → FieldState) : (s.onField f).acq = s.acq := rfl
@[simp] theorem State.onField_conv (f : FieldState → FieldState) : (s.onField f).conv = s.conv := rfl
@[simp] theorem State.onField_link (f : FieldState → FieldState) : (s.onField f).link = s.link := rfl
@[simp] theorem State.onField_pair (f : FieldState → FieldState) : (s.onField f).pair = s.pair := rfl
@[simp] theorem State.onField_sec (f : FieldState → FieldState) : (s.onField f).sec = s.sec := rfl
@[simp] theorem State.onField_saf (f : FieldState → FieldState) : (s.onField f).saf = s.saf := rfl
@[simp] theorem State.onField_recd (f : FieldState → FieldState) : (s.onField f).recd = s.recd := rfl
@[simp] theorem State.onField_age (f : FieldState → FieldState) : (s.onField f).age = s.age := rfl
@[simp] theorem State.onField_power (f : FieldState → FieldState) : (s.onField f).power = s.power := rfl
@[simp] theorem State.onField_fresh (f : FieldState → FieldState) : (s.onField f).fresh = s.fresh := rfl

/-! onLink -/

@[simp] theorem State.onLink_link (f : LinkState → LinkState) : (s.onLink f).link = f s.link := rfl
@[simp] theorem State.onLink_pending (f : LinkState → LinkState) : (s.onLink f).pending = s.pending := rfl
@[simp] theorem State.onLink_regs (f : LinkState → LinkState) : (s.onLink f).regs = s.regs := rfl
@[simp] theorem State.onLink_host (f : LinkState → LinkState) : (s.onLink f).host = s.host := rfl
@[simp] theorem State.onLink_ctr (f : LinkState → LinkState) : (s.onLink f).ctr = s.ctr := rfl
@[simp] theorem State.onLink_time (f : LinkState → LinkState) : (s.onLink f).time = s.time := rfl
@[simp] theorem State.onLink_img (f : LinkState → LinkState) : (s.onLink f).img = s.img := rfl
@[simp] theorem State.onLink_pts (f : LinkState → LinkState) : (s.onLink f).pts = s.pts := rfl
@[simp] theorem State.onLink_fab (f : LinkState → LinkState) : (s.onLink f).fab = s.fab := rfl
@[simp] theorem State.onLink_loops (f : LinkState → LinkState) : (s.onLink f).loops = s.loops := rfl
@[simp] theorem State.onLink_axes (f : LinkState → LinkState) : (s.onLink f).axes = s.axes := rfl
@[simp] theorem State.onLink_pgs (f : LinkState → LinkState) : (s.onLink f).pgs = s.pgs := rfl
@[simp] theorem State.onLink_seqs (f : LinkState → LinkState) : (s.onLink f).seqs = s.seqs := rfl
@[simp] theorem State.onLink_logics (f : LinkState → LinkState) : (s.onLink f).logics = s.logics := rfl
@[simp] theorem State.onLink_cut (f : LinkState → LinkState) : (s.onLink f).cut = s.cut := rfl
@[simp] theorem State.onLink_fast (f : LinkState → LinkState) : (s.onLink f).fast = s.fast := rfl
@[simp] theorem State.onLink_key (f : LinkState → LinkState) : (s.onLink f).key = s.key := rfl
@[simp] theorem State.onLink_hist (f : LinkState → LinkState) : (s.onLink f).hist = s.hist := rfl
@[simp] theorem State.onLink_acq (f : LinkState → LinkState) : (s.onLink f).acq = s.acq := rfl
@[simp] theorem State.onLink_conv (f : LinkState → LinkState) : (s.onLink f).conv = s.conv := rfl
@[simp] theorem State.onLink_field (f : LinkState → LinkState) : (s.onLink f).field = s.field := rfl
@[simp] theorem State.onLink_pair (f : LinkState → LinkState) : (s.onLink f).pair = s.pair := rfl
@[simp] theorem State.onLink_sec (f : LinkState → LinkState) : (s.onLink f).sec = s.sec := rfl
@[simp] theorem State.onLink_saf (f : LinkState → LinkState) : (s.onLink f).saf = s.saf := rfl
@[simp] theorem State.onLink_recd (f : LinkState → LinkState) : (s.onLink f).recd = s.recd := rfl
@[simp] theorem State.onLink_age (f : LinkState → LinkState) : (s.onLink f).age = s.age := rfl
@[simp] theorem State.onLink_power (f : LinkState → LinkState) : (s.onLink f).power = s.power := rfl
@[simp] theorem State.onLink_fresh (f : LinkState → LinkState) : (s.onLink f).fresh = s.fresh := rfl

/-! onPair -/

@[simp] theorem State.onPair_pair (f : PairState → PairState) : (s.onPair f).pair = f s.pair := rfl
@[simp] theorem State.onPair_pending (f : PairState → PairState) : (s.onPair f).pending = s.pending := rfl
@[simp] theorem State.onPair_regs (f : PairState → PairState) : (s.onPair f).regs = s.regs := rfl
@[simp] theorem State.onPair_host (f : PairState → PairState) : (s.onPair f).host = s.host := rfl
@[simp] theorem State.onPair_ctr (f : PairState → PairState) : (s.onPair f).ctr = s.ctr := rfl
@[simp] theorem State.onPair_time (f : PairState → PairState) : (s.onPair f).time = s.time := rfl
@[simp] theorem State.onPair_img (f : PairState → PairState) : (s.onPair f).img = s.img := rfl
@[simp] theorem State.onPair_pts (f : PairState → PairState) : (s.onPair f).pts = s.pts := rfl
@[simp] theorem State.onPair_fab (f : PairState → PairState) : (s.onPair f).fab = s.fab := rfl
@[simp] theorem State.onPair_loops (f : PairState → PairState) : (s.onPair f).loops = s.loops := rfl
@[simp] theorem State.onPair_axes (f : PairState → PairState) : (s.onPair f).axes = s.axes := rfl
@[simp] theorem State.onPair_pgs (f : PairState → PairState) : (s.onPair f).pgs = s.pgs := rfl
@[simp] theorem State.onPair_seqs (f : PairState → PairState) : (s.onPair f).seqs = s.seqs := rfl
@[simp] theorem State.onPair_logics (f : PairState → PairState) : (s.onPair f).logics = s.logics := rfl
@[simp] theorem State.onPair_cut (f : PairState → PairState) : (s.onPair f).cut = s.cut := rfl
@[simp] theorem State.onPair_fast (f : PairState → PairState) : (s.onPair f).fast = s.fast := rfl
@[simp] theorem State.onPair_key (f : PairState → PairState) : (s.onPair f).key = s.key := rfl
@[simp] theorem State.onPair_hist (f : PairState → PairState) : (s.onPair f).hist = s.hist := rfl
@[simp] theorem State.onPair_acq (f : PairState → PairState) : (s.onPair f).acq = s.acq := rfl
@[simp] theorem State.onPair_conv (f : PairState → PairState) : (s.onPair f).conv = s.conv := rfl
@[simp] theorem State.onPair_field (f : PairState → PairState) : (s.onPair f).field = s.field := rfl
@[simp] theorem State.onPair_link (f : PairState → PairState) : (s.onPair f).link = s.link := rfl
@[simp] theorem State.onPair_sec (f : PairState → PairState) : (s.onPair f).sec = s.sec := rfl
@[simp] theorem State.onPair_saf (f : PairState → PairState) : (s.onPair f).saf = s.saf := rfl
@[simp] theorem State.onPair_recd (f : PairState → PairState) : (s.onPair f).recd = s.recd := rfl
@[simp] theorem State.onPair_age (f : PairState → PairState) : (s.onPair f).age = s.age := rfl
@[simp] theorem State.onPair_power (f : PairState → PairState) : (s.onPair f).power = s.power := rfl
@[simp] theorem State.onPair_fresh (f : PairState → PairState) : (s.onPair f).fresh = s.fresh := rfl

/-! onSec -/

@[simp] theorem State.onSec_sec (f : SecState → SecState) : (s.onSec f).sec = f s.sec := rfl
@[simp] theorem State.onSec_pending (f : SecState → SecState) : (s.onSec f).pending = s.pending := rfl
@[simp] theorem State.onSec_regs (f : SecState → SecState) : (s.onSec f).regs = s.regs := rfl
@[simp] theorem State.onSec_host (f : SecState → SecState) : (s.onSec f).host = s.host := rfl
@[simp] theorem State.onSec_ctr (f : SecState → SecState) : (s.onSec f).ctr = s.ctr := rfl
@[simp] theorem State.onSec_time (f : SecState → SecState) : (s.onSec f).time = s.time := rfl
@[simp] theorem State.onSec_img (f : SecState → SecState) : (s.onSec f).img = s.img := rfl
@[simp] theorem State.onSec_pts (f : SecState → SecState) : (s.onSec f).pts = s.pts := rfl
@[simp] theorem State.onSec_fab (f : SecState → SecState) : (s.onSec f).fab = s.fab := rfl
@[simp] theorem State.onSec_loops (f : SecState → SecState) : (s.onSec f).loops = s.loops := rfl
@[simp] theorem State.onSec_axes (f : SecState → SecState) : (s.onSec f).axes = s.axes := rfl
@[simp] theorem State.onSec_pgs (f : SecState → SecState) : (s.onSec f).pgs = s.pgs := rfl
@[simp] theorem State.onSec_seqs (f : SecState → SecState) : (s.onSec f).seqs = s.seqs := rfl
@[simp] theorem State.onSec_logics (f : SecState → SecState) : (s.onSec f).logics = s.logics := rfl
@[simp] theorem State.onSec_cut (f : SecState → SecState) : (s.onSec f).cut = s.cut := rfl
@[simp] theorem State.onSec_fast (f : SecState → SecState) : (s.onSec f).fast = s.fast := rfl
@[simp] theorem State.onSec_key (f : SecState → SecState) : (s.onSec f).key = s.key := rfl
@[simp] theorem State.onSec_hist (f : SecState → SecState) : (s.onSec f).hist = s.hist := rfl
@[simp] theorem State.onSec_acq (f : SecState → SecState) : (s.onSec f).acq = s.acq := rfl
@[simp] theorem State.onSec_conv (f : SecState → SecState) : (s.onSec f).conv = s.conv := rfl
@[simp] theorem State.onSec_field (f : SecState → SecState) : (s.onSec f).field = s.field := rfl
@[simp] theorem State.onSec_link (f : SecState → SecState) : (s.onSec f).link = s.link := rfl
@[simp] theorem State.onSec_pair (f : SecState → SecState) : (s.onSec f).pair = s.pair := rfl
@[simp] theorem State.onSec_saf (f : SecState → SecState) : (s.onSec f).saf = s.saf := rfl
@[simp] theorem State.onSec_recd (f : SecState → SecState) : (s.onSec f).recd = s.recd := rfl
@[simp] theorem State.onSec_age (f : SecState → SecState) : (s.onSec f).age = s.age := rfl
@[simp] theorem State.onSec_power (f : SecState → SecState) : (s.onSec f).power = s.power := rfl
@[simp] theorem State.onSec_fresh (f : SecState → SecState) : (s.onSec f).fresh = s.fresh := rfl

/-! onSaf -/

@[simp] theorem State.onSaf_saf (f : SafIsland → SafIsland) : (s.onSaf f).saf = f s.saf := rfl
@[simp] theorem State.onSaf_pending (f : SafIsland → SafIsland) : (s.onSaf f).pending = s.pending := rfl
@[simp] theorem State.onSaf_regs (f : SafIsland → SafIsland) : (s.onSaf f).regs = s.regs := rfl
@[simp] theorem State.onSaf_host (f : SafIsland → SafIsland) : (s.onSaf f).host = s.host := rfl
@[simp] theorem State.onSaf_ctr (f : SafIsland → SafIsland) : (s.onSaf f).ctr = s.ctr := rfl
@[simp] theorem State.onSaf_time (f : SafIsland → SafIsland) : (s.onSaf f).time = s.time := rfl
@[simp] theorem State.onSaf_img (f : SafIsland → SafIsland) : (s.onSaf f).img = s.img := rfl
@[simp] theorem State.onSaf_pts (f : SafIsland → SafIsland) : (s.onSaf f).pts = s.pts := rfl
@[simp] theorem State.onSaf_fab (f : SafIsland → SafIsland) : (s.onSaf f).fab = s.fab := rfl
@[simp] theorem State.onSaf_loops (f : SafIsland → SafIsland) : (s.onSaf f).loops = s.loops := rfl
@[simp] theorem State.onSaf_axes (f : SafIsland → SafIsland) : (s.onSaf f).axes = s.axes := rfl
@[simp] theorem State.onSaf_pgs (f : SafIsland → SafIsland) : (s.onSaf f).pgs = s.pgs := rfl
@[simp] theorem State.onSaf_seqs (f : SafIsland → SafIsland) : (s.onSaf f).seqs = s.seqs := rfl
@[simp] theorem State.onSaf_logics (f : SafIsland → SafIsland) : (s.onSaf f).logics = s.logics := rfl
@[simp] theorem State.onSaf_cut (f : SafIsland → SafIsland) : (s.onSaf f).cut = s.cut := rfl
@[simp] theorem State.onSaf_fast (f : SafIsland → SafIsland) : (s.onSaf f).fast = s.fast := rfl
@[simp] theorem State.onSaf_key (f : SafIsland → SafIsland) : (s.onSaf f).key = s.key := rfl
@[simp] theorem State.onSaf_hist (f : SafIsland → SafIsland) : (s.onSaf f).hist = s.hist := rfl
@[simp] theorem State.onSaf_acq (f : SafIsland → SafIsland) : (s.onSaf f).acq = s.acq := rfl
@[simp] theorem State.onSaf_conv (f : SafIsland → SafIsland) : (s.onSaf f).conv = s.conv := rfl
@[simp] theorem State.onSaf_field (f : SafIsland → SafIsland) : (s.onSaf f).field = s.field := rfl
@[simp] theorem State.onSaf_link (f : SafIsland → SafIsland) : (s.onSaf f).link = s.link := rfl
@[simp] theorem State.onSaf_pair (f : SafIsland → SafIsland) : (s.onSaf f).pair = s.pair := rfl
@[simp] theorem State.onSaf_sec (f : SafIsland → SafIsland) : (s.onSaf f).sec = s.sec := rfl
@[simp] theorem State.onSaf_recd (f : SafIsland → SafIsland) : (s.onSaf f).recd = s.recd := rfl
@[simp] theorem State.onSaf_age (f : SafIsland → SafIsland) : (s.onSaf f).age = s.age := rfl
@[simp] theorem State.onSaf_power (f : SafIsland → SafIsland) : (s.onSaf f).power = s.power := rfl
@[simp] theorem State.onSaf_fresh (f : SafIsland → SafIsland) : (s.onSaf f).fresh = s.fresh := rfl

/-! onRec -/

@[simp] theorem State.onRec_recd (f : Recorder → Recorder) : (s.onRec f).recd = f s.recd := rfl
@[simp] theorem State.onRec_pending (f : Recorder → Recorder) : (s.onRec f).pending = s.pending := rfl
@[simp] theorem State.onRec_regs (f : Recorder → Recorder) : (s.onRec f).regs = s.regs := rfl
@[simp] theorem State.onRec_host (f : Recorder → Recorder) : (s.onRec f).host = s.host := rfl
@[simp] theorem State.onRec_ctr (f : Recorder → Recorder) : (s.onRec f).ctr = s.ctr := rfl
@[simp] theorem State.onRec_time (f : Recorder → Recorder) : (s.onRec f).time = s.time := rfl
@[simp] theorem State.onRec_img (f : Recorder → Recorder) : (s.onRec f).img = s.img := rfl
@[simp] theorem State.onRec_pts (f : Recorder → Recorder) : (s.onRec f).pts = s.pts := rfl
@[simp] theorem State.onRec_fab (f : Recorder → Recorder) : (s.onRec f).fab = s.fab := rfl
@[simp] theorem State.onRec_loops (f : Recorder → Recorder) : (s.onRec f).loops = s.loops := rfl
@[simp] theorem State.onRec_axes (f : Recorder → Recorder) : (s.onRec f).axes = s.axes := rfl
@[simp] theorem State.onRec_pgs (f : Recorder → Recorder) : (s.onRec f).pgs = s.pgs := rfl
@[simp] theorem State.onRec_seqs (f : Recorder → Recorder) : (s.onRec f).seqs = s.seqs := rfl
@[simp] theorem State.onRec_logics (f : Recorder → Recorder) : (s.onRec f).logics = s.logics := rfl
@[simp] theorem State.onRec_cut (f : Recorder → Recorder) : (s.onRec f).cut = s.cut := rfl
@[simp] theorem State.onRec_fast (f : Recorder → Recorder) : (s.onRec f).fast = s.fast := rfl
@[simp] theorem State.onRec_key (f : Recorder → Recorder) : (s.onRec f).key = s.key := rfl
@[simp] theorem State.onRec_hist (f : Recorder → Recorder) : (s.onRec f).hist = s.hist := rfl
@[simp] theorem State.onRec_acq (f : Recorder → Recorder) : (s.onRec f).acq = s.acq := rfl
@[simp] theorem State.onRec_conv (f : Recorder → Recorder) : (s.onRec f).conv = s.conv := rfl
@[simp] theorem State.onRec_field (f : Recorder → Recorder) : (s.onRec f).field = s.field := rfl
@[simp] theorem State.onRec_link (f : Recorder → Recorder) : (s.onRec f).link = s.link := rfl
@[simp] theorem State.onRec_pair (f : Recorder → Recorder) : (s.onRec f).pair = s.pair := rfl
@[simp] theorem State.onRec_sec (f : Recorder → Recorder) : (s.onRec f).sec = s.sec := rfl
@[simp] theorem State.onRec_saf (f : Recorder → Recorder) : (s.onRec f).saf = s.saf := rfl
@[simp] theorem State.onRec_age (f : Recorder → Recorder) : (s.onRec f).age = s.age := rfl
@[simp] theorem State.onRec_power (f : Recorder → Recorder) : (s.onRec f).power = s.power := rfl
@[simp] theorem State.onRec_fresh (f : Recorder → Recorder) : (s.onRec f).fresh = s.fresh := rfl

/-! onAge -/

@[simp] theorem State.onAge_age (f : AgeState → AgeState) : (s.onAge f).age = f s.age := rfl
@[simp] theorem State.onAge_pending (f : AgeState → AgeState) : (s.onAge f).pending = s.pending := rfl
@[simp] theorem State.onAge_regs (f : AgeState → AgeState) : (s.onAge f).regs = s.regs := rfl
@[simp] theorem State.onAge_host (f : AgeState → AgeState) : (s.onAge f).host = s.host := rfl
@[simp] theorem State.onAge_ctr (f : AgeState → AgeState) : (s.onAge f).ctr = s.ctr := rfl
@[simp] theorem State.onAge_time (f : AgeState → AgeState) : (s.onAge f).time = s.time := rfl
@[simp] theorem State.onAge_img (f : AgeState → AgeState) : (s.onAge f).img = s.img := rfl
@[simp] theorem State.onAge_pts (f : AgeState → AgeState) : (s.onAge f).pts = s.pts := rfl
@[simp] theorem State.onAge_fab (f : AgeState → AgeState) : (s.onAge f).fab = s.fab := rfl
@[simp] theorem State.onAge_loops (f : AgeState → AgeState) : (s.onAge f).loops = s.loops := rfl
@[simp] theorem State.onAge_axes (f : AgeState → AgeState) : (s.onAge f).axes = s.axes := rfl
@[simp] theorem State.onAge_pgs (f : AgeState → AgeState) : (s.onAge f).pgs = s.pgs := rfl
@[simp] theorem State.onAge_seqs (f : AgeState → AgeState) : (s.onAge f).seqs = s.seqs := rfl
@[simp] theorem State.onAge_logics (f : AgeState → AgeState) : (s.onAge f).logics = s.logics := rfl
@[simp] theorem State.onAge_cut (f : AgeState → AgeState) : (s.onAge f).cut = s.cut := rfl
@[simp] theorem State.onAge_fast (f : AgeState → AgeState) : (s.onAge f).fast = s.fast := rfl
@[simp] theorem State.onAge_key (f : AgeState → AgeState) : (s.onAge f).key = s.key := rfl
@[simp] theorem State.onAge_hist (f : AgeState → AgeState) : (s.onAge f).hist = s.hist := rfl
@[simp] theorem State.onAge_acq (f : AgeState → AgeState) : (s.onAge f).acq = s.acq := rfl
@[simp] theorem State.onAge_conv (f : AgeState → AgeState) : (s.onAge f).conv = s.conv := rfl
@[simp] theorem State.onAge_field (f : AgeState → AgeState) : (s.onAge f).field = s.field := rfl
@[simp] theorem State.onAge_link (f : AgeState → AgeState) : (s.onAge f).link = s.link := rfl
@[simp] theorem State.onAge_pair (f : AgeState → AgeState) : (s.onAge f).pair = s.pair := rfl
@[simp] theorem State.onAge_sec (f : AgeState → AgeState) : (s.onAge f).sec = s.sec := rfl
@[simp] theorem State.onAge_saf (f : AgeState → AgeState) : (s.onAge f).saf = s.saf := rfl
@[simp] theorem State.onAge_recd (f : AgeState → AgeState) : (s.onAge f).recd = s.recd := rfl
@[simp] theorem State.onAge_power (f : AgeState → AgeState) : (s.onAge f).power = s.power := rfl
@[simp] theorem State.onAge_fresh (f : AgeState → AgeState) : (s.onAge f).fresh = s.fresh := rfl

/-! post -/

@[simp] theorem State.post_pending (c : Cpl) : (s.post c).pending = s.pending := by unfold State.post; repeat (first | rfl | split)
@[simp] theorem State.post_regs (c : Cpl) : (s.post c).regs = s.regs := by unfold State.post; repeat (first | rfl | split)
@[simp] theorem State.post_ctr (c : Cpl) : (s.post c).ctr = s.ctr := by unfold State.post; repeat (first | rfl | split)
@[simp] theorem State.post_time (c : Cpl) : (s.post c).time = s.time := by unfold State.post; repeat (first | rfl | split)
@[simp] theorem State.post_img (c : Cpl) : (s.post c).img = s.img := by unfold State.post; repeat (first | rfl | split)
@[simp] theorem State.post_pts (c : Cpl) : (s.post c).pts = s.pts := by unfold State.post; repeat (first | rfl | split)
@[simp] theorem State.post_fab (c : Cpl) : (s.post c).fab = s.fab := by unfold State.post; repeat (first | rfl | split)
@[simp] theorem State.post_loops (c : Cpl) : (s.post c).loops = s.loops := by unfold State.post; repeat (first | rfl | split)
@[simp] theorem State.post_axes (c : Cpl) : (s.post c).axes = s.axes := by unfold State.post; repeat (first | rfl | split)
@[simp] theorem State.post_pgs (c : Cpl) : (s.post c).pgs = s.pgs := by unfold State.post; repeat (first | rfl | split)
@[simp] theorem State.post_seqs (c : Cpl) : (s.post c).seqs = s.seqs := by unfold State.post; repeat (first | rfl | split)
@[simp] theorem State.post_logics (c : Cpl) : (s.post c).logics = s.logics := by unfold State.post; repeat (first | rfl | split)
@[simp] theorem State.post_cut (c : Cpl) : (s.post c).cut = s.cut := by unfold State.post; repeat (first | rfl | split)
@[simp] theorem State.post_fast (c : Cpl) : (s.post c).fast = s.fast := by unfold State.post; repeat (first | rfl | split)
@[simp] theorem State.post_key (c : Cpl) : (s.post c).key = s.key := by unfold State.post; repeat (first | rfl | split)
@[simp] theorem State.post_hist (c : Cpl) : (s.post c).hist = s.hist := by unfold State.post; repeat (first | rfl | split)
@[simp] theorem State.post_acq (c : Cpl) : (s.post c).acq = s.acq := by unfold State.post; repeat (first | rfl | split)
@[simp] theorem State.post_conv (c : Cpl) : (s.post c).conv = s.conv := by unfold State.post; repeat (first | rfl | split)
@[simp] theorem State.post_field (c : Cpl) : (s.post c).field = s.field := by unfold State.post; repeat (first | rfl | split)
@[simp] theorem State.post_link (c : Cpl) : (s.post c).link = s.link := by unfold State.post; repeat (first | rfl | split)
@[simp] theorem State.post_pair (c : Cpl) : (s.post c).pair = s.pair := by unfold State.post; repeat (first | rfl | split)
@[simp] theorem State.post_sec (c : Cpl) : (s.post c).sec = s.sec := by unfold State.post; repeat (first | rfl | split)
@[simp] theorem State.post_saf (c : Cpl) : (s.post c).saf = s.saf := by unfold State.post; repeat (first | rfl | split)
@[simp] theorem State.post_recd (c : Cpl) : (s.post c).recd = s.recd := by unfold State.post; repeat (first | rfl | split)
@[simp] theorem State.post_age (c : Cpl) : (s.post c).age = s.age := by unfold State.post; repeat (first | rfl | split)
@[simp] theorem State.post_power (c : Cpl) : (s.post c).power = s.power := by unfold State.post; repeat (first | rfl | split)
@[simp] theorem State.post_fresh (c : Cpl) : (s.post c).fresh = s.fresh := by unfold State.post; repeat (first | rfl | split)

/-! complete -/

@[simp] theorem State.complete_pending (r : CmdRef) (st : Status) (d n : Nat) (l : List Byte) : (s.complete r st d n l).pending = s.pending := by simp [State.complete]
@[simp] theorem State.complete_regs (r : CmdRef) (st : Status) (d n : Nat) (l : List Byte) : (s.complete r st d n l).regs = s.regs := by simp [State.complete]
@[simp] theorem State.complete_ctr (r : CmdRef) (st : Status) (d n : Nat) (l : List Byte) : (s.complete r st d n l).ctr = s.ctr := by simp [State.complete]
@[simp] theorem State.complete_time (r : CmdRef) (st : Status) (d n : Nat) (l : List Byte) : (s.complete r st d n l).time = s.time := by simp [State.complete]
@[simp] theorem State.complete_img (r : CmdRef) (st : Status) (d n : Nat) (l : List Byte) : (s.complete r st d n l).img = s.img := by simp [State.complete]
@[simp] theorem State.complete_pts (r : CmdRef) (st : Status) (d n : Nat) (l : List Byte) : (s.complete r st d n l).pts = s.pts := by simp [State.complete]
@[simp] theorem State.complete_fab (r : CmdRef) (st : Status) (d n : Nat) (l : List Byte) : (s.complete r st d n l).fab = s.fab := by simp [State.complete]
@[simp] theorem State.complete_loops (r : CmdRef) (st : Status) (d n : Nat) (l : List Byte) : (s.complete r st d n l).loops = s.loops := by simp [State.complete]
@[simp] theorem State.complete_axes (r : CmdRef) (st : Status) (d n : Nat) (l : List Byte) : (s.complete r st d n l).axes = s.axes := by simp [State.complete]
@[simp] theorem State.complete_pgs (r : CmdRef) (st : Status) (d n : Nat) (l : List Byte) : (s.complete r st d n l).pgs = s.pgs := by simp [State.complete]
@[simp] theorem State.complete_seqs (r : CmdRef) (st : Status) (d n : Nat) (l : List Byte) : (s.complete r st d n l).seqs = s.seqs := by simp [State.complete]
@[simp] theorem State.complete_logics (r : CmdRef) (st : Status) (d n : Nat) (l : List Byte) : (s.complete r st d n l).logics = s.logics := by simp [State.complete]
@[simp] theorem State.complete_cut (r : CmdRef) (st : Status) (d n : Nat) (l : List Byte) : (s.complete r st d n l).cut = s.cut := by simp [State.complete]
@[simp] theorem State.complete_fast (r : CmdRef) (st : Status) (d n : Nat) (l : List Byte) : (s.complete r st d n l).fast = s.fast := by simp [State.complete]
@[simp] theorem State.complete_key (r : CmdRef) (st : Status) (d n : Nat) (l : List Byte) : (s.complete r st d n l).key = s.key := by simp [State.complete]
@[simp] theorem State.complete_hist (r : CmdRef) (st : Status) (d n : Nat) (l : List Byte) : (s.complete r st d n l).hist = s.hist := by simp [State.complete]
@[simp] theorem State.complete_acq (r : CmdRef) (st : Status) (d n : Nat) (l : List Byte) : (s.complete r st d n l).acq = s.acq := by simp [State.complete]
@[simp] theorem State.complete_conv (r : CmdRef) (st : Status) (d n : Nat) (l : List Byte) : (s.complete r st d n l).conv = s.conv := by simp [State.complete]
@[simp] theorem State.complete_field (r : CmdRef) (st : Status) (d n : Nat) (l : List Byte) : (s.complete r st d n l).field = s.field := by simp [State.complete]
@[simp] theorem State.complete_link (r : CmdRef) (st : Status) (d n : Nat) (l : List Byte) : (s.complete r st d n l).link = s.link := by simp [State.complete]
@[simp] theorem State.complete_pair (r : CmdRef) (st : Status) (d n : Nat) (l : List Byte) : (s.complete r st d n l).pair = s.pair := by simp [State.complete]
@[simp] theorem State.complete_sec (r : CmdRef) (st : Status) (d n : Nat) (l : List Byte) : (s.complete r st d n l).sec = s.sec := by simp [State.complete]
@[simp] theorem State.complete_saf (r : CmdRef) (st : Status) (d n : Nat) (l : List Byte) : (s.complete r st d n l).saf = s.saf := by simp [State.complete]
@[simp] theorem State.complete_recd (r : CmdRef) (st : Status) (d n : Nat) (l : List Byte) : (s.complete r st d n l).recd = s.recd := by simp [State.complete]
@[simp] theorem State.complete_age (r : CmdRef) (st : Status) (d n : Nat) (l : List Byte) : (s.complete r st d n l).age = s.age := by simp [State.complete]
@[simp] theorem State.complete_power (r : CmdRef) (st : Status) (d n : Nat) (l : List Byte) : (s.complete r st d n l).power = s.power := by simp [State.complete]
@[simp] theorem State.complete_fresh (r : CmdRef) (st : Status) (d n : Nat) (l : List Byte) : (s.complete r st d n l).fresh = s.fresh := by simp [State.complete]

/-! accept -/

@[simp] theorem State.accept_pending (r : CmdRef) : (s.accept r).pending = s.pending := by simp [State.accept]
@[simp] theorem State.accept_regs (r : CmdRef) : (s.accept r).regs = s.regs := by simp [State.accept]
@[simp] theorem State.accept_ctr (r : CmdRef) : (s.accept r).ctr = s.ctr := by simp [State.accept]
@[simp] theorem State.accept_time (r : CmdRef) : (s.accept r).time = s.time := by simp [State.accept]
@[simp] theorem State.accept_img (r : CmdRef) : (s.accept r).img = s.img := by simp [State.accept]
@[simp] theorem State.accept_pts (r : CmdRef) : (s.accept r).pts = s.pts := by simp [State.accept]
@[simp] theorem State.accept_fab (r : CmdRef) : (s.accept r).fab = s.fab := by simp [State.accept]
@[simp] theorem State.accept_loops (r : CmdRef) : (s.accept r).loops = s.loops := by simp [State.accept]
@[simp] theorem State.accept_axes (r : CmdRef) : (s.accept r).axes = s.axes := by simp [State.accept]
@[simp] theorem State.accept_pgs (r : CmdRef) : (s.accept r).pgs = s.pgs := by simp [State.accept]
@[simp] theorem State.accept_seqs (r : CmdRef) : (s.accept r).seqs = s.seqs := by simp [State.accept]
@[simp] theorem State.accept_logics (r : CmdRef) : (s.accept r).logics = s.logics := by simp [State.accept]
@[simp] theorem State.accept_cut (r : CmdRef) : (s.accept r).cut = s.cut := by simp [State.accept]
@[simp] theorem State.accept_fast (r : CmdRef) : (s.accept r).fast = s.fast := by simp [State.accept]
@[simp] theorem State.accept_key (r : CmdRef) : (s.accept r).key = s.key := by simp [State.accept]
@[simp] theorem State.accept_hist (r : CmdRef) : (s.accept r).hist = s.hist := by simp [State.accept]
@[simp] theorem State.accept_acq (r : CmdRef) : (s.accept r).acq = s.acq := by simp [State.accept]
@[simp] theorem State.accept_conv (r : CmdRef) : (s.accept r).conv = s.conv := by simp [State.accept]
@[simp] theorem State.accept_field (r : CmdRef) : (s.accept r).field = s.field := by simp [State.accept]
@[simp] theorem State.accept_link (r : CmdRef) : (s.accept r).link = s.link := by simp [State.accept]
@[simp] theorem State.accept_pair (r : CmdRef) : (s.accept r).pair = s.pair := by simp [State.accept]
@[simp] theorem State.accept_sec (r : CmdRef) : (s.accept r).sec = s.sec := by simp [State.accept]
@[simp] theorem State.accept_saf (r : CmdRef) : (s.accept r).saf = s.saf := by simp [State.accept]
@[simp] theorem State.accept_recd (r : CmdRef) : (s.accept r).recd = s.recd := by simp [State.accept]
@[simp] theorem State.accept_age (r : CmdRef) : (s.accept r).age = s.age := by simp [State.accept]
@[simp] theorem State.accept_power (r : CmdRef) : (s.accept r).power = s.power := by simp [State.accept]
@[simp] theorem State.accept_fresh (r : CmdRef) : (s.accept r).fresh = s.fresh := by simp [State.accept]

/-! msi -/

@[simp] theorem State.msi_pending (v : Nat) : (s.msi v).pending = s.pending := by unfold State.msi; dsimp only; split; rfl; split <;> rfl
@[simp] theorem State.msi_regs (v : Nat) : (s.msi v).regs = s.regs := by unfold State.msi; dsimp only; split; rfl; split <;> rfl
@[simp] theorem State.msi_ctr (v : Nat) : (s.msi v).ctr = s.ctr := by unfold State.msi; dsimp only; split; rfl; split <;> rfl
@[simp] theorem State.msi_time (v : Nat) : (s.msi v).time = s.time := by unfold State.msi; dsimp only; split; rfl; split <;> rfl
@[simp] theorem State.msi_img (v : Nat) : (s.msi v).img = s.img := by unfold State.msi; dsimp only; split; rfl; split <;> rfl
@[simp] theorem State.msi_pts (v : Nat) : (s.msi v).pts = s.pts := by unfold State.msi; dsimp only; split; rfl; split <;> rfl
@[simp] theorem State.msi_fab (v : Nat) : (s.msi v).fab = s.fab := by unfold State.msi; dsimp only; split; rfl; split <;> rfl
@[simp] theorem State.msi_loops (v : Nat) : (s.msi v).loops = s.loops := by unfold State.msi; dsimp only; split; rfl; split <;> rfl
@[simp] theorem State.msi_axes (v : Nat) : (s.msi v).axes = s.axes := by unfold State.msi; dsimp only; split; rfl; split <;> rfl
@[simp] theorem State.msi_pgs (v : Nat) : (s.msi v).pgs = s.pgs := by unfold State.msi; dsimp only; split; rfl; split <;> rfl
@[simp] theorem State.msi_seqs (v : Nat) : (s.msi v).seqs = s.seqs := by unfold State.msi; dsimp only; split; rfl; split <;> rfl
@[simp] theorem State.msi_logics (v : Nat) : (s.msi v).logics = s.logics := by unfold State.msi; dsimp only; split; rfl; split <;> rfl
@[simp] theorem State.msi_cut (v : Nat) : (s.msi v).cut = s.cut := by unfold State.msi; dsimp only; split; rfl; split <;> rfl
@[simp] theorem State.msi_fast (v : Nat) : (s.msi v).fast = s.fast := by unfold State.msi; dsimp only; split; rfl; split <;> rfl
@[simp] theorem State.msi_key (v : Nat) : (s.msi v).key = s.key := by unfold State.msi; dsimp only; split; rfl; split <;> rfl
@[simp] theorem State.msi_hist (v : Nat) : (s.msi v).hist = s.hist := by unfold State.msi; dsimp only; split; rfl; split <;> rfl
@[simp] theorem State.msi_acq (v : Nat) : (s.msi v).acq = s.acq := by unfold State.msi; dsimp only; split; rfl; split <;> rfl
@[simp] theorem State.msi_conv (v : Nat) : (s.msi v).conv = s.conv := by unfold State.msi; dsimp only; split; rfl; split <;> rfl
@[simp] theorem State.msi_field (v : Nat) : (s.msi v).field = s.field := by unfold State.msi; dsimp only; split; rfl; split <;> rfl
@[simp] theorem State.msi_link (v : Nat) : (s.msi v).link = s.link := by unfold State.msi; dsimp only; split; rfl; split <;> rfl
@[simp] theorem State.msi_pair (v : Nat) : (s.msi v).pair = s.pair := by unfold State.msi; dsimp only; split; rfl; split <;> rfl
@[simp] theorem State.msi_sec (v : Nat) : (s.msi v).sec = s.sec := by unfold State.msi; dsimp only; split; rfl; split <;> rfl
@[simp] theorem State.msi_saf (v : Nat) : (s.msi v).saf = s.saf := by unfold State.msi; dsimp only; split; rfl; split <;> rfl
@[simp] theorem State.msi_recd (v : Nat) : (s.msi v).recd = s.recd := by unfold State.msi; dsimp only; split; rfl; split <;> rfl
@[simp] theorem State.msi_age (v : Nat) : (s.msi v).age = s.age := by unfold State.msi; dsimp only; split; rfl; split <;> rfl
@[simp] theorem State.msi_power (v : Nat) : (s.msi v).power = s.power := by unfold State.msi; dsimp only; split; rfl; split <;> rfl
@[simp] theorem State.msi_fresh (v : Nat) : (s.msi v).fresh = s.fresh := by unfold State.msi; dsimp only; split; rfl; split <;> rfl

/-! cause -/

@[simp] theorem State.cause_pending (i : Nat) : (s.cause i).pending = s.pending := by unfold State.cause; dsimp only; split; rfl; split <;> simp
@[simp] theorem State.cause_ctr (i : Nat) : (s.cause i).ctr = s.ctr := by unfold State.cause; dsimp only; split; rfl; split <;> simp
@[simp] theorem State.cause_time (i : Nat) : (s.cause i).time = s.time := by unfold State.cause; dsimp only; split; rfl; split <;> simp
@[simp] theorem State.cause_img (i : Nat) : (s.cause i).img = s.img := by unfold State.cause; dsimp only; split; rfl; split <;> simp
@[simp] theorem State.cause_pts (i : Nat) : (s.cause i).pts = s.pts := by unfold State.cause; dsimp only; split; rfl; split <;> simp
@[simp] theorem State.cause_fab (i : Nat) : (s.cause i).fab = s.fab := by unfold State.cause; dsimp only; split; rfl; split <;> simp
@[simp] theorem State.cause_loops (i : Nat) : (s.cause i).loops = s.loops := by unfold State.cause; dsimp only; split; rfl; split <;> simp
@[simp] theorem State.cause_axes (i : Nat) : (s.cause i).axes = s.axes := by unfold State.cause; dsimp only; split; rfl; split <;> simp
@[simp] theorem State.cause_pgs (i : Nat) : (s.cause i).pgs = s.pgs := by unfold State.cause; dsimp only; split; rfl; split <;> simp
@[simp] theorem State.cause_seqs (i : Nat) : (s.cause i).seqs = s.seqs := by unfold State.cause; dsimp only; split; rfl; split <;> simp
@[simp] theorem State.cause_logics (i : Nat) : (s.cause i).logics = s.logics := by unfold State.cause; dsimp only; split; rfl; split <;> simp
@[simp] theorem State.cause_cut (i : Nat) : (s.cause i).cut = s.cut := by unfold State.cause; dsimp only; split; rfl; split <;> simp
@[simp] theorem State.cause_fast (i : Nat) : (s.cause i).fast = s.fast := by unfold State.cause; dsimp only; split; rfl; split <;> simp
@[simp] theorem State.cause_key (i : Nat) : (s.cause i).key = s.key := by unfold State.cause; dsimp only; split; rfl; split <;> simp
@[simp] theorem State.cause_hist (i : Nat) : (s.cause i).hist = s.hist := by unfold State.cause; dsimp only; split; rfl; split <;> simp
@[simp] theorem State.cause_acq (i : Nat) : (s.cause i).acq = s.acq := by unfold State.cause; dsimp only; split; rfl; split <;> simp
@[simp] theorem State.cause_conv (i : Nat) : (s.cause i).conv = s.conv := by unfold State.cause; dsimp only; split; rfl; split <;> simp
@[simp] theorem State.cause_field (i : Nat) : (s.cause i).field = s.field := by unfold State.cause; dsimp only; split; rfl; split <;> simp
@[simp] theorem State.cause_link (i : Nat) : (s.cause i).link = s.link := by unfold State.cause; dsimp only; split; rfl; split <;> simp
@[simp] theorem State.cause_pair (i : Nat) : (s.cause i).pair = s.pair := by unfold State.cause; dsimp only; split; rfl; split <;> simp
@[simp] theorem State.cause_sec (i : Nat) : (s.cause i).sec = s.sec := by unfold State.cause; dsimp only; split; rfl; split <;> simp
@[simp] theorem State.cause_saf (i : Nat) : (s.cause i).saf = s.saf := by unfold State.cause; dsimp only; split; rfl; split <;> simp
@[simp] theorem State.cause_recd (i : Nat) : (s.cause i).recd = s.recd := by unfold State.cause; dsimp only; split; rfl; split <;> simp
@[simp] theorem State.cause_age (i : Nat) : (s.cause i).age = s.age := by unfold State.cause; dsimp only; split; rfl; split <;> simp
@[simp] theorem State.cause_power (i : Nat) : (s.cause i).power = s.power := by unfold State.cause; dsimp only; split; rfl; split <;> simp
@[simp] theorem State.cause_fresh (i : Nat) : (s.cause i).fresh = s.fresh := by unfold State.cause; dsimp only; split; rfl; split <;> simp

/-! wrCause -/

@[simp] theorem State.wrCause_pending (f : Fld) (v i : Nat) (ix : List Nat) : (s.wrCause f v i ix).pending = s.pending := by unfold State.wrCause; split <;> simp
@[simp] theorem State.wrCause_ctr (f : Fld) (v i : Nat) (ix : List Nat) : (s.wrCause f v i ix).ctr = s.ctr := by unfold State.wrCause; split <;> simp
@[simp] theorem State.wrCause_time (f : Fld) (v i : Nat) (ix : List Nat) : (s.wrCause f v i ix).time = s.time := by unfold State.wrCause; split <;> simp
@[simp] theorem State.wrCause_img (f : Fld) (v i : Nat) (ix : List Nat) : (s.wrCause f v i ix).img = s.img := by unfold State.wrCause; split <;> simp
@[simp] theorem State.wrCause_pts (f : Fld) (v i : Nat) (ix : List Nat) : (s.wrCause f v i ix).pts = s.pts := by unfold State.wrCause; split <;> simp
@[simp] theorem State.wrCause_fab (f : Fld) (v i : Nat) (ix : List Nat) : (s.wrCause f v i ix).fab = s.fab := by unfold State.wrCause; split <;> simp
@[simp] theorem State.wrCause_loops (f : Fld) (v i : Nat) (ix : List Nat) : (s.wrCause f v i ix).loops = s.loops := by unfold State.wrCause; split <;> simp
@[simp] theorem State.wrCause_axes (f : Fld) (v i : Nat) (ix : List Nat) : (s.wrCause f v i ix).axes = s.axes := by unfold State.wrCause; split <;> simp
@[simp] theorem State.wrCause_pgs (f : Fld) (v i : Nat) (ix : List Nat) : (s.wrCause f v i ix).pgs = s.pgs := by unfold State.wrCause; split <;> simp
@[simp] theorem State.wrCause_seqs (f : Fld) (v i : Nat) (ix : List Nat) : (s.wrCause f v i ix).seqs = s.seqs := by unfold State.wrCause; split <;> simp
@[simp] theorem State.wrCause_logics (f : Fld) (v i : Nat) (ix : List Nat) : (s.wrCause f v i ix).logics = s.logics := by unfold State.wrCause; split <;> simp
@[simp] theorem State.wrCause_cut (f : Fld) (v i : Nat) (ix : List Nat) : (s.wrCause f v i ix).cut = s.cut := by unfold State.wrCause; split <;> simp
@[simp] theorem State.wrCause_fast (f : Fld) (v i : Nat) (ix : List Nat) : (s.wrCause f v i ix).fast = s.fast := by unfold State.wrCause; split <;> simp
@[simp] theorem State.wrCause_key (f : Fld) (v i : Nat) (ix : List Nat) : (s.wrCause f v i ix).key = s.key := by unfold State.wrCause; split <;> simp
@[simp] theorem State.wrCause_hist (f : Fld) (v i : Nat) (ix : List Nat) : (s.wrCause f v i ix).hist = s.hist := by unfold State.wrCause; split <;> simp
@[simp] theorem State.wrCause_acq (f : Fld) (v i : Nat) (ix : List Nat) : (s.wrCause f v i ix).acq = s.acq := by unfold State.wrCause; split <;> simp
@[simp] theorem State.wrCause_conv (f : Fld) (v i : Nat) (ix : List Nat) : (s.wrCause f v i ix).conv = s.conv := by unfold State.wrCause; split <;> simp
@[simp] theorem State.wrCause_field (f : Fld) (v i : Nat) (ix : List Nat) : (s.wrCause f v i ix).field = s.field := by unfold State.wrCause; split <;> simp
@[simp] theorem State.wrCause_link (f : Fld) (v i : Nat) (ix : List Nat) : (s.wrCause f v i ix).link = s.link := by unfold State.wrCause; split <;> simp
@[simp] theorem State.wrCause_pair (f : Fld) (v i : Nat) (ix : List Nat) : (s.wrCause f v i ix).pair = s.pair := by unfold State.wrCause; split <;> simp
@[simp] theorem State.wrCause_sec (f : Fld) (v i : Nat) (ix : List Nat) : (s.wrCause f v i ix).sec = s.sec := by unfold State.wrCause; split <;> simp
@[simp] theorem State.wrCause_saf (f : Fld) (v i : Nat) (ix : List Nat) : (s.wrCause f v i ix).saf = s.saf := by unfold State.wrCause; split <;> simp
@[simp] theorem State.wrCause_recd (f : Fld) (v i : Nat) (ix : List Nat) : (s.wrCause f v i ix).recd = s.recd := by unfold State.wrCause; split <;> simp
@[simp] theorem State.wrCause_age (f : Fld) (v i : Nat) (ix : List Nat) : (s.wrCause f v i ix).age = s.age := by unfold State.wrCause; split <;> simp
@[simp] theorem State.wrCause_power (f : Fld) (v i : Nat) (ix : List Nat) : (s.wrCause f v i ix).power = s.power := by unfold State.wrCause; split <;> simp
@[simp] theorem State.wrCause_fresh (f : Fld) (v i : Nat) (ix : List Nat) : (s.wrCause f v i ix).fresh = s.fresh := by unfold State.wrCause; split <;> simp

/-! peak -/

@[simp] theorem State.peak_pending (f : Fld) (v : Nat) (ix : List Nat) : (s.peak f v ix).pending = s.pending := by unfold State.peak; split <;> simp
@[simp] theorem State.peak_host (f : Fld) (v : Nat) (ix : List Nat) : (s.peak f v ix).host = s.host := by unfold State.peak; split <;> simp
@[simp] theorem State.peak_ctr (f : Fld) (v : Nat) (ix : List Nat) : (s.peak f v ix).ctr = s.ctr := by unfold State.peak; split <;> simp
@[simp] theorem State.peak_time (f : Fld) (v : Nat) (ix : List Nat) : (s.peak f v ix).time = s.time := by unfold State.peak; split <;> simp
@[simp] theorem State.peak_img (f : Fld) (v : Nat) (ix : List Nat) : (s.peak f v ix).img = s.img := by unfold State.peak; split <;> simp
@[simp] theorem State.peak_pts (f : Fld) (v : Nat) (ix : List Nat) : (s.peak f v ix).pts = s.pts := by unfold State.peak; split <;> simp
@[simp] theorem State.peak_fab (f : Fld) (v : Nat) (ix : List Nat) : (s.peak f v ix).fab = s.fab := by unfold State.peak; split <;> simp
@[simp] theorem State.peak_loops (f : Fld) (v : Nat) (ix : List Nat) : (s.peak f v ix).loops = s.loops := by unfold State.peak; split <;> simp
@[simp] theorem State.peak_axes (f : Fld) (v : Nat) (ix : List Nat) : (s.peak f v ix).axes = s.axes := by unfold State.peak; split <;> simp
@[simp] theorem State.peak_pgs (f : Fld) (v : Nat) (ix : List Nat) : (s.peak f v ix).pgs = s.pgs := by unfold State.peak; split <;> simp
@[simp] theorem State.peak_seqs (f : Fld) (v : Nat) (ix : List Nat) : (s.peak f v ix).seqs = s.seqs := by unfold State.peak; split <;> simp
@[simp] theorem State.peak_logics (f : Fld) (v : Nat) (ix : List Nat) : (s.peak f v ix).logics = s.logics := by unfold State.peak; split <;> simp
@[simp] theorem State.peak_cut (f : Fld) (v : Nat) (ix : List Nat) : (s.peak f v ix).cut = s.cut := by unfold State.peak; split <;> simp
@[simp] theorem State.peak_fast (f : Fld) (v : Nat) (ix : List Nat) : (s.peak f v ix).fast = s.fast := by unfold State.peak; split <;> simp
@[simp] theorem State.peak_key (f : Fld) (v : Nat) (ix : List Nat) : (s.peak f v ix).key = s.key := by unfold State.peak; split <;> simp
@[simp] theorem State.peak_hist (f : Fld) (v : Nat) (ix : List Nat) : (s.peak f v ix).hist = s.hist := by unfold State.peak; split <;> simp
@[simp] theorem State.peak_acq (f : Fld) (v : Nat) (ix : List Nat) : (s.peak f v ix).acq = s.acq := by unfold State.peak; split <;> simp
@[simp] theorem State.peak_conv (f : Fld) (v : Nat) (ix : List Nat) : (s.peak f v ix).conv = s.conv := by unfold State.peak; split <;> simp
@[simp] theorem State.peak_field (f : Fld) (v : Nat) (ix : List Nat) : (s.peak f v ix).field = s.field := by unfold State.peak; split <;> simp
@[simp] theorem State.peak_link (f : Fld) (v : Nat) (ix : List Nat) : (s.peak f v ix).link = s.link := by unfold State.peak; split <;> simp
@[simp] theorem State.peak_pair (f : Fld) (v : Nat) (ix : List Nat) : (s.peak f v ix).pair = s.pair := by unfold State.peak; split <;> simp
@[simp] theorem State.peak_sec (f : Fld) (v : Nat) (ix : List Nat) : (s.peak f v ix).sec = s.sec := by unfold State.peak; split <;> simp
@[simp] theorem State.peak_saf (f : Fld) (v : Nat) (ix : List Nat) : (s.peak f v ix).saf = s.saf := by unfold State.peak; split <;> simp
@[simp] theorem State.peak_recd (f : Fld) (v : Nat) (ix : List Nat) : (s.peak f v ix).recd = s.recd := by unfold State.peak; split <;> simp
@[simp] theorem State.peak_age (f : Fld) (v : Nat) (ix : List Nat) : (s.peak f v ix).age = s.age := by unfold State.peak; split <;> simp
@[simp] theorem State.peak_power (f : Fld) (v : Nat) (ix : List Nat) : (s.peak f v ix).power = s.power := by unfold State.peak; split <;> simp
@[simp] theorem State.peak_fresh (f : Fld) (v : Nat) (ix : List Nat) : (s.peak f v ix).fresh = s.fresh := by unfold State.peak; split <;> simp

end Sys2Proof.Machine
end

