-- ==== Sys2Proof/Laws/Ops.lean ====
section
/-! SUPPORT. What the shared operations do: fields of registers, counters, records, refusals and commands. -/

namespace Sys2Proof.Machine

/-! Bits of a number with a field replaced. -/

theorem testBit_bitsOf (x hi lo i : Nat) : (bitsOf x hi lo).testBit i = (decide (i < hi + 1 - lo) && x.testBit (lo + i)) := by
  simp [bitsOf, Nat.testBit_mod_two_pow, Nat.testBit_div_two_pow, Nat.add_comm]

theorem testBit_setBits (x hi lo v i : Nat) (h : lo ≤ hi + 1) :
    (setBits x hi lo v).testBit i = if i < lo then x.testBit i else if i ≤ hi then v.testBit (i - lo) else x.testBit i := by
  have p : x % 2 ^ lo < 2 ^ lo := Nat.mod_lt _ (by positivity)
  have q : v % 2 ^ (hi + 1 - lo) < 2 ^ (hi + 1 - lo) := Nat.mod_lt _ (by positivity)
  have e : setBits x hi lo v = 2 ^ lo * (2 ^ (hi + 1 - lo) * (x / 2 ^ lo / 2 ^ (hi + 1 - lo)) + v % 2 ^ (hi + 1 - lo)) + x % 2 ^ lo := by
    rw [setBits_eq]; ring
  rw [e, Nat.testBit_two_pow_mul_add _ p, Nat.testBit_two_pow_mul_add _ q]
  by_cases a : i < lo
  · simp [a, Nat.testBit_mod_two_pow]
  · by_cases b : i ≤ hi
    · have c : i - lo < hi + 1 - lo := by omega
      simp [a, b, c, Nat.testBit_mod_two_pow]
    · have c : ¬ i - lo < hi + 1 - lo := by omega
      have d : lo + (hi + 1 - lo + (i - lo - (hi + 1 - lo))) = i := by omega
      simp [a, b, c, Nat.testBit_div_two_pow]
      congr 1
      omega

/-- A field that does not overlap the one set is unchanged. -/
theorem bitsOf_setBits_ne (x hi lo v hi' lo' : Nat) (h : lo ≤ hi + 1) (d : hi' < lo ∨ hi < lo') : bitsOf (setBits x hi lo v) hi' lo' = bitsOf x hi' lo' := by
  apply Nat.eq_of_testBit_eq
  intro i
  rw [testBit_bitsOf, testBit_bitsOf, testBit_setBits _ _ _ _ _ h]
  by_cases c : i < hi' + 1 - lo'
  · simp only [c, decide_true, Bool.true_and]
    rcases d with d | d
    · rw [if_pos (by omega)]
    · rw [if_neg (by omega), if_neg (by omega)]
  · simp [c]

/-! The register file (R2, R4). -/

/-- The word written to a register is read there. -/
@[simp] theorem State.reg_setReg_same (s : State) (d : RegDesc) (v : Nat) (ix : List Nat) : (s.setReg d v ix).reg d ix = v % 2 ^ 32 := by
  simp [State.reg, State.setReg]

/-- Registers at other addresses keep their word. -/
theorem State.reg_setReg_ne (s : State) (d e : RegDesc) (v : Nat) (ix iy : List Nat) (h : regAddr e iy ≠ regAddr d ix) :
    (s.setReg d v ix).reg e iy = s.reg e iy := by
  simp [State.reg, State.setReg, Tab.at_store_ne _ _ _ _ _ _ h]

theorem State.reg_lt (s : State) (d : RegDesc) (ix : List Nat) : s.reg d ix < 2 ^ 32 := BitVec.isLt _

/-- A word is its register's word with the field's bits replaced. -/
theorem State.reg_wr_same (s : State) (f : Fld) (v : Nat) (ix : List Nat) (h : f.hi < 32) (l : f.lo ≤ f.hi + 1) :
    (s.wr f v ix).reg f.reg ix = setBits (s.reg f.reg ix) f.hi f.lo v := by
  rw [State.wr, State.reg_setReg_same, Nat.mod_eq_of_lt]
  exact setBits_lt _ _ _ _ _ (by omega) l (s.reg_lt _ _)

/-- A field that is written reads as the value, cut to its width. -/
theorem State.rd_wr_same (s : State) (f : Fld) (v : Nat) (ix : List Nat) (h : f.hi < 32) (l : f.lo ≤ f.hi + 1) :
    (s.wr f v ix).rd f ix = v % 2 ^ (f.hi + 1 - f.lo) := by
  rw [State.rd, State.reg_wr_same s f v ix h l, bitsOf_setBits_same]

/-- Another field of the same register keeps its value. -/
theorem State.rd_wr_field (s : State) (f g : Fld) (v : Nat) (ix : List Nat) (r : g.reg = f.reg) (h : f.hi < 32) (l : f.lo ≤ f.hi + 1)
    (d : g.hi < f.lo ∨ f.hi < g.lo) : (s.wr f v ix).rd g ix = s.rd g ix := by
  rw [State.rd, r, State.reg_wr_same s f v ix h l, bitsOf_setBits_ne _ _ _ _ _ _ l d, State.rd, r]

/-- A field of a register at another address keeps its value. -/
theorem State.rd_wr_ne (s : State) (f g : Fld) (v : Nat) (ix iy : List Nat) (h : regAddr g.reg iy ≠ regAddr f.reg ix) :
    (s.wr f v ix).rd g iy = s.rd g iy := by
  rw [State.rd, State.wr, State.reg_setReg_ne _ _ _ _ _ _ h, State.rd]

/-- The keys of the register file stay strictly rising. -/
theorem State.setReg_sorted (s : State) (d : RegDesc) (v : Nat) (ix : List Nat) (h : s.regs.sortedFrom 0 = true) : (s.setReg d v ix).regs.sortedFrom 0 = true := by
  simp only [State.setReg, Tab.store]
  split
  · exact Tab.sortedFrom_drop _ _ _ h
  · exact Tab.sortedFrom_put _ _ _ _ (by omega) h

/-! Counters (R447). -/

/-- The counter of the event is raised, modulo 2^48. -/
theorem State.count_value (s : State) (e n : Nat) : ((s.count e n).ctr.tab.at' e {}).value = BitVec.ofNat 48 ((s.ctr.tab.at' e {}).value.toNat + n) := by
  simp [State.count]

/-- Every other counter is as it was. -/
theorem State.count_other (s : State) (e n k : Nat) (h : k ≠ e) : (s.count e n).ctr.tab.at' k {} = s.ctr.tab.at' k {} := by
  simp [State.count, Tab.at_put_ne _ _ _ _ _ h]

/-- Counting changes the counters and nothing else. -/
theorem State.count_frame (s : State) (e n : Nat) : s.count e n = { s with ctr := (s.count e n).ctr } := rfl

/-- Counting depends on the counters alone. -/
theorem State.count_ctr_congr (s t : State) (e n : Nat) (h : s.ctr = t.ctr) : (s.count e n).ctr = (t.count e n).ctr := by
  simp [State.count, h]

/-! Completion records (R459, R466). -/

/-- What a posted record can do: append to one list of records, or nothing. -/
theorem State.post_cases (s : State) (c : Cpl) :
    (c.ref.replayed = true ∧ s.post c = s) ∨
    (c.ref.replayed = false ∧ ∃ dev, c.ref.origin = some dev ∧ s.post c = { s with host := { s.host with remote := s.host.remote ++ [c] } }) ∨
    (c.ref.replayed = false ∧ c.ref.origin = none ∧ 128 ≤ c.ref.ring ∧ s.post c = { s with host := { s.host with mnt := s.host.mnt ++ [c] } }) ∨
    (c.ref.replayed = false ∧ c.ref.origin = none ∧ c.ref.ring < 128 ∧ (s.host.rings.at' c.ref.ring {}).gen = c.ref.gen ∧
      s.post c = s.onRing c.ref.ring (fun r => { r with due := r.due ++ [c] })) ∨
    (c.ref.replayed = false ∧ c.ref.origin = none ∧ c.ref.ring < 128 ∧ (s.host.rings.at' c.ref.ring {}).gen ≠ c.ref.gen ∧ s.post c = s) := by
  unfold State.post
  cases hr : c.ref.replayed
  · cases ho : c.ref.origin with
    | some dev => simp
    | none =>
      by_cases h : 128 ≤ c.ref.ring
      · simp [h]
      · by_cases g : (s.host.rings.at' c.ref.ring {}).gen = c.ref.gen
        · simp [h, g, Nat.lt_of_not_le h]
        · simp [h, g, Nat.lt_of_not_le h]
  · simp

/-- Posting changes the host interface and nothing else. -/
theorem State.post_frame (s : State) (c : Cpl) : s.post c = { s with host := (s.post c).host } := by
  unfold State.post; repeat (first | rfl | split)

theorem State.complete_frame (s : State) (r : CmdRef) (st : Status) (d n : Nat) (l : List Byte) :
    s.complete r st d n l = { s with host := (s.complete r st d n l).host } := State.post_frame _ _

theorem State.accept_frame (s : State) (r : CmdRef) : s.accept r = { s with host := (s.accept r).host } := State.post_frame _ _

/-! Refusals (R568). -/

theorem judge_none (l : List Check) : judge l = none ↔ ∀ c ∈ l, c.1 = false := by
  induction l with
  | nil => simp [judge]
  | cons c t ih => obtain ⟨b, st, d⟩ := c; cases b <;> simp [judge, ih]

theorem judge_append (a b : List Check) : judge (a ++ b) = match judge a with | some r => some r | none => judge b := by
  induction a with
  | nil => simp [judge]
  | cons c t ih => obtain ⟨x, st, d⟩ := c; cases x <;> simp [judge, ih]

/-- The first refusal that applies stands for the list. -/
theorem judge_first (a : List Check) (st : Status) (d : Nat) (t : List Check) (h : judge a = none) : judge (a ++ (true, st, d) :: t) = some (st, d) := by
  rw [judge_append, h]; rfl

/-- A command answers with its first refusal, or takes effect. -/
theorem State.command_cases (s : State) (ref : CmdRef) (op : Nat) (pre suf : List Check) (k : CmdRef → State → State) :
    (judge (pre ++ s.gate op ++ suf ++ s.recovery op) = none ∧ s.command ref op pre suf k = k { ref with op := op } s) ∨
    (∃ st d, judge (pre ++ s.gate op ++ suf ++ s.recovery op) = some (st, d) ∧ s.command ref op pre suf k = s.complete { ref with op := op } st d) := by
  unfold State.command
  cases h : judge (pre ++ s.gate op ++ suf ++ s.recovery op) with
  | none => exact .inl ⟨rfl, rfl⟩
  | some r => obtain ⟨st, d⟩ := r; exact .inr ⟨st, d, rfl, rfl⟩

/-- A long operation answers at once, answers after its acknowledgement, or takes effect from it (R467). -/
theorem State.commandLong_cases (s : State) (ref : CmdRef) (op : Nat) (pre suf : List Check) (k : CmdRef → State → State) :
    let r : CmdRef := { ref with op := op, long := true }
    (judge (pre ++ s.gate op ++ suf ++ s.recovery op) = none ∧ s.commandLong ref op pre suf k = k r (s.accept r)) ∨
    (∃ st d, judge (pre ++ s.gate op ++ suf ++ s.recovery op) = some (st, d) ∧
      s.commandLong ref op pre suf k = if st = .invalid ∨ st = .busy then s.complete r st d else (s.accept r).complete r st d) := by
  unfold State.commandLong
  cases h : judge (pre ++ s.gate op ++ suf ++ s.recovery op) with
  | none => exact .inl ⟨rfl, rfl⟩
  | some r => obtain ⟨st, d⟩ := r; exact .inr ⟨st, d, rfl, rfl⟩

/-- With no refusal before, at or after the gates a command takes effect. -/
theorem State.command_ok (s : State) (ref : CmdRef) (op : Nat) (pre suf : List Check) (k : CmdRef → State → State)
    (h : judge (s.gate op ++ s.recovery op) = none) (p : judge pre = none) (q : judge suf = none) : s.command ref op pre suf k = k { ref with op := op } s := by
  have : judge (pre ++ s.gate op ++ suf ++ s.recovery op) = none := by
    rw [judge_none] at *
    intro c hc
    simp only [List.mem_append] at hc h
    rcases hc with ((hc | hc) | hc) | hc
    · exact p c hc
    · exact h c (.inl hc)
    · exact q c hc
    · exact h c (.inr hc)
  simp only [State.command, this]

/-- With no refusal before, at or after the gates a long operation takes effect from its acknowledgement. -/
theorem State.commandLong_ok (s : State) (ref : CmdRef) (op : Nat) (pre suf : List Check) (k : CmdRef → State → State)
    (h : judge (s.gate op ++ s.recovery op) = none) (p : judge pre = none) (q : judge suf = none) :
    s.commandLong ref op pre suf k = k { ref with op := op, long := true } (s.accept { ref with op := op, long := true }) := by
  have : judge (pre ++ s.gate op ++ suf ++ s.recovery op) = none := by
    rw [judge_none] at *
    intro c hc
    simp only [List.mem_append] at hc h
    rcases hc with ((hc | hc) | hc) | hc
    · exact p c hc
    · exact h c (.inl hc)
    · exact q c hc
    · exact h c (.inr hc)
  simp only [State.commandLong, this]

/-- Whatever a command's effect keeps and a record keeps, the command keeps. -/
theorem State.command_keep (p : State → Prop) (s : State) (ref : CmdRef) (op : Nat) (pre suf : List Check) (k : CmdRef → State → State)
    (hk : p (k { ref with op := op } s)) (hc : ∀ r st d, p (s.complete r st d)) : p (s.command ref op pre suf k) := by
  rcases s.command_cases ref op pre suf k with ⟨-, e⟩ | ⟨st, d, -, e⟩ <;> rw [e]
  · exact hk
  · exact hc _ _ _

/-! Interrupts (R472, R473). -/

/-- A pending vector stays as it is; another is sent at once, or pending while it is masked, and stamped. -/
theorem State.msi_cases (s : State) (v : Nat) :
    (v ∈ s.host.pba ∧ s.msi v = s) ∨
    (v ∉ s.host.pba ∧ (s.msi v).host.stamps = s.host.stamps.put v s.now64 ∧
      (s.masked v = true → (s.msi v).host.pba = s.host.pba ++ [v] ∧ (s.msi v).host.sent = s.host.sent) ∧
      (s.masked v = false → (s.msi v).host.pba = s.host.pba ∧ (s.msi v).host.sent = v :: s.host.sent)) := by
  unfold State.msi
  dsimp only
  by_cases h : v ∈ s.host.pba
  · exact .inl ⟨h, by simp [h]⟩
  · refine .inr ⟨h, ?_, ?_, ?_⟩ <;> simp only [h, if_false] <;> cases hm : s.masked v <;> simp

/-! The clocks. -/

/-- A clock set to a nanosecond count below 2^48 s shows it. -/
theorem clockNs_clockOf (t f : Nat) (h : t < 2 ^ 48 * 1000000000) : clockNs (clockOf t f) = t := by
  simp only [clockNs, clockOf]
  omega

end Sys2Proof.Machine
end

