-- ==== Sys2Proof/Tests/Slice0.lean ====
section
/-! SUPPORT. The implementer's own tests: ill-formed commands that the check refuses, witnesses of the statements' hypotheses, and single steps against the spec's own numbers. -/

set_option Elab.async false

open Sys2Proof Sys2Proof.Machine

namespace Sys2Proof.Tests

/-- The machine after reset with the key in the position RUN-PROGRAM. -/
def runS : State := State.reset.wr Reg.GLB_KEY_EFFECTIVE 2

/-- The machine after reset with the key in the position MAINTENANCE. -/
def maintS : State := State.reset.wr Reg.GLB_KEY_EFFECTIVE 3

/-- A command that came from ring 5, from the image's BASE state. -/
def r5 : CmdRef := { ring := 5, handle := 5 * 2 ^ 25, tag := 7, bufLen := 4096 }

/-- The machine after reset with the first 64 counters open to ring 5. -/
def permS : State := (State.reset.wr Reg.CTR_PERM_PERM 0xFFFFFFFF [5, 0]).wr Reg.CTR_PERM_PERM 0xFFFFFFFF [5, 1]

/-- The machine after reset with ring 5 enabled and ready. -/
def ringS : State := (State.reset.wr Reg.RNG_CTL_EN 1 [5]).wr Reg.RNG_STAT_STATE 1 [5]

/-- The outcome is a next state of which a property holds. -/
def goes (o : Host.Outcome State Fault Refusal) (p : State → Bool) : Bool := match o with
  | .next t => p t
  | .fault _ => false
  | .refused _ => false

/-- A final record of ring 5 without output data. -/
def okRec : Cpl := { ref := r5, status := .ok, final := true, detail := 0, result := 0, data := [] }

/-- The machine after reset with time started and the key at RUN-PROGRAM, running an image. -/
def runImg (i : Img) : State := { runS with img := { run := some i }, time := { runS.time with locked := true } }

/-- A point of format 1 with a maximum age of 5 cycles. -/
def ptDef (flags owner : Nat) : PointDef :=
  { slot := 0, format := 1, flags := flags, owner := owner, init := 7, lo := 0, hi := 100, safe := 3, maxAge := 5, recPolicy := 0, enumCount := 0 }

/-- An image with a host-owned forcible point 0, a point 1 of cell 0 and an output 2 of cell 0. -/
def ptImg : Img := { points := [(0, ptDef 0x18 0x60000000), (1, ptDef 0x10 0), (2, ptDef 0x14 0)] }

end Sys2Proof.Tests

open Sys2Proof.Claims Sys2Proof.Tests

/-- Every assigned opcode is admitted in one of three states: after reset with the key at RUN-PROGRAM or MAINTENANCE, or after reset itself. -/
theorem wit_admitted : ∀ op ∈ assignedCmds, Admitted runS op ∨ Admitted maintS op ∨ Admitted State.reset op := by
  unfold Admitted; decide +kernel

theorem wit_admitted_counters : Admitted State.reset 0x0F20 ∧ Admitted State.reset 0x0F21 ∧ Admitted State.reset 0x0F22 := by
  unfold Admitted; decide +kernel

theorem wit_StepTakesTheFrontCommand : State.reset.pending = [] := rfl

theorem wit_FirstApplicableRefusalDecides :
    (∀ c ∈ ([] : List Check) ++ runS.gate 0x0F20 ++ [] ++ runS.recovery 0x0F20, c.1 = false) ∧
    (([(false, .invalid, 1)] : List Check) ++ runS.gate 0x0F20 ++ [(true, .absent, 0)] ++ runS.recovery 0x0F20 =
      ((false, .invalid, 1) :: runS.gate 0x0F20) ++ (true, .absent, 0) :: runS.recovery 0x0F20) ∧
    (∀ c ∈ ((false, .invalid, 1) :: runS.gate 0x0F20 : List Check), c.1 = false) := by
  decide +kernel

theorem wit_RecordsGoToTheirRing : OnRing State.reset r5 ∧ OnRing State.reset { r5 with ring := 127 } ∧
    (State.reset.host.rings.at' 5 {}).gen ≠ ({ r5 with gen := 1 } : CmdRef).gen ∧ ({ r5 with origin := some 3 } : CmdRef).replayed = false ∧
    128 ≤ ({ r5 with ring := 255 } : CmdRef).ring := by
  unfold OnRing; decide +kernel

theorem wit_CounterAddsAndWrapsAt48Bits :
    let s : State := { State.reset with ctr := { State.reset.ctr with tab := [(3, { value := BitVec.ofNat 48 (2 ^ 48 - 1) })] } }
    (s.ctr.tab.at' 3 {}).value = BitVec.ofNat 48 (2 ^ 48 - 1) ∧ ((s.count 3 1).ctr.tab.at' 3 {}).value = 0 ∧ ((s.count 3 1).ctr.tab.at' 3 {}).wrap = true := by
  decide +kernel

theorem wit_SnapshotFreezesFillsAndCounts :
    State.reset.flag Reg.CTR_SNAP_CTL_BUSY = false ∧ State.reset.freeze.flag Reg.CTR_SNAP_CTL_BUSY = true ∧
    State.reset.freeze.ctr.filling.isSome = true ∧ State.reset.freeze.ctr.waiters = [] ∧
    (∀ n ∈ List.range 64, n < 1024 ∧ permS.mayCount r5.ring n = true) ∧ 8 * 64 + 12 ≤ r5.bufLen := by
  decide +kernel

theorem wit_CounterPresetAndPortsAct :
    bitOf 0x800003FF 31 = true ∧ bitOf 0x3FF 31 = false ∧
    State.reset.flag Reg.CTR_BW_CFG_EN [47] = false ∧ (State.reset.wr Reg.CTR_BW_CFG_EN 1 [47]).flag Reg.CTR_BW_CFG_EN [47] = true ∧
    (State.reset.ctr.bw.at' 47 {}).win = winActs (State.reset.rd Reg.CTR_BW_CFG_WIN_US [47]) := by
  decide +kernel

theorem wit_CounterReadsObeyPermission :
    Admitted permS 0x0F20 ∧ (∀ n ∈ List.range 64, n < 1024 ∧ permS.mayCount r5.ring n = true) ∧ 1023 < 1024 ∧ permS.mayCount r5.ring 1023 = false ∧ 8 * 64 ≤ r5.bufLen ∧ 576 ≤ r5.bufLen := by
  unfold Admitted; decide +kernel

theorem wit_RegisterFieldReadsBack :
    Reg.GLB_KEY_EFFECTIVE.lo ≤ Reg.GLB_KEY_EFFECTIVE.hi ∧ Reg.GLB_KEY_EFFECTIVE.hi < 32 ∧
    Reg.RNG_STAT_STATE.reg = Reg.RNG_STAT_IDX_ERR.reg ∧ (Reg.RNG_STAT_IDX_ERR.hi < Reg.RNG_STAT_STATE.lo ∨ Reg.RNG_STAT_STATE.hi < Reg.RNG_STAT_IDX_ERR.lo) ∧
    regAddr Reg.RNG_STAT_STATE.reg [4] ≠ regAddr Reg.RNG_STAT_STATE.reg [5] := by
  decide +kernel

theorem wit_RegisterFileKeepsStrictOrder : State.reset.regs.sortedFrom 0 = true ∧ ringS.regs.sortedFrom 0 = true ∧ ringS.regs.length = 1 := by
  decide +kernel

theorem wit_UnassignedRangeReadsZeroAndCounts :
    (0x1700000#25).toNat % 4 = 0 ∧ 0x1700000 ≤ (0x1EFFFFC#25).toNat ∧ (0x1EFFFFC#25).toNat ≤ 0x1EFFFFF ∧ (0x1EFFFFC#25).toNat % 4 = 0 ∧
    (0x1EFFFFD#25).toNat % 4 + 3 ≤ 4 ∧ regAt 0x16FFFFC = none ∧ unassigned 0x16FFFFC = false := by
  decide +kernel

theorem wit_ApprovalAndKeyFieldsKeepTheirValue :
    Reg.GLB_KEY_EFFECTIVE.reg ∈ Reg.table ∧ (∀ a ∈ [Access.ro, .rw, .rwa, .rwk, .w1c], Reg.table.any (fun d => d.fields.any (fun f => decide (f.acc = a))) = true) ∧
    (∃ e jx, regAddr e jx ≠ regAddr Reg.GLB_KEY_EFFECTIVE.reg []) :=
  ⟨by decide +kernel, by decide +kernel, Reg.RNG_STAT_STATE.reg, [5], by decide +kernel⟩

theorem wit_WholeWordWriteReachesItsRegister :
    regAt (regAddr Reg.TNS_CTL_SLEW_PPM.reg []) = some (Reg.TNS_CTL_SLEW_PPM.reg, []) ∧ regAddr Reg.TNS_CTL_SLEW_PPM.reg [] % 4 = 0 ∧
    regAddr Reg.TNS_CTL_SLEW_PPM.reg [] < 0x1700000 := by
  decide +kernel

theorem wit_NarrowRegisterWriteIsDiscarded :
    1 ≤ [0#8].length ∧ (0x1#25).toNat % 4 + [0#8, 0, 0].length ≤ 4 ∧ (0x1FFFFFF#25).toNat % 4 + [0#8].length ≤ 4 ∧ [0#8, 0, 0].length < 4 := by
  decide +kernel

theorem wit_RingIndexWritesObeyTheirRule :
    ringS.rd Reg.RNG_STAT_STATE [5] = 1 ∧ ringS.flag Reg.RNG_CTL_TRANSPORT [5] = false ∧
    ((128 : Int) - ringS.rd Reg.RNG_CMD_HEAD_HEAD [5]) % 65536 ≤ 128 ∧ 128 < ((129 : Int) - ringS.rd Reg.RNG_CMD_HEAD_HEAD [5]) % 65536 ∧
    State.reset.rd Reg.RNG_STAT_STATE [5] ≠ 1 ∧ (State.reset.wr Reg.RNG_CTL_TRANSPORT 1 [5]).flag Reg.RNG_CTL_TRANSPORT [5] = true ∧
    ((ringS.rd Reg.RNG_CPL_TAIL_CTAIL [5] : Int) - 0) % 65536 < 32768 ∧ 32768 ≤ ((ringS.rd Reg.RNG_CPL_TAIL_CTAIL [5] : Int) - 32768) % 65536 := by
  decide +kernel

theorem wit_HostWindowWriteStoresItsBytes : State.reset.host.window.wf 0 = true ∧ (0x3FFFFF : Nat) < 0x400000 := by
  decide +kernel

/-- A record of CTR_READ of one counter. -/
def Sys2Proof.Tests.rec0F20 : CmdRecord := { opcode := 0x0F20, irq := false, fence := false, bufHost := false, tag := 9, bufAddr := 0x200000 + 0x4000 * 5, bufLen := 16, args := leBytes 4 1 ++ List.replicate 36 0 }

/-- Ring 5 with one record waiting in it. -/
def Sys2Proof.Tests.fetchS (b : List Byte) : State := (ringS.winWrite (0x4000 * 5) b).wr Reg.RNG_CMD_TAIL_TAIL 1 [5]

theorem wit_CommandRecordsRoundTrip :
    rec0F20.opcode < 2 ^ 16 ∧ rec0F20.tag < 2 ^ 32 ∧ rec0F20.bufAddr < 2 ^ 64 ∧ rec0F20.bufLen < 2 ^ 32 ∧ rec0F20.args.length = 40 := by
  decide +kernel

theorem wit_FetchedCommandReachesItsExecutor :
    let s := fetchS (cmdRecordBytes rec0F20)
    let b := s.winRead (0x4000 * 5) 64
    (s.rd Reg.RNG_STAT_STATE [5] = 1 ∧ s.rd Reg.RNG_CMD_TAIL_TAIL [5] ≠ s.rd Reg.RNG_CMD_HEAD_HEAD [5] ∧ (s.host.rings.at' 5 {}).fence = none) ∧
    recordFault b (s.ringEth 5) = false ∧ (cmdRecordOf b).opcode = 0x0F20 ∧ 0x0F20 ∈ assignedCmds ∧ executorOf 0x0F20 ≠ .steward ∧ executorOf 0x0E01 = .steward ∧ 0x0E01 ∈ assignedCmds ∧
    recordFault ((b.take 3) ++ [1] ++ b.drop 4) false = true ∧
    recordFault (cmdRecordBytes { rec0F20 with opcode := 0xFFFF }) false = false ∧ 0xFFFF ∉ assignedCmds ∧ longCmds ≠ [] ∧ (∀ c ∈ longCmds, c ∈ assignedCmds) := by
  decide +kernel

theorem wit_CompletionRecordTakesTheNextSlot :
    let c := okRec
    let s : State := { ringS with host := { ringS.host with rings := [(5, { due := [c] })] } }
    (s.host.rings.at' 5 {}).due = [c] ∧ ((s.rd Reg.RNG_CPL_TAIL_CTAIL [5] : Int) - s.rd Reg.RNG_CPL_HEAD_CHEAD [5]) % 65536 < 256 ∧
    s.flag Reg.RNG_CTL_TRANSPORT [5] = false ∧ s.flag Reg.RNG_IRQ_CFG_ALL [5] = false ∧ c.data = [] ∧ c.ref.irq = false ∧
    256 ≤ (((s.wr Reg.RNG_CPL_TAIL_CTAIL 256 [5]).rd Reg.RNG_CPL_TAIL_CTAIL [5] : Int) - s.rd Reg.RNG_CPL_HEAD_CHEAD [5]) % 65536 := by
  decide +kernel

theorem wit_PendingStampAndLatchOfEachVector :
    143 ∉ State.reset.host.pba ∧ State.reset.masked 143 = true ∧
    goes (exec (.msixVectorUnmask 143) State.reset) (fun t => !t.masked 143) = true := by
  decide +kernel

theorem wit_DeviceCauseSendsOncePerRise :
    bitOf (State.reset.rd Reg.RNG_DEV_CAUSE_CAUSE) 15 = false ∧ bitOf ((State.reset.cause 15).rd Reg.RNG_DEV_CAUSE_CAUSE) 15 = true := by
  decide +kernel

theorem wit_RingStatesAndResetsOfTheHostInterface :
    State.reset.power.inReset = true ∧ ({ State.reset.power with inReset := false } : PowerState).inReset = false ∧ State.reset.rd Reg.RNG_STAT_STATE [127] ≠ 1 ∧
    (let s : State := { State.reset with host := { State.reset.host with rings := [(5, { irqFirst := some 0 })], pba := [3] } }
     (s.host.rings.at' 5 {}).irqFirst = some 0 ∧ (s.wr Reg.RNG_IRQ_CFG_TIME_US 1 [5]).rd Reg.RNG_IRQ_CFG_TIME_US [5] ≠ 0 ∧ 3 ∈ s.host.pba ∧
     ({ s with time := { s.time with run := 1000 } } : State).runNs = 1000) := by
  decide +kernel

/-- A command of ring 5 as the Steward holds it. -/
def Sys2Proof.Tests.waiting : Fetched := { ref := r5, args := [], executor := .steward }

theorem wit_StewardServesRingsInTurnAndRestarts :
    let s : State := { State.reset.wr Reg.RNG_GLB_STAT_STW_OK 1 with host := { State.reset.host with steward := { State.reset.host.steward with queue := [waiting], turn := 255 } } }
    s.host.steward.hung = false ∧ s.host.steward.current = none ∧ s.flag Reg.RNG_GLB_STAT_STW_OK = true ∧ s.sec.keysAt = none ∧ s.sec.proposal = none ∧
    5 = (s.host.steward.turn + 6) % 256 ∧ s.host.steward.queue.find? (fun g => decide (g.ref.ring = 5)) = some waiting ∧
    (∀ j < 6, ∀ g ∈ s.host.steward.queue, g.ref.ring ≠ (s.host.steward.turn + j) % 256) ∧ OnRing s waiting.ref := by
  unfold OnRing; decide +kernel

/-- A ring datagram with its checksum in place (R475). -/
def Sys2Proof.Tests.dgram (ty ring count : Nat) (payload : List Byte) : List Byte :=
  let h := leBytes 2 0x4D52 ++ leBytes 1 1 ++ leBytes 1 ty ++ leBytes 1 ring ++ leBytes 1 count ++ leBytes 2 payload.length ++ leBytes 4 0 ++ leBytes 4 0xFFFFFFFF ++ leBytes 8 0 ++ leBytes 4 0
  h ++ leBytes 4 (crc32c (h ++ payload)) ++ payload

/-- Ring 5 bound to Ethernet, its peer set, the start-up filter ended. -/
def Sys2Proof.Tests.ethS : State :=
  { (((ringS.wr Reg.RNG_CTL_TRANSPORT 1 [5]).wr Reg.RNG_ETH_PEER_IPV4 0x0A000001).wr Reg.RNG_ETH_CFG_PORT 0) with field := { State.reset.field with filterEnded := true } }

theorem wit_EthernetRingsAcceptInOrder_peer :
    ethS.field.filterEnded = true ∧ ethS.fromPeer 0 0x0A000001#32 ethS.ringUdp = true ∧ ethS.fromPeer 0 0x0A000002#32 ethS.ringUdp = false ∧ ethS.ringUdp < 65536 ∧
    ethS.ringEth 5 = true ∧ (ethS.host.eth.at' 5 {}).dseqOut = 0 ∧ (ethS.host.eth.at' 5 {}).dseqIn = 0 ∧
    (ethS.cmdRecords 5 (cmdRecordBytes rec0F20)).isSome = true ∧ (cmdRecordBytes rec0F20).length = 64 * 1 := by
  decide +kernel

theorem wit_EthernetRingsAcceptInOrder_datagrams :
    (let b := dgram 3 5 0 (List.replicate 8 0)
     dgramOk b 3 false = true ∧ fieldLE b 4 1 = 5 ∧ fieldLE b 8 4 = 0 ∧ fieldLE b 0x0C 4 = 0xFFFFFFFF) ∧
    (let b := dgram 1 5 1 (cmdRecordBytes rec0F20)
     dgramOk b 1 false = true ∧ fieldLE b 4 1 = 5 ∧ fieldLE b 5 1 = 1 ∧ fieldLE b 8 4 = 0 ∧ fieldLE b 0x0C 4 = 0xFFFFFFFF ∧ (b.drop 32).length = 64 * 1) ∧
    dgramOk (dgram 5 5 0 []) 5 false = true ∧ dgramOk (dgram 6 5 0 []) 6 false = true ∧ dgramOk (dgram 6 255 0 []) 6 true = true := by
  decide +kernel

theorem wit_EthernetRingsAcceptInOrder_rest :
    (let s : State := { ethS with host := { ethS.host with eth := [(5, { dseqOut := 2, dseqIn := 3, ackDue := some 0, unacked := [{ ty := 2, dseq := 0, handle := 0, offset := 0, payload := [], sentAt := 0 }, { ty := 2, dseq := 1, handle := 0, offset := 0, payload := [], sentAt := 0 }] })] } }
     fieldLE (dgram 3 5 0 (List.replicate 8 1)) 8 4 ≠ (s.host.eth.at' 5 {}).dseqIn ∧ (s.host.eth.at' 5 {}).dseqOut ≠ 0 ∧ (s.host.eth.at' 5 {}).ackDue.isSome = true ∧
     ((s.acked 5 0).host.eth.at' 5 {}).unacked.length = 1 ∧ 0 + 5000000 ≤ ({ s with time := { s.time with run := 5000000 } } : State).runNs) ∧
    ethS.fromPeer 0 0x0A000001#32 ethS.ringUdp = true ∧ dgramOk (dgram 1 5 2 (cmdRecordBytes rec0F20)) 1 false = true ∧ (((dgram 1 5 2 (cmdRecordBytes rec0F20)).drop 32).length ≠ 64 * 2) ∧
    ((ethS.wr Reg.RNG_CMD_TAIL_TAIL 128 [5]).cmdRecords 5 (cmdRecordBytes rec0F20)).isNone = true ∧
    State.reset.field.filterEnded = false ∧ (State.reset.host.eth.at' 128 {}).ackDue = none ∧ State.reset.keyMaintOk = false ∧ maintS.keyMaintOk = true ∧
    dgramOk (dgram 3 255 0 (List.replicate 8 1)) 3 true = true ∧ fieldLE (dgram 3 255 0 (List.replicate 8 1)) 8 4 = (maintS.host.eth.at' 128 {}).dseqIn ∧
    dgramOk (dgram 1 255 1 (cmdRecordBytes { rec0F20 with opcode := 0x0E01 })) 1 true = true ∧ (maintS.mntCmds (cmdRecordBytes { rec0F20 with opcode := 0x0E01 })).isSome = true := by
  decide +kernel

/-- A request of a port. -/
def Sys2Proof.Tests.req (p : Port) (c : ReqClass) (o : ClauseOwner) : ArbReq := { port := p, owner := o, target := .bank 3 0, cls := c }

theorem wit_ArbitersGrantByRank :
    (let x : Arbiter := { queue := [req .own .ordinary (.cell 3), req .debug .emergency .debug] }
     (x.choose (.bank 3 0)).map (·.port) = some .debug ∧ 64 ≤ x.sinceDebug) ∧
    (let x : Arbiter := { queue := [req .scrub .ordinary .other, req .own .ordinary (.cell 3), req .debug .emergency .debug], sinceDebug := 63 }
     (x.choose (.bank 3 0)).map (·.port) = some .own ∧ x.clause = none ∧ rankOf (.bank 3 0) .scrub = some 3 ∧ rankOf (.bank 3 0) .own = some 1) ∧
    (let c : Clause := { port := .mesh, owner := .cell 4, target := .bank 3 0, count := 32, addr := 0 }
     let x : Arbiter := { queue := [req .seal .ordinary (.cell 3), req .mesh .lock (.cell 4)], clause := some c }
     (x.choose (.bank 3 0)).map (·.port) = some .mesh ∧ ({ x with active := some (req .mesh .lock (.cell 4), true) } : Arbiter).active.isSome = true ∧ 32 ≤ c.count) ∧
    (let x : Arbiter := { active := some (req .mesh .ordinary (.cell 4), true) }
     x.clause = none ∧ rankOf (.bank 3 0) .mesh = some 1 ∧ (arbPorts (.bank 3 0) 1)[1]? = some .mesh ∧ (x.finish (.bank 3 0)).1.turn.at' 1 0 = 0) := by
  decide +kernel

/-- A clause of the Steward on a cell's bank, open at its arbiter, with requests waiting. -/
def Sys2Proof.Tests.clauseS (q : List ArbReq) : State :=
  runS.onArb (.bank 3 0) (fun x => { x with clause := some { port := .mesh, owner := .steward, target := .bank 3 0, count := 2, addr := 64, points := [6145] }, queue := q })

theorem wit_ClausesLapseAndTear :
    (State.reset.arb .mram).starved = false ∧ (∀ q ∈ [[], [req .own .ordinary (.cell 3)]], ((clauseS q).arb (.bank 3 0)).clause.isSome = true ∧ ((clauseS q).arb (.bank 3 0)).active = none ∧ ((clauseS q).arb (.bank 3 0)).queue = q) ∧
    (rankOf (.bank 3 0) .own).isSome = true ∧ Port.own ≠ Port.mesh ∧ (clauseS []).openClauses (fun o => decide (o = .steward)) ≠ [] ∧
    goes (exec (.clauseLapse (.bank 3 0)) (clauseS [req .own .ordinary (.cell 3)])) (fun t => decide ((t.arb (.bank 3 0)).active = some (req .own .ordinary (.cell 3), false))) = true ∧
    goes (exec (.stewardWatchdog []) (clauseS [])) (fun t => t.host.steward.tornClause && t.flag Reg.CEL_STATUS_TORN [3] && (t.work 6145).torn) = true := by
  decide +kernel

theorem wit_LanesRefreshesAndCellControls :
    laneOf (255 / 4) (255 % 4) ∉ State.reset.fab.failed ∧ runS.keyOk = true ∧ State.reset.keyOk = false ∧
    State.reset.flag Reg.CEL_CTL_RELEASE [63] = false ∧ (runS.wr Reg.CEL_STATUS_STATE 3 [63]).cellSafe 63 = true ∧ runS.cellSafe 63 = false ∧
    goes (exec (.laneHandshakeTimeout 255 true) runS) (fun t => decide (laneOf (255 / 4) (255 % 4) ∈ t.fab.failed)) = true ∧
    ((runS.onArb (.ddr 1) (fun x => { x with active := some (req .host .ordinary .host, false) })).arb (.ddr 1)).active.isSome = true ∧ (runS.arb (.ddr 0)).active = none ∧ (runS.arb (.ddr 0)).queue = [] := by
  decide +kernel

/-- The debug gate open and bank 2 of the window selected. -/
def Sys2Proof.Tests.dbgS : State := ((runS.wr Reg.SEC_DBG_OPEN 1).wr Reg.DBG_SEL_MEM 2).wr Reg.DBG_SEL_BANK 2

theorem wit_DebugPortAccesses :
    State.reset.flag Reg.SEC_DBG_OPEN = false ∧ dbgS.flag Reg.SEC_DBG_OPEN = true ∧ dbgS.dbgTarget = some (2 * 0x20000, .window 2) ∧
    0x80000 ≤ (0x1F80004#25).toNat % 0x100000 ∧ (0x1F80004#25).toNat % 4 = 0 ∧ (dbgS.arb (.window 2)).active = none ∧ (dbgS.arb (.window 2)).queue = [] ∧ 64 ≤ (dbgS.arb (.window 2)).sinceDebug ∧
    (dbgS.arb (.window 2)).clause = none ∧ ((dbgS.onArb (.window 2) (fun x => { x with sinceDebug := 63 })).arb (.window 2)).sinceDebug < 64 ∧
    goes (exec (.debugBlockAccess 0x1F80004 true 4 0xAB []) dbgS) (fun t => t.winByte (4 * (2 * 0x20000 + 1)) == 0xAB#8) = true := by
  decide +kernel

theorem wit_ClockAdvanceKeepsNanosecondsInRange :
    (2 ^ 48 - 1 : Nat) < 2 ^ 48 ∧ (999999999 : Nat) < 1000000000 ∧ (2 ^ 32 - 1 : Nat) < 2 ^ 32 ∧ (2 * 2 ^ 32 : Nat) < 1000000000 * 2 ^ 32 ∧ incrOk (2 * 2 ^ 32) = true ∧
    (⟨2 ^ 48 - 1, 999999998, 2 ^ 32 - 1⟩ : Clock).advance (2 * 2 ^ 32) = ⟨0, 0, 2 ^ 32 - 1⟩ := by
  decide +kernel

theorem wit_TickAdvancesRunTimeByE :
    State.reset.time.runFrac < 2 ^ 32 ∧ State.reset.img.run = none ∧ (runImg {}).img.run.isSome = true ∧ State.reset.rd Reg.TNS_STATUS_ACTIVE ≠ 2 ∧
    (State.reset.wr Reg.TNS_STATUS_ACTIVE 1).rd Reg.TNS_STATUS_ACTIVE = 1 := by
  decide +kernel

/-- An image in effect, source A ahead of D by a number of nanoseconds. -/
def Sys2Proof.Tests.aheadS (ns : Nat) : State :=
  let s := ((runImg {}).wr Reg.TNS_STATUS_HOLDOVER 0).wr Reg.TNS_CTL_SLEW_PPM 500
  { s with time := { s.time with a := { s.time.a with clk := ⟨0, ns, 0⟩ } } }

theorem wit_SlewStaysWithinItsBound :
    (runImg {}).img.run.isSome = true ∧ State.reset.flag Reg.TNS_STATUS_HOLDOVER = false ∧ (State.reset.wr Reg.TNS_STATUS_HOLDOVER 1).flag Reg.TNS_STATUS_HOLDOVER = true ∧
    State.reset.rd Reg.TNS_CTL_SLEW_PPM ≤ 500 ∧ (State.reset.wr Reg.TNS_CTL_SLEW_PPM 0).rd Reg.TNS_CTL_SLEW_PPM = 0 ∧
    ((500 * 2 ^ 33 / 1000000 : Nat) : Int) < (aheadS 1).deltaFix ∧ (aheadS 1).slew = ((500 * 2 ^ 33 / 1000000 : Nat) : Int) ∧ (aheadS 0).slew = 0 := by
  decide +kernel

theorem wit_TimeReadsCaptureOneTick : Admitted State.reset 0x0A02 ∧ 72 ≤ r5.bufLen := by
  unfold Admitted; decide +kernel

theorem wit_TimeStartsAtPllLock :
    State.reset.time.locked = false ∧ (runImg {}).time.locked = true ∧ State.reset.time.retentionSec < 2 ^ 48 := by
  decide +kernel

theorem wit_DomainWritesAndPtpMessages :
    State.reset.forcedLink = false ∧ bitsOf 0x01F40012 1 0 ≠ 3 ∧ bitsOf 0x01F40013 1 0 = 3 ∧
    ((State.reset.wr Reg.ETH_PORT_CFG_PTP_DOM 1 [5]).rd Reg.ETH_PORT_CFG_PTP_DOM [5] = 1 ∧ State.reset.rd Reg.TNS_X_CTL_PTP_DOMAIN [0] < 256 ∧ State.reset.rd Reg.TNS_X_CTL_PTP_DOMAIN [1] < 256) ∧
    State.reset.rd Reg.ETH_PORT_CFG_PTP_DOM [5] = 0 ∧ (runImg {}).time.locked = true := by
  decide +kernel

/-- A device forced to the clock of its constellation. -/
def Sys2Proof.Tests.linkedS : State := runS.wr Reg.LNK_STATE_STATE 2

theorem wit_TimeCommandsAct :
    Admitted runS 0x0A01 ∧ arg64 [8, 0] 0 = runS.time.n + 8 ∧ arg64 [7, 0] 0 < runS.time.n + 8 ∧ runS.flag Reg.TNS_STATUS_HOLDOVER = false ∧ (runS.wr Reg.TNS_STATUS_HOLDOVER 1).flag Reg.TNS_STATUS_HOLDOVER = true ∧ runS.time.stepPend = none ∧
    Admitted runS 0x0A03 ∧ argN [2] 0 ≤ 2 ∧ runS.forcedLink = false ∧ Admitted linkedS 0x0A01 ∧ Admitted linkedS 0x0A03 ∧ linkedS.forcedLink = true ∧
    (let p : TimeStepPend := { mark := 8, ref := some r5 }
     let s : State := { runS with time := { runS.time with stepPend := some p, dselPending := some 1 } }
     let t : State := { s with time := { s.time with n := 8, a := { s.time.a with clk := ⟨1, 0, 0⟩ } } }
     s.time.stepPend.isSome = true ∧ s.time.stepPend = some p ∧ p.ref = some r5 ∧ p.q = none ∧ s.time.n < p.mark ∧ p.mark ≤ t.time.n ∧ t.stopAtMark = false ∧ t.stepQ ≠ 0 ∧ (t.wr Reg.GLB_KEY_EFFECTIVE 0).stopAtMark = true ∧
     s.time.dselPending = some 1 ∧ (s.wr Reg.TNS_CTL_AUTO 0).flag Reg.TNS_CTL_AUTO = false) := by
  unfold Admitted; decide +kernel

theorem wit_TimePinsCaptureAndPulse :
    State.reset.rd Reg.TNS_TIO_CFG_MODE [7] = 0 ∧ (∀ m ∈ [1, 2, 3, 4], (State.reset.wr Reg.TNS_TIO_CFG_MODE m [7]).rd Reg.TNS_TIO_CFG_MODE [7] = m) ∧
    State.reset.time.tioPulse.look 7 = none ∧ (({ State.reset with time := { State.reset.time with tioPulse := [(7, 5)] } } : State).time.tioPulse.look 7).isSome = true ∧
    bitsOf (4 * 2 ^ Reg.TNS_TIO_CFG_MODE.lo) Reg.TNS_TIO_CFG_MODE.hi Reg.TNS_TIO_CFG_MODE.lo = 4 ∧ bitOf (2 ^ Reg.TNS_TIO_CFG_OVF.lo) Reg.TNS_TIO_CFG_OVF.lo = true ∧
    clock4 State.reset.time.d ≤ State.reset.tioDue 7 ∧
    (let s : State := { State.reset with time := { State.reset.time with tioArmed := [7], d := ⟨1, 0, 0⟩ } }
     7 ∈ s.time.tioArmed ∧ s.tioDue 7 < clock4 s.time.d) ∧
    7 ∉ State.reset.time.tioArmed := by
  decide +kernel

theorem wit_MarksStartTheCycleAndShowTheModes :
    State.reset.time.locked = false ∧ (runImg {}).time.locked = true ∧ State.reset.img.run = none ∧ (runImg {}).img.run.isSome = true := by
  decide +kernel

theorem wit_CellSealsOnceACycle :
    (runImg {}).img.run.isSome = true ∧ (runImg {}).fab.frozen = false ∧ ((runImg {}).fab.cells.at' 63 {}).sealed = false ∧ State.reset.img.run = none ∧
    goes (exec (.cellSeal 63 7 []) (runImg {})) (fun t => t.rd Reg.CEL_STEP_USED_LAST [63] == 7) = true := by
  decide +kernel

theorem wit_QualityFollowsTheOrderOfConditions :
    let s := runImg ptImg
    s.pdef 1 = some (ptDef 0x10 0) ∧ s.pairSt ≠ 4 ∧ s.flag Reg.AGE_STAT_FORERUNNER = false ∧ s.cellSafe (s.governor 2 (ptDef 0x14 0)) = false ∧
    (s.wr Reg.CEL_STATUS_STATE 3 [0]).cellSafe ((s.wr Reg.CEL_STATUS_STATE 3 [0]).governor 2 (ptDef 0x14 0)) = true ∧ (ptDef 0x14 0).output = true ∧
    (s.work 1).absent = false ∧ (s.work 1).written = false ∧ (s.work 1).force = none ∧ (s.work 1).torn = false := by
  decide +kernel

/-- The age limit of a point: five cycles after its last write it is in time, six cycles after it is STALE. -/
theorem wit_QualityFollowsTheOrderOfConditions_age :
    let s : State := { runImg ptImg with pts := { work := [(1, { own := 9, written := true, updateN := 100 })] } }
    (s.evalPoint 1 105).quality = .good ∧ (s.evalPoint 1 106).quality = .stale ∧ (s.evalPoint 1 106).value = 9 ∧
    (({ s with pts := { work := [(1, { own := 9, written := true, updateN := 100, force := some 4 })] } } : State).evalPoint 1 106).value = 4 := by
  decide +kernel

theorem wit_LastHostWriteOfACycleStands :
    let s : State := { runImg ptImg with pts := { hostWrites := [{ idx := 0, value := 1, ref := r5 }, { idx := 0, value := 2, ref := r5 }] } }
    s.pts.hostWrites = [{ idx := 0, value := 1, ref := r5 }] ++ { idx := 0, value := 2, ref := r5 } :: [] ∧
    (s.applyHostWrites.work 0).own = 2 ∧ (s.applyHostWrites.ctr.tab.at' 0x211 {}).value = 1 := by
  decide +kernel

theorem wit_DefinitionRecordsRoundTrip :
    (ptDef 255 0xFFFFFFFF).owner < 2 ^ 32 ∧ (ptDef 255 0xFFFFFFFF).flags < 256 ∧ (ptDef 0 0).slot < 2 ^ 16 ∧ (ptDef 0 0).maxAge < 2 ^ 16 ∧ (ptDef 0 0).recPolicy < 2 ^ 16 ∧
    (ptDef 0 0).enumCount < 2 ^ 16 ∧ (ptDef 0 0).format < 256 := by
  decide +kernel

/-- A point command's items, judged by a test that evaluates. -/
def Sys2Proof.Tests.lpB (s : State) (op : Nat) (args : List Nat) (ok : PointDef → Word → Bool) : Bool :=
  decide (1 ≤ argN args 0) && decide (argN args 0 ≤ 64) && decide (itemWords op (argN args 0) 0 ≤ args.length) &&
  (pointItems op args 0).all (fun e => decide (bitsOf e.1 31 25 = 0) && decide (idDev e.1 = s.ownDev) && (s.pdef (idLocal e.1)).any (fun d => ok d e.2))

theorem localPoints_of {s : State} {op : Nat} {args : List Nat} {ok : PointDef → Word → Bool} {P : PointDef → Word → Prop}
    (h : lpB s op args ok = true) (hp : ∀ d v, ok d v = true → P d v) : LocalPoints s op args P := by
  simp only [lpB, Bool.and_eq_true, decide_eq_true_eq, List.all_eq_true, Option.any_eq_true] at h
  obtain ⟨⟨⟨h1, h2⟩, h3⟩, h4⟩ := h
  exact ⟨h1, h2, h3, fun e he => ⟨(h4 e he).1.1, (h4 e he).1.2, (h4 e he).2.imp (fun d hd => ⟨hd.1, hp _ _ hd.2⟩)⟩⟩

theorem wit_PointCommandsLatchAndRead_reads :
    LocalPoints (runImg ptImg) 0x0201 [2, 0, 1] (fun _ _ => True) ∧ LocalPoints (runImg ptImg) 0x0206 [2, 0, 1] (fun _ _ => True) ∧
    LocalPoints (runImg ptImg) 0x0204 (64 :: List.replicate 64 0) (fun _ _ => True) :=
  ⟨localPoints_of (ok := fun _ _ => true) (by decide +kernel) (fun _ _ _ => trivial),
   localPoints_of (ok := fun _ _ => true) (by decide +kernel) (fun _ _ _ => trivial),
   localPoints_of (ok := fun _ _ => true) (by decide +kernel) (fun _ _ _ => trivial)⟩

theorem wit_PointCommandsLatchAndRead_writes :
    LocalPoints (runImg ptImg) 0x0202 [1, 0, 5] (fun d v => valInvalid d v = false ∧ d.hostOwned = true) ∧
    LocalPoints (runImg ptImg) 0x0202 [1, 1, 5] (fun d v => valInvalid d v = false) ∧
    LocalPoints (runImg ptImg) 0x0203 [1, 1, 5] (fun d v => valInvalid d v = false ∧ d.forcible = true ∧ d.ownerKind ≠ 6) :=
  ⟨localPoints_of (ok := fun d v => !valInvalid d v && d.hostOwned) (by decide +kernel) (by simp),
   localPoints_of (ok := fun d v => !valInvalid d v) (by decide +kernel) (by simp),
   localPoints_of (ok := fun d v => !valInvalid d v && d.forcible && decide (d.ownerKind ≠ 6)) (by decide +kernel) (fun d v h => by simpa [and_assoc] using h)⟩

theorem wit_PointCommandsLatchAndRead_rest :
    (Gated runS 0x0201 ∧ Gated runS 0x0202 ∧ Gated runS 0x0203 ∧ Gated runS 0x0204 ∧ Gated runS 0x0206) ∧ 32 * 2 ≤ r5.bufLen ∧
    (pointItems 0x0202 [1, 1, 5] 0 = [(1, 5)] ∧ (runImg ptImg).pdef (idLocal 1) = some (ptDef 0x10 0) ∧ (ptDef 0x10 0).hostOwned = false) ∧
    forceFits ((pointItems 0x0203 [1, 1, 5] 0).map (fun e => idLocal e.1)) (forcedAfter (runImg ptImg).pts.forceReqs (runImg ptImg).forcedPoints) = true ∧
    Admitted (runImg ptImg) 0x0205 ∧ argN [0] 0 = (runImg ptImg).ownDev ∧ 8 * (runImg ptImg).forcedPoints.length ≤ r5.bufLen := by
  unfold Gated Admitted; decide +kernel

theorem wit_PointCommandsTakeEffect_forceList :
    8 * ((runImg ptImg).cut.work.filter (fun e => e.2.force.isSome)).length ≤ r5.bufLen ∧ (runImg ptImg).img.run.isSome = true ∧ argN [3] 0 ≠ (runImg ptImg).ownDev ∧ argN [3] 0 < 256 ∧
    ((runImg ptImg).wr Reg.LNK_MEMBER_JOINED 8 [0]).joined 3 = true ∧ Admitted ((runImg ptImg).wr Reg.LNK_MEMBER_JOINED 8 [0]) 0x0205 := by
  unfold Admitted; decide +kernel

/-- Three points of this device, the second neither host-owned nor forcible, and device 3 joined. -/
def Sys2Proof.Tests.twoS : State := (runImg { points := [(0, ptDef 0x18 0x60000000), (1, ptDef 0 0), (2, ptDef 0x10 0)] }).wr Reg.LNK_MEMBER_JOINED 8 [0]

/-- 1,024 points forced. -/
def Sys2Proof.Tests.fullS : State :=
  { runImg ptImg with pts := { work := (List.range 1024).map (fun k => (k + 2, { force := some 0 })) } }

theorem wit_PointCommandsAreRefused :
    argN [65] 0 = 65 ∧ 32 * 1 + 1024 ≤ r5.bufLen ∧ firstBad (fun (e : Nat × Word) => decide (bitsOf e.1 31 25 = 0)) (pointItems 0x0201 [2, 0, 2 ^ 25] 0) = some 1 ∧
    (∀ e ∈ pointItems 0x0201 [2, 0, 2 ^ 25] 0, idDev e.1 = twoS.ownDev) ∧
    firstBad (fun (e : Nat × Word) => (twoS.pdef (idLocal e.1)).isSome) (pointItems 0x0201 [2, 0, 9] 0) = some 1 ∧ (twoS.pdef (idLocal 1)).map (·.forcible) = some false ∧
    lpB twoS 0x0203 [1, 1, 5] (fun d v => !valInvalid d v) = true ∧
    forceFits ((pointItems 0x0203 [1, 1, 5] 0).map (fun e => idLocal e.1)) (forcedAfter fullS.pts.forceReqs fullS.forcedPoints) = false ∧
    lpB fullS 0x0203 [1, 1, 5] (fun d v => !valInvalid d v && d.forcible && decide (d.ownerKind ≠ 6)) = true := by
  decide +kernel

theorem wit_PointCommandsOverDevices :
    ∀ e ∈ [(0x0201, [2, 0, 3 * 2 ^ 17]), (0x0202, [2, 0, 5, 3 * 2 ^ 17, 5]), (0x0203, [2, 2, 5, 3 * 2 ^ 17, 5]), (0x0204, [1, 3 * 2 ^ 17]), (0x0206, [2, 3 * 2 ^ 17, 0])],
      OverDevices twoS r5 e.1 e.2 ∧ OwnPartStands twoS e.1 e.2 := by
  unfold OverDevices OwnPartStands; decide +kernel

theorem wit_ConstWritesAndAnswersOfOtherDevices_write :
    Admitted (runImg ptImg) 0x0B04 ∧ r5.origin = none ∧ (runImg ptImg).img.run.isSome = true ∧ argN [1, 16, 0, 0, 5] 0 = 1 ∧
    itemWords 0x0B04 1 2 ≤ [1, 16, 0, 0, 5].length ∧ (runImg ptImg).time.n + 16 = arg64 [1, 16, 0, 0, 5] 1 ∧
    (∀ e ∈ pointItems 0x0B04 [1, 16, 0, 0, 5] 2, bitsOf e.1 31 25 = 0 ∧ idDev e.1 = (runImg ptImg).ownDev ∧ (runImg ptImg).pdef (idLocal e.1) = some (ptDef 0x18 0x60000000) ∧
      valInvalid (ptDef 0x18 0x60000000) e.2 = false ∧ (ptDef 0x18 0x60000000).hostOwned = true) ∧
    argN [65] 0 = 65 ∧ arg64 [1, 15, 0, 0, 5] 1 < (runImg ptImg).time.n + 16 ∧ runS.img.run = none := by
  unfold Admitted; decide +kernel

/-- The running device with link port 5 up. -/
def Sys2Proof.Tests.linkS : State := (runImg ptImg).wr Reg.LNK_PORT_STATE 2 [5]

/-- A frame that device 3 sends to this device. -/
def Sys2Proof.Tests.frameOf (typ : Nat) (payload : List Byte) : LinkFrame := { typ := typ, src := 3, dst := 0, tag := 77, payload := payload }

theorem wit_ConstWritesAndAnswersOfOtherDevices_frames :
    (let f := frameOf 0x07 (leBytes 1 1 ++ leBytes 1 1 ++ leBytes 6 0 ++ leBytes 4 1 ++ leBytes 4 0)
     linkS.portUp 5 = true ∧ linkS.carries 5 = true ∧ f.pathLen ≤ f.hop ∧ f.dst = linkS.hdrDev ∧ f.typ ≠ 0x0D ∧
     fieldLE f.payload 0 1 = 1 ∧ fieldLE f.payload 1 1 = 1 ∧ Gated linkS 0x0201 ∧
     (∀ r ∈ recordsOf (f.payload.drop 8) 8 1, bitsOf (fieldLE r 0 4) 31 25 = 0 ∧ idDev (fieldLE r 0 4) = linkS.ownDev ∧ (linkS.pdef (idLocal (fieldLE r 0 4))).isSome = true)) ∧
    (let f := frameOf 0x07 (leBytes 1 2 ++ leBytes 1 1 ++ leBytes 6 0 ++ leBytes 4 0 ++ leBytes 4 5)
     fieldLE f.payload 0 1 = 2 ∧ fieldLE f.payload 1 1 = 1 ∧ 8 + 8 * 1 ≤ f.payload.length ∧ Gated linkS 0x0202 ∧ linkS.pdef (idLocal 0) = some (ptDef 0x18 0x60000000) ∧ valInvalid (ptDef 0x18 0x60000000) 5 = false) ∧
    statusOf 3 ≠ .ok ∧ statusOf 3 ≠ .absent ∧ [3, 4].filter (fun d => decide (d ≠ (frameOf 0x08 []).src)) ≠ [] ∧
    (let f := frameOf 0x08 (leBytes 3 0 ++ leBytes 1 1 ++ leBytes 12 0)
     fieldLE f.payload 0 1 = 0 ∧ fieldLE f.payload 2 1 = 0 ∧ fieldLE f.payload 3 1 = 1 ∧ linkS.link.frags = [] ∧ idDev (3 * 2 ^ 17 + 1) = f.src ∧ f.src ≠ linkS.ownDev) := by
  unfold Gated; decide +kernel

theorem wit_ConstWritesAndAnswersOfOtherDevices_answers :
    let j : PointJob := { ref := { r5 with handle := 77 }, op := 0x0202, items := [(3 * 2 ^ 17 + 1, 5)], sentAt := 0, waiting := [3], answers := [] }
    let r : Relay := { dev := 3, ref := r5, op := 0x0202, args := [], sentAt := 0, sent := true }
    let s : State := { linkS with host := { linkS.host with jobs := [j], relays := [r] }, time := { linkS.time with run := 1000000 } }
    s.host.jobs = [j] ∧ j.ref.handle = (frameOf 0x08 []).tag ∧ j.answers = [] ∧ j.items ≠ [] ∧ (frameOf 0x08 []).src ∈ j.waiting ∧ j.sentAt + 1000000 ≤ s.runNs ∧ linkS.host.relays = [] ∧ linkS.host.jobs = [] ∧ j.waiting = [(frameOf 0x08 []).src] ∧ (∀ e ∈ j.items, idDev e.1 = 3) ∧ s.host.relays = [r] ∧ r.sent = true ∧
    r.accepted = false ∧ r.sentAt + 1000000 ≤ s.runNs ∧ r.op ≠ 0x0B04 := by
  decide +kernel

/-- The running device with link port 5 up, as the manager. -/
def Sys2Proof.Tests.managerS : State := (linkS.wr Reg.LNK_STATE_STATE 5).wr Reg.GLB_PAIR_LEASE 1

/-- The running device with what link port 5 holds. -/
def Sys2Proof.Tests.portS (p : LinkPort) : State := { linkS with link := { linkS.link with ports := [(5, p)] } }

theorem wit_LinkPortsTrainAndFail :
    let q : Replay := { frame := frameOf 0x02 [], repeats := 1 }
    let s := portS { lanes := 2, replay := [q] }
    let z := portS { lanes := 1, spare := true, nbFlags := 2 }
    State.reset.portUp 5 = false ∧ s.portUp 5 = true ∧ s.laneZero 5 = false ∧ (s.lport 5).lanes = 2 ∧ ((portS { lanes := 1 }).lport 5).lanes ≠ 2 ∧ (s.lport 5).nb = none ∧ (frameOf 0x0D []).typ = 0x0D ∧
    (s.lport 5).replay.find? (fun (r : Replay) => r.frame.lseq = 0) = some q ∧ (s.lport 5).replay.find? (fun (r : Replay) => r.frame.lseq = 1) = none ∧ q.repeats < 2 ∧
    ((portS { replay := [{ q with repeats := 2 }] }).lport 5).replay.find? (fun (r : Replay) => r.frame.lseq = 0) = some { q with repeats := 2 } ∧
    z.portUp 5 = true ∧ z.laneZero 5 = true ∧ (z.lport 5).spare = true ∧ ((portS { lanes := 1, nbFlags := 2 }).lport 5).spare = false ∧ (portS { lanes := 1, nbFlags := 2 }).laneZero 5 = true ∧
    ((portS { nb := some (3, 2) }).lport 5).nb = some (3, 2) ∧ 2 ≠ fieldLE (frameOf 0x0D (List.replicate 64 1)).payload 1 1 ∧ fieldLE (frameOf 0x0D (List.replicate 64 1)).payload 0x10 8 ≠ 0 := by
  decide +kernel

theorem wit_ConstellationCommandsAnswer :
    Admitted State.reset 0x0B01 ∧ Admitted State.reset 0x0B02 ∧ State.reset.img.run = none ∧ argN [0] 0 = (runImg {}).ownDev ∧ 4 * State.reset.link.table.paths.length ≤ r5.bufLen ∧
    (let i : Img := { imports := [(0, 3 * 2 ^ 17)] }
     Admitted (runImg i) 0x0B03 ∧ (runImg i).img.run = some i ∧ argN [0, 0, 1] 1 < i.imports.length ∧ argN [0, 0, 1] 0 = (runImg i).ownDev ∧ i.imports.length ≤ argN [0, 1, 1] 1) ∧
    (∀ op ∈ [0x0B01, 0x0B02, 0x0B03], Admitted twoS op) ∧ argN [3, 0, 1] 0 ≠ twoS.ownDev ∧ twoS.joined 3 = true ∧ twoS.joined 4 = false ∧
    (let s : State := { managerS.wr Reg.GLB_KEY_EFFECTIVE 3 with link := { managerS.link with units := [6] } }
     (Admitted s 0x0B05 ∨ Admitted managerS 0x0B05) ∧ managerS.isManager = true ∧ argN [3] 0 ∈ s.joinedDevs ∧ argN [4] 0 ∉ s.joinedDevs) ∧
    (Admitted maintS 0x0B06 ∨ Admitted runS 0x0B06) ∧ argN [5] 0 < 6 ∧ 6 ≤ argN [6] 0 := by
  unfold Admitted; decide +kernel

theorem wit_BeaconsCarryTime :
    (managerS.isManager = true ∧ managerS.rd Reg.LNK_STATE_CAUSE ≠ 6 ∧ managerS.flag Reg.GLB_PAIR_LEASE = true ∧ managerS.time.n % 8 = 0) ∧
    ({ managerS with time := { managerS.time with n := 7 } } : State).time.n % 8 ≠ 0 ∧
    (let f : LinkFrame := { frameOf 0x01 (leBytes 4 0 ++ List.replicate 60 0) with dst := 0xFF }
     FirstSeen linkS 5 f ∧ linkS.isManager = false ∧ fieldLE f.payload 0 4 = linkS.ownId ∧ linkS.img.run.isSome = true ∧ fieldLE (leBytes 4 9) 0 4 ≠ linkS.ownId) ∧
    (let s : State := { linkS.wr Reg.LNK_STATE_STATE 2 with link := { linkS.link with lastBeacon := some 0 }, time := { linkS.time with run := 3000000 } }
     s.link.lastBeacon = some 0 ∧ 0 + 3000000 ≤ s.runNs ∧ linkS.runNs < 0 + 3000000 ∧ s.isJoined = true ∧ linkS.isJoined = false) := by
  unfold FirstSeen; decide +kernel

theorem wit_WorkersJoin :
    (let s : State := { (linkS.wr Reg.LNK_STATE_STATE 1).wr Reg.LNK_STATE_LINK_OK 1 with link := { linkS.link with upstream := some (5, 1, 0), slot := true, asked := some (0, 77) } }
     s.link.upstream = some (5, 1, 0) ∧ s.img.run.isSome = true ∧ s.rd Reg.LNK_STATE_STATE = 1 ∧ s.flag Reg.LNK_STATE_LINK_OK = true ∧ s.link.slot = true ∧ linkS.link.slot = false ∧
     Arrived s 5 (frameOf 0x04 []) ∧ s.link.asked = some (0, (frameOf 0x04 []).tag) ∧ 78 ≠ (frameOf 0x04 []).tag ∧ s.link.retryAt = none ∧
     s.isManager = false ∧ (frameOf 0x03 []).hop < 4 ∧ 4 ≤ ({ frameOf 0x03 [] with hop := 4 } : LinkFrame).hop ∧ s.carries 5 = true ∧
     fieldLE [0#8] 0 1 = 0 ∧ fieldLE [5#8] 0 1 = 5 ∧ fieldLE [2#8] 0 1 ≠ 0 ∧ fieldLE [2#8] 0 1 ≠ 5) ∧
    (let s : State := { (linkS.wr Reg.LNK_STATE_STATE 4).wr Reg.LNK_STATE_LINK_OK 1 with link := { linkS.link with retryAt := some 0 } }
     s.link.asked = none ∧ s.link.retryAt = some 0 ∧ 0 ≤ s.runNs ∧ s.rd Reg.LNK_STATE_STATE = 4 ∧ s.flag Reg.LNK_STATE_LINK_OK = true) ∧
    (managerS.portUp 5 = true ∧ managerS.carries 5 = true ∧ FirstSeen managerS 5 (frameOf 0x02 []) ∧ (frameOf 0x02 []).src ≠ 0xFF ∧ FirstSeen linkS 5 (frameOf 0x02 []) ∧ linkS.isManager = false) := by
  unfold FirstSeen Arrived; decide +kernel

theorem wit_SubscriptionsExportsAndTablesArrive :
    (let f := frameOf 0x05 (leBytes 2 9 ++ leBytes 1 0 ++ leBytes 1 1 ++ List.replicate 12 0)
     Arrived linkS 5 f ∧ linkS.link.frags = [] ∧ fieldLE f.payload 2 1 = 0 ∧ fieldLE f.payload 3 1 = 1 ∧ 2 ≤ fieldLE (leBytes 3 0 ++ leBytes 1 2) 3 1 ∧
     (let x : ImportSub := { exporter := 3, req := 9, entries := [(0, 3 * 2 ^ 17)] }
      let s : State := { linkS with link := { linkS.link with subs := [x] } }
      s.link.subs = [x] ∧ x.exporter = f.src ∧ x.req = fieldLE f.payload 0 2 ∧ Arrived s 5 f)) ∧
    (let f : LinkFrame := { frameOf 0x07 (List.replicate 16 0) with tag := 10 }
     let at_ (n : Nat) : State := { linkS with time := { linkS.time with n := n } }
     nearN (at_ 12).time.n f.tag + 2 = (at_ 12).time.n ∧ (at_ 11).time.n < nearN (at_ 11).time.n f.tag + 2 ∧ Arrived (at_ 12) 5 f ∧ Arrived (at_ 11) 5 f) ∧
    (let f := frameOf 0x0A (leBytes 8 40 ++ leBytes 1 0 ++ leBytes 1 1 ++ List.replicate 6 0)
     Arrived linkS 5 f ∧ fieldLE f.payload 8 1 = 0 ∧ fieldLE f.payload 9 1 = 1) ∧
    (let f := frameOf 0x0B (leBytes 1 1 ++ List.replicate 15 0 ++ cmdRecordBytes { rec0F20 with bufLen := 0 })
     Arrived linkS 5 f ∧ linkS.link.hosts = [] ∧ fieldLE f.payload 0 1 = 1 ∧ fieldLE (slice f.payload 16 64) 16 4 = 0 ∧ executorOf 0x0F20 ≠ .steward ∧ executorOf 0x0E01 = .steward) ∧
    (let f : LinkFrame := { frameOf 0x0C (List.replicate 16 0) with pathLen := 1 }
     FirstSeen linkS 5 f ∧ f.hop < f.pathLen ∧ (f.typ, f.src, f.tag) ∈ ({ linkS with link := { linkS.link with seen := [(0x0C, 3, 77)] } } : State).link.seen) := by
  unfold FirstSeen Arrived; decide +kernel

/-- A loop with a trace of eight rows, gain table 1 and no mode point. -/
def Sys2Proof.Tests.loopA : LoopDef :=
  { loop := 0, flags0 := 2, flags1 := 8, divisor := 1, phase := 0, pv := 0, sp := 1, out := 2, ff := NONE, pos := NONE, vref := NONE, mode := NONE, man := NONE, cas := NONE,
    trig := NONE, gainTab := 1, fricTab := 0xFFFF, cogTab := 0xFFFF, badAct := 0, initMode := 1, ti := 0, td := 0, tf := 0, kff := 0, outLo := 0, outHi := 0x42C80000, roc := 0,
    deadband := 0, disableVal := 0, badVal := 0, v0 := 0, traceMask := 3, traceDepth := 8, trigMask := 0, start := 0 }

/-- A gain table of n breakpoints. -/
def Sys2Proof.Tests.gainOf (id n : Nat) : TableDef := { tabId := id, kind := 0, wrap := false, x0 := 0, span := 0, pairs := List.replicate n (0, 0x3F800000), entries := [] }

/-- An axis without a mode point, on generator 0. -/
def Sys2Proof.Tests.axisA : AxisDef :=
  { axis := 31, flags := 0, pg := 0, encCh := 0, initMode := 0, start := 1, gainTab := 1, fb := 0, out := 2, modePt := NONE, jog := NONE, trq := NONE, posOut := NONE, drv := NONE,
    unitPerCount := 0x3F800000, posOffset := 0, kp := 0, kvf := 0, kaf := 0, ti := 0, tvf := 0, outLo := 0, outHi := 0x42C80000, disableVal := 0, feMax := 0, vFault := 0,
    posLimLo := 0, posLimHi := 0x42C80000, aQstop := 0x3F800000, jQstop := 0x3F800000, v0 := 0, fricTab := 0xFFFF, cogTab := 0xFFFF, satTicks := 1, react := 0 }

/-- Two records of a verb that has no inputs. -/
def Sys2Proof.Tests.verbA (op : VerbOp) (c : Nat) : VerbDef := { verb := 0, op := op, sub := 0, dst := 0, src := 0, inputs := [], a := 0, b := 0, c := c }

/-- A recipe of one flow with one step and one verb. -/
def Sys2Proof.Tests.recipeA (d : VerbDef) : RecipeSec :=
  { timers := 16, dMax := 16, wMax := 16, rampMax := 16, graphs := [{ graph := 0, firstStep := 0, stepCount := 1, abortStep := 0xFFFF, resumeAuto := false }],
    steps := [{ stepId := 10, firstVerb := 0, verbCount := 1, reentry := 10, timeout := 0, tmoAct := 0, retired := false, successor := 0xFFFF }],
    verbs := [d], flows := [{ flow := 0, graph := 0, start := 0, firstDis := 0, disCount := 0, stepPt := NONE, statePt := NONE, markPt := NONE }], disables := [] }

/-- A logic program with a timer, a counter and an edge. -/
def Sys2Proof.Tests.logicA : LogicSec :=
  { mBits := 64, wWords := 16, tasks := [{ task := 0, start := 0, period := 1, phase := 0, imgCount := 0, imgFirst := 0, entry := 0, statusPt := NONE }], images := [],
    objects := [{ objId := 5, kind := .ton, msBase := false, outageAdd := false, warmEdge := false, p0 := 100, p1 := 0 },
                { objId := 6, kind := .ctu, msBase := false, outageAdd := false, warmEdge := false, p0 := 3, p1 := 0 },
                { objId := 7, kind := .rising, msBase := false, outageAdd := false, warmEdge := false, p0 := 0, p1 := 0 }], wInit := [], code := [] }

/-- A device with a LOOP, a SEQUENCE and a LOGIC cell, with time at mark 100. -/
def Sys2Proof.Tests.roleS (d : VerbDef) : State :=
  let i : Img := { ptImg with
    roles := [roleLoop, roleSeq, roleLogic]
    loops := [(0, loopA), (1, { loopA with loop := 1, mode := 1 })]
    tables := [(1, gainOf 1 4), (2, gainOf 2 5)]
    axes := [(31, axisA)]
    pgs := [(0, { pg := 0, rate := 1, refPt := NONE, vMax := 0x3F800000, aMax := 0x3F800000, jMax := 0x3F800000, tgt := NONE, done := NONE })]
    recipes := [(1, recipeA d)]
    logics := [(2, logicA)] }
  let s := runImg i
  { s with time := { s.time with n := 100, run := 100 * 125000 } }

theorem wit_LoopCommandsLatchReadAndArm :
    let s := roleS (verbA .set 0)
    (∀ op ∈ [0x0301, 0x0302, 0x0303, 0x0304, 0x0305, 0x0306, 0x0307, 0x0308, 0x0309], Admitted s op) ∧
    (badCount [1, 0] 16 = (false, .invalid, 0) ∧ OwnRef s 0 ∧ s.loopThere 0 = true ∧ s.loopThere 1 = true) ∧
    (s.loopDef 0 0 = some loopA ∧ coefsBad (coefsUnder 1 (s.coefsDue 0 0) (coefArgs (0 :: 1 :: 1 :: List.replicate 8 0))) = none ∧
      (coefsUnder 1 (s.coefsDue 0 0) (coefArgs (0 :: 1 :: 1 :: List.replicate 8 0))).gainTab = 1 ∧ s.gainSize 0 1 = some (gainOf 1 4).pairs.length ∧ s.gainSize 0 2 = some (gainOf 2 5).pairs.length) ∧
    s.cellSafe (s.execOf 0) = false ∧ (s.wr Reg.CEL_STATUS_STATE 3 [0]).cellSafe ((s.wr Reg.CEL_STATUS_STATE 3 [0]).execOf 0) = true ∧
    loopA.traceEn = true ∧ 7 < loopA.traceDepth ∧ (s.loopSt 0 0).trace.st ≠ .frozen ∧ s.table 0 2 = some (gainOf 2 5) ∧ loopA.mode = NONE ∧ (s.loopDef 0 1).map (·.mode) = some 1 := by
  unfold Admitted OwnRef; decide +kernel

theorem wit_LoopCommandsLatchReadAndArm_frozen :
    let s := roleS (verbA .set 0)
    let t := s.setLoop 0 0 { s.loopSt 0 0 with trace := { st := .frozen } }
    (t.loopSt 0 0).trace.st = .frozen ∧ (traceData 0 loopA.traceMask (t.loopSt 0 0).trace).length ≤ r5.bufLen ∧ Admitted t 0x0307 := by
  unfold Admitted; decide +kernel

theorem wit_LoopCommandsLatchReadAndArm_rest :
    let s := roleS (verbA .set 0)
    (coefsBad (coefsUnder 2 (s.coefsDue 0 0) (coefArgs (0 :: 2 :: 1 :: List.replicate 8 0x7F800000)))).isSome = true ∧
    (coefsUnder 1 (s.coefsDue 0 0) (coefArgs (0 :: 1 :: 2 :: List.replicate 8 0))).gainTab = 2 ∧ (s.gainSize 0 loopA.gainTab).getD 0 = 4 ∧
    (let z : State := { s.wr Reg.CEL_STATUS_STATE 3 [0] with fab := { s.fab with cells := [(0, { firstSafe := true })] } }
     z.cellSafe (z.execOf 0) = true ∧ (z.fab.cells.at' (z.execOf 0) {}).firstSafe = true ∧ Admitted z 0x0303 ∧ Admitted z 0x0304) ∧
    s.table 0 9 = none ∧ (s.fab.cells.at' (s.execOf 0) {}).firstSafe = false := by
  unfold Admitted; decide +kernel

theorem wit_LoopReferencesAreChecked :
    let s := roleS (verbA .set 0)
    refBad (2 ^ 25) = true ∧ OwnRef s 2 ∧ s.loopThere 2 = false ∧ argN [2, 0] 1 < 3 ∧ refBad (3 * 2 ^ 17) = false ∧ idDev (3 * 2 ^ 17) ≠ s.ownDev ∧ s.img.run.isSome = true ∧ (s.wr Reg.LNK_MEMBER_JOINED 8 [0]).joined 3 = true := by
  unfold OwnRef; decide +kernel

theorem wit_TraceKeepsItsDepth :
    let st : LoopState := { (roleS (verbA .set 0)).loopSt 0 0 with trace := { st := .armed, postN := 7, cmdTrig := true } }
    st.trace.postN < loopA.traceDepth ∧ st.trace.rows.length ≤ loopA.traceDepth - 1 - st.trace.postN ∧ st.trace.st = .armed ∧ st.trace.cmdTrig = true ∧
    (traceStep loopA 5 st true).st = .post ∧ (traceStep loopA 5 { st with trace := { st := .armed, postN := 0, cmdTrig := true } } true).st = .frozen := by
  decide +kernel

theorem wit_AxisCommandsAct :
    let s := roleS (verbA .set 0)
    (∀ op ∈ [0x0310, 0x0311, 0x0312, 0x0313, 0x0314, 0x0315, 0x0316, 0x0317, 0x0318], Admitted s op) ∧
    (badCount [1, 31] 32 = (false, .invalid, 0) ∧ OwnRef s 31 ∧ refObj 31 < 32 ∧ s.axisThere 31 = true) ∧
    (OwnRef s 0 ∧ s.pgThere 0 = true ∧ F32.fin 0x3F800000 = true ∧ s.targetOk 0 0 0x3F800000 = true ∧ finPos (BitVec.ofNat 32 0x3F800000) = true) ∧
    s.axisDef 0 31 = some axisA ∧ axisA.modePt = NONE ∧ (s.axisSt 0 31).causes = [] ∧ (s.axisSt 0 31).st = .off ∧
    ((s.setAxis 0 31 { s.axisSt 0 31 with st := .run }).axisSt 0 31).st ≠ .off ∧ ((s.setAxis 0 31 { s.axisSt 0 31 with causes := [.fe] }).axisSt 0 31).causes ≠ [] ∧
    s.moveReady 0 0 = false ∧ (s.setAxis 0 31 { s.axisSt 0 31 with st := .run }).moveReady 0 0 = true := by
  unfold Admitted OwnRef; decide +kernel

theorem wit_AxisCommandsAreRefused :
    let s := roleS (verbA .set 0)
    OwnRef s 40 ∧ 32 ≤ refObj 40 ∧ 8 ≤ refObj 40 ∧ OwnRef s 1 ∧ refObj 1 < 8 ∧ s.pgThere 1 = false ∧ s.axisThere 1 = false ∧ F32.fin (BitVec.ofNat 32 0x7F800000) = false ∧
    firstBad finPos [BitVec.ofNat 32 0x3F800000, BitVec.ofNat 32 0, BitVec.ofNat 32 0] = some 1 ∧ refBad (3 * 2 ^ 17) = false ∧ idDev (3 * 2 ^ 17) ≠ s.ownDev := by
  unfold OwnRef; decide +kernel

theorem wit_LatchedAxisCommandsReachTheirAxis :
    let s := roleS (verbA .set 0)
    s.stoppedNow 0x0318 = false ∧ State.reset.stoppedNow 0x0318 = true ∧ (s.pgSt 0 0).st = .idle ∧ ((s.setPg 0 0 { s.pgSt 0 0 with st := .moving }).pgSt 0 0).st ≠ .idle := by
  decide +kernel

/-- The sequence cell with its verb ready in an active flow. -/
def Sys2Proof.Tests.seqS (d : VerbDef) (st : VerbSt) : State :=
  { roleS d with seqs := [(1, { flows := [(0, { st := .running, step := some 0, live := true, verbs := [(0, { st := st })] })] })] }

theorem wit_VerbsResolveAsTheirRowsSay :
    ∀ op ∈ [VerbOp.get, .calc, .branch, .merge, .delay, .wait, .set, .move, .ramp, .fork, .mark, .next, .finish], ∀ c ∈ [0, 5],
      ReadyVerb (seqS (verbA op c) (.ready 7 false)) 1 0 0 7 (verbA op c) := by
  unfold ReadyVerb; decide +kernel

theorem wit_VerbsResolveAsTheirRowsSay_others :
    (let s := seqS (verbA .get 0) (.ready 7 true)
     (s.recipe 1).isSome = true ∧ (s.rx 1).verbs[0]? = some (verbA .get 0) ∧ ((s.flow 1 0).run 0).st = .ready 7 true ∧ (s.flow 1 0).active = true ∧ s.recipe 0 = none ∧ (s.rx 1).verbs[1]? = none) ∧
    ((seqS (verbA .ramp 5) (.ready 7 false)).rx 1).verbs[0]? = some (verbA .ramp 5) ∧
    (∀ d ∈ [verbA .set 0, verbA .fork 0], let s := seqS d (.ready 7 false)
      ((s.flow 1 0).live = true ∧ (nextRelease (s.rx 1) (s.flow 1 0).verbs).map (·.1) = some 0 ∧ (nextRelease (s.rx 1) (s.flow 1 0).verbs).map (·.2) = some ((s.flow 1 0).run 0))) := by
  decide +kernel

theorem wit_ReleasesTakeEffect :
    (∀ op ∈ [VerbOp.set, .mark, .move, .ramp, .fork, .next, .finish], ((seqS (verbA op 5) (.done 7)).rx 1).verbs[0]? = some (verbA op 5)) ∧
    (let d : VerbDef := { verbA .fork 0 with b := 10 }
     let s := roleS d
     ((s.rx 1).named d.a d.b.toNat).map (·.retired) = some false ∧ (s.flow 1 d.a).st = .idle ∧ d.a ≠ 1 ∧ ((seqS d (.done 7)).flow 1 d.a).st ≠ .idle) ∧
    ((roleS (verbA .mark 5)).rx 1).flows[0]?.isSome = true ∧
    (let s := (roleS (verbA .move 0)).setAxis 0 31 { (roleS (verbA .move 0)).axisSt 0 31 with st := .run }
     s.pgThere 0 = true ∧ s.targetOk 0 0 0x3F800000 = true ∧ s.moveReady 0 0 = true ∧ s.keyStopped = false ∧ (roleS (verbA .move 0)).moveReady 0 0 = false) := by
  decide +kernel

theorem wit_VerbsResolveAsTheirRowsSay_delays :
    (let e : DelayEntry := { due := 9, flow := 0, verb := 0 }
     let s : State := { seqS (verbA .delay 5) .flight with seqs := [(1, { delays := [e] })] }
     (s.seq 1).delays = [e] ∧ (s.rx 1).verbs[e.verb]? = some (verbA .delay 5) ∧ e.verb ≠ 16384) ∧
    (let e : DelayEntry := { due := 9, flow := 0, verb := 16384 }
     let s : State := { seqS (verbA .delay 5) .flight with seqs := [(1, { delays := [e] })] }
     (s.seq 1).delays = [e] ∧ e.verb = 16384 ∧ e.flow = 0 ∧ e.flow ≠ 1) ∧
    ((roleS (verbA .delay 5)).seq 1).delays = [] ∧ (∀ op ∈ [VerbOp.wait, .ramp], ((roleS (verbA op 5)).rx 1).verbs[0]? = some (verbA op 5)) := by
  decide +kernel

theorem wit_FlowCommandsFollowTheStateTable :
    let s := roleS (verbA .set 0)
    flowRefBad 2048 = false ∧ idDev 2048 = s.ownDev ∧ s.flowThere 2048 = true ∧
    (∀ op ∈ [0x0401, 0x0402, 0x0403, 0x0404, 0x0405, 0x0406, 0x0407], Admitted s op) ∧ badCount [1, 2048] 64 = (false, .invalid, 0) ∧
    State.reset.keyStopped = true ∧ s.keyStopped = false ∧ (∀ op ∈ [0x0401, 0x0402, 0x0403, 0x0404, 0x0405, 0x0406], s.stoppedNow op = false) ∧
    (s.flow 1 0).st = .idle ∧ ((s.rx 1).named 0 10).map (·.retired) = some false ∧ (s.flowOutcome 0x0401 1 0 10).1 = .ok ∧
    ((seqS (verbA .set 0) .waiting).flow 1 0).st = .running := by
  unfold Admitted; decide +kernel

theorem wit_FlowCommandsLatch :
    let s := roleS (verbA .set 0)
    flowRefBad (2 ^ 25) = true ∧ flowRefBad 2049 = false ∧ s.flowThere 2049 = false ∧ 65536 ≤ argN [2048, 65536] 1 ∧ flowRefBad (3 * 2 ^ 17) = false ∧ idDev (3 * 2 ^ 17) ≠ s.ownDev ∧ 44 * 1 ≤ r5.bufLen := by
  decide +kernel

theorem wit_FlowOutcomesFollowTheTable :
    (∀ st ∈ [FlowSt.idle, .running, .holding, .held, .aborting, .disabled], ((({ roleS (verbA .set 0) with seqs := [(1, { flows := [(0, { st := st })] })] } : State).flow 1 0).st = st)) ∧
    (∀ op ∈ [0x0401, 0x0402, 0x0403, 0x0404, 0x0405, 0x0406], (roleS (verbA .set 0)).stoppedNow op = false) ∧ ((roleS (verbA .set 0)).rx 1).named 0 11 = none := by
  decide +kernel

theorem wit_BitInstructionsFollowTheirRows :
    let s := roleS (verbA .set 0)
    s.logicSec 2 = some logicA ∧ wArea (BitVec.ofNat 32 (2 ^ 24 + 63)) ∈ [0, 1, 2, 3] ∧ (∃ w : Word, wArea w = 1 ∧ wIdx w = 63) :=
  ⟨by decide +kernel, by decide +kernel, by
    refine ⟨BitVec.ofNat 32 (0x3F + 2 ^ 20), ?_⟩
    decide +kernel⟩

theorem wit_WordAndObjectInstructionsFollowTheirRows :
    let q := (roleS (verbA .set 0)).logic 2
    q.obj logicA 0 = .timer { pt := 100 } ∧ q.obj logicA 1 = .counter { cv := 0, pv := 3 } ∧ logicA.kind 1 = .ctu ∧ q.obj logicA 2 = .edge {} ∧
    wBit 0 = 0 ∧ (∃ w : Word, wBit w ≠ 0) ∧ 0 ≤ (0x7FFFFFFF : Word).toInt ∧ (0x80000000 : Word).toInt < 0 :=
  ⟨by decide +kernel, by decide +kernel, by decide +kernel, by decide +kernel, by decide +kernel, ⟨BitVec.ofNat 32 0xFFFFFFFF, by decide +kernel⟩, by decide, by decide⟩

/-- The logic cell with given objects and state. -/
def Sys2Proof.Tests.lgS (kinds : List ObjKind) (q : LogicState) : State :=
  let x : LogicSec := { logicA with objects := kinds.map (fun k => { objId := 5, kind := k, msBase := false, outageAdd := false, warmEdge := false, p0 := 3, p1 := 0 }) }
  let s := runImg { ptImg with roles := [roleLoop, roleSeq, roleLogic], logics := [(2, x)] }
  { s with logics := [(2, q)] }

theorem wit_BitInstructionsFollowTheirRows_stack :
    ((lgS [.ton] { scan := { stack := [(true, .and)], calls := [4] } }).logic 2).scan.stack = (true, .and) :: [] ∧
    ((lgS [.ton] { scan := { stack := [(true, .and)], calls := [4] } }).logic 2).scan.calls = 4 :: [] ∧ (lgS [.ton] {}).logicSec 3 = none := by
  decide +kernel

theorem wit_WordAndObjectRows_counters :
    ∀ k ∈ [ObjKind.ctu, .ctd, .ctud], ∀ b ∈ [true, false], let s := lgS [k] { scan := { acc := b, stack := [(b, .none)] } }
      ∃ x : LogicSec, s.logicSec 2 = some x ∧ x.kind 0 = k ∧ (∃ c : CounterSt, (s.logic 2).obj x 0 = .counter c) ∧ (s.logic 2).scan.acc = b ∧ (s.logic 2).scan.stack = (b, .none) :: [] := by
  intro k hk b _
  refine ⟨_, rfl, rfl, ?_⟩
  simp only [List.mem_cons, List.not_mem_nil, or_false] at hk
  rcases hk with rfl | rfl | rfl <;> exact ⟨⟨_, rfl⟩, rfl, rfl⟩

theorem wit_LogicCommandsAnswerOrLatch :
    let s := roleS (verbA .set 0)
    (∀ op ∈ [0x0501, 0x0502, 0x0503, 0x0504, 0x0505, 0x0506], Admitted s op) ∧ badCount [1, 4096] 64 = (false, .invalid, 0) ∧
    taskRefBad 4096 = false ∧ idDev 4096 = s.ownDev ∧ s.taskThere 4096 = true ∧ s.logicSec (idCell 4096) = some logicA ∧
    areaSize logicA 1 = 64 / 32 ∧ 15 + 1 ≤ areaSize logicA 2 ∧ areaSize logicA 2 < 15 + 2 ∧ logicA.objIndex 5 = some 0 ∧ isTimer (logicA.kind 0) = true ∧ logicA.objIndex 6 = some 1 ∧ isCounter (logicA.kind 1) = true ∧
    isTimer (logicA.kind 1) = false ∧ isTimer (logicA.kind 2) = false ∧ isCounter (logicA.kind 2) = false ∧ logicA.objIndex 9 = none ∧ taskRefBad (2 ^ 25) = true ∧ taskRefBad 4097 = false ∧ s.taskThere 4097 = false ∧
    taskRefBad (3 * 2 ^ 17) = false ∧ idDev (3 * 2 ^ 17) ≠ s.ownDev := by
  unfold Admitted; decide +kernel

theorem wit_LatchedLogicCommandsAct :
    let s := roleS (verbA .set 0)
    (∀ op ∈ [0x0502, 0x0503, 0x0506], s.stoppedNow op = false) ∧ State.reset.stoppedNow 0x0503 = true ∧ s.logicSec 2 = some logicA ∧ logicA.tasks[0]?.isSome = true ∧
    ((s.logic 2).task logicA 0).enabled = true ∧
    ((({ s with logics := [(2, (s.logic 2).onTask logicA 0 (fun t => { t with enabled := false }))] } : State).logic 2).task logicA 0).enabled = false ∧ logicA.objIndex 5 = some 0 ∧ (s.logic 2).obj logicA 0 = .timer { pt := 100 } ∧ (s.logic 2).obj logicA 1 = .counter { cv := 0, pv := 3 } := by
  decide +kernel

theorem wit_KeySamplesAgreeAPosition :
    keyCode 1 2 ≠ none ∧ keyCode 0 0 = none ∧
    (let s : State := { runS with key := { runS.key with run := 2, runCode := (keyCode 1 2).getD 0 } }
     s.key.run = 2 ∧ keyCode 1 2 = some s.key.runCode ∧ runS.key.run < 2) ∧
    (let s : State := { runS with key := { runS.key with pending := some 3, pendingTick := 0 }, time := { runS.time with run := 1 } }
     s.key.pending = some 3 ∧ s.key.pendingTick < s.runNs ∧ (3 : Nat) < 4 ∧ ({ s with time := runS.time } : State).runNs ≤ s.key.pendingTick) ∧
    ({ runS with key := { runS.key with between := true } } : State).key.between = true ∧ ({ runS with key := { runS.key with between := false } } : State).key.between = false := by
  decide +kernel

/-- A device whose historian has one sealed segment, one policy and one group. -/
def Sys2Proof.Tests.histS (st : SegSt) : State :=
  let s := roleS (verbA .set 0)
  { s with hist := { s.hist with
    segs := [(0, { st := st, seq := 0 }), (1, { st := .filling, seq := 1 })]
    idx := 1
    nextSeq := 2
    policies := [{ policy := 0, mode := 1, sdiv := 1, sphase := 0, bound := 0, maxGap := 0 }, { policy := 1, mode := 0, sdiv := 1, sphase := 0, bound := 0, maxGap := 0 }]
    groups := [{ cell := 0, sdiv := 1, sphase := 0, slots := [0] }] } }

theorem wit_HistorianCommandsKeepTheRing :
    let s := histS .sealed
    (∀ op ∈ [0x0601, 0x0602, 0x0603, 0x0604, 0x0605, 0x0606, 0x0607], Admitted s op) ∧
    s.hist.findSeq 0 = some (0, { st := .sealed, seq := 0 }) ∧ ({} : SegState).bytes ≤ r5.bufLen ∧ s.hist.drains.length < 4 ∧ s.hist.seqAge 0 = some 0 ∧
    (∀ e ∈ s.hist.sealedSegs, e.2.st ≠ .draining) ∧ (s.hist.seg s.hist.idx).st = .filling ∧
    (({ s with hist := { s.hist with idx := 0 } } : State).hist.seg 0).st ≠ .filling ∧
    badCount [1, 0] 256 = (false, .invalid, 0) ∧ badCount [1, 0] 64 = (false, .invalid, 0) ∧ 0 < s.hist.groups.length ∧ 0 < s.hist.policies.length ∧
    (s.hist.policies[0]?).map (·.mode) = some 1 ∧ boundOk 1 0x3F800000 8 = true ∧ boundOk 1 0x3F800000 7 = false ∧ boundOk 1 0xBF800000 8 = false ∧
    24 * s.hist.segs.length ≤ r5.bufLen ∧ (s.hist.segs.map (fun e => e.2.seq)).Nodup := by
  unfold Admitted; decide +kernel

theorem wit_HistorianCommandsKeepTheRing_drain :
    let s : State := { histS .draining with hist := { (histS .draining).hist with drains := [(0, r5)] } }
    s.hist.drains.find? (fun e => e.1 = 0) = some (0, r5) ∧ goes (exec (.drainComplete 0) s) (fun t => t.hist.drains == [] && (t.hist.seg 0).drained) = true := by
  decide +kernel

/-- A point preset without a hold-off. -/
def Sys2Proof.Tests.presetA : PresetDef :=
  { preset := 0, srcKind := 2, trig := 0, src := 0, dec := 1, cond := 0, holdMode := 0, l1 := 0, l2 := 0, w1 := 0, w2 := 0, pre := 2, post := 3, holdoff := 0, pin := 0xFF, pinEdge := 0,
    meas := false, rearm := false }

/-- An acquisition unit that admits alignment. -/
def Sys2Proof.Tests.unitA : UnitDef :=
  { unit := 0, start := 0, preset := 0, bufs := 2, group := 0xFF, master := false, align := true, publish := false, subscribe := false, areaBase := 0, bufBytes := 4096, alignCh := 0 }

/-- A device with one acquisition unit in a state. -/
def Sys2Proof.Tests.acqS (x : AcqUnit) : State :=
  let s := runImg { ptImg with acq := some { units := [unitA], presets := [presetA] } }
  { s with acq := { s.acq with units := [(0, x)] }, time := { s.time with n := 100, run := 1000 } }

theorem wit_AcquisitionCommandsAct :
    let s := acqS { st := .armed, preset := some presetA }
    let r := acqS { st := .idle, preset := some presetA }
    OwnUnit s 0 unitA ∧ (∀ op ∈ [0x0701, 0x0702, 0x0703, 0x0704, 0x0705, 0x0706, 0x0707, 0x0708, 0x0709], Admitted s op) ∧ s.rearmDiffers 0 = false ∧ s.notMaster 0 = false ∧
    ((s.unit 0).open_ = true ∧ (s.unit 0).pre = []) ∧ (r.unit 0).open_ = false ∧
    (s.acqSec = some { units := [unitA], presets := [presetA] } ∧ fits (some unitA) presetA = true ∧ r.unitBusy 0 = false) ∧
    (unitA.align = true ∧ s.stampD (arg64 [0, 5, 0] 1) ≤ clockNs s.time.d + 2000000000 ∧ arg64 [0, 5, 0] 1 % 2 ^ 30 < 1000000000) ∧ 24 * 64 ≤ r5.bufLen := by
  unfold OwnUnit Admitted; decide +kernel

/-- A preset record as ACQ_CONFIG carries it, in words. -/
def Sys2Proof.Tests.presetWords : List Nat :=
  0 :: [2 * 2 ^ 16, 0, 1, 0, 0, 0, 0, 2, 3, 0, 0xFF, 0, 0, 0, 0, 0]

theorem wit_AcquisitionCommandsAct_config :
    let p := presetOf (slice (argBytes presetWords 1) 0 64)
    let s := acqS { st := .idle }
    p.srcKind = 2 ∧ fits (some unitA) p = true ∧ s.img.run.isSome = true ∧ presetRanges (slice (argBytes presetWords 1) 0 64) p (floatSrc ptImg.points p) = true ∧
    srcOk ptImg.points none s.ownDev p = true ∧ s.unitBusy 0 = false := by
  decide +kernel

theorem wit_AcquisitionCommandsAct_records :
    let y : AcqRecord := { seq := 0, preset := presetA, presetIdx := 0, ready := true }
    let s := acqS { st := .waitBuf, records := [y], recSeq := 1 }
    (s.unit 0).find 0 = some y ∧ y.ready = true ∧ y.reading = false ∧ s.acq.reads.length < 2 ∧ recordSize y.preset ≤ r5.bufLen ∧ recAge (s.unit 0) 0 = some 0 ∧
    (({ s with acq := { s.acq with reads := [(0, 0, r5)] } } : State).acq.reads = [((0 : Fin 24).val, 0, r5)]) ∧
    (let z := acqS { st := .holdoff, records := [{ y with ready := false }], recSeq := 1 }
     ((z.unit (0 : Fin 24).val).records.find? (fun x => !x.ready)) = some { y with ready := false }) := by
  decide +kernel

/-- An entry without gain and offset. -/
def Sys2Proof.Tests.entryA : EntryDef := { input := 0, diff := false, gain := 0x3F800000, offset := 0 }

/-- A converter with one sequence entry and one urgent entry. -/
def Sys2Proof.Tests.convA : ConvDef := { conv := 0, enable := true, len := 1, align := 0, urgCount := 1, urgPin := 0xFF, urgEdge := 0, entries := [entryA], urgent := [entryA] }

/-- A quadrature channel with an index. -/
def Sys2Proof.Tests.quadA : EncDef := { ch := 0, mode := 1, invert := false, gray := false, parity := false, index := true, filter := 0, bits := 0, clkKhz := 0 }

/-- A device with a converter, a quadrature and an SSI channel, its analog supply good. -/
def Sys2Proof.Tests.convS : State :=
  let s := runImg { ptImg with conv := some { convs := [convA, { convA with conv := 1, enable := false }], dacs := [], encs := [quadA, { quadA with ch := 1, mode := 2, index := false, bits := 24, parity := true, clkKhz := 1000 }], pins := [] } }
  { s.wr Reg.ADC_ROT_READY 1 with conv := { s.conv with vanaLow := false } }

theorem wit_ConverterBlockFollowsItsRows :
    let k : Conversion := { entry := 0, urgent := false, run := 0, dNs := 0, n := 0, disp := false, sampled := 0 }
    let s : State := { convS with conv := { convS.conv with convs := [(0, { cur := some k })] } }
    (s.cv 0).cur = some k ∧ s.cvDef 0 = some convA ∧ ((s.cv 0).cur.map (·.urgent)) = some false ∧ convS.conv.vanaLow = false ∧ State.reset.conv.vanaLow = true ∧
    convA.enable = true ∧ (convS.cv 0).busy = false ∧ (convS.cv 0).pend = false ∧ (convS.cvDef 1).map (·.enable) = some false ∧ convA.urgCount ≠ 0 ∧ convS.flag Reg.ADC_ROT_READY = true ∧
    convS.flag Reg.ADC_ROT_DEGRADED = false ∧ (convS.cv (convS.rd Reg.ADC_ROT_NEXT)).busy = false ∧ convS.conv.rot.misses = 0 ∧ convS.rd Reg.ADC_ROT_CAL_CORE ≤ 16 := by
  decide +kernel

theorem wit_ConverterBlockFollowsItsRows_encoders :
    (({ convS with conv := { convS.conv with dacs := [(15, { checkDue := true, badRun := 2 })] } } : State).conv.dacs.at' 15 {}) = { checkDue := true, badRun := 2 } ∧
    convS.encDef 0 = some quadA ∧ quadA.mode = 1 ∧ quadA.index = true ∧ (convS.encDef 1).map (fun d => (d.mode, d.bits, d.parity)) = some (2, 24, true) ∧
    (convS.enc 0).a = false ∧ (convS.enc 0).b = false ∧
    goes (exec (.encEdge 0 true false) convS) (fun t => decide ((t.enc 0).count = 1 ∨ (t.enc 0).count = 0xFFFFFFFF)) = true ∧
    ((convS.setEnc 1 { lowBefore := some true }).enc 1).lowBefore = some true ∧ oddOnes 7 = true ∧ oddOnes 3 = false := by
  decide +kernel

theorem wit_ConverterCommandsAnswer :
    (∀ op ∈ [0x0801, 0x0802, 0x0803, 0x0804, 0x0805, 0x0806], Admitted convS op ∨ Admitted (convS.wr Reg.GLB_KEY_EFFECTIVE 3) op) ∧ 288 ≤ r5.bufLen ∧
    convS.cvDef (argN [0] 0) = some convA ∧ convS.flag Reg.ADC_ROT_DEGRADED = false ∧ bitOf (convS.rd Reg.ADC_CORE_FAIL) 16 = false ∧ badCount [1, 31] 32 = (false, .invalid, 0) ∧
    convS.encDef (argN [0, 5] 0) = some quadA ∧ convS.encInUse 0 = false ∧ (∃ c, convS.served 0 = some c ∨ convS.served 0 = none) := by
  refine ⟨by unfold Admitted; decide +kernel, by decide +kernel, by decide +kernel, by decide +kernel, by decide +kernel, by decide +kernel, by decide +kernel, by decide +kernel, 0, ?_⟩
  decide +kernel

theorem wit_HistorianCommandsKeepTheRing_others :
    let s := histS .sealed
    let d := histS .draining
    let set (l : List (Nat × F32 × Nat × CmdRef)) : State := { s with hist := { s.hist with sets := l } }
    let of (i : Nat) : List (Nat × F32 × Nat × CmdRef) := [(i, 0x3F800000, 8, r5)]
    s.hist.findSeq 9 = none ∧ ({ r5 with bufLen := 63 } : CmdRef).bufLen < ({} : SegState).bytes ∧ d.hist.findSeq 0 = some (0, { st := .draining, seq := 0 }) ∧
    4 ≤ ({ s.hist with drains := List.replicate 4 (0, r5) } : HistState).drains.length ∧ s.hist.drains.find? (fun e => e.1 = (65535 : Fin 65536).val) = none ∧
    s.hist.seqAge 1 = none ∧ (∃ e ∈ d.hist.sealedSegs, e.2.seq = 0 ∧ e.2.st = .draining) ∧ d.hist.seqAge 0 = some 0 ∧ badCount [0] 256 = (true, .invalid, 0) ∧ badCount [0] 64 = (true, .invalid, 0) ∧
    (([2, 0, 5] : List Nat).drop 1).take (argN [2, 0, 5] 0) = [0] ++ 5 :: [] ∧ badCount [2, 0, 5] 256 = (false, .invalid, 0) ∧ badCount [2, 0, 5] 64 = (false, .invalid, 0) ∧
    (∀ m ∈ [0], m < s.hist.groups.length ∧ m < s.hist.policies.length) ∧ s.hist.groups.length ≤ 5 ∧ s.hist.policies.length ≤ 5 ∧ ({ r5 with bufLen := 23 } : CmdRef).bufLen < (segRow { seq := 0 }).length ∧
    s.hist.policies[argN [2] 0]? = none ∧ (set (of 0)).keyStopped = false ∧ ((set (of 0)).wr Reg.GLB_KEY_EFFECTIVE 0).keyStopped = true ∧ ((set (of 0)).wr Reg.GLB_KEY_EFFECTIVE 0).hist.sets = of 0 ∧
    (set (of 5)).hist.policies[5]? = none ∧ boundOk 1 0x3F800000 8 = true := by
  decide +kernel

/-- A device with one acquisition unit in a state, the unit and its preset as given. -/
def Sys2Proof.Tests.acqU (d : UnitDef) (p : PresetDef) (x : AcqUnit) : State :=
  let s := runImg { ptImg with acq := some { units := [d, { d with unit := 1, master := true, alignCh := 1 }], presets := [p, { p with preset := 1, pre := 4096 }] } }
  { s with acq := { s.acq with units := [(0, x), (1, { st := .idle, preset := some { p with rearm := true } })] }, time := { s.time with n := 100, run := 1000 } }

theorem wit_AcquisitionCommandsAct_refused :
    let g := acqU { unitA with group := 0 } presetA { st := .armed, preset := some presetA }
    let s := acqS { st := .armed, preset := some presetA }
    OwnUnit g 0 { unitA with group := 0 } ∧ g.notMaster 0 = true ∧ OwnUnit g 1 { unitA with group := 0, unit := 1, master := true, alignCh := 1 } ∧ g.notMaster 1 = false ∧ g.rearmDiffers 1 = true ∧
    g.armSet 1 = [0, 1] ∧ ((acqS { st := .post, cur := some { preset := presetA, presetIdx := 0 } }).unit 0).st = .post ∧
    (g.acqSec.map (fun x => (x.presets[2]?.isSome, (x.presets[1]?).map (fun p => fits (some { unitA with group := 0 }) p)))) = some (false, some false) ∧ s.unitBusy 0 = true ∧
    fits (some unitA) { presetA with pre := 4096 } = false ∧ { unitA with align := false }.align = false ∧
    acqRefBad (2 ^ 25) = true ∧ acqRefBad 24 = true ∧ acqRefBad 23 = false ∧ s.unitDef (23 % 32) = none ∧ idDev 23 = s.ownDev ∧ acqRefBad (3 * 2 ^ 17) = false ∧ idDev (3 * 2 ^ 17) ≠ s.ownDev ∧
    s.joined 3 = false ∧ (s.wr Reg.LNK_MEMBER_JOINED 8 [0]).joined 3 = true := by
  unfold OwnUnit; decide +kernel

theorem wit_AcquisitionCommandsAct_triggers :
    let y (r : Nat) : Sample := { word := 0, run := r, dNs := r, n := 0 }
    let s := acqS { st := .armed, preset := some presetA, pre := [y 10, y 4000, y 4001] }
    let f := fireNow s
    (s.unit 0).open_ = true ∧ f.run = 4000 ∧ reached f (y 10) = false ∧ reached f (y 4000) = true ∧ (s.unit 0).pre = [y 10] ++ y 4000 :: [y 4001] ∧
    s.stampD (arg64 [0, 999999999, 0] 1) % 1000000000 = 999999999 ∧ 1000000000 ≤ arg64 [0, 1000000000, 0] 1 % 2 ^ 30 ∧ clockNs s.time.d + 2000000000 < s.stampD (arg64 [0, 0, 1] 1) ∧
    (let far := acqS { st := .armed, preset := some presetA, pre := [y (10 ^ 9)] }
     far.stampD (arg64 [0, 5, 0] 1) + far.interval presetA ≤ 10 ^ 9) ∧
    (s.unit 0).preset = some presetA ∧
    (∀ k ∈ [2, 3], let c : AcqRecord := { preset := presetA, presetIdx := 0, post := List.replicate k (y 1) }
      ((acqS { st := .post, cur := some c }).unit 0).cur = some c ∧ (c.post.length < c.preset.post ↔ k = 2)) ∧ presetA.rearm = false := by
  decide +kernel

theorem wit_AcquisitionCommandsAct_reads :
    let y (ready reading : Bool) : AcqRecord := { seq := 0, preset := presetA, presetIdx := 0, ready := ready, reading := reading }
    let s (x : AcqRecord) : State := acqS { st := .waitBuf, records := [x], recSeq := 1 }
    ((s (y true false)).unit 0).find 1 = none ∧ ((s (y false false)).unit 0).find 0 = some (y false false) ∧ ((s (y true true)).unit 0).find 0 = some (y true true) ∧
    ({ r5 with bufLen := recordSize presetA - 1 } : CmdRef).bufLen < recordSize presetA ∧ recAge ((s (y true false)).unit 0) 1 = none ∧
    (∃ z ∈ ((s (y true true)).unit 0).records, Older ((s (y true true)).unit 0) 0 z ∧ z.reading = true) ∧ 64 < argN [0, 0, 65] 2 ∧ argN [0, 0, 64] 2 ≤ 64 ∧
    (s (y true false)).acq.reads.find? (fun e => e.1 = (23 : Fin 24).val) = none ∧ ((s (y true false)).unit (0 : Fin 24).val).records.find? (fun z => !z.ready) = none := by
  refine ⟨by decide +kernel, by decide +kernel, by decide +kernel, by decide +kernel, by decide +kernel,
    ⟨{ seq := 0, preset := presetA, presetIdx := 0, ready := true, reading := true }, by decide +kernel, ⟨0, by decide +kernel, by decide +kernel⟩, rfl⟩, by decide +kernel, by decide +kernel, by decide +kernel, by decide +kernel⟩

/-- The device with converters, converter 0 in a state. -/
def Sys2Proof.Tests.cvS (x : ConvState) : State := { convS with conv := { convS.conv with convs := [(0, x)] } }

theorem wit_ConverterBlockFollowsItsRows_conversions :
    let k (urgent : Bool) : Conversion := { entry := 0, urgent := urgent, run := 0, dNs := 0, n := 0, disp := true, sampled := 0 }
    let early : State := { cvS { cur := some (k false) } with time := { convS.time with run := 0 } }
    let late : State := { cvS { cur := some (k false) } with time := { convS.time with run := 234 } }
    (convS.cv 0).cur = none ∧ (convS.cv 2).cur = none ∧ convS.cvDef 2 = none ∧ ((cvS { cur := some (k true) }).cv 0).cur = some (k true) ∧ (k true).entry + 1 = convA.urgCount ∧
    (k true).entry + 1 ≠ { convA with urgCount := 2 }.urgCount ∧ (k false).urgent = false ∧
    convS.encDef 2 = none ∧ (convS.encDef 1).map (·.mode) = some 2 ∧ (convS.wr Reg.ADC_ROT_READY 0).flag Reg.ADC_ROT_READY = false ∧ ((cvS { cur := some (k false) }).cv 0).cur.isSome = true ∧
    (convS.cv 0).old = none ∧ TriggerOn convS convA ∧ ¬TriggerOn convS { convA with enable := false } ∧ ((cvS { pend := true }).cv 0).pend = true ∧ ((cvS { busy := true }).cv 0).busy = true ∧
    early.runNs + 16 < (k false).sampled + 250 ∧ (k false).sampled + 250 ≤ late.runNs + 16 ∧ (early.cv 0).cur = some (k false) := by
  unfold TriggerOn; decide +kernel

theorem wit_ConverterBlockFollowsItsRows_rotation :
    let deg := convS.wr Reg.ADC_ROT_DEGRADED 1
    let rot (r : Rotation) : State := { convS with conv := { convS.conv with rot := r } }
    State.reset.flag Reg.ADC_ROT_READY = false ∧ deg.flag Reg.ADC_ROT_DEGRADED = true ∧ ((cvS { busy := true }).cv ((cvS { busy := true }).rd Reg.ADC_ROT_NEXT)).busy = true ∧
    convS.flag Reg.ADC_ROT_READY = true ∧ convS.flag Reg.ADC_ROT_DEGRADED = false ∧ (rot { misses := 1 }).conv.rot.misses ≠ 0 ∧ convS.rd Reg.ADC_ROT_CAL_CORE = 16 ∧
    (rot { badCal := [(16, 1)] }).conv.rot.badCal.at' 16 0 + 1 = 2 ∧ convS.conv.rot.badCal.at' 16 0 + 1 = 1 ∧
    (convS.conv.dacs.at' (15 : Fin 16).val {}).checkDue = false ∧ 256 < 257 ∧ ¬256 < 256 := by
  decide +kernel

theorem wit_ConverterBlockFollowsItsRows_channels :
    let e1 (l : Option Bool) : State := convS.setEnc 1 { lowBefore := l }
    (false = (convS.enc 31).a ∧ convS.encDef 31 = none) ∧ State.reset.conv.vanaLow = true ∧ (convS.encDef 1).map (fun d => (d.mode, d.index)) = some (2, false) ∧
    ((e1 none).enc 1).lowBefore = none ∧ ((e1 (some false)).enc 1).lowBefore = some false ∧ ((e1 (some true)).enc 1).seen = false ∧
    ((convS.setEnc 1 { lowBefore := some true, seen := true, pos := 2 ^ 24 - 1 }).enc 1).seen = true ∧ signed 24 (0 + 2 ^ 24 - (2 ^ 24 - 1)) = 1 ∧
    (let s := convS.setEnc 0 { preset := some (7, r5) }
     (s.enc 0).preset = some (7, r5) ∧ s.keyStopped = false ∧ (s.wr Reg.GLB_KEY_EFFECTIVE 0).keyStopped = true ∧ ((s.wr Reg.GLB_KEY_EFFECTIVE 0).enc 0).preset = some (7, r5)) := by
  decide +kernel

theorem wit_ConverterCommandsAnswer_refused :
    15 < argN [16] 0 ∧ ({ r5 with bufLen := 287 } : CmdRef).bufLen < 288 ∧ (convS.cvDef (argN [1] 0)).map (·.enable) = some false ∧ convS.cvDef (argN [2] 0) = none ∧ 16 < argN [17] 0 ∧
    (convS.wr Reg.ADC_ROT_DEGRADED 1).flag Reg.ADC_ROT_DEGRADED = true ∧ bitOf ((convS.wr Reg.ADC_CORE_FAIL (2 ^ 16)).rd Reg.ADC_CORE_FAIL) 16 = true ∧ convS.served 0 = some 0 ∧ convS.served 16 = none ∧
    badCount [0] 32 = (true, .invalid, 0) ∧ (([2, 31, 32] : List Nat).drop 1).take (argN [2, 31, 32] 0) = [31] ++ 32 :: [] ∧ badCount [2, 31, 32] 32 = (false, .invalid, 0) ∧
    (convS.encDef (argN [1] 0)).map (·.mode) = some 2 ∧ convS.encDef (argN [2] 0) = none ∧ 31 < argN [32] 0 ∧ ({ r5 with bufLen := 63 } : CmdRef).bufLen < 64 ∧
    (let s : State := { convS with img := { convS.img with run := convS.img.run.map (fun i => { i with axes := [(0, { axisA with axis := 0 })] }) } }
     (s.setAxis 0 0 { s.axisSt 0 0 with st := .run }).encInUse 0 = true) := by
  decide +kernel

/-- The running device with a splice prepared from slot B. -/
def Sys2Proof.Tests.spliceS (c : Option Commit) : State :=
  let s := runImg ptImg
  { s with img := { s.img with splice := some { img := ptImg, slot := true, cert := { digest := [], sec := 0, vcore := 0, tj := 0, util := 0, cells := [] }, changed := [], map := [], mis := [], reads := [], commit := c } } }

theorem wit_ImageCommandsAndTheParser :
    let s := runImg ptImg
    (∀ op ∈ [0x0101, 0x0102, 0x0103, 0x0104, 0x0105, 0x0106, 0x0107, 0x0108, 0x0109], Admitted s op) ∧
    (512 ≤ ({ r5 with bufLen := 512 } : CmdRef).bufLen ∧ 512 ≤ (argBytes (0 :: List.replicate 137 0) 10).length ∧ s.runsFrom false = true ∧ s.runsFrom true = false ∧ slotArg 0 = false ∧ slotArg 1 = true) ∧
    (s.img.splice = none ∧ (spliceS none).img.splice.isSome = true ∧ s.img.spliceLost = false) ∧
    arg64 [0, 0] 0 = 0 ∧ (spliceS none).time.n + 8 ≤ arg64 [8, 0] 0 ∧ arg64 [7, 0] 0 < (spliceS none).time.n + 8 ∧
    (s.img.report.digest.length = 16 ∧ 64 * s.img.report.recs.length ≤ r5.bufLen ∧ 1092 ≤ r5.bufLen) := by
  unfold Admitted; decide +kernel

theorem wit_ImageCommandsAndTheParser_commit :
    let s := spliceS (some { mark := 8, ref := some r5 })
    let t : State := { s with time := { s.time with n := 8 + 8 * 10000 } }
    ((spliceS none).img.splice.map (fun p => p.commit.isNone)) = some true ∧
    (t.img.splice.map (fun p => decide ((p.commit.map (fun c => (c.mark, c.ref))) = some (8, some r5)))) = some true ∧ ptImg.spliceTimeout = 0 ∧ 8 + 8 * 10000 ≤ t.time.n := by
  decide +kernel

/-- Bytes that are no image: the parse gives a reason. -/
theorem wit_ImageCommandsAndTheParser_refused :
    let j : LoadJob := { kind := .check, slot := false, bytes := List.replicate 512 0, ref := some r5 }
    let s : State := { runS with img := { runS.img with jobs := [j] } }
    s.img.jobs = [j] ∧ s.img.due = none ∧ (parseImg (s.loadEnv []) j.bytes s.img.poisoned).recs ≠ [] := by
  decide +kernel

/-- The modulus of a 3072-bit key made for these tests. -/
def Sys2Proof.Tests.testKey : List Byte :=
  beBytes 384 0xd5d04db6f0cab57dba3ac5f7c7aedcdd270d7a19944ebc95a52f70a47f01306cc5b89ff2dd41ac94c0e581b847759d2a8e4446921515f2abfb658fe55d1ce906400c59dec538862da08c36447917db1adc90e14d16fcdbd78bef030774774f8445b3f0791d43da285e37857b996e5a231b7709f776bac5ecaab7918ff528f4e561a244b548de9043a979aaaef5f0483133d3a737036443f7c77f3c222529c4f439dff1bf609874c5e6020b2409dd5184bdcc1604639812901104791e1e9bdca7f76d77947ce1fd0fbf8fbe00b8bfe77e58e1c29596ccf1e90e70ceafc443dbf87b06c3d0f5e3bd90b2e5ac7aafe154f293531ef75f3ec1c0f71d9024dd156a359cd1ed11dda9819180d1ea199f1f52702817fae8ec935c31265e7b5a2c6fd0666ffe45ee1b4a7cc238851c084ce3310a0a4e1ff1446f4d55f33ca98009e05830ac4bd3241a1620104ec59f3036fd2e5c75d1f75c84368b5cd2c867b471174a4e41178703777fe944b81dda776168ebc01206d820b0929bf53cb43ea1aaafb20d

/-- A worker's image without any cell in use, signed outside the model with that key (R39 to R44): header, one directory entry, the role map, and the signature block. -/
def Sys2Proof.Tests.goodImage : List Byte :=
  leBytes 4 0x4C435853 ++ leBytes 2 2 ++ leBytes 2 0x100 ++ leBytes 4 0x440 ++ leBytes 2 0x4830 ++ [0, 2, 1] ++ List.replicate 15 0 ++ leBytes 2 1 ++ leBytes 2 0 ++ leBytes 4 0x100 ++
  leBytes 4 0x240 ++ List.replicate 212 0 ++
  (leBytes 2 1 ++ [0xFF, 0] ++ leBytes 4 0x140 ++ leBytes 4 256 ++ leBytes 4 64 ++
    [0x53, 0x41, 0xe6, 0xb2, 0x64, 0x69, 0x79, 0xa7, 0x0e, 0x57, 0x65, 0x30, 0x07, 0xa1, 0xf3, 0x10]) ++ List.replicate 32 0 ++ List.replicate 256 0 ++
  beBytes 384 0x3d54252f23e6993d3199edd971a86aeaf8e0d94849f860f117766dee5c32d5c6a2f620a0c0052da7faec06eec742cf884f7d7e05d1dbb55e9c2bda689b2f105da580e149eceb8be4f2d0011cb7b72f7cb2beee1589aa4fd558fcd7c51b2c5e45457be6f72a013a99a544698ab605d2c491bfbc3a145a1acf96e4d9d4e9b15f9714cd10f6ec0123bf59b92c2880a85bd63dc2046f7553ac0ea6abc853d17ca39d85cefea568e44806f2aa17d076910f3528a0e93504c90ce6d24ae19d672f3b3ff03a20a5f4096b2cfbad93e75402f703c45ef2ede663ddff01984c17dd67f8c0065841f12670574c6849d725f67b3f74e90d427f7c8cc06a514161c3b0a6a4f0a02dbc63fa3b839fa79e460e1ed8562f6ff71753f77857cc3f1948bffedd0fd20f98ca842383b1462cc13b5e47e70e99538834c0bd0edde78ef7f9ba1f3381123bb8afa9c2158c73b10ca2ad8131d4208aca80b9f4adaa6e69da6f060ed7e523d33e616b61f2c34f64ee950574cadfcb3c16687f9369037806b9a47078ddf3bb ++ List.replicate 128 0

/-- A provisioned worker that holds that key in image slot 0, its parser at the bytes given. -/
def Sys2Proof.Tests.loadS (j : LoadJob) : State :=
  let s := runS.wr Reg.SEC_LC_STATE 2
  { s with sec := { s.sec with bank0 := some { seq := 1, body := { imgKeys := [testKey, [], [], []], lc := 2 } } }, img := { s.img with jobs := [j] } }

/-- The image passes every check of the parser and the certificate, and is refused where a byte of its role map differs. -/
theorem wit_ImageCommandsAndTheParser_admitted :
    let s := loadS { kind := .load, slot := false, bytes := goodImage, ref := some r5 }
    let p := parseImg (s.loadEnv []) goodImage s.img.poisoned
    (p.recs.isEmpty && p.img.dir.length == 1 && (certFaults (certAll p.img [] (s.physFor p.img.compat)) s.budgets (fun _ => 0)).isEmpty) = true ∧
    signatureOk (s.loadEnv []) (goodImage.set 0x150 1) = false ∧ s.img.due = none ∧ s.measWait = false := by
  decide +kernel

/-- The same image where the budgets are 0 fails the certificate alone, and as a splice of a running image of another role it is refused. -/
theorem wit_ImageCommandsAndTheParser_certificate :
    let w := certAll ({} : Img) [] ((List.range 64).map (fun c => c))
    (certFaults w (List.replicate 64 0) (fun _ => 0)).isEmpty = false ∧ (certFaults w (List.replicate 64 50000) (fun _ => 0)).isEmpty = true ∧
    (spliceFaults ptImg { ptImg with role := 2 }).isEmpty = false ∧ (spliceFaults ptImg ptImg).isEmpty = true ∧ changedCells ptImg ptImg = [] ∧ ({} : Img).compat = false := by
  decide +kernel

theorem wit_ImageCommandsAndTheParser_waits :
    let j (k : LoadKind) : LoadJob := { kind := k, slot := false, bytes := [], ref := some r5 }
    let s (k : LoadKind) : State := { runS with img := { runS.img with jobs := [j k] } }
    let due : DueImage := { img := {}, slot := false, kind := .load, ref := none, cert := { digest := [], sec := 0, vcore := 0, tj := 0, util := 0, cells := [] }, map := [], mis := [], reads := [] }
    runS.img.jobs = [] ∧ ({ s .load with img := { (s .load).img with due := some due } } : State).img.due.isSome = true ∧ (s .load).img.jobs = j .load :: [] ∧ (s .prepare).img.jobs = j .prepare :: [] ∧
    ({ s .load with fab := { runS.fab with measNext := some { startN := 0, forLoad := true } } } : State).measWait = true ∧ (s .load).measWait = false ∧ runS.img.run = none ∧
    (let t : State := { (spliceS none) with img := { (spliceS none).img with jobs := [j .prepare] } }
     t.img.run.isSome = true ∧ t.img.splice.isSome = true ∧ t.img.jobs = j .prepare :: []) ∧
    (let v : State := (runS.wr Reg.PWR_PMB_PRESENT 1).wr Reg.AGE_VCFG_VMAX 880
     v.canSet = true ∧ v.vset < v.vmax ∧ v.age.volt = none) ∧
    (parseImg (runS.loadEnv []) [] false).recs ≠ [] ∧ (parseImg (runS.loadEnv []) [] false).img.dir.isEmpty = true := by
  decide +kernel

theorem wit_ImageCommandsAndTheParser_refusals :
    let c : CertRecord := { digest := List.replicate 32 1, sec := 0, vcore := 0, tj := 0, util := 0, cells := [] }
    let s := runImg ptImg
    let one : State := { s with img := { s.img with report := { recs := [{ reason := 5 }] }, areaA := { record := some c } } }
    1 < argN [2] 0 ∧ 2 < argN [3] 0 ∧ ([] : List Nat).length < 1 ∧ ({ r5 with bufLen := 511 } : CmdRef).bufLen < 512 ∧ 67108864 < ({ r5 with bufLen := 67108865 } : CmdRef).bufLen ∧
    ((argBytes (0 :: List.replicate 9 0) 10).take ({ r5 with bufLen := 512 } : CmdRef).bufLen).length < 512 ∧
    ({ s with img := { s.img with spliceLost := true } } : State).img.spliceLost = true ∧ ([8] : List Nat).length < 2 ∧
    ((spliceS (some { mark := 8, ref := some r5 })).img.splice.map (fun p => p.commit.isSome)) = some true ∧ ({ s with time := { s.time with n := 8 + 8 * 10000 - 1 } } : State).time.n < 8 + 8 * 10000 ∧
    0 < ((one.img.report.recs.map (rejBytes one.img.report)).flatten).length ∧ (one.img.area one.img.slot).record = some c ∧ 1092 ≤ r5.bufLen ∧ ({ r5 with bufLen := 1091 } : CmdRef).bufLen < 1092 ∧ runS.img.run = none := by
  decide +kernel

theorem wit_MarginsVoltageAndTheRegulator :
    let m : Measurement := { startN := 0, cycles := 8 }
    let s : State := { runS with fab := { runS.fab with meas := some m } }
    Admitted runS 0x0F02 ∧ (Admitted runS 0x1002 ∨ Admitted maintS 0x1002) ∧ 1088 ≤ r5.bufLen ∧ s.fab.meas = some m ∧ 8 ≤ m.cycles ∧ m.probe = false ∧ s.img.run = none ∧ s.fab.measNext = none ∧
    s.fab.measProbe = none ∧ ({ m with cycles := 7 } : Measurement).cycles < 8 := by
  unfold Admitted; decide +kernel

theorem wit_MarginsVoltageAndTheRegulator_measured :
    let m (probe : Bool) : Measurement := { startN := 0, cycles := 8, probe := probe, counts := List.replicate 256 300 }
    let i := (runImg ptImg)
    let s (probe : Bool) : State := { i with fab := { i.fab with meas := some (m probe) } }
    let low : State := ((s false).wr Reg.CEL_CERT_BASE_W_BASE 50000 [0]).wr Reg.PWR_PMB_PRESENT 1
    runS.fab.meas = none ∧ (List.replicate 256 300).length = 256 ∧ ({ m false with cycles := 7 } : Measurement).cycles < 8 ∧ (s true).fab.meas = some (m true) ∧ (m true).probe = true ∧ (s false).img.run = some ptImg ∧
    failingCells (s false).certW ((List.range 64).map (fun c => budgetOf (ttOf (m false).counts c))) = [] ∧ failingCells low.certW ((List.range 64).map (fun c => budgetOf (ttOf (m false).counts c))) = [0] ∧
    low.age.volt = none ∧ low.forerunner = false ∧ low.canSet = true ∧ low.vset < low.vmax ∧ ({ r5 with bufLen := 1087 } : CmdRef).bufLen < 1088 := by
  decide +kernel

/-- The running device with a setpoint write of 700 mV pending since run time 0. -/
def Sys2Proof.Tests.voltS (f : VoltFor) (good : Nat) : State :=
  let s := runImg ptImg
  { s with age := { s.age with volt := some { for_ := f, target := 700, at_ := 0, good := good } }, time := { s.time with run := 5000000 } }

theorem wit_MarginsVoltageAndTheRegulator_volt :
    (voltS .raise 2).age.volt = some { for_ := .raise, target := 700, at_ := 0, good := 2 } ∧ (voltS .raise 2).fab.frozen = false ∧ (voltS .raise 1).age.volt.map (·.good) = some 1 ∧
    (voltS .boot 2).age.volt.map (·.for_) = some .boot ∧ (voltS .raise 2).age.probe = none ∧ 0 + 5000000 ≤ (voltS .raise 2).runNs ∧
    (({ voltS .raise 2 with time := { (voltS .raise 2).time with run := 4999999 } } : State).runNs < 5000000) ∧
    (runS.wr Reg.PWR_PMB_PRESENT 1).flag Reg.PWR_PMB_PRESENT = true ∧ runS.age.volt = none ∧ (31#8).toNat < 32 ∧ 32 ≤ (32#8).toNat ∧
    (runS.wr Reg.AGE_STAT_LOWER_HOLD 1).flag Reg.AGE_STAT_LOWER_HOLD = true ∧ runS.age.holdUntil ≤ runS.runNs ∧
    (({ runS with age := { runS.age with holdUntil := 1 } } : State).runNs < 1) ∧ 110 < (111#8).toInt ∧ ¬ 110 < (110#8).toInt := by
  decide +kernel

theorem wit_MarginsVoltageAndTheRegulator_ageing :
    let s := (runImg ptImg).wr Reg.GLB_CERT_STATUS_STATE 1
    s.forerunner = false ∧ s.age.probe = none ∧ Admitted s 0x0F03 ∧ s.img.run = some ptImg ∧ s.rd Reg.GLB_CERT_STATUS_STATE = 1 ∧ s.flag Reg.AGE_STAT_PMB_FAULT = false ∧
    (({ s with age := { s.age with swap := some (1, 2, 3, false) } } : State).age.swap = some (1, 2, 3, false)) ∧ Admitted s 0x0F01 ∧ 312 ≤ r5.bufLen ∧
    (let t := (s.wr Reg.AGE_MAP_MIGRATED 1 [63]).wr Reg.AGE_MAP_EXEC 5 [63]
     Admitted t 0x0F04 ∧ t.flag Reg.AGE_MAP_MIGRATED [argN [63] 0] = true ∧ t.age.migrations = [] ∧
     admitted (certOf ptImg (t.planMap.drop' 63) t.physOf 63) (t.budgets.getD 63 0) = true) := by
  unfold Admitted; decide +kernel

theorem wit_MarginsVoltageAndTheRegulator_refused :
    let s := (runImg ptImg).wr Reg.GLB_CERT_STATUS_STATE 1
    let f : State := { voltS .raise 2 with fab := { (voltS .raise 2).fab with frozen := true } }
    ((voltS .raise 2).age.volt.map (·.settled)) = some false ∧ f.fab.frozen = true ∧ f.age.volt.isSome = true ∧ runS.flag Reg.PWR_PMB_PRESENT = false ∧
    (({ voltS .probeUp 2 with age := { (voltS .probeUp 2).age with probe := some 0 } } : State).age.probe.isSome = true) ∧
    (({ runS with fab := { runS.fab with measTemp := some 20 } } : State).fab.measTemp = some 20 ∧ 5 < ((26#8).toInt - 20).natAbs ∧ ((25#8).toInt - 20).natAbs ≤ 5 ∧ runS.fab.measTemp = none) ∧
    ((s.wr Reg.AGE_STAT_PMB_FAULT 1).forerunner || decide ((s.wr Reg.AGE_STAT_PMB_FAULT 1).rd Reg.GLB_CERT_STATUS_STATE ≠ 1) || (s.wr Reg.AGE_STAT_PMB_FAULT 1).flag Reg.AGE_STAT_PMB_FAULT) = true ∧
    runS.img.run = none ∧ 64 ≤ argN [64] 0 ∧ argN [63] 0 < 64 ∧ s.flag Reg.AGE_MAP_MIGRATED [63] = false ∧ ({ r5 with bufLen := 311 } : CmdRef).bufLen < 312 := by
  decide +kernel

/-- A provisioned device with a pending proposal and the key at MAINTENANCE. -/
def Sys2Proof.Tests.secS (p : Option SecProposal) : State :=
  let s := (maintS.wr Reg.SEC_LC_STATE 2)
  { s with sec := { s.sec with proposal := p, bank0 := some { seq := 1, body := { authKeys := [[1], [2], [], []], lc := 2 } } } }

/-- A proposal to write a register. -/
def Sys2Proof.Tests.propA (kind : Nat) (second : Option SecondApproval) : SecProposal :=
  { kind := kind, args := leBytes 4 1 ++ leBytes 4 2 ++ [7, 9], digest := List.replicate 32 0, propSeq := 1, at_ := 0, second := second }

theorem wit_DeviceSecurityFollowsItsRows :
    let s := secS none
    (∀ op ∈ [0x0E01, 0x0E02, 0x0E03, 0x0E04, 0x0E05, 0x0E06, 0x0E08, 0x0E09], Admitted s op) ∧ Admitted maintS 0x0E07 ∧
    (s.proposalArgs [5, 240] = some (leBytes 4 240) ∧ s.proposalArgs [5, 241] = none ∧ s.proposalArgs [6] = some [] ∧ s.keyless = false ∧ s.sec.proposal = none ∧ 32 ≤ r5.bufLen) ∧
    (let t := secS (some (propA 3 none))
     let args := List.replicate 105 0
     t.sec.proposal = some (propA 3 none) ∧ (propA 3 none).digest = slice (argBytes args 0) 0 32 ∧ t.runNs < (propA 3 none).at_ + tenMinutes ∧ argN args 8 < 4 ∧
     (t.sys.authKeys.getD (argN args 8) []).isEmpty = false ∧ (propA 3 none).second = none ∧
     judge (t.secMay { propA 3 none with first := some (1, false) } false) = none ∧
     (let u : State := { t with time := { t.time with run := tenMinutes } }
      (propA 3 none).at_ + tenMinutes ≤ u.runNs)) ∧
    (∀ k ∈ [1, 2, 3, 5, 6], (secS (some (propA k (some { ref := r5, slot := 1 })))).sec.proposal = some (propA k (some { ref := r5, slot := 1 }))) := by
  unfold Admitted; decide +kernel

/-- A provisioning of two authority keys, one image key and an empty platform record. -/
def Sys2Proof.Tests.provWords : List Nat :=
  [2, 1] ++ List.replicate 96 1 ++ List.replicate 96 2 ++ List.replicate 96 3 ++ List.replicate 256 0

theorem wit_DeviceSecurityFollowsItsRows_provision :
    2 + 96 * (2 + 1) + 256 ≤ provWords.length ∧ platformOk (slice (argBytes provWords (2 + 96 * 3)) 0 1024) = true ∧ maintS.lc = 0 ∧
    distinct ((List.range 2).map (fun i => slice (argBytes provWords (2 + 96 * i)) 0 384) ++ (List.range 1).map (fun i => slice (argBytes provWords (2 + 96 * (2 + i))) 0 384)) = true := by
  decide +kernel

theorem wit_DeviceSecurityFollowsItsRows_rest :
    (({ runS with sec := { runS.sec with gateEnd := some 5 } } : State).sec.gateEnd = some 5) ∧ State.reset.flag Reg.SEC_DBG_OPEN = false ∧ (runS.wr Reg.SEC_DBG_OPEN 1).flag Reg.SEC_DBG_OPEN = true ∧
    (∀ k ∈ [1, 2], (runS.wr Reg.SEC_LC_FW_SLOT k).rd Reg.SEC_LC_FW_SLOT = k) ∧ 0x380 ≤ 4 * ((0x380 :: List.replicate (9 + 0xE0) 0).length - 10) ∧ 832 ≤ r5.bufLen ∧ 640 ≤ r5.bufLen := by
  decide +kernel

theorem wit_RecorderKeepsItsLog :
    runS.recd.log.length ≤ recCapacity ∧ runS.recd.crossing = [] ∧ runS.rd Reg.AGE_OPSEC_OP_SEC < 3599 ∧ (runS.wr Reg.AGE_OPSEC_OP_SEC 3599).rd Reg.AGE_OPSEC_OP_SEC = 3599 ∧
    (∀ op ∈ [0x0F10, 0x0F11, 0x0F12, 0x0F13, 0x0F14, 0x0F15], Admitted runS op ∨ Admitted maintS op) ∧ runS.recd.live.length ≤ 4096 ∧ hostCode 0xC00 = true ∧ hostCode 0xFFF = true ∧
    badCount [1, 4095] 64 = (false, .invalid, 0) ∧ (runS.recd.live.at' 4095 {}).bins.length = 16 ∧ argN [0, 64] 0 = runS.recd.baseSeq ∧ 8192 ≤ ({ r5 with bufLen := 8192 } : CmdRef).bufLen := by
  unfold Admitted; decide +kernel

/-- A 384-byte string as the argument words of a command carry it. -/
def Sys2Proof.Tests.wordsOf (b : List Byte) : List Nat := (recordsOf b 4 96).map (fun r => fieldLE r 0 4)

/-- The arguments of an approval by slot 0, signed outside the model with the key of the tests for PROP_SEQ 1, a digest of zeros and a die serial number of 0 (R495). -/
def Sys2Proof.Tests.approveWords : List Nat :=
  List.replicate 8 0 ++ [0] ++ wordsOf (beBytes 384 0x34c11bc28cfbdb27c46ee1fa953bd8f2df653bb38ac72ffb63d982c6cc2316ee1f2be66c0f58a4a1e22702b83adec5f30104631fb46f0c98b64d97dee4331f98a1d95e2c2a98a221a0baa69cf5406f53d9f5f337f08b2f11919971675a091beae02e733e97dccdbc3efa2b6d61f143d0ac18e859f3eee6292ff0b95d0e7138f012e985c19939a25a0b62e04848aabe535c14b3ec9ccd600b40a9a82931fadea25f77d24437fa6ddf2aed0ce6de3fd22c52d42a6736b54e5d8cabf9c5760e299b28cb546dc9b834c50a1e5d914754cee28c93e8887103b9bec089593fd0eaf939cfe19a3bf20adb2aa18fc24023175a5ebb0c87688687c03fcf5ed03d0c6fc0d307d43179b97bc3171bfe5750d1931cf7e64aa519d91be7df161333b872a83934fd10739e4c25ad18ce9f824aac83eec720a9557a0f8a81be1fd862225a9862308b9cdc61978d71d86988814b0e44fdea4a8f48dc9a2a6af52d986ccf69a1b148f7391eac49ce2f89f9d854f745173c0f4837249df4116c9c326f093eadcf8077)

/-- The part of DeviceSecurityFollowsItsRows that rests on a signature holds of a part whose serial number, a free value, is 0. -/
theorem wit_DeviceSecurityFollowsItsRows_signed : Config.dieSerial = 0 →
    let p := propA 3 none
    let s : State := { secS (some p) with sec := { (secS (some p)).sec with bank0 := some { seq := 1, body := { authKeys := [testKey, [2], [], []], lc := 2 } } } }
    Approves s p approveWords ∧ p.digest = slice (argBytes approveWords 0) 0 32 := by
  intro h
  unfold Approves State.approves approvalMsg dieSerialBytes
  rw [h]
  decide +kernel

/-- Firmware of version 7 of root 0, signed outside the model with the key of the tests (R484). -/
def Sys2Proof.Tests.goodFw : List Byte :=
  leBytes 4 0x57464C43 ++ [1, 0, 0, 0] ++ leBytes 4 7 ++ List.replicate 52 0 ++ testKey ++ List.replicate 64 0 ++
  beBytes 384 0x4c2f743e09b059ebc5f224ff948a3e4edfdac0b9052b7b884781fef8c52957cc3fa5d8eacc9ed6cc24e8fef92a8dae9276a14c25a5e727074604902a1fed8b705f2f3e589b1311aa88441d4e2fd0a2c1b77eb5321098f9c9473fbad9191a008b1048b1b8af03b60034cbe99780c11ad68217f654041b30233c5c9d185c56be9ef3fb813fb78844ad9051fc82b73eec0acaacddc780d1288f2affc6ed1bfcb6db928f7cf9262009391d4b50d4e02da88ddc9bf7796a8eafc72b92117825a07e898e5e50d29a89683291b758bb9fe255bd28cc5f72f758e758e7c2da07457e608f193d932bc09138a3bf4986b381af2e7679c677f775d65525a6532b707155e021c334838d5913ba0c2757ba395e9f5483ec550643b0e0d68c95027f61ea96d16f294d15e580c2db5180fd8b4b47f085682f4e179a0ad70e19adfe84c6e3ee8c48bdd89660028df0c876ca55a434fd51e29033c2ea3b30c1705e9ce93b339369952cb9a25b2d40acd41c7f753276876ac2b94f66fe6e603fe22b80355a9cc8777e

/-- It verifies on a part whose root key hash, a free value, is that of the key. -/
theorem wit_ResetBootAndTheMemories_firmware : Config.rootHash 0 = BitVec.ofNat 256 0x8e6773f831c5d800316c5ed924efdc57f94c683541cbbc902319538122cae640 → runS.fwVerifies goodFw = true := by
  intro h
  unfold State.fwVerifies rootHashBytes
  rw [h]
  decide +kernel

theorem wit_DeviceSecurityFollowsItsRows_refused :
    let p := propA 3 none
    let held : SecProposal := { p with first := some (0, false) }
    let pro (na ni : Nat) : List Nat := na :: ni :: provWords.drop 2
    State.reset.keyless = true ∧ ([5] : List Nat).length < 105 ∧ 4 ≤ argN (List.replicate 8 0 ++ [4]) 8 ∧ (secS none).sec.proposal = none ∧ List.replicate 32 (0 : Byte) ≠ (secS none).sec.expired ∧
    (({ secS none with sec := { (secS none).sec with expired := List.replicate 32 0 } } : State).sec.expired = List.replicate 32 0) ∧ ((secS (some p)).sys.authKeys.getD 3 []).isEmpty = true ∧
    held.first = some (0, false) ∧ (judge ((secS (some held)).secMay { held with kind := 5 } false)).isSome = true ∧ (propA 3 (some { ref := r5, slot := 1 })).second.isSome = true ∧
    argN (pro 1 1) 0 < 2 ∧ 4 < argN (pro 5 1) 0 ∧ argN (pro 2 0) 1 < 1 ∧ 4 < argN (pro 2 5) 1 ∧ (pro 4 4).length < 2 + 96 * (4 + 4) + 256 ∧
    platformOk (List.replicate 1024 1) = false ∧ (maintS.wr Reg.SEC_LC_STATE 1).lc ≠ 0 ∧ distinct [[1], [2], ([1] : List Byte)] = false ∧
    argN [0x37F] 0 < 0x380 ∧ 0x1000000 < argN [0x1000001] 0 ∧ runS.fwVerifies (List.replicate 0x380 0) = false ∧ ({ r5 with bufLen := 43 } : CmdRef).bufLen < 44 ∧ 44 ≤ r5.bufLen := by
  decide +kernel

theorem wit_DeviceSecurityFollowsItsRows_marks :
    let at_ (m : MarkChange) : State := { secS none with sec := { (secS none).sec with atMark := [m] } }
    (secS none).sec.gateClose = none ∧ (at_ (.regWrite r5 0 0 0)).sec.atMark = [.regWrite r5 0 0 0] ∧ (at_ (.lifeCycle (some r5) 4)).sec.atMark = [.lifeCycle (some r5) 4] ∧ (at_ (.dbgOpen r5 240)).sec.atMark = [.dbgOpen r5 240] ∧
    (secS none).sysLost = false ∧
    (let g : State := { runS.wr Reg.SEC_DBG_OPEN 1 with sec := { runS.sec with gateEnd := some 5 }, time := { runS.time with run := 20 } }
     g.sec.gateEnd = some 5 ∧ 5 ≤ g.runNs ∧ g.flag Reg.SEC_DBG_OPEN = true ∧ (g.wr Reg.SEC_DBG_OPEN 0).flag Reg.SEC_DBG_OPEN = false ∧ runS.runNs < 5) ∧ Admitted (secS none) 0x0E09 := by
  unfold Admitted; decide +kernel

theorem wit_RecorderKeepsItsLog_full :
    let full : State := { runS with recd := { runS.recd with log := List.replicate recCapacity { seq := 0, code := 0, kind := 1, limited := false, sum := {}, t := 0 }, crossing := [5], changed := [5] } }
    full.recd.log.length = recCapacity ∧ full.recd.crossing = [5] ∧ full.recd.changed = [5] ∧ ¬5 ∈ full.recd.epochDone := by
  refine ⟨?_, rfl, rfl, by decide⟩
  show (List.replicate recCapacity _).length = recCapacity
  exact List.length_replicate

theorem wit_RecorderKeepsItsLog_fallback :
    let f : State := { runS with recd := { runS.recd with log := List.replicate 28645 { seq := 0, code := 0, kind := 1, limited := false, sum := {}, t := 0 }, crossing := [5], epochDone := [5] } }
    28644 < f.recd.log.length ∧ f.recd.log.length ≤ recCapacity ∧ f.recd.crossing = [5] ∧ 5 ∈ f.recd.epochDone := by
  have h (r : RecRecord) : (List.replicate 28645 r).length = 28645 := List.length_replicate
  exact ⟨(h _).symm ▸ by decide, (h _).symm ▸ by decide, rfl, by decide⟩

theorem wit_RecorderKeepsItsLog_refused :
    argN [0, 0] 1 < 1 ∧ 64 < argN [0, 65] 1 ∧ (2 : Nat) ^ 31 ≤ (argN [0xFFFFFFFF, 1] 0 + 2 ^ 32 - runS.recd.baseSeq % 2 ^ 32) % 2 ^ 32 ∧ argN [0] 0 < 1 ∧ 64 < argN [65] 0 ∧ [2, 1].length < argN [2, 1] 0 + 1 ∧
    firstBad (fun c => decide (c < 4096)) [4095, 4096] = some 1 ∧ ({ r5 with bufLen := 7 } : CmdRef).bufLen < 8 * 1 ∧ hostCode 0xBFF = false ∧ 31 < argN [0xC00, 0, 32] 2 ∧ argN [0xC00, 0, 31] 2 ≤ 31 := by
  decide +kernel

theorem wit_ResetBootAndTheMemories :
    State.reset.power.inReset = true ∧ ({ State.reset with power := { State.reset.power with inReset := false } } : State).power.inReset = false ∧ State.reset.power.fw = false ∧
    State.reset.fwVerifies (State.reset.fwSlot 0) = false ∧ State.reset.fwVerifies (State.reset.fwSlot 1) = false ∧ State.reset.sec.platform = [] ∧
    (({ State.reset with sec := { State.reset.sec with platform := [0] } } : State).sec.platform ≠ []) ∧ State.reset.flag Reg.AGE_STAT_FORERUNNER = false ∧
    (let s : State := { runS.wr Reg.MEM_MARCH_CTL_EN 1 with fab := { runS.fab with cells := [(63, { sealed := true })] }, age := { runS.age with aborts := [(63 * 3 * 1024, 63)], memTests := [(r5, 0, none)] } }
     s.flag Reg.MEM_MARCH_CTL_EN = true ∧ (s.fab.cells.at' 63 {}).sealed = true ∧ 64 ≤ s.age.aborts.at' (63 * 3 * 1024) 0 + 1 ∧ s.age.aborts.at' 0 0 + 1 < 64 ∧ s.age.memTests = [(r5, 0, none)]) ∧
    (Admitted runS 0x1001 ∨ Admitted maintS 0x1001) := by
  unfold Admitted; decide +kernel

theorem wit_ResetBootAndTheMemories_memories :
    let fr := runS.wr Reg.AGE_STAT_FORERUNNER 1
    let cor (t : Nat) : State := { fr with age := { fr.age with corrected := [(0, t)] } }
    let used : State := { fr with sec := { fr.sec with bank0 := some { seq := 1, body := { rows := [(0, 4)] } } } }
    let busy (q : List ArbReq) : State := { runS with fab := { runS.fab with arbs := [(arbKey (.ddr 0), { active := some ({ port := .host, owner := .host, target := .ddr 0, cls := .ordinary }, false), queue := q })] } }
    let wait : ArbReq := { port := .refresh, owner := .other, target := .ddr 0, cls := .ordinary }
    bankSeg 0 0 0 = some (0, 0) ∧ fr.flag Reg.AGE_STAT_FORERUNNER = true ∧ fr.age.corrected.look 0 = none ∧ (cor 0).age.corrected.look 0 = some 0 ∧ (cor 0).runNs ≤ 0 + 86400000000000 ∧
    ({ cor 0 with time := { runS.time with run := 4 * 86400000000001 } } : State).runNs > 0 + 86400000000000 ∧ fr.sys.rows.at' 0 0 < 4 ∧ used.sys.rows.at' 0 0 = 4 ∧
    runS.arb (.ddr 0) = {} ∧ ((busy []).arb (.ddr 0)).active.isSome = true ∧ ((busy []).arb (.ddr 0)).clause = none ∧ (∀ q ∈ ((busy []).arb (.ddr 0)).queue, ¬(q.port = .refresh ∧ q.cls = .ordinary)) ∧
    (∃ q ∈ ((busy [wait]).arb (.ddr 0)).queue, q.port = .refresh ∧ q.cls = .ordinary) ∧ 2 < argN [3] 0 ∧ argN [2] 0 ≤ 2 ∧
    (runS.wr Reg.MEM_MARCH_CTL_EN 0).flag Reg.MEM_MARCH_CTL_EN = false ∧ runS.age.memTests = [] ∧ (runS.fab.cells.at' 0 {}).sealed = false := by
  decide +kernel

theorem wit_ResetBootAndTheMemories_resets :
    let lost (l : List RecRecord) : State := { State.reset with power := { State.reset.power with retLost := true }, recd := { State.reset.recd with log := l } }
    let f : Fetched := { ref := r5, args := [], executor := .steward }
    let s : State := { runS with host := { runS.host with waiting := [f] } }
    State.reset.sysLost = true ∧ State.reset.sys.lc ≤ 4 ∧ (lost []).power.retLost = true ∧ (lost []).recd.log = [] ∧ (lost [{ seq := 0, code := 0, kind := 1, limited := false, sum := {}, t := 0 }]).recd.log ≠ [] ∧
    (secS none).sysLost = false ∧ ({ secS none with sec := { (secS none).sec with bank0 := some { seq := 1, body := { lc := 4 } } } } : State).sys.lc = 4 ∧
    (∃ g ∈ s.host.steward.queue ++ s.host.waiting ++ s.host.steward.current.toList, g.ref.ring = 5 ∧ g.ref.handle = f.ref.handle) ∧
    (∀ g ∈ runS.host.steward.queue ++ runS.host.waiting ++ runS.host.steward.current.toList, g.ref.ring ≠ 5) ∧
    (runS.wr Reg.MEM_SEC_STAT_WIPING 1).flag Reg.MEM_SEC_STAT_WIPING = true ∧ runS.flag Reg.MEM_SEC_STAT_WIPING = false ∧ runS.flag Reg.MEM_ECC_LAST_VALID = false := by
  decide +kernel

/-- A station frame with its checksum in place (R321). -/
def Sys2Proof.Tests.staFrame (typ flags seq : Nat) (payload : List Byte) : List Byte :=
  staFrameBytes 511 0 { typ := typ, flags := flags, seq := seq, stamp := 0, frag := 0, frags := 1, payload := payload }

/-- Station 511 with one module. -/
def Sys2Proof.Tests.staA : StationDef :=
  { station := 511, port := 0, fast := true, period := 8, phase := 0, ipv4 := 0x0A000002, holdMs := 10, launchUs := 0, missMax := 3, modules := [{ module := 0, policy := 0, fast := false, vendor := 5, type := 6, ins := 1, outs := 0 }] }

/-- A device with station 511 in a state, the filter ended, at mark n. -/
def Sys2Proof.Tests.staS (x : StaState) (n : Nat) : State :=
  let s := runImg { ptImg with topology := some { udp := 1000, stations := [staA] } }
  { s with field := { s.field with filterEnded := true, stations := [(511, x)] }, time := { s.time with n := n, d := clockOf (n * 125000) 0 }, pts := { s.pts with cutN := n - 1 } }

theorem wit_StationsAndEthernetPortsAct_frames :
    let on : StaState := { st := .online, base := { last := some 4, frags := [0] }, fast := { last := some 9, frags := [0] } }
    let ad := staS on 80
    (∀ t ∈ [2, 3, 5], StationFrame ad (staFrame t 0 5 []) t staA) ∧ StationFrame ad (staFrame 2 1 8 []) 2 staA ∧
    (FrameCommand .stationInputFrame 2 (some false) ∧ FrameCommand .stationFastInput 2 (some true) ∧ FrameCommand .admitReq 3 none ∧ FrameCommand .leave 5 none) ∧
    State.reset.field.filterEnded = false ∧ staFrameOk ad.ownDev ((staFrame 2 0 5 []).drop 1) = false ∧
    (bitOf (fieldLE (staFrame 2 0 5 []) 7 1) 0 = false ∧ bitOf (fieldLE (staFrame 2 1 8 []) 7 1) 0 = true ∧ (ad.sta 511).admitted = true ∧ ((staS {} 80).sta 511).admitted = false) ∧
    (0 < signed 32 (twos 32 ((5 : Int) - 4)) ∧ (ad.sta 511).base.last = some 4 ∧ fieldLE (staFrame 2 0 4 []) 8 4 = 4 ∧ fieldLE (staFrame 2 0 4 []) 0x14 1 ∈ (ad.sta 511).base.frags) ∧
    (staA.fast = true ∧ (ad.sta 511).fast.last = some 9 ∧ signed 32 (twos 32 ((8 : Int) - 9)) < 0 ∧ ((staS { st := .online } 80).sta 511).fast.last = none) ∧
    (fieldLE (staFrame 3 0 5 []) 0x15 1 = 1 ∧ (ad.sta 511).parts.1 ≠ 5 ∧ ((staS {} 80).sta 511).st = .absent) := by
  refine ⟨by unfold StationFrame; decide +kernel, by unfold StationFrame; decide +kernel, by simp [FrameCommand], ?_⟩
  decide +kernel

theorem wit_StationsAndEthernetPortsAct_windows :
    let s := staS { st := .waiting, request := leBytes 36 0 } 80
    s.img.run.isSome = true ∧ s.time.n % 80 = 0 ∧ s.staDefs.filter (fun d => decide ((s.sta d.station).st = .waiting)) = [staA] ∧
    (∃ m ∈ staA.modules, m.policy = 0 ∧ reqMismatch (reqBlocks (s.sta staA.station).request) m = true) ∧
    (let good := leBytes 1 0 ++ leBytes 1 1 ++ leBytes 2 0 ++ leBytes 4 0x4E454449 ++ leBytes 2 1 ++ leBytes 2 5 ++ leBytes 2 6 ++ List.replicate 22 0
     ∀ m ∈ staA.modules, reqMismatch (reqBlocks good) m = false) ∧
    (let o := staS { st := .online } 81
     o.staDef 511 = some staA ∧ (o.sta 511).st = .online ∧ staA.due o.pts.cutN = true ∧ o.staSends o.pts.cutN = true ∧ o.pts.cutN + 1 = o.time.n) := by
  decide +kernel

theorem wit_StationsAndEthernetPortsAct_launch :
    let l (n : Nat) : Launch := { port := 0, station := 511, at_ := n, cut := 79, queue := 0, data := [] }
    let s (n : Nat) : State := { staS {} 80 with field := { (staS {} 80).field with launches := [l n] } }
    (clockNs (s 10000001).time.d < (l 10000001).at_) ∧ ((l 8999999).at_ + 1000000 < clockNs (s 8999999).time.d) ∧
    ((l 9000000).at_ ≤ clockNs (s 9000000).time.d ∧ clockNs (s 9000000).time.d ≤ (l 9000000).at_ + 1000000 ∧ (s 9000000).field.gcl.look 0 = none ∧ (s 9000000).staDef 511 = some staA) := by
  decide +kernel

/-- A platform record with an address of port 0, its pairs as PRP nodes or not. -/
def Sys2Proof.Tests.platA (prp : Nat) : List Byte :=
  List.replicate 0x206 0 ++ leBytes 1 prp ++ [0] ++ leBytes 4 0x0A000001 ++ leBytes 1 8 ++ List.replicate (1024 - 0x20D) 0

theorem wit_StationsAndEthernetPortsAct_ports :
    (let s : State := { State.reset with sec := { State.reset.sec with platform := platA 0 } }
     nextHop s.sec.platform (netPort s.sec.platform 0) 0x0A000002 = some 0x0A000002 ∧ prpPair s.sec.platform 0 = false ∧ (s.field.hops.at' (hopKey 0 0x0A000002) {}).usable s.runNs = false ∧
     (({ resolved := true } : HopEntry).usable 0 = true) ∧ prpPair (platA 7) 2 = true) ∧
    (let f := List.replicate 12 1 ++ [0x08, 0x06] ++ List.replicate 7 0 ++ [1] ++ List.replicate 40 0
     bitOf (fieldLE f 0 1) 0 = true ∧ etherOf f = (0x0806, f.drop 14) ∧ fieldBE (f.drop 14) 6 2 = 1) ∧
    (let f := List.replicate 12 1 ++ [0x08, 0x00] ++ List.replicate 46 0
     bitOf (fieldLE f 0 1) 0 = true ∧ filterPass (etherOf f).1 (etherOf f).2 = false ∧ bitOf (fieldLE (List.replicate 60 2) 0 1) 0 = false ∧
      slice (List.replicate 60 2) 0 6 ≠ portMac State.reset.sec.platform (netPort State.reset.sec.platform 5)) ∧
    ((∀ op ∈ [0x0901, 0x0902, 0x0906], Admitted (staS {} 80) op) ∧ badCount [1, 511] 64 = (false, .invalid, 0) ∧ ((staS {} 80).staDef 511).isSome = true ∧ ((staS {} 80).sta 511).st = .absent ∧
      ((staS { st := .online } 80).sta 511).st ≠ .absent) := by
  unfold Admitted; decide +kernel

/-- A block of module 0 with a status and one word, as an INPUT frame carries it (R322). -/
def Sys2Proof.Tests.blockA (status : Nat) : List Byte := leBytes 1 0 ++ leBytes 1 status ++ [1, 0] ++ leBytes 4 9

/-- Station 511 as it admits the fast form, its module fast, with point 3 bound to signal 0 of module 0 as an input. -/
def Sys2Proof.Tests.staP (x : StaState) : State :=
  let s := runImg { points := [(3, ptDef 0 (2 * 2 ^ 28 + 511))], topology := some { udp := 1000, stations := [{ staA with modules := [{ module := 0, policy := 1, fast := true, vendor := 5, type := 6, ins := 1, outs := 0 }] }] } }
  { s with field := { s.field with filterEnded := true, stations := [(511, x)] }, time := { s.time with n := 80 } }

theorem wit_StationsAndEthernetPortsAct_fragments :
    let on (b f : SeqCheck) : StaState := { st := .online, base := b, fast := f }
    let s := staP (on { last := some 4, frags := [1] } { last := some 9, frags := [0] })
    (State.reset.field.filterEnded = false ∧ ({ s with img := { s.img with run := none } } : State).img.run = none ∧ s.staDef 510 = none ∧ (3 : Nat) ≠ 5) ∧
    ((s.sta 511).admitted = true ∧ Later 5 4 ∧ ¬Later 4 4 ∧ signed 32 (twos 32 ((4 : Int) - 4)) = 0 ∧ (0 : Nat) ∉ (s.sta 511).base.frags ∧ (1 : Nat) ∈ (s.sta 511).base.frags ∧ signed 32 (twos 32 ((3 : Int) - 4)) < 0) ∧
    ((staP { st := .online }).sta 511).base.last = none ∧ modBlocks 64 ((staFrame 2 0 5 (blockA 1)).drop 32) = [(0, 1, [9])] ∧ statusGood 1 = true ∧ statusGood 3 = false ∧
    ((s.staDef 511).bind (fun d => d.modules.find? (fun m => m.module = 0 && m.fast))).isSome = true ∧ s.staPoints 511 = [(3, ptDef 0 (2 * 2 ^ 28 + 511))] ∧ (staOf (ptDef 0 (2 * 2 ^ 28 + 511))).2 = (0, 0) ∧
    (ptDef 0 (2 * 2 ^ 28 + 511)).output = false ∧ ((staP { st := .resync }).sta 511).st = .resync ∧ ((staP { st := .resync }).sta 511).firstIn = none ∧
    ((staP { st := .refused, refused := some (leBytes 36 0) }).sta 511).refused.map reqBlocks = some (reqBlocks (leBytes 36 0)) ∧ reqBlocks (leBytes 36 1) ≠ reqBlocks (leBytes 36 0) := by
  unfold Later; decide +kernel

theorem wit_StationsAndEthernetPortsAct_unserved :
    let w := staS { st := .waiting } 80
    let d (e : StaState) (n cut : Nat) : State := { staS e n with pts := { (staS e n).pts with cutN := cut } }
    let l (ref : Option CmdRef) : Launch := { port := 5, station := 512, at_ := 1000, cut := 0, queue := 7, data := List.replicate 60 0, ref := ref }
    let s (now : Nat) (ref : Option CmdRef) : State := { runS with time := { runS.time with d := clockOf now 0 }, field := { runS.field with launches := [l ref] } }
    let desc (n : Nat) : LaunchDesc := { ref := r5, stamp := stamp64 (clockOf n 0), queue := 7, id := 0, data := [] }
    runS.img.run = none ∧ (staS {} 81).time.n % 80 ≠ 0 ∧ w.staSends w.time.n = true ∧ (w.wr Reg.GLB_PAIR_STATE 3).staSends w.time.n = false ∧ w.staDef 0 = none ∧
    ((staS { st := .online } 81).sta 511).firstOut = false ∧ ((staS { st := .online, firstOut := true } 81).sta 511).firstOut = true ∧ (d {} 113 80).pts.cutN + 33 = (d {} 113 80).time.n ∧ staA.due 79 = false ∧
    ((s 1000 none).field.launches = [l none] ∧ (l none).at_ ≤ clockNs (s 1000 none).time.d ∧ clockNs (s 1001000 none).time.d = (l none).at_ + 1000000 ∧ (l none).at_ + 1000000 < clockNs (s 1001001 none).time.d ∧
      clockNs (s 999 none).time.d < (l none).at_) ∧
    ((s 1000 (some r5)).gateOpen 5 7 60 = true ∧ ptpAt (etherOf (l none).data).1 (etherOf (l none).data).2 = none ∧ prpPair runS.sec.platform 2 = false) ∧
    (({ runS with field := { runS.field with gcl := [(5, [(0x01, 1000000)])] } } : State).gateOpen 5 7 60 = false) ∧
    (clockNs runS.time.d < runS.launchAt (desc 2000000000).stamp ∧ runS.launchAt (desc 2000000000).stamp ≤ clockNs runS.time.d + 2000000000 ∧ clockNs runS.time.d + 2000000000 < runS.launchAt (desc 2000000001).stamp) := by
  decide +kernel

/-- A frame to a group address with an Ethertype and what follows it. -/
def Sys2Proof.Tests.etherA (t : Nat) (b : List Byte) : List Byte := List.replicate 12 1 ++ beBytes 2 t ++ b

/-- A UDP datagram over IPv4 from 10.0.0.2 to an address and a port. -/
def Sys2Proof.Tests.udpA (dst port : Nat) : List Byte :=
  [0x45] ++ List.replicate 8 0 ++ [17, 0, 0] ++ beBytes 4 0x0A000002 ++ beBytes 4 dst ++ beBytes 2 9 ++ beBytes 2 port ++ beBytes 2 40 ++ [0, 0] ++ List.replicate 32 0

theorem wit_StationsAndEthernetPortsAct_handlers :
    let own : State := { staS {} 80 with sec := { (staS {} 80).sec with platform := platA 7 } }
    let of (b : List Byte) := udp4Of (etherOf b).1 (etherOf b).2
    let tail := etherA 0x0806 (List.replicate 40 0 ++ [0, 5, 0, 0, 0x88, 0xFB])
    (bitOf (fieldLE (etherA 0 []) 0 1) 0 = true ∧ ptpOf 0x88F7 (List.replicate 44 0) = some (List.replicate 44 0) ∧ filterPass 0x88F7 (List.replicate 44 0) = true ∧ filterPass 0x0800 (udpA 0 1000) = false) ∧
    (of (etherA 0x0800 (udpA 0x0A000001 1000))).map (fun e => (e.1, e.2.1, e.2.2.1, e.2.2.2.1)) = some (0x0A000002, 0x0A000001, 9, 1000) ∧
    ((etherOf (etherA 0x0800 (udpA 0x0A000001 1000))).1 = 0x0800 ∧ ptpOf 0x0800 (udpA 0x0A000001 1000) = none) ∧
    (portPrefix own.sec.platform (netPort own.sec.platform 0) = 8 ∧ portIp own.sec.platform (netPort own.sec.platform 0) = 0x0A000001 ∧ own.staSec.map (·.udp) = some 1000 ∧ own.ringUdp ≠ 1000) ∧
    (prpPair own.sec.platform 0 = true ∧ prpSeqOf tail = some 5 ∧ own.field.prpSeen = [] ∧
      (0, fieldBE tail 6 6, 5, 0) ∈ (({ own with field := { own.field with prpSeen := [(0, fieldBE tail 6 6, 5, 0)] } } : State).field.prpSeen.filter (fun e => decide (own.runNs < e.2.2.2 + 400000000)))) ∧
    (∀ k ∈ [1, 2, 3], fieldBE ((etherOf (etherA 0x0806 ([0, 1, 8, 0, 6, 4] ++ beBytes 2 k ++ List.replicate 20 0))).2) 6 2 = k) ∧
    icmp6Of 0x86DD (List.replicate 6 0 ++ [58] ++ List.replicate 33 0 ++ [135]) = some 135 ∧ icmp6Of 0x88CC [] = none := by
  decide +kernel

theorem wit_StationsAndEthernetPortsAct_refused :
    let s := staS {} 80
    argN [0] 0 < 1 ∧ 64 < argN [65] 0 ∧ [2, 1].length < argN [2, 1] 0 + 1 ∧ firstBad (fun i => decide (i < 512)) [511, 512] = some 1 ∧ ({ r5 with bufLen := 67 } : CmdRef).bufLen < 68 * 1 ∧ 512 ≤ argN [512] 0 ∧
    s.staDef (argN [510] 0) = none ∧ (s.sta (argN [511] 0)).st = .absent ∧ ({ r5 with bufLen := 75 } : CmdRef).bufLen < 76 := by
  decide +kernel

/-- A time-triggered CAN bus with a periodic window. -/
def Sys2Proof.Tests.canA (prio : Nat) : CanBusDef :=
  { bus := 0, mode := 2, ttPrio := prio, cycles := 4, nbrp := 1, nseg1 := 10, nseg2 := 5, nsjw := 1, dbrp := 1, dseg1 := 10, dseg2 := 5, dsjw := 1, tdco := 0, bcBase := 8, firstWin := 0, winCount := 3,
    firstFrame := 0, frameCount := 1, refId := 0x100 }

/-- The CAN section with that bus, an exclusive, an arbitrating and a free window, and one frame. -/
def Sys2Proof.Tests.canSecA (prio : Nat) (transmit : Bool) : CanSec :=
  { buses := [canA prio], windows := [{ start := 100, len := 100, type := 0 }, { start := 200, len := 100, type := 1 }, { start := 300, len := 100, type := 2 }],
    frames := [{ id := 0x20, transmit := transmit, fdf := false, brs := false, bytes := 8, win := 0, period := 0, cycBase := 0, repeat_ := 1 }], binds := [] }

/-- A device with that bus in normal operation in a state of the time-triggered protocol. -/
def Sys2Proof.Tests.canS (prio tt : Nat) (transmit : Bool) : State :=
  ((runImg { points := [(0, ptDef 0 0x30000000)], can := some (canSecA prio transmit) }).wr Reg.CAN_STAT_MODE 2 [0]).wr Reg.CAN_STAT_TT tt [0]

theorem wit_CanBusesAndIdentityMemoriesAct :
    (∀ p ∈ [3, 8], ∀ t ∈ [0, 1, 2, 3], LiveBus (canS p t true) 0 (canSecA p true) (canA p)) ∧ LiveBus (canS 3 1 false) 0 (canSecA 3 false) (canA 3) ∧ (canA 3).mode = 2 ∧
    (let s := canS 3 1 false
     s.rd Reg.CAN_STAT_MODE [0] ≠ 0 ∧ (ptDef 0 0x30000000).ownerKind = 3 ∧ (canOf (ptDef 0 0x30000000)).1 = 0 ∧ (((canSecA 3 false).framesOf (canA 3))[0]?).map (fun f => (f.transmit, f.id)) = some (false, 0x20)) ∧
    (∀ t ∈ [1, 2, 3], (canS 3 t true).rd Reg.CAN_STAT_TT [0] = t) ∧ 7 < (canA 8).ttPrio ∧ (canA 3).ttPrio ≤ 7 ∧ (canS 3 3 true).canLive 0 = true ∧
    (canS 3 2 true).time.n % (canA 3).bcBase = 0 ∧
    (∀ w ∈ [0, 1, 2], (((canSecA 3 true).winsOf (canA 3))[w]?).map (·.type) = some w) ∧ (canS 3 1 true).rd Reg.CAN_STAT_CYCLE [0] % 1 = 0 ∧
    (canS 3 1 true).rd Reg.CAN_STAT_TEC [0] + 255 ≤ 255 ∧ 255 < (canS 3 1 true).rd Reg.CAN_STAT_TEC [0] + 256 ∧ (State.reset.wr Reg.CAN_STAT_MODE 3 [7]).rd Reg.CAN_STAT_MODE [7] = 3 ∧
    State.reset.rd Reg.CAN_STAT_MODE [7] = 0 ∧ (∀ op ∈ [0x0903, 0x0904, 0x0905], Admitted runS op) ∧ runS.host.steward.current = none := by
  refine ⟨by unfold LiveBus; decide +kernel, by unfold LiveBus; decide +kernel, by decide +kernel, by decide +kernel, by decide +kernel, by decide +kernel, by decide +kernel, by decide +kernel, by decide +kernel, by decide +kernel, by decide +kernel,
    by decide +kernel, by decide +kernel, by decide +kernel, by decide +kernel, by unfold Admitted; decide +kernel, by decide +kernel⟩

/-- A valid identity memory. -/
def Sys2Proof.Tests.identMem : List Byte :=
  let b := leBytes 4 0x4E454449 ++ leBytes 2 1 ++ leBytes 2 5 ++ leBytes 2 6 ++ List.replicate (0xFC - 10) 0
  b ++ leBytes 4 (crc32c b)

theorem wit_CanBusesAndIdentityMemoriesAct_ident :
    identValid identMem = true ∧ identValid (List.replicate 256 0) = false ∧
    identMatches { bus := 0, addr := 0, vendor := 5, type := 6, policy := 0, ain := (0, 0), dac := (0, 0), enc := (0, 0), dio := (0, 0) } identMem = true := by
  decide +kernel

theorem wit_CanBusesAndIdentityMemoriesAct_launches :
    let f (i at_ : Nat) : CanQueued := { id := i, data := [7], launch := some (r5, at_) }
    let s (mode : Nat) (q w : List CanQueued) (now : Nat) : State :=
      let s := (runImg ptImg).wr Reg.CAN_STAT_MODE mode [0]
      { s with field := { s.field with can := [(0, { launches := q, queue := w })] }, time := { s.time with d := clockOf now 0 } }
    let e (n : Nat) : LaunchDesc := { ref := r5, stamp := stamp64 (clockOf n 0), queue := 0, id := 5, data := [] }
    ((s 3 [f 5 10] [] 10).field.can.at' 0 {}).launches = [f 5 10] ∧ (f 5 10).launch = some (r5, 10) ∧ (s 3 [] [] 0).rd Reg.CAN_STAT_MODE [0] = 3 ∧ ((s 3 [f 5 10] [] 10).field.can.at' 0 {}).queue = [] ∧
    (10 + 1000000 < clockNs (s 2 [] [] 1000011).time.d ∧ clockNs (s 2 [] [] 1000010).time.d = 10 + 1000000 ∧ clockNs (s 2 [] [] 9).time.d < 10) ∧
    (s 2 [] [] 0).canLive 0 = true ∧ (s 1 [] [] 0).canLive 0 = false ∧ (s 2 [] [] 0).canSends = true ∧ (s 2 [] [] 0).canBus 0 = none ∧
    ((s 2 [f 5 10, f 4 10] [] 10).field.can.at' 0 {}).launches = [f 5 10, f 4 10] ∧ ¬((10 : Nat) < 10 ∨ ((10 : Nat) = 10 ∧ 5 % 2 ^ 29 ≤ 4 % 2 ^ 29)) ∧
    ((s 2 [] [] 0).field.can.at' 0 {}).launches = [] ∧ clockNs (s 2 [] [] 0).time.d < (s 2 [] [] 0).launchAt (e 2000000000).stamp ∧ (s 2 [] [] 0).launchAt (e 2000000000).stamp ≤ clockNs (s 2 [] [] 0).time.d + 2000000000 ∧
    clockNs (s 2 [] [] 0).time.d + 2000000000 < (s 2 [] [] 0).launchAt (e 2000000001).stamp ∧
    (let t : State := { canS 3 1 true with field := { (canS 3 1 true).field with can := [(0, { launches := [f 5 0] })] } }
     ((t.canBus 0).map (fun x => x.2.mode)) = some 2 ∧ (t.field.can.at' 0 {}).launches = [f 5 0] ∧ t.canLive 0 = true) ∧
    ((((s 2 [] [f 5 10] 10).field.can.at' 0 {}).launches ++ ((s 2 [] [f 5 10] 10).field.can.at' 0 {}).queue) = [f 5 10]) := by
  decide +kernel

theorem wit_CanBusesAndIdentityMemoriesAct_windows :
    let s := canS 3 1 true
    let f : CanQueued := { id := 5, data := [7], launch := some (r5, 0) }
    let q (l : List CanQueued) : State := { s with field := { s.field with can := [(0, { queue := l })] } }
    runS.canBus 0 = none ∧ ((canSecA 3 true).winsOf (canA 3))[3]? = none ∧ (∀ g ∈ ((q [{ id := 5, data := [7] }]).field.can.at' 0 {}).queue, g.launch = none) ∧ ((q [f]).field.can.at' 0 {}).queue = [f] ∧
    ((canSecA 3 true).framesOf (canA 3)).length = 1 ∧ (∀ g ∈ (canSecA 3 true).framesOf (canA 3), g.transmit = true ∧ g.win = 0 ∧ s.rd Reg.CAN_STAT_CYCLE [0] % g.repeat_ = g.cycBase) ∧
    (∀ g ∈ (canSecA 3 false).framesOf (canA 3), g.transmit = false) ∧ (s.wr Reg.CAN_STAT_MODE 3 [0]).rd Reg.CAN_STAT_MODE [0] = 3 ∧ s.canBus 0 = (s.wr Reg.CAN_STAT_MODE 3 [0]).canBus 0 ∧
    (s.wr Reg.CAN_STAT_MODE 1 [0]).canLive 0 = false ∧ (canA 3).ttPrio < (4 : Fin 8).val ∧ (3 : Fin 8).val ≤ (canA 3).ttPrio ∧
    s.img.run.map (·.points) = some [(0, ptDef 0 0x30000000)] ∧ 4 * (canOf (ptDef 0 0x30000000)).2.2 + 4 ≤ [1, 2, 3, (4 : Byte)].length := by
  decide +kernel

theorem wit_CanBusesAndIdentityMemoriesAct_identities :
    let d : IdentDef := { bus := 0, addr := 0, vendor := 5, type := 6, policy := 0, ain := (0, 0), dac := (0, 0), enc := (0, 0), dio := (0, 0) }
    let s := runImg { ptImg with idents := [d] }
    runS.img.run = none ∧ (s.img.run.map (·.idents)) = some [d] ∧ s.identMis 0 = false ∧ s.field.idents.look 0 = none ∧
    slice (identMem.set 0x0C 1) 0x0C 16 ≠ slice identMem 0x0C 16 ∧ 3 ≤ [0, 3, 127].length ∧ argN [0, 3, 127] 1 < 4 ∧ argN [0, 3, 127] 2 < 128 ∧ argN [1, 511, 63] 0 = 1 ∧ argN [1, 511, 63] 1 < 512 ∧ argN [1, 511, 63] 2 < 64 ∧
    256 ≤ r5.bufLen ∧ Admitted s 0x0903 ∧ Admitted s 0x0904 ∧ ({ r5 with bufLen := 63 } : CmdRef).bufLen < 64 ∧ (reqBlocks (leBytes 36 63)).look 63 = some (leBytes 36 63) ∧ (reqBlocks []).look 63 = none := by
  unfold Admitted; decide +kernel

/-- A bank of a kind. -/
def Sys2Proof.Tests.bankA (kind : Nat) : Bank :=
  { kind := kind, devnum := 0, seq := 1, flags := 0, forces := 0, tMark := 0, digest := [], serial := 0, bytes := 0, hours := 0, pcycles := 0,
    cut := { n := 0, rMark := 0, role := {}, entries := [] }, committed := false }

/-- The running device with a checkpoint write in progress or none. -/
def Sys2Proof.Tests.ckptS (w : Option CkptWrite) : State := { runImg ptImg with pair := { (runImg ptImg).pair with writing := w } }

theorem wit_CheckpointsFlushAndRestart :
    let w (k : Nat) : CkptWrite := { b := true, bank := bankA k, refs := [r5] }
    State.reset.img.run = none ∧ (ckptS none).img.run = some ptImg ∧ (ckptS none).fab.frozen = false ∧ ((ckptS none).wr Reg.MEM_CKPT_CTL_BG_EN 1).flag Reg.MEM_CKPT_CTL_BG_EN = true ∧
    ((ckptS none).wr Reg.MEM_CKPT_CTL_BG_EN 0).flag Reg.MEM_CKPT_CTL_BG_EN = false ∧ (ckptS none).pair.writing = none ∧
    (∀ k ∈ [1, 2, 3, 4], (ckptS (some (w k))).pair.writing = some (w k) ∧ (w k).bank.kind = k ∧ (w k).refs = [r5]) ∧
    State.reset.flag Reg.MEM_CKPT_STAT_FEED_A_LOW = false ∧ State.reset.flag Reg.MEM_CKPT_STAT_FEED_B_LOW = false ∧ (State.reset.wr Reg.MEM_CKPT_STAT_FEED_B_LOW 1).flag Reg.MEM_CKPT_STAT_FEED_B_LOW = true ∧
    (let s : State := { ckptS none with fab := { (ckptS none).fab with frozen := true }, pair := { (ckptS none).pair with flushed := true } }
     s.fab.frozen = true ∧ s.pair.flushed = true ∧ s.flag Reg.MEM_CKPT_STAT_FEED_A_LOW = false) ∧
    (∀ op ∈ [0x0C01, 0x0C02, 0x0C03, 0x0C04], (Admitted (ckptS none) op ∧ Gated (ckptS none) op) ∨ (Admitted ((ckptS none).wr Reg.GLB_KEY_EFFECTIVE 3) op ∧ Gated ((ckptS none).wr Reg.GLB_KEY_EFFECTIVE 3) op)) ∧
    (ckptS none).ckptFree = true ∧ (ckptS (some (w 2))).ckptFree = false ∧ 516 ≤ r5.bufLen ∧ argN [0] 0 = 0 ∧ argN [1] 0 = 1 ∧ 1 < argN [2] 0 := by
  unfold Admitted Gated; decide +kernel

/-- A unit of a pair with its pair link on port 0, in a pair state. -/
def Sys2Proof.Tests.pairS (st lease strap : Nat) : State :=
  ((((runImg ptImg).wr Reg.GLB_PAIR_STRAP strap).wr Reg.GLB_PAIR_STATE st).wr Reg.GLB_PAIR_LEASE lease).wr Reg.LNK_PORT_STATE 2 [0]

/-- The same unit at run time 52 ms, with the pin and the link silent since a time. -/
def Sys2Proof.Tests.quietS (st toggle renewIn : Nat) : State :=
  let s := (pairS st 0 2).wr Reg.GLB_PAIR_LINK_UP 1
  { s with time := { s.time with run := 52000000 }, pair := { s.pair with toggle := some toggle, renewIn := some renewIn } }

theorem wit_LeaseAndPairLinkKeepOneActive :
    (pairS 2 1 1).paired = true ∧ holds (pairS 2 1 1) = true ∧ (pairS 2 1 1).time.n % 80 = 0 ∧ (pairS 2 1 1).fab.frozen = false ∧ (pairS 2 1 1).pairSt ≠ 6 ∧ (pairS 6 1 1).pairSt = 6 ∧
    (pairS 2 1 1).portUp ((pairS 2 1 1).rd Reg.GLB_PAIR_PORT) = true ∧ holds (pairS 3 0 1) = false ∧ (pairS 2 1 2).sendsB = true ∧ (pairS 2 1 1).sendsB = false ∧
    (∀ k ∈ [3, 4, 5], (quietS k 0 0).pairSt = k ∧ (quietS k 0 0).img.run.isSome = true ∧ holds (quietS k 0 0) = false ∧ (quietS k 0 0).mayTake = true) ∧
    ((quietS 3 0 1).mayTake = false ∧ (quietS 3 0 1).quiet (quietS 3 0 1).pair.toggle = true) ∧ (quietS 3 1 0).quiet (quietS 3 1 0).pair.toggle = false ∧
    ((quietS 1 0 0).pairSt = 1 ∧ (quietS 1 0 0).mayTake = true ∧ (quietS 1 1 0).mayTake = false) ∧
    ((pairS 2 1 1).active = true ∧ (pairS 2 1 1).pair.cause = none ∧ (pairS 3 0 1).active = false) := by
  unfold holds; decide +kernel

theorem wit_LeaseAndPairLinkKeepOneActive_frames :
    OnPairLink (pairS 2 1 1) ∧ (∀ k ∈ [2, 3, 4, 5], OnPairLink (pairS k 0 2) ∧ (pairS k 0 2).pairSt = k ∧ holds (pairS k 0 2) = false) ∧ (pairS 3 0 2).pair.part = none ∧
    (let f := frameOf 2 (leBytes 8 0 ++ leBytes 4 (3 * 2 ^ 29) ++ leBytes 8 0)
     fieldLE f.payload 8 4 / 2 ^ 29 = 3 ∧ fieldLE f.payload 12 8 = (pairS 2 1 1).digest8 ∧ (pairS 2 1 1).pairLanes = true) ∧
    (pairS 3 0 2).flag Reg.GLB_PAIR_DIGEST_DIFF = false ∧ (pairS 3 0 2).pairLanes = true ∧
    (let s : State := { pairS 3 0 2 with pair := { (pairS 3 0 2).pair with align := some { cut := 7, got := 64 } } }
     s.pair.align = some { cut := 7, got := 64 } ∧ ({ cut := 7, got := 64 } : Align).got ≠ 65) ∧
    (let s : State := { pairS 4 0 2 with time := { (pairS 4 0 2).time with n := 2 } }
     s.pairSt = 4 ∧ s.pair.liveAfter = none ∧ s.pair.hand = none ∧ 2 ≤ s.time.n ∧ s.pair.holds (s.time.n - 2) = false) ∧ State.reset.paired = false ∧
    (let s : State := { pairS 2 1 1 with pair := { (pairS 2 1 1).pair with partner := some (4 * 2 ^ 29, 0) } }
     s.handDeferred = false ∧ (pairS 2 1 1).handDeferred = true ∧ s.pair.hand = none ∧ (Admitted s 0x0C06 ∨ Admitted (s.wr Reg.GLB_KEY_EFFECTIVE 3) 0x0C06)) ∧
    Gated (pairS 2 1 1) 0x0C06 ∧ (Admitted (pairS 6 0 1) 0x0C07 ∨ Admitted ((pairS 6 0 1).wr Reg.GLB_KEY_EFFECTIVE 3) 0x0C07) ∧ Admitted (pairS 2 1 1) 0x0C05 := by
  unfold OnPairLink holds Admitted Gated; decide +kernel

theorem wit_CheckpointsFlushAndRestart_others :
    let s := ckptS none
    let frozen : State := { s with fab := { s.fab with frozen := true } }
    frozen.fab.frozen = true ∧ ({ r5 with bufLen := 515 } : CmdRef).bufLen < 516 ∧ State.reset.img.run = none ∧ Admitted (runS.wr Reg.GLB_KEY_EFFECTIVE 3) 0x0C04 ∧ (runS.wr Reg.GLB_KEY_EFFECTIVE 3).img.run = none ∧ s.recd.changed = [] ∧
    (State.reset.wr Reg.MEM_CKPT_STAT_FEED_A_LOW 1).flag Reg.MEM_CKPT_STAT_FEED_A_LOW = true ∧ (s.pair.newer).isNone = true ∧
    (({ s with pair := { s.pair with bankA := some { bankA 2 with committed := true } } } : State).pair.newer.map (·.1)) = some false := by
  unfold Admitted; decide +kernel

theorem wit_LeaseAndPairLinkKeepOneActive_others :
    let a := pairS 2 1 1
    let with_ (p : PairState → PairState) : State := { a with pair := p a.pair }
    State.reset.portUp (State.reset.rd Reg.GLB_PAIR_PORT) = false ∧ ((pairS 2 1 0).paired = false ∧ (pairS 2 1 0).portUp ((pairS 2 1 0).rd Reg.GLB_PAIR_PORT) = true) ∧
    (pairS 2 1 2).sendsB = true ∧ holds (pairS 2 1 2) = true ∧ (with_ (fun p => { p with cause := some 5 })).pair.cause.isSome = true ∧
    Deferred a ∧ ¬Deferred (with_ (fun p => { p with partner := some (4 * 2 ^ 29, 0) })) ∧ Deferred (with_ (fun p => { p with partner := some (4 * 2 ^ 29 + 2 ^ 24, 0) })) ∧
    (with_ (fun p => { p with hand := some 16 })).pair.hand.isSome = true ∧ ({ a with fab := { a.fab with frozen := true } } : State).fab.frozen = true ∧
    ({ n := 5, cellTime := 0, last := true } : Manifest).last = true ∧ ({ n := 5, cellTime := 0, last := false } : Manifest).last = false ∧ ({ n := 5, cellTime := 0, overflow := true } : Manifest).overflow = true ∧
    ((pairS 5 0 2).pairSt = 5 ∧ holds (pairS 5 0 2) = false) ∧ ((pairS 3 0 2).wr Reg.GLB_PAIR_DIGEST_DIFF 1).flag Reg.GLB_PAIR_DIGEST_DIFF = true ∧ (pairS 3 0 2).pair.align = none ∧
    (let s : State := { pairS 4 0 2 with time := { (pairS 4 0 2).time with n := 2 }, pair := { (pairS 4 0 2).pair with manifests := [{ n := 0, cellTime := 0 }] } }
     s.pair.holds (s.time.n - 2) = true) ∧ ({ r5 with bufLen := 27 } : CmdRef).bufLen < 28 ∧ (pairS 2 1 1).pairSt ≠ 6 := by
  unfold holds Deferred; decide +kernel

/-- A configuration set whose pairs, functions and outputs are unused, as it is proposed, in words. -/
def Sys2Proof.Tests.setWords : List Nat :=
  [0x4A4E4F43, 1, 0, 0x0C2020] ++ List.replicate 12 0 ++ ((List.range 64).map (fun i => [i % 32, 0, 0, 0])).flatten ++
  ((List.range 12).map (fun i => (i + 0xFF0000) :: List.replicate 7 0)).flatten

/-- Output 0 enabled on function 0. -/
def Sys2Proof.Tests.outA : SafOutDef := { enabled := true, edmEn := false, mainLoss := false, lane := false, reset := 0xFF, width := 8, interval := 10, edmMs := 0, funcs := 1, cells := 0 }

/-- An island in service with output 0 in a state, a pulse and the others unused. -/
def Sys2Proof.Tests.islandS (st : SafOutSt) (pulse : Option (Nat × Bool × Option Bool)) : State :=
  let c : SafCfg := { seq := 1, bank := 0, digest := [], bytes := [], pairs := [], funcs := [], outs := [outA] }
  let s := (runImg ptImg).wr Reg.GLB_KEY_EFFECTIVE 3
  { s with saf := { s.saf with running := true, feedA := true, feedB := true, cfg := some c, a := { outs := [{ st := st, pulse := pulse }] }, b := { outs := [{ st := st, pulse := pulse }] } } }

theorem wit_SafetyIslandFailsSafe :
    (outA.enabled = true ∧ bitOf outA.funcs 0 = true ∧ (([{ st := .demand }] : List SafFunc).getD 0 {}).st ≠ .permit) ∧
    (let s := islandS .on none
     s.saf.cause = 0 ∧ s.saf.running = true ∧ s.mainRuns = true ∧ State.reset.mainRuns = false ∧ State.reset.saf.running = false ∧ s.saf.sinceHb < 40 ∧ s.saf.switch = none) := by
  decide +kernel

theorem wit_SafetyIslandFailsSafe_outputs :
    ((islandS .off (some (0, true, none))).saf.a.outs[0]?.map (·.st)) = some .off ∧
    ((islandS .test (some (0, true, some true))).saf.a.outs[0]?.map (·.pulse)) = some (some (0, true, some true)) ∧
    ((islandS .test (some (0, true, some false))).saf.a.outs[0]?.map (·.st)) = some .test ∧
    ((islandS .test none).saf.cfg.map (fun c => c.outs[0]?)) = some (some outA) := by
  decide +kernel

theorem wit_SafetyIslandFailsSafe_heartbeat :
    let s : State := { runS with saf := { runS.saf with sinceHb := 40 } }
    40 ≤ s.saf.sinceHb := by
  decide +kernel

theorem wit_SafetyIslandFailsSafe_samples :
    (let w : SafSwitch := { ref := r5, cfg := { seq := 1, bank := 0, digest := [], bytes := [], pairs := [], funcs := [], outs := [outA] }, slots := [0, 1] }
     let s : State := { runS with saf := { runS.saf with switch := some w } }
     s.saf.switch = some w ∧ w.ready = false ∧ w.cfg.bank = 0 ∧ w.first = false) ∧
    (let r : SafRaw := { x := 0, y := 0, rb := 0, edm := 0, pinsOk := true }
     let s : State := { islandS .on none with saf := { (islandS .on none).saf with s := some 4 } }
     s.saf.s.map (· + 1) = some 5 ∧ 5 % 4 ≠ 0 ∧ r.pinsOk = true ∧ ({ r with pinsOk := false } : SafRaw).pinsOk = false) := by
  decide +kernel

/-- With no bank written there is no newest valid set. -/
theorem wit_SafetyIslandFailsSafe_start : runS.saf.newest = none ∧ runS.saf.switch = none := by
  decide +kernel

/-- Output 0 after a sample with every function permitting or none, in a state of its own. -/
def Sys2Proof.Tests.conds (permit : Bool) : List SafFunc := List.replicate 32 { st := if permit then .permit else .demand }

theorem wit_SafetyIslandFailsSafe_table :
    let v : MainView := { arrived := [], lost := false }
    (∀ f, f < 32 → bitOf outA.funcs f = true → ((conds true).getD f {}).st = .permit) ∧ ¬(∀ f, f < 32 → bitOf outA.funcs f = true → ((conds false).getD f {}).st = .permit) ∧
    v.hits outA = false ∧ ({ arrived := [.laneFault], lost := false } : MainView).hits { outA with lane := true } = true ∧ outA.reset = 0xFF ∧ outA.edmEn = false ∧ { outA with enabled := false }.enabled = false ∧
    (({ level := some true } : SafContact).step 2 true false).level = some true ∧ (({} : SafContact).step 2 false false).level ≠ some true ∧
    ({ st := .on, due := 5, entered := 3, wrong := 1 } : SafOut).due ≤ 5 ∧ 5 < ({ st := .on, due := 6, entered := 3, wrong := 1 } : SafOut).due ∧ ({ st := .on, due := 6, entered := 3, wrong := 1 } : SafOut).entered + 2 ≤ 5 ∧
    ({ st := .off, left := 3, wrong := 1 } : SafOut).left + 2 ≤ 5 := by
  decide +kernel

/-- The header of a set of SEQ 1 with everything else 0, as bank A holds it, and its CRC, worked out outside the model. -/
def Sys2Proof.Tests.setA : List Byte := leBytes 4 0x4A4E4F43 ++ leBytes 2 1 ++ leBytes 2 0 ++ leBytes 4 1 ++ List.replicate 48 0 ++ leBytes 4 0x03005FBC

/-- The CRC register over a part of a message. -/
def Sys2Proof.Tests.crcOver (c : Nat) (l : List Byte) : Nat := l.foldl (fun c b => crcSteps 8 (c ^^^ b.toNat)) c

theorem test_crc_over_append {c d e : Nat} {a b : List Byte} (h : crcOver c a = d) (k : crcOver d b = e) : crcOver c (a ++ b) = e := by
  unfold crcOver at *
  rw [List.foldl_append, h, k]

theorem test_crc_of_register {a b : List Byte} {v w : Nat} (e : a = b) (h : crcOver 0xFFFFFFFF b = v) (k : v ^^^ 0xFFFFFFFF = w) : crc32c a = w := by
  subst e h k
  rfl

theorem test_set_tail : slice setA 64 1408 = List.replicate 176 0 ++ (List.replicate 176 0 ++ (List.replicate 176 0 ++ (List.replicate 176 0 ++ (List.replicate 176 0 ++ (List.replicate 176 0 ++ (List.replicate 176 0 ++ (List.replicate 176 0))))))) := by
  have : setA.drop 64 = [] := by decide +kernel
  simp only [slice, this, List.take_nil, List.length_nil, List.nil_append, List.replicate_append_replicate, Nat.sub_zero, Nat.reduceAdd]

theorem test_set_crc : setCrc setA = 0x03005FBC := by
  have h0 : crcOver 0xFFFFFFFF (slice setA 0 60 ++ leBytes 4 0) = 0xA5D1B22F := by decide +kernel
  have h1 : crcOver 0xA5D1B22F (List.replicate 176 0) = 0x434105A6 := by decide +kernel
  have h2 : crcOver 0x434105A6 (List.replicate 176 0) = 0x2FF79AE3 := by decide +kernel
  have h3 : crcOver 0x2FF79AE3 (List.replicate 176 0) = 0x02DB523D := by decide +kernel
  have h4 : crcOver 0x02DB523D (List.replicate 176 0) = 0xDDB1EFED := by decide +kernel
  have h5 : crcOver 0xDDB1EFED (List.replicate 176 0) = 0xEEF9C203 := by decide +kernel
  have h6 : crcOver 0xEEF9C203 (List.replicate 176 0) = 0x8A3CF942 := by decide +kernel
  have h7 : crcOver 0x8A3CF942 (List.replicate 176 0) = 0x044A5C4C := by decide +kernel
  have h8 : crcOver 0x044A5C4C (List.replicate 176 0) = 0xFCFFA043 := by decide +kernel
  exact test_crc_of_register (congrArg (fun l => slice setA 0 60 ++ leBytes 4 0 ++ l) test_set_tail) (test_crc_over_append h0 (test_crc_over_append h1 (test_crc_over_append h2 (test_crc_over_append h3 (test_crc_over_append h4 (test_crc_over_append h5 (test_crc_over_append h6 (test_crc_over_append h7 h8)))))))) (by decide +kernel)

/-- MAGIC, FORMAT and CRC of the set are correct, which is all that R422 asks of a bank. -/
theorem test_set_is_valid : setValid setA = true := by
  unfold setValid
  rw [test_set_crc]
  decide +kernel

theorem test_newest_is_the_valid_bank {i : SafIsland} {b : List Byte} (ha : i.bankA = some b) (hb : i.bankB = none) (h : setValid b = true) : i.newest = some (cfgOf b 0) := by
  simp [SafIsland.newest, ha, hb, h]

theorem wit_SafetyIslandFailsSafe_sets :
    let w (ready first : Bool) : SafSwitch := { ref := r5, cfg := cfgOf setA 0, slots := [0, 1], ready := ready, first := first }
    let s (x : SafSwitch) : State := { islandS .on none with saf := { (islandS .on none).saf with switch := some x, bankA := some setA, bankB := none } }
    (s (w true true)).saf.newest = some (cfgOf setA 0) ∧ (cfgOf setA 0).digest = (w true true).cfg.digest ∧ (s (w true true)).saf.switch = some (w true true) ∧ (s (w true false)).saf.switch = some (w true false) ∧
    (s (w false true)).saf.switch = some (w false true) ∧ (islandS .on none).saf.switch = none := by
  exact ⟨test_newest_is_the_valid_bank rfl rfl test_set_is_valid, rfl, rfl, rfl, rfl, by decide +kernel⟩

theorem wit_SafetyIslandFailsSafe_compare :
    let at_ (k : Nat) (cfg : Option SafCfg) (cause : Nat) : State := { islandS .on none with saf := { (islandS .on none).saf with s := some k, cfg := cfg, cause := cause } }
    (at_ 4 none 0).saf.cfg = none ∧ (4 + 1) % 4 ≠ 0 ∧ (7 + 1) % 4 = 0 ∧ (at_ 7 none 0).mainRuns = true ∧ (at_ 4 none 7).saf.cause ≠ 0 ∧ diffTwice [[3], [3]] = true ∧ diffTwice [[3], [4]] = false ∧
    ({ at_ 7 none 0 with saf := { (at_ 7 none 0).saf with diffs := [[3], [3]] } } : State).saf.diffs = [[3], [3]] ∧
    (∀ i ∈ [44999, 55001], i < 45000 ∨ 55000 < i) ∧ ¬(45000 < 45000 ∨ 55000 < 45000) ∧ State.reset.saf.running = false ∧ (islandS .on none).fab.failed = [] ∧
    ((islandS .on none).saf.cfg.map (fun c => decide (c.outs.length ≤ (11 : Fin 12).val))) = some true := by
  decide +kernel

/-- The words of SAF_PROPOSE with an eight-letter password. -/
def Sys2Proof.Tests.proposeWords (pw : Nat) : List Nat :=
  8 :: pw :: pw :: List.replicate 14 0 ++ setWords

/-- A provisioned device with a stored password and wrong passwords counted. -/
def Sys2Proof.Tests.pwS (wrongs : Nat) (lock : Option Nat) (p : Option SafProposal) : State :=
  let s := maintS.wr Reg.SEC_LC_STATE 2
  { s with saf := { s.saf with password := some ([1], sha256 ([1] ++ List.replicate 8 0x41)), wrongs := wrongs, lockEnd := lock, proposal := p } }

theorem wit_SafetyChangesNeedPasswordAndTwoApprovals_propose :
    let args := proposeWords 0x41414141
    Admitted (pwS 0 none none) 0x0D04 ∧ 385 ≤ args.length ∧ argN args 0 ≤ 64 ∧ setCheck (slice (argBytes args 17) 0 1472) = 0 ∧ (pwS 0 none none).saf.password.isSome = true ∧
    (pwS 0 none none).pwdRight (pwdAt args 8 1) = true ∧ 32 ≤ r5.bufLen ∧ (pwS 0 none none).saf.switch = none ∧ (pwS 0 none none).pwdRight (pwdAt (proposeWords 0x42424242) 8 1) = false ∧ (pwS 3 none none).saf.wrongs < 4 ∧ 4 ≤ (pwS 4 none none).saf.wrongs ∧
    (pwS 0 (some 5) none).saf.lockEnd.isSome = true ∧ setCheck (slice (argBytes (args.take 17 ++ List.replicate 368 0) 17) 0 1472) ≠ 0 := by
  unfold Admitted; decide +kernel

theorem wit_SafetyChangesNeedPasswordAndTwoApprovals_password :
    let args := 8 :: 8 :: List.replicate 32 0x41414141
    Admitted (pwS 0 none none) 0x0D06 ∧ 34 ≤ args.length ∧ pwdOk (pwdAt args 8 18) = true ∧ (pwS 0 none none).pwdRight (pwdAt args 8 2) = true ∧
    Admitted (pwS 0 none none) 0x0D07 ∧ (pwS 0 none none).pwdRight (pwdAt (8 :: List.replicate 16 0x41414141) 8 1) = true := by
  unfold Admitted; decide +kernel

theorem wit_SafetyChangesNeedPasswordAndTwoApprovals_rest :
    let p : SafProposal := { change := .restart, digest := List.replicate 32 0, propSeq := 1, at_ := 0, slots := [0] }
    let s := pwS 0 none (some p)
    let late : State := { s with time := { s.time with run := tenMinutes } }
    (∀ op ∈ [0x0D01, 0x0D02, 0x0D03, 0x0D05, 0x0D08], Admitted s op) ∧ s.saf.proposal = some p ∧ p.digest = slice (argBytes (List.replicate 104 0) 0) 0 32 ∧ s.runNs < p.at_ + tenMinutes ∧
    p.at_ + tenMinutes ≤ late.runNs ∧ (pwS 0 none none).saf.proposal = none ∧ slice (argBytes (List.replicate 104 0) 0) 0 32 ≠ (pwS 0 none none).saf.expired ∧
    s.approver (approvalMsg 1 1 (List.replicate 32 0)) [] = none ∧ judge (s.safMay .restart) = none ∧ (pwS 0 (some 5) none).saf.lockEnd = some 5 ∧
    368 ≤ r5.bufLen ∧ 1512 ≤ r5.bufLen ∧ (islandS .on none).saf.cfg.isSome = true ∧ runS.saf.cfg = none := by
  unfold Admitted; decide +kernel

theorem wit_SafetyChangesNeedPasswordAndTwoApprovals_refused :
    let s := pwS 0 none none
    64 < argN [65] 0 ∧ ([8] : List Nat).length < 17 ∧ ([8] : List Nat).length < 34 ∧ ({ r5 with bufLen := 31 } : CmdRef).bufLen < 32 ∧ runS.saf.password = none ∧ argN [8, 7] 1 < 8 ∧ 64 < argN [8, 65] 1 ∧
    (∃ c ∈ pwdAt (8 :: 8 :: List.replicate 32 0x1F1F1F1F) 8 18, c.toNat < 0x20) ∧ (∀ c ∈ pwdAt (8 :: 8 :: List.replicate 32 0x7E7E7E7E) 8 18, 0x20 ≤ c.toNat ∧ c.toNat ≤ 0x7E) ∧
    ([0] : List Nat).length < 104 ∧ ({ s with saf := { s.saf with expired := List.replicate 32 0 } } : State).saf.expired = slice (argBytes (List.replicate 104 0) 0) 0 32 ∧
    ({ r5 with bufLen := 367 } : CmdRef).bufLen < 368 ∧ ({ r5 with bufLen := 1511 } : CmdRef).bufLen < 1512 ∧ s.saf.logSeq < argN [1, 1] 0 ∧
    (let l : State := { s with saf := { s.saf with log := [List.replicate 64 0], logSeq := 1 } }
     l.saf.logSeq + 1 - l.saf.log.length ≤ argN [1, 1] 0 ∧ argN [1, 1] 0 ≤ l.saf.logSeq ∧ argN [1, 0] 1 = 0 ∧ 64 < argN [1, 65] 1 ∧ ({ r5 with bufLen := 63 } : CmdRef).bufLen < 64 * 1) ∧
    s.keyMaintOk = true ∧ (runS.wr Reg.SEC_LC_STATE 2).keyMaintOk = false ∧ runS.lc = 0 ∧ 5 ≤ (pwS 0 (some 5) none).runNs + 5 ∧ (pwS 0 (some 5) none).runNs < 5 := by
  refine ⟨by decide, by decide, by decide, by decide, by decide +kernel, by decide, by decide, ⟨0x1F, by decide +kernel, by decide⟩, by decide +kernel, by decide, by decide +kernel, by decide, by decide, by decide +kernel, by decide +kernel,
    by decide +kernel, by decide +kernel, by decide +kernel, by decide +kernel, by decide +kernel⟩

/-- The arguments of an approval of a safety proposal by slot 0, signed outside the model with the key of the tests for PROP_SEQ 1, a digest of zeros and a die serial number of 0 (R425, R495). -/
def Sys2Proof.Tests.safApproveWords : List Nat :=
  List.replicate 8 0 ++ wordsOf (beBytes 384 0x6dc34a682caac31b87fe17ffcb4fbcb242c9ee5d980aa6482ae23793f1c2c1290f325eedfb8fa5d755af2aa3cae7d3c8a250b7b177a2807b9beb80a38027083494c976c06d78c0d58f88570405f1d959e00a3307f3f225518ccb42218fb0e156784af3656358e6cf773faa43d0aa7b611f62c904cf334b08bcad2bfa543196c07abe3ff7ff05bbf8c9d32d27446a6996c7303f6d6f4b26629593c5bd8829a70add842ca9b490493f400b026c7d9ce85ed72c2050cf3cff49b4af24f131b35b6a16ea2490a55950310e7c560cc776b3523b27fa9cc6b056eeb671b9a1db76f3718f1b7aa0181becf044f9078ec8c9944dc8feb8ca89d3e0ea1382ccea0cd04c140abbe293a0353f7a67437a0e32a95df25e35a78d5095a716752d2f02268938743460c7ea586657c00db0bb8ecfe5d5d961a7c6077a35a3deff543f96c48f1a1fcd6c4575d7fb8bf7f8e304021ad6aa43509724d64b92652af051e18c4985b5af7b49a7389acc87bf8501955aa1ede5fb6f1fcc1b6e8eeba0eb6beb2f7d7dc255)

/-- The part of SafetyChangesNeedPasswordAndTwoApprovals that rests on a signature holds of a part whose serial number, a free value, is 0: slot 0 approves, where none, the same or another slot has approved before. -/
theorem wit_SafetyChangesNeedPasswordAndTwoApprovals_signed : Config.dieSerial = 0 →
    let p (slots : List Nat) : SafProposal := { change := .restart, digest := List.replicate 32 0, propSeq := 1, at_ := 0, slots := slots }
    let s : State := { pwS 0 none (some (p [1])) with sec := { (pwS 0 none none).sec with bank0 := some { seq := 1, body := { authKeys := [testKey, [2], [], []], lc := 2 } } } }
    s.approver (approvalMsg 1 1 (List.replicate 32 0)) (slice (argBytes safApproveWords 8) 0 384) = some 0 ∧ (p []).slots = [] ∧ (p [0]).slots = 0 :: [] ∧ (p [1]).slots = 1 :: [] := by
  intro h
  unfold State.approver State.approves approvalMsg dieSerialBytes
  rw [h]
  decide +kernel

/-! Commands that the check of well-formedness refuses, one for each check. -/

theorem test_wf_refuses_references :
    wellFormed (.secStatus { r5 with ring := 128 } []) = false ∧ wellFormed (.secStatus { r5 with handle := 2 ^ 32 } []) = false ∧ wellFormed (.secStatus { r5 with tag := 2 ^ 32 } []) = false ∧
    wellFormed (.secStatus { r5 with bufAddr := 2 ^ 64 } []) = false ∧ wellFormed (.secStatus { r5 with bufLen := 2 ^ 32 } []) = false ∧ wellFormed (.secStatus r5 [2 ^ 32]) = false ∧
    wellFormed (.secStatus { r5 with ring := 255 } [2 ^ 32 - 1]) = true := by
  decide +kernel

theorem test_wf_refuses_lists :
    wellFormed (.registerWrite 0 [] []) = false ∧ wellFormed (.bar2Write 0 [] []) = false ∧ wellFormed (.unassignedAccess 0 true 0) = false ∧ wellFormed (.debugBlockAccess 0 true 3 0 []) = false ∧
    wellFormed (.baseMark [] [5] [] [] [] []) = false ∧ wellFormed (.baseMark [] [] [64] [] [] []) = false ∧ wellFormed (.baseMark [] [] [] [64] [] []) = false ∧ wellFormed (.baseMark [] [] [] [] [64] []) = false ∧
    wellFormed (.baseMark [] [] [] [] [] [24]) = false ∧ wellFormed (.baseMark [] (List.replicate 256 0) [63] [63] [63] [23]) = true ∧ wellFormed (.fastMark [64]) = false ∧ wellFormed (.converterStart [24]) = false ∧
    wellFormed (.conversionResult 0 0 [24]) = false := by
  decide +kernel

theorem test_wf_refuses_reads :
    (∀ off : Fin 4, wellFormed (.tnsNsRead off 0) = false ∧ wellFormed (.tnsNsRead off 1) = true ∧ wellFormed (.tnsDomainNsRead 0 off 0) = false ∧ wellFormed (.tioSecRead 0 off 0) = false ∧
      wellFormed (.adcResRead 0 0 off 0) = false ∧ wellFormed (.encIndexRead 0 off 0) = false ∧ wellFormed (.ctrLoRead 0 off 0) = false ∧ wellFormed (.vecStampRead 0 off 0) = false) := by
  decide +kernel

theorem test_wf_refuses_traffic :
    let req (a : Arb) (t : Target) (p : List Nat) : List FabEvent := [.enter a .host .host t .plain true 0 p]
    (∀ a ∈ [Arb.bank 64 0, .bank 0 3, .router 64 0, .router 0 5, .edge 32, .window 8, .ddr 2], wellFormed (.clauseLapse a) = false ∧ wellFormed (.cellSeal 0 0 [.phase2 a]) = false ∧ wellFormed (.baseMark [.periods a 1] [] [] [] [] []) = false) ∧
    (∀ t ∈ [Target.bank 64 0, .bank 0 3, .window 8, .ddr 2], wellFormed (.functionLevelReset (req .mram t [])) = false) ∧
    wellFormed (.stewardWatchdog (req .mram .mram [131072])) = false ∧ wellFormed (.perstNAssert (req (.bank 63 2) (.bank 63 2) [131071])) = true := by
  decide +kernel

theorem test_wf_refuses_launches :
    let d (stamp id len : Nat) : List LaunchDesc := [{ ref := r5, stamp := stamp, queue := 0, id := id, data := List.replicate len 0 }]
    wellFormed (.launchTimeReached (.eth 0) (d (2 ^ 64) 0 60)) = false ∧ wellFormed (.launchTimeReached (.eth 0) (d 0 (2 ^ 32) 60)) = false ∧ wellFormed (.launchTimeReached (.eth 0) (d 0 0 1519)) = false ∧
    wellFormed (.launchTimeReached (.can 0) (d 0 0 8)) = true := by
  decide +kernel

theorem test_wf_refuses_frames :
    (let f := frameOf 2 []
     wellFormed (.hello 0 { f with typ := 256 }) = false ∧ wellFormed (.hello 0 { f with flags := 2 }) = false ∧ wellFormed (.hello 0 { f with src := 256 }) = false ∧ wellFormed (.hello 0 { f with dst := 256 }) = false ∧
     wellFormed (.hello 0 { f with hop := 5 }) = false ∧ wellFormed (.hello 0 { f with pathLen := 5 }) = false ∧ wellFormed (.hello 0 { f with path := 2 ^ 16 }) = false ∧ wellFormed (.hello 0 { f with lseq := 2 ^ 16 }) = false ∧
     wellFormed (.hello 0 { f with tag := 2 ^ 32 }) = false ∧ wellFormed (.hello 0 { f with payload := [1] }) = false ∧ wellFormed (.hello 0 { f with payload := List.replicate 1032 0 }) = false ∧ wellFormed (.hello 0 f) = true) ∧
    wellFormed (.ethFrameRx 0 []) = false ∧ wellFormed (.neighborSolicitation 0 []) = false ∧ wellFormed (.canFrameRx 0 (2 ^ 29) [] 0 false) = false ∧ wellFormed (.canFrameRx 0 0 (List.replicate 65 0) 0 false) = false ∧
    wellFormed (.canFrameRx 0 0 [] (2 ^ 64) false) = false := by
  decide +kernel

theorem test_wf_refuses_numbers :
    wellFormed (.stepTimeout 0 1024) = false ∧ wellFormed (.vbGet 0 1024 0) = false ∧ wellFormed (.vbGet 0 0 16384) = false ∧ wellFormed (.canWindowStart 0 64 0) = false ∧ wellFormed (.canWindowStart 0 63 (2 ^ 32)) = false ∧ wellFormed (.canBusError 0 65536 0) = false ∧
    wellFormed (.lackTimeout 0 65536) = false ∧ wellFormed (.remoteCommandTimeout (2 ^ 32)) = false ∧ wellFormed (.stateRx 0 (2 ^ 64) 0 1 none) = false ∧ wellFormed (.stateRx 0 0 0 0 none) = false ∧ wellFormed (.manifest 65536 { n := 0, cellTime := 0 }) = false := by
  decide +kernel

/-! Single steps and operations against numbers that come from outside the model. -/

/-- The check value of CRC-32C over the nine digits. -/
theorem test_crc32c_check_value : crc32c [0x31, 0x32, 0x33, 0x34, 0x35, 0x36, 0x37, 0x38, 0x39] = 0xE3069283 := by decide +kernel

/-- SHA-256 of the three letters abc, from FIPS 180-4. -/
theorem test_sha256_abc : sha256 [0x61, 0x62, 0x63] =
    [0xba, 0x78, 0x16, 0xbf, 0x8f, 0x01, 0xcf, 0xea, 0x41, 0x41, 0x40, 0xde, 0x5d, 0xae, 0x22, 0x23, 0xb0, 0x03, 0x61, 0xa3, 0x96, 0x17, 0x7a, 0x9c, 0xb4, 0x10, 0xff, 0x61, 0xf2, 0x00, 0x15, 0xad] := by
  decide +kernel

/-- binary32 results worked out by hand: 1 + 2^-24 ties to even, 1/3 rounds up, 3 × 5, and an overflow to infinity. -/
theorem test_f32_rounds_to_nearest_even :
    F32.add 0x3F800000 0x33800000 = 0x3F800000 ∧ F32.add 0x3F800001 0x33800000 = 0x3F800002 ∧ F32.div 0x3F800000 0x40400000 = 0x3EAAAAAB ∧ F32.mul 0x40400000 0x40A00000 = 0x41700000 ∧
    F32.mul 0x7F7FFFFF 0x40000000 = 0x7F800000 := by
  decide +kernel

/-- A step takes the front command and leaves the rest waiting. -/
theorem test_step_takes_the_front :
    goes (step { State.reset with pending := [.snapshotFreezeWrite, .tnsNsRead 0 4] }) (fun t => decide (t.pending = [.tnsNsRead 0 4]) && t.flag Reg.CTR_SNAP_CTL_BUSY) = true := by
  decide +kernel

/-- INT32 addition wraps at 2^31 (R220). -/
theorem test_lg_add_wraps :
    let s := roleS (verbA .set 0)
    goes (exec (.lgAdd 2 0x00200003) { s with logics := [(2, { words := [(3, 1)], scan := { wacc := 0x7FFFFFFF, pc := 4 } })] })
      (fun t => decide ((t.logic 2).scan.wacc = 0x80000000) && decide ((t.logic 2).scan.pc = 5)) = true := by
  decide +kernel

/-- POINT_WRITE waits for the mark, and the point then reads the value (R124). -/
theorem test_point_write_is_latched :
    goes (exec (.pointWrite r5 [1, 0, 42]) (runImg ptImg)) (fun t => decide (t.pts.cut = []) && decide ((t.applyHostWrites.work 0).own = 42)) = true := by
  decide +kernel

/-- The third equal consistent sample of the key agrees RUN, code 1 (R229, R230). -/
theorem test_key_agrees_after_three :
    goes (exec (.keySample 1 2) { runS with key := { runS.key with run := 2, runCode := 1 } }) (fun t => decide (t.key.agreed = some 1)) = true ∧
    goes (exec (.keySample 1 2) { runS with key := { runS.key with run := 1, runCode := 1 } }) (fun t => decide (t.key.agreed = runS.key.agreed)) = true := by
  decide +kernel

/-- A TAIL write 129 beyond HEAD sets IDX_ERR and leaves TAIL (R462). -/
theorem test_tail_beyond_the_ring :
    goes (exec (.tailWrite 5 129) ringS) (fun t => t.flag Reg.RNG_STAT_IDX_ERR [5] && decide (t.rd Reg.RNG_CMD_TAIL_TAIL [5] = 0)) = true ∧
    goes (exec (.tailWrite 5 128) ringS) (fun t => !t.flag Reg.RNG_STAT_IDX_ERR [5] && decide (t.rd Reg.RNG_CMD_TAIL_TAIL [5] = 128)) = true := by
  decide +kernel
end

section
/-! PROOFS. The register file: fields read back, the strict order of its offsets, host writes field by field and by width (R2 to R9, R574, R578; O9, O10, O12, O13). -/

namespace Sys2Proof.Machine

open Sys2Proof.Claims

/-! Bits of a word. -/

theorem bitOf_eq_testBit (x i : Nat) : bitOf x i = x.testBit i := by
  rw [bitOf, Nat.testBit_eq_decide_div_mod_eq]

/-- A bit within a field is the bit of the field's value, counted from the field's low end. -/
theorem testBit_of_bitsOf (x hi lo i : Nat) (hlo : lo ≤ i) (hhi : i ≤ hi) : x.testBit i = (bitsOf x hi lo).testBit (i - lo) := by
  have inField : i - lo < hi + 1 - lo := by omega
  simp [testBit_bitsOf, inField, Nat.add_sub_cancel' hlo]

/-- Taking the common bits of y and x away from y clears the bits of x. -/
theorem testBit_sub_and (y x i : Nat) : (y - (y &&& x)).testBit i = (y.testBit i && !x.testBit i) := by
  have le : y &&& x ≤ y := Nat.and_le_left
  induction i generalizing y x with
  | zero =>
    have low : (y &&& x) % 2 = 1 ↔ y % 2 = 1 ∧ x % 2 = 1 := Nat.and_mod_two_eq_one
    simp only [Nat.testBit_zero]
    rw [Bool.eq_iff_iff]
    simp only [Bool.and_eq_true, Bool.not_eq_true', decide_eq_true_eq, decide_eq_false_iff_not]
    omega
  | succ i ih =>
    have low : (y &&& x) % 2 = 1 ↔ y % 2 = 1 ∧ x % 2 = 1 := Nat.and_mod_two_eq_one
    have half : (y - (y &&& x)) / 2 = y / 2 - (y / 2 &&& x / 2) := by
      rw [← Nat.and_div_two]; omega
    simp only [Nat.testBit_succ]
    rw [half, ih _ _ Nat.and_le_left]

/-! Fields of a register word (R3, R5). -/

/-- Two fields share no bit. -/
def FieldDesc.apart (f g : FieldDesc) : Prop := g.hi < f.lo ∨ f.hi < g.lo

/-- The fields of a register lie within its 32 bits and share no bit. -/
def RegDesc.laidOut (d : RegDesc) : Prop := (∀ f ∈ d.fields, f.lo ≤ f.hi ∧ f.hi < 32) ∧ d.fields.Pairwise FieldDesc.apart

/-- Every register of the index is laid out (R578). -/
theorem Reg.table_laidOut : ∀ d ∈ Reg.table, d.laidOut := by
  unfold RegDesc.laidOut FieldDesc.apart
  decide +kernel

/-- Every field of a list set to a value of its own. -/
def setFields (val : FieldDesc → Nat) (l : List FieldDesc) (x : Nat) : Nat := l.foldl (fun a f => setBits a f.hi f.lo (val f)) x

/-- Setting fields that do not overlap a field keeps it. -/
theorem bitsOf_setFields_apart (val : FieldDesc → Nat) (l : List FieldDesc) (x : Nat) (f : FieldDesc)
    (ordered : ∀ g ∈ l, g.lo ≤ g.hi) (apart : ∀ g ∈ l, f.apart g) : bitsOf (setFields val l x) f.hi f.lo = bitsOf x f.hi f.lo := by
  induction l generalizing x with
  | nil => rfl
  | cons g l ih =>
    have hg := ordered g (by simp)
    calc bitsOf (setFields val l (setBits x g.hi g.lo (val g))) f.hi f.lo
        = bitsOf (setBits x g.hi g.lo (val g)) f.hi f.lo :=
          ih _ (fun k hk => ordered k (by simp [hk])) (fun k hk => apart k (by simp [hk]))
      _ = bitsOf x f.hi f.lo := bitsOf_setBits_ne _ _ _ _ _ _ (by omega) (apart g (by simp)).symm

/-- Of fields that share no bit, each reads as the value it was set to, cut to its width. -/
theorem bitsOf_setFields_mem (val : FieldDesc → Nat) (l : List FieldDesc) (x : Nat) (f : FieldDesc)
    (ordered : ∀ g ∈ l, g.lo ≤ g.hi) (apart : l.Pairwise FieldDesc.apart) (mem : f ∈ l) :
    bitsOf (setFields val l x) f.hi f.lo = val f % 2 ^ (f.hi + 1 - f.lo) := by
  induction l generalizing x with
  | nil => simp at mem
  | cons g l ih =>
    obtain ⟨first, rest⟩ := List.pairwise_cons.mp apart
    have orderedRest : ∀ k ∈ l, k.lo ≤ k.hi := fun k hk => ordered k (by simp [hk])
    rcases List.mem_cons.mp mem with rfl | mem
    · exact (bitsOf_setFields_apart val l _ f orderedRest first).trans (bitsOf_setBits_same _ _ _ _)
    · exact ih _ orderedRest rest mem

theorem setFields_lt (val : FieldDesc → Nat) (l : List FieldDesc) (x : Nat) (within : ∀ g ∈ l, g.lo ≤ g.hi ∧ g.hi < 32) (hx : x < 2 ^ 32) :
    setFields val l x < 2 ^ 32 := by
  induction l generalizing x with
  | nil => exact hx
  | cons g l ih =>
    obtain ⟨hlo, hhi⟩ := within g (by simp)
    exact ih _ (fun k hk => within k (by simp [hk])) (setBits_lt _ _ _ _ _ (by omega) (by omega) hx)

/-! Host writes of a word (R5 to R9). -/

/-- A field's access code never widens the field. -/
theorem fieldWrite_lt (acc : Access) (y x hw n : Nat) (keyOn : Bool) (hy : y < 2 ^ n) (hx : x < 2 ^ n) (hhw : hw < 2 ^ n) :
    fieldWrite acc y x hw keyOn < 2 ^ n := by
  cases acc with
  | rw => exact hx
  | w1c => exact Nat.or_lt_two_pow (by omega) hhw
  | w1s => exact Nat.or_lt_two_pow hy hx
  | rwk => cases keyOn <;> assumption
  | ro | wo | rwa => exact hy

/-- A host write of a word sets every field of the register to what its access code makes of it. -/
theorem wordWrite_eq_setFields (d : RegDesc) (old v hw : Nat) (keyOn : Bool) :
    wordWrite d old v hw keyOn =
      setFields (fun f => fieldWrite f.acc (bitsOf old f.hi f.lo) (bitsOf v f.hi f.lo) (bitsOf hw f.hi f.lo) keyOn) d.fields old := rfl

/-- After a host write every field of a register holds what its access code makes of it. -/
theorem bitsOf_wordWrite (d : RegDesc) (old v hw : Nat) (keyOn : Bool) (laid : d.laidOut) (f : FieldDesc) (mem : f ∈ d.fields) :
    bitsOf (wordWrite d old v hw keyOn) f.hi f.lo =
      fieldWrite f.acc (bitsOf old f.hi f.lo) (bitsOf v f.hi f.lo) (bitsOf hw f.hi f.lo) keyOn := by
  obtain ⟨within, apart⟩ := laid
  rw [wordWrite_eq_setFields, bitsOf_setFields_mem _ d.fields old f (fun g hg => (within g hg).1) apart mem]
  apply Nat.mod_eq_of_lt
  exact fieldWrite_lt _ _ _ _ _ _ (bitsOf_lt _ _ _) (bitsOf_lt _ _ _) (bitsOf_lt _ _ _)

theorem wordWrite_lt (d : RegDesc) (old v hw : Nat) (keyOn : Bool) (laid : d.laidOut) (hold : old < 2 ^ 32) :
    wordWrite d old v hw keyOn < 2 ^ 32 := by
  obtain ⟨within, -⟩ := laid
  exact setFields_lt _ _ _ within hold

@[simp] theorem State.count_keyOk (s : State) (e n : Nat) : (s.count e n).keyOk = s.keyOk := rfl

/-- The state with the refused RWA and RWK fields of a write counted, once each way (R8, R9). -/
def State.countRefused (s : State) (d : RegDesc) (ix : List Nat) (v : Nat) : State :=
  let u := if carriesChange d (s.reg d ix) v .rwa then s.count 0x202 else s
  if carriesChange d (s.reg d ix) v .rwk && !s.keyOk then u.count 0x203 else u

theorem State.countRefused_frame (s : State) (d : RegDesc) (ix : List Nat) (v : Nat) :
    s.countRefused d ix v = { s with ctr := (s.countRefused d ix v).ctr } := by
  unfold State.countRefused
  split <;> split <;> rfl

@[simp] theorem State.countRefused_regs (s : State) (d : RegDesc) (ix : List Nat) (v : Nat) : (s.countRefused d ix v).regs = s.regs := by
  rw [State.countRefused_frame]

/-- What a field-by-field write does: it counts the refusals and stores one word. -/
theorem State.writeFields_eq (s : State) (d : RegDesc) (ix : List Nat) (v hw : Nat) :
    s.writeFields d ix v hw = (s.countRefused d ix v).setReg d (wordWrite d (s.reg d ix) v hw s.keyOk) ix := by
  simp only [State.writeFields, State.countRefused]
  cases carriesChange d (s.reg d ix) v .rwa
  · simp only [Bool.false_eq_true, if_false]
    split <;> rfl
  · simp only [if_true, State.count_keyOk]
    split <;> rfl

theorem State.writeFields_reg_same (s : State) (d : RegDesc) (ix : List Nat) (v hw : Nat) (laid : d.laidOut) :
    (s.writeFields d ix v hw).reg d ix = wordWrite d (s.reg d ix) v hw s.keyOk := by
  rw [State.writeFields_eq, State.reg_setReg_same, Nat.mod_eq_of_lt (wordWrite_lt _ _ _ _ _ laid (s.reg_lt d ix))]

theorem State.writeFields_reg_ne (s : State) (d e : RegDesc) (ix jx : List Nat) (v hw : Nat) (h : regAddr e jx ≠ regAddr d ix) :
    (s.writeFields d ix v hw).reg e jx = s.reg e jx := by
  rw [State.writeFields_eq, State.reg_setReg_ne _ _ _ _ _ _ h, State.reg, State.countRefused_regs, State.reg]

theorem State.writeFields_frame (s : State) (d : RegDesc) (ix : List Nat) (v hw : Nat) :
    s.writeFields d ix v hw = { s with regs := (s.writeFields d ix v hw).regs, ctr := (s.countRefused d ix v).ctr } := by
  rw [State.writeFields_eq, State.countRefused_frame]
  rfl

/-- A field after a write of its register: what its access code makes of the field's old bits, the written ones and those that hardware sets (R5). -/
theorem State.writeFields_field (s : State) (d : RegDesc) (ix : List Nat) (v hw : Nat) (laid : d.laidOut) (f : FieldDesc) (mem : f ∈ d.fields) :
    bitsOf ((s.writeFields d ix v hw).reg d ix) f.hi f.lo =
      fieldWrite f.acc (bitsOf (s.reg d ix) f.hi f.lo) (bitsOf v f.hi f.lo) (bitsOf hw f.hi f.lo) s.keyOk := by
  rw [State.writeFields_reg_same s d ix v hw laid, bitsOf_wordWrite _ _ _ _ _ laid f mem]

/-- A bit of a W1C field stays where the write does not clear it, and is 1 where hardware sets it (R7). -/
theorem State.writeFields_w1c_bit (s : State) (d : RegDesc) (ix : List Nat) (v hw : Nat) (laid : d.laidOut) (f : FieldDesc) (mem : f ∈ d.fields)
    (acc : f.acc = .w1c) (i : Nat) (hlo : f.lo ≤ i) (hhi : i ≤ f.hi) :
    bitOf ((s.writeFields d ix v hw).reg d ix) i = ((bitOf (s.reg d ix) i && !bitOf v i) || bitOf hw i) := by
  have bit (x : Nat) : bitOf x i = (bitsOf x f.hi f.lo).testBit (i - f.lo) := by rw [bitOf_eq_testBit, testBit_of_bitsOf x _ _ _ hlo hhi]
  simp only [bit, State.writeFields_field s d ix v hw laid f mem, acc, fieldWrite, Nat.testBit_or, testBit_sub_and]

/-! Host writes by address (R2, R574). -/

theorem slice_eq_self (b : List Byte) : slice b 0 b.length = b := by simp [slice]

theorem slice_append_left (b c : List Byte) : slice (b ++ c) 0 b.length = b := by simp [slice]

theorem slice_append_right (b c : List Byte) : slice (b ++ c) b.length c.length = c := by simp [slice]

/-- A 32-bit write at an aligned BAR0 offset: the DBG block takes its own, a register any other. -/
def State.wordAccess (s : State) (w v hw : Nat) : State :=
  if 0x1F00000 ≤ w then s.dbgBlock w true 4 (BitVec.ofNat 32 v) else s.writeWord w v hw

/-- A write of four bytes at an aligned offset is one 32-bit write of the word they spell. -/
theorem State.writeBytes_word (s : State) (a : Nat) (b : List Byte) (hw : Nat) (aligned : a % 4 = 0) (len : b.length = 4) :
    s.writeBytes a b [hw] = s.wordAccess a (leNat b) hw := by
  have nonempty : b.isEmpty = false := List.isEmpty_eq_false_iff.mpr (List.ne_nil_of_length_pos (by omega))
  have rounds : (a + 4 - 1) / 4 + 1 - a / 4 = 1 := by omega
  have word : 4 * (a / 4) = a := by omega
  have whole : slice b 0 4 = b := len ▸ slice_eq_self b
  rw [State.writeBytes, nonempty, len, rounds]
  simp [State.wordAccess, forN, word, whole]

/-- A write of eight bytes at an aligned offset is two 32-bit writes, the lower address first. -/
theorem State.writeBytes_two_words (s : State) (a : Nat) (b c : List Byte) (g h : Nat) (aligned : a % 4 = 0) (lenb : b.length = 4) (lenc : c.length = 4) :
    s.writeBytes a (b ++ c) [g, h] = (s.wordAccess a (leNat b) g).wordAccess (a + 4) (leNat c) h := by
  have nonempty : (b ++ c).isEmpty = false := List.isEmpty_eq_false_iff.mpr (List.ne_nil_of_length_pos (by simp only [List.length_append]; omega))
  have rounds : (a + 8 - 1) / 4 + 1 - a / 4 = 2 := by omega
  have word0 : 4 * (a / 4) = a := by omega
  have word1 : 4 * (a / 4 + 1) = a + 4 := by omega
  have first : slice (b ++ c) 0 4 = b := lenb ▸ slice_append_left b c
  have second : slice (b ++ c) 4 4 = c := by simpa [lenb, lenc] using slice_append_right b c
  rw [State.writeBytes, nonempty, List.length_append, lenb, lenc, rounds]
  simp [State.wordAccess, forN, word0, word1, first, second]

/-- A write of 1 to 3 bytes within one word is a narrow write of that word. -/
theorem State.writeBytes_narrow (s : State) (a : Nat) (b : List Byte) (hw : List Nat) (one : 1 ≤ b.length) (within : a % 4 + b.length ≤ 4)
    (narrow : b.length < 4) : s.writeBytes a b hw = s.narrowWrite (a / 4 * 4) := by
  have nonempty : b.isEmpty = false := List.isEmpty_eq_false_iff.mpr (List.ne_nil_of_length_pos (by omega))
  have rounds : (a + b.length - 1) / 4 + 1 - a / 4 = 1 := by omega
  have part : a / 4 * 4 < a ∨ a + b.length < a / 4 * 4 + 4 := by omega
  simp [State.writeBytes, nonempty, rounds, forN, Nat.mul_comm 4, part]

/-- REGISTER_WRITE is the write of its bytes at its address. -/
theorem exec_registerWrite (addr : BitVec 25) (bytes : List Byte) (hw : List Word) (s : State) :
    exec (.registerWrite addr bytes hw) s = .next (s.writeBytes addr.toNat bytes (hw.map (·.toNat))) := rfl

/-- A word spelled in four bytes and read back. -/
theorem leNat_leBytes_word (v : Word) : leNat (leBytes 4 v.toNat) = v.toNat := by
  exact (leNat_leBytes 4 v.toNat).trans (Nat.mod_eq_of_lt v.isLt)

/-- A REGISTER_WRITE of one aligned word is one 32-bit write. -/
theorem exec_registerWrite_word (addr : BitVec 25) (v hw : Word) (s : State) (aligned : addr.toNat % 4 = 0) :
    exec (.registerWrite addr (leBytes 4 v.toNat) [hw]) s = .next (s.wordAccess addr.toNat v.toNat hw.toNat) := by
  rw [exec_registerWrite, List.map_singleton, State.writeBytes_word _ _ _ _ aligned (length_leBytes 4 _), leNat_leBytes_word]

/-- A 32-bit write at the offset of a register is its own behaviour or the field-by-field write. -/
theorem State.writeWord_register (s : State) (a v hw : Nat) (d : RegDesc) (ix : List Nat) (below : a < 0x1700000)
    (noMsix : ¬ (0x2C0000 ≤ a ∧ a < 0x2C0000 + 144 * 16)) (found : regAt a = some (d, ix)) :
    s.writeWord a v hw = (s.ownWrite d (ix.headD 0) (ix.getD 1 0) v hw).getD (s.writeFields d ix v hw) := by
  have assigned : unassigned a = false := by simp [unassigned, below]
  rw [State.writeWord, if_neg (by simp [assigned]), if_neg noMsix, found]
  dsimp only
  cases s.ownWrite d (ix.headD 0) (ix.getD 1 0) v hw <;> rfl

/-- What a narrow write counts: 0x201, and the count of its range (R504, R574). -/
theorem State.narrowWrite_eq (s : State) (w : Nat) : s.narrowWrite w =
    if 0x1700000 ≤ w ∧ w ≤ 0x1EFFFFF then (s.count 0x201).count 0x200
    else if 0x1F00000 ≤ w ∧ s.flag Reg.SEC_DBG_OPEN = false then (s.count 0x201).count 0x1F6
    else s.count 0x201 := by
  have gate : (s.count 0x201).flag Reg.SEC_DBG_OPEN = s.flag Reg.SEC_DBG_OPEN := rfl
  simp [State.narrowWrite, unassigned, gate]

/-- The first part of O13: one aligned word. -/
theorem wholeWordWriteReachesItsRegister : WholeWordWriteReachesItsRegister := by
  intro addr v hw s d ix aligned below noMsix found
  rw [exec_registerWrite_word _ _ _ _ aligned, State.wordAccess, if_neg (by omega), State.writeWord_register _ _ _ _ d ix below noMsix found]

/-- The second part of O13: 1 to 3 bytes of one word. -/
theorem narrowRegisterWriteIsDiscarded : NarrowRegisterWriteIsDiscarded := by
  intro addr bytes hw s one within narrow
  rw [exec_registerWrite, State.writeBytes_narrow _ _ _ _ one within narrow, State.narrowWrite_eq]

/-- The third part of O13: two aligned words. -/
theorem twoWordWriteIsTwoWrites : TwoWordWriteIsTwoWrites := by
  intro addr v w h1 h2 s aligned room
  have next : (addr + 4).toNat = addr.toNat + 4 := by
    rw [BitVec.toNat_add, show (4 : BitVec 25).toNat = 4 from rfl, Nat.mod_eq_of_lt (by omega)]
  refine ⟨_, exec_registerWrite_word addr v h1 s aligned, ?_⟩
  rw [exec_registerWrite_word _ _ _ _ (by omega), next, exec_registerWrite, List.map_cons, List.map_singleton,
    State.writeBytes_two_words _ _ _ _ _ _ aligned (length_leBytes 4 _) (length_leBytes 4 _), leNat_leBytes_word, leNat_leBytes_word]

/-- Settles O9: a field write is one store in the register file. -/
theorem registerFieldReadsBack : Obligations.RegisterFieldReadsBack := by
  intro s f v ix ordered within
  refine ⟨s.rd_wr_same f v ix within (by omega), ?_, ?_, rfl⟩
  · exact fun g sameReg _ _ apart => s.rd_wr_field f g v ix sameReg within (by omega) apart
  · exact fun d jx other => s.reg_setReg_ne f.reg d _ ix jx other

/-- Settles O10: the file is empty after reset, and a store in a sorted table keeps it sorted. -/
theorem registerFileKeepsStrictOrder : Obligations.RegisterFileKeepsStrictOrder := by
  refine ⟨rfl, fun d ix => ?_, fun s f v ix sorted => s.setReg_sorted f.reg _ ix sorted⟩
  have unlisted : State.reset.regs = [] := rfl
  simp [State.reg, unlisted, Tab.at', Tab.look]

/-- Settles O12: the fields of every register of the index lie apart, so each ends as its access code says. -/
theorem approvalAndKeyFieldsKeepTheirValue : Obligations.ApprovalAndKeyFieldsKeepTheirValue := by
  intro s d ix v hw mem _ _
  have laid := Reg.table_laidOut d mem
  refine ⟨fun f hf => ?_, fun e jx other => s.writeFields_reg_ne d e ix jx v hw other, ?_, ?_⟩
  · have field := s.writeFields_field d ix v hw laid f hf
    refine ⟨fun acc => ?_, fun acc => ?_, fun acc => ?_, s.writeFields_w1c_bit d ix v hw laid f hf⟩
    · rcases acc with acc | acc <;> rw [field, acc] <;> rfl
    · rw [field, acc]; rfl
    · rw [field, acc]; rfl
  · rw [State.writeFields_eq, State.setReg_ctr]; rfl
  · rw [State.writeFields_frame]

/-- Settles O13: each width is one equation of the write of bytes. -/
theorem registerWritesByWidth : Obligations.RegisterWritesByWidth :=
  ⟨wholeWordWriteReachesItsRegister, narrowRegisterWriteIsDiscarded, twoWordWriteIsTwoWrites⟩

end Sys2Proof.Machine
end

section
/-! PROOFS. What the role work of a cycle and of a fast sub-cycle leaves as it was: clocks, cells and all but its own state (R31, R161, R370). -/

namespace Sys2Proof.Machine

/-- The state without what role work, the sealing of points and the encoders at a fast mark may change: registers, records due and counted, points in work, role state, converters and what a role's work gives out to the fabric. -/
def State.roleFrame (s : State) : State :=
  { s with
    regs := [], host := {}, ctr := {}, recd := {}, conv := {}, fast := {}, loops := [], axes := [], pgs := [], seqs := [], logics := []
    pts := { s.pts with work := [], next := [] }, pair := { s.pair with fastUsed := [] }
    fab := { s.fab with done := [], moveDone := [], baseMoved := [], fastOut := [], reports := [], stage := .none } }

/-- Two states that differ in role work alone have the same clocks. -/
theorem State.time_of_roleFrame {s t : State} (h : t.roleFrame = s.roleFrame) : t.time = s.time := by
  show t.roleFrame.time = s.roleFrame.time
  rw [h]

/-- Two states that differ in role work alone have the same cells. -/
theorem State.cells_of_roleFrame {s t : State} (h : t.roleFrame = s.roleFrame) : t.fab.cells = s.fab.cells := by
  show t.roleFrame.fab.cells = s.roleFrame.fab.cells
  rw [h]

/-! Branches and folds. -/

theorem State.roleFrame_ite (c : Prop) [Decidable c] (s t : State) :
    (if c then s else t).roleFrame = if c then s.roleFrame else t.roleFrame := apply_ite _ _ _ _

@[simp] theorem forL_roleFrame {β : Type} (l : List β) (f : β → State → State) (s : State) (h : ∀ x s, (f x s).roleFrame = s.roleFrame) :
    (forL l f s).roleFrame = s.roleFrame :=
  forL_keep (fun t : State => t.roleFrame = s.roleFrame) l f s rfl (fun x t _ ht => (h x t).trans ht)

section
variable (s : State)

/-! The updates of the state. Each is proved by a tactic, so that `simp` rewrites with it and hands the kernel no unfolding of register offsets. -/

@[simp] theorem State.wr_roleFrame (f : Fld) (v : Nat) (ix : List Nat) : (s.wr f v ix).roleFrame = s.roleFrame := by rfl
@[simp] theorem State.wrb_roleFrame (f : Fld) (v : Bool) (ix : List Nat) : (s.wrb f v ix).roleFrame = s.roleFrame := by rfl
@[simp] theorem State.count_roleFrame (e n : Nat) : (s.count e n).roleFrame = s.roleFrame := by rfl
@[simp] theorem State.logEvent_roleFrame (e : Nat) (v : Int) : (s.logEvent e v).roleFrame = s.roleFrame := by rfl
@[simp] theorem State.onWork_roleFrame (i : Nat) (f : PointWork → PointWork) : (s.onWork i f).roleFrame = s.roleFrame := by rfl
@[simp] theorem State.ownerWrite_roleFrame (i : Nat) (v : Word) (t : Nat) : (s.ownerWrite i v t).roleFrame = s.roleFrame := by rfl
@[simp] theorem State.setLoop_roleFrame (h k : Nat) (x : LoopState) : (s.setLoop h k x).roleFrame = s.roleFrame := by rfl
@[simp] theorem State.setAxis_roleFrame (h a : Nat) (x : AxisState) : (s.setAxis h a x).roleFrame = s.roleFrame := by rfl
@[simp] theorem State.setPg_roleFrame (h g : Nat) (x : PgState) : (s.setPg h g x).roleFrame = s.roleFrame := by rfl
@[simp] theorem State.onSeq_roleFrame (h : Nat) (f : SeqState → SeqState) : (s.onSeq h f).roleFrame = s.roleFrame := by rfl
@[simp] theorem State.setFlow_roleFrame (h f : Nat) (x : FlowState) : (s.setFlow h f x).roleFrame = s.roleFrame := by rfl
@[simp] theorem State.onFlow_roleFrame (h f : Nat) (g : FlowState → FlowState) : (s.onFlow h f g).roleFrame = s.roleFrame := by rfl
@[simp] theorem State.onVerb_roleFrame (h f v : Nat) (g : VerbRun → VerbRun) : (s.onVerb h f v g).roleFrame = s.roleFrame := by rfl
@[simp] theorem State.onLogic_roleFrame (h : Nat) (f : LogicState → LogicState) : (s.onLogic h f).roleFrame = s.roleFrame := by rfl
@[simp] theorem State.onConv_roleFrame (f : ConvBlock → ConvBlock) : (s.onConv f).roleFrame = s.roleFrame := by rfl
@[simp] theorem State.setEnc_roleFrame (n : Nat) (x : EncState) : (s.setEnc n x).roleFrame = s.roleFrame := by rfl
@[simp] theorem State.roleDone_roleFrame (h : Nat) (r : CmdRef) (st : Status) (d n : Nat) : (s.roleDone h r st d n).roleFrame = s.roleFrame := by rfl
@[simp] theorem State.fastGive_roleFrame (h : Nat) (e : FastEffect) : (s.fastGive h e).roleFrame = s.roleFrame := by rfl
@[simp] theorem State.fastSave_roleFrame : s.fastSave.roleFrame = s.roleFrame := by rfl

@[simp] theorem State.post_roleFrame (c : Cpl) : (s.post c).roleFrame = s.roleFrame := by
  rw [State.post_frame]; rfl

@[simp] theorem State.complete_roleFrame (r : CmdRef) (st : Status) (d n : Nat) (l : List Byte) :
    (s.complete r st d n l).roleFrame = s.roleFrame := s.post_roleFrame _

@[simp] theorem State.peak_roleFrame (f : Fld) (v : Nat) (ix : List Nat) : (s.peak f v ix).roleFrame = s.roleFrame := by
  unfold State.peak; split <;> rfl

@[simp] theorem State.report_roleFrame (h id : Nat) : (s.report h id).roleFrame = s.roleFrame := by
  unfold State.report; split <;> rfl

@[simp] theorem State.roleWriteId_roleFrame (id : Nat) (v : Word) : (s.roleWriteId id v).roleFrame = s.roleFrame := by
  unfold State.roleWriteId; split <;> rfl

/-- A role's work under a stage mark leaves what the work itself leaves. -/
@[simp] theorem State.inStage_roleFrame (g : Stage) (f : State → State) (h : ∀ s, (f s).roleFrame = s.roleFrame) :
    (s.inStage g f).roleFrame = s.roleFrame :=
  calc (s.inStage g f).roleFrame
      = (f { s with fab := { s.fab with stage := g } }).roleFrame := rfl
    _ = s.roleFrame := h _

theorem State.roleFrame_withTime (t : TimeState) : ({ s with time := t } : State).roleFrame = { s.roleFrame with time := t } := rfl

/-- A cell's work in the cell's own time leaves what the work itself leaves, the clocks among it (R389, R390). -/
@[simp] theorem State.asCell_roleFrame (f : State → State) (h : ∀ s, (f s).roleFrame = s.roleFrame) : (s.asCell f).roleFrame = s.roleFrame := by
  have time (t : State) : (f t).time = t.time := State.time_of_roleFrame (h t)
  simp only [State.asCell]
  split
  · simp only [State.wr_roleFrame, State.roleFrame_withTime, h, time]; rfl
  · split
    · exact h s
    · simp only [State.roleFrame_withTime, h, time]; rfl

/-! Points at the seal (R119, R370). -/

@[simp] theorem State.sealPoint_roleFrame (idx n t : Nat) : (s.sealPoint idx n t).roleFrame = s.roleFrame := by
  unfold State.sealPoint
  extract_lets prev e w e' u src v
  have counted : u.roleFrame = s.roleFrame := by
    simp only [u]; split <;> simp [State.roleFrame_ite]
  have noted : v.roleFrame = s.roleFrame := counted
  split <;> simp [noted]

@[simp] theorem State.sealCell_roleFrame (c : Nat) : (s.sealCell c).roleFrame = s.roleFrame := by
  simp [State.sealCell]

/-! Loops (R133 to R160). -/

@[simp] theorem State.loopPending_roleFrame (h : Nat) (d : LoopDef) (st : LoopState) (req : LoopMode) (man : F32) :
    (s.loopPending h d st req man).2.roleFrame = s.roleFrame := by
  simp only [State.loopPending]
  rw [forL_roleFrame, forL_roleFrame]
  · intro e u
    split
    · rfl
    · split <;> rfl
  · intro w u
    split <;> rfl

@[simp] theorem State.runLoop_roleFrame (h k : Nat) (d : LoopDef) : (s.runLoop h k d).roleFrame = s.roleFrame := by
  simp only [State.runLoop, State.setLoop_roleFrame, State.roleFrame_ite, State.report_roleFrame, State.roleWriteId_roleFrame, State.loopPending_roleFrame, ite_self]

@[simp] theorem State.runLoops_roleFrame (h : Nat) : (s.runLoops h).roleFrame = s.roleFrame := by
  simp [State.runLoops, State.roleFrame_ite]

/-! Profile generators (R169 to R173). -/

@[simp] theorem State.endMove_roleFrame (r : Option MoveReq) (st : Status) (detail : Nat) : (s.endMove r st detail).roleFrame = s.roleFrame := by
  unfold State.endMove
  cases r with
  | none => rfl
  | some q =>
    obtain ⟨target, ref, verb⟩ := q
    dsimp only
    cases s.fab.stage
    case none => cases verb <;> cases ref <;> simp <;> rfl
    case fast h => cases verb <;> cases ref <;> simp
    case base h => cases verb <;> cases ref <;> simp <;> rfl

@[simp] theorem State.pgStart_roleFrame (h k : Nat) (g : PgState) (q : MoveReq) : (s.pgStart h k g q).roleFrame = s.roleFrame := by
  unfold State.pgStart
  dsimp only
  split <;> simp

@[simp] theorem State.pgEnd_roleFrame (h k : Nat) (g : PgState) : (s.pgEnd h k g).roleFrame = s.roleFrame := by
  unfold State.pgEnd
  dsimp only
  split
  · simp
  · split <;> simp
  · simp

@[simp] theorem State.pgTick_roleFrame (h k unit : Nat) (t : F32) : (s.pgTick h k unit t).roleFrame = s.roleFrame := by
  unfold State.pgTick
  extract_lets g
  split
  · rfl
  · extract_lets n elapsed
    split
    · simp
    · split <;> simp

@[simp] theorem State.pgBegin_roleFrame (h k unit : Nat) (t : F32) : (s.pgBegin h k unit t).roleFrame = s.roleFrame := by
  unfold State.pgBegin
  dsimp only
  split
  · rfl
  · split
    · rfl
    · split <;> simp
    · simp

@[simp] theorem State.pgQuick_roleFrame (h k : Nat) (x v a ad j : F32) : (s.pgQuick h k x v a ad j).roleFrame = s.roleFrame := by
  simp [State.pgQuick]

@[simp] theorem State.pgIdle_roleFrame (h k : Nat) (x : F32) : (s.pgIdle h k x).roleFrame = s.roleFrame := by
  simp [State.pgIdle]

@[simp] theorem State.pgLatched_roleFrame (h k : Nat) (q : MoveReq) : (s.pgLatched h k q).roleFrame = s.roleFrame := by
  unfold State.pgLatched
  extract_lets u g
  have released : u.roleFrame = s.roleFrame := by
    simp only [u]; split <;> simp
  split
  · split <;> simp [released]
  · split <;> exact (u.endMove_roleFrame g.current .aborted 0).trans released
  · split <;> simp [released]

@[simp] theorem State.pgTake_roleFrame (h k : Nat) : (s.pgTake h k).roleFrame = s.roleFrame := by
  unfold State.pgTake
  dsimp only
  split
  · rfl
  · simp [State.roleFrame_ite]

@[simp] theorem State.pgReadTarget_roleFrame (h k : Nat) (d : PgDef) : (s.pgReadTarget h k d).roleFrame = s.roleFrame := by
  simp [State.pgReadTarget, State.roleFrame_ite]

@[simp] theorem State.runPgs_roleFrame (h : Nat) : (s.runPgs h).roleFrame = s.roleFrame := by
  simp [State.runPgs, State.roleFrame_ite]

/-! Recipes (R193 to R210). -/

@[simp] theorem State.keyedWrite_roleFrame (h : Nat) (k : Nat × Nat × Nat) (id : Nat) (v : Word) : (s.keyedWrite h k id v).roleFrame = s.roleFrame := by
  simp [State.keyedWrite, State.roleFrame_ite]

@[simp] theorem State.flowRelease_roleFrame (h : Nat) (k : Nat × Nat × Nat) (id : Nat) (x : F32) : (s.flowRelease h k id x).roleFrame = s.roleFrame := by
  unfold State.flowRelease; split <;> simp

@[simp] theorem State.delay_roleFrame (h f v due : Nat) : (s.delay h f v due).roleFrame = s.roleFrame := rfl

@[simp] theorem State.cancelFlow_roleFrame (h f : Nat) : (s.cancelFlow h f).roleFrame = s.roleFrame := rfl

@[simp] theorem State.resolve_roleFrame (h f v : Nat) (st : VerbSt) : (s.resolve h f v st).roleFrame = s.roleFrame := rfl

@[simp] theorem State.abortFlow_roleFrame (h f : Nat) : (s.abortFlow h f).roleFrame = s.roleFrame := rfl

@[simp] theorem State.stepFault_roleFrame (h f t : Nat) (tmo : Bool) : (s.stepFault h f t tmo).roleFrame = s.roleFrame := by
  simp [State.stepFault, State.roleFrame_ite]

@[simp] theorem State.forkEffect_roleFrame (h f v : Nat) (d : VerbDef) (t : Nat) : (s.forkEffect h f v d t).roleFrame = s.roleFrame := by
  unfold State.forkEffect
  dsimp only
  split <;> simp [State.roleFrame_ite]

@[simp] theorem State.moveEffect_roleFrame (h f v : Nat) (d : VerbDef) (x : F32) (t : Nat) : (s.moveEffect h f v d x t).roleFrame = s.roleFrame := by
  simp [State.moveEffect, State.roleFrame_ite]

@[simp] theorem State.rampEffect_roleFrame (h f v : Nat) (d : VerbDef) (x : F32) (t : Nat) : (s.rampEffect h f v d x t).roleFrame = s.roleFrame := by
  simp [State.rampEffect, State.roleFrame_ite]

@[simp] theorem State.releaseEffect_roleFrame (h f v : Nat) (r : VerbRun) (t : Nat) : (s.releaseEffect h f v r t).roleFrame = s.roleFrame := by
  unfold State.releaseEffect
  split
  · rfl
  · split <;> simp

@[simp] theorem State.releaseN_roleFrame (h f n : Nat) : (s.releaseN h f n).roleFrame = s.roleFrame := by
  induction n generalizing s with
  | zero => rfl
  | succ n ih =>
    unfold State.releaseN
    dsimp only
    repeat' split
    all_goals simp [ih]

@[simp] theorem State.deadEnd_roleFrame (h f : Nat) : (s.deadEnd h f).roleFrame = s.roleFrame := by
  simp [State.deadEnd, State.roleFrame_ite]

@[simp] theorem State.after_roleFrame (h f : Nat) : (s.after h f).roleFrame = s.roleFrame := by
  simp [State.after, State.release, State.roleFrame_ite]

@[simp] theorem State.vbDispatch_roleFrame (h f v t : Nat) (d : VerbDef) : (s.vbDispatch h f v t d).roleFrame = s.roleFrame := by
  unfold State.vbDispatch
  split
  · simp [State.vbGet, State.roleFrame_ite]
  · simp [State.vbCalc]
  · simp [State.vbDelay, State.roleFrame_ite]
  · simp [State.vbWait, State.roleFrame_ite]
  · simp [State.vbBranch]
  · simp
  · simp [State.holdEffect]

@[simp] theorem State.counted_roleFrame (h : Nat) : (s.counted h).roleFrame = s.roleFrame := rfl

@[simp] theorem State.handleVerb_roleFrame (h f v : Nat) : (s.handleVerb h f v).roleFrame = s.roleFrame := by
  unfold State.handleVerb
  split <;> simp [State.roleFrame_ite]

@[simp] theorem State.handleHead_roleFrame (h : Nat) : (s.handleHead h).roleFrame = s.roleFrame := by
  unfold State.handleHead
  split
  · rfl
  · dsimp only
    split
    · simp
    · rw [State.after_roleFrame]
      repeat' split
      all_goals simp

@[simp] theorem State.dispatchN_roleFrame (h bound n : Nat) : (s.dispatchN h bound n).roleFrame = s.roleFrame := by
  induction n generalizing s with
  | zero => rfl
  | succ n ih =>
    unfold State.dispatchN
    repeat' split
    all_goals simp [ih]

@[simp] theorem State.seqLate_roleFrame (h : Nat) : (s.seqLate h).roleFrame = s.roleFrame := by
  unfold State.seqLate
  extract_lets b l u
  exact forL_roleFrame l _ s (fun f t => t.onFlow_roleFrame h f _)

@[simp] theorem State.showFlow_roleFrame (h f : Nat) (d : FlowDef) : (s.showFlow h f d).roleFrame = s.roleFrame := by
  simp [State.showFlow, State.roleFrame_ite]

@[simp] theorem State.runSeq_roleFrame (h : Nat) : (s.runSeq h).roleFrame = s.roleFrame := by
  unfold State.runSeq
  split
  · rfl
  · dsimp only
    rw [forL_roleFrame]
    · simp
    · intro f u
      split <;> simp

/-! Logic (R212 to R226). -/

@[simp] theorem State.scanStart_roleFrame (h : Nat) (x : LogicSec) (d : TaskDef) : (s.scanStart h x d).roleFrame = s.roleFrame := rfl

@[simp] theorem State.scanEnd_roleFrame (h : Nat) (x : LogicSec) (d : TaskDef) : (s.scanEnd h x d).roleFrame = s.roleFrame := by
  simp [State.scanEnd, State.roleFrame_ite]

@[simp] theorem State.runTask_roleFrame (h : Nat) (x : LogicSec) (d : TaskDef) : (s.runTask h x d).roleFrame = s.roleFrame := by
  simp [State.runTask]

@[simp] theorem State.taskOff_roleFrame (h : Nat) (x : LogicSec) (d : TaskDef) : (s.taskOff h x d).roleFrame = s.roleFrame := by
  simp [State.taskOff, State.roleFrame_ite]

@[simp] theorem State.runLogic_roleFrame (h : Nat) : (s.runLogic h).roleFrame = s.roleFrame := by
  unfold State.runLogic
  split
  · rfl
  · simp [State.roleFrame_ite]

/-- The role work of a home cell, whatever its role (R133, R167, R198, R213). -/
@[simp] theorem State.runHome_roleFrame (h : Nat) : (s.runHome h).roleFrame = s.roleFrame := by
  simp [State.runHome, State.roleFrame_ite]

/-! Axes (R161 to R181). -/

@[simp] theorem State.axisDown_roleFrame (h a : Nat) (d : AxisDef) (st : AxisState) (x : AxisSt) : (s.axisDown h a d st x).roleFrame = s.roleFrame := by
  simp [State.axisDown]

@[simp] theorem State.axisQuick_roleFrame (h a : Nat) (d : AxisDef) (st : AxisState) : (s.axisQuick h a d st).roleFrame = s.roleFrame := by
  simp [State.axisQuick, State.roleFrame_ite]

@[simp] theorem State.axisAble_roleFrame (h a : Nat) (d : AxisDef) : (s.axisAble h a d).roleFrame = s.roleFrame := by
  simp [State.axisAble, State.roleFrame_ite]

@[simp] theorem State.axisHand_roleFrame (h a : Nat) (d : AxisDef) : (s.axisHand h a d).roleFrame = s.roleFrame := by
  unfold State.axisHand
  dsimp only
  repeat' split
  all_goals simp

@[simp] theorem State.axisFaults_roleFrame (h a : Nat) (d : AxisDef) (ok : Bool) : (s.axisFaults h a d ok).roleFrame = s.roleFrame := by
  simp [State.axisFaults, State.roleFrame_ite]

@[simp] theorem State.axisStopped_roleFrame (h a : Nat) (d : AxisDef) : (s.axisStopped h a d).roleFrame = s.roleFrame := by
  simp [State.axisStopped, State.roleFrame_ite]

/-- One sub-cycle of an axis, stage by stage (R161, R168). -/
@[simp] theorem State.runAxis_roleFrame (h a : Nat) (d : AxisDef) : (s.runAxis h a d).roleFrame = s.roleFrame := by
  unfold State.runAxis
  extract_lets t f beta st0 st1 fed g seeded handed ticked taken stopped st2 held quick st3 ran judged st4 wrote
  have out : wrote.roleFrame = s.roleFrame :=
    calc wrote.roleFrame = judged.roleFrame := by simp [wrote, State.roleFrame_ite]
      _ = ran.roleFrame := ran.axisFaults_roleFrame h a d _
      _ = quick.roleFrame := by simp only [ran]; split <;> exact quick.setAxis_roleFrame h a _
      _ = stopped.roleFrame := by simp [quick, held, State.roleFrame_ite]
      _ = taken.roleFrame := taken.axisStopped_roleFrame h a d
      _ = ticked.roleFrame := by simp [taken, State.roleFrame_ite]
      _ = handed.roleFrame := handed.pgTick_roleFrame _ _ _ _
      _ = seeded.roleFrame := by simp [handed, State.roleFrame_ite]
      _ = fed.roleFrame := by simp [seeded, State.roleFrame_ite]
      _ = s.roleFrame := s.setAxis_roleFrame h a _
  split
  · exact out
  · exact (State.ownerWrite_roleFrame _ _ _ _).trans out

@[simp] theorem State.runAxes_roleFrame (h : Nat) : (s.runAxes h).roleFrame = s.roleFrame := by
  simp [State.runAxes]

/-! The rest of a fast mark (R162, R164, R302, R304, R306). -/

@[simp] theorem State.deliverFb_roleFrame : s.deliverFb.roleFrame = s.roleFrame := by
  unfold State.deliverFb; split <;> rfl

@[simp] theorem State.dacUpdate_roleFrame (d : DacDef) (format : Nat) (v : Word) : (s.dacUpdate d format v).roleFrame = s.roleFrame := by
  unfold State.dacUpdate
  dsimp only
  rw [State.onConv_roleFrame, State.wrb_roleFrame]
  split <;> simp [State.roleFrame_ite]

@[simp] theorem State.fastOutputs_roleFrame : s.fastOutputs.roleFrame = s.roleFrame := by
  unfold State.fastOutputs
  split
  · rfl
  · split
    · rfl
    · refine forL_roleFrame _ _ _ (fun d u => ?_)
      split <;> simp

@[simp] theorem State.encFastFirst_roleFrame : s.encFastFirst.roleFrame = s.roleFrame := by
  refine forL_roleFrame _ _ _ (fun n u => ?_)
  split
  · rfl
  · split
    · rfl
    · dsimp only
      rw [State.setEnc_roleFrame]
      split <;> simp [State.roleFrame_ite]

@[simp] theorem State.encFastLast_roleFrame : s.encFastLast.roleFrame = s.roleFrame := by
  simp [State.encFastLast, State.roleFrame_ite]

@[simp] theorem State.fastFeedback_roleFrame (j : Nat) : (s.fastFeedback j).roleFrame = s.roleFrame := by
  unfold State.fastFeedback
  split
  · rfl
  · split
    · rfl
    · split
      · simp [State.roleFrame_ite]
      · rfl

end

end Sys2Proof.Machine
end

section
/-! PROOFS. Base marks, fast marks and seals of cells: how each ends, by the frame of the role work (R31, R88, R161, R306, R370, R572; O30, O31). -/

namespace Sys2Proof.Machine

/-! Registers of the marks and of the seal (R88, R572). -/

/-- A field of a word is a field of its low 32 bits. -/
theorem bitsOf_mod_word (x hi lo : Nat) (h : hi < 32) : bitsOf (x % 2 ^ 32) hi lo = bitsOf x hi lo := by
  apply Nat.eq_of_testBit_eq
  intro i
  rw [testBit_bitsOf, testBit_bitsOf, Nat.testBit_mod_two_pow]
  by_cases within : i < hi + 1 - lo
  · have low : lo + i < 32 := by omega
    simp [low]
  · simp [within]

/-- A field of a register at another address than the one written keeps its value. -/
theorem State.rd_setReg_ne (s : State) (d : RegDesc) (f : Fld) (v : Nat) (ix iy : List Nat) (h : regAddr f.reg iy ≠ regAddr d ix) :
    (s.setReg d v ix).rd f iy = s.rd f iy := by
  rw [State.rd, State.reg_setReg_ne _ _ _ _ _ _ h, State.rd]

/-- A peak shows the larger of what it showed and the new value. -/
theorem State.rd_peak_same (s : State) (f : Fld) (v : Nat) (ix : List Nat) (h : f.hi < 32) (l : f.lo ≤ f.hi + 1) (fits : v < 2 ^ (f.hi + 1 - f.lo)) :
    (s.peak f v ix).rd f ix = max (s.rd f ix) v := by
  unfold State.peak
  split
  · rw [State.rd_wr_same s f v ix h l, Nat.mod_eq_of_lt fits]; omega
  · omega

/-- A field of a register at another address than the peak's keeps its value. -/
theorem State.rd_peak_ne (s : State) (f g : Fld) (v : Nat) (ix iy : List Nat) (h : regAddr g.reg iy ≠ regAddr f.reg ix) :
    (s.peak f v ix).rd g iy = s.rd g iy := by
  unfold State.peak
  split
  · exact s.rd_wr_ne f g v ix iy h
  · rfl

/-! The end of a base mark (R31, R572). -/

/-- Whatever a base mark does, it ends with the cells' start and the show of the modes. -/
theorem State.baseMark_ends (s : State) (tt late skip drop full : List Nat) :
    ∃ u : State, s.baseMark tt late skip drop full = u.startCells.showModes := ⟨_, rfl⟩

/-- A cell that starts its cycle is at work: it has not sealed, has abandoned nothing, is in no first cycle of SAFE and has waited for nothing (R31). -/
def CellState.AtWork (x : CellState) : Prop := x.sealed = false ∧ x.abandoned = false ∧ x.firstSafe = false ∧ x.waits = 0

theorem State.startCells_atWork (s : State) : ∀ e ∈ s.startCells.fab.cells, e.2.AtWork := by
  intro e he
  obtain ⟨old, -, rfl⟩ := List.mem_map.mp he
  exact ⟨rfl, rfl, rfl, rfl⟩

@[simp] theorem State.showModes_fab (s : State) : s.showModes.fab = s.fab :=
  s.setReg_fab Reg.GLB_MODE _ []

theorem State.rd_showModes_ne (s : State) (f : Fld) (iy : List Nat) (h : regAddr f.reg iy ≠ regAddr Reg.GLB_MODE []) :
    s.showModes.rd f iy = s.rd f iy :=
  s.rd_setReg_ne Reg.GLB_MODE f _ [] iy h

/-- GLB_MODE shows the modes that the registers of the life cycle, the pair, the key, the island and the role show (R572). -/
theorem State.showModes_shows (s : State) :
    let w := s.showModes.reg Reg.GLB_MODE
    bitsOf w 31 29 = s.lc % 8 ∧ bitsOf w 28 26 = s.pairSt % 8 ∧ bitsOf w 25 24 = s.rd Reg.GLB_KEY_EFFECTIVE % 4 ∧
    bitsOf w 23 22 = s.rd Reg.SAF_STATE_STATE % 4 ∧ bitsOf w 21 20 = s.rd Reg.GLB_ROLE_ROLE % 4 := by
  simp only [State.showModes, State.reg_setReg_same]
  refine ⟨?_, ?_, ?_, ?_, ?_⟩ <;> rw [bitsOf_mod_word _ _ _ (by decide)] <;> simp [bitsOf_setBits_ne]

/-! A fast mark's encoders and sub-cycle (R161, R306). -/

theorem State.enc_setEnc_same (s : State) (n : Nat) (x : EncState) : (s.setEnc n x).enc n = x := by
  simp [State.enc, State.setEnc, State.onConv]

theorem State.enc_setEnc_ne (s : State) (n k : Nat) (x : EncState) (h : k ≠ n) : (s.setEnc n x).enc k = s.enc k := by
  simp [State.enc, State.setEnc, State.onConv, Tab.at_put_ne _ _ _ _ _ h]

theorem State.enc_wrb (s : State) (f : Fld) (v : Bool) (ix : List Nat) (n : Nat) : (s.wrb f v ix).enc n = s.enc n := by
  rw [State.enc, State.wrb_conv, State.enc]

/-- After a fold in which each element settles a property of its own and keeps the others', each has its property. -/
theorem forL_settles {β α : Type} (p : β → α → Prop) (l : List β) (f : β → α → α) (a : α)
    (settles : ∀ b x, p b (f b x)) (keeps : ∀ b c x, p c x → p c (f b x)) : ∀ b ∈ l, p b (forL l f a) := by
  induction l generalizing a with
  | nil => simp
  | cons c t ih =>
    intro b hb
    rcases List.mem_cons.mp hb with rfl | hb
    · exact forL_keep (p b) t f (f b a) (settles b a) (fun c x _ hx => keeps c b x hx)
    · exact ih (f c a) b hb

/-- After the axes no encoder's fault of the sub-cycle stands (R306). -/
theorem State.encFastLast_noFault (s : State) : ∀ n < 32, (s.encFastLast.enc n).faultNow = false := by
  intro n hn
  refine forL_settles (fun n (u : State) => (u.enc n).faultNow = false) (List.range 32) _ s ?_ ?_ n (List.mem_range.mpr hn)
  · intro n u
    dsimp only
    split
    · rw [State.enc_setEnc_same]
    · rename_i stands
      rw [State.enc_wrb]
      exact Bool.eq_false_iff.mpr stands
  · intro n k u kept
    dsimp only
    split
    · by_cases own : k = n
      · rw [own, State.enc_setEnc_same]
      · rw [State.enc_setEnc_ne _ _ _ _ own, State.enc_wrb]; exact kept
    · rw [State.enc_wrb]; exact kept

/-- A fast mark of a running device starts the sub-cycle of D, does work that leaves the clocks, and ends with the encoders' reports (R161, R162, R306). -/
theorem execFastMark_runs (late : List Nat) (s : State) (i : Img) (run : s.img.run = some i) (locked : s.time.locked = true) :
    ∃ t : State, execFastMark late s = .next t.encFastLast ∧ t.time.sub = clockNs s.time.d % 125000 / 15625 := by
  unfold execFastMark
  rw [run, locked, if_neg (show ¬(!true) = true by decide)]
  extract_lets j settled sent started moved worked
  refine ⟨worked, rfl, ?_⟩
  have moves : moved.roleFrame = started.roleFrame := by simp [moved]
  have works : worked.roleFrame = moved.roleFrame := by simp [worked, State.roleFrame_ite]
  rw [State.time_of_roleFrame (works.trans moves)]
  rfl

/-! The seal of a cell (R31, R88, R370). -/

/-- The seal of a cell that has not sealed: its work leaves the cell sealed, and the step use is shown last. -/
theorem execCellSeal_seals (cell : Fin 64) (steps : Nat) (s : State) (i : Img) (run : s.img.run = some i) (going : s.fab.frozen = false)
    (unsealed : (s.fab.cells.at' cell.val {}).sealed = false) :
    ∃ u : State, (u.fab.cells.at' cell.val {}).sealed = true ∧ execCellSeal cell steps [] s =
      .next ((u.wr Reg.CEL_STEP_USED_LAST (min steps 1048575) [cell.val]).peak Reg.CEL_STEP_PEAK_PEAK (min steps 1048575) [cell.val]) := by
  have begins : ¬((s.traffic []).fab.frozen = true ∨ ((s.traffic []).cell cell.val).sealed = true) := by
    rintro (h | h)
    · exact Bool.false_ne_true (going.symm.trans h)
    · exact Bool.false_ne_true (unsealed.symm.trans h)
  unfold execCellSeal
  extract_lets c s0 begun
  rw [show s0.img.run = some i from run]
  dsimp -zeta only
  rw [if_neg begins]
  extract_lets worked
  refine ⟨worked, ?_, rfl⟩
  have works : worked.roleFrame = begun.roleFrame := by
    refine State.asCell_roleFrame _ _ (fun u => ?_)
    simp [State.roleFrame_ite]
  rw [State.cells_of_roleFrame works]
  simp [begun, s0, c]

/-- A cell that has sealed, a frozen device and a device without an image complete nothing. -/
theorem execCellSeal_rests (cell : Fin 64) (steps : Nat) (s : State)
    (h : s.img.run = none ∨ s.fab.frozen = true ∨ (s.fab.cells.at' cell.val {}).sealed = true) : execCellSeal cell steps [] s = .next s := by
  cases run : s.img.run with
  | none => simp [execCellSeal, State.traffic, forL, run]
  | some i =>
    have rests : s.fab.frozen = true ∨ (s.cell cell.val).sealed = true := h.resolve_left (by simp [run])
    simp [execCellSeal, State.traffic, forL, run, rests]

/-- The step use and the peak of a cell are different registers. -/
theorem stepUsed_ne_stepPeak (c : Nat) : regAddr Reg.CEL_STEP_USED_LAST.reg [c] ≠ regAddr Reg.CEL_STEP_PEAK_PEAK.reg [c] := by
  simp [regAddr, Reg.CEL_STEP_USED_LAST, Reg.CEL_STEP_PEAK_PEAK, Reg.CEL_STEP_USED, Reg.CEL_STEP_PEAK]

/-- Settles O30: a base mark ends with the cells' start and the show of the modes, and a fast mark's work leaves the sub-cycle it starts. -/
theorem marksStartTheCycleAndShowTheModes : Obligations.MarksStartTheCycleAndShowTheModes := by
  refine ⟨fun l tt late skip drop full s => ⟨fun locked => ?_, fun unlocked => ?_⟩, fun late s => ⟨fun rest => ?_, fun run locked => ?_⟩⟩
  · obtain ⟨u, ends⟩ := (s.traffic l).baseMark_ends tt late skip drop full
    refine ⟨u.startCells.showModes, ?_, ?_, ?_⟩
    · calc exec (.baseMark l tt late skip drop full) s
          = .next (if s.time.locked then (s.traffic l).baseMark tt late skip drop full else s) := rfl
        _ = .next u.startCells.showModes := by rw [if_pos locked, ends]
    · rw [State.showModes_fab]
      exact u.startCells_atWork
    · obtain ⟨lc, pair, key, saf, role⟩ := u.startCells.showModes_shows
      rw [State.rd_showModes_ne _ Reg.SEC_LC_STATE _ (by decide), State.rd_showModes_ne _ Reg.GLB_PAIR_STATE _ (by decide),
        State.rd_showModes_ne _ Reg.GLB_KEY_EFFECTIVE _ (by decide), State.rd_showModes_ne _ Reg.SAF_STATE_STATE _ (by decide),
        State.rd_showModes_ne _ Reg.GLB_ROLE_ROLE _ (by decide)]
      exact ⟨lc, pair, key, saf, role⟩
  · show execBaseMark l tt late skip drop full s = .next s
    simp [execBaseMark, unlocked]
  · show execFastMark late s = .next s
    cases run : s.img.run with
    | none => simp [execFastMark, run]
    | some i => simp [execFastMark, run, rest.resolve_left (by simp [run])]
  · obtain ⟨i, run⟩ := Option.isSome_iff_exists.mp run
    obtain ⟨t, runs, sub⟩ := execFastMark_runs late s i run locked
    refine ⟨t.encFastLast, runs, ?_, t.encFastLast_noFault⟩
    rw [State.time_of_roleFrame t.encFastLast_roleFrame, sub]

/-- Settles O31: the role work in a seal leaves the cell sealed, and the step use and its peak are shown after it. -/
theorem cellSealsOnceACycle : Obligations.CellSealsOnceACycle := by
  intro cell steps s
  refine ⟨fun run going unsealed => ?_, execCellSeal_rests cell steps s⟩
  obtain ⟨i, run⟩ := Option.isSome_iff_exists.mp run
  obtain ⟨u, sealed, seals⟩ := execCellSeal_seals cell steps s i run going unsealed
  have fits : min steps 1048575 < 2 ^ 20 := by omega
  refine ⟨_, seals, ?_, ?_, ?_⟩
  · rw [State.peak_fab, State.wr_fab]
    exact sealed
  · rw [State.rd_peak_ne _ _ _ _ _ _ (stepUsed_ne_stepPeak _), State.rd_wr_same _ _ _ _ (by decide) (by decide)]
    exact Nat.mod_eq_of_lt fits
  · rw [State.rd_peak_same _ _ _ _ (by decide) (by decide) fits]
    exact le_max_right _ _

end Sys2Proof.Machine
end

section
/-! PROOFS. Refusals of commands by their place, and what the operations of loads and splices leave as it was (R48, R58, R63, R64, R467, R568; O50). -/

namespace Sys2Proof.Machine

open Sys2Proof.Claims

/-! Refusals before and after the gates (R467, R568). -/

/-- A refusal of the rows before the gates stands for the whole list. -/
theorem judge_pre {s : State} {op : Nat} {pre suf : List Check} {r : Status × Nat} (h : judge pre = some r) :
    judge (pre ++ s.gate op ++ suf ++ s.recovery op) = some r := by
  simp [judge_append, h]

/-- Of an admitted opcode with no refusal before the gates, the first refusal after them stands for the whole list. -/
theorem judge_suf {s : State} {op : Nat} {pre suf : List Check} {r : Status × Nat} (adm : Admitted s op) (p : judge pre = none) (h : judge suf = some r) :
    judge (pre ++ s.gate op ++ suf ++ s.recovery op) = some r := by
  have gates : judge (s.gate op) = none := (judge_none _).mpr (fun c hc => (judge_none _).mp adm c (List.mem_append_left _ hc))
  simp [judge_append, p, gates, h]

/-- A command whose first refusal is known answers with it. -/
theorem State.command_refused (s : State) {ref : CmdRef} {op : Nat} {pre suf : List Check} {k : CmdRef → State → State} {st : Status} {d : Nat}
    (h : judge (pre ++ s.gate op ++ suf ++ s.recovery op) = some (st, d)) : s.command ref op pre suf k = s.complete (opRef ref op) st d := by
  simp only [State.command, h, opRef]

/-- A long operation answers INVALID and BUSY at once. -/
theorem State.commandLong_refused_now (s : State) {ref : CmdRef} {op : Nat} {pre suf : List Check} {k : CmdRef → State → State} {st : Status} {d : Nat}
    (h : judge (pre ++ s.gate op ++ suf ++ s.recovery op) = some (st, d)) (now : st = .invalid ∨ st = .busy) :
    s.commandLong ref op pre suf k = s.complete (longRef ref op) st d := by
  simp only [State.commandLong, h, longRef, if_pos now]

/-- A long operation answers every other refusal after its acknowledgement. -/
theorem State.commandLong_refused_late (s : State) {ref : CmdRef} {op : Nat} {pre suf : List Check} {k : CmdRef → State → State} {st : Status} {d : Nat}
    (h : judge (pre ++ s.gate op ++ suf ++ s.recovery op) = some (st, d)) (late : ¬(st = .invalid ∨ st = .busy)) :
    s.commandLong ref op pre suf k = (s.accept (longRef ref op)).complete (longRef ref op) st d := by
  simp only [State.commandLong, h, longRef, if_neg late]

/-! Records and registers of states that agree in a part. -/

/-- What a posted record makes of the host interface depends on the host interface alone. -/
theorem State.post_host_congr {s t : State} (c : Cpl) (h : s.host = t.host) : (s.post c).host = (t.post c).host := by
  unfold State.post
  rw [h]
  split
  · exact h
  · split
    · rfl
    · split
      · rfl
      · split
        · simp only [State.onRing, h]
        · exact h

theorem State.complete_host_congr {s t : State} (r : CmdRef) (st : Status) (d n : Nat) (l : List Byte) (h : s.host = t.host) :
    (s.complete r st d n l).host = (t.complete r st d n l).host :=
  State.post_host_congr _ h

/-- A field depends on the register file alone. -/
theorem State.rd_congr {s t : State} (f : Fld) (ix : List Nat) (h : s.regs = t.regs) : s.rd f ix = t.rd f ix := by
  unfold State.rd State.reg
  rw [h]

/-- REJECT_COUNT and REJECT_REASON written together are both read (R64). -/
theorem State.rd_reject (s : State) (n r : Nat) :
    let t := (s.wr Reg.GLB_IMG_REJECT_COUNT n).wr Reg.GLB_IMG_REJECT_REASON r
    t.rd Reg.GLB_IMG_REJECT_COUNT = n % 2 ^ 16 ∧ t.rd Reg.GLB_IMG_REJECT_REASON = r % 2 ^ 16 := by
  refine ⟨?_, State.rd_wr_same _ _ _ _ (by decide) (by decide)⟩
  rw [State.rd_wr_field _ Reg.GLB_IMG_REJECT_REASON Reg.GLB_IMG_REJECT_COUNT _ _ rfl (by decide) (by decide) (by decide)]
  exact State.rd_wr_same _ _ _ _ (by decide) (by decide)

section
variable (s : State)

/-! LOAD_STATE (R64). -/

@[simp] theorem State.showLoad_host : s.showLoad.host = s.host := s.wr_host _ _ _
@[simp] theorem State.showLoad_ctr : s.showLoad.ctr = s.ctr := s.wr_ctr _ _ _
@[simp] theorem State.showLoad_img : s.showLoad.img = s.img := s.wr_img _ _ _
@[simp] theorem State.showLoad_pts : s.showLoad.pts = s.pts := s.wr_pts _ _ _
@[simp] theorem State.showLoad_fab : s.showLoad.fab = s.fab := s.wr_fab _ _ _
@[simp] theorem State.showLoad_sec : s.showLoad.sec = s.sec := s.wr_sec _ _ _

/-- A write of a field changes the register file alone. -/
theorem State.wr_frame (f : Fld) (v : Nat) (ix : List Nat) : s.wr f v ix = { s with regs := (s.wr f v ix).regs } := rfl

theorem State.showLoad_frame : s.showLoad = { s with regs := s.showLoad.regs } := s.wr_frame _ _ _

/-- A field of another register than GLB_IMG_STATUS keeps its value. -/
theorem State.rd_showLoad_ne (f : Fld) (ix : List Nat) (h : regAddr f.reg ix ≠ regAddr Reg.GLB_IMG_STATUS []) : s.showLoad.rd f ix = s.rd f ix :=
  s.rd_wr_ne Reg.GLB_IMG_STATUS_LOAD_STATE f _ [] ix h

@[simp] theorem State.rd_showLoad_rejectCount : s.showLoad.rd Reg.GLB_IMG_REJECT_COUNT = s.rd Reg.GLB_IMG_REJECT_COUNT :=
  s.rd_showLoad_ne _ _ (by decide)

/-! The system bank, the manifest and the log of identity mismatches (R50, R388, R440). -/

/-- What no write of a field changes, the show of the system bank leaves. -/
theorem State.sysShow_keeps {α : Type} (g : State → α) (h : ∀ (t : State) (f : Fld) (v : Nat) (ix : List Nat), g (t.wr f v ix) = g t) : g s.sysShow = g s := by
  simp only [State.sysShow, h]

@[simp] theorem State.sysShow_host : s.sysShow.host = s.host := s.sysShow_keeps State.host State.wr_host
@[simp] theorem State.sysShow_img : s.sysShow.img = s.img := s.sysShow_keeps State.img State.wr_img
@[simp] theorem State.sysShow_pts : s.sysShow.pts = s.pts := s.sysShow_keeps State.pts State.wr_pts
@[simp] theorem State.sysShow_sec : s.sysShow.sec = s.sec := s.sysShow_keeps State.sec State.wr_sec

@[simp] theorem State.sysWrite_host (f : SysBody → SysBody) : (s.sysWrite f).host = s.host := by simp only [State.sysWrite, State.sysShow_host]; split <;> rfl
@[simp] theorem State.sysWrite_img (f : SysBody → SysBody) : (s.sysWrite f).img = s.img := by simp only [State.sysWrite, State.sysShow_img]; split <;> rfl
@[simp] theorem State.sysWrite_pts (f : SysBody → SysBody) : (s.sysWrite f).pts = s.pts := by simp only [State.sysWrite, State.sysShow_pts]; split <;> rfl

/-- What is written to the system bank depends on the security state alone. -/
theorem State.sysWrite_sec_congr {s t : State} (f : SysBody → SysBody) (h : s.sec = t.sec) : (s.sysWrite f).sec = (t.sysWrite f).sec := by
  have newer : s.sysNewer1 = t.sysNewer1 := by unfold State.sysNewer1; rw [h]
  have lost : s.sysLost = t.sysLost := by unfold State.sysLost; rw [h]
  have body : s.sys = t.sys := by unfold State.sys; rw [newer, h]
  simp only [State.sysWrite, State.sysShow_sec, newer, lost, body, h]
  split <;> rfl

theorem State.noteCmd_frame (c : ManCmd) : s.noteCmd c = { s with pair := (s.noteCmd c).pair } := by
  unfold State.noteCmd
  split <;> rfl

@[simp] theorem State.noteCmd_regs (c : ManCmd) : (s.noteCmd c).regs = s.regs := by rw [s.noteCmd_frame c]
@[simp] theorem State.noteCmd_host (c : ManCmd) : (s.noteCmd c).host = s.host := by rw [s.noteCmd_frame c]
@[simp] theorem State.noteCmd_img (c : ManCmd) : (s.noteCmd c).img = s.img := by rw [s.noteCmd_frame c]
@[simp] theorem State.noteCmd_pts (c : ManCmd) : (s.noteCmd c).pts = s.pts := by rw [s.noteCmd_frame c]
@[simp] theorem State.noteCmd_sec (c : ManCmd) : (s.noteCmd c).sec = s.sec := by rw [s.noteCmd_frame c]

theorem State.logMisses_frame (i : Img) (mis : List Nat) : s.logMisses i mis = { s with recd := (s.logMisses i mis).recd } := by
  refine forL_keep (fun t : State => t = { s with recd := t.recd }) mis _ s rfl (fun k t _ ht => ?_)
  split
  · rw [ht]; rfl
  · exact ht

@[simp] theorem State.logMisses_regs (i : Img) (mis : List Nat) : (s.logMisses i mis).regs = s.regs := by rw [s.logMisses_frame i mis]
@[simp] theorem State.logMisses_host (i : Img) (mis : List Nat) : (s.logMisses i mis).host = s.host := by rw [s.logMisses_frame i mis]
@[simp] theorem State.logMisses_ctr (i : Img) (mis : List Nat) : (s.logMisses i mis).ctr = s.ctr := by rw [s.logMisses_frame i mis]
@[simp] theorem State.logMisses_img (i : Img) (mis : List Nat) : (s.logMisses i mis).img = s.img := by rw [s.logMisses_frame i mis]
@[simp] theorem State.logMisses_pts (i : Img) (mis : List Nat) : (s.logMisses i mis).pts = s.pts := by rw [s.logMisses_frame i mis]

end

/-! A refused attempt (R58, R65). -/

/-- The log of a refusal, which a check has not, leaves images, records, points, counters and registers (R58, R65). -/
theorem State.logRefusal_keeps (s : State) (c : Prop) [Decidable c] (e : Nat) (v : Int) (i : Img) (mis : List Nat) :
    let t := if c then s else (s.logEvent e v).logMisses i mis
    t.img = s.img ∧ t.host = s.host ∧ t.pts = s.pts ∧ t.ctr = s.ctr ∧ t.regs = s.regs := by
  by_cases h : c <;> simp [h]

/-- What a refused attempt of a command changes: the parser's work, the report, the refusal shown and answered (R58, R64, R65). -/
theorem State.refuse_effects (s : State) (j : LoadJob) (p : Parsed) (r : RejRecord) (more : List RejRecord) (ref : CmdRef)
    (byCmd : ∀ b, j.kind ≠ .boot b) (hr : j.ref = some ref) :
    let t := s.refuse j p (r :: more)
    t.img = { s.img with
      jobs := s.img.jobs.drop 1, poisoned := false, refused := s.img.refused || decide (j.kind ≠ .check),
      report := { recs := (r :: more).take 64, digest := if p.img.digest.isEmpty then List.replicate 16 0 else p.img.digest.take 16, sec := s.time.d.sec } } ∧
    t.rd Reg.GLB_IMG_REJECT_COUNT = min 64 (more.length + 1) ∧
    t.host = (s.complete ref (if r.reason = 0x000F ∨ r.reason = 0x0010 then .certFail else .invalid) r.reason).host ∧ t.pts = s.pts ∧ t.ctr = s.ctr := by
  unfold State.refuse
  extract_lets digest first reported shown logged marked answered other next retried t image
  have shownImg : shown.img = reported.img := (State.wr_img _ _ _ _).trans (State.wr_img _ _ _ _)
  have shownHost : shown.host = s.host := (State.wr_host _ _ _ _).trans (State.wr_host _ _ _ _)
  have shownPts : shown.pts = s.pts := (State.wr_pts _ _ _ _).trans (State.wr_pts _ _ _ _)
  have shownCtr : shown.ctr = s.ctr := (State.wr_ctr _ _ _ _).trans (State.wr_ctr _ _ _ _)
  have shownCount : shown.rd Reg.GLB_IMG_REJECT_COUNT = min 64 (more.length + 1) := by
    rw [(reported.rd_reject _ first).1, List.length_cons]
    omega
  obtain ⟨loggedImg, loggedHost, loggedPts, loggedCtr, loggedRegs⟩ := shown.logRefusal_keeps (j.kind = .check) 0x401 first p.img p.mis
  have markedImg : marked.img = { logged.img with refused := s.img.refused || decide (j.kind ≠ .check) } := by
    have kept : logged.img.refused = s.img.refused := by rw [loggedImg, shownImg]; rfl
    by_cases check : j.kind = .check <;> simp [marked, check, ← kept]
  have markedRest : marked.host = logged.host ∧ marked.pts = logged.pts ∧ marked.ctr = logged.ctr ∧ marked.regs = logged.regs := by
    by_cases check : j.kind = .check <;> simp [marked, check]
  obtain ⟨markedHost, markedPts, markedCtr, markedRegs⟩ := markedRest
  have answers : answered = marked.complete ref (if r.reason = 0x000F ∨ r.reason = 0x0010 then .certFail else .invalid) r.reason := by
    simp only [answered, hr, first]
  have ends : t = answered.showLoad := by
    simp only [t, retried]
    split
    · rename_i boot; exact absurd boot (byCmd _)
    · rfl
  rw [ends, answers]
  refine ⟨?_, ?_, ?_, ?_, ?_⟩
  · rw [State.showLoad_img, State.complete_img, markedImg, loggedImg, shownImg]
    rfl
  · rw [State.rd_showLoad_rejectCount, State.rd_congr _ _ (marked.complete_regs _ _ _ _ _), State.rd_congr _ _ (markedRegs.trans loggedRegs), shownCount]
  · rw [State.showLoad_host]
    exact State.complete_host_congr _ _ _ _ _ (markedHost.trans (loggedHost.trans shownHost))
  · rw [State.showLoad_pts, State.complete_pts, markedPts, loggedPts, shownPts]
  · rw [State.showLoad_ctr, State.complete_ctr, markedCtr, loggedCtr, shownCtr]

/-! The start of an attempt (R48, R49, R58, R65, R71). -/

/-- The state without registers, images and the fabric. -/
def State.loadFrame (s : State) : State := { s with regs := [], img := {}, fab := {} }

/-- Two states of one frame differ in registers, images and the fabric alone. -/
theorem State.eq_of_loadFrame {s t : State} (h : t.loadFrame = s.loadFrame) : t = { s with regs := t.regs, img := t.img, fab := t.fab } :=
  calc t = { t.loadFrame with regs := t.regs, img := t.img, fab := t.fab } := rfl
    _ = { s.loadFrame with regs := t.regs, img := t.img, fab := t.fab } := by rw [h]
    _ = { s with regs := t.regs, img := t.img, fab := t.fab } := rfl

section
variable (s : State)

theorem State.wr_loadFrame (f : Fld) (v : Nat) (ix : List Nat) : (s.wr f v ix).loadFrame = s.loadFrame := by rfl
theorem State.onImg_loadFrame (f : ImageState → ImageState) : (s.onImg f).loadFrame = s.loadFrame := by rfl
theorem State.onFab_loadFrame (f : Fabric → Fabric) : (s.onFab f).loadFrame = s.loadFrame := by rfl
theorem State.showLoad_loadFrame : s.showLoad.loadFrame = s.loadFrame := s.wr_loadFrame _ _ _

/-- An attempt's parses and its empty report, shown: the part of an attempt's start that a check has too. -/
def State.clearReport (jobs : List LoadJob) : State :=
  (((s.onImg (fun x => { x with jobs := jobs, report := {} })).showLoad).wr Reg.GLB_IMG_REJECT_COUNT 0).wr Reg.GLB_IMG_REJECT_REASON 0

/-- A measurement asked for by the parser: the part of an attempt's start that a load and a prepare alone have. -/
def State.askForLoad : State :=
  (((s.reqMeas false false []).onFab (fun f => { f with measNext := f.measNext.map (fun m => { m with forLoad := true }) })).onImg (fun x => { x with refused := false })).showLoad

/-- The start of an attempt is those two parts. -/
theorem State.newAttempt_eq (j : LoadJob) (jobs : List LoadJob) :
    s.newAttempt j jobs = if j.kind = .check then s.clearReport jobs else (s.clearReport jobs).askForLoad := rfl

theorem State.clearReport_img (jobs : List LoadJob) : (s.clearReport jobs).img = { s.img with jobs := jobs, report := {} } :=
  (State.wr_img _ _ _ _).trans ((State.wr_img _ _ _ _).trans (State.showLoad_img _))

theorem State.clearReport_fab (jobs : List LoadJob) : (s.clearReport jobs).fab = s.fab :=
  (State.wr_fab _ _ _ _).trans ((State.wr_fab _ _ _ _).trans (State.showLoad_fab _))

theorem State.clearReport_loadFrame (jobs : List LoadJob) : (s.clearReport jobs).loadFrame = s.loadFrame := by
  simp only [State.clearReport, State.wr_loadFrame, State.showLoad_loadFrame, State.onImg_loadFrame]

theorem State.clearReport_rejects (jobs : List LoadJob) :
    (s.clearReport jobs).rd Reg.GLB_IMG_REJECT_COUNT = 0 ∧ (s.clearReport jobs).rd Reg.GLB_IMG_REJECT_REASON = 0 :=
  State.rd_reject _ 0 0

theorem State.askForLoad_img : s.askForLoad.img = { s.img with refused := false } := State.showLoad_img _

theorem State.askForLoad_loadFrame : s.askForLoad.loadFrame = s.loadFrame := by
  simp only [State.askForLoad, State.reqMeas, State.showLoad_loadFrame, State.onImg_loadFrame, State.onFab_loadFrame]

theorem State.rd_askForLoad_ne (f : Fld) (h : regAddr f.reg [] ≠ regAddr Reg.GLB_IMG_STATUS []) : s.askForLoad.rd f = s.rd f :=
  State.rd_showLoad_ne _ f [] h

/-- The measurement that waits is then one that the parser waits for. -/
theorem State.askForLoad_measures : ∃ m, s.askForLoad.fab.measNext = some m ∧ m.forLoad = true := by
  simp only [State.askForLoad, State.showLoad_fab, State.onImg_fab]
  exact ⟨_, rfl, rfl⟩

/-- The start of an attempt leaves the running image and the splice, empties the report and its show, and touches nothing beyond registers, images and the fabric. -/
theorem State.newAttempt_begins (j : LoadJob) (jobs : List LoadJob) :
    let t := s.newAttempt j jobs
    t.img.jobs = jobs ∧ t.img.report = {} ∧ t.img.run = s.img.run ∧ t.img.splice = s.img.splice ∧
    t.rd Reg.GLB_IMG_REJECT_COUNT = 0 ∧ t.rd Reg.GLB_IMG_REJECT_REASON = 0 ∧ t = { s with regs := t.regs, img := t.img, fab := t.fab } := by
  obtain ⟨count, reason⟩ := s.clearReport_rejects jobs
  rw [State.newAttempt_eq]
  by_cases check : j.kind = .check
  · rw [if_pos check]
    refine ⟨?_, ?_, ?_, ?_, count, reason, State.eq_of_loadFrame (s.clearReport_loadFrame jobs)⟩ <;> rw [State.clearReport_img]
  · rw [if_neg check]
    refine ⟨?_, ?_, ?_, ?_, ?_, ?_, State.eq_of_loadFrame ((State.askForLoad_loadFrame _).trans (s.clearReport_loadFrame jobs))⟩
    iterate 4 rw [State.askForLoad_img, State.clearReport_img]
    · rw [State.rd_askForLoad_ne _ _ (by decide), count]
    · rw [State.rd_askForLoad_ne _ _ (by decide), reason]

end

/-- A parse has joined the parser's work of an acknowledged command. -/
def Queued (s t : State) (l : CmdRef) (j : LoadJob) : Prop :=
  t.img.jobs = s.img.jobs ++ [j] ∧ t.img.report = {} ∧ t.img.run = s.img.run ∧ t.img.splice = s.img.splice ∧
  t.rd Reg.GLB_IMG_REJECT_COUNT = 0 ∧ t.rd Reg.GLB_IMG_REJECT_REASON = 0 ∧ t = { (s.accept l) with regs := t.regs, img := t.img, fab := t.fab }

theorem queued_addJob (s : State) (l : CmdRef) (j : LoadJob) : Queued s ((s.accept l).addJob j) l j := by
  have begins := (s.accept l).newAttempt_begins j ((s.accept l).img.jobs ++ [j])
  simp only [State.accept_img] at begins
  rw [Queued, State.addJob, State.accept_img]
  exact begins

theorem addJob_measures (s : State) (j : LoadJob) (h : j.kind ≠ .check) : ∃ m, (s.addJob j).fab.measNext = some m ∧ m.forLoad = true := by
  rw [State.addJob, State.newAttempt_eq, if_neg h]
  exact State.askForLoad_measures _

theorem addJob_fab_of_check (s : State) (j : LoadJob) (h : j.kind = .check) : (s.addJob j).fab = s.fab := by
  rw [State.addJob, State.newAttempt_eq, if_pos h, State.clearReport_fab]

/-! Slots (R46). -/

/-- Arguments that name a slot are not refused for it. -/
theorem wellFormed_slot {args : List Nat} {k : Nat} (one : 1 ≤ args.length) (slot : argN args 0 ≤ k) : ¬(args.length < 1 ∨ k < argN args 0) := by omega

/-- An image of a size that a slot takes, with all its bytes given, is not refused for its size. -/
theorem wellFormed_size {n m : Nat} (lo : 512 ≤ n) (hi : n ≤ 67108864) (whole : m = n) : ¬(67108864 < n ∨ n < 512 ∨ m < n) := by omega

/-- The images with new bytes in a slot: its area holds their digest and nothing else. -/
def ImageState.writeSlot (x : ImageState) (k : Bool) (b : List Byte) : ImageState :=
  (if k then { x with slotB := b } else { x with slotA := b }).putArea k { digest := sha256 (b.take (b.length - 512)) }

section
variable (x : ImageState) (k : Bool) (b : List Byte)

theorem ImageState.slotBytes_writeSlot_same : (x.writeSlot k b).slotBytes k = b := by cases k <;> rfl
theorem ImageState.slotBytes_writeSlot_other : (x.writeSlot k b).slotBytes (!k) = x.slotBytes (!k) := by cases k <;> rfl
theorem ImageState.area_writeSlot_same : (x.writeSlot k b).area k = { digest := sha256 (b.take (b.length - 512)) } := by cases k <;> rfl
theorem ImageState.area_writeSlot_other : (x.writeSlot k b).area (!k) = x.area (!k) := by cases k <;> rfl
theorem ImageState.writeSlot_run : (x.writeSlot k b).run = x.run := by cases k <;> rfl
theorem ImageState.writeSlot_jobs : (x.writeSlot k b).jobs = x.jobs := by cases k <;> rfl

end

end Sys2Proof.Machine
end

section
/-! PROOFS. Image commands, splices and their commits, reports and certificates (R46, R57, R58, R59, R61, R62, R63, R65; O50). -/

namespace Sys2Proof.Machine

open Sys2Proof.Claims

/-! IMAGE_WRITE_SLOT, IMAGE_LOAD, IMAGE_CHECK and SPLICE_PREPARE (R46, R48, R59, R65). -/

/-- IMAGE_WRITE_SLOT of a slot that no image runs from writes it (R46, R65). -/
theorem exec_imageWriteSlot_writes (ref : CmdRef) (args : List Nat) (s : State) (adm : Admitted s 0x0101) (one : 1 ≤ args.length) (slot : argN args 0 ≤ 1)
    (lo : 512 ≤ ref.bufLen) (hi : ref.bufLen ≤ 67108864) (whole : ((argBytes args 10).take ref.bufLen).length = ref.bufLen) (free : s.runsFrom (slotArg (argN args 0)) = false) :
    exec (.imageWriteSlot ref args) s = .next (((s.accept (longRef ref 0x0101)).onImg (fun x => x.writeSlot (slotArg (argN args 0)) ((argBytes args 10).take ref.bufLen))).complete (longRef ref 0x0101) .ok) := by
  refine congrArg Host.Outcome.next (s.commandLong_ok ref 0x0101 _ _ _ adm ?_ ?_)
  · simp only [judge, wellFormed_slot one slot, wellFormed_size lo hi whole, decide_false]
  · simp only [judge, free]

/-- IMAGE_LOAD queues a load of its slot's bytes (R65). -/
theorem exec_imageLoad_queues (ref : CmdRef) (args : List Nat) (s : State) (adm : Admitted s 0x0102) (one : 1 ≤ args.length) (slot : argN args 0 ≤ 1) :
    exec (.imageLoad ref args) s = .next ((s.accept (longRef ref 0x0102)).addJob
      { kind := .load, slot := slotArg (argN args 0), bytes := s.img.slotBytes (slotArg (argN args 0)), ref := some (longRef ref 0x0102) }) := by
  rw [← s.accept_img (longRef ref 0x0102)]
  refine congrArg Host.Outcome.next (s.commandLong_ok _ _ _ _ _ adm ?_ rfl)
  simp only [judge, wellFormed_slot one slot, decide_false]

/-- SPLICE_PREPARE queues a prepare of the slot that the running image did not come from (R59, R65). -/
theorem exec_splicePrepare_queues (ref : CmdRef) (args : List Nat) (s : State) (adm : Admitted s 0x0104) (run : s.img.run.isSome = true) (splice : s.img.splice = none) :
    exec (.splicePrepare ref args) s = .next ((s.accept (longRef ref 0x0104)).addJob
      { kind := .prepare, slot := !s.img.slot, bytes := s.img.slotBytes (!s.img.slot), ref := some (longRef ref 0x0104) }) := by
  rw [← s.accept_img (longRef ref 0x0104)]
  refine congrArg Host.Outcome.next (s.commandLong_ok _ _ _ _ _ adm ?_ ?_)
  · simp only [judge, Option.isNone_eq_false_iff.mpr run]
  · simp only [judge, splice, Option.isSome_none]

/-- Each command that writes a slot or queues a parse, and its refusals in their order (R46, R48, R59, R65). -/
theorem imagesAreWrittenAndQueued : Claims.ImagesAreWrittenAndQueued := by
  refine ⟨fun ref args s => ⟨fun bad => ?_, fun one slot bad => ?_, fun adm one slot lo hi whole => ⟨fun free => ?_, fun runs => ?_⟩⟩,
    fun ref args s => ⟨fun adm one slot => ?_, fun bad => ?_, fun adm one slot => ?_, fun bad => ?_, fun adm run splice => ?_, fun run => ?_, fun adm run splice => ?_⟩⟩
  · refine congrArg Host.Outcome.next (s.commandLong_refused_now (judge_pre ?_) (.inl rfl))
    simp only [judge, bad, decide_true]
  · refine congrArg Host.Outcome.next (s.commandLong_refused_now (judge_pre ?_) (.inl rfl))
    simp only [judge, wellFormed_slot one slot, bad, decide_false, decide_true]
  · refine ⟨_, exec_imageWriteSlot_writes ref args s adm one slot lo hi whole free, ?_, ?_, ?_, ?_, rfl, ?_, ?_⟩
    · exact ImageState.slotBytes_writeSlot_same _ _ _
    · rw [State.onImg_img, ImageState.slotBytes_writeSlot_other, State.accept_img]
    · exact ImageState.area_writeSlot_same _ _ _
    · rw [State.onImg_img, ImageState.area_writeSlot_other, State.accept_img]
    · rw [State.onImg_img, ImageState.writeSlot_run, State.accept_img]
    · rw [State.onImg_img, ImageState.writeSlot_jobs, State.accept_img]
  · refine congrArg Host.Outcome.next (s.commandLong_refused_late (judge_suf adm ?_ ?_) (by decide))
    · simp only [judge, wellFormed_slot one slot, wellFormed_size lo hi whole, decide_false]
    · simp only [judge, runs]
  · exact ⟨_, exec_imageLoad_queues ref args s adm one slot, queued_addJob s _ _, addJob_measures _ _ LoadKind.noConfusion⟩
  · refine congrArg Host.Outcome.next (s.commandLong_refused_now (judge_pre ?_) (.inl rfl))
    simp only [judge, bad, decide_true]
  · refine ⟨_, congrArg Host.Outcome.next (s.commandLong_ok _ _ _ _ _ adm ?_ rfl), ?_, queued_addJob s _ _⟩
    · simp only [judge, wellFormed_slot one slot, decide_false]
    · exact (addJob_fab_of_check _ _ rfl).trans (s.accept_fab _)
  · refine congrArg Host.Outcome.next (s.commandLong_refused_now (judge_pre ?_) (.inl rfl))
    simp only [judge, bad, decide_true]
  · exact ⟨_, exec_splicePrepare_queues ref args s adm run splice, queued_addJob s _ _, addJob_measures _ _ LoadKind.noConfusion⟩
  · refine congrArg Host.Outcome.next (s.commandLong_refused_late (judge_pre ?_) (by decide))
    simp only [judge, run, Option.isNone_none]
  · refine congrArg Host.Outcome.next (s.commandLong_refused_now (judge_suf adm ?_ ?_) (.inr rfl))
    · simp only [judge, Option.isNone_eq_false_iff.mpr run]
    · simp only [judge, splice]

/-! Commits and cancellations of a splice (R61 to R63). -/

section
variable (s : State)

/-- The mark of a splice shown. -/
def State.showMark (n : Nat) : State := (s.wr64 Reg.GLB_SPLICE_MARK_LO_MARK_LO Reg.GLB_SPLICE_MARK_HI_MARK_HI n).showLoad

theorem State.showMark_host (n : Nat) : (s.showMark n).host = s.host := (State.showLoad_host _).trans (s.wr64_host _ _ _ _)
theorem State.showMark_img (n : Nat) : (s.showMark n).img = s.img := (State.showLoad_img _).trans (s.wr64_img _ _ _ _)
theorem State.showMark_pts (n : Nat) : (s.showMark n).pts = s.pts := (State.showLoad_pts _).trans (s.wr64_pts _ _ _ _)
theorem State.showMark_sec (n : Nat) : (s.showMark n).sec = s.sec := (State.showLoad_sec _).trans (s.wr64_sec _ _ _ _)

theorem State.rd_showMark (n : Nat) : (s.showMark n).rd Reg.GLB_SPLICE_MARK_LO_MARK_LO = n % 2 ^ 32 := by
  rw [State.showMark, State.rd_showLoad_ne _ _ _ (by decide), State.wr64, State.rd_wr_ne _ _ _ _ _ _ (by decide), State.rd_wr_same _ _ _ _ (by decide) (by decide)]
  exact Nat.mod_mod _ _

/-- A prepared splice is committed for the mark n: the new slot becomes the active one, the mark is shown and the commit noted for the cut (R62, R388). -/
def State.commitSplice (p : Splice) (n : Nat) (ref : CmdRef) : State :=
  (((s.onImg (fun x => { x with splice := some { p with commit := some { mark := n, ref := some ref } } })).sysWrite (fun b => { b with bootSlot := b2n p.slot })).showMark n).noteCmd (.splice n p.img.digest)

theorem State.commitSplice_host (p : Splice) (n : Nat) (ref : CmdRef) : (s.commitSplice p n ref).host = s.host := by
  simp only [State.commitSplice, State.noteCmd_host, State.showMark_host, State.sysWrite_host, State.onImg_host]

theorem State.commitSplice_img (p : Splice) (n : Nat) (ref : CmdRef) :
    (s.commitSplice p n ref).img = { s.img with splice := some { p with commit := some { mark := n, ref := some ref } } } := by
  simp only [State.commitSplice, State.noteCmd_img, State.showMark_img, State.sysWrite_img, State.onImg_img]

theorem State.commitSplice_pts (p : Splice) (n : Nat) (ref : CmdRef) : (s.commitSplice p n ref).pts = s.pts := by
  simp only [State.commitSplice, State.noteCmd_pts, State.showMark_pts, State.sysWrite_pts, State.onImg_pts]

theorem State.commitSplice_sec (p : Splice) (n : Nat) (ref : CmdRef) :
    (s.commitSplice p n ref).sec = (s.sysWrite (fun b => { b with bootSlot := b2n p.slot })).sec := by
  rw [State.commitSplice, State.noteCmd_sec, State.showMark_sec]
  exact State.sysWrite_sec_congr _ rfl

theorem State.rd_commitSplice (p : Splice) (n : Nat) (ref : CmdRef) : (s.commitSplice p n ref).rd Reg.GLB_SPLICE_MARK_LO_MARK_LO = n % 2 ^ 32 := by
  rw [State.commitSplice, State.rd_congr _ _ (State.noteCmd_regs _ _), State.rd_showMark]

/-- A splice that ends is gone from the images, and points stay. -/
theorem State.endSplice_keeps (st : Status) (p : Splice) (h : s.img.splice = some p) :
    (s.endSplice st).img = { s.img with splice := none } ∧ (s.endSplice st).pts = s.pts := by
  unfold State.endSplice
  rw [h]
  dsimp only
  split
  · split
    · exact ⟨(State.complete_img _ _ _ _ _ _).trans (State.showLoad_img _), (State.complete_pts _ _ _ _ _ _).trans (State.showLoad_pts _)⟩
    · exact ⟨State.showLoad_img _, State.showLoad_pts _⟩
  · exact ⟨State.showLoad_img _, State.showLoad_pts _⟩

/-- The record of the commit of a splice that ends is the one record that its end posts. -/
theorem State.endSplice_host (st : Status) (p : Splice) (h : s.img.splice = some p) :
    (s.endSplice st).host = (match p.commit with | some c => (match c.ref with | some r => (s.complete r st).host | none => s.host) | none => s.host) := by
  unfold State.endSplice
  rw [h]
  dsimp only
  cases p.commit with
  | none => exact State.showLoad_host _
  | some c =>
    cases hr : c.ref with
    | none => simp only [hr]; exact State.showLoad_host _
    | some r => simp only [hr]; exact State.complete_host_congr _ _ _ _ _ (State.showLoad_host _)

end

/-- SPLICE_COMMIT of a splice that is prepared and not yet committed, for a mark at least 8 cycles ahead (R62). -/
theorem exec_spliceCommit_commits (ref : CmdRef) (args : List Nat) (s : State) (p : Splice) (adm : Admitted s 0x0105) (two : 2 ≤ args.length) (kept : s.img.spliceLost = false)
    (prepared : s.img.splice = some p) (free : p.commit = none) (ahead : s.time.n + 8 ≤ if arg64 args 0 = 0 then s.time.n + 8 else arg64 args 0) :
    exec (.spliceCommit ref args) s =
      .next ((s.accept (longRef ref 0x0105)).commitSplice p (if arg64 args 0 = 0 then s.time.n + 8 else arg64 args 0) (longRef ref 0x0105)) := by
  have far : ¬(if arg64 args 0 = 0 then s.time.n + 8 else arg64 args 0) < s.time.n + 8 := by omega
  refine congrArg Host.Outcome.next ((s.commandLong_ok _ _ _ _ _ adm ?_ ?_).trans ?_)
  · simp only [judge, Nat.not_lt.mpr two, decide_false]
  · simp only [judge, kept, prepared, free, far, Option.isNone_none, Bool.not_true, Bool.and_false, decide_false]
  · simp only [kept, prepared, State.accept_img, Bool.false_eq_true, if_false]
    rfl

/-- A splice whose commit lies the timeout back loses the commit, is kept, and its commit ends TIMEOUT; before that nothing changes (R61). -/
theorem execSpliceTimeout_of_commit (s : State) (p : Splice) (c : Commit) (prepared : s.img.splice = some p) (committed : p.commit = some c) :
    let ms := if p.img.spliceTimeout = 0 then 10000 else p.img.spliceTimeout
    (s.time.n < c.mark + 8 * ms → execSpliceTimeout s = .next s) ∧
    (∀ r : CmdRef, c.ref = some r → c.mark + 8 * ms ≤ s.time.n →
      execSpliceTimeout s = .next (((s.onImg (fun x => { x with splice := some { p with commit := none } })).showLoad).complete r .timeout)) := by
  intro ms
  unfold execSpliceTimeout
  simp only [prepared, committed]
  refine ⟨fun early => if_neg (Nat.not_le.mpr early), fun r hr late => ?_⟩
  simp only [hr]
  exact if_pos late

/-- Each end of a prepared splice: its commit, its cancellation and the timeout (R61 to R63). -/
theorem splicesAreCommittedOrCancelled : Claims.SplicesAreCommittedOrCancelled := by
  refine ⟨fun ref args s => ⟨fun short => ?_, fun adm two lost => ?_, fun adm two kept taken => ?_, fun p adm two kept prepared free => ⟨fun ahead => ?_, fun near => ?_⟩⟩,
    fun ref args s adm => ⟨fun absent => ?_, fun p prepared => ?_⟩, fun s => ⟨fun absent => ?_, fun p prepared => ⟨fun free => ?_, fun c committed => ⟨fun early => ?_, fun r hr late => ?_⟩⟩⟩⟩
  · refine congrArg Host.Outcome.next (s.commandLong_refused_now (judge_pre ?_) (.inl rfl))
    simp only [judge, short, decide_true]
  · rw [← s.accept_img (longRef ref 0x0105)]
    refine congrArg Host.Outcome.next ((s.commandLong_ok _ _ _ _ _ adm ?_ ?_).trans ?_)
    · simp only [judge, Nat.not_lt.mpr two, decide_false]
    · simp only [judge, lost, Bool.not_true, Bool.false_and]
    · exact if_pos lost
  · refine congrArg Host.Outcome.next (s.commandLong_refused_now (judge_suf adm ?_ ?_) (.inl rfl))
    · simp only [judge, Nat.not_lt.mpr two, decide_false]
    · cases prepared : s.img.splice with
      | none => simp only [judge, kept, Bool.not_false, Bool.and_true]
      | some p => simp only [judge, kept, Option.isNone_eq_false_iff.mpr (taken p prepared), Bool.not_false, Bool.and_true]
  · refine ⟨_, exec_spliceCommit_commits ref args s p adm two kept prepared free ahead, ?_, ?_, State.rd_commitSplice _ _ _ _, State.commitSplice_host _ _ _ _, ?_⟩
    · rw [State.commitSplice_img, State.accept_img]
    · rw [State.commitSplice_sec]
      exact State.sysWrite_sec_congr _ (s.accept_sec _)
    · rw [State.commitSplice_pts, State.accept_pts]
  · refine congrArg Host.Outcome.next (s.commandLong_refused_now (judge_suf adm ?_ ?_) (.inl rfl))
    · simp only [judge, Nat.not_lt.mpr two, decide_false]
    · simp only [judge, kept, prepared, free, near, Option.isNone_none, Bool.not_true, Bool.not_false, Bool.and_false, Bool.and_true, decide_true]
  · refine congrArg Host.Outcome.next (s.command_refused (judge_suf adm rfl ?_))
    simp only [judge, absent, Option.isNone_none]
  · obtain ⟨img, pts⟩ := s.endSplice_keeps .aborted p prepared
    refine ⟨s.endSplice .aborted, congrArg Host.Outcome.next (s.command_ok _ _ _ _ _ adm rfl ?_), img, pts, s.endSplice_host .aborted p prepared⟩
    simp only [judge, prepared, Option.isNone_some]
  · show execSpliceTimeout s = .next s
    simp only [execSpliceTimeout, absent]
  · show execSpliceTimeout s = .next s
    simp only [execSpliceTimeout, prepared, free]
  · exact (execSpliceTimeout_of_commit s p c prepared committed).1 early
  · refine ⟨_, (execSpliceTimeout_of_commit s p c prepared committed).2 r hr late, ?_⟩
    rw [State.showLoad_frame]
    rfl

/-! Reports and certificates (R57, R58). -/

/-- A part that follows another in a list of bytes. -/
theorem slice_append_mid (a b c : List Byte) : slice (a ++ (b ++ c)) a.length b.length = b := by simp [slice]

/-- A certificate record begins with its magic number. -/
theorem certBytes_magic (r : CertRecord) : fieldLE (certBytes r) 0 4 = 0x54524543 := by
  unfold fieldLE certBytes
  simp only [List.append_assoc]
  rw [show slice _ 0 4 = _ from slice_append_left (leBytes 4 0x54524543) _]
  decide

/-- A certificate record holds the image's digest from byte 8 (R57). -/
theorem certBytes_digest (r : CertRecord) : slice (certBytes r) 8 32 = slice r.digest 0 32 := by
  unfold certBytes
  simp only [List.append_assoc]
  have mid := slice_append_mid (leBytes 4 0x54524543 ++ (leBytes 2 1 ++ leBytes 2 64)) (slice r.digest 0 32)
  simp only [List.append_assoc, List.length_append, length_leBytes, length_slice] at mid
  exact mid _

/-- The reads of report and certificate, and SET_ACTIVE_SLOT, with their refusals (R57, R58, R65). -/
theorem reportsAndCertificatesAreRead : Claims.ReportsAndCertificatesAreRead := by
  refine fun ref args s => ⟨fun adm room => ?_, fun beyond => ?_, fun r adm run room record => ⟨?_, certBytes_magic r, certBytes_digest r⟩, fun beyond => ?_, fun room absent => ?_,
    fun adm one slot => ?_, fun bad => ?_⟩
  · refine congrArg Host.Outcome.next (s.command_ok _ _ _ _ _ adm ?_ rfl)
    simp only [judge, noRoom, Nat.not_lt.mpr room, decide_false]
  · refine congrArg Host.Outcome.next (s.command_refused (judge_pre ?_))
    simp only [judge, noRoom, beyond, decide_true]
  · show execCertRead ref args s = _
    simp only [execCertRead, record]
    refine congrArg Host.Outcome.next (s.command_ok _ _ _ _ _ adm ?_ rfl)
    simp only [judge, noRoom, Nat.not_lt.mpr room, Option.isNone_eq_false_iff.mpr run, decide_false]
  · refine congrArg Host.Outcome.next (s.command_refused (judge_pre ?_))
    simp only [judge, noRoom, beyond, decide_true]
  · refine congrArg Host.Outcome.next (s.command_refused (judge_pre ?_))
    simp only [judge, noRoom, Nat.not_lt.mpr room, absent, Option.isNone_none, decide_false]
  · refine congrArg Host.Outcome.next (s.command_ok _ _ _ _ _ adm ?_ rfl)
    simp only [judge, wellFormed_slot one slot, decide_false]
  · refine congrArg Host.Outcome.next (s.command_refused (judge_pre ?_))
    simp only [judge, bad, decide_true]

end Sys2Proof.Machine
end

section
/-! PROOFS. The parser: a parse waits, admits or refuses (R48, R54, R58, R59; O50). -/

namespace Sys2Proof.Machine

open Sys2Proof.Claims

/-! The parse at the head of the parser's work (R48, R54, R58, R59). -/

/-- A command's parse is refused: the report, its show, the answer, and what stays. -/
def ParseRefused (reads : List (Nat × List Byte)) (s : State) (j : LoadJob) (rest : List LoadJob) (ref : CmdRef) (r : RejRecord) (more : List RejRecord) : Prop :=
  ∃ t, exec (.imageParseComplete reads) s = .next t ∧ t.img.jobs = rest ∧ t.img.run = s.img.run ∧ t.img.due = none ∧ t.img.splice = s.img.splice ∧
    t.img.report.recs = (r :: more).take 64 ∧ t.img.report.sec = s.time.d.sec ∧ t.img.refused = (s.img.refused || decide (j.kind ≠ .check)) ∧
    t.rd Reg.GLB_IMG_REJECT_COUNT = min 64 (more.length + 1) ∧
    t.host = (s.complete ref (if r.reason = 0x000F ∨ r.reason = 0x0010 then .certFail else .invalid) r.reason).host ∧ t.pts = s.pts ∧ t.ctr = s.ctr

/-- The certificate's rejections of an image with every home in its own cell (R54). -/
def State.certRejects (s : State) (p : Parsed) : List RejRecord := certFaults (certAll p.img [] (s.physFor p.img.compat)) s.budgets (fun _ => 0)

/-- The new map of a splice's changed cells, and the cells without room (R59). -/
def State.splicePlaces (s : State) (old : Img) (p : Parsed) : Tab Nat × List Nat :=
  placeCells old p.img (s.physFor p.img.compat) s.budgets s.sys.lost (changedCells old p.img) (s.planMap.filter (fun e => decide (p.img.roles.getD e.1 0 ≠ 0))) []

/-- The transfer charge of a splice's first cycle, by executing cell (R59). -/
def State.spliceExtra (s : State) (old : Img) (p : Parsed) : Tab Nat :=
  (changedCells old p.img).foldl (fun t c =>
    t.put ((s.splicePlaces old p).1.at' c c) (t.at' ((s.splicePlaces old p).1.at' c c) 0 + 64 + ceilDiv (carriedBytes old p.img c) 8)) []

/-- The rejections of a splice: the parser's, those of header and steps, of cells without room, and the certificate's (R58, R59). -/
def State.spliceRejects (s : State) (old : Img) (p : Parsed) : List RejRecord :=
  p.recs ++ spliceFaults old p.img ++ (s.splicePlaces old p).2.map (fun c => ({ reason := 0x0015, cell := c } : RejRecord)) ++
  certFaults (certAll p.img (s.splicePlaces old p).1 (s.physFor p.img.compat)) s.budgets (fun c => (s.spliceExtra old p).at' c 0)

/-- The parse at the head of the parser's work is done. -/
def State.endJob (s : State) : State := (s.onImg (fun x => { x with jobs := x.jobs.drop 1, poisoned := false })).showLoad

section
variable (s : State) (j : LoadJob) (p : Parsed) (reads : List (Nat × List Byte))

theorem State.admitImage_host (w : List (Nat × Nat)) (map : Tab Nat) : (s.admitImage j p w map reads).host = s.host := State.showLoad_host _
theorem State.admitImage_pts (w : List (Nat × Nat)) (map : Tab Nat) : (s.admitImage j p w map reads).pts = s.pts := State.showLoad_pts _
theorem State.admitImage_img (w : List (Nat × Nat)) (map : Tab Nat) :
    (s.admitImage j p w map reads).img = { s.img with
      jobs := s.img.jobs.drop 1, poisoned := false,
      due := some { img := p.img, slot := j.slot, kind := j.kind, ref := j.ref, cert := s.certRecord p.img w, map := map, mis := p.mis, reads := reads } } := State.showLoad_img _

theorem State.endJob_host : s.endJob.host = s.host := State.showLoad_host _
theorem State.endJob_pts : s.endJob.pts = s.pts := State.showLoad_pts _
theorem State.endJob_img : s.endJob.img = { s.img with jobs := s.img.jobs.drop 1, poisoned := false } := State.showLoad_img _

/-- The load of a command starts with every home in its own cell (R517). -/
theorem State.loadMap_of_command (i : Img) (byCmd : ∀ b, j.kind ≠ .boot b) : s.loadMap j i = [] := by
  unfold State.loadMap
  split
  · rename_i boot; exact absurd boot (byCmd _)
  · rfl

theorem State.withCert_of_command (byCmd : ∀ b, j.kind ≠ .boot b) : s.withCert j p = p.recs ++ (if p.img.dir.isEmpty then [] else s.certRejects p) := by
  simp only [State.withCert, s.loadMap_of_command j _ byCmd, State.certRejects]
  split
  · exact (List.append_nil _).symm
  · rfl

/-- A check without rejections is answered OK (R65). -/
theorem State.certify_of_check (ref : CmdRef) (check : j.kind = .check) (hr : j.ref = some ref) (clean : s.certRejects p = []) :
    s.certify j p reads = s.endJob.complete ref .ok := by
  have byCmd : ∀ b, j.kind ≠ .boot b := by simp [check]
  rw [State.certRejects] at clean
  simp only [State.certify, s.loadMap_of_command j _ byCmd, check, clean, hr, List.isEmpty_nil, if_true, State.endJob]

/-- A load without rejections is due at the next base mark (R48). -/
theorem State.certify_of_load (load : j.kind = .load) (clean : s.certRejects p = []) :
    s.certify j p reads = s.admitImage j p (certAll p.img [] (s.physFor p.img.compat)) [] reads := by
  have byCmd : ∀ b, j.kind ≠ .boot b := by simp [load]
  rw [State.certRejects] at clean
  simp only [State.certify, s.loadMap_of_command j _ byCmd, load, clean, List.isEmpty_nil, if_true, reduceCtorEq, if_false]

/-- The certificate's rejections refuse a check, and an image in compatible mode (R54, R517). -/
theorem State.certify_refuses (byCmd : ∀ b, j.kind ≠ .boot b) (fails : s.certRejects p ≠ []) (h : j.kind = .check ∨ p.img.compat = true) :
    s.certify j p reads = s.refuse j p (s.certRejects p) := by
  have faulty : (s.certRejects p).isEmpty = false := List.isEmpty_eq_false_iff.mpr fails
  rw [State.certRejects] at faulty ⊢
  simp only [State.certify, s.loadMap_of_command j _ byCmd, faulty, Bool.false_eq_true, if_false]
  split
  · rfl
  · rename_i load; exact if_pos (h.resolve_left load)

/-- A load of native mode that the certificate alone refuses waits for the voltage step in progress, or takes the next one that is left (R54). -/
theorem State.certify_takesStep (load : j.kind = .load) (fails : s.certRejects p ≠ []) (native : p.img.compat = false) :
    (s.age.volt.isSome = true → s.certify j p reads = s) ∧
    (s.age.volt = none → s.canSet = true → s.vset < s.vmax → s.certify j p reads = s.raiseVolt) := by
  have byCmd : ∀ b, j.kind ≠ .boot b := by simp [load]
  have faulty : (s.certRejects p).isEmpty = false := List.isEmpty_eq_false_iff.mpr fails
  rw [State.certRejects] at faulty
  simp only [State.certify, s.loadMap_of_command j _ byCmd, load, faulty, Bool.false_eq_true, reduceCtorEq, if_false]
  simp only [native, Bool.false_eq_true, if_false]
  refine ⟨fun stepping => if_pos stepping, fun still may below => ?_⟩
  simp only [still, may, below, Option.isSome_none, Bool.false_eq_true, if_false, decide_true, Bool.and_self, if_true]

/-- A splice with rejections is refused (R59). -/
theorem State.prepared_refuses (old : Img) (fails : s.spliceRejects old p ≠ []) :
    s.prepared j old p (p.recs ++ spliceFaults old p.img) reads = s.refuse j p (s.spliceRejects old p) :=
  if_pos (show (!(s.spliceRejects old p).isEmpty) = true by simp [fails])

/-- A splice without rejections is prepared, with its changed cells in RESULT (R59, R63). -/
theorem State.prepared_splices (old : Img) (ref : CmdRef) (hr : j.ref = some ref) (clean : s.spliceRejects old p = []) :
    ∃ q : Splice, q.img = p.img ∧ q.slot = j.slot ∧ q.changed = changedCells old p.img ∧ q.map = (s.splicePlaces old p).1 ∧ q.commit = none ∧
      s.prepared j old p (p.recs ++ spliceFaults old p.img) reads =
        ((s.onImg (fun x => { x with jobs := x.jobs.drop 1, poisoned := false, spliceLost := false, splice := some q })).showLoad).complete ref .ok 0
          ((changedCells old p.img).foldl (fun a c => a + 2 ^ c) 0) := by
  refine ⟨{ img := p.img, slot := j.slot, cert := s.certRecord p.img (certAll p.img (s.splicePlaces old p).1 (s.physFor p.img.compat)), changed := changedCells old p.img,
            extra := s.spliceExtra old p, map := (s.splicePlaces old p).1, mis := p.mis, reads := reads }, rfl, rfl, rfl, rfl, rfl,
    (if_neg (show ¬(!(s.spliceRejects old p).isEmpty) = true by simp [clean])).trans ?_⟩
  simp only [hr]
  rfl

end

/-! The turn of a parse, and what it then makes of the state (R48, R49, R53, R59). -/

/-- What a parse whose turn has come makes of the state: a load or a check goes on to the certificate or is refused, a prepare goes on to the splice, is refused, or is BUSY. -/
def State.parsed (s : State) (j : LoadJob) (p : Parsed) (reads : List (Nat × List Byte)) : State :=
  if j.kind = .prepare then
    match s.img.run with
    | none => s.refuse j p [{ reason := 0x0013 }]
    | some old =>
      if s.img.splice.isSome then (match j.ref with | some r => s.endJob.complete r .busy | none => s.endJob)
      else if p.img.dir.isEmpty then s.refuse j p p.recs
      else s.prepared j old p (p.recs ++ spliceFaults old p.img) reads
  else if p.recs.isEmpty then s.certify j p reads
  else s.refuse j p (s.withCert j p)

section
variable (reads : List (Nat × List Byte)) (s : State) (j : LoadJob) (rest : List LoadJob)

theorem execImageParseComplete_rests (h : s.img.jobs = [] ∨ s.img.due.isSome = true) : execImageParseComplete reads s = .next s := by
  unfold execImageParseComplete
  cases jobs : s.img.jobs with
  | nil => rfl
  | cons j rest => simp only [h.resolve_left (by simp [jobs]), Bool.true_or, if_true]

theorem execImageParseComplete_waits (jobs : s.img.jobs = j :: rest) (kind : j.kind ≠ .check) (wait : s.measWait = true) :
    execImageParseComplete reads s = .next s := by
  simp only [execImageParseComplete, jobs, kind, wait, ne_eq, not_false_eq_true, decide_true, Bool.and_self, Bool.or_true, if_true]

/-- The parse at the head is done where no image is due and no measurement of its own is awaited. -/
theorem execImageParseComplete_parsed (jobs : s.img.jobs = j :: rest) (due : s.img.due = none) (turn : j.kind = .check ∨ s.measWait = false) :
    execImageParseComplete reads s = .next (s.parsed j (parseImg (s.loadEnv reads) j.bytes s.img.poisoned) reads) := by
  have free : (s.img.due.isSome || (decide (j.kind ≠ .check) && s.measWait)) = false := by
    rcases turn with check | ready
    · simp [due, check]
    · simp [due, ready]
  simp only [execImageParseComplete, jobs, free, State.parsed, Bool.false_eq_true, if_false]
  generalize parseImg (s.loadEnv reads) j.bytes s.img.poisoned = p
  split
  · cases s.img.run <;> rfl
  · split <;> rfl

end

section
variable (s : State) (j : LoadJob) (p : Parsed) (reads : List (Nat × List Byte))

/-- A load or a check without rejections goes on to the certificate. -/
theorem State.parsed_certifies (kind : j.kind ≠ .prepare) (clean : p.recs = []) : s.parsed j p reads = s.certify j p reads := by
  simp only [State.parsed, kind, clean, List.isEmpty_nil, if_false, if_true]

/-- A load or a check with rejections is refused, the certificate's among them (R58). -/
theorem State.parsed_refuses (kind : j.kind ≠ .prepare) (faulty : p.recs ≠ []) : s.parsed j p reads = s.refuse j p (s.withCert j p) := by
  simp only [State.parsed, kind, List.isEmpty_eq_false_iff.mpr faulty, Bool.false_eq_true, if_false]

/-- A prepare with no image running is refused (R59). -/
theorem State.parsed_of_none (kind : j.kind = .prepare) (run : s.img.run = none) : s.parsed j p reads = s.refuse j p [{ reason := 0x0013 }] := by
  simp only [State.parsed, kind, run, if_true]

/-- A prepare beside a prepared splice is BUSY (R59). -/
theorem State.parsed_of_splice (ref : CmdRef) (kind : j.kind = .prepare) (hr : j.ref = some ref) (run : s.img.run.isSome = true) (splice : s.img.splice.isSome = true) :
    s.parsed j p reads = s.endJob.complete ref .busy := by
  obtain ⟨old, run⟩ := Option.isSome_iff_exists.mp run
  simp only [State.parsed, kind, run, splice, hr, if_true]

/-- A prepare of an image whose directory was not read is refused with the parser's rejections alone. -/
theorem State.parsed_unread (kind : j.kind = .prepare) (run : s.img.run.isSome = true) (splice : s.img.splice = none) (unread : p.img.dir.isEmpty = true) :
    s.parsed j p reads = s.refuse j p p.recs := by
  obtain ⟨old, run⟩ := Option.isSome_iff_exists.mp run
  simp only [State.parsed, kind, run, splice, unread, Option.isSome_none, Bool.false_eq_true, if_false, if_true]

/-- Any other prepare goes on to the splice (R59). -/
theorem State.parsed_prepares (old : Img) (kind : j.kind = .prepare) (run : s.img.run = some old) (splice : s.img.splice = none) (read : p.img.dir.isEmpty = false) :
    s.parsed j p reads = s.prepared j old p (p.recs ++ spliceFaults old p.img) reads := by
  simp only [State.parsed, kind, run, splice, read, Option.isSome_none, Bool.false_eq_true, if_false, if_true]

/-- A parse that comes to a refusal of a command's attempt is refused as R58 says. -/
theorem parseRefused_of_refuse (rest : List LoadJob) (ref : CmdRef) (r : RejRecord) (more : List RejRecord) (byCmd : ∀ b, j.kind ≠ .boot b)
    (jobs : s.img.jobs = j :: rest) (due : s.img.due = none) (hr : j.ref = some ref)
    (goes : execImageParseComplete reads s = .next (s.parsed j p reads)) (refuses : s.parsed j p reads = s.refuse j p (r :: more)) :
    ParseRefused reads s j rest ref r more := by
  obtain ⟨img, count, host, pts, ctr⟩ := s.refuse_effects j p r more ref byCmd hr
  refine ⟨_, goes.trans (congrArg _ refuses), ?_, ?_, ?_, ?_, ?_, ?_, ?_, count, host, pts, ctr⟩ <;> rw [img]
  · rw [jobs]; rfl
  · exact due

end

/-- Each parse, by its kind and its rejections (R48, R54, R58, R59). -/
theorem parsesAdmitOrRefuse : Claims.ParsesAdmitOrRefuse := by
  refine ⟨execImageParseComplete_rests, fun reads s j rest => execImageParseComplete_waits reads s j rest, fun reads s j rest ref jobs due turn hr => ?_⟩
  have goes := execImageParseComplete_parsed reads s j rest jobs due turn
  extract_lets p phys w cert refused
  have dropped : s.img.jobs.drop 1 = rest := by rw [jobs]; rfl
  have refuses (byCmd : ∀ b, j.kind ≠ .boot b) (r : RejRecord) (more : List RejRecord) (h : s.parsed j p reads = s.refuse j p (r :: more)) : refused r more :=
    parseRefused_of_refuse s j p reads rest ref r more byCmd jobs due hr goes h
  refine ⟨fun kind => ?_, fun kind => ?_⟩
  · have byCmd : ∀ b, j.kind ≠ .boot b := by rcases kind with h | h <;> simp [h]
    have judged : j.kind ≠ .prepare := by rcases kind with h | h <;> simp [h]
    have certifies := s.parsed_certifies j p reads judged
    refine ⟨fun r more faulty all => refuses byCmd r more ?_, fun r more clean fails h => refuses byCmd r more ?_, fun clean fails load native stepping => goes.trans (congrArg _ ?_),
      fun clean fails load native still may below => goes.trans (congrArg _ ?_), fun clean certified => ⟨s.certify j p reads, goes.trans (congrArg _ (certifies clean)), ?_⟩⟩
    · rw [s.parsed_refuses j p reads judged faulty, s.withCert_of_command j p byCmd]
      exact congrArg _ all
    · rw [certifies clean, s.certify_refuses j p reads byCmd (fun clean => List.cons_ne_nil r more (fails.symm.trans clean)) h]
      exact congrArg _ fails
    · exact (certifies clean).trans ((s.certify_takesStep j p reads load fails native).1 stepping)
    · exact (certifies clean).trans ((s.certify_takesStep j p reads load fails native).2 still may below)
    · rcases kind with load | check
      · rw [s.certify_of_load j p reads load certified, State.admitImage_img, State.admitImage_host, State.admitImage_pts]
        exact ⟨dropped, rfl, rfl, rfl, fun check => absurd (load.symm.trans check) LoadKind.noConfusion, fun _ => ⟨rfl, _, rfl, rfl, rfl, hr, rfl⟩⟩
      · rw [s.certify_of_check j p reads ref check hr certified, State.complete_img, State.endJob_img, State.complete_pts, State.endJob_pts]
        exact ⟨dropped, rfl, rfl, rfl, fun _ => ⟨due, State.complete_host_congr _ _ _ _ _ s.endJob_host⟩, fun load => absurd (check.symm.trans load) LoadKind.noConfusion⟩
  · have byCmd : ∀ b, j.kind ≠ .boot b := by simp [kind]
    refine ⟨fun run => refuses byCmd _ _ (s.parsed_of_none j p reads kind run), fun r more run splice unread all => refuses byCmd r more ?_,
      fun run splice => ⟨s.endJob, goes.trans (congrArg _ (s.parsed_of_splice j p reads ref kind hr run splice)), ?_, ?_, s.endJob_host⟩, fun old run splice read => ?_⟩
    · rw [s.parsed_unread j p reads kind run splice unread, all]
    · rw [State.endJob_img]
    · rw [State.endJob_img, dropped]
    · have prepares := s.parsed_prepares j p reads old kind run splice read
      extract_lets ch pl extra all
      refine ⟨fun clean => ?_, fun r more faulty => refuses byCmd r more ?_⟩
      · obtain ⟨q, img, slot, changed, map, free, splices⟩ := s.prepared_splices j p reads old ref hr clean
        refine ⟨_, q, goes.trans (congrArg _ (prepares.trans splices)), ?_, img, slot, changed, map, free, ?_, ?_, ?_, ?_⟩
        · rw [State.complete_img, State.showLoad_img, State.onImg_img]
        · rw [State.complete_img, State.showLoad_img, State.onImg_img, dropped]
        · rw [State.complete_img, State.showLoad_img, State.onImg_img]
        · exact State.complete_host_congr _ _ _ _ _ (State.showLoad_host _)
        · rw [State.complete_pts, State.showLoad_pts, State.onImg_pts]
      · rw [prepares, s.prepared_refuses j p reads old (fun clean => List.cons_ne_nil r more (faulty.symm.trans clean))]
        exact congrArg _ faulty

/-- Settles O50: each command's refusals are judged in their order, an attempt starts by clearing the report, and a parse ends by what its rejections are. -/
theorem imageCommandsAndTheParser : Obligations.ImageCommandsAndTheParser :=
  ⟨imagesAreWrittenAndQueued, parsesAdmitOrRefuse, splicesAreCommittedOrCancelled, reportsAndCertificatesAreRead⟩

end Sys2Proof.Machine
end

section
/-! PROOFS. Arbiters by themselves: ports by rank, the choice of the next grant, clauses opened and ended, the rotation (R78, R81, R82, R85; O24). -/

namespace Sys2Proof.Machine

/-! Ports and ranks (R78, R79). -/

/-- The rank of a port is the lowest at which the arbiter has it. -/
theorem rankOf_eq_some {a : Arb} {p : Port} {k : Nat} :
    rankOf a p = some k ↔ p ∈ arbPorts a k ∧ k < 4 ∧ ∀ j < k, p ∉ arbPorts a j := by
  rw [show rankOf a p = (List.range 4).find? (fun r => decide (p ∈ arbPorts a r)) from rfl, List.find?_range_eq_some]
  simp

/-- A port that an arbiter has at a rank has no higher rank there. -/
theorem rankOf_le_of_mem {a : Arb} {p : Port} {k : Nat} (hk : k < 4) (h : p ∈ arbPorts a k) : ∃ j ≤ k, rankOf a p = some j := by
  cases hr : rankOf a p with
  | none => exact absurd h (by simpa using List.find?_eq_none.mp hr k (by simp; omega))
  | some j => exact ⟨j, Nat.le_of_not_lt (fun lt => (rankOf_eq_some.mp hr).2.2 k lt h), rfl⟩

/-- The emergency requesters have no rank (R79). -/
theorem rankOf_emergency (a : Arb) : rankOf a .debug = none ∧ rankOf a .refresh = none := by
  have away (k : Nat) : Port.debug ∉ arbPorts a k ∧ Port.refresh ∉ arbPorts a k := by
    unfold arbPorts
    split <;> decide
  constructor <;> refine List.find?_eq_none.mpr (fun k _ => ?_) <;> simp [away k]

theorem arbPorts_nodup (a : Arb) (k : Nat) : (arbPorts a k).Nodup := by
  unfold arbPorts
  split <;> decide

theorem mem_rotated {α : Type} {l : List α} {n : Nat} {y : α} : y ∈ rotated l n ↔ y ∈ l := by
  rw [rotated, List.mem_append, or_comm, ← List.mem_append, List.take_append_drop]

/-! The first request of a list of ports. -/

theorem portPick_append (q : List ArbReq) (l m : List Port) : portPick q (l ++ m) = (portPick q l).or (portPick q m) := by
  induction l with
  | nil => rfl
  | cons p t ih =>
    simp only [List.cons_append, portPick]
    split
    · rfl
    · exact ih

theorem portPick_mem {q : List ArbReq} {l : List Port} {r : ArbReq} (h : portPick q l = some r) : r ∈ q ∧ r.port ∈ l := by
  induction l with
  | nil => cases h
  | cons p t ih =>
    simp only [portPick] at h
    split at h
    · rename_i found
      rw [h] at found
      have port : r.port = p := by simpa using List.find?_some found
      exact ⟨List.mem_of_find?_eq_some found, by simp [port]⟩
    · exact ⟨(ih h).1, List.mem_cons_of_mem _ (ih h).2⟩

theorem portPick_isSome {q : List ArbReq} {l : List Port} {r : ArbReq} (hr : r ∈ q) (hp : r.port ∈ l) : (portPick q l).isSome = true := by
  induction l with
  | nil => cases hp
  | cons p t ih =>
    simp only [portPick]
    split
    · rfl
    · rename_i absent
      have other : r.port ≠ p := by simpa using List.find?_eq_none.mp absent r hr
      exact ih ((List.mem_cons.mp hp).resolve_left other)

/-- Of ports listed rank by rank, the first with a request is of no higher rank than any port with a request. -/
theorem portPick_rank_le {q : List ArbReq} {ports : Nat → List Port} {rest : List Port} {ranks : List Nat} (rising : ranks.Pairwise (· < ·))
    {r w : ArbReq} {k : Nat} (pick : portPick q ((ranks.map ports).flatten ++ rest) = some r) (hk : k ∈ ranks) (waits : w ∈ q) (hw : w.port ∈ ports k) :
    ∃ j ∈ ranks, j ≤ k ∧ r.port ∈ ports j := by
  induction ranks with
  | nil => cases hk
  | cons first more ih =>
    obtain ⟨below, rising⟩ := List.pairwise_cons.mp rising
    rw [List.map_cons, List.flatten_cons, List.append_assoc, portPick_append] at pick
    cases here : portPick q (ports first) with
    | some p =>
      rw [here, Option.some_or] at pick
      obtain rfl := Option.some.inj pick
      refine ⟨first, List.mem_cons_self, ?_, (portPick_mem here).2⟩
      rcases List.mem_cons.mp hk with rfl | hk
      · exact Nat.le_refl _
      · exact Nat.le_of_lt (below k hk)
    | none =>
      rw [here, Option.none_or] at pick
      have later : k ≠ first := by
        rintro rfl
        have := portPick_isSome waits hw
        simp [here] at this
      obtain ⟨j, hj, le, hp⟩ := ih rising pick ((List.mem_cons.mp hk).resolve_left later)
      exact ⟨j, List.mem_cons_of_mem _ hj, le, hp⟩

/-! The next grant (R78, R81, R85). -/

/-- A request of class EMERGENCY that may be granted: the debug port's only 64 handshake periods after its last grant (R85). -/
def Arbiter.Grantable (x : Arbiter) (r : ArbReq) : Prop := r.cls = .emergency ∧ (r.port = .debug → 64 ≤ x.sinceDebug)

section
variable {x : Arbiter} {a : Arb} {r q : ArbReq}

theorem Arbiter.urgent_spec (h : x.urgent = some r) : r ∈ x.queue ∧ x.Grantable r := by
  have test := List.find?_some h
  simp only [Bool.and_eq_true, Bool.or_eq_true, decide_eq_true_eq] at test
  exact ⟨List.mem_of_find?_eq_some h, test.1, fun debug => test.2.resolve_left (not_not_intro debug)⟩

theorem Arbiter.urgent_eq_none : x.urgent = none ↔ ∀ q ∈ x.queue, ¬ x.Grantable q := by
  simp only [Arbiter.urgent, List.find?_eq_none, Arbiter.Grantable, Bool.and_eq_true, Bool.or_eq_true, decide_eq_true_eq]
  exact forall₂_congr (fun q _ => by tauto)

theorem Arbiter.ownNext_spec {c : Clause} (h : x.ownNext c = some r) : r ∈ x.queue ∧ r.cls ≠ .emergency ∧ r.port = c.port ∧ r.target = c.target := by
  have test := List.find?_some h
  simp only [Bool.and_eq_true, decide_eq_true_eq] at test
  obtain ⟨⟨ord, port⟩, target⟩ := test
  exact ⟨List.mem_of_find?_eq_some h, ord, port, target⟩

theorem Arbiter.ranked_spec (h : x.ranked a = some r) : r ∈ x.queue ∧ r.cls ≠ .emergency := by
  simpa using List.mem_filter.mp (portPick_mem h).1

/-- The request that the ranks choose is of the lowest rank that waits (R78). -/
theorem Arbiter.ranked_least (h : x.ranked a = some r) (hq : q ∈ x.queue) (ord : q.cls ≠ .emergency) {k : Nat} (hk : rankOf a q.port = some k) :
    ∃ j, rankOf a r.port = some j ∧ j ≤ k := by
  obtain ⟨port, lt, -⟩ := rankOf_eq_some.mp hk
  obtain ⟨j, hj, le, rport⟩ := portPick_rank_le (by decide) h (show k ∈ [0, 1, 2, 3] by simp; omega) (List.mem_filter.mpr ⟨hq, by simpa using ord⟩)
    (mem_rotated.mpr port)
  obtain ⟨i, hi, rank⟩ := rankOf_le_of_mem (by simp at hj; omega) (mem_rotated.mp rport)
  exact ⟨i, rank, hi.trans le⟩

/-- A request that has a rank waits for a choice of the ranks (R78). -/
theorem Arbiter.ranked_isSome (hq : q ∈ x.queue) (ord : q.cls ≠ .emergency) (hk : (rankOf a q.port).isSome = true) : (x.ranked a).isSome = true := by
  obtain ⟨k, hk⟩ := Option.isSome_iff_exists.mp hk
  obtain ⟨port, lt, -⟩ := rankOf_eq_some.mp hk
  refine portPick_isSome (List.mem_filter.mpr ⟨hq, by simpa using ord⟩) (List.mem_append_left _ (List.mem_flatten.mpr ?_))
  exact ⟨_, List.mem_map.mpr ⟨k, by simp; omega, rfl⟩, mem_rotated.mpr port⟩

/-- A grant is an emergency, or without one the clause owner's, or without a clause a rank's (R78, R81, R85). -/
theorem Arbiter.choose_cases (h : x.choose a = some r) :
    x.urgent = some r ∨ (x.urgent = none ∧ ∃ c, x.clause = some c ∧ x.ownNext c = some r) ∨ (x.urgent = none ∧ x.clause = none ∧ x.ranked a = some r) := by
  unfold Arbiter.choose at h
  split at h
  · rename_i u; exact .inl (u.trans h)
  · rename_i u
    split at h
    · rename_i c hc; exact .inr (.inl ⟨u, c, hc, h⟩)
    · rename_i hc; exact .inr (.inr ⟨u, hc, h⟩)

theorem Arbiter.choose_mem (h : x.choose a = some r) : r ∈ x.queue := by
  rcases choose_cases h with urgent | ⟨-, c, -, own⟩ | ⟨-, -, ranked⟩
  · exact (urgent_spec urgent).1
  · exact (ownNext_spec own).1
  · exact (ranked_spec ranked).1

/-- An emergency that may be granted goes first (R85). -/
theorem Arbiter.choose_of_grantable (hq : q ∈ x.queue) (now : x.Grantable q) : ∃ u, x.urgent = some u ∧ x.choose a = some u := by
  cases hu : x.urgent with
  | none => exact absurd now (urgent_eq_none.mp hu q hq)
  | some u => exact ⟨u, rfl, by simp only [Arbiter.choose, hu]⟩

/-- A grant of another class is the clause owner's, or without a clause a rank's (R78, R81). -/
theorem Arbiter.choose_ordinary (h : x.choose a = some r) (ord : r.cls ≠ .emergency) :
    (∃ c, x.clause = some c ∧ x.ownNext c = some r) ∨ (x.clause = none ∧ x.ranked a = some r) := by
  rcases choose_cases h with urgent | ⟨-, own⟩ | ⟨-, ranked⟩
  · exact absurd (urgent_spec urgent).2.1 ord
  · exact .inl own
  · exact .inr ranked

/-- With emergencies alone in the queue, none of which may be granted yet, nothing is granted. -/
theorem Arbiter.choose_eq_none (h : ∀ q ∈ x.queue, q.cls = .emergency ∧ ¬ x.Grantable q) : x.choose a = none := by
  refine Option.eq_none_iff_forall_ne_some.mpr (fun r hr => ?_)
  have mem := choose_mem hr
  rcases choose_cases hr with urgent | ⟨-, c, -, own⟩ | ⟨-, -, ranked⟩
  · exact (h r mem).2 (urgent_spec urgent).2
  · exact (ownNext_spec own).2.1 (h r mem).1
  · exact (ranked_spec ranked).2 (h r mem).1

/-- A request alone in the queue of a free arbiter without a clause is granted, if its port has a rank (R78). -/
theorem Arbiter.choose_only (cl : x.clause = none) (only : x.queue = [q]) (ord : q.cls ≠ .emergency)
    (rank : (rankOf a q.port).isSome = true) : x.choose a = some q := by
  have calm : x.urgent = none := urgent_eq_none.mpr (by simp [only, Grantable, ord])
  have chosen : (x.choose a).isSome = true := by
    simpa only [choose, calm, cl] using ranked_isSome (by simp [only]) ord rank
  obtain ⟨r, hr⟩ := Option.isSome_iff_exists.mp chosen
  obtain rfl : r = q := by simpa [only] using choose_mem hr
  exact hr

end

/-! The rotation and the end of a clause (R78, R82). -/

section
variable (x : Arbiter) (a : Arb) (p : Port)

/-- The rotation moves its pointers alone. -/
theorem Arbiter.turnPast_frame : x.turnPast a p = { x with turn := (x.turnPast a p).turn } := by
  unfold Arbiter.turnPast
  split
  · dsimp only
    split <;> rfl
  · rfl

@[simp] theorem Arbiter.turnPast_queue : (x.turnPast a p).queue = x.queue := by rw [turnPast_frame]
@[simp] theorem Arbiter.turnPast_active : (x.turnPast a p).active = x.active := by rw [turnPast_frame]
@[simp] theorem Arbiter.turnPast_clause : (x.turnPast a p).clause = x.clause := by rw [turnPast_frame]

@[simp] theorem Arbiter.endClause_clause : (x.endClause a).clause = none := by
  unfold Arbiter.endClause
  split
  · exact turnPast_clause _ _ _
  · assumption

@[simp] theorem Arbiter.endClause_queue : (x.endClause a).queue = x.queue := by
  unfold Arbiter.endClause
  split
  · exact turnPast_queue _ _ _
  · rfl

@[simp] theorem Arbiter.endClause_active : (x.endClause a).active = x.active := by
  unfold Arbiter.endClause
  split
  · exact turnPast_active _ _ _
  · rfl

end

/-- A search of a list without repeats finds an element at its one place. -/
theorem findIdx'_of_nodup {α : Type} [DecidableEq α] {l : List α} {i : Nat} {p : α} (once : l.Nodup) (h : l[i]? = some p) (n : Nat) :
    findIdx' (fun y => decide (y = p)) l n = some (n + i, p) := by
  induction l generalizing i n with
  | nil => simp at h
  | cons y t ih =>
    obtain ⟨fresh, once⟩ := List.nodup_cons.mp once
    cases i with
    | zero =>
      obtain rfl : y = p := by simpa using h
      simp [findIdx']
    | succ i =>
      have ht : t[i]? = some p := by simpa using h
      have other : y ≠ p := fun eq => fresh (eq ▸ List.mem_of_getElem? ht)
      rw [findIdx', if_neg (by simpa using other), ih once ht, Nat.add_right_comm, Nat.add_assoc]

/-- The rotation of a port's rank goes on with the port after it (R78). -/
theorem Arbiter.turnPast_turn (x : Arbiter) {a : Arb} {p : Port} {k i : Nat} (rank : rankOf a p = some k) (place : (arbPorts a k)[i]? = some p) :
    (x.turnPast a p).turn.at' k 0 = (i + 1) % (arbPorts a k).length := by
  simp only [Arbiter.turnPast, rank, findIdx'_of_nodup (arbPorts_nodup a k) place, Nat.zero_add, Tab.at_put_same]

/-! The end of a transfer (R66, R81, R82). -/

section
variable {x : Arbiter} {r : ArbReq} {b : Bool}

theorem Arbiter.ack_active (act : x.active = some (r, b)) : x.ack.active = some (r, true) := by
  cases b <;> simp [Arbiter.ack, act]

theorem Arbiter.ack_outside (cl : x.clause = none) : x.ack.clause = none := by
  unfold Arbiter.ack
  split <;> simp [cl]

/-- Phase 2 of a transfer keeps the open clause and the transfers granted in it. -/
theorem Arbiter.ack_inside {c : Clause} (cl : x.clause = some c) : ∃ c', x.ack.clause = some c' ∧ c'.count = c.count := by
  unfold Arbiter.ack
  split
  · dsimp only
    rw [cl]
    split
    · exact ⟨c, rfl, rfl⟩
    · exact ⟨_, rfl, rfl⟩
  · exact ⟨c, cl, rfl⟩

/-- A transfer outside a clause ends, and the rotation goes on past its port. -/
theorem Arbiter.finish_outside (a : Arb) (cl : x.clause = none) (act : x.active = some (r, b)) (ord : r.cls ≠ .emergency) :
    x.finish a = ({ x.ack with active := none }.turnPast a r.port, false) := by
  simp only [Arbiter.finish, ack_active act, ack_outside cl, if_neg ord]

/-- A transfer of the open clause ends: the clause ends with one of class ORDINARY and, counted, with the 32nd of class LOCK. -/
theorem Arbiter.finish_inside (a : Arb) {c : Clause} (cl : x.clause = some c) (act : x.active = some (r, b)) (ord : r.cls ≠ .emergency) :
    ∃ y : Arbiter, y.clause.isSome = true ∧
      x.finish a = if r.cls = .ordinary then (y.endClause a, false) else if 32 ≤ c.count then (y.endClause a, true) else (y, false) := by
  obtain ⟨c', cl', count⟩ := ack_inside cl
  refine ⟨{ x.ack with active := none }, by simp [cl'], ?_⟩
  simp only [Arbiter.finish, ack_active act, cl', if_neg ord, count]

end

/-- A request of class LOCK opens a clause where none is open (R81). -/
theorem Arbiter.take_opens {x : Arbiter} {r : ArbReq} (cl : x.clause = none) (lock : r.cls = .lock) :
    (x.take r).clause = some { port := r.port, owner := r.owner, target := r.target, count := 1, addr := r.addr } := by
  simp [Arbiter.take, cl, lock]

/-- The part of O24 about one arbiter: emergencies first, then the clause's owner, then the lowest rank; clauses open and end with their transfers, and the rotation goes on. -/
theorem arbitersGrantByRank : Claims.ArbitersGrantByRank := by
  intro x a r
  refine ⟨Arbiter.choose_mem, fun h ⟨q, hq, now⟩ => ?_, fun h emergency debug => ?_, fun c h ord cl => ?_, fun h ord cl q hq qord k hk => ?_,
    fun cl lock => ⟨_, Arbiter.take_opens cl lock, rfl, rfl, rfl, rfl, rfl⟩, fun c b cl act => ?_, fun b k i cl act ord rank place => ?_⟩
  · obtain ⟨u, urgent, first⟩ := Arbiter.choose_of_grantable (a := a) hq now
    obtain rfl := Option.some.inj (first.symm.trans h)
    exact (Arbiter.urgent_spec urgent).2.1
  · rcases Arbiter.choose_cases h with urgent | ⟨-, c, -, own⟩ | ⟨-, -, ranked⟩
    · exact (Arbiter.urgent_spec urgent).2.2 debug
    · exact absurd emergency (Arbiter.ownNext_spec own).2.1
    · exact absurd emergency (Arbiter.ranked_spec ranked).2
  · rcases Arbiter.choose_ordinary h ord with ⟨c', cl', own⟩ | ⟨closed, -⟩
    · obtain rfl := Option.some.inj (cl'.symm.trans cl)
      exact (Arbiter.ownNext_spec own).2.2
    · simp [cl] at closed
  · rcases Arbiter.choose_ordinary h ord with ⟨c, cl', -⟩ | ⟨-, ranked⟩
    · simp [cl] at cl'
    · exact Arbiter.ranked_least ranked hq qord hk
  · have ended (ord : r.cls ≠ .emergency) := Arbiter.finish_inside a cl act ord
    refine ⟨fun ord => ?_, fun lock full => ?_, fun lock room => ?_⟩
    · obtain ⟨y, -, eq⟩ := ended (by simp [ord])
      simp [eq, ord]
    · obtain ⟨y, -, eq⟩ := ended (by simp [lock])
      simp [eq, lock, full]
    · obtain ⟨y, stays, eq⟩ := ended (by simp [lock])
      simp [eq, lock, Nat.not_le_of_lt room, stays]
  · rw [Arbiter.finish_outside a cl act (by simp [ord])]
    exact Arbiter.turnPast_turn _ rank place

end Sys2Proof.Machine
end

section
/-! PROOFS. Arbiters in the state: grants, requests of class EMERGENCY, lapsed and torn clauses, and what a row's traffic leaves; lanes, refreshes and the cell controls (R68, R77, R82, R84 to R86, R88; O24). -/

namespace Sys2Proof.Machine

section
variable (s : State) (a : Arb)

/-! An arbiter changed in the state. -/

@[simp] theorem State.arb_onArb_same (f : Arbiter → Arbiter) : (s.onArb a f).arb a = f (s.arb a) := by
  simp [State.arb, State.onArb]

theorem State.arb_onArb_ne (b : Arb) (f : Arbiter → Arbiter) (h : arbKey b ≠ arbKey a) : (s.onArb a f).arb b = s.arb b := by
  simp [State.arb, State.onArb, Tab.at_store_ne _ _ _ _ _ _ h]

@[simp] theorem State.arb_count (e n : Nat) : (s.count e n).arb a = s.arb a := by rfl

/-- A change of an arbiter is a change of the arbiters alone. -/
theorem State.onArb_frame (f : Arbiter → Arbiter) : s.onArb a f = { s with fab := { s.fab with arbs := (s.onArb a f).fab.arbs } } := rfl

/-! Grants (R78, R85). -/

theorem State.arbGrant_busy (h : (s.arb a).active.isSome = true) : s.arbGrant a = s := by
  simp only [State.arbGrant, h, if_true]

theorem State.arbGrant_rests (h : (s.arb a).choose a = none) : s.arbGrant a = s := by
  simp only [State.arbGrant, h, ite_self]

theorem State.arbGrant_grants (r : ArbReq) (free : (s.arb a).active = none) (h : (s.arb a).choose a = some r) :
    s.arbGrant a = (s.grantEffect a r).onArb a (fun x => x.take r) := by
  simp [State.arbGrant, free, h]

/-- A grant to a port that has a rank performs nothing of its own. -/
theorem State.grantEffect_of_rank (r : ArbReq) (h : (rankOf a r.port).isSome = true) : s.grantEffect a r = s := by
  unfold State.grantEffect
  split
  · rename_i port; simp [port, rankOf_emergency] at h
  · rename_i port; simp [port, rankOf_emergency] at h
  · rfl

/-- An arbiter whose queue a request has entered. -/
def Arbiter.enqueue (x : Arbiter) (r : ArbReq) : Arbiter := { x with queue := x.queue ++ [r] }

/-- A request of class EMERGENCY leaves an open clause as it is when it enters (R85). -/
theorem State.arbEnter_emergency (r : ArbReq) (h : r.cls = .emergency) : s.arbEnter a r = (s.onArb a (·.enqueue r)).arbGrant a := by
  refine congrArg (fun f => (s.onArb a f).arbGrant a) (funext (fun x => ?_))
  cases cl : x.clause <;> simp [cl, h, Arbiter.enqueue]

/-- An emergency waits at a busy arbiter (R85). -/
theorem State.arbEnter_busy (r : ArbReq) (h : r.cls = .emergency) (busy : (s.arb a).active.isSome = true) : s.arbEnter a r = s.onArb a (·.enqueue r) := by
  rw [s.arbEnter_emergency a r h, State.arbGrant_busy _ _ (by simpa [Arbiter.enqueue] using busy)]

/-- An emergency that may not be granted yet waits, alone in the queue (R85). -/
theorem State.arbEnter_early (r : ArbReq) (h : r.cls = .emergency) (empty : (s.arb a).queue = []) (early : ¬ (s.arb a).Grantable r) :
    s.arbEnter a r = s.onArb a (·.enqueue r) := by
  rw [s.arbEnter_emergency a r h, State.arbGrant_rests]
  rw [State.arb_onArb_same]
  exact Arbiter.choose_eq_none (fun q hq => by
    obtain rfl : q = r := by simpa [Arbiter.enqueue, empty] using hq
    exact ⟨h, early⟩)

/-- An emergency that may be granted is granted at once at a free arbiter (R85). -/
theorem State.arbEnter_granted (r : ArbReq) (free : (s.arb a).active = none) (empty : (s.arb a).queue = []) (now : (s.arb a).Grantable r) :
    s.arbEnter a r = ((s.onArb a (·.enqueue r)).grantEffect a r).onArb a (fun x => x.take r) := by
  have only : ((s.arb a).enqueue r).queue = [r] := by simp [Arbiter.enqueue, empty]
  obtain ⟨q, -, granted⟩ := Arbiter.choose_of_grantable (x := (s.arb a).enqueue r) (a := a) (q := r) (by simp [only]) now
  obtain rfl : q = r := by simpa [only] using Arbiter.choose_mem granted
  rw [s.arbEnter_emergency a q now.1, State.arbGrant_grants _ _ q]
  · simpa [Arbiter.enqueue] using free
  · rwa [State.arb_onArb_same]

end

/-- A request is granted: it leaves the queue and is the transfer in progress. -/
theorem Arbiter.take_queue_active (x : Arbiter) (r : ArbReq) : (x.take r).queue = x.queue.erase r ∧ (x.take r).active = some (r, false) := by
  unfold Arbiter.take
  dsimp only
  split
  · split <;> exact ⟨rfl, rfl⟩
  · split
    · exact ⟨rfl, rfl⟩
    · split <;> exact ⟨rfl, rfl⟩

/-! A clause whose owner is silent (R82). -/

/-- An idle arbiter with an open clause and no request of its owner's port is starved. -/
theorem Arbiter.starved_of_silent {x : Arbiter} {c : Clause} (cl : x.clause = some c) (idle : x.active = none) (silent : ∀ q ∈ x.queue, q.port ≠ c.port) :
    x.starved = true := by
  have absent : x.ownNext c = none := Option.eq_none_iff_forall_ne_some.mpr (fun r hr => by
    obtain ⟨mem, -, port, -⟩ := ownNext_spec hr
    exact silent r mem port)
  simp [Arbiter.starved, cl, idle, absent]

section
variable (s : State) (a : Arb)

/-- The state in which an arbiter's clause has lapsed and the next grant is due. -/
def State.lapsed : State := (s.onArb a (fun x => x.endClause a)).count 0x083

@[simp] theorem State.arb_lapsed : (s.lapsed a).arb a = (s.arb a).endClause a := by simp [State.lapsed]

theorem exec_clauseLapse_starved (h : (s.arb a).starved = true) : exec (.clauseLapse a) s = .next ((s.lapsed a).arbGrant a) :=
  congrArg Host.Outcome.next (if_pos h)

theorem exec_clauseLapse_rests (h : (s.arb a).starved = false) : exec (.clauseLapse a) s = .next s :=
  congrArg Host.Outcome.next (if_neg (Bool.eq_false_iff.mp h))

end

/-! Torn clauses (R86, R87). -/

section
variable (s : State)

@[simp] theorem State.work_onWork_same (k : Nat) (f : PointWork → PointWork) : (s.onWork k f).work k = f (s.work k) :=
  Tab.at_put_same _ _ _ _

theorem State.work_onWork_ne (i k : Nat) (f : PointWork → PointWork) (h : k ≠ i) : (s.onWork i f).work k = s.work k :=
  Tab.at_put_ne _ _ _ _ _ h

/-- The points that a torn clause has written are marked. -/
def State.markTorn (l : List Nat) : State := forL l (fun k (s : State) => s.onWork k (fun w => { w with torn := true })) s

theorem State.markTorn_marks (l : List Nat) : ∀ k ∈ l, ((s.markTorn l).work k).torn = true := by
  refine forL_settles (fun k (t : State) => (t.work k).torn = true) l _ s (fun k t => by simp) (fun i k t kept => ?_)
  by_cases own : k = i
  · subst own; simp
  · rw [t.work_onWork_ne _ _ _ own]; exact kept

theorem State.markTorn_other (l : List Nat) (k : Nat) (h : k ∉ l) : (s.markTorn l).work k = s.work k :=
  forL_keep (fun t : State => t.work k = s.work k) l _ s rfl (fun i t hi kept => (t.work_onWork_ne i k _ (fun eq => h (eq ▸ hi))).trans kept)

theorem State.markTorn_ctr (l : List Nat) : (s.markTorn l).ctr = s.ctr :=
  forL_keep (fun t : State => t.ctr = s.ctr) l _ s rfl (fun _ _ _ kept => kept)

theorem State.markTorn_regs (l : List Nat) : (s.markTorn l).regs = s.regs :=
  forL_keep (fun t : State => t.regs = s.regs) l _ s rfl (fun _ _ _ kept => kept)

/-- A torn clause at a cell's bank shows at the cell, with the place of its first transfer and its owner (R86, R88). -/
def State.showTorn (c : Clause) : State :=
  match c.target with
  | .bank cell _ => ((s.wr Reg.CEL_STATUS_TORN 1 [cell]).wr Reg.CEL_TORN_ADDR_ADDR c.addr [cell]).wr Reg.CEL_TORN_SRC_SRC (ownerCode c.owner) [cell]
  | _ => s

theorem State.tear_eq (c : Clause) : s.tear c = ((s.count 0x081).showTorn c).markTorn c.points := rfl

theorem State.showTorn_ctr (c : Clause) : (s.showTorn c).ctr = s.ctr := by
  unfold State.showTorn
  split
  · rw [State.wr_ctr, State.wr_ctr, State.wr_ctr]
  · rfl

theorem State.work_wr (f : Fld) (v : Nat) (ix : List Nat) (k : Nat) : (s.wr f v ix).work k = s.work k := by rfl

theorem State.work_showTorn (c : Clause) (k : Nat) : (s.showTorn c).work k = s.work k := by
  unfold State.showTorn
  split
  · rw [State.work_wr, State.work_wr, State.work_wr]
  · rfl

theorem State.rd_showTorn (c : Clause) (cell b : Nat) (h : c.target = .bank cell b) : (s.showTorn c).rd Reg.CEL_STATUS_TORN [cell] = 1 := by
  simp only [State.showTorn, h]
  rw [State.rd_wr_ne _ _ _ _ _ _ (by simp [regAddr, Reg.CEL_STATUS_TORN, Reg.CEL_TORN_SRC_SRC, Reg.CEL_STATUS, Reg.CEL_TORN_SRC]),
    State.rd_wr_ne _ _ _ _ _ _ (by simp [regAddr, Reg.CEL_STATUS_TORN, Reg.CEL_TORN_ADDR_ADDR, Reg.CEL_STATUS, Reg.CEL_TORN_ADDR])]
  exact State.rd_wr_same _ _ _ _ (by decide) (by decide)

end

/-- The part of O24 about clauses: silent ones lapse, torn ones are counted, shown and marked, and a row acts on what its traffic leaves. -/
theorem clausesLapseAndTear : Claims.ClausesLapseAndTear := by
  refine ⟨fun a s => ⟨exec_clauseLapse_rests s a, fun c cl idle empty => ?_, fun c q cl idle only ord other rank => ?_⟩,
    fun c s => ⟨?_, ?_, fun k away => ?_, fun cell b target => ?_⟩, fun l cell n addr w size v s => ⟨rfl, rfl, rfl, rfl, rfl⟩⟩
  · have starved := Arbiter.starved_of_silent cl idle (by simp [empty])
    have rests : ((s.lapsed a).arb a).choose a = none := Arbiter.choose_eq_none (by simp [empty])
    rw [exec_clauseLapse_starved s a starved, State.arbGrant_rests _ _ rests]
    exact ⟨s.lapsed a, rfl, by simp, fun b apart => (State.arb_count _ _ _ _).trans (s.arb_onArb_ne a b _ apart), rfl⟩
  · have starved := Arbiter.starved_of_silent cl idle (by simpa [only] using other)
    have granted : ((s.lapsed a).arb a).choose a = some q := Arbiter.choose_only (by simp) (by simpa using only) (by simp [ord]) rank
    refine ⟨_, exec_clauseLapse_starved s a starved, ?_⟩
    rw [State.arbGrant_grants _ a q (by simpa using idle) granted, State.grantEffect_of_rank _ a q rank]
    rw [State.arb_onArb_same, State.arb_lapsed]
    obtain ⟨left, active⟩ := ((s.arb a).endClause a).take_queue_active q
    exact ⟨by simp [Arbiter.take, ord], active, by simp [left, only], rfl⟩
  · rw [s.tear_eq, State.markTorn_ctr, State.showTorn_ctr]
  · exact State.markTorn_marks _ _
  · rw [s.tear_eq, State.markTorn_other _ _ _ away, State.work_showTorn]
    rfl
  · rw [s.tear_eq, State.flag, State.rd_congr _ _ (State.markTorn_regs _ _), State.rd_showTorn _ c cell b target]
    rfl

/-! Lanes (R68). -/

/-- A cause noted for the pair changes the pair's state alone (R387). -/
theorem State.selfCause_frame (s : State) (c : Nat) : s.selfCause c = { s with pair := (s.selfCause c).pair } := by
  unfold State.selfCause
  split <;> rfl

/-- The first fault of a lane, and any of a failed one, changes nothing (R68). -/
theorem State.laneFaulted_rests (s : State) (lane : Nat) (again : Bool) (h : again = false ∨ laneOf (lane / 4) (lane % 4) ∈ s.fab.failed) :
    s.laneFaulted lane again = s := by
  rcases h with first | failed <;> simp [State.laneFaulted, *]

/-- A fault of the repetition fails the lane (R68). -/
theorem State.laneFaulted_fails (s : State) (lane : Nat) (h : laneOf (lane / 4) (lane % 4) ∉ s.fab.failed) :
    s.laneFaulted lane true =
      (((s.onFab (fun f => { f with failed := f.failed ++ [laneOf (lane / 4) (lane % 4)] })).count 0x088).faultSignal .laneFault).selfCause 4 := by
  simp [State.laneFaulted, h]

/-! Emergency refreshes (R84, R85). -/

/-- The request that a refresh debt at its limit enters (R84). -/
def refreshReq (ch : Nat) : ArbReq := { port := .refresh, owner := .other, target := .ddr ch, cls := .emergency }

theorem exec_refreshEmergency (ch : Fin 2) (s : State) : exec (.refreshEmergency ch) s = .next (s.arbEnter (.ddr ch.val) (refreshReq ch.val)) := rfl

/-- A granted refresh is one command, if one is owed (R84). -/
theorem State.grantEffect_refresh (s : State) (ch : Nat) :
    let t := s.grantEffect (.ddr ch) (refreshReq ch)
    t.fab.refreshOwed.at' ch 0 = s.fab.refreshOwed.at' ch 0 - 1 ∧
    t.fab.refreshes.at' ch 0 = s.fab.refreshes.at' ch 0 + (if s.fab.refreshOwed.at' ch 0 = 0 then 0 else 1) ∧
    t = { s with fab := { s.fab with refreshOwed := t.fab.refreshOwed, refreshes := t.fab.refreshes } } := by
  by_cases owed : s.fab.refreshOwed.at' ch 0 = 0
  · have eq : s.grantEffect (.ddr ch) (refreshReq ch) = s := by simp [State.grantEffect, refreshReq, owed]
    simp [eq, owed]
  · simp [State.grantEffect, refreshReq, owed, State.onFab]

/-- The part of O24 about lanes, refreshes and the cell controls. -/
theorem lanesRefreshesAndCellControls : Claims.LanesRefreshesAndCellControls := by
  refine ⟨fun lane s => ?_, fun ch s => ⟨fun busy => ?_, fun free empty => ?_⟩, fun cell s => ⟨fun key safe => ?_, fun key away => ?_, fun key => ?_⟩, fun cell s => ?_⟩
  · have rests (again : Bool) (h : again = false ∨ laneOf (lane.val / 4) (lane.val % 4) ∈ s.fab.failed) :
        exec (.laneCodewordError lane again) s = .next s ∧ exec (.laneHandshakeTimeout lane again) s = .next s :=
      have keeps := congrArg Host.Outcome.next (s.laneFaulted_rests lane.val again h)
      ⟨keeps, keeps⟩
    refine ⟨(rests false (.inl rfl)).1, (rests false (.inl rfl)).2, fun failed => rests true (.inr failed), fun sound => ?_⟩
    refine ⟨s.laneFaulted lane.val true, rfl, rfl, ?_⟩
    rw [s.laneFaulted_fails lane.val sound, State.selfCause_frame]
    exact ⟨rfl, rfl, rfl, rfl⟩
  · rw [exec_refreshEmergency, State.arbEnter_busy _ _ _ rfl busy]
    exact ⟨_, refreshReq ch.val, rfl, by simp [Arbiter.enqueue], rfl, rfl, State.onArb_frame _ _ _⟩
  · rw [exec_refreshEmergency, State.arbEnter_granted _ _ _ free empty ⟨rfl, fun debug => Port.noConfusion debug⟩]
    obtain ⟨owed, done, frame⟩ := (s.onArb (.ddr ch.val) (·.enqueue (refreshReq ch.val))).grantEffect_refresh ch.val
    refine ⟨_, rfl, owed, done, ?_, ?_⟩
    · rw [State.arb_onArb_same, (Arbiter.take_queue_active _ _).2]
      rfl
    · rw [frame]
      rfl
  · exact congrArg Host.Outcome.next (by simp [State.releaseWrite, key, safe])
  · exact congrArg Host.Outcome.next (by simp [State.releaseWrite, key, away])
  · exact congrArg Host.Outcome.next (by simp [State.releaseWrite, key])
  · refine ⟨s.peakClrWrite cell.val, rfl, ?_, rfl⟩
    simp only [State.peakClrWrite, State.onFab_fab]
    split
    · assumption
    · simp

end Sys2Proof.Machine
end

section
/-! PROOFS. The debug block: the closed gate, DBG_SEL, and accesses of a window bank as requests of the debug port (R2, R85, R504; O24). -/

namespace Sys2Proof.Machine

/-! Bytes. -/

theorem leBytes_leNat (l : List Byte) : leBytes l.length (leNat l) = l := by
  induction l with
  | nil => rfl
  | cons b t ih =>
    have low : BitVec.ofNat 8 (b.toNat + 256 * leNat t) = b := by
      apply BitVec.eq_of_toNat_eq
      simpa [Nat.add_mul_mod_self_left] using b.isLt
    have high : (b.toNat + 256 * leNat t) / 256 = leNat t := by
      have := b.isLt
      omega
    rw [List.length_cons, leNat, leBytes, low, high, ih]

section
variable (s : State)

/-! One access of the debug block (R2, R504). -/

theorem exec_debugBlockAccess_read (addr : BitVec 25) (size : Nat) (v : BitVec 64) (one : size ≠ 8) :
    exec (.debugBlockAccess addr false size v []) s = .next (s.readBegin.dbgBlock addr.toNat false size (v.setWidth 32)) :=
  congrArg Host.Outcome.next (if_neg one)

theorem exec_debugBlockAccess_write (addr : BitVec 25) (size : Nat) (v : BitVec 64) (one : size ≠ 8) :
    exec (.debugBlockAccess addr true size v []) s = .next (s.dbgBlock addr.toNat true size (v.setWidth 32)) :=
  congrArg Host.Outcome.next (if_neg one)

theorem exec_debugBlockAccess_two (addr : BitVec 25) (write : Bool) (v : BitVec 64) :
    exec (.debugBlockAccess addr write 8 v []) s =
      .next (((if write then s else s.readBegin).dbgBlock addr.toNat write 4 (v.setWidth 32)).dbgBlock (addr.toNat + 4) write 4 ((v >>> 32).setWidth 32)) := rfl

@[simp] theorem State.flag_readBegin (f : Fld) (ix : List Nat) : s.readBegin.flag f ix = s.flag f ix := by rfl
@[simp] theorem State.flag_count (e n : Nat) (f : Fld) (ix : List Nat) : (s.count e n).flag f ix = s.flag f ix := by rfl
@[simp] theorem State.flag_returned (v n : Nat) (f : Fld) (ix : List Nat) : (s.returned v n).flag f ix = s.flag f ix := by rfl

/-- With the gate closed a read returns 0 and is counted (R504). -/
theorem State.dbgBlock_closed_read (addr size : Nat) (v : Word) (closed : s.flag Reg.SEC_DBG_OPEN = false) :
    s.dbgBlock addr false size v = (s.returned 0 size).count 0x1F6 := by
  simp [State.dbgBlock, closed]

/-- With the gate closed a write is counted, a narrow one under its own event too (R2, R504). -/
theorem State.dbgBlock_closed_write (addr size : Nat) (v : Word) (closed : s.flag Reg.SEC_DBG_OPEN = false) :
    s.dbgBlock addr true size v = (if size < 4 then s.count 0x201 else s).count 0x1F6 := by
  by_cases narrow : size < 4 <;> simp [State.dbgBlock, closed, narrow]

/-- With the gate open the first word of the block is DBG_SEL (R504, R506). -/
theorem State.dbgBlock_sel (addr : Nat) (write : Bool) (v : Word) (open_ : s.flag Reg.SEC_DBG_OPEN = true) (sel : addr % 0x100000 < 4) :
    s.dbgBlock addr write 4 v =
      if write then s.setReg Reg.DBG_SEL (v.toNat % 2048) else s.returnedAt (addr % 0x100000) 4 (s.reg Reg.DBG_SEL) := by
  simp [State.dbgBlock, open_, sel]

/-- The request of the debug port for an access of the aperture (R504). -/
def dbgReq (t : Target) (off k : Nat) (write : Bool) (v : Word) : ArbReq :=
  { port := .debug, owner := .debug, target := t, cls := .emergency, addr := off, write := write, word := (k, v, 4) }

/-- With the gate open and a window bank selected, a word of the aperture is a request of the debug port at the bank's arbiter (R504). -/
theorem State.dbgBlock_window (addr base b : Nat) (write : Bool) (v : Word) (open_ : s.flag Reg.SEC_DBG_OPEN = true)
    (target : s.dbgTarget = some (base, .window b)) (above : 0x80000 ≤ addr % 0x100000) :
    s.dbgBlock addr write 4 v =
      s.arbEnter (.window b) (dbgReq (.window b) (addr % 0x100000 - 0x80000) (base + (addr % 0x100000 - 0x80000) / 4) write v) := by
  have past : ¬ addr % 0x100000 < 4 := by omega
  simp [State.dbgBlock, open_, past, Nat.not_lt_of_le above, target, dbgReq, arbOf]

/-! Grants to the debug port at a window bank (R85, R435, R504). -/

@[simp] theorem State.winRead_count (e n off len : Nat) : (s.count e n).winRead off len = s.winRead off len := by rfl

/-- A granted read of a window word is counted and returns the word's bytes. -/
theorem State.grantEffect_window_read (b off k : Nat) (v : Word) (aligned : off % 4 = 0) :
    s.grantEffect (.window b) (dbgReq (.window b) off k false v) = (s.count 0x084).returned (leNat (s.winRead (k * 4) 4)) := by
  cases cl : (s.arb (.window b)).clause <;> simp [State.grantEffect, dbgReq, State.dbgAccess, State.returnedAt, aligned, cl]

/-- A granted write of a window word outside a clause is counted and writes the word. -/
theorem State.grantEffect_window_write (b off k : Nat) (v : Word) (outside : (s.arb (.window b)).clause = none) :
    s.grantEffect (.window b) (dbgReq (.window b) off k true v) = (s.count 0x084).winWrite (k * 4) (leBytes 4 v.toNat) := by
  simp [State.grantEffect, dbgReq, State.dbgAccess, outside]

/-- What a write makes of the window depends on the host interface alone, and nothing else changes (R435). -/
theorem State.winWrite_of_host (t : State) (off : Nat) (l : List Byte) (h : t.host = s.host) :
    t.winWrite off l = { t with host := { t.host with window := (s.winWrite off l).host.window } } := by
  simp only [State.winWrite, State.onHost, h]

/-- A read of a window word that reaches a free arbiter in time is granted: counted, it returns the word's bytes (R85, R504). -/
theorem State.enter_window_read (b off k : Nat) (v : Word) (aligned : off % 4 = 0) (free : (s.arb (.window b)).active = none)
    (empty : (s.arb (.window b)).queue = []) (now : 64 ≤ (s.arb (.window b)).sinceDebug) :
    let r := dbgReq (.window b) off k false v
    s.arbEnter (.window b) r =
      (((s.onArb (.window b) (·.enqueue r)).count 0x084).returned (leNat (s.winRead (k * 4) 4))).onArb (.window b) (·.take r) := by
  intro r
  rw [s.arbEnter_granted _ r free empty ⟨rfl, fun _ => now⟩, State.grantEffect_window_read _ _ _ _ _ aligned]
  rfl

/-- A write of a window word outside a clause that reaches a free arbiter in time is granted: counted, it writes the word (R85, R504). -/
theorem State.enter_window_write (b off k : Nat) (v : Word) (free : (s.arb (.window b)).active = none) (empty : (s.arb (.window b)).queue = [])
    (now : 64 ≤ (s.arb (.window b)).sinceDebug) (outside : (s.arb (.window b)).clause = none) :
    let r := dbgReq (.window b) off k true v
    let u := (s.onArb (.window b) (·.enqueue r)).count 0x084
    s.arbEnter (.window b) r =
      ({ u with host := { s.host with window := (s.winWrite (k * 4) (leBytes 4 v.toNat)).host.window } } : State).onArb (.window b) (·.take r) := by
  intro r u
  rw [s.arbEnter_granted _ r free empty ⟨rfl, fun _ => now⟩, State.grantEffect_window_write _ _ _ _ _ (by rwa [State.arb_onArb_same]), s.winWrite_of_host u _ _ rfl]
  rfl

/-- A read that returns a list of bytes returns it after what was returned before. -/
theorem State.returned_bytes (l : List Byte) : (s.returned (leNat l) l.length).host.readData = s.host.readData ++ l :=
  congrArg (s.host.readData ++ ·) (leBytes_leNat l)

/-- A grant to the debug port starts its 64 handshake periods anew (R85). -/
theorem Arbiter.take_debug (x : Arbiter) (t : Target) (off k : Nat) (write : Bool) (v : Word) : (x.take (dbgReq t off k write v)).sinceDebug = 0 := rfl

end

/-- The part of O24 about the debug port: a closed gate counts and returns 0; an open one gives DBG_SEL, and an access of a window bank is granted or waits. -/
theorem debugPortAccesses : Claims.DebugPortAccesses := by
  refine ⟨fun addr size v s closed => ⟨fun short => ?_, fun whole short => ?_, fun narrow => ?_, ?_, ?_⟩, fun v s open_ => ⟨?_, ?_⟩,
    fun addr v s b base open_ target above aligned free empty => ⟨fun now => ⟨?_, fun outside => ?_⟩, fun early => ?_⟩⟩
  · rw [exec_debugBlockAccess_read s addr size v (by omega), State.dbgBlock_closed_read s.readBegin _ _ _ closed]
  · rw [exec_debugBlockAccess_write s addr size v (by omega), State.dbgBlock_closed_write s _ _ _ closed, if_neg (by omega)]
  · rw [exec_debugBlockAccess_write s addr size v (by omega), State.dbgBlock_closed_write s _ _ _ closed, if_pos narrow]
  · rw [exec_debugBlockAccess_two, if_pos rfl, State.dbgBlock_closed_write s _ _ _ closed, State.dbgBlock_closed_write _ _ _ _ (by simpa using closed)]
    rfl
  · rw [exec_debugBlockAccess_two, if_neg Bool.false_ne_true, State.dbgBlock_closed_read s.readBegin _ _ _ closed,
      State.dbgBlock_closed_read _ _ _ _ (by simpa using closed)]
  · rw [exec_debugBlockAccess_write s _ _ _ (by decide), State.dbgBlock_sel s _ _ _ open_ (by decide), if_pos rfl]
    have word : (v.setWidth 32).toNat % 2048 = v.toNat % 2048 := by simp only [BitVec.toNat_setWidth]; omega
    rw [word]
  · rw [exec_debugBlockAccess_read s _ _ _ (by decide), State.dbgBlock_sel s.readBegin _ _ _ open_ (by decide), if_neg Bool.false_ne_true]
    simp [State.returnedAt, State.reg, State.readBegin]
  · rw [exec_debugBlockAccess_read s _ _ _ (by decide), State.dbgBlock_window s.readBegin _ _ _ _ _ open_ target above,
      State.enter_window_read s.readBegin b _ _ _ (by omega) free empty now]
    refine ⟨_, rfl, ?_, rfl, ?_, rfl⟩
    · exact (State.returned_bytes _ (s.winRead _ 4)).trans (by rw [Nat.mul_comm]; rfl)
    · rw [State.arb_onArb_same, Arbiter.take_debug]
  · rw [exec_debugBlockAccess_write s _ _ _ (by decide), State.dbgBlock_window s _ _ _ _ _ open_ target above,
      State.enter_window_write s b _ _ _ free empty now outside, BitVec.toNat_setWidth, Nat.mul_comm _ 4]
    exact ⟨_, rfl, rfl, rfl⟩
  · rw [exec_debugBlockAccess_write s _ _ _ (by decide), State.dbgBlock_window s _ _ _ _ _ open_ target above,
      State.arbEnter_early _ _ _ rfl empty (fun now => Nat.not_le_of_lt early (now.2 rfl))]
    exact ⟨_, _, rfl, by rw [State.arb_onArb_same, Arbiter.enqueue, empty, List.nil_append], rfl, rfl, State.onArb_frame _ _ _⟩

/-- Settles O24: one arbiter's grants and clauses, then the state's arbiters, the lanes and cells, and the debug port. What a row's traffic holds, the rotation and the ordinary refresh after every rank are the model's choice (log entry 10). -/
theorem lanesClausesAndDebugPortAct : Obligations.LanesClausesAndDebugPortAct :=
  ⟨arbitersGrantByRank, clausesLapseAndTear, lanesRefreshesAndCellControls, debugPortAccesses⟩

end Sys2Proof.Machine
end

section
/-! PROOFS. Clocks, the Tense tick and the slew of D (R90, R91, R94, R95, R96; O25, O26, O27), and what the Tense unit's operations leave. -/

namespace Sys2Proof.Machine

/-! A clock's advance (R90, R94). -/

section
variable (c : Clock) (incr : Nat)

theorem Clock.advance_frac : (c.advance incr).frac = (c.frac + incr) % 2 ^ 32 := by
  unfold Clock.advance
  extract_lets t ns
  split <;> simp only [t] <;> omega

/-- Where the sum stays below a second, SEC stays. -/
theorem Clock.advance_within (h : c.ns * 2 ^ 32 + c.frac + incr < 1000000000 * 2 ^ 32) :
    (c.advance incr).sec = c.sec ∧ (c.advance incr).ns = (c.ns * 2 ^ 32 + c.frac + incr) / 2 ^ 32 := by
  unfold Clock.advance
  extract_lets t ns
  rw [if_neg (by omega)]
  exact ⟨rfl, rfl⟩

/-- Where the sum reaches a second, it carries into SEC. -/
theorem Clock.advance_carry (h : 1000000000 * 2 ^ 32 ≤ c.ns * 2 ^ 32 + c.frac + incr) :
    (c.advance incr).sec = (c.sec + 1) % 2 ^ 48 ∧ (c.advance incr).ns = (c.ns * 2 ^ 32 + c.frac + incr) / 2 ^ 32 - 1000000000 := by
  unfold Clock.advance
  extract_lets t ns
  rw [if_pos (by omega)]
  exact ⟨rfl, rfl⟩

/-- A clock in range one tick later is in range, and has gained the increment modulo its 48-bit seconds. -/
theorem Clock.advance_exact (sec : c.sec < 2 ^ 48) (ns : c.ns < 1000000000) (frac : c.frac < 2 ^ 32) (lt : incr < 1000000000 * 2 ^ 32) :
    let t := c.advance incr
    t.ns < 1000000000 ∧ t.frac < 2 ^ 32 ∧ t.sec < 2 ^ 48 ∧ clockFix t = (clockFix c + incr) % (2 ^ 48 * 1000000000 * 2 ^ 32) := by
  have low := c.advance_frac incr
  simp only [clockFix, clockNs]
  rcases Nat.lt_or_ge (c.ns * 2 ^ 32 + c.frac + incr) (1000000000 * 2 ^ 32) with within | carry
  · obtain ⟨hsec, hns⟩ := c.advance_within incr within
    rw [hsec, hns, low]
    omega
  · obtain ⟨hsec, hns⟩ := c.advance_carry incr carry
    rw [hsec, hns, low]
    by_cases last : c.sec + 1 = 2 ^ 48
    · rw [last, Nat.mod_self]
      omega
    · rw [Nat.mod_eq_of_lt (by omega : c.sec + 1 < 2 ^ 48)]
      omega

end

/-- An increment that a commit admits lies between the two limits (R94). -/
theorem incrOk_iff (x : Nat) : incrOk x = true ↔ 0x1FF7CED92 ≤ x ∧ x ≤ 0x20083126E := by
  simp [incrOk]

/-- Settles O25: a carry into SEC is due exactly where the sum reaches a second. -/
theorem clockAdvanceKeepsNanosecondsInRange : Obligations.ClockAdvanceKeepsNanosecondsInRange := by
  refine ⟨fun c incr => c.advance_exact incr, fun x ok => ?_⟩
  have := (incrOk_iff x).mp ok
  omega

/-! Fields that share no bit, and device causes (R2, R3, R473). -/

/-- Two fields, each at an index of its register, share no bit: they lie at other addresses, or apart in one register. -/
def Fld.apart (f : Fld) (ix : List Nat) (g : Fld) (iy : List Nat) : Bool :=
  decide (regAddr g.reg iy ≠ regAddr f.reg ix) ||
    (decide (g.reg = f.reg ∧ iy = ix) && decide (f.hi < 32 ∧ f.lo ≤ f.hi + 1) && (decide (g.hi < f.lo) || decide (f.hi < g.lo)))

section
variable (s : State)

/-- A write of a field leaves a field that shares no bit with it. -/
theorem State.rd_wr_apart (f g : Fld) (v : Nat) (ix iy : List Nat) (h : f.apart ix g iy = true) : (s.wr f v ix).rd g iy = s.rd g iy := by
  simp only [Fld.apart, Bool.or_eq_true, Bool.and_eq_true, decide_eq_true_eq] at h
  rcases h with other | ⟨⟨⟨reg, rfl⟩, high, low⟩, apart⟩
  · exact s.rd_wr_ne f g v ix iy other
  · exact s.rd_wr_field f g v _ reg high low apart

theorem State.flag_wr_apart (f g : Fld) (v : Nat) (ix iy : List Nat) (h : f.apart ix g iy = true) : (s.wr f v ix).flag g iy = s.flag g iy := by
  rw [State.flag, State.rd_wr_apart s f g v ix iy h, State.flag]

/-- A one-bit field that is written shows what was written. -/
theorem State.flag_wrb_same (f : Fld) (b : Bool) (ix : List Nat) (h : f.hi < 32) (one : f.lo = f.hi) : (s.wrb f b ix).flag f ix = b := by
  rw [State.flag, State.wrb, State.rd_wr_same s f _ ix h (by omega), one, Nat.add_sub_cancel_left]
  cases b <;> rfl

/-- A cause writes RNG_DEV_CAUSE and the host interface's messages, so what neither changes stays. -/
theorem State.cause_keeps {α : Type} (g : State → α) (i : Nat) (shown : ∀ (t : State) (v : Nat), g (t.wr Reg.RNG_DEV_CAUSE_CAUSE v) = g t)
    (sent : ∀ (t : State) (h : HostIf), g { t with host := h } = g t) : g (s.cause i) = g s := by
  have msi (t : State) (v : Nat) : g (t.msi v) = g t := by
    unfold State.msi
    extract_lets h h'
    split
    · rfl
    · split <;> exact sent t _
  unfold State.cause
  extract_lets c u
  split
  · rfl
  · split
    · exact shown s _
    · exact (msi _ _).trans (shown s _)

/-- A write of a field that is a cause leaves what the write and the cause leave. -/
theorem State.wrCause_keeps {α : Type} (g : State → α) (f : Fld) (v i : Nat) (ix : List Nat) (wr : ∀ (t : State) (v : Nat), g (t.wr f v ix) = g t)
    (shown : ∀ (t : State) (v : Nat), g (t.wr Reg.RNG_DEV_CAUSE_CAUSE v) = g t) (sent : ∀ (t : State) (h : HostIf), g { t with host := h } = g t) :
    g (s.wrCause f v i ix) = g s := by
  unfold State.wrCause
  split
  · rfl
  · exact ((s.wr f v ix).cause_keeps g i shown sent).trans (wr s v)

/-- A field other than RNG_DEV_CAUSE and apart from the written one keeps its value. -/
theorem State.rd_wrCause_apart (f g : Fld) (v i : Nat) (ix iy : List Nat) (h : f.apart ix g iy = true) (c : Reg.RNG_DEV_CAUSE_CAUSE.apart [] g iy = true) :
    (s.wrCause f v i ix).rd g iy = s.rd g iy :=
  s.wrCause_keeps (·.rd g iy) f v i ix (fun t v => t.rd_wr_apart f g v ix iy h) (fun t v => t.rd_wr_apart _ g v [] iy c) (fun _ _ => rfl)

/-- A written field that is a cause shows a value that fits it. -/
theorem State.rd_wrCause_same (f : Fld) (v i : Nat) (ix : List Nat) (h : f.hi < 32) (l : f.lo ≤ f.hi + 1) (fits : v < 2 ^ (f.hi + 1 - f.lo))
    (c : Reg.RNG_DEV_CAUSE_CAUSE.apart [] f ix = true) : (s.wrCause f v i ix).rd f ix = v := by
  unfold State.wrCause
  split
  · assumption
  · rw [State.cause_keeps _ (·.rd f ix) i (fun t v => t.rd_wr_apart _ f v [] ix c) (fun _ _ => rfl), State.rd_wr_same s f v ix h l, Nat.mod_eq_of_lt fits]

/-! Sources shown, discipline, domains and pulses of a tick (R94, R95, R96, R107). -/

/-- The fields of TNS_STATUS that show the sources. -/
def sourceFlags : List Fld := [Reg.TNS_STATUS_A_OK, Reg.TNS_STATUS_B_OK, Reg.TNS_STATUS_LINK_OK, Reg.TNS_STATUS_HOLDOVER, Reg.TNS_STATUS_SYNC]

/-- The show of the sources leaves what its fields, RNG_DEV_CAUSE and messages are not. -/
theorem State.showSources_keeps {α : Type} (g : State → α) (flags : ∀ f ∈ sourceFlags, ∀ (t : State) (v : Nat), g (t.wr f v) = g t)
    (shown : ∀ (t : State) (v : Nat), g (t.wr Reg.RNG_DEV_CAUSE_CAUSE v) = g t) (sent : ∀ (t : State) (h : HostIf), g { t with host := h } = g t) :
    g s.showSources = g s := by
  have wrb (t : State) (f : Fld) (b : Bool) (h : f ∈ sourceFlags) : g (t.wrb f b) = g t := flags f h t _
  unfold State.showSources
  extract_lets oks held
  split
  · rfl
  · have ok : g oks = g s := (wrb _ _ _ (by decide)).trans ((wrb _ _ _ (by decide)).trans (wrb _ _ _ (by decide)))
    have hold : g held = g oks := by
      simp only [held]
      split
      · rfl
      · exact oks.wrCause_keeps g _ _ _ _ (flags _ (by decide)) shown sent
    exact (wrb _ _ _ (by decide)).trans (hold.trans ok)

@[simp] theorem State.showSources_time : s.showSources.time = s.time := s.showSources_keeps State.time (fun _ _ _ _ => rfl) (fun _ _ => rfl) (fun _ _ => rfl)

/-- A field apart from those that show the sources keeps its value. -/
theorem State.rd_showSources_apart (g : Fld) (iy : List Nat) (h : ∀ f ∈ sourceFlags, f.apart [] g iy = true) (c : Reg.RNG_DEV_CAUSE_CAUSE.apart [] g iy = true) :
    s.showSources.rd g iy = s.rd g iy :=
  s.showSources_keeps (·.rd g iy) (fun f hf t v => t.rd_wr_apart f g v [] iy (h f hf)) (fun t v => t.rd_wr_apart _ g v [] iy c) (fun _ _ => rfl)

/-- The discipline of D sets its next increment and nothing else of the Tense unit. -/
theorem State.discipline_time : s.discipline.time = { s.time with e := s.discipline.time.e } := rfl

/-- That increment is the source's own where nothing disciplines D, else it is corrected and held to its range. -/
theorem State.discipline_eq : ∃ e, s.discipline = (s.onTime (fun t => { t with e := e })).wrb Reg.TNS_STATUS_SLEWING (decide (s.slew ≠ 0)) ∧
    e = if s.slew = 0 ∧ (s.flag Reg.TNS_STATUS_HOLDOVER ∨ s.img.run.isNone) then s.srcIncr else clampIncr (((s.srcIncr : Int) + s.slew).toNat) :=
  ⟨_, rfl, rfl⟩

/-- A domain's tick leaves what neither REJ nor the domain is. -/
theorem State.domTick_keeps {α : Type} (g : State → α) (x : Nat) (rej : ∀ t : State, g (t.wr Reg.TNS_STATUS_REJ 1) = g t)
    (dom : ∀ (t : State) (f : Domain → Domain), g (t.onDom x f) = g t) : g (s.domTick x) = g s := by
  unfold State.domTick
  extract_lets d inc committed d1 d2 sec ns ok stepped d3
  have commit : g committed = g s := by
    simp only [committed]
    split
    · exact rej s
    · rfl
  have step : g stepped = g committed := by
    simp only [stepped]
    split
    · exact rej committed
    · rfl
  exact (dom stepped _).trans (step.trans commit)

/-- The end of the pulses leaves what neither time pins nor a mode is. -/
theorem State.endPulses_keeps {α : Type} (g : State → α)
    (pins : ∀ (t : State) (p : Tab Nat) (l : Tab Bool), g (t.onTime (fun u => { u with tioPulse := p, tioLevel := l })) = g t)
    (mode : ∀ (t : State) (n : Nat), g (t.wr Reg.TNS_TIO_CFG_MODE 0 [n]) = g t) : g s.endPulses = g s := by
  refine forL_keep (fun t : State => g t = g s) _ _ s rfl (fun e t _ ht => ?_)
  extract_lets u
  have low : g u = g t := pins t _ _
  split
  · exact (mode u e.1).trans (low.trans ht)
  · exact low.trans ht

/-- What the end of a tick leaves of the Tense unit: all but the next increment and the time pins' pulses. -/
def TimeState.tickEnd (t : TimeState) : TimeState := { t with e := 0, tioPulse := [], tioLevel := [] }

/-- Tense units that differ in what the end of a tick changes have the same clocks. -/
theorem TimeState.clocks_of_tickEnd {t u : TimeState} (h : t.tickEnd = u.tickEnd) : t.run = u.run ∧ t.runFrac = u.runFrac ∧ t.d = u.d ∧ t.a = u.a ∧ t.b = u.b :=
  ⟨congrArg (·.run) h, congrArg (·.runFrac) h, congrArg (·.d) h, congrArg (·.a) h, congrArg (·.b) h⟩

theorem State.tickEnd_time : s.showSources.discipline.endPulses.time.tickEnd = s.time.tickEnd := by
  rw [State.endPulses_keeps _ (fun t => t.time.tickEnd) (fun _ _ _ => rfl) (fun _ _ => rfl), State.discipline_time, State.showSources_time]
  rfl

/-- What a domain's tick leaves of the state: all but registers and the domains. -/
def State.domFrame (s : State) : State := { s with regs := [], time := { s.time with a := {}, b := {} } }

/-- States that differ in registers and the domains alone have the same image and the same run time, increment and D. -/
theorem State.clocks_of_domFrame {s t : State} (h : t.domFrame = s.domFrame) :
    t.time.run = s.time.run ∧ t.time.runFrac = s.time.runFrac ∧ t.time.e = s.time.e ∧ t.time.d = s.time.d ∧ t.img = s.img :=
  ⟨congrArg (·.time.run) h, congrArg (·.time.runFrac) h, congrArg (·.time.e) h, congrArg (·.time.d) h, congrArg (·.img) h⟩

theorem State.wr_domFrame (f : Fld) (v : Nat) (ix : List Nat) : (s.wr f v ix).domFrame = s.domFrame := by rfl

theorem State.domTick_domFrame (x : Nat) : (s.domTick x).domFrame = s.domFrame := by
  refine s.domTick_keeps State.domFrame x (fun t => t.wr_domFrame _ _ _) (fun t f => ?_)
  unfold State.onDom
  split <;> rfl

theorem State.rd_domTick_active (x : Nat) : (s.domTick x).rd Reg.TNS_STATUS_ACTIVE = s.rd Reg.TNS_STATUS_ACTIVE :=
  s.domTick_keeps (·.rd Reg.TNS_STATUS_ACTIVE) x (fun t => t.rd_wr_apart _ _ _ _ _ (by decide)) (fun _ _ => rfl)

/-- The state with the clocks of a tick advanced by their increments (R90, R91). -/
def State.advanced (s : State) : State :=
  s.onTime (fun t =>
    let r := t.runFrac + t.e
    { t with run := (t.run + r / 2 ^ 32) % 2 ^ 64, runFrac := r % 2 ^ 32, d := t.d.advance t.e
             link := t.link.map (fun c => c.advance t.linkIncr) })

theorem State.advanced_run : s.advanced.time.run = (s.time.run + (s.time.runFrac + s.time.e) / 2 ^ 32) % 2 ^ 64 := rfl
theorem State.advanced_runFrac : s.advanced.time.runFrac = (s.time.runFrac + s.time.e) % 2 ^ 32 := rfl
theorem State.advanced_img : s.advanced.img = s.img := s.onTime_img _
theorem State.rd_advanced (f : Fld) (ix : List Nat) : s.advanced.rd f ix = s.rd f ix := State.rd_congr f ix (s.onTime_regs _)
theorem State.advanced_d : s.advanced.time.d = s.time.d.advance s.time.e := rfl

/-- The state in which D takes the source's clock while no image is in effect (R95). -/
def State.followed (s : State) : State :=
  if s.img.run.isNone then (match s.sourceClk with | some c => s.onTime (fun t => { t with d := c }) | none => s) else s

/-- A tick: after the domains' ticks the clocks advance, D follows without an image, then the sources, the discipline and the pulses. -/
theorem State.tenseTick_eq : ∃ u : State, s.tenseTick = u.advanced.followed.showSources.discipline.endPulses ∧ u.domFrame = s.domFrame ∧
    u.rd Reg.TNS_STATUS_ACTIVE = s.rd Reg.TNS_STATUS_ACTIVE :=
  ⟨(s.domTick 0).domTick 1, rfl, (State.domTick_domFrame _ 1).trans (s.domTick_domFrame 0), (State.rd_domTick_active _ 1).trans (s.rd_domTick_active 0)⟩

/-- Taking the source's clock moves D alone. -/
theorem State.followed_time : s.followed.time = { s.time with d := s.followed.time.d } := by
  unfold State.followed
  split
  · split <;> rfl
  · rfl

theorem State.followed_of_image (image : s.img.run.isSome = true) : s.followed = s := by
  rw [State.followed, if_neg (by simp [Option.isNone_eq_false_iff.mpr image])]

/-- Without an image D takes the clock of a domain in effect. -/
theorem State.followed_of_none (noImage : s.img.run = none) (domain : s.rd Reg.TNS_STATUS_ACTIVE ≠ 2) :
    s.followed.time.d = if s.rd Reg.TNS_STATUS_ACTIVE = 1 then s.time.b.clk else s.time.a.clk := by
  have source : s.sourceClk = some (if s.rd Reg.TNS_STATUS_ACTIVE = 1 then s.time.b.clk else s.time.a.clk) := by
    unfold State.sourceClk
    split
    · rename_i one
      rw [if_pos one]
    · contradiction
    · rename_i one _
      rw [if_neg one]
  rw [State.followed, noImage, if_pos (by rfl), source]
  rfl

/-- The whole nanoseconds of a raised fraction carry into the count, modulo its 64 bits. -/
theorem carry_exact (n f e : Nat) : (n + (f + e) / 2 ^ 32) % 2 ^ 64 * 2 ^ 32 + (f + e) % 2 ^ 32 = (n * 2 ^ 32 + f + e) % 2 ^ 96 := by
  omega

/-- A tick's clocks: they advance after the domains' ticks, D then follows without an image, and nothing after moves them. -/
theorem State.tenseTick_clocks : ∃ u : State, u.domFrame = s.domFrame ∧ u.rd Reg.TNS_STATUS_ACTIVE = s.rd Reg.TNS_STATUS_ACTIVE ∧
    s.tenseTick.time.tickEnd = u.advanced.followed.time.tickEnd := by
  obtain ⟨u, tick, frame, active⟩ := s.tenseTick_eq
  refine ⟨u, frame, active, ?_⟩
  rw [tick]
  exact State.tickEnd_time _

/-- The run time with its fraction gains E (R91). -/
theorem State.tenseTick_run :
    s.tenseTick.time.run * 2 ^ 32 + s.tenseTick.time.runFrac = (s.time.run * 2 ^ 32 + s.time.runFrac + s.time.e) % 2 ^ 96 := by
  obtain ⟨u, frame, -, ends⟩ := s.tenseTick_clocks
  obtain ⟨run, frac, incr, -, -⟩ := State.clocks_of_domFrame frame
  obtain ⟨tRun, tFrac, -⟩ := TimeState.clocks_of_tickEnd ends
  rw [tRun, tFrac, State.followed_time, State.advanced_run, State.advanced_runFrac, run, frac, incr]
  exact carry_exact _ _ _

/-- While an image is in effect D gains E (R90). -/
theorem State.tenseTick_d_of_image (image : s.img.run.isSome = true) : s.tenseTick.time.d = s.time.d.advance s.time.e := by
  obtain ⟨u, frame, -, ends⟩ := s.tenseTick_clocks
  obtain ⟨-, -, incr, d, img⟩ := State.clocks_of_domFrame frame
  obtain ⟨-, -, tD, -⟩ := TimeState.clocks_of_tickEnd ends
  rw [tD, State.followed_of_image _ (by rw [State.advanced_img, img]; exact image), State.advanced_d, d, incr]

/-- While no image is in effect D is the clock of the source in effect (R95). -/
theorem State.tenseTick_d_of_none (noImage : s.img.run = none) (domain : s.rd Reg.TNS_STATUS_ACTIVE ≠ 2) :
    s.tenseTick.time.d = if s.rd Reg.TNS_STATUS_ACTIVE = 1 then s.tenseTick.time.b.clk else s.tenseTick.time.a.clk := by
  obtain ⟨u, frame, active, ends⟩ := s.tenseTick_clocks
  obtain ⟨-, -, -, -, img⟩ := State.clocks_of_domFrame frame
  obtain ⟨-, -, tD, tA, tB⟩ := TimeState.clocks_of_tickEnd ends
  have act : u.advanced.rd Reg.TNS_STATUS_ACTIVE = s.rd Reg.TNS_STATUS_ACTIVE := (u.rd_advanced _ _).trans active
  rw [tD, tA, tB, State.followed_of_none _ (by rw [State.advanced_img, img]; exact noImage) (by rw [act]; exact domain), act, u.advanced.followed_time]

end

/-- Settles O26: the domains' ticks leave run time, D and E, and what follows the advance leaves all clocks but D without an image. -/
theorem tickAdvancesRunTimeByE : Obligations.TickAdvancesRunTimeByE :=
  fun s _ => ⟨s.tenseTick_run, s.tenseTick_d_of_image, s.tenseTick_d_of_none⟩

/-! The slew (R95, R96). -/

section
variable (s : State)

/-- While an image is in effect and no HOLDOVER, the correction is the offset held to its bound. -/
theorem State.slew_of_image (image : s.img.run.isSome = true) (held : s.flag Reg.TNS_STATUS_HOLDOVER = false) :
    s.slew = if s.deltaFix.natAbs ≤ s.slewMax then s.deltaFix else if 0 ≤ s.deltaFix then (s.slewMax : Int) else -(s.slewMax : Int) :=
  if_neg (by simp [held, Option.isNone_eq_false_iff.mpr image])

theorem State.slew_of_holdover (held : s.flag Reg.TNS_STATUS_HOLDOVER = true) : s.slew = 0 := if_pos (.inl held)

theorem clampIncr_range (x : Nat) : 0x1FF7CED92 ≤ clampIncr x ∧ clampIncr x ≤ 0x20083126E := by
  unfold clampIncr
  omega

end

/-- Settles O27: the correction is the offset held to its bound, and an increment with a correction is held to its range. -/
theorem slewStaysWithinItsBound : Obligations.SlewStaysWithinItsBound := by
  intro s m
  have bound : m = (s.slewMax : Int) := rfl
  refine ⟨fun image held => ?_, s.slew_of_holdover, fun corrects => ?_, ?_⟩
  · rw [s.slew_of_image image held, bound]
    refine ⟨fun low high => if_pos (by omega), fun above => ?_, fun below => ?_, fun zero => ?_⟩
    · rw [if_neg (by omega), if_pos (by omega)]
    · rw [if_neg (by omega), if_neg (by omega)]
    · have none_ : s.slewMax = 0 := by simp [State.slewMax, zero]
      rw [none_]
      split
      · omega
      · simp
  · obtain ⟨e, next, value⟩ := s.discipline_eq
    have incr : s.discipline.time.e = e := by rw [next]; rfl
    rw [incr, value, if_neg (fun h => corrects h.1)]
    exact clampIncr_range _
  · obtain ⟨e, next, -⟩ := s.discipline_eq
    rw [next]
    exact State.flag_wrb_same _ _ _ _ (by decide) rfl

/-! What the Tense unit's operations leave: all but registers, the Tense unit and the host interface. -/

/-- The state without what the operations of the Tense unit may change. -/
def State.tenseFrame (s : State) : State := { s with regs := [], time := {}, host := {} }

section
variable {s t : State} (h : t.tenseFrame = s.tenseFrame)
include h

theorem State.eq_of_tenseFrame : t = { s with regs := t.regs, time := t.time, host := t.host } :=
  calc t = { t.tenseFrame with regs := t.regs, time := t.time, host := t.host } := rfl
    _ = { s.tenseFrame with regs := t.regs, time := t.time, host := t.host } := by rw [h]
    _ = { s with regs := t.regs, time := t.time, host := t.host } := rfl

theorem State.eq_of_tenseFrame_host (host : t.host = s.host) : t = { s with regs := t.regs, time := t.time } := by
  calc t = { s with regs := t.regs, time := t.time, host := t.host } := State.eq_of_tenseFrame h
    _ = { s with regs := t.regs, time := t.time } := by rw [host]

theorem State.eq_of_tenseFrame_time (time : t.time = s.time) : t = { s with regs := t.regs, host := t.host } := by
  calc t = { s with regs := t.regs, time := t.time, host := t.host } := State.eq_of_tenseFrame h
    _ = { s with regs := t.regs, host := t.host } := by rw [time]

theorem State.eq_of_tenseFrame_both (time : t.time = s.time) (host : t.host = s.host) : t = { s with regs := t.regs } := by
  calc t = { s with regs := t.regs, time := t.time, host := t.host } := State.eq_of_tenseFrame h
    _ = { s with regs := t.regs } := by rw [time, host]

end

section
variable (s : State)

@[simp] theorem State.setReg_tenseFrame (d : RegDesc) (v : Nat) (ix : List Nat) : (s.setReg d v ix).tenseFrame = s.tenseFrame := by rfl
@[simp] theorem State.wr_tenseFrame (f : Fld) (v : Nat) (ix : List Nat) : (s.wr f v ix).tenseFrame = s.tenseFrame := by rfl
@[simp] theorem State.onTime_tenseFrame (f : TimeState → TimeState) : (s.onTime f).tenseFrame = s.tenseFrame := by rfl
@[simp] theorem State.onDom_tenseFrame (x : Nat) (f : Domain → Domain) : (s.onDom x f).tenseFrame = s.tenseFrame := s.onTime_tenseFrame _
@[simp] theorem State.withHost_tenseFrame (x : HostIf) : ({ s with host := x } : State).tenseFrame = s.tenseFrame := by rfl

@[simp] theorem State.wrCause_tenseFrame (f : Fld) (v i : Nat) (ix : List Nat) : (s.wrCause f v i ix).tenseFrame = s.tenseFrame :=
  s.wrCause_keeps State.tenseFrame f v i ix (fun t _ => t.wr_tenseFrame _ _ _) (fun t _ => t.wr_tenseFrame _ _ _) State.withHost_tenseFrame

@[simp] theorem State.showSources_tenseFrame : s.showSources.tenseFrame = s.tenseFrame :=
  s.showSources_keeps State.tenseFrame (fun _ _ t _ => t.wr_tenseFrame _ _ _) (fun t _ => t.wr_tenseFrame _ _ _) State.withHost_tenseFrame

end

end Sys2Proof.Machine
end

section
/-! PROOFS. Reads of the time registers, the start of time and the reference (R92, R93, R107, R111; O28). -/

namespace Sys2Proof.Machine

open Sys2Proof.Claims

/-! Registers of one group, and 64-bit values (R2, R578). -/

/-- Registers of one index space at different bases lie at different addresses. -/
theorem Fld.apart_of_base {f g : Fld} (ix : List Nat) (dims : f.reg.dims = g.reg.dims) (base : f.reg.base ≠ g.reg.base) : f.apart ix g ix = true := by
  have other : regAddr g.reg ix ≠ regAddr f.reg ix := by
    simp only [regAddr, dims]
    omega
  simp [Fld.apart, other]

/-- Fields of one register that share no bit are apart at every index. -/
theorem Fld.apart_of_bits {f g : Fld} (ix : List Nat) (reg : g.reg = f.reg) (inside : f.hi < 32 ∧ f.lo ≤ f.hi + 1) (bits : g.hi < f.lo ∨ f.hi < g.lo) :
    f.apart ix g ix = true := by
  simp [Fld.apart, reg, inside, bits]

section
variable (s : State)

/-- A write changes the register file by what stands there alone. -/
theorem State.wr_regs_congr {s t : State} (f : Fld) (v : Nat) (ix : List Nat) (h : s.regs = t.regs) : (s.wr f v ix).regs = (t.wr f v ix).regs := by
  unfold State.wr State.setReg State.reg
  rw [h]

/-- A 64-bit value that is written shows its low word and what its high field holds. -/
theorem State.rd_wr64 (lo hi : Fld) (v : Nat) (ix : List Nat) (whole : lo.hi = 31 ∧ lo.lo = 0) (fits : hi.hi < 32 ∧ hi.lo ≤ hi.hi + 1) (h : hi.apart ix lo ix = true) :
    (s.wr64 lo hi v ix).rd lo ix = v % 2 ^ 32 ∧ (s.wr64 lo hi v ix).rd hi ix = v / 2 ^ 32 % 2 ^ (hi.hi + 1 - hi.lo) := by
  obtain ⟨hi31, lo0⟩ := whole
  refine ⟨?_, State.rd_wr_same _ _ _ _ fits.1 fits.2⟩
  rw [State.wr64, State.rd_wr_apart _ _ _ _ _ _ h, State.rd_wr_same _ _ _ _ (by omega) (by omega), hi31, lo0]
  omega

theorem State.rd64_wr64_same (lo hi : Fld) (v : Nat) (ix : List Nat) (whole : lo.hi = 31 ∧ lo.lo = 0) (fits : hi.hi < 32 ∧ hi.lo ≤ hi.hi + 1)
    (h : hi.apart ix lo ix = true) : (s.wr64 lo hi v ix).rd64 lo hi ix = v % 2 ^ 32 + 2 ^ 32 * (v / 2 ^ 32 % 2 ^ (hi.hi + 1 - hi.lo)) := by
  obtain ⟨low, high⟩ := s.rd_wr64 lo hi v ix whole fits h
  rw [State.rd64, low, high]

theorem State.rd_wr64_apart (lo hi g : Fld) (v : Nat) (ix iy : List Nat) (h : lo.apart ix g iy = true) (k : hi.apart ix g iy = true) :
    (s.wr64 lo hi v ix).rd g iy = s.rd g iy :=
  (State.rd_wr_apart _ hi g _ ix iy k).trans (s.rd_wr_apart lo g _ ix iy h)

theorem State.rd64_wr_apart (f lo hi : Fld) (v : Nat) (ix iy : List Nat) (h : f.apart ix lo iy = true) (k : f.apart ix hi iy = true) :
    (s.wr f v ix).rd64 lo hi iy = s.rd64 lo hi iy := by
  rw [State.rd64, s.rd_wr_apart f lo v ix iy h, s.rd_wr_apart f hi v ix iy k, State.rd64]

theorem State.rd64_wr64_apart (lo hi lo' hi' : Fld) (v : Nat) (ix iy : List Nat) (h : lo.apart ix lo' iy = true ∧ lo.apart ix hi' iy = true)
    (k : hi.apart ix lo' iy = true ∧ hi.apart ix hi' iy = true) : (s.wr64 lo hi v ix).rd64 lo' hi' iy = s.rd64 lo' hi' iy :=
  (State.rd64_wr_apart _ hi lo' hi' _ ix iy k.1 k.2).trans (s.rd64_wr_apart lo lo' hi' _ ix iy h.1 h.2)

/-! Reads with an effect (R2, R92, R107). -/

/-- A state in which the read of a word has returned the bytes that it addresses. -/
def State.wordRead (off : Fin 4) (len v : Nat) : State := s.readBegin.returnedAt off.val (min len (4 - off.val)) v

theorem State.wordRead_readData (off : Fin 4) (len v : Nat) : (s.wordRead off len v).host.readData = wordPart v off len := by
  show [] ++ leBytes _ (v / 2 ^ (8 * (off.val % 4))) = _
  rw [Nat.mod_eq_of_lt off.isLt]
  rfl

/-- A read with an effect is the read of its word, the effect, and the registers that follow. -/
theorem State.readAt_eq (addr : Nat) (off : Fin 4) (len v : Nat) (effect : State → State) :
    s.readAt addr off len v effect = readOn (effect (s.wordRead off len v)) addr off len := by
  have inside := off.isLt
  simp only [State.readAt, readOn]
  split
  · rename_i within
    rw [Nat.min_eq_left within, Nat.sub_self]
    simp [State.readBytes, State.wordRead, Nat.min_eq_left within]
  · rename_i beyond
    rw [Nat.min_eq_right (by omega)]
    simp [State.wordRead, Nat.min_eq_right (show 4 - off.val ≤ len by omega)]

/-- What no write of a field changes, a capture leaves. -/
theorem State.captureTense_keeps {α : Type} (g : State → α) (wr : ∀ (t : State) (f : Fld) (v : Nat) (ix : List Nat), g (t.wr f v ix) = g t) :
    g s.captureTense = g s := by
  simp only [State.captureTense, State.wr64, wr]

theorem State.captureTense_frame : s.captureTense = { s with regs := s.captureTense.regs } :=
  State.eq_of_tenseFrame_both (s.captureTense_keeps _ State.wr_tenseFrame) (s.captureTense_keeps _ State.wr_time) (s.captureTense_keeps _ State.wr_host)

theorem State.captureDomain_keeps {α : Type} (g : State → α) (x : Nat) (wr : ∀ (t : State) (f : Fld) (v : Nat) (ix : List Nat), g (t.wr f v ix) = g t) :
    g (s.captureDomain x) = g s := by
  simp only [State.captureDomain, State.wr64, wr]

theorem State.captureDomain_frame (x : Nat) : s.captureDomain x = { s with regs := (s.captureDomain x).regs } :=
  State.eq_of_tenseFrame_both (s.captureDomain_keeps _ x State.wr_tenseFrame) (s.captureDomain_keeps _ x State.wr_time) (s.captureDomain_keeps _ x State.wr_host)

/-- The snapshot shows SEC, the run time, the capture stamp and N of its tick (R92). -/
theorem State.captureTense_shows :
    s.captureTense.rd64 Reg.TNS_SEC_LO_SEC_LO Reg.TNS_SEC_HI_SEC_HI = s.time.d.sec % 2 ^ 32 + 2 ^ 32 * (s.time.d.sec / 2 ^ 32 % 2 ^ 16) ∧
    s.captureTense.rd64 Reg.TNS_RUN_LO_RUN_LO Reg.TNS_RUN_HI_RUN_HI = s.time.run % 2 ^ 64 ∧
    s.captureTense.rd Reg.TNS_STAMP32_STAMP = (s.time.d.sec * 1000000000 + s.time.d.ns) % 2 ^ 32 ∧
    s.captureTense.rd64 Reg.TNS_CYCLE_LO_N_LO Reg.TNS_CYCLE_HI_N_HI = s.time.n % 2 ^ 64 := by
  have whole (v : Nat) : v % 2 ^ 32 + 2 ^ 32 * (v / 2 ^ 32 % 2 ^ 32) = v % 2 ^ 64 := by omega
  unfold State.captureTense
  extract_lets t u v
  refine ⟨?_, ?_, ?_, ?_⟩
  · rw [State.rd64_wr64_apart _ _ _ _ _ _ _ _ (by decide) (by decide), State.rd64_wr_apart _ _ _ _ _ _ _ (by decide) (by decide),
      State.rd64_wr64_apart _ _ _ _ _ _ _ _ (by decide) (by decide)]
    exact State.rd64_wr64_same _ _ _ _ _ (by decide) (by decide) (by decide)
  · rw [State.rd64_wr64_apart _ _ _ _ _ _ _ _ (by decide) (by decide), State.rd64_wr_apart _ _ _ _ _ _ _ (by decide) (by decide)]
    exact (State.rd64_wr64_same _ _ _ _ _ (by decide) (by decide) (by decide)).trans (whole _)
  · rw [State.rd_wr64_apart _ _ _ _ _ _ _ (by decide) (by decide), State.rd_wr_same _ _ _ _ (by decide) (by decide)]
    exact Nat.mod_mod _ _
  · exact (State.rd64_wr64_same _ _ _ _ _ (by decide) (by decide) (by decide)).trans (whole _)

/-- The capture of a domain shows its SEC (R92). -/
theorem State.captureDomain_shows (x : Nat) :
    (s.captureDomain x).rd Reg.TNS_X_SEC_LO_SEC_LO [x] = (s.dom x).clk.sec % 2 ^ 32 ∧
    (s.captureDomain x).rd Reg.TNS_X_SEC_HI_SEC_HI [x] = (s.dom x).clk.sec / 2 ^ 32 % 2 ^ 16 :=
  State.rd_wr64 _ Reg.TNS_X_SEC_LO_SEC_LO Reg.TNS_X_SEC_HI_SEC_HI _ [x] (by decide) (by decide) (Fld.apart_of_base [x] (by decide) (by decide))

end

/-- The part of O28 about reads: each is its word's read, its capture, and the registers that follow. -/
theorem timeReadsCaptureOneTick : Claims.TimeReadsCaptureOneTick := by
  refine ⟨fun off len s => ?_, fun x off len s => ?_, fun pin off len s => ?_, fun ref args s adm room => ?_⟩
  · let u := s.wordRead off len s.time.d.ns
    obtain ⟨sec, run, stamp, n⟩ := u.captureTense_shows
    refine ⟨u.captureTense, congrArg Host.Outcome.next (s.readAt_eq _ off len _ _), ?_, sec, run, stamp, n, ?_⟩
    · rw [u.captureTense_frame]
      exact s.wordRead_readData off len _
    · rw [u.captureTense_frame]
      rfl
  · let u := s.wordRead off len (s.dom x.val).clk.ns
    obtain ⟨low, high⟩ := u.captureDomain_shows x.val
    refine ⟨u.captureDomain x.val, congrArg Host.Outcome.next (s.readAt_eq _ off len _ _), ?_, low, high, ?_⟩
    · rw [u.captureDomain_frame]
      exact s.wordRead_readData off len _
    · rw [u.captureDomain_frame]
      rfl
  · let u := s.wordRead off len (s.rd Reg.TNS_TIO_SEC_SEC [pin.val])
    refine ⟨u.wr Reg.TNS_TIO_CFG_VALID 0 [pin.val], congrArg Host.Outcome.next (s.readAt_eq _ off len _ _), ?_, State.wr_regs_congr _ _ _ rfl, ?_⟩
    · rw [State.wr_host]
      exact s.wordRead_readData off len _
    · rw [State.wr_frame u]
      rfl
  · refine congrArg Host.Outcome.next (s.command_ok _ _ _ _ _ adm ?_ rfl)
    simp only [judge, noRoom, Nat.not_lt.mpr room, decide_false]

/-! The start of time and the reference (R90, R93, R107). -/

section
variable (s : State)

theorem execPllLock_again (h : s.time.locked = true) : execPllLock s = .next s := if_pos h

/-- A whole second has 8,000 base cycles (R30). -/
theorem clockNs_cycles (x : Nat) : clockNs ⟨x, 0, 0⟩ / 125000 = 8000 * x := by
  simp only [clockNs]
  omega

/-- The Tense unit at the first tick: D and both domains at the retention seconds, E nominal, the run time at 0 (R93). -/
def TimeState.started (t : TimeState) : TimeState :=
  let c : Clock := ⟨t.retentionSec % 2 ^ 48, 0, 0⟩
  { t with locked := true, d := c, a := { t.a with clk := c }, b := { t.b with clk := c }, run := 0, runFrac := 0, e := 0x200000000
           n := clockNs c / 125000, cycles := 0, sub := 0, lockMark := true }

/-- The registers of the first tick: the seconds of D and of the domains, and SYNC 0. -/
def State.showStart (s : State) (sec : Nat) : State :=
  (forN 2 (fun x (s : State) => s.wr64 Reg.TNS_X_SEC_LO_SEC_LO Reg.TNS_X_SEC_HI_SEC_HI sec [x])
    (s.wr64 Reg.TNS_SEC_LO_SEC_LO Reg.TNS_SEC_HI_SEC_HI sec)).wr Reg.TNS_STATUS_SYNC 0

theorem State.showStart_keeps {α : Type} (g : State → α) (sec : Nat) (wr : ∀ (t : State) (f : Fld) (v : Nat) (ix : List Nat), g (t.wr f v ix) = g t) :
    g (s.showStart sec) = g s := by
  simp only [State.showStart, forN, State.wr64, wr]

theorem execPllLock_starts (h : s.time.locked = false) :
    execPllLock s = .next ((s.onTime TimeState.started).showStart (s.time.retentionSec % 2 ^ 48)) := by
  unfold execPllLock
  rw [if_neg (by simp [h])]
  rfl

/-- The reference's loss or return is kept, and REF_LOST shows it. -/
theorem State.setRef_shows (ok : Bool) (v : Nat) (fits : v < 2) :
    let t := (s.onTime (fun u => { u with refOk := ok })).wrCause Reg.TNS_STATUS_REF_LOST v 8
    t.time = { s.time with refOk := ok } ∧ t.rd Reg.TNS_STATUS_REF_LOST = v ∧ t = { s with regs := t.regs, time := t.time, host := t.host } := by
  exact ⟨State.wrCause_time _ _ _ _ _, State.rd_wrCause_same _ _ _ _ _ (by decide) (by decide) fits (by decide), State.eq_of_tenseFrame (by simp)⟩

/-- The start of the second's pulse of a PPS output (R107). -/
def State.ppsEdge (n : Nat) : State :=
  s.onTime (fun t => { t with
    tioLevel := t.tioLevel.put n true, tioOut := t.tioOut.put n (4000000000 * t.d.sec)
    tioPulse := t.tioPulse.put n (s.runNs + max 1 (s.rd Reg.TNS_TIO_CFG_WIDTH [n]) * 1000) })

/-- At a carry the retention seconds take SEC, the PPS outputs rise, and the blocks of the second follow, which leave the Tense unit. -/
theorem execSecCarry_eq : execSecCarry s = .next (State.fieldSecond (forL ((List.range 8).filter (fun n => decide (s.rd Reg.TNS_TIO_CFG_MODE [n] = 5)))
    (fun n (t : State) => t.ppsEdge n) (s.onTime (fun t => { t with retentionSec := t.d.sec })))).histSecond := rfl

theorem State.second_time : s.fieldSecond.histSecond.time = s.time := by
  simp only [State.histSecond, State.fieldSecond, State.onHist_time, State.wr_time, State.onField_time]

/-- The PPS outputs leave D, N and the retention seconds. -/
theorem State.ppsEdges_clocks (l : List Nat) :
    let t := forL l (fun n (t : State) => t.ppsEdge n) s
    t.time.retentionSec = s.time.retentionSec ∧ t.time.d = s.time.d ∧ t.time.n = s.time.n :=
  forL_keep (fun t : State => t.time.retentionSec = s.time.retentionSec ∧ t.time.d = s.time.d ∧ t.time.n = s.time.n) l _ s ⟨rfl, rfl, rfl⟩ (fun _ _ _ h => h)

/-- Every PPS output has risen. -/
theorem State.ppsEdges_rise (l : List Nat) : ∀ n ∈ l, (forL l (fun n (t : State) => t.ppsEdge n) s).time.tioLevel.look n = some true := by
  refine forL_settles (fun n (t : State) => t.time.tioLevel.look n = some true) l _ s (fun n t => Tab.look_put_same _ _ _) (fun n k t risen => ?_)
  by_cases own : k = n
  · rw [own]
    exact Tab.look_put_same _ _ _
  · exact (Tab.look_put_ne _ _ _ _ own).trans risen

end

/-- The part of O28 about the start of time, its reference and the carry into SEC. -/
theorem timeStartsAtPllLock : Claims.TimeStartsAtPllLock := by
  refine ⟨execPllLock_again, fun s unlocked fits => ?_, fun s => ?_, fun s => ?_, fun s => ?_⟩
  · let u := s.onTime TimeState.started
    have seconds : s.time.retentionSec % 2 ^ 48 = s.time.retentionSec := Nat.mod_eq_of_lt fits
    have time : (u.showStart (s.time.retentionSec % 2 ^ 48)).time = s.time.started := u.showStart_keeps _ _ State.wr_time
    refine ⟨_, execPllLock_starts s unlocked, ?_, ?_, ?_, ?_, ?_, ?_, ?_, State.rd_wr_same _ _ _ _ (by decide) (by decide), State.eq_of_tenseFrame_host ?_ ?_⟩
    · rw [time]; rfl
    · rw [time]; simp only [TimeState.started, seconds]
    · rw [time]; rfl
    · rw [time]; rfl
    · rw [time]; rfl
    · rw [time]; rfl
    · rw [time]; simp only [TimeState.started, seconds]
      exact clockNs_cycles _
    · exact (u.showStart_keeps _ _ State.wr_tenseFrame).trans (s.onTime_tenseFrame _)
    · exact u.showStart_keeps _ _ State.wr_host
  · exact ⟨_, rfl, s.setRef_shows false 1 (by decide)⟩
  · exact ⟨_, rfl, s.setRef_shows true 0 (by decide)⟩
  · let u := s.onTime (fun t => { t with retentionSec := t.d.sec })
    let l := (List.range 8).filter (fun n => decide (s.rd Reg.TNS_TIO_CFG_MODE [n] = 5))
    obtain ⟨seconds, d, n⟩ := u.ppsEdges_clocks l
    refine ⟨_, execSecCarry_eq s, ?_, ?_, ?_, fun k below mode => ?_⟩
    all_goals rw [State.second_time]
    · exact seconds
    · exact d
    · exact n
    · exact u.ppsEdges_rise l k (List.mem_filter.mpr ⟨List.mem_range.mpr below, decide_eq_true mode⟩)

/-- Settles O28: the reads of one tick, and the start of time. The bytes of TIME_READ's clocks are the model's layout (log entry 2). -/
theorem timeStartsAndItsReadsCaptureOneTick : Obligations.TimeStartsAndItsReadsCaptureOneTick := ⟨timeReadsCaptureOneTick, timeStartsAtPllLock⟩

end Sys2Proof.Machine
end

section
/-! PROOFS. Writes of the domains and of DSEL, and PTP event messages (R94, R95, R96, R103, R112; O29). -/

namespace Sys2Proof.Machine

open Sys2Proof.Claims

section
variable (s : State)

/-! Domains (R94). -/

@[simp] theorem State.dom_onDom_same (x : Nat) (f : Domain → Domain) : (s.onDom x f).dom x = f (s.dom x) := by
  by_cases a : x = 0 <;> simp [State.onDom, State.dom, a]

theorem State.onDom_time_d (x : Nat) (f : Domain → Domain) : (s.onDom x f).time.d = s.time.d := by
  unfold State.onDom
  split <;> rfl

theorem State.onDom_ptpStamp (x : Nat) (f : Domain → Domain) : (s.onDom x f).time.ptpStamp = s.time.ptpStamp := by
  unfold State.onDom
  split <;> rfl

/-- The domains depend on the Tense unit alone. -/
theorem State.dom_congr {s t : State} (x : Nat) (h : t.time = s.time) : t.dom x = s.dom x := by
  rw [State.dom, State.dom, h]

/-! Host writes of a register by its access codes (R5). -/

/-- After a host write every field of its register holds what its access code makes of it. -/
theorem State.bits_setReg_wordWrite (d : RegDesc) (ix : List Nat) (v hw : Nat) (key : Bool) (laid : d.laidOut) (f : FieldDesc) (mem : f ∈ d.fields) :
    bitsOf ((s.setReg d (wordWrite d (s.reg d ix) v hw key) ix).reg d ix) f.hi f.lo =
      fieldWrite f.acc (bitsOf (s.reg d ix) f.hi f.lo) (bitsOf v f.hi f.lo) (bitsOf hw f.hi f.lo) key := by
  rw [State.reg_setReg_same, Nat.mod_eq_of_lt (wordWrite_lt _ _ _ _ _ laid (s.reg_lt d ix)), bitsOf_wordWrite _ _ _ _ _ laid f mem]

/-- A field of access RW reads as the write's bits. -/
theorem State.rd_writePlain (d : RegDesc) (ix : List Nat) (v : Nat) (laid : d.laidOut) (f : FieldDesc) (mem : f ∈ d.fields) (rw_ : f.acc = .rw) :
    (s.writePlain d v ix).rd ⟨d, f.hi, f.lo⟩ ix = bitsOf v f.hi f.lo := by
  show bitsOf ((s.setReg d (wordWrite d (s.reg d ix) v 0 false) ix).reg d ix) f.hi f.lo = _
  rw [s.bits_setReg_wordWrite d ix v 0 false laid f mem, rw_]
  rfl

theorem State.writePlain_time (d : RegDesc) (ix : List Nat) (v : Nat) : (s.writePlain d v ix).time = s.time := s.setReg_time _ _ _
theorem State.writePlain_host (d : RegDesc) (ix : List Nat) (v : Nat) : (s.writePlain d v ix).host = s.host := s.setReg_host _ _ _
theorem State.writePlain_tenseFrame (d : RegDesc) (ix : List Nat) (v : Nat) : (s.writePlain d v ix).tenseFrame = s.tenseFrame := s.setReg_tenseFrame _ _ _

theorem TNS_X_INCR_HI_laidOut : Reg.TNS_X_INCR_HI.laidOut := by
  unfold RegDesc.laidOut FieldDesc.apart
  decide

theorem TNS_X_CTL_laidOut : Reg.TNS_X_CTL.laidOut := by
  unfold RegDesc.laidOut FieldDesc.apart
  decide

/-- A write of INCR_HI stores it and asks for the commit (R94). -/
theorem execIncrCommitWrite_asks (x : Fin 2) (v : Word) : ∃ t, execIncrCommitWrite x v s = .next t ∧ t.dom x.val = { s.dom x.val with commit := true } ∧
    t.rd Reg.TNS_X_INCR_HI_INT [x.val] = bitsOf v.toNat Reg.TNS_X_INCR_HI_INT.hi Reg.TNS_X_INCR_HI_INT.lo ∧ t.time.d = s.time.d ∧
    t = { s with regs := t.regs, time := t.time } := by
  let u := s.writePlain Reg.TNS_X_INCR_HI v.toNat [x.val]
  have time : u.time = s.time := s.writePlain_time _ _ _
  refine ⟨u.onDom x.val (fun d => { d with commit := true }), rfl, ?_, ?_, ?_, State.eq_of_tenseFrame_host ?_ ?_⟩
  · rw [State.dom_onDom_same, State.dom_congr _ time]
  · exact (State.rd_congr _ _ (u.onTime_regs _)).trans (s.rd_writePlain _ _ _ TNS_X_INCR_HI_laidOut ⟨1, 0, .rw, 2⟩ (by decide) rfl)
  · rw [State.onDom_time_d, time]
  · exact (u.onDom_tenseFrame _ _).trans (s.writePlain_tenseFrame _ _ _)
  · exact (u.onTime_host _).trans (s.writePlain_host _ _ _)

/-- The phase step asked for where a write carries STEP (R94). -/
def State.askStep (x : Nat) (step : Bool) : State := if step then s.onDom x (fun d => { d with step := true }) else s

theorem State.askStep_dom (x : Nat) (step : Bool) : (s.askStep x step).dom x = { s.dom x with step := step || (s.dom x).step } := by
  cases step
  · simp [State.askStep]
  · simp [State.askStep]

theorem State.askStep_d (x : Nat) (step : Bool) : (s.askStep x step).time.d = s.time.d := by
  unfold State.askStep
  split
  · exact s.onDom_time_d _ _
  · rfl

theorem State.askStep_regs (x : Nat) (step : Bool) : (s.askStep x step).regs = s.regs := by
  unfold State.askStep
  split
  · exact s.onTime_regs _
  · rfl

theorem State.askStep_tenseFrame (x : Nat) (step : Bool) : (s.askStep x step).tenseFrame = s.tenseFrame := by
  unfold State.askStep
  split
  · exact s.onDom_tenseFrame _ _
  · rfl

/-- A domain's number and timeout are apart from what shows the sources. -/
theorem domainControl_apart (x : Fin 2) : ∀ g ∈ [Reg.TNS_X_CTL_PTP_DOMAIN, Reg.TNS_X_CTL_TMO],
    (∀ f ∈ sourceFlags, f.apart [] g [x.val] = true) ∧ Reg.RNG_DEV_CAUSE_CAUSE.apart [] g [x.val] = true := by
  revert x
  decide

/-- A write of a domain's control stores its fields and with STEP asks for the phase step (R94, R96). -/
theorem execDomainStepWrite_asks (x : Fin 2) (v : Word) : ∃ t, execDomainStepWrite x v s = .next t ∧
    t.dom x.val = { s.dom x.val with step := bitOf v.toNat 0 || (s.dom x.val).step } ∧ t.time.d = s.time.d ∧
    t.rd Reg.TNS_X_CTL_PTP_DOMAIN [x.val] = bitsOf v.toNat Reg.TNS_X_CTL_PTP_DOMAIN.hi Reg.TNS_X_CTL_PTP_DOMAIN.lo ∧
    t.rd Reg.TNS_X_CTL_TMO [x.val] = bitsOf v.toNat Reg.TNS_X_CTL_TMO.hi Reg.TNS_X_CTL_TMO.lo ∧ t = { s with regs := t.regs, time := t.time, host := t.host } := by
  let u := s.writePlain Reg.TNS_X_CTL v.toNat [x.val]
  let w := u.askStep x.val (bitOf v.toNat 0)
  have time : u.time = s.time := s.writePlain_time _ _ _
  have shows (g : Fld) (mem : g ∈ [Reg.TNS_X_CTL_PTP_DOMAIN, Reg.TNS_X_CTL_TMO]) : w.showSources.rd g [x.val] = u.rd g [x.val] := by
    obtain ⟨flags, cause⟩ := domainControl_apart x g mem
    exact (w.rd_showSources_apart g [x.val] flags cause).trans (State.rd_congr _ _ (u.askStep_regs _ _))
  refine ⟨w.showSources, rfl, ?_, ?_, ?_, ?_, State.eq_of_tenseFrame ?_⟩
  · rw [State.dom_congr _ w.showSources_time, u.askStep_dom, State.dom_congr _ time]
  · rw [State.showSources_time, u.askStep_d, time]
  · exact (shows _ (by decide)).trans (s.rd_writePlain _ _ _ TNS_X_CTL_laidOut ⟨23, 16, .rw, 0⟩ (by decide) rfl)
  · exact (shows _ (by decide)).trans (s.rd_writePlain _ _ _ TNS_X_CTL_laidOut ⟨15, 8, .rw, 0x1e⟩ (by decide) rfl)
  · exact w.showSources_tenseFrame.trans ((u.askStep_tenseFrame _ _).trans (s.writePlain_tenseFrame _ _ _))

/-! The choice of DSEL (R95, R96, R112, R346, R397). -/

/-- The fields that force DSEL to LINK. -/
def forcingFields : List Fld := [Reg.LNK_STATE_STATE, Reg.GLB_PAIR_STRAP, Reg.GLB_PAIR_STRAP_ERR, Reg.GLB_PAIR_LEASE]

/-- What forces DSEL depends on those fields alone. -/
theorem State.forcedLink_of_rd {s t : State} (h : ∀ g ∈ forcingFields, t.rd g = s.rd g) : t.forcedLink = s.forcedLink := by
  simp only [forcingFields, List.forall_mem_cons] at h
  obtain ⟨state, strap, err, lease, -⟩ := h
  simp only [State.forcedLink, State.isJoined, State.isManager, State.follows, State.paired, State.flag, state, strap, err, lease]

theorem State.forcedLink_wr (f : Fld) (v : Nat) (h : ∀ g ∈ forcingFields, f.apart [] g [] = true) : (s.wr f v).forcedLink = s.forcedLink :=
  State.forcedLink_of_rd (fun g hg => s.rd_wr_apart f g v [] [] (h g hg))

theorem State.hostDsel_taken (x : Nat) (free : s.forcedLink = false) (code : x ≠ 3) :
    s.hostDsel x = (s.wr Reg.TNS_CTL_DSEL x).onTime (fun t => { t with dselPending := some x }) := by
  rw [State.hostDsel, if_neg (by simp [free, code])]

theorem State.hostDsel_refused (x : Nat) (h : s.forcedLink = true ∨ x = 3) : s.hostDsel x = s.wr Reg.TNS_STATUS_REJ 1 := by
  rw [State.hostDsel, if_pos h.symm]

/-- SLEW_PPM and AUTO stored by a write of TNS_CTL (R112). -/
def State.storeCtl (v : Nat) : State := (s.wr Reg.TNS_CTL_SLEW_PPM (bitsOf v 24 16)).wr Reg.TNS_CTL_AUTO (bitsOf v 4 4)

theorem execDselWrite_eq (v : Word) : execDselWrite v s = .next ((s.storeCtl v.toNat).hostDsel (bitsOf v.toNat 1 0)) := rfl

theorem State.storeCtl_forcedLink (v : Nat) : (s.storeCtl v).forcedLink = s.forcedLink :=
  (State.forcedLink_wr _ _ _ (by decide)).trans (s.forcedLink_wr _ _ (by decide))

theorem State.rd_storeCtl (v : Nat) : (s.storeCtl v).rd Reg.TNS_CTL_SLEW_PPM = bitsOf v 24 16 ∧ (s.storeCtl v).rd Reg.TNS_CTL_AUTO = bitsOf v 4 4 := by
  constructor
  · rw [State.storeCtl, State.rd_wr_apart _ _ _ _ _ _ (by decide), State.rd_wr_same _ _ _ _ (by decide) (by decide)]
    exact Nat.mod_eq_of_lt (bitsOf_lt _ _ _)
  · rw [State.storeCtl, State.rd_wr_same _ _ _ _ (by decide) (by decide)]
    exact Nat.mod_eq_of_lt (bitsOf_lt _ _ _)

theorem State.rd_storeCtl_dsel (v : Nat) : (s.storeCtl v).rd Reg.TNS_CTL_DSEL = s.rd Reg.TNS_CTL_DSEL :=
  (State.rd_wr_apart _ _ _ _ _ _ (by decide)).trans (s.rd_wr_apart _ _ _ _ _ (by decide))

theorem State.storeCtl_keeps {α : Type} (g : State → α) (v : Nat) (wr : ∀ (t : State) (f : Fld) (v : Nat) (ix : List Nat), g (t.wr f v ix) = g t) :
    g (s.storeCtl v) = g s := by
  simp only [State.storeCtl, wr]

/-- What the stored fields of TNS_CTL leave after a choice of DSEL. -/
theorem State.dselWrite_stored (v : Nat) (t : State) (slew : t.rd Reg.TNS_CTL_SLEW_PPM = (s.storeCtl v).rd Reg.TNS_CTL_SLEW_PPM)
    (auto : t.rd Reg.TNS_CTL_AUTO = (s.storeCtl v).rd Reg.TNS_CTL_AUTO) (frame : t.tenseFrame = (s.storeCtl v).tenseFrame) (host : t.host = (s.storeCtl v).host) :
    t.rd Reg.TNS_CTL_SLEW_PPM = bitsOf v 24 16 ∧ t.rd Reg.TNS_CTL_AUTO = bitsOf v 4 4 ∧ t = { s with regs := t.regs, time := t.time } := by
  obtain ⟨storedSlew, storedAuto⟩ := s.rd_storeCtl v
  exact ⟨slew.trans storedSlew, auto.trans storedAuto,
    State.eq_of_tenseFrame_host (frame.trans (s.storeCtl_keeps _ v State.wr_tenseFrame)) (host.trans (s.storeCtl_keeps _ v State.wr_host))⟩

/-- A DSEL write of a unit that may choose keeps the choice for the next base mark (R96). -/
theorem State.dselWrite_takes (v : Nat) (free : s.forcedLink = false) (code : bitsOf v 1 0 ≠ 3) :
    let t := (s.storeCtl v).hostDsel (bitsOf v 1 0)
    (t.rd Reg.TNS_CTL_SLEW_PPM = bitsOf v 24 16 ∧ t.rd Reg.TNS_CTL_AUTO = bitsOf v 4 4 ∧ t = { s with regs := t.regs, time := t.time }) ∧
    t.time = { s.time with dselPending := some (bitsOf v 1 0) } ∧ t.rd Reg.TNS_CTL_DSEL = bitsOf v 1 0 := by
  rw [State.hostDsel_taken _ _ ((s.storeCtl_forcedLink v).trans free) code]
  let u := (s.storeCtl v).wr Reg.TNS_CTL_DSEL (bitsOf v 1 0)
  have shows (f : Fld) : (u.onTime (fun t => { t with dselPending := some (bitsOf v 1 0) })).rd f = u.rd f := State.rd_congr _ _ (u.onTime_regs _)
  refine ⟨s.dselWrite_stored v _ ?_ ?_ ?_ ?_, ?_, ?_⟩
  · exact (shows _).trans (State.rd_wr_apart _ _ _ _ _ _ (by decide))
  · exact (shows _).trans (State.rd_wr_apart _ _ _ _ _ _ (by decide))
  · exact (u.onTime_tenseFrame _).trans (State.wr_tenseFrame _ _ _ _)
  · exact (u.onTime_host _).trans (State.wr_host _ _ _ _)
  · rw [State.onTime_time, State.wr_time, s.storeCtl_keeps State.time _ State.wr_time]
  · refine (shows _).trans ((State.rd_wr_same _ _ _ _ (by decide) (by decide)).trans ?_)
    exact Nat.mod_eq_of_lt (bitsOf_lt _ _ _)

/-- A DSEL write of a forced unit, or of code 3, keeps DSEL and sets REJ (R96). -/
theorem State.dselWrite_refuses (v : Nat) (refused : s.forcedLink = true ∨ bitsOf v 1 0 = 3) :
    let t := (s.storeCtl v).hostDsel (bitsOf v 1 0)
    (t.rd Reg.TNS_CTL_SLEW_PPM = bitsOf v 24 16 ∧ t.rd Reg.TNS_CTL_AUTO = bitsOf v 4 4 ∧ t = { s with regs := t.regs, time := t.time }) ∧
    t.time = s.time ∧ t.rd Reg.TNS_CTL_DSEL = s.rd Reg.TNS_CTL_DSEL ∧ t.flag Reg.TNS_STATUS_REJ = true := by
  rw [State.hostDsel_refused _ _ (refused.imp_left (s.storeCtl_forcedLink v).trans)]
  refine ⟨s.dselWrite_stored v _ ?_ ?_ ?_ ?_, ?_, ?_, ?_⟩
  · exact State.rd_wr_apart _ _ _ _ _ _ (by decide)
  · exact State.rd_wr_apart _ _ _ _ _ _ (by decide)
  · exact State.wr_tenseFrame _ _ _ _
  · exact State.wr_host _ _ _ _
  · rw [State.wr_time, s.storeCtl_keeps State.time _ State.wr_time]
  · exact (State.rd_wr_apart _ _ _ _ _ _ (by decide)).trans (s.rd_storeCtl_dsel _)
  · exact State.flag_wrb_same _ Reg.TNS_STATUS_REJ true [] (by decide) rfl

/-! PTP event messages (R96, R103). -/

/-- A message of the port's domain is stamped in it. -/
theorem State.ptpClock_of_domain (p n : Nat) (port : s.rd Reg.ETH_PORT_CFG_PTP_DOM [p] = 1 ∨ s.rd Reg.ETH_PORT_CFG_PTP_DOM [p] = 2)
    (number : s.rd Reg.TNS_X_CTL_PTP_DOMAIN [s.rd Reg.ETH_PORT_CFG_PTP_DOM [p] - 1] = n) :
    s.ptpClock p n = (s.rd Reg.ETH_PORT_CFG_PTP_DOM [p], (s.dom (s.rd Reg.ETH_PORT_CFG_PTP_DOM [p] - 1)).clk) := by
  unfold State.ptpClock
  rw [if_pos ⟨port, number⟩]
  rcases port with h | h <;> rw [h] <;> rfl

/-- Any other message is stamped in D. -/
theorem State.ptpClock_of_other (p n : Nat) (h : ¬((s.rd Reg.ETH_PORT_CFG_PTP_DOM [p] = 1 ∨ s.rd Reg.ETH_PORT_CFG_PTP_DOM [p] = 2) ∧
    s.rd Reg.TNS_X_CTL_PTP_DOMAIN [s.rd Reg.ETH_PORT_CFG_PTP_DOM [p] - 1] = n)) : s.ptpClock p n = (0, s.time.d) := by
  unfold State.ptpClock
  rw [if_neg h]

/-- The state in which the last event message of a port is stamped in a clock, less the receive latency. -/
def State.ptpStamped (p : Nat) (k : Nat × Clock) : State :=
  s.onTime (fun t => { t with ptpStamp := t.ptpStamp.put p (k.1, stamp64 (k.2.move (-(s.rd Reg.ETH_LAT_RX_NS [p] : Int)))) })

theorem State.ptpStamped_look (p : Nat) (k : Nat × Clock) :
    (s.ptpStamped p k).time.ptpStamp.look p = some (k.1, stamp64 (k.2.move (-(s.rd Reg.ETH_LAT_RX_NS [p] : Int)))) ∧
    ∀ q, q ≠ p → (s.ptpStamped p k).time.ptpStamp.look q = s.time.ptpStamp.look q :=
  ⟨Tab.look_put_same _ _ _, fun _ other => Tab.look_put_ne _ _ _ _ other⟩

theorem State.ptpStamped_dom (p : Nat) (k : Nat × Clock) (x : Nat) : (s.ptpStamped p k).dom x = s.dom x := rfl
theorem State.ptpStamped_runNs (p : Nat) (k : Nat × Clock) : (s.ptpStamped p k).runNs = s.runNs := rfl

/-- A Sync stamped in A (1) or B (2) restarts that domain's timeout; one stamped in D (0) restarts none. -/
def State.noteSync (x : Nat) (sync : Bool) : State := if x ≠ 0 ∧ sync then s.onDom (x - 1) (fun d => { d with lastSync := some s.runNs }) else s

theorem State.noteSync_of_d (sync : Bool) : s.noteSync 0 sync = s := if_neg (by simp)

theorem State.noteSync_dom (x : Nat) (sync : Bool) (domain : x ≠ 0) :
    (s.noteSync x sync).dom (x - 1) = if sync then { s.dom (x - 1) with lastSync := some s.runNs } else s.dom (x - 1) := by
  cases sync
  · rw [State.noteSync, if_neg (by simp)]
    rfl
  · rw [State.noteSync, if_pos ⟨domain, rfl⟩, State.dom_onDom_same]
    rfl

theorem State.noteSync_keeps {α : Type} (g : State → α) (x : Nat) (sync : Bool) (dom : ∀ (t : State) (y : Nat) (f : Domain → Domain), g (t.onDom y f) = g t) :
    g (s.noteSync x sync) = g s := by
  unfold State.noteSync
  split
  · exact dom _ _ _
  · rfl

/-- An event message is stamped, a Sync of a domain restarts its timeout, and the sources are shown. -/
theorem execPtpEventRx_eq (port : Fin 6) (dn : Fin 256) (sync : Bool) (k : Nat × Clock) (h : s.ptpClock port.val dn.val = k) :
    execPtpEventRx port dn sync s = .next ((s.ptpStamped port.val k).noteSync k.1 sync).showSources := by
  rw [← h]
  rfl

/-- What an event message does, whatever the clock in which it is stamped. -/
theorem State.ptpEvent_effects (p : Nat) (k : Nat × Clock) (sync : Bool) :
    let t := ((s.ptpStamped p k).noteSync k.1 sync).showSources
    t.time.ptpStamp.look p = some (k.1, stamp64 (k.2.move (-(s.rd Reg.ETH_LAT_RX_NS [p] : Int)))) ∧
    (∀ q, q ≠ p → t.time.ptpStamp.look q = s.time.ptpStamp.look q) ∧ t.time.d = s.time.d ∧ t = { s with regs := t.regs, time := t.time, host := t.host } := by
  let u := s.ptpStamped p k
  obtain ⟨here, others⟩ := s.ptpStamped_look p k
  have stamps : (u.noteSync k.1 sync).showSources.time.ptpStamp = u.time.ptpStamp := by
    rw [State.showSources_time, u.noteSync_keeps (·.time.ptpStamp) _ _ State.onDom_ptpStamp]
  refine ⟨?_, fun q other => ?_, ?_, State.eq_of_tenseFrame ?_⟩
  · exact (congrArg (·.look p) stamps).trans here
  · exact (congrArg (·.look q) stamps).trans (others q other)
  · rw [State.showSources_time, u.noteSync_keeps (·.time.d) _ _ State.onDom_time_d]
    rfl
  · exact (State.showSources_tenseFrame _).trans ((u.noteSync_keeps _ _ _ State.onDom_tenseFrame).trans (s.onTime_tenseFrame _))

/-- Once time has started the show of the sources shows which domain is OK (R96). -/
theorem State.showSources_flags (locked : s.time.locked = true) :
    s.showSources.flag Reg.TNS_STATUS_A_OK = s.domOk 0 ∧ s.showSources.flag Reg.TNS_STATUS_B_OK = s.domOk 1 := by
  unfold State.showSources
  extract_lets oks held
  rw [if_neg (by simp [locked])]
  have kept (f : Fld) (hold : Reg.TNS_STATUS_HOLDOVER.apart [] f [] = true) (cause : Reg.RNG_DEV_CAUSE_CAUSE.apart [] f [] = true) : held.flag f = oks.flag f := by
    simp only [held]
    split
    · rfl
    · rw [State.flag, State.rd_wrCause_apart _ _ _ _ _ _ _ hold cause, State.flag]
  constructor
  · rw [State.wrb, State.flag_wr_apart _ _ _ _ _ _ (by decide), kept _ (by decide) (by decide)]
    simp only [oks]
    rw [State.wrb, State.flag_wr_apart _ _ _ _ _ _ (by decide), State.wrb, State.flag_wr_apart _ _ _ _ _ _ (by decide), State.flag_wrb_same _ _ _ _ (by decide) rfl]
    rfl
  · rw [State.wrb, State.flag_wr_apart _ _ _ _ _ _ (by decide), kept _ (by decide) (by decide)]
    simp only [oks]
    rw [State.wrb, State.flag_wr_apart _ _ _ _ _ _ (by decide), State.flag_wrb_same _ _ _ _ (by decide) rfl]
    rfl

end

/-- The part of O29 about the registers of the domains and of DSEL, and about event messages. -/
theorem domainWritesAndPtpMessages : Claims.DomainWritesAndPtpMessages := by
  refine ⟨fun x v s => execIncrCommitWrite_asks s x v, fun x v s => execDomainStepWrite_asks s x v,
    fun v s => ⟨fun free code => ⟨_, execDselWrite_eq s v, s.dselWrite_takes v.toNat free code⟩, fun refused => ⟨_, execDselWrite_eq s v, s.dselWrite_refuses v.toNat refused⟩⟩,
    fun port dn sync s => ⟨fun dom number => ?_, fun other => ?_⟩, fun x s locked => ?_⟩
  · obtain ⟨here, others, d, frame⟩ := s.ptpEvent_effects port.val _ sync
    refine ⟨_, execPtpEventRx_eq s port dn sync _ (s.ptpClock_of_domain port.val dn.val dom number), here, others, ?_, d, frame⟩
    rw [State.dom_congr _ (State.showSources_time _), State.noteSync_dom _ _ _ (by omega), State.ptpStamped_dom, State.ptpStamped_runNs]
  · obtain ⟨here, others, d, frame⟩ := s.ptpEvent_effects port.val _ sync
    refine ⟨_, execPtpEventRx_eq s port dn sync _ (s.ptpClock_of_other port.val dn.val other), here, others, ?_, ?_, d, frame⟩
    · rw [State.showSources_time, State.noteSync_of_d]
      rfl
    · rw [State.showSources_time, State.noteSync_of_d]
      rfl
  · obtain ⟨a, b⟩ := s.showSources_flags locked
    exact ⟨s.showSources, rfl, a, b, s.showSources_time, State.eq_of_tenseFrame_time s.showSources_tenseFrame s.showSources_time⟩

end Sys2Proof.Machine
end

section
/-! PROOFS. TIME_STEP and its mark, and SOURCE_SELECT and its mark (R96, R99, R100, R110, R111, R346, R397; O29). -/

namespace Sys2Proof.Machine

open Sys2Proof.Claims

section
variable (s : State)

/-! TIME_STEP (R99). -/

/-- The mark that TIME_STEP names, N + 8 for 0. -/
def stepMarkOf (s : State) (args : List Nat) : Nat := if arg64 args 0 = 0 then s.time.n + 8 else arg64 args 0

theorem execTimeStep_near (ref : CmdRef) (args : List Nat) (near : stepMarkOf s args < s.time.n + 8) :
    execTimeStep ref args s = .next (s.complete (longRef ref 0x0A01) .invalid) := by
  refine congrArg Host.Outcome.next (s.commandLong_refused_now (judge_pre ?_) (.inl rfl))
  simp only [stepMarkOf] at near
  simp only [judge, near, decide_true]

theorem execTimeStep_holdover (ref : CmdRef) (args : List Nat) (far : s.time.n + 8 ≤ stepMarkOf s args) (held : s.flag Reg.TNS_STATUS_HOLDOVER = true) :
    execTimeStep ref args s = .next (s.complete (longRef ref 0x0A01) .invalid) := by
  refine congrArg Host.Outcome.next (s.commandLong_refused_now (judge_pre ?_) (.inl rfl))
  simp only [stepMarkOf] at far
  simp only [judge, Nat.not_lt.mpr far, held, decide_false]

section
variable (ref : CmdRef) (args : List Nat) (adm : Admitted s 0x0A01) (far : s.time.n + 8 ≤ stepMarkOf s args)
  (tracks : s.flag Reg.TNS_STATUS_HOLDOVER = false)
include far tracks

/-- A mark far enough ahead and no HOLDOVER is no refusal. -/
theorem timeStep_wellFormed : judge [(decide (stepMarkOf s args < s.time.n + 8), .invalid, 0), (s.flag Reg.TNS_STATUS_HOLDOVER, .invalid, 0)] = none := by
  simp only [judge, Nat.not_lt.mpr far, tracks, decide_false]

include adm

theorem execTimeStep_forced (forced : s.forcedLink = true) :
    execTimeStep ref args s = .next ((s.accept (longRef ref 0x0A01)).complete (longRef ref 0x0A01) .denied 6) := by
  refine congrArg Host.Outcome.next (s.commandLong_refused_late (judge_suf adm (timeStep_wellFormed s args far tracks) ?_) (by decide))
  simp only [judge, forced]

theorem execTimeStep_busy (free : s.forcedLink = false) (pending : s.time.stepPend.isSome = true) :
    execTimeStep ref args s = .next (s.complete (longRef ref 0x0A01) .busy) := by
  refine congrArg Host.Outcome.next (s.commandLong_refused_now (judge_suf adm (timeStep_wellFormed s args far tracks) ?_) (.inr rfl))
  simp only [judge, free, pending]

theorem execTimeStep_waits (free : s.forcedLink = false) (none_ : s.time.stepPend = none) :
    execTimeStep ref args s = .next (((s.accept (longRef ref 0x0A01)).onTime
      (fun t => { t with stepPend := some { mark := stepMarkOf s args, ref := some (longRef ref 0x0A01) } })).wr Reg.TNS_STATUS_STEP_PEND 1) := by
  refine congrArg Host.Outcome.next (s.commandLong_ok _ _ _ _ _ adm (timeStep_wellFormed s args far tracks) ?_)
  simp only [judge, free, none_, Option.isSome_none]

end

/-! What the step at its mark leaves of the Tense unit (R98, R100, R110). -/

/-- What the consequences of a step leave: the Tense unit but for its armed pulses, and STEP_PEND. -/
def State.stepView (s : State) : TimeState × Nat := ({ s.time with tioArmed := [] }, s.rd Reg.TNS_STATUS_STEP_PEND)

/-- The view depends on the Tense unit and STEP_PEND alone. -/
theorem State.stepView_of {s t : State} (time : t.time = s.time) (pend : t.rd Reg.TNS_STATUS_STEP_PEND = s.rd Reg.TNS_STATUS_STEP_PEND) : t.stepView = s.stepView := by
  rw [State.stepView, State.stepView, time, pend]

theorem State.stepView_of_regs {s t : State} (time : t.time = s.time) (regs : t.regs = s.regs) : t.stepView = s.stepView :=
  State.stepView_of time (State.rd_congr _ _ regs)

theorem State.showLoad_stepView : s.showLoad.stepView = s.stepView :=
  State.stepView_of (s.wr_time _ _ _) (s.rd_showLoad_ne _ _ (by decide))

theorem State.endSplice_stepView (st : Status) : (s.endSplice st).stepView = s.stepView := by
  unfold State.endSplice
  split
  · rfl
  · extract_lets u
    have shown : u.stepView = s.stepView := (State.showLoad_stepView _).trans (State.stepView_of_regs (s.onImg_time _) (s.onImg_regs _))
    split
    · split
      · exact (State.stepView_of_regs (u.complete_time _ _ _ _ _) (u.complete_regs _ _ _ _ _)).trans shown
      · exact shown
    · exact shown

theorem State.loseSplice_stepView : s.loseSplice.stepView = s.stepView := by
  unfold State.loseSplice
  split
  · rfl
  · exact (State.stepView_of_regs (State.onImg_time _ _) (State.onImg_regs _ _)).trans (s.endSplice_stepView _)

/-- The pins' LATE lies apart from STEP_PEND, whatever the pin. -/
theorem late_apart_stepPend (n : Nat) : Reg.TNS_TIO_CFG_LATE.apart [n] Reg.TNS_STATUS_STEP_PEND [] = true := by
  have other : regAddr Reg.TNS_STATUS_STEP_PEND.reg [] ≠ regAddr Reg.TNS_TIO_CFG_LATE.reg [n] := by
    simp [regAddr, Reg.TNS_STATUS_STEP_PEND, Reg.TNS_TIO_CFG_LATE, Reg.TNS_STATUS, Reg.TNS_TIO_CFG]
    omega
  simp [Fld.apart, other]

theorem State.tioPassed_stepView : s.tioPassed.stepView = s.stepView := by
  unfold State.tioPassed
  extract_lets l
  refine forL_keep (fun t : State => t.stepView = s.stepView) l _ _ rfl (fun n t _ ht => ?_)
  exact (State.stepView_of (t.wr_time _ _ _) (t.rd_wr_apart _ _ _ _ _ (late_apart_stepPend n))).trans ht

theorem State.histTimeStep_stepView (n : Nat) (k : Int) : (s.histTimeStep n k).stepView = s.stepView := by
  unfold State.histTimeStep
  split
  · exact State.stepView_of_regs (s.onHist_time _) (s.onHist_regs _)
  · rfl

/-- The state with D and the cycle number moved by a step of q ns (R100). -/
def State.moveD (q : Int) : State :=
  s.onTime (fun t => { t with d := t.d.move q, n := (((t.n : Int) + Int.tdiv q 125000) % ((2 ^ 64 : Nat) : Int)).toNat })

/-- A step moves D and the cycle number, and nothing else of the view. -/
theorem State.stepD_stepView (q : Int) (h : q ≠ 0) : (s.stepD q).stepView = (s.moveD q).stepView := by
  unfold State.stepD
  rw [if_neg h]
  extract_lets k n moved marked acq sampled hist passed
  have markedView : marked.stepView = moved.stepView := by
    refine (State.stepView_of_regs (State.logEvent_time _ _ _) (State.logEvent_regs _ _ _)).trans ?_
    exact State.stepView_of (State.wrCause_time _ _ _ _ _) (State.rd_wrCause_apart _ _ _ _ _ _ _ (by decide) (by decide))
  have histView : hist.stepView = moved.stepView := by
    refine (sampled.histTimeStep_stepView n k).trans ?_
    exact (State.stepView_of_regs rfl rfl).trans markedView
  have passedView : passed.stepView = moved.stepView := by
    simp only [passed]
    split
    · exact hist.tioPassed_stepView.trans histView
    · exact histView
  split
  · split
    · split
      · exact (State.stepView_of_regs (State.onImg_time _ _) (State.onImg_regs _ _)).trans passedView
      · exact (State.loseSplice_stepView _).trans passedView
    · exact (State.loseSplice_stepView _).trans passedView
  · exact passedView

/-- The state in which no TIME_STEP is pending. -/
def State.stepTaken : State := (s.onTime (fun t => { t with stepPend := none })).wr Reg.TNS_STATUS_STEP_PEND 0

theorem State.stepTaken_time : s.stepTaken.time = { s.time with stepPend := none } := (State.wr_time _ _ _ _).trans (s.onTime_time _)

/-- A step that is taken moves D by q and the cycle number by q / 125,000 (R99, R100). -/
theorem State.stepTaken_stepD (q : Int) (h : q ≠ 0) : (s.stepTaken.stepD q).time.d = s.time.d.move q ∧
    (s.stepTaken.stepD q).time.n = (((s.time.n : Int) + Int.tdiv q 125000) % ((2 ^ 64 : Nat) : Int)).toNat ∧
    (s.stepTaken.stepD q).time.stepPend = none ∧ (s.stepTaken.stepD q).rd Reg.TNS_STATUS_STEP_PEND = 0 := by
  have view := s.stepTaken.stepD_stepView q h
  have time : ({ (s.stepTaken.stepD q).time with tioArmed := [] } : TimeState) = { (s.stepTaken.moveD q).time with tioArmed := [] } := congrArg (·.1) view
  have pend : (s.stepTaken.stepD q).rd Reg.TNS_STATUS_STEP_PEND = (s.stepTaken.moveD q).rd Reg.TNS_STATUS_STEP_PEND := congrArg (·.2) view
  rw [State.moveD, State.onTime_time, s.stepTaken_time] at time
  refine ⟨congrArg (·.d) time, congrArg (·.n) time, congrArg (·.stepPend) time, ?_⟩
  rw [pend, State.moveD, State.rd_congr _ _ (State.onTime_regs _ _)]
  exact State.rd_wr_same _ _ _ _ (by decide) (by decide)

/-- EFFECTIVE at a mark does not depend on what a taken step changes. -/
theorem State.stepTaken_stopAtMark : s.stepTaken.stopAtMark = s.stopAtMark := by
  have key : s.stepTaken.key = s.key := State.wr_key _ _ _ _
  have run : s.stepTaken.runNs = s.runNs := congrArg (·.run) s.stepTaken_time
  have effective : s.stepTaken.keyStopped = s.keyStopped := by
    rw [State.keyStopped, State.stepTaken, State.rd_wr_apart _ _ _ _ _ _ (by decide), State.rd_congr _ _ (s.onTime_regs _), State.keyStopped]
  rw [State.stopAtMark, key, run, effective, State.stopAtMark]

theorem State.stepMark_waits (p : TimeStepPend) (pending : s.time.stepPend = some p) (early : s.time.n < p.mark) : s.stepMark = s := by
  rw [State.stepMark, pending]
  exact if_pos early

/-- A pending TIME_STEP at its mark, refused in STOP. -/
theorem State.stepMark_due (p : TimeStepPend) (r : CmdRef) (pending : s.time.stepPend = some p) (hr : p.ref = some r) (own : p.q = none) (due : p.mark ≤ s.time.n) :
    s.stepMark = if s.stopAtMark then s.stepTaken.complete r .denied 1 else (s.stepTaken.stepD s.stepQ).complete r .ok := by
  rw [State.stepMark, pending]
  dsimp only
  rw [if_neg (Nat.not_lt.mpr due), hr, own, ← s.stepTaken_stopAtMark]
  rfl

/-! SOURCE_SELECT and the mark of a choice (R96, R111). -/

theorem execSourceSelect_beyond (ref : CmdRef) (args : List Nat) (beyond : 2 < argN args 0) :
    execSourceSelect ref args s = .next (s.complete (opRef ref 0x0A03) .invalid) := by
  refine congrArg Host.Outcome.next (s.command_refused (judge_pre ?_))
  simp only [judge, beyond, decide_true]

theorem execSourceSelect_selects (ref : CmdRef) (args : List Nat) (adm : Admitted s 0x0A03) (code : argN args 0 ≤ 2) :
    execSourceSelect ref args s = .next ((s.hostDsel (argN args 0)).complete (opRef ref 0x0A03) .ok) := by
  refine congrArg Host.Outcome.next (s.command_ok _ _ _ _ _ adm ?_ rfl)
  simp only [judge, Nat.not_lt.mpr code, decide_false]

/-- A choice of the host that waits is in effect after the mark where AUTO is 0 and nothing forces LINK (R96). -/
theorem State.sourceMark_chosen (x : Nat) (free : s.forcedLink = false) (chosen : s.time.dselPending = some x) (code : x ≤ 2) (manual : s.flag Reg.TNS_CTL_AUTO = false) :
    s.sourceMark.rd Reg.TNS_STATUS_ACTIVE = x ∧ s.sourceMark.time.dselPending = none := by
  unfold State.sourceMark
  extract_lets cur auto next taken switched forced held
  have next_ : next = x := by
    simp only [next, auto, free, chosen, manual, Bool.false_and, Bool.false_eq_true, if_false]
  have takenActive : taken.rd Reg.TNS_STATUS_ACTIVE = cur := State.rd_congr _ _ (s.onTime_regs _)
  have switchedActive : switched.rd Reg.TNS_STATUS_ACTIVE = x := by
    simp only [switched]
    split
    · rename_i same
      rw [takenActive, ← same, next_]
    · rw [State.rd_wrCause_apart _ _ _ _ _ _ _ (by decide) (by decide), State.rd_wr_same _ _ _ _ (by decide) (by decide), next_]
      exact Nat.mod_eq_of_lt (Nat.lt_of_le_of_lt code (by decide))
  have switchedTime : switched.time = taken.time := by
    simp only [switched]
    split
    · rfl
    · rw [State.wrCause_time, State.wr_time, State.wr_time]
  have forcedActive : forced.rd Reg.TNS_STATUS_ACTIVE = x := by
    simp only [forced]
    split
    · rw [State.rd_wr_apart _ _ _ _ _ _ (by decide), switchedActive]
    · exact switchedActive
  have forcedTime : forced.time = switched.time := by
    simp only [forced]
    split
    · exact State.wr_time _ _ _ _
    · rfl
  have heldActive : held.showSources.rd Reg.TNS_STATUS_ACTIVE = x := by
    rw [held.rd_showSources_apart _ _ (by decide) (by decide), State.rd_wrCause_apart _ _ _ _ _ _ _ (by decide) (by decide), forcedActive]
  have heldTime : held.showSources.time = taken.time := by
    rw [State.showSources_time, State.wrCause_time, forcedTime, switchedTime]
  obtain ⟨e, disciplined, -⟩ := held.showSources.discipline_eq
  constructor
  · rw [disciplined, State.wrb, State.rd_wr_apart _ _ _ _ _ _ (by decide), State.rd_congr _ _ (State.onTime_regs _ _), heldActive]
  · rw [State.discipline_time, heldTime]
    rfl

end

/-- The part of O29 about TIME_STEP and SOURCE_SELECT. That a forced unit answers so is the model's reading (log entry 12). -/
theorem timeCommandsAct : Claims.TimeCommandsAct := by
  refine ⟨fun ref args s => ⟨execTimeStep_near s ref args, execTimeStep_holdover s ref args, fun adm far tracks =>
      ⟨execTimeStep_forced s ref args adm far tracks, execTimeStep_busy s ref args adm far tracks, fun free none_ => ?_⟩⟩,
    fun s p r pending hr own => ⟨s.stepMark_waits p pending, fun due goes moves => ?_, fun due stops => ?_⟩,
    fun ref args s => ⟨execSourceSelect_beyond s ref args, fun adm code free => ?_, fun adm code forced => ?_⟩, fun s x => s.sourceMark_chosen x⟩
  · refine ⟨_, execTimeStep_waits s ref args adm far tracks free none_, ?_, State.rd_wr_same _ _ _ _ (by decide) (by decide), ?_, State.eq_of_tenseFrame ?_⟩
    · rw [State.wr_time, State.onTime_time, State.accept_time]
      rfl
    · rw [State.wr_host, State.onTime_host]
    · refine (State.wr_tenseFrame _ _ _ _).trans ((State.onTime_tenseFrame _ _).trans ?_)
      rw [State.accept_frame, State.withHost_tenseFrame]
  · refine ⟨s.stepTaken.stepD s.stepQ, ?_, s.stepTaken_stepD s.stepQ moves⟩
    rw [s.stepMark_due p r pending hr own due, goes]
    rfl
  · refine ⟨s.stepTaken, ?_, s.stepTaken_time⟩
    rw [s.stepMark_due p r pending hr own due, stops]
    rfl
  · rw [← s.hostDsel_taken _ free (by omega)]
    exact execSourceSelect_selects s ref args adm code
  · rw [← s.hostDsel_refused _ (.inl forced)]
    exact execSourceSelect_selects s ref args adm code

end Sys2Proof.Machine
end

section
/-! PROOFS. Time pins: captured edges, writes of a mode, output pulses (R102, R107, R110; O29). -/

namespace Sys2Proof.Machine

open Sys2Proof.Claims

/-- An entry filtered out of a table is not found there. -/
theorem Tab.look_filter_key {α : Type} (t : Tab α) (n : Nat) : Tab.look (t.filter (fun e => decide (e.1 ≠ n))) n = none := by
  induction t with
  | nil => rfl
  | cons e t ih =>
    obtain ⟨k, v⟩ := e
    by_cases own : k = n
    · simpa [own] using ih
    · simpa [own, Tab.look] using ih

theorem TNS_TIO_CFG_laidOut : Reg.TNS_TIO_CFG.laidOut := by
  unfold RegDesc.laidOut FieldDesc.apart
  decide

section
variable (s : State)

/-! Edges (R107). -/

/-- The state in which an edge is stamped with D and its position, after OVF where the last stamp was not read (R107). -/
def State.stampEdge (n sub : Nat) : State :=
  let s := if s.flag Reg.TNS_TIO_CFG_VALID [n] then s.wr Reg.TNS_TIO_CFG_OVF 1 [n] else s
  let s := (s.wr Reg.TNS_TIO_NS_NS s.time.d.ns [n]).wr Reg.TNS_TIO_SEC_SEC s.time.d.sec [n]
  (s.wr Reg.TNS_TIO_CFG_SUB sub [n]).wr Reg.TNS_TIO_CFG_VALID 1 [n]

/-- A capture mode takes an edge: both edges in MODE 3, rising ones in 1, falling ones in 2 (R107). -/
def takesEdge (m : Nat) (rising : Bool) : Prop := m = 3 ∨ (m = 1 ∧ rising = true) ∨ (m = 2 ∧ rising = false)

/-- The state with the level of a pin. -/
def State.pinLevel (n : Nat) (rising : Bool) : State := s.onTime (fun t => { t with tioLevel := t.tioLevel.put n rising })

theorem execTioEdge_taken (pin : Fin 8) (rising : Bool) (sub : Fin 8) (h : takesEdge (s.rd Reg.TNS_TIO_CFG_MODE [pin.val]) rising) :
    execTioEdge pin rising sub s = .next ((((s.pinLevel pin.val rising).stampEdge pin.val sub.val).acqPin pin.val rising sub.val).urgPin pin.val rising) := by
  unfold execTioEdge
  extract_lets n m u v w x
  have stamped : x = u.stampEdge n sub.val := if_pos (by simpa [takesEdge] using h)
  rw [stamped]
  rfl

theorem execTioEdge_passed (pin : Fin 8) (rising : Bool) (sub : Fin 8) (h : ¬ takesEdge (s.rd Reg.TNS_TIO_CFG_MODE [pin.val]) rising) :
    execTioEdge pin rising sub s = .next (((s.pinLevel pin.val rising).acqPin pin.val rising sub.val).urgPin pin.val rising) := by
  unfold execTioEdge
  extract_lets n m u v w x
  have kept : x = u := if_neg (by simpa [takesEdge] using h)
  rw [kept]
  rfl

/-- What a stamp shows: D's nanoseconds and seconds, the position, VALID, and OVF where VALID was set (R107). -/
theorem State.stampEdge_shows (n sub : Nat) (fits : sub < 8) :
    (s.stampEdge n sub).rd Reg.TNS_TIO_NS_NS [n] = s.time.d.ns % 2 ^ 30 ∧ (s.stampEdge n sub).rd Reg.TNS_TIO_SEC_SEC [n] = s.time.d.sec % 2 ^ 32 ∧
    (s.stampEdge n sub).rd Reg.TNS_TIO_CFG_SUB [n] = sub ∧ (s.stampEdge n sub).flag Reg.TNS_TIO_CFG_VALID [n] = true ∧
    (s.stampEdge n sub).flag Reg.TNS_TIO_CFG_OVF [n] = (s.flag Reg.TNS_TIO_CFG_OVF [n] || s.flag Reg.TNS_TIO_CFG_VALID [n]) := by
  unfold State.stampEdge
  extract_lets noted stamped
  have time : noted.time = s.time := by
    simp only [noted]
    split
    · exact s.wr_time _ _ _
    · rfl
  have overflow : noted.flag Reg.TNS_TIO_CFG_OVF [n] = (s.flag Reg.TNS_TIO_CFG_OVF [n] || s.flag Reg.TNS_TIO_CFG_VALID [n]) := by
    simp only [noted]
    split
    · rename_i valid
      rw [valid, Bool.or_true]
      exact s.flag_wrb_same Reg.TNS_TIO_CFG_OVF true [n] (by decide) rfl
    · rename_i unread
      rw [Bool.eq_false_iff.mpr unread, Bool.or_false]
  have base {f g : Fld} (dims : f.reg.dims = g.reg.dims) (other : f.reg.base ≠ g.reg.base) : f.apart [n] g [n] = true := Fld.apart_of_base [n] dims other
  have bits {f g : Fld} (reg : g.reg = f.reg) (inside : f.hi < 32 ∧ f.lo ≤ f.hi + 1) (apart : g.hi < f.lo ∨ f.hi < g.lo) : f.apart [n] g [n] = true :=
    Fld.apart_of_bits [n] reg inside apart
  refine ⟨?_, ?_, ?_, ?_, ?_⟩
  · rw [State.rd_wr_apart _ _ _ _ _ _ (base (by decide) (by decide)), State.rd_wr_apart _ _ _ _ _ _ (base (by decide) (by decide))]
    simp only [stamped]
    rw [State.rd_wr_apart _ _ _ _ _ _ (base (by decide) (by decide)), State.rd_wr_same _ _ _ _ (by decide) (by decide), time]
    rfl
  · rw [State.rd_wr_apart _ _ _ _ _ _ (base (by decide) (by decide)), State.rd_wr_apart _ _ _ _ _ _ (base (by decide) (by decide))]
    simp only [stamped]
    rw [State.rd_wr_same _ _ _ _ (by decide) (by decide), time]
    rfl
  · rw [State.rd_wr_apart _ _ _ _ _ _ (bits (by decide) (by decide) (by decide)), State.rd_wr_same _ _ _ _ (by decide) (by decide)]
    exact Nat.mod_eq_of_lt fits
  · exact State.flag_wrb_same _ Reg.TNS_TIO_CFG_VALID true [n] (by decide) rfl
  · rw [State.flag_wr_apart _ _ _ _ _ _ (bits (by decide) (by decide) (by decide)), State.flag_wr_apart _ _ _ _ _ _ (bits (by decide) (by decide) (by decide))]
    simp only [stamped]
    rw [State.flag_wr_apart _ _ _ _ _ _ (base (by decide) (by decide)), State.flag_wr_apart _ _ _ _ _ _ (base (by decide) (by decide)), overflow]

theorem State.stampEdge_keeps {α : Type} (g : State → α) (n sub : Nat) (wr : ∀ (t : State) (f : Fld) (v : Nat) (ix : List Nat), g (t.wr f v ix) = g t) :
    g (s.stampEdge n sub) = g s := by
  unfold State.stampEdge
  extract_lets noted stamped
  have noted_ : g noted = g s := by
    simp only [noted]
    split
    · exact wr _ _ _ _
    · rfl
  simp only [stamped, wr, noted_]

/-! Modes (R107). -/

/-- The state with a pin's mode stored and no pulse of it armed. -/
def State.storeMode (n v hw : Nat) : State :=
  (s.setReg Reg.TNS_TIO_CFG (wordWrite Reg.TNS_TIO_CFG (s.reg Reg.TNS_TIO_CFG [n]) v hw false) [n]).onTime
    (fun t => { t with tioArmed := t.tioArmed.filter (fun x => decide (x ≠ n)) })

/-- The state in which a pulse of another mode than the one stored has ended. -/
def State.endMode (n old : Nat) : State :=
  if s.rd Reg.TNS_TIO_CFG_MODE [n] = old ∨ (s.time.tioPulse.look n).isNone then s
  else s.onTime (fun t => { t with tioPulse := t.tioPulse.filter (fun e => decide (e.1 ≠ n)), tioLevel := t.tioLevel.put n false })

/-- The state in which output mode has armed its pulse, or found its due time past. -/
def State.beginMode (n : Nat) : State :=
  if s.rd Reg.TNS_TIO_CFG_MODE [n] ≠ 4 then s
  else if s.tioDue n < clock4 s.time.d then s.wr Reg.TNS_TIO_CFG_LATE 1 [n]
  else s.onTime (fun t => { t with tioArmed := t.tioArmed ++ [n] })

/-- The stored mode is what was written, and an OVF that hardware sets stands (R7). -/
theorem State.storeMode_shows (n v hw : Nat) :
    (s.storeMode n v hw).rd Reg.TNS_TIO_CFG_MODE [n] = bitsOf v 2 0 ∧
    (bitOf hw Reg.TNS_TIO_CFG_OVF.lo = true → (s.storeMode n v hw).flag Reg.TNS_TIO_CFG_OVF [n] = true) := by
  have field (f : FieldDesc) (mem : f ∈ Reg.TNS_TIO_CFG.fields) : (s.storeMode n v hw).rd ⟨Reg.TNS_TIO_CFG, f.hi, f.lo⟩ [n] =
      fieldWrite f.acc (bitsOf (s.reg Reg.TNS_TIO_CFG [n]) f.hi f.lo) (bitsOf v f.hi f.lo) (bitsOf hw f.hi f.lo) false :=
    (State.rd_congr _ _ (State.onTime_regs _ _)).trans (s.bits_setReg_wordWrite _ [n] v hw false TNS_TIO_CFG_laidOut f mem)
  refine ⟨field ⟨2, 0, .rw, 0⟩ (by decide), fun set => ?_⟩
  have ovf := field ⟨7, 7, .w1c, 0⟩ (by decide)
  have bit : bitsOf hw 7 7 = 1 := of_decide_eq_true set
  rw [bit] at ovf
  have one : (s.storeMode n v hw).rd Reg.TNS_TIO_CFG_OVF [n] ≠ 0 := by
    rw [show (s.storeMode n v hw).rd Reg.TNS_TIO_CFG_OVF [n] = _ from ovf]
    exact Nat.ne_of_gt (Nat.lt_of_lt_of_le Nat.zero_lt_one Nat.right_le_or)
  exact decide_eq_true one

/-- The end of a mode's pulse moves pulses and levels alone. -/
theorem State.endMode_eq (n old : Nat) : ∃ p l, s.endMode n old = s.onTime (fun t => { t with tioPulse := p, tioLevel := l }) := by
  unfold State.endMode
  split
  · exact ⟨s.time.tioPulse, s.time.tioLevel, rfl⟩
  · exact ⟨_, _, rfl⟩

theorem State.endMode_same (n old : Nat) (h : s.rd Reg.TNS_TIO_CFG_MODE [n] = old) : s.endMode n old = s := if_pos (.inl h)

/-- A pulse of another mode ends, its pin low. -/
theorem State.endMode_other (n old : Nat) (h : s.rd Reg.TNS_TIO_CFG_MODE [n] ≠ old) (pulse : (s.time.tioPulse.look n).isSome = true) :
    (s.endMode n old).time.tioPulse.look n = none ∧ (s.endMode n old).time.tioLevel.look n = some false := by
  rw [State.endMode, if_neg (by simp [h, Option.isNone_eq_false_iff.mpr pulse])]
  exact ⟨Tab.look_filter_key _ _, Tab.look_put_same _ _ _⟩

theorem State.beginMode_rests (n : Nat) (h : s.rd Reg.TNS_TIO_CFG_MODE [n] ≠ 4) : s.beginMode n = s := if_pos h

theorem State.beginMode_late (n : Nat) (h : s.rd Reg.TNS_TIO_CFG_MODE [n] = 4) (past : s.tioDue n < clock4 s.time.d) :
    s.beginMode n = s.wr Reg.TNS_TIO_CFG_LATE 1 [n] := by
  rw [State.beginMode, if_neg (not_not_intro h), if_pos past]

theorem State.beginMode_arms (n : Nat) (h : s.rd Reg.TNS_TIO_CFG_MODE [n] = 4) (ahead : ¬ s.tioDue n < clock4 s.time.d) :
    s.beginMode n = s.onTime (fun t => { t with tioArmed := t.tioArmed ++ [n] }) := by
  rw [State.beginMode, if_neg (not_not_intro h), if_neg ahead]

/-- The begin of a mode leaves what neither LATE nor the armed pulses are. -/
theorem State.beginMode_keeps {α : Type} (g : State → α) (n : Nat) (late : g (s.wr Reg.TNS_TIO_CFG_LATE 1 [n]) = g s)
    (arms : ∀ l, g (s.onTime (fun t => { t with tioArmed := l })) = g s) : g (s.beginMode n) = g s := by
  unfold State.beginMode
  split
  · rfl
  · split
    · exact late
    · exact arms (s.time.tioArmed ++ [n])

/-- A field of the pin apart from LATE keeps its value. -/
theorem State.rd_beginMode (n : Nat) (f : Fld) (h : Reg.TNS_TIO_CFG_LATE.apart [n] f [n] = true) : (s.beginMode n).rd f [n] = s.rd f [n] :=
  s.beginMode_keeps (·.rd f [n]) n (s.rd_wr_apart _ _ _ _ _ h) (fun _ => State.rd_congr _ _ (s.onTime_regs _))

/-- The due time of a pulse depends on D and the pin's registers alone. -/
theorem State.tioDue_congr {s t : State} (n : Nat) (d : t.time.d = s.time.d) (sec : t.rd Reg.TNS_TIO_SEC_SEC [n] = s.rd Reg.TNS_TIO_SEC_SEC [n])
    (ns : t.rd Reg.TNS_TIO_NS_NS [n] = s.rd Reg.TNS_TIO_NS_NS [n]) (sub : t.rd Reg.TNS_TIO_CFG_SUB [n] = s.rd Reg.TNS_TIO_CFG_SUB [n]) : t.tioDue n = s.tioDue n := by
  rw [State.tioDue, d, sec, ns, sub, State.tioDue]

theorem State.beginMode_tioDue (n : Nat) : (s.beginMode n).tioDue n = s.tioDue n :=
  State.tioDue_congr n (s.beginMode_keeps (·.time.d) n rfl (fun _ => rfl)) (s.rd_beginMode n _ (Fld.apart_of_base [n] (by decide) (by decide)))
    (s.rd_beginMode n _ (Fld.apart_of_base [n] (by decide) (by decide))) (s.rd_beginMode n _ (Fld.apart_of_bits [n] rfl (by decide) (by decide)))

/-- Which pulses are armed after the begin of a mode, where none of the pin was before (R107). -/
theorem State.beginMode_armed (n m : Nat) (hm : s.rd Reg.TNS_TIO_CFG_MODE [n] = m) (disarmed : n ∉ s.time.tioArmed) :
    (m = 4 → clock4 s.time.d ≤ s.tioDue n → n ∈ (s.beginMode n).time.tioArmed) ∧
    (m = 4 → s.tioDue n < clock4 s.time.d → n ∉ (s.beginMode n).time.tioArmed ∧ (s.beginMode n).flag Reg.TNS_TIO_CFG_LATE [n] = true) ∧
    (m ≠ 4 → n ∉ (s.beginMode n).time.tioArmed) ∧ (∀ k, k ≠ n → (k ∈ (s.beginMode n).time.tioArmed ↔ k ∈ s.time.tioArmed)) := by
  subst hm
  refine ⟨fun four ahead => ?_, fun four past => ?_, fun other => ?_, fun k other => ?_⟩
  · rw [s.beginMode_arms n four (Nat.not_lt.mpr ahead)]
    exact List.mem_append_right _ (List.mem_singleton_self n)
  · rw [s.beginMode_late n four past, State.wr_time]
    exact ⟨disarmed, s.flag_wrb_same Reg.TNS_TIO_CFG_LATE true [n] (by decide) rfl⟩
  · rw [s.beginMode_rests n other]
    exact disarmed
  · unfold State.beginMode
    split
    · rfl
    · split
      · rw [State.wr_time]
      · rw [State.onTime_time]
        simp [other]

/-- What the time pins' modes and pulses may change of the Tense unit. -/
def TimeState.pinFrame (t : TimeState) : TimeState := { t with tioArmed := [], tioPulse := [], tioLevel := [] }

theorem TimeState.eq_of_pinFrame {t u : TimeState} (h : u.pinFrame = t.pinFrame) : u = { t with tioArmed := u.tioArmed, tioPulse := u.tioPulse, tioLevel := u.tioLevel } :=
  calc u = { u.pinFrame with tioArmed := u.tioArmed, tioPulse := u.tioPulse, tioLevel := u.tioLevel } := rfl
    _ = { t.pinFrame with tioArmed := u.tioArmed, tioPulse := u.tioPulse, tioLevel := u.tioLevel } := by rw [h]
    _ = { t with tioArmed := u.tioArmed, tioPulse := u.tioPulse, tioLevel := u.tioLevel } := rfl

theorem State.storeMode_time (n v hw : Nat) : (s.storeMode n v hw).time = { s.time with tioArmed := s.time.tioArmed.filter (fun x => decide (x ≠ n)) } := by
  rw [State.storeMode, State.onTime_time, State.setReg_time]

theorem State.storeMode_tenseFrame (n v hw : Nat) : (s.storeMode n v hw).tenseFrame = s.tenseFrame :=
  (State.onTime_tenseFrame _ _).trans (s.setReg_tenseFrame _ _ _)

theorem State.storeMode_host (n v hw : Nat) : (s.storeMode n v hw).host = s.host := (State.onTime_host _ _).trans (s.setReg_host _ _ _)

/-- The state with a pin's mode stored and the pulse of another mode ended. -/
def State.swapMode (n v hw : Nat) : State := (s.storeMode n v hw).endMode n (s.rd Reg.TNS_TIO_CFG_MODE [n])

/-- What the stored mode shows is kept where a pulse ends. -/
theorem State.swapMode_shows (n v hw : Nat) :
    (s.swapMode n v hw).rd Reg.TNS_TIO_CFG_MODE [n] = bitsOf v 2 0 ∧
    (bitOf hw Reg.TNS_TIO_CFG_OVF.lo = true → (s.swapMode n v hw).flag Reg.TNS_TIO_CFG_OVF [n] = true) := by
  obtain ⟨p, l, ends⟩ := (s.storeMode n v hw).endMode_eq n (s.rd Reg.TNS_TIO_CFG_MODE [n])
  obtain ⟨mode, ovf⟩ := s.storeMode_shows n v hw
  have kept (f : Fld) : (s.swapMode n v hw).rd f [n] = (s.storeMode n v hw).rd f [n] :=
    State.rd_congr f [n] ((congrArg State.regs ends).trans (State.onTime_regs _ _))
  refine ⟨(kept _).trans mode, fun set => ?_⟩
  rw [State.flag, kept]
  exact ovf set

/-- Of the Tense unit the swap of a mode changes the pins' armed pulses, pulses and levels alone. -/
theorem State.swapMode_time (n v hw : Nat) :
    (s.swapMode n v hw).time.d = s.time.d ∧ (s.swapMode n v hw).time.tioArmed = s.time.tioArmed.filter (fun x => decide (x ≠ n)) ∧
    (s.swapMode n v hw).time.pinFrame = s.time.pinFrame := by
  obtain ⟨p, l, ends⟩ := (s.storeMode n v hw).endMode_eq n (s.rd Reg.TNS_TIO_CFG_MODE [n])
  have time := (congrArg State.time ends).trans (State.onTime_time _ _)
  rw [s.storeMode_time n v hw] at time
  exact ⟨congrArg (·.d) time, congrArg (·.tioArmed) time, congrArg (·.pinFrame) time⟩

theorem State.swapMode_tenseFrame (n v hw : Nat) : (s.swapMode n v hw).tenseFrame = s.tenseFrame ∧ (s.swapMode n v hw).host = s.host := by
  obtain ⟨p, l, ends⟩ := (s.storeMode n v hw).endMode_eq n (s.rd Reg.TNS_TIO_CFG_MODE [n])
  exact ⟨(congrArg State.tenseFrame ends).trans ((State.onTime_tenseFrame _ _).trans (s.storeMode_tenseFrame n v hw)),
    (congrArg State.host ends).trans ((State.onTime_host _ _).trans (s.storeMode_host n v hw))⟩

/-- A mode that stays keeps its pulse; another mode ends it (R107). -/
theorem State.swapMode_pulse (n v hw : Nat) :
    (bitsOf v 2 0 = s.rd Reg.TNS_TIO_CFG_MODE [n] →
      (s.swapMode n v hw).time.tioPulse = s.time.tioPulse ∧ (s.swapMode n v hw).time.tioLevel = s.time.tioLevel) ∧
    (bitsOf v 2 0 ≠ s.rd Reg.TNS_TIO_CFG_MODE [n] → (s.time.tioPulse.look n).isSome = true →
      (s.swapMode n v hw).time.tioPulse.look n = none ∧ (s.swapMode n v hw).time.tioLevel.look n = some false) := by
  obtain ⟨mode, -⟩ := s.storeMode_shows n v hw
  have time := s.storeMode_time n v hw
  refine ⟨fun same => ?_, fun other pulse => ?_⟩
  · rw [State.swapMode, State.endMode_same _ n _ (mode.trans same), time]
    exact ⟨rfl, rfl⟩
  · refine State.endMode_other _ n _ (by rw [mode]; exact other) ?_
    rw [time]
    exact pulse

/-- The begin of a mode keeps the pin's other fields. -/
theorem State.beginMode_shows (n : Nat) :
    (s.beginMode n).rd Reg.TNS_TIO_CFG_MODE [n] = s.rd Reg.TNS_TIO_CFG_MODE [n] ∧ (s.beginMode n).flag Reg.TNS_TIO_CFG_OVF [n] = s.flag Reg.TNS_TIO_CFG_OVF [n] := by
  refine ⟨s.rd_beginMode n _ (Fld.apart_of_bits [n] (by decide) (by decide) (by decide)), ?_⟩
  rw [State.flag, s.rd_beginMode n _ (Fld.apart_of_bits [n] (by decide) (by decide) (by decide)), State.flag]

/-- The begin of a mode leaves pulses in progress and levels. -/
theorem State.beginMode_pins (n : Nat) : (s.beginMode n).time.tioPulse = s.time.tioPulse ∧ (s.beginMode n).time.tioLevel = s.time.tioLevel ∧
    (s.beginMode n).time.pinFrame = s.time.pinFrame :=
  ⟨s.beginMode_keeps (·.time.tioPulse) n rfl (fun _ => rfl), s.beginMode_keeps (·.time.tioLevel) n rfl (fun _ => rfl),
    s.beginMode_keeps (·.time.pinFrame) n rfl (fun _ => rfl)⟩

theorem State.beginMode_tenseFrame (n : Nat) : (s.beginMode n).tenseFrame = s.tenseFrame ∧ (s.beginMode n).host = s.host :=
  ⟨s.beginMode_keeps State.tenseFrame n (s.wr_tenseFrame _ _ _) (fun _ => s.onTime_tenseFrame _),
    s.beginMode_keeps State.host n (s.wr_host _ _ _) (fun _ => s.onTime_host _)⟩

/-- A write of a pin's mode (R7, R107). -/
theorem State.writeMode_effects (n v hw : Nat) :
    let t := (s.swapMode n v hw).beginMode n
    t.rd Reg.TNS_TIO_CFG_MODE [n] = bitsOf v 2 0 ∧ (bitOf hw Reg.TNS_TIO_CFG_OVF.lo = true → t.flag Reg.TNS_TIO_CFG_OVF [n] = true) ∧
    (bitsOf v 2 0 = s.rd Reg.TNS_TIO_CFG_MODE [n] → t.time.tioPulse = s.time.tioPulse ∧ t.time.tioLevel = s.time.tioLevel) ∧
    (bitsOf v 2 0 ≠ s.rd Reg.TNS_TIO_CFG_MODE [n] → (s.time.tioPulse.look n).isSome = true →
      t.time.tioPulse.look n = none ∧ t.time.tioLevel.look n = some false) ∧
    (bitsOf v 2 0 = 4 → clock4 s.time.d ≤ t.tioDue n → n ∈ t.time.tioArmed) ∧
    (bitsOf v 2 0 = 4 → t.tioDue n < clock4 s.time.d → n ∉ t.time.tioArmed ∧ t.flag Reg.TNS_TIO_CFG_LATE [n] = true) ∧
    (bitsOf v 2 0 ≠ 4 → n ∉ t.time.tioArmed) ∧ (∀ k, k ≠ n → (k ∈ t.time.tioArmed ↔ k ∈ s.time.tioArmed)) ∧
    t = { s with regs := t.regs, time := { s.time with tioArmed := t.time.tioArmed, tioPulse := t.time.tioPulse, tioLevel := t.time.tioLevel } } := by
  intro t
  let c := s.swapMode n v hw
  obtain ⟨mode, ovf⟩ := s.swapMode_shows n v hw
  obtain ⟨d, armed, pins⟩ := s.swapMode_time n v hw
  obtain ⟨frame, host⟩ := s.swapMode_tenseFrame n v hw
  obtain ⟨stays, ends⟩ := s.swapMode_pulse n v hw
  obtain ⟨tMode, tOvf⟩ := c.beginMode_shows n
  obtain ⟨tPulse, tLevel, tPins⟩ := c.beginMode_pins n
  obtain ⟨tFrame, tHost⟩ := c.beginMode_tenseFrame n
  have begins := c.beginMode_armed n _ mode (by simp [c, armed])
  rw [← c.beginMode_tioDue n, d] at begins
  obtain ⟨arms, late, rests, others⟩ := begins
  refine ⟨tMode.trans mode, fun set => tOvf.trans (ovf set), fun same => ?_, fun other pulse => ?_, arms, late, rests, fun k other => ?_, ?_⟩
  · rw [tPulse, tLevel]
    exact stays same
  · rw [tPulse, tLevel]
    exact ends other pulse
  · rw [others k other, armed]
    simp [other]
  · calc t = { s with regs := t.regs, time := t.time } := State.eq_of_tenseFrame_host (tFrame.trans frame) (tHost.trans host)
      _ = _ := congrArg (fun u => ({ s with regs := t.regs, time := u } : State)) (TimeState.eq_of_pinFrame (tPins.trans pins))

theorem execTioModeWrite_eq (pin : Fin 8) (v hw : Word) :
    execTioModeWrite pin v hw s = .next ((s.swapMode pin.val v.toNat hw.toNat).beginMode pin.val) := rfl

/-! Output pulses (R102, R107, R110). -/

/-- A pulse that is not armed, or not yet due, changes nothing. -/
theorem execTioPulseDue_rests (pin : Fin 8) (h : pin.val ∉ s.time.tioArmed ∨ clock4 s.time.d < s.tioDue pin.val) : execTioPulseDue pin s = .next s := by
  unfold execTioPulseDue
  exact if_pos (by simpa using h)

/-- An armed pulse that is due raises its pin until its width has passed. -/
theorem execTioPulseDue_rises (pin : Fin 8) (armed : pin.val ∈ s.time.tioArmed) (due : s.tioDue pin.val ≤ clock4 s.time.d) :
    execTioPulseDue pin s = .next (s.onTime (fun t => { t with
      tioArmed := t.tioArmed.filter (fun x => decide (x ≠ pin.val)), tioLevel := t.tioLevel.put pin.val true, tioOut := t.tioOut.put pin.val (s.tioDue pin.val)
      tioPulse := t.tioPulse.put pin.val (s.runNs + max 1 (s.rd Reg.TNS_TIO_CFG_WIDTH [pin.val]) * 1000) })) := by
  unfold execTioPulseDue
  exact if_neg (by simp [armed, due])

end

/-- The part of O29 about the time pins. -/
theorem timePinsCaptureAndPulse : Claims.TimePinsCaptureAndPulse := by
  refine ⟨fun pin rising sub s => ⟨fun passed => execTioEdge_passed s pin rising sub passed, fun taken => ?_⟩, fun pin v hw s => ⟨_, execTioModeWrite_eq s pin v hw, s.writeMode_effects pin.val v.toNat hw.toNat⟩,
    fun pin s => ⟨fun armed due => ?_, execTioPulseDue_rests s pin⟩⟩
  · let u := s.pinLevel pin.val rising
    obtain ⟨ns, sec, pos, valid, overflow⟩ := u.stampEdge_shows pin.val sub.val sub.isLt
    refine ⟨u.stampEdge pin.val sub.val, execTioEdge_taken s pin rising sub taken, ns, sec, pos, valid, overflow, ?_⟩
    exact State.eq_of_tenseFrame_both (u.stampEdge_keeps _ _ _ State.wr_tenseFrame) (u.stampEdge_keeps _ _ _ State.wr_time) (u.stampEdge_keeps _ _ _ State.wr_host)
  · refine ⟨_, execTioPulseDue_rises s pin armed due, Tab.look_put_same _ _ _, Tab.look_put_same _ _ _, Tab.look_put_same _ _ _, ?_, rfl, rfl⟩
    rw [State.onTime_time]
    simp

/-- Settles O29: the registers and messages, the commands and the time pins. What a forced unit answers is the model's reading (log entry 12). -/
theorem domainsSourcesAndTimePins : Obligations.DomainsSourcesAndTimePins := ⟨domainWritesAndPtpMessages, timeCommandsAct, timePinsCaptureAndPulse⟩

end Sys2Proof.Machine
end

section
/-! PROOFS. Points: value and quality by the order of R119, host writes at the mark, definition records and entries as bytes (R116, R119, R120, R122, R124, R125; O32, O33, O34). -/

namespace Sys2Proof.Machine

/-! The owner's quality (R119, R120). -/

section
variable (d : PointDef) (w : PointWork) (safe : Bool) (n : Nat)

theorem shadowQuality_absent (gone : w.absent = true) : shadowQuality d w safe n = .absent := by
  unfold shadowQuality
  exact if_pos gone

/-- MAX_AGE has passed exactly where it is set, the owner has written and more cycles lie between. -/
theorem aged_iff : aged d w n = true ↔ 0 < d.maxAge ∧ w.written = true ∧ d.maxAge < n - w.updateN := by
  simp [aged, and_assoc]

theorem shadowQuality_stale (present : w.absent = false)
    (old : w.torn = true ∨ w.dropped = true ∨ (safe = true ∧ d.output = false) ∨ aged d w n = true) : shadowQuality d w safe n = .stale := by
  unfold shadowQuality
  rw [if_neg (by simp [present]), if_pos]
  rcases old with torn | dropped | ⟨cell, input⟩ | age
  · simp [torn]
  · simp [dropped]
  · simp [cell, input]
  · simp [age]

/-- A present point that nothing makes STALE shows its import's quality, its range and whether it was written, in this order. -/
theorem shadowQuality_fresh (present : w.absent = false) (whole : w.torn = false) (fed : w.dropped = false) (atWork : safe = false ∨ d.output = true)
    (young : aged d w n = false) : shadowQuality d w safe n =
      if w.written && decide (w.inQ ≠ .good) then w.inQ
      else if w.written && outOfRange d w.own then .outOfRange
      else if !w.written then .notYet
      else .good := by
  have cell : (safe && !d.output) = false := by rcases atWork with h | h <;> simp [h]
  unfold shadowQuality
  rw [if_neg (by simp [present]), if_neg (by simp [cell, whole, fed, young])]

end

/-! The entry of a point: R119 outside REPLAY and lost cells. -/

section
variable {s : State} {idx : Nat} {d : PointDef} (n : Nat) (defined : s.pdef idx = some d) (noReplay : s.pairSt ≠ 4) (noLoss : s.flag Reg.AGE_STAT_FORERUNNER = false)
include defined noReplay noLoss

theorem State.evalPoint_shadow : (s.evalPoint idx n).shadow = (s.work idx).own ∧
    (s.evalPoint idx n).shadowQ = shadowQuality d (s.work idx) (s.cellSafe (s.governor idx d)) n := by
  simp [State.evalPoint, defined, State.mirrored, noReplay, noLoss]

theorem State.evalPoint_substituted (safe : s.cellSafe (s.governor idx d) = true) (output : d.output = true) :
    (s.evalPoint idx n).value = d.safe ∧ (s.evalPoint idx n).quality = .substituted := by
  simp [State.evalPoint, defined, State.mirrored, noReplay, noLoss, safe, output]

theorem State.evalPoint_forced (own : s.cellSafe (s.governor idx d) = false ∨ d.output = false) (v : Word) (force : (s.work idx).force = some v) :
    (s.evalPoint idx n).value = v ∧ (s.evalPoint idx n).quality = .forced := by
  rcases own with h | h <;> simp [State.evalPoint, defined, State.mirrored, noReplay, noLoss, h, force]

theorem State.evalPoint_owned (own : s.cellSafe (s.governor idx d) = false ∨ d.output = false) (free : (s.work idx).force = none) :
    (s.evalPoint idx n).value = (s.work idx).own ∧ (s.evalPoint idx n).quality = (s.evalPoint idx n).shadowQ := by
  rcases own with h | h <;> simp [State.evalPoint, defined, State.mirrored, noReplay, noLoss, h, free]

end

/-- Settles O32: the entry is built from the owner's pair, and the owner's quality is a chain of conditions. That an import's own quality stands between STALE and OUT_OF_RANGE is the model's reading (log entry 19). -/
theorem qualityFollowsTheOrderOfConditions : Obligations.QualityFollowsTheOrderOfConditions := by
  intro s idx n d defined noReplay noLoss
  obtain ⟨shadow, shadowQ⟩ := State.evalPoint_shadow n defined noReplay noLoss
  refine ⟨shadow, State.evalPoint_substituted n defined noReplay noLoss, State.evalPoint_forced n defined noReplay noLoss,
    State.evalPoint_owned n defined noReplay noLoss, fun gone => shadowQ.trans (shadowQuality_absent d _ _ n gone), fun present old => ?_,
    fun present whole fed atWork young => ?_⟩
  · rw [← aged_iff] at old
    exact shadowQ.trans (shadowQuality_stale d _ _ n present old)
  · have notAged : aged d (s.work idx) n = false := by
      rw [← Bool.not_eq_true, aged_iff]
      rintro ⟨limit, written, late⟩
      rcases young with unlimited | never | near
      · omega
      · simp [never] at written
      · omega
    have chain := shadowQ.trans (shadowQuality_fresh d _ _ n present whole fed atWork notAged)
    refine ⟨fun never => ?_, fun written sent => ?_, fun written good => ?_⟩
    · simpa [never] using chain
    · simpa [written, sent] using chain
    · simpa [written, good] using chain

/-! Host writes at the base mark (R124). -/

/-- The list without repeats is as long as its set is large. -/
theorem length_eraseDups_eq_card (l : List Nat) : l.eraseDups.length = l.toFinset.card := by
  induction h : l.length using Nat.strong_induction_on generalizing l with
  | _ k ih =>
    cases l with
    | nil => rfl
    | cons a t =>
      have shorter : (t.filter (fun b => !b == a)).length < k := by
        have := List.length_filter_le (fun b => !b == a) t
        simp only [List.length_cons] at h
        omega
      have rest : (t.filter (fun b => !b == a)).toFinset = t.toFinset.erase a := by ext b; simp [and_comm]
      rw [List.eraseDups_cons, List.length_cons, ih _ shorter _ rfl, rest, List.toFinset_cons, ← Finset.card_erase_add_one (Finset.mem_insert_self a _),
        Finset.erase_insert_eq_erase]

section
variable (s : State) (w : HostWrite) (t : List HostWrite)

/-- A write that a later one overtakes is counted. -/
theorem applyHostWritesLoop_overtaken (h : w.idx ∈ t.map (·.idx)) : applyHostWritesLoop (w :: t) s = applyHostWritesLoop t (s.count 0x211) := by
  rw [applyHostWritesLoop, if_pos (by simpa using h)]

/-- A write that none overtakes is the owner's write, at the mark. -/
theorem applyHostWritesLoop_stands (h : w.idx ∉ t.map (·.idx)) :
    applyHostWritesLoop (w :: t) s = applyHostWritesLoop t (s.ownerWrite w.idx w.value (markStamp s.time.n)) := by
  rw [applyHostWritesLoop, if_neg (by simpa using h)]

end

/-- What each step of the loop keeps, the loop keeps. -/
theorem applyHostWritesLoop_keep (p : State → Prop) (counted : ∀ s : State, p s → p (s.count 0x211))
    (written : ∀ (s : State) (w : HostWrite), p s → p (s.ownerWrite w.idx w.value (markStamp s.time.n))) (l : List HostWrite) (s : State) (h : p s) :
    p (applyHostWritesLoop l s) := by
  induction l generalizing s with
  | nil => exact h
  | cons w t ih =>
    by_cases c : w.idx ∈ t.map (·.idx)
    · rw [applyHostWritesLoop_overtaken s w t c]
      exact ih _ (counted s h)
    · rw [applyHostWritesLoop_stands s w t c]
      exact ih _ (written s w h)

/-- The loop leaves the latches and the sealed cut alone. -/
theorem applyHostWritesLoop_pts (l : List HostWrite) (s : State) :
    (applyHostWritesLoop l s).pts.hostWrites = s.pts.hostWrites ∧ (applyHostWritesLoop l s).pts.cut = s.pts.cut :=
  applyHostWritesLoop_keep (fun t => t.pts.hostWrites = s.pts.hostWrites ∧ t.pts.cut = s.pts.cut) (fun _ h => h) (fun _ _ h => h) l s ⟨rfl, rfl⟩

/-- A point that no write names is as before. -/
theorem applyHostWritesLoop_other (idx : Nat) (l : List HostWrite) (s : State) (h : ∀ x ∈ l, x.idx ≠ idx) :
    (applyHostWritesLoop l s).pts.work.look idx = s.pts.work.look idx := by
  induction l generalizing s with
  | nil => rfl
  | cons w t ih =>
    obtain ⟨first, rest⟩ := List.forall_mem_cons.mp h
    by_cases c : w.idx ∈ t.map (·.idx)
    · rw [applyHostWritesLoop_overtaken s w t c, ih _ rest, State.count_pts]
    · rw [applyHostWritesLoop_stands s w t c, ih _ rest]
      exact Tab.look_put_ne _ _ _ _ (Ne.symm first)

/-- A point holds the value of the last write to it, stamped with the mark. -/
theorem applyHostWritesLoop_last (l1 l2 : List HostWrite) (w : HostWrite) (s : State) (h : ∀ x ∈ l2, x.idx ≠ w.idx) :
    ((applyHostWritesLoop (l1 ++ w :: l2) s).pts.work.look w.idx).map (fun x => (x.own, x.written, x.ownTime)) = some (w.value, true, markStamp s.time.n) := by
  induction l1 generalizing s with
  | nil =>
    rw [List.nil_append, applyHostWritesLoop_stands s w l2 (by simpa using h), applyHostWritesLoop_other _ _ _ h]
    simp [State.ownerWrite, State.onWork]
  | cons x t ih =>
    by_cases c : x.idx ∈ (t ++ w :: l2).map (·.idx)
    · rw [List.cons_append, applyHostWritesLoop_overtaken s x _ c]
      exact ih _
    · rw [List.cons_append, applyHostWritesLoop_stands s x _ c]
      exact ih _

/-- Every write beyond the last to its point is counted, modulo 2^48. -/
theorem applyHostWritesLoop_counts (l : List HostWrite) (s : State) :
    (((applyHostWritesLoop l s).ctr.tab.at' 0x211 {}).value.toNat + (l.map (·.idx)).toFinset.card) % 2 ^ 48 = ((s.ctr.tab.at' 0x211 {}).value.toNat + l.length) % 2 ^ 48 := by
  induction l generalizing s with
  | nil => rfl
  | cons w t ih =>
    by_cases c : w.idx ∈ t.map (·.idx)
    · have rest := ih (s.count 0x211)
      rw [State.count_value, BitVec.toNat_ofNat] at rest
      rw [applyHostWritesLoop_overtaken s w t c, List.map_cons, List.toFinset_cons, Finset.insert_eq_of_mem (List.mem_toFinset.mpr c), rest, List.length_cons]
      omega
    · have rest := ih (s.ownerWrite w.idx w.value (markStamp s.time.n))
      have same : (s.ownerWrite w.idx w.value (markStamp s.time.n)).ctr = s.ctr := rfl
      rw [same] at rest
      rw [applyHostWritesLoop_stands s w t c, List.map_cons, List.toFinset_cons, Finset.card_insert_of_notMem (by rwa [List.mem_toFinset]), List.length_cons]
      omega

/-- The end of a write or force command changes the host interface and nothing else. -/
theorem State.pointDone_frame (s : State) (r : CmdRef) (st : Status) (detail n : Nat) :
    s.pointDone r st detail n = { s with host := (s.pointDone r st detail n).host } := by
  unfold State.pointDone
  dsimp only
  split
  · rfl
  · exact State.complete_frame s r st detail n []

/-- At the mark the points and the counters end as the writes in order leave them. -/
theorem State.applyHostWrites_keeps (s : State) :
    let u := applyHostWritesLoop s.pts.hostWrites (s.onPts (fun p => { p with hostWrites := [] }))
    s.applyHostWrites.pts = u.pts ∧ s.applyHostWrites.ctr = u.ctr := by
  intro u
  refine forL_keep (fun t => t.pts = u.pts ∧ t.ctr = u.ctr) (refsOnce (s.pts.hostWrites.map (·.ref)) []) (fun r t => t.pointDone r .ok 0 t.time.n) u ⟨rfl, rfl⟩ (fun r t _ h => ?_)
  rw [State.pointDone_frame]
  exact h

/-- Settles O33: the writes in order, by induction on the latched list; the commands that then complete touch neither points nor counters. -/
theorem lastHostWriteOfACycleStands : Obligations.LastHostWriteOfACycleStands := by
  intro s t
  obtain ⟨pts, ctr⟩ := s.applyHostWrites_keeps
  obtain ⟨latches, cut⟩ := applyHostWritesLoop_pts s.pts.hostWrites (s.onPts (fun p => { p with hostWrites := [] }))
  refine ⟨fun l1 l2 w split last => ?_, fun idx others => ?_, (congrArg Points.hostWrites pts).trans latches, (congrArg Points.cut pts).trans cut, ?_⟩
  · rw [pts, split]
    exact applyHostWritesLoop_last l1 l2 w _ last
  · rw [pts]
    exact applyHostWritesLoop_other idx _ _ others
  · rw [ctr, length_eraseDups_eq_card]
    exact applyHostWritesLoop_counts _ _

/-! Definition records and entries as bytes (R1, R116, R122). -/

section
variable (m x off n : Nat) (b : List Byte)

/-- A field at the front of a record reads as the number written there, its high bytes lost. -/
theorem fieldLE_front : fieldLE (leBytes n x ++ b) 0 n = x % 2 ^ (8 * n) := by
  have front := slice_append_left (leBytes n x) b
  rw [length_leBytes] at front
  rw [fieldLE, front, leNat_leBytes, Nat.pow_mul]

/-- A field behind the first is a field of the rest of the record. -/
theorem fieldLE_behind (h : m ≤ off) : fieldLE (leBytes m x ++ b) off n = fieldLE b (off - m) n := by
  have rest : (leBytes m x ++ b).drop off = b.drop (off - m) := by
    rw [List.drop_append, length_leBytes, List.drop_of_length_le (by rwa [length_leBytes]), List.nil_append]
  simp [fieldLE, slice, rest]

/-- A word at the front of a record is read as it was written. -/
theorem wordLE_front (v : Word) : wordLE (leBytes 4 v.toNat ++ b) 0 = v := by
  rw [wordLE, fieldLE_front, Nat.mod_eq_of_lt v.isLt, BitVec.ofNat_toNat, BitVec.setWidth_eq]

/-- A word behind the first field is a word of the rest of the record. -/
theorem wordLE_behind (h : m ≤ off) : wordLE (leBytes m x ++ b) off = wordLE b (off - m) := by
  rw [wordLE, fieldLE_behind m x off 4 b h, wordLE]

end

theorem length_defBytes (d : PointDef) : (defBytes d).length = 32 := by simp [defBytes]

theorem length_entryBytes (d : PointDef) (e : PointEntry) : (entryBytes d e).length = 32 := by simp [entryBytes]

/-- A definition whose fields fit their places is read back from its record (R122). -/
theorem pointDefOf_defBytes (d : PointDef) (slot : d.slot < 2 ^ 16) (format : d.format < 256) (flags : d.flags < 256) (owner : d.owner < 2 ^ 32)
    (maxAge : d.maxAge < 2 ^ 16) (recPolicy : d.recPolicy < 2 ^ 16) (enumCount : d.enumCount < 2 ^ 16) : pointDefOf (defBytes d) = d := by
  simp only [pointDefOf, defBytes, List.append_assoc, fieldLE_behind, fieldLE_front, wordLE_behind, wordLE_front, Nat.reduceLeDiff, Nat.reduceSub, Nat.reduceMul]
  rw [Nat.mod_eq_of_lt slot, Nat.mod_eq_of_lt (b := 2 ^ 8) format, Nat.mod_eq_of_lt (b := 2 ^ 8) flags, Nat.mod_eq_of_lt owner, Nat.mod_eq_of_lt maxAge, Nat.mod_eq_of_lt recPolicy,
    Nat.mod_eq_of_lt enumCount]

theorem qualCode_lt (q : Quality) : qualCode q < 256 := by cases q <;> decide

theorem wordLE_entryBytes (d : PointDef) (e : PointEntry) : wordLE (entryBytes d e) 0 = e.value := by
  simp only [entryBytes, List.append_assoc, wordLE_front]

theorem fieldLE_entryBytes (d : PointDef) (e : PointEntry) : fieldLE (entryBytes d e) 4 1 = qualCode e.quality := by
  simp only [entryBytes, List.append_assoc]
  rw [fieldLE_behind _ _ _ _ _ (le_refl 4), fieldLE_front]
  exact Nat.mod_eq_of_lt (qualCode_lt e.quality)

/-- Settles O34: each field stands behind the fields before it, so it is read as it was written. -/
theorem definitionRecordsRoundTrip : Obligations.DefinitionRecordsRoundTrip :=
  ⟨fun d slot format flags owner maxAge recPolicy enumCount => ⟨length_defBytes d, pointDefOf_defBytes d slot format flags owner maxAge recPolicy enumCount⟩,
    fun d e => ⟨length_entryBytes d e, wordLE_entryBytes d e, fieldLE_entryBytes d e⟩⟩

end Sys2Proof.Machine
end

section
/-! PROOFS. Point commands: their refusals in order, what is latched or read here, and FORCE_LIST (R113, R114, R116, R117, R122 to R125, R127, R129, R360, R568; O35). -/

namespace Sys2Proof.Machine

open Sys2Proof.Claims

/-! The first item that fails a test (R568). -/

section
variable {α : Type} {p q : α → Bool} {l : List α} (st : Status) (base : Nat)

theorem findIdx'_none (l : List α) (n : Nat) (h : ∀ x ∈ l, p x = false) : findIdx' p l n = none := by
  induction l generalizing n with
  | nil => rfl
  | cons a t ih =>
    obtain ⟨first, rest⟩ := List.forall_mem_cons.mp h
    rw [findIdx', first]
    exact ih (n + 1) rest

theorem findIdx'_congr (l : List α) (n : Nat) (h : ∀ x ∈ l, p x = q x) : findIdx' p l n = findIdx' q l n := by
  induction l generalizing n with
  | nil => rfl
  | cons a t ih =>
    obtain ⟨first, rest⟩ := List.forall_mem_cons.mp h
    rw [findIdx', findIdx', first, ih (n + 1) rest]

/-- A list whose items all pass the test gives no refusal. -/
theorem badAt_passes (h : ∀ x ∈ l, p x = true) : badAt p l st base = (false, st, 0) := by
  have noneFails : findIdx' (fun x => !p x) l 0 = none := findIdx'_none l 0 (fun x hx => by simp [h x hx])
  simp only [badAt, firstBad, noneFails]

/-- The place of the first item that fails the test is the refusal's DETAIL. -/
theorem badAt_fails {i : Nat} (h : firstBad p l = some i) : badAt p l st base = (true, st, base + i) := by
  simp only [badAt, h]

theorem firstBad_congr (h : ∀ x ∈ l, p x = q x) : firstBad p l = firstBad q l := by
  have same : findIdx' (fun x => !p x) l 0 = findIdx' (fun x => !q x) l 0 := findIdx'_congr l 0 (fun x hx => congrArg Bool.not (h x hx))
  simp only [firstBad, same]

end

/-! Items of this device (R113, R114). -/

theorem State.idDef_own {s : State} {id : Nat} (own : idDev id = s.ownDev) : s.idDef id = s.pdef (idLocal id) := if_pos own

section
variable {items : List (Nat × Word)} {dev : Nat} (own : ∀ e ∈ items, idDev e.1 = dev)
include own

/-- Items of one device name at most that device. -/
theorem length_itemDevs_le_one : (itemDevs items).length ≤ 1 := by
  rw [itemDevs, length_eraseDups_eq_card]
  refine Finset.card_le_one.mpr (fun a ha b hb => ?_)
  have same : ∀ x ∈ (items.map (fun e => idDev e.1)).toFinset, x = dev := by simpa using fun x id v he hx => hx ▸ own (id, v) he
  rw [same a ha, same b hb]

theorem otherDevs_eq_nil : (itemDevs items).filter (fun d => decide (d ≠ dev)) = [] := by
  refine List.filter_eq_nil_iff.mpr (fun d hd => ?_)
  obtain ⟨e, he, rfl⟩ := List.mem_map.mp (List.mem_eraseDups.mp hd)
  simp [own e he]

end

/-! The refusals of the points of this device (R114, R117, R123, R125). -/

section
variable (s : State) (op : Nat) {items : List (Nat × Word)}

/-- Items in order, valid where the command carries values, and defined pass the checks before the gates. -/
theorem State.pointPre_passes (form : ∀ e ∈ items, bitsOf e.1 31 25 = 0) (valid : op = 0x0202 ∨ op = 0x0203 ∨ op = 0x0B04 → ∀ e ∈ items, s.itemOk e = true)
    (defined : ∀ e ∈ items, (s.idDef e.1).isSome = true) : judge (s.pointPre op items) = none := by
  refine (judge_none _).mpr (List.forall_mem_cons.mpr ⟨?_, List.forall_mem_cons.mpr ⟨?_, List.forall_mem_singleton.mpr ?_⟩⟩)
  · rw [badAt_passes _ _ (fun e he => decide_eq_true (form e he))]
  · split
    · rename_i values
      rw [badAt_passes _ _ (valid values)]
    · rfl
  · rw [badAt_passes _ _ defined]

theorem State.pointPre_malformed {i : Nat} (noConst : op ≠ 0x0B04) (bad : firstBad (fun (e : Nat × Word) => decide (bitsOf e.1 31 25 = 0)) items = some i) :
    judge (s.pointPre op items) = some (.invalid, i) := by
  simp [State.pointPre, badAt_fails _ _ bad, judge, noConst]

theorem State.pointPre_undefined {i : Nat} (form : ∀ e ∈ items, bitsOf e.1 31 25 = 0) (valid : ∀ e ∈ items, s.itemOk e = true)
    (bad : firstBad (fun (e : Nat × Word) => (s.idDef e.1).isSome) items = some i) : judge (s.pointPre op items) = some (.absent, i) := by
  have formed : ∀ e ∈ items, decide (bitsOf e.1 31 25 = 0) = true := fun e he => decide_eq_true (form e he)
  simp only [State.pointPre, badAt_passes _ _ formed, badAt_passes _ _ valid, badAt_fails _ _ bad, Nat.zero_add]
  split <;> rfl

end

section
variable {s : State} {items : List (Nat × Word)} {f : PointDef → Bool}

theorem allDefs_pass (h : ∀ e ∈ items, ∃ d, s.idDef e.1 = some d ∧ f d = true) : items.all (fun e => (s.idDef e.1).all f) = true := by
  refine List.all_eq_true.mpr (fun e he => ?_)
  obtain ⟨d, found, passes⟩ := h e he
  rw [found, Option.all_some, passes]

theorem allDefs_fail (h : ∃ e ∈ items, ∃ d, s.idDef e.1 = some d ∧ f d = false) : items.all (fun e => (s.idDef e.1).all f) = false := by
  obtain ⟨e, he, d, found, fails⟩ := h
  exact List.all_eq_false.mpr ⟨e, he, by simp [found, fails]⟩

/-- After the gates a write meets the refusal of a point that is not host-owned (R123). -/
theorem State.pointSuf_write : s.pointSuf 0x0202 items = [(!items.all (fun e => (s.idDef e.1).all PointDef.hostOwned), .denied, 7)] := by
  unfold State.pointSuf
  rw [if_pos (.inl rfl)]
  refine congrArg (fun test => [(!items.all test, Status.denied, 7)]) (funext (fun e => ?_))
  cases s.idDef e.1 <;> rfl

/-- After the gates a force meets the refusals of a point that is not forcible and of the limit (R125). -/
theorem State.pointSuf_force : s.pointSuf 0x0203 items =
    [(!items.all (fun e => (s.idDef e.1).all (fun d => d.forcible && decide (d.ownerKind ≠ 6))), .denied, 6),
     (!forceFits (items.map (fun e => idLocal e.1)) (forcedAfter s.pts.forceReqs s.forcedPoints), .overflow, 0)] := by
  unfold State.pointSuf
  rw [if_neg (by decide), if_pos rfl]
  refine congrArg (fun test => [(!items.all test, Status.denied, 6), (_, Status.overflow, 0)]) (funext (fun e => ?_))
  cases s.idDef e.1 <;> rfl

end

/-! A point command whose points are all of this device. -/

section
variable (s : State) (ref : CmdRef) (op : Nat) {items : List (Nat × Word)}

/-- A command with a refusal before the gates answers with it. -/
theorem State.pointLocal_refused_pre {r : Status × Nat} (h : judge (s.pointPre op items) = some r) :
    s.pointLocal ref op items = (s.pointRefused op r).complete (opRef ref op) r.1 r.2 := by
  simp only [State.pointLocal, judge_append, h, opRef]

/-- A command that passes the gates answers with its first refusal after them. -/
theorem State.pointLocal_refused_suf {r : Status × Nat} (pre : judge (s.pointPre op items) = none) (gate : Gated s op) (h : judge (s.pointSuf op items) = some r) :
    s.pointLocal ref op items = (s.pointRefused op r).complete (opRef ref op) r.1 r.2 := by
  have gate : judge (s.gate op) = none := gate
  simp only [State.pointLocal, judge_append, pre, gate, h, opRef]

theorem State.pointLocal_takes (pre : judge (s.pointPre op items) = none) (gate : Gated s op) (suf : judge (s.pointSuf op items) = none) :
    s.pointLocal ref op items = s.pointTake (opRef ref op) op items := by
  have gate : judge (s.gate op) = none := gate
  simp only [State.pointLocal, judge_append, pre, gate, suf, opRef]

end

section
variable (s : State) (ref : CmdRef) (op : Nat) (args : List Nat)

/-- A count outside 1 to 64 is refused before anything else (R113, R464). -/
theorem State.pointCommand_badCount (h : argN args 0 = 0 ∨ 64 < argN args 0) : s.pointCommand ref op args = s.complete (opRef ref op) .invalid := by
  have bad : argN args 0 < 1 ∨ 64 < argN args 0 ∨ args.length < itemWords op (argN args 0) 0 := by omega
  simp only [State.pointCommand, bad, decide_true, judge, opRef]

/-- A well-formed command with room for what it returns, whose points are all of this device, is judged here. -/
theorem State.pointCommand_local (least : 1 ≤ argN args 0) (most : argN args 0 ≤ 64) (words : itemWords op (argN args 0) 0 ≤ args.length)
    (room : op = 0x0201 ∨ op = 0x0206 → 32 * argN args 0 ≤ ref.bufLen) (own : ∀ e ∈ pointItems op args 0, idDev e.1 = s.ownDev) :
    s.pointCommand ref op args = s.pointLocal ref op (pointItems op args 0) := by
  have counted : ¬ (argN args 0 < 1 ∨ 64 < argN args 0 ∨ args.length < itemWords op (argN args 0) 0) := by omega
  have one : ¬ 1 < (itemDevs (pointItems op args 0)).length := Nat.not_lt.mpr (length_itemDevs_le_one own)
  have fits : pointRoom { ref with op := op } op (argN args 0) (itemDevs (pointItems op args 0)).length = (false, .invalid, 0) := by
    rw [pointRoom, noRoom, if_neg one]
    split
    · rename_i read
      simp [room read]
    · simp
  simp only [State.pointCommand, counted, fits, otherDevs_eq_nil own, decide_false, judge, List.isEmpty_nil, or_true, if_true]
  rfl

end

section
variable {s : State} {ref : CmdRef} {op : Nat} {args : List Nat} {ok : PointDef → Word → Prop} (points : LocalPoints s op args ok)
include points

theorem localPoints_own : ∀ e ∈ pointItems op args 0, idDev e.1 = s.ownDev := by
  obtain ⟨-, -, -, each⟩ := points
  intro e he
  obtain ⟨-, own, -⟩ := each e he
  exact own

/-- Every point of such a command has a definition here that satisfies the test with its value. -/
theorem localPoints_defs : ∀ e ∈ pointItems op args 0, ∃ d, s.idDef e.1 = some d ∧ ok d e.2 := by
  obtain ⟨-, -, -, each⟩ := points
  intro e he
  obtain ⟨-, own, defined⟩ := each e he
  rwa [State.idDef_own own]

theorem localPoints_idDef {p : PointDef → Prop} (h : ∃ e ∈ pointItems op args 0, ∃ d, s.pdef (idLocal e.1) = some d ∧ p d) :
    ∃ e ∈ pointItems op args 0, ∃ d, s.idDef e.1 = some d ∧ p d := by
  obtain ⟨e, he, d, found, hd⟩ := h
  exact ⟨e, he, d, (State.idDef_own (localPoints_own points e he)).trans found, hd⟩

theorem localPoints_pre (valid : op = 0x0202 ∨ op = 0x0203 ∨ op = 0x0B04 → ∀ d v, ok d v → valInvalid d v = false) :
    judge (s.pointPre op (pointItems op args 0)) = none := by
  have defs := localPoints_defs points
  obtain ⟨-, -, -, each⟩ := points
  refine s.pointPre_passes op (fun e he => (each e he).1) (fun values e he => ?_) (fun e he => ?_)
  · obtain ⟨d, found, h⟩ := defs e he
    simp [State.itemOk, found, valid values d e.2 h]
  · obtain ⟨d, found, -⟩ := defs e he
    exact Option.isSome_of_eq_some found

theorem localPoints_command (room : op = 0x0201 ∨ op = 0x0206 → 32 * argN args 0 ≤ ref.bufLen) :
    s.pointCommand ref op args = s.pointLocal ref op (pointItems op args 0) := by
  have own := localPoints_own points
  obtain ⟨least, most, words, -⟩ := points
  exact s.pointCommand_local ref op args least most words room own

/-- A command on defined points of this device that no row of R568 refuses takes effect. -/
theorem localPoints_takes (gate : Gated s op) (room : op = 0x0201 ∨ op = 0x0206 → 32 * argN args 0 ≤ ref.bufLen)
    (valid : op = 0x0202 ∨ op = 0x0203 ∨ op = 0x0B04 → ∀ d v, ok d v → valInvalid d v = false) (suf : judge (s.pointSuf op (pointItems op args 0)) = none) :
    s.pointCommand ref op args = s.pointTake (opRef ref op) op (pointItems op args 0) :=
  (localPoints_command points room).trans (s.pointLocal_takes ref op (localPoints_pre points valid) gate suf)

/-- A write or force on defined points of this device with valid values answers its first refusal after the gates. -/
theorem localPoints_refused (gate : Gated s op) (write : op = 0x0202 ∨ op = 0x0203) (valid : ∀ d v, ok d v → valInvalid d v = false) {r : Status × Nat}
    (suf : judge (s.pointSuf op (pointItems op args 0)) = some r) : s.pointCommand ref op args = (s.pointRefused op r).complete (opRef ref op) r.1 r.2 :=
  (localPoints_command points (by omega)).trans (s.pointLocal_refused_suf ref op (localPoints_pre points (fun _ => valid)) gate suf)

theorem localPoints_forcible (able : ∀ d v, ok d v → d.forcible = true ∧ d.ownerKind ≠ 6) :
    (pointItems op args 0).all (fun e => (s.idDef e.1).all (fun d => d.forcible && decide (d.ownerKind ≠ 6))) = true := by
  refine allDefs_pass (fun e he => ?_)
  obtain ⟨d, found, h⟩ := localPoints_defs points e he
  obtain ⟨forcible, noMirror⟩ := able d e.2 h
  exact ⟨d, found, by simp [forcible, noMirror]⟩

end

/-! What a command that takes effect reads or latches (R116, R122, R124, R125, R127). -/

/-- The latches with what a command's items add behind them. -/
def latchItems (ref : CmdRef) (op : Nat) (items : List (Nat × Word)) (p : Points) : Points :=
  { p with hostWrites := p.hostWrites ++ (if op = 0x0202 then latchWrites ref items else [])
           forceReqs := p.forceReqs ++ (if op = 0x0203 ∨ op = 0x0204 then latchForces ref items (decide (op = 0x0203)) else []) }

section
variable (s : State) (ref : CmdRef) (items : List (Nat × Word))

theorem State.pointTake_read : s.pointTake ref 0x0201 items = s.complete ref .ok 0 s.pts.cutN (Claims.pointBytes s items (fun i d => entryBytes (s.defNow d) (s.cutAt i))) := by
  simp only [State.pointTake, Claims.pointBytes, List.map_map]
  rfl

theorem State.pointTake_define : s.pointTake ref 0x0206 items = s.complete ref .ok 0 s.pts.cutN (Claims.pointBytes s items (fun _ d => defBytes (s.defNow d))) := by
  simp only [State.pointTake, Claims.pointBytes, List.map_map]
  rfl

/-- A write, force or unforce is latched behind those already latched. -/
theorem State.pointTake_latches {op : Nat} (h : op = 0x0202 ∨ op = 0x0203 ∨ op = 0x0204) : s.pointTake ref op items = s.onPts (latchItems ref op items) := by
  rcases h with rfl | rfl | rfl <;> simp [State.pointTake, State.onPts, latchItems, latchWrites, latchForces, Function.comp_def]

/-- A read latches nothing, and no item latches nothing. -/
theorem State.onPts_latchNothing {op : Nat} (h : op = 0x0201 ∨ op = 0x0206 ∨ items = []) : s.onPts (latchItems ref op items) = s := by
  rcases h with rfl | rfl | rfl <;> simp [State.onPts, latchItems, latchWrites, latchForces]

end

/-! FORCE_LIST (R127). -/

/-- Identifier and forced value of every point forced at the last sealed cut. -/
def State.forcedBytes (s : State) : List Byte :=
  (s.cut.work.map (fun e => match e.2.force with | some v => leBytes 4 (s.ownDev * 131072 + e.1) ++ leBytes 4 v.toNat | none => [])).flatten

theorem length_flatten_map_eight {α : Type} (f : α → List Byte) (p : α → Bool) (l : List α) (h : ∀ e ∈ l, (f e).length = if p e then 8 else 0) :
    ((l.map f).flatten).length = 8 * (l.filter p).length := by
  induction l with
  | nil => rfl
  | cons a t ih =>
    obtain ⟨first, rest⟩ := List.forall_mem_cons.mp h
    rw [List.map_cons, List.flatten_cons, List.length_append, first, ih rest, List.filter_cons]
    split
    · rw [List.length_cons]
      omega
    · omega

theorem State.length_forcedBytes (s : State) : s.forcedBytes.length = 8 * (s.cut.work.filter (fun e => e.2.force.isSome)).length := by
  refine length_flatten_map_eight _ _ _ (fun e _ => ?_)
  cases e.2.force <;> simp

section
variable (ref : CmdRef) (args : List Nat) (s : State) (adm : Admitted s 0x0205) (given : 1 ≤ args.length) (form : argN args 0 < 256)
include adm given form

/-- A FORCE_LIST that names a device it can reach is judged there, or here where that is this device. -/
theorem execForceList_judged (reach : s.img.run.isSome = true ∨ argN args 0 = s.ownDev) : execForceList ref args s =
    .next (s.here (argN args 0) true (opRef ref 0x0205) 0x0205 args (fun s =>
      if ref.bufLen < s.forcedBytes.length then s.complete (opRef ref 0x0205) .invalid else s.complete (opRef ref 0x0205) .ok 0 s.pts.cutN s.forcedBytes)) := by
  refine congrArg Host.Outcome.next (s.command_ok _ _ _ _ _ adm ((judge_none _).mpr ?_) rfl)
  refine List.forall_mem_cons.mpr ⟨decide_eq_false (by omega), List.forall_mem_singleton.mpr ?_⟩
  rcases reach with run | own
  · simp [Option.isNone_eq_false_iff.mpr run]
  · simp [own]

/-- A FORCE_LIST of this device returns identifier and value of each point forced at the last sealed cut. -/
theorem execForceList_own (own : argN args 0 = s.ownDev) (room : 8 * (s.cut.work.filter (fun e => e.2.force.isSome)).length ≤ ref.bufLen) :
    execForceList ref args s = .next (s.complete (opRef ref 0x0205) .ok 0 s.pts.cutN s.forcedBytes) := by
  have here : ¬ (true = true ∧ s.img.run.isSome = true ∧ argN args 0 ≠ s.ownDev) := fun h => h.2.2 own
  rw [execForceList_judged ref args s adm given form (.inr own), State.here, if_neg here]
  exact congrArg Host.Outcome.next (if_neg (Nat.not_lt.mpr (s.length_forcedBytes ▸ room)))

/-- A FORCE_LIST of another device is sent on where that device is joined, and ABSENT where not (R129, R360). -/
theorem execForceList_other (run : s.img.run.isSome = true) (other : argN args 0 ≠ s.ownDev) :
    execForceList ref args s = .next (s.relay (argN args 0) (opRef ref 0x0205) 0x0205 args) :=
  (execForceList_judged ref args s adm given form (.inl run)).trans (congrArg Host.Outcome.next (if_pos ⟨rfl, run, other⟩))

end

/-- The part of O35 about commands that take effect. -/
theorem pointCommandsTakeEffect : Claims.PointCommandsTakeEffect := by
  refine ⟨fun ref args s points gate room => ?_, fun ref args s points gate room => ?_, fun ref args s points gate => ?_, fun ref args s points gate fits => ?_,
    fun ref args s points gate => ?_, fun ref args s adm given own form room => ?_, fun ref args s adm given run other form => ?_⟩
  · exact congrArg Host.Outcome.next ((localPoints_takes points gate (fun _ => room) (by omega) rfl).trans (s.pointTake_read _ _))
  · exact congrArg Host.Outcome.next ((localPoints_takes points gate (fun _ => room) (by omega) rfl).trans (s.pointTake_define _ _))
  · have owned : judge (s.pointSuf 0x0202 (pointItems 0x0202 args 0)) = none := by
      rw [State.pointSuf_write, allDefs_pass (fun e he => (localPoints_defs points e he).imp (fun d h => ⟨h.1, h.2.2⟩))]
      rfl
    refine congrArg Host.Outcome.next ((localPoints_takes points gate (by omega) (fun _ d v h => h.1) owned).trans ?_)
    rfl
  · have able : judge (s.pointSuf 0x0203 (pointItems 0x0203 args 0)) = none := by
      rw [State.pointSuf_force, localPoints_forcible points (fun d v h => h.2), fits]
      rfl
    refine congrArg Host.Outcome.next ((localPoints_takes points gate (by omega) (fun _ d v h => h.1) able).trans ?_)
    rfl
  · refine congrArg Host.Outcome.next ((localPoints_takes points gate (by omega) (by omega) rfl).trans ((s.pointTake_latches _ _ (.inr (.inr rfl))).trans ?_))
    simp [State.onPts, latchItems]
  · exact execForceList_own ref args s adm given form own room
  · exact execForceList_other ref args s adm given form run other

/-! The refusals of commands on points of this device (R113, R117, R123, R125, R568). -/

/-- A refusal by form or by an undefined point counts nothing. -/
theorem State.pointRefused_plain (s : State) (op : Nat) (r : Status × Nat) (h : r.1 = .invalid ∨ r.1 = .absent) : s.pointRefused op r = s := by
  obtain ⟨st, d⟩ := r
  rcases h with rfl | rfl <;> simp [State.pointRefused]

/-- The five commands over a list of points are one function of the opcode. -/
theorem exec_pointCommand {ref : CmdRef} {args : List Nat} {c : Instr} {op : Nat} (s : State)
    (h : (c, op) ∈ [(Instr.pointRead ref args, 0x0201), (.pointWrite ref args, 0x0202), (.pointForce ref args, 0x0203), (.pointUnforce ref args, 0x0204), (.defineRead ref args, 0x0206)]) :
    exec c s = .next (s.pointCommand ref op args) ∧ (op = 0x0201 ∨ op = 0x0206 ∨ op = 0x0202 ∨ op = 0x0203 ∨ op = 0x0204) := by
  simp only [List.mem_cons, List.not_mem_nil, or_false, Prod.mk.injEq] at h
  rcases h with ⟨rfl, rfl⟩ | ⟨rfl, rfl⟩ | ⟨rfl, rfl⟩ | ⟨rfl, rfl⟩ | ⟨rfl, rfl⟩ <;> exact ⟨rfl, by decide⟩

/-- The part of O35 about refusals. -/
theorem pointCommandsAreRefused : Claims.PointCommandsAreRefused := by
  refine ⟨fun ref args s c op which => ?_, fun ref args s points gate notOwned => ?_, fun ref args s points gate unable => ?_, fun ref args s points gate full => ?_⟩
  · obtain ⟨run, ops⟩ := exec_pointCommand s which
    rw [run]
    refine ⟨fun count => congrArg Host.Outcome.next (s.pointCommand_badCount ref op args count), fun i least most words room own => ?_⟩
    rw [s.pointCommand_local ref op args least most words (by omega) own]
    refine ⟨fun bad => congrArg Host.Outcome.next ?_, fun each bad => congrArg Host.Outcome.next ?_⟩
    · rw [s.pointLocal_refused_pre ref op (s.pointPre_malformed op (by omega) bad), s.pointRefused_plain op _ (.inl rfl)]
    · have defs : firstBad (fun (e : Nat × Word) => (s.idDef e.1).isSome) (pointItems op args 0) = some i :=
        (firstBad_congr (fun e he => by rw [State.idDef_own (own e he)])).trans bad
      have valid : ∀ e ∈ pointItems op args 0, s.itemOk e = true := fun e he => by
        rw [State.itemOk, State.idDef_own (own e he)]
        cases found : s.pdef (idLocal e.1) with
        | none => rfl
        | some d => simp [(each e he).2 d found]
      rw [s.pointLocal_refused_pre ref op (s.pointPre_undefined op (fun e he => (each e he).1) valid defs), s.pointRefused_plain op _ (.inr rfl)]
  · have refused : judge (s.pointSuf 0x0202 (pointItems 0x0202 args 0)) = some (.denied, 7) := by
      rw [State.pointSuf_write, allDefs_fail (localPoints_idDef points notOwned)]
      rfl
    exact congrArg Host.Outcome.next (localPoints_refused points gate (.inl rfl) (fun _ _ h => h) refused)
  · have refused : judge (s.pointSuf 0x0203 (pointItems 0x0203 args 0)) = some (.denied, 6) := by
      rw [State.pointSuf_force, allDefs_fail]
      · rfl
      · obtain ⟨e, he, d, found, h⟩ := localPoints_idDef points unable
        exact ⟨e, he, d, found, by rcases h with h | h <;> simp [h]⟩
    exact congrArg Host.Outcome.next (localPoints_refused points gate (.inr rfl) (fun _ _ h => h) refused)
  · have refused : judge (s.pointSuf 0x0203 (pointItems 0x0203 args 0)) = some (.overflow, 0) := by
      rw [State.pointSuf_force, localPoints_forcible points (fun _ _ h => h.2), full]
      rfl
    exact congrArg Host.Outcome.next (localPoints_refused points gate (.inr rfl) (fun _ _ h => h.1) refused)

end Sys2Proof.Machine
end

section
/-! PROOFS. Point commands over several devices: the other devices are asked, and this device's part is latched at once (R113, R127, R129, R360; O35). -/

namespace Sys2Proof.Machine

open Sys2Proof.Claims

/-! Frames to other devices. -/

/-- The state without what frames to other devices may change: links and counters. -/
def State.linkFrame (s : State) : State := { s with link := {}, ctr := {} }

theorem State.eq_of_linkFrame {s t : State} (h : t.linkFrame = s.linkFrame) : t = { s with link := t.link, ctr := t.ctr } :=
  calc t = { t.linkFrame with link := t.link, ctr := t.ctr } := rfl
    _ = { s.linkFrame with link := t.link, ctr := t.ctr } := by rw [h]
    _ = { s with link := t.link, ctr := t.ctr } := rfl

section
variable (s : State)

theorem State.linkSend_linkFrame (p : Nat) (f : LinkFrame) : (s.linkSend p f).linkFrame = s.linkFrame := by
  unfold State.linkSend
  split <;> rfl

theorem State.sendTo_linkFrame (dst typ tag : Nat) (payload : List Byte) : (s.sendTo dst typ tag payload).linkFrame = s.linkFrame := by
  unfold State.sendTo
  split
  · unfold State.routeOut
    dsimp only
    split
    · exact s.linkSend_linkFrame _ _
    · rfl
  · rfl

/-! The parts of a command (R127, R360). -/

/-- The devices other than this one that the items name. -/
def State.otherDevs (s : State) (items : List (Nat × Word)) : List Nat := (itemDevs items).filter (fun d => decide (d ≠ s.ownDev))

/-- The state after each other device was asked for its part of a command. -/
def State.askOthers (s : State) (handle op : Nat) (items : List (Nat × Word)) : State :=
  forL (s.otherDevs items) (fun d s => s.sendPointReq d handle op ((itemsOf items d).map (·.2))) s

theorem State.askOthers_linkFrame (handle op : Nat) (items : List (Nat × Word)) : (s.askOthers handle op items).linkFrame = s.linkFrame :=
  forL_keep (fun t => t.linkFrame = s.linkFrame) _ _ s rfl (fun _ t _ h => (t.sendTo_linkFrame _ _ _ _).trans h)

theorem State.askOthers_ownDev (handle op : Nat) (items : List (Nat × Word)) : (s.askOthers handle op items).ownDev = s.ownDev := by
  rw [State.eq_of_linkFrame (s.askOthers_linkFrame handle op items)]
  rfl

/-- The state in which the other devices are asked and a command waits for their parts and, where this device's part waits for a mark, for its own. -/
def State.asked (s : State) (ref : CmdRef) (op : Nat) (items : List (Nat × Word)) (own : List Nat) : State :=
  let sent := s.askOthers ref.handle op items
  { sent with host := { sent.host with jobs := sent.host.jobs ++ [{ ref := ref, op := op, items := items, sentAt := sent.runNs, waiting := s.otherDevs items ++ own, answers := [] }] } }

section
variable (ref : CmdRef) (op : Nat) (items : List (Nat × Word)) (own : List Nat)

/-- Asking changes the jobs, the links and the counters, and nothing else. -/
theorem State.asked_frame : s.asked ref op items own = { s with
    pts := (s.asked ref op items own).pts, host := (s.asked ref op items own).host, link := (s.asked ref op items own).link, ctr := (s.asked ref op items own).ctr } := by
  unfold State.asked
  rw [State.eq_of_linkFrame (s.askOthers_linkFrame ref.handle op items)]

theorem State.asked_pts : (s.asked ref op items own).pts = s.pts := by
  unfold State.asked
  rw [State.eq_of_linkFrame (s.askOthers_linkFrame ref.handle op items)]

theorem State.asked_host : (s.asked ref op items own).host = { s.host with
    jobs := s.host.jobs ++ [{ ref := ref, op := op, items := items, sentAt := s.runNs, waiting := s.otherDevs items ++ own, answers := [] }] } := by
  unfold State.asked
  rw [State.eq_of_linkFrame (s.askOthers_linkFrame ref.handle op items)]
  rfl

end

end

section
variable {s : State} {ref : CmdRef} {op : Nat} {args : List Nat} (spread : OverDevices s ref op args)
include spread

theorem overDevices_others : (s.otherDevs (pointItems op args 0)).isEmpty = false := by
  obtain ⟨-, -, -, -, -, -, e, he, other⟩ := spread
  exact List.isEmpty_eq_false_iff.mpr (List.ne_nil_of_mem (a := idDev e.1)
    (List.mem_filter.mpr ⟨List.mem_eraseDups.mpr (List.mem_map.mpr ⟨e, he, rfl⟩), decide_eq_true other⟩))

/-- The form of the items, the devices that are joined, and the points of this device refuse nothing. -/
theorem overDevices_checks (stands : OwnPartStands s op args) : let items := pointItems op args 0
    let mine := ownItems s items
    judge ([badAt (fun e => decide (bitsOf e.1 31 25 = 0)) items .invalid, badAt (fun e => decide (idDev e.1 = s.ownDev) || s.joined (idDev e.1)) items .absent] ++
      (if mine.isEmpty then [] else s.pointPre op mine ++ s.gate op ++ s.pointSuf op mine)) = none := by
  obtain ⟨-, -, -, -, -, each, -⟩ := spread
  dsimp only
  rw [badAt_passes _ _ (fun e he => decide_eq_true (each e he).1), badAt_passes _ _ (fun e he => by simpa using (each e he).2)]
  rcases stands with noPart | passes
  · simp [noPart, judge]
  · split
    · rfl
    · exact passes

/-- A command over several devices that nothing refuses asks the others, and takes its own part at once unless it reads or has none here. -/
theorem pointCommand_over (stands : OwnPartStands s op args) : let items := pointItems op args 0
    let mine := ownItems s items
    let own := if decide (op = 0x0201 ∨ op = 0x0206) || mine.isEmpty then [] else [s.ownDev]
    s.pointCommand ref op args = if own.isEmpty then s.asked (opRef ref op) op items own else (s.asked (opRef ref op) op items own).pointTake (opRef ref op) op mine := by
  have others := overDevices_others spread
  have checks := overDevices_checks spread stands
  have dev := s.askOthers_ownDev ref.handle op (pointItems op args 0)
  obtain ⟨run, least, most, words, room, -⟩ := spread
  have pre : judge [(decide (argN args 0 < 1 ∨ 64 < argN args 0 ∨ args.length < itemWords op (argN args 0) 0), Status.invalid, 0),
      pointRoom (opRef ref op) op (argN args 0) (itemDevs (pointItems op args 0)).length] = none :=
    (judge_none _).mpr (List.forall_mem_cons.mpr ⟨decide_eq_false (by omega), List.forall_mem_singleton.mpr room⟩)
  have notHere : ¬ (s.img.run.isNone = true ∨ (s.otherDevs (pointItems op args 0)).isEmpty = true) := by
    rw [others, Option.isNone_eq_false_iff.mpr run]
    decide
  unfold State.askOthers State.otherDevs at dev
  unfold State.otherDevs at notHere
  unfold ownItems at checks
  unfold opRef at pre
  simp only [State.pointCommand, pre, if_neg notHere, checks, dev]
  rfl

/-- A read, or a command without points of this device, only asks. -/
theorem pointCommand_asks (stands : OwnPartStands s op args) (alone : op = 0x0201 ∨ op = 0x0206 ∨ ownItems s (pointItems op args 0) = []) :
    s.pointCommand ref op args = s.asked (opRef ref op) op (pointItems op args 0) [] := by
  have rests : (decide (op = 0x0201 ∨ op = 0x0206) || (ownItems s (pointItems op args 0)).isEmpty) = true := by simpa [or_assoc] using alone
  rw [pointCommand_over spread stands, if_pos rests]
  rfl

/-- A write, force or unforce with points of this device asks, and its own part is taken at once. -/
theorem pointCommand_asks_takes (stands : OwnPartStands s op args) (takes : ¬ (op = 0x0201 ∨ op = 0x0206 ∨ ownItems s (pointItems op args 0) = [])) :
    s.pointCommand ref op args = (s.asked (opRef ref op) op (pointItems op args 0) [s.ownDev]).pointTake (opRef ref op) op (ownItems s (pointItems op args 0)) := by
  have acts : ¬ (decide (op = 0x0201 ∨ op = 0x0206) || (ownItems s (pointItems op args 0)).isEmpty) = true := by simpa [or_assoc] using takes
  rw [pointCommand_over spread stands, if_neg acts]
  rfl

end

/-- The part of O35 about commands over several devices. -/
theorem pointCommandsOverDevices : Claims.PointCommandsOverDevices := by
  intro ref args s c op which spread stands items mine others own
  obtain ⟨run, ops⟩ := exec_pointCommand s which
  have result : s.pointCommand ref op args = (s.asked (opRef ref op) op items own).onPts (latchItems (opRef ref op) op mine) := by
    by_cases alone : op = 0x0201 ∨ op = 0x0206 ∨ mine = []
    · have noPart : own = [] := if_pos alone
      rw [pointCommand_asks spread stands alone, noPart, State.onPts_latchNothing _ _ _ alone]
    · have part : own = [s.ownDev] := if_neg alone
      rw [pointCommand_asks_takes spread stands alone, part, State.pointTake_latches _ _ _ (by omega)]
  refine ⟨_, run.trans (congrArg Host.Outcome.next result), s.asked_host _ _ _ _, congrArg (latchItems (opRef ref op) op mine) (s.asked_pts _ _ _ _),
    congrArg (fun u => u.onPts (latchItems (opRef ref op) op mine)) (s.asked_frame _ _ _ _)⟩

/-- Settles O35: what takes effect, what is refused, and the parts on other devices. DETAIL of a point that is not forcible, the places of malformed and undefined items, and the bytes of the lists are the model's reading (log entries 42, 59 and 2). -/
theorem pointCommandsLatchAndRead : Obligations.PointCommandsLatchAndRead := ⟨pointCommandsTakeEffect, pointCommandsAreRefused, pointCommandsOverDevices⟩

end Sys2Proof.Machine
end

section
/-! PROOFS. One execution of a trace: the row, the trigger and the freeze, and the rows it keeps (R155; O40). -/

namespace Sys2Proof.Machine

open Sys2Proof.Claims

section
variable (d : LoopDef) (n : Nat) (st : LoopState) (trig : Bool)

theorem traceStep_closed (closed : st.trace.st = .idle ∨ st.trace.st = .frozen) :
    let t := traceStep d n st trig
    t.st = st.trace.st ∧ t.rows = st.trace.rows ∧ t.trigRow = st.trace.trigRow ∧ t.postN = st.trace.postN := by
  rcases closed with h | h <;> simp [traceStep, h]

/-- An armed trace takes its trigger row, or keeps the newest rows before one. -/
theorem traceStep_armed (armed : st.trace.st = .armed) :
    let t := traceStep d n st trig
    let rows := st.trace.rows ++ [(n, maskedNodes d.traceMask st.nodes)]
    t.postN = st.trace.postN ∧
    ((t.rows = rows ∧ t.trigRow = some st.trace.rows.length ∧ t.after = 0 ∧ t.st = if st.trace.postN = 0 then .frozen else .post) ∨
      (st.trace.cmdTrig = false ∧ t.st = .armed ∧ t.rows = rows.drop (rows.length - (d.traceDepth - 1 - st.trace.postN)))) := by
  simp only [traceStep, armed]
  split
  · split <;> simp [*]
  · rename_i waits
    simp only [Bool.or_eq_true, not_or, Bool.not_eq_true] at waits
    exact ⟨rfl, .inr ⟨waits.2, rfl, rfl⟩⟩

theorem traceStep_post (post : st.trace.st = .post) :
    let t := traceStep d n st trig
    t.postN = st.trace.postN ∧ t.rows = st.trace.rows ++ [(n, maskedNodes d.traceMask st.nodes)] ∧ t.after = st.trace.after + 1 ∧
      t.st = if st.trace.after + 1 = st.trace.postN then .frozen else .post := by
  simp only [traceStep, post]
  split <;> simp [*]

theorem trace_open_or_closed (t : Trace) : t.st = .armed ∨ t.st = .post ∨ (t.st = .idle ∨ t.st = .frozen) := by
  cases t.st <;> simp

theorem traceStep_postN : (traceStep d n st trig).postN = st.trace.postN := by
  rcases trace_open_or_closed st.trace with armed | post | closed
  · exact (traceStep_armed d n st trig armed).1
  · exact (traceStep_post d n st trig post).1
  · obtain ⟨-, -, -, kept⟩ := traceStep_closed d n st trig closed
    exact kept

/-- A trigger by command takes the execution's row as the trigger row, and freezes the trace where no row is to follow. -/
theorem traceStep_triggered (armed : st.trace.st = .armed) (trigger : st.trace.cmdTrig = true) :
    let t := traceStep d n st trig
    t.rows = st.trace.rows ++ [(n, maskedNodes d.traceMask st.nodes)] ∧ t.trigRow = some st.trace.rows.length ∧
      t.st = if st.trace.postN = 0 then .frozen else .post := by
  obtain ⟨-, ⟨rows, trigRow, -, next⟩ | ⟨noTrigger, -, -⟩⟩ := traceStep_armed d n st trig armed
  · exact ⟨rows, trigRow, next⟩
  · exact absurd trigger (by simp [noTrigger])

/-- The rows that a trace of a loop may hold: room is kept for the trigger row and POST rows while it is armed, and for the rows still to come after its trigger. -/
def TraceFits (d : LoopDef) (t : Trace) : Prop :=
  (t.st = .armed → t.rows.length ≤ d.traceDepth - 1 - t.postN) ∧
  (t.st = .post → t.after < t.postN ∧ t.rows.length ≤ d.traceDepth - t.postN + t.after) ∧
  (t.st = .frozen → t.rows.length ≤ d.traceDepth)

theorem traceStep_fits (deep : st.trace.postN < d.traceDepth) (fits : TraceFits d st.trace) : TraceFits d (traceStep d n st trig) := by
  obtain ⟨whenArmed, whenPost, whenFrozen⟩ := fits
  rcases trace_open_or_closed st.trace with armed | post | closed
  · have few := whenArmed armed
    obtain ⟨kept, ⟨rows, -, after, next⟩ | ⟨-, waits, rows⟩⟩ := traceStep_armed d n st trig armed
    · have longer : (traceStep d n st trig).rows.length = st.trace.rows.length + 1 := by simp [rows]
      by_cases last : st.trace.postN = 0
      · simp [TraceFits, next, last, longer]
        omega
      · simp [TraceFits, next, last, longer, kept, after]
        omega
    · simp [TraceFits, waits, rows, kept]
      omega
  · have few := whenPost post
    obtain ⟨kept, rows, after, next⟩ := traceStep_post d n st trig post
    have longer : (traceStep d n st trig).rows.length = st.trace.rows.length + 1 := by simp [rows]
    by_cases last : st.trace.after + 1 = st.trace.postN
    · simp [TraceFits, next, last, longer]
      omega
    · simp [TraceFits, next, last, longer, kept, after]
      omega
  · obtain ⟨same, rows, -, kept⟩ := traceStep_closed d n st trig closed
    rcases closed with idle | frozen
    · simp [TraceFits, same, idle]
    · simp [TraceFits, same, frozen, rows, whenFrozen frozen]

end

/-- The part of O40 about the depth of a trace. -/
theorem traceKeepsItsDepth : Claims.TraceKeepsItsDepth := by
  intro d n st trig deep fits t
  refine ⟨traceStep_fits d n st trig deep, traceStep_postN d n st trig, fun closed => ?_, traceStep_triggered d n st trig⟩
  obtain ⟨same, rows, trigRow, -⟩ := traceStep_closed d n st trig closed
  exact ⟨same, rows, trigRow⟩

end Sys2Proof.Machine
end

section
/-! PROOFS. References of loop commands: their form, loops that are not there, and loops of other devices (R160, R360, R568; O40). -/

namespace Sys2Proof.Machine

open Sys2Proof.Claims

/-- A malformed reference is the first refusal. -/
theorem judge_refBad {r : Nat} (bad : refBad r = true) (rest : List Check) : judge ((refBad r, .invalid, 0) :: rest) = some (.invalid, 0) := by
  rw [bad, judge]

/-- A reference in form leaves the judgement to the refusals behind it. -/
theorem judge_refOk {r : Nat} (form : refBad r = false) (rest : List Check) : judge ((refBad r, .invalid, 0) :: rest) = judge rest := by
  rw [form, judge]

theorem judge_loopAbsent {s : State} {r : Nat} (gone : s.loopThere r = false) (rest : List Check) : judge ((!s.loopThere r, .absent, 0) :: rest) = some (.absent, 0) := by
  rw [gone, Bool.not_false, judge]

section
variable {s : State} {r : Nat} (ref : CmdRef) (op : Nat) (args : List Nat) (k : State → State)

/-- A command whose reference is of this device is judged here. -/
theorem State.here_own {dev : Nat} (form : Bool) (own : dev = s.ownDev) : s.here dev form ref op args k = k s := if_neg (fun h => h.2.2 own)

/-- A command whose reference is malformed is judged here. -/
theorem State.here_refBad {dev : Nat} (bad : refBad r = true) : s.here dev (!refBad r) ref op args k = k s :=
  if_neg (fun h => by simp [bad] at h)

/-- A command whose reference is of another device is sent on, or ABSENT where that device is not joined. -/
theorem State.here_other {dev : Nat} (form : refBad r = false) (run : s.img.run.isSome = true) (other : dev ≠ s.ownDev) :
    s.here dev (!refBad r) ref op args k = s.relay dev (opRef ref op) op args :=
  if_pos ⟨by simp [form], run, other⟩

end

/-- The commands on one loop or its trace that are answered without an acknowledgement. -/
def shortLoopCommands (ref : CmdRef) (args : List Nat) : List (Instr × Nat) :=
  [(.traceArm ref args, 0x0305), (.traceTrigger ref args, 0x0306), (.traceRead ref args, 0x0307), (.loopSetMode ref args, 0x0309)]

/-- A short loop command is judged where its loop is, first by the form of the reference; a loop that is not there is then its first refusal. -/
theorem exec_shortLoopCommand {ref : CmdRef} {args : List Nat} {c : Instr} {op : Nat} (which : (c, op) ∈ shortLoopCommands ref args) :
    ∃ (pre suf : State → List Check) (k : State → CmdRef → State → State),
      (∀ s, exec c s = .next (s.here (idDev (argN args 0)) (!refBad (argN args 0)) ref op args (fun s =>
        s.command ref op ((refBad (argN args 0), .invalid, 0) :: pre s) (suf s) (k s)))) ∧
      ∀ s : State, s.loopThere (argN args 0) = false → argN args 1 < 3 → judge (pre s) = some (.absent, 0) := by
  simp only [shortLoopCommands, List.mem_cons, List.not_mem_nil, or_false, Prod.mk.injEq] at which
  rcases which with ⟨rfl, rfl⟩ | ⟨rfl, rfl⟩ | ⟨rfl, rfl⟩ | ⟨rfl, rfl⟩
  · exact ⟨_, _, _, fun s => rfl, fun s gone _ => by simp [judge, gone]⟩
  · exact ⟨_, _, _, fun s => rfl, fun s gone _ => by simp [judge, gone]⟩
  · exact ⟨_, _, _, fun s => rfl, fun s gone _ => by simp [judge, gone]⟩
  · exact ⟨_, _, _, fun s => rfl, fun s gone small => by simp [judge, gone, Nat.not_le.mpr small]⟩

/-- The part of O40 about references to no loop of this device. -/
theorem loopReferencesAreChecked : Claims.LoopReferencesAreChecked := by
  intro ref args s c op which r q
  obtain short | ⟨en, long, run⟩ : (c, op) ∈ shortLoopCommands ref args ∨ ∃ en, (op = 0x0303 ∨ op = 0x0304) ∧ exec c s = .next (s.loopAble ref op en args) := by
    simp only [List.mem_cons, List.not_mem_nil, or_false, Prod.mk.injEq] at which
    rcases which with ⟨rfl, rfl⟩ | ⟨rfl, rfl⟩ | rest
    · exact .inr ⟨false, by decide, rfl⟩
    · exact .inr ⟨true, by decide, rfl⟩
    · exact .inl (by simpa [shortLoopCommands] using rest)
  · have notLong : ¬ (op = 0x0303 ∨ op = 0x0304) := by
      simp only [shortLoopCommands, List.mem_cons, List.not_mem_nil, or_false, Prod.mk.injEq] at short
      omega
    obtain ⟨pre, suf, k, run, absent⟩ := exec_shortLoopCommand short
    simp only [q, if_neg notLong, run]
    refine ⟨fun bad => congrArg Host.Outcome.next ?_, fun own gone small => congrArg Host.Outcome.next ?_, fun form image other => congrArg Host.Outcome.next ?_⟩
    · rw [State.here_refBad _ _ _ _ bad]
      exact s.command_refused (judge_pre (judge_refBad bad _))
    · rw [State.here_own _ _ _ _ _ own.2]
      exact s.command_refused (judge_pre ((judge_refOk own.1 _).trans (absent s gone small)))
    · exact State.here_other _ _ _ _ form image other
  · simp only [q, if_pos long, run]
    refine ⟨fun bad => congrArg Host.Outcome.next ?_, fun own gone _ => congrArg Host.Outcome.next ?_, fun form image other => congrArg Host.Outcome.next ?_⟩
    · rw [State.loopAble, State.here_refBad _ _ _ _ bad]
      exact s.commandLong_refused_now (judge_pre (judge_refBad bad _)) (.inl rfl)
    · rw [State.loopAble, State.here_own _ _ _ _ _ own.2]
      exact s.commandLong_refused_late (judge_pre ((judge_refOk own.1 _).trans (judge_loopAbsent gone _))) (by decide)
    · rw [State.loopAble]
      exact State.here_other ref op args _ form image other

end Sys2Proof.Machine
end

section
/-! PROOFS. Commands on a loop of this device: coefficient swaps, disables and enables, traces, tables and modes (R146, R147, R151, R152, R155, R156, R160, R175; O40). -/

namespace Sys2Proof.Machine

open Sys2Proof.Claims

/-! The state of a loop (R145). -/

section
variable (s : State) (h k : Nat)

@[simp] theorem State.loopSt_setLoop (x : LoopState) : (s.setLoop h k x).loopSt h k = x := by
  simp [State.loopSt, State.setLoop]

/-- The state of a loop depends on the loops' states and the image alone. -/
theorem State.loopSt_congr {s t : State} (loops : s.loops = t.loops) (img : s.img = t.img) : s.loopSt h k = t.loopSt h k := by
  simp only [State.loopSt, State.loopDef, loops, img]

/-- A change that stands in the sealed half as well stands in the working half. -/
theorem State.loopSt_onLoopBoth (f : LoopState → LoopState) : (s.onLoopBoth h k f).loopSt h k = f (s.loopSt h k) := by
  unfold State.onLoopBoth
  dsimp only
  split
  · exact (State.loopSt_congr h k rfl rfl).trans (s.loopSt_setLoop h k _)
  · exact s.loopSt_setLoop h k _

theorem State.onLoopBoth_frame (f : LoopState → LoopState) : s.onLoopBoth h k f = { s with loops := (s.onLoopBoth h k f).loops, cut := (s.onLoopBoth h k f).cut } := by
  unfold State.onLoopBoth
  dsimp only
  split <;> rfl

end

/-- Whether a cell is SAFE depends on the register file alone. -/
theorem State.cellSafe_congr {s t : State} (regs : s.regs = t.regs) (c : Nat) : s.cellSafe c = t.cellSafe c := by
  rw [State.cellSafe, State.cellSafe, State.rd_congr _ _ regs]

/-- The executing cell depends on the register file alone. -/
theorem State.execOf_congr {s t : State} (regs : s.regs = t.regs) (h : Nat) : s.execOf h = t.execOf h := by
  unfold State.execOf State.flag
  rw [State.rd_congr Reg.AGE_MAP_MIGRATED _ regs, State.rd_congr Reg.AGE_MAP_EXEC _ regs]

/-- A loop that is there stands in a LOOP cell. -/
theorem State.loopThere_role {s : State} {r : Nat} (there : s.loopThere r = true) : s.roleAt (idCell r) = roleLoop := by
  simp only [State.loopThere, Bool.and_eq_true, decide_eq_true_eq] at there
  exact there.1

/-- A command on a loop as it stands latched for the next base mark. -/
def loopLatch (args : List Nat) (op : Nat) (ref : CmdRef) : Latched :=
  { op := op, home := idCell (argN args 0), obj := refObj (argN args 0), args := args, ref := ref }

section
variable {ref : CmdRef} {args : List Nat} {s : State} (own : OwnRef s (argN args 0)) (there : s.loopThere (argN args 0) = true)
include own there

/-! TRACE_ARM, TRACE_TRIGGER and TRACE_READ (R155, R156, R160). -/

section
variable {d : LoopDef} (defined : s.loopDef (idCell (argN args 0)) (refObj (argN args 0)) = some d)
include defined

theorem exec_traceArm_refused (bad : d.traceEn = false ∨ d.traceDepth ≤ argN args 1) : exec (.traceArm ref args) s = .next (s.complete (opRef ref 0x0305) .invalid 1) :=
  congrArg Host.Outcome.next ((State.here_own _ _ _ _ _ own.2).trans (s.command_refused (judge_pre (by
    rcases bad with off | deep
    · simp [judge, own.1, there, defined, off]
    · simp [judge, own.1, there, defined, deep]))))

/-- TRACE_ARM arms an empty trace, in the working state and in the sealed cut, and changes nothing else. -/
theorem exec_traceArm_arms (adm : Admitted s 0x0305) (on : d.traceEn = true) (fits : argN args 1 < d.traceDepth) :
    ∃ u : State, exec (.traceArm ref args) s = .next (u.complete (opRef ref 0x0305) .ok) ∧
      (let t := (u.loopSt (idCell (argN args 0)) (refObj (argN args 0))).trace
       t.st = .armed ∧ t.rows = [] ∧ t.postN = argN args 1) ∧ u = { s with loops := u.loops, cut := u.cut } := by
  refine ⟨_, congrArg Host.Outcome.next ((State.here_own _ _ _ _ _ own.2).trans (s.command_ok _ _ _ _ _ adm ?_ rfl)), ?_, ?_⟩
  · simp [judge, own.1, there, defined, on, Nat.not_le.mpr fits]
  · simp [State.loopSt_onLoopBoth]
  · exact State.onLoopBoth_frame _ _ _ _

end

theorem exec_traceTrigger_latches (adm : Admitted s 0x0306) :
    exec (.traceTrigger ref args) s = .next ((s.latch (loopLatch args 0x0306 (opRef ref 0x0306))).complete (opRef ref 0x0306) .ok) :=
  congrArg Host.Outcome.next ((State.here_own _ _ _ _ _ own.2).trans (s.command_ok _ _ _ _ _ adm (by simp [judge, own.1, there]) rfl))

section
variable (adm : Admitted s 0x0307)
include adm

/-- TRACE_READ returns a frozen trace. -/
theorem exec_traceRead_frozen {d : LoopDef} (defined : s.loopDef (idCell (argN args 0)) (refObj (argN args 0)) = some d) :
    let t := (s.loopSt (idCell (argN args 0)) (refObj (argN args 0))).trace
    t.st = .frozen → (traceData (argN args 0) d.traceMask t).length ≤ ref.bufLen →
      exec (.traceRead ref args) s = .next (s.complete (opRef ref 0x0307) .ok 0 0 (traceData (argN args 0) d.traceMask t)) := by
  intro t frozen room
  refine congrArg Host.Outcome.next ((State.here_own _ _ _ _ _ own.2).trans ((s.command_ok _ _ _ _ _ adm ?_ ?_).trans ?_))
  · simp [judge, own.1, there, defined, t, Nat.not_lt.mpr room]
  · simp [judge, t, frozen]
  · simp only [defined]
    rfl

theorem exec_traceRead_busy (unfrozen : (s.loopSt (idCell (argN args 0)) (refObj (argN args 0))).trace.st ≠ .frozen) :
    exec (.traceRead ref args) s = .next (s.complete (opRef ref 0x0307) .busy) :=
  congrArg Host.Outcome.next ((State.here_own _ _ _ _ _ own.2).trans (s.command_refused
    (judge_suf adm (by simp [judge, own.1, there, unfrozen]) (by simp [judge, unfrozen]))))

end

/-! LOOP_SET_MODE (R175). -/

omit there in
theorem exec_loopSetMode_invalid (high : 3 ≤ argN args 1) : exec (.loopSetMode ref args) s = .next (s.complete (opRef ref 0x0309) .invalid 1) :=
  congrArg Host.Outcome.next ((State.here_own _ _ _ _ _ own.2).trans (s.command_refused (judge_pre (by simp [judge, own.1, high]))))

section
variable {d : LoopDef} (adm : Admitted s 0x0309) (defined : s.loopDef (idCell (argN args 0)) (refObj (argN args 0)) = some d) (mode : argN args 1 < 3)
include adm defined mode

theorem exec_loopSetMode_latches (free : d.mode = NONE) :
    exec (.loopSetMode ref args) s = .next ((s.latch (loopLatch args 0x0309 (opRef ref 0x0309))).complete (opRef ref 0x0309) .ok) :=
  congrArg Host.Outcome.next ((State.here_own _ _ _ _ _ own.2).trans (s.command_ok _ _ _ _ _ adm
    (by simp [judge, own.1, there, Nat.not_le.mpr mode]) (by simp [judge, defined, free])))

theorem exec_loopSetMode_denied (led : d.mode ≠ NONE) : exec (.loopSetMode ref args) s = .next (s.complete (opRef ref 0x0309) .denied 6) :=
  congrArg Host.Outcome.next ((State.here_own _ _ _ _ _ own.2).trans (s.command_refused
    (judge_suf adm (by simp [judge, own.1, there, Nat.not_le.mpr mode]) (by simp [judge, defined, led]))))

end

/-! TABLE_READ (R160). -/

section
variable (table : argN args 1 < 65536)
include table

theorem exec_tableRead_reads {tab : TableDef} (adm : Admitted s 0x0308) (found : s.table (idCell (argN args 0)) (argN args 1) = some tab) (room : (tableBytes tab).length ≤ ref.bufLen) :
    exec (.tableRead ref args) s = .next (s.complete (opRef ref 0x0308) .ok 0 0 (tableBytes tab)) := by
  refine congrArg Host.Outcome.next ((State.here_own _ _ _ _ _ own.2).trans ((s.command_ok _ _ _ _ _ adm ?_ rfl).trans ?_))
  · simp [judge, own.1, State.loopThere_role there, found, Nat.not_le.mpr table, Nat.not_lt.mpr room]
  · simp only [found]
    rfl

theorem exec_tableRead_absent (gone : s.table (idCell (argN args 0)) (argN args 1) = none) : exec (.tableRead ref args) s = .next (s.complete (opRef ref 0x0308) .absent 1) :=
  congrArg Host.Outcome.next ((State.here_own _ _ _ _ _ own.2).trans (s.command_refused (judge_pre (by
    simp [judge, own.1, State.loopThere_role there, gone, Nat.not_le.mpr table]))))

end

/-! LOOP_SET_COEF (R146, R147). -/

section
variable (words : 11 ≤ args.length) (mask : argN args 1 < 512) (tabWord : bitOf (argN args 1) 0 = true → argN args 2 < 65536)
include words mask tabWord

/-- The refusals of LOOP_SET_COEF before the gates are those of the resulting set. -/
theorem loopSetCoef_judge (bad : Option Nat) (size : Option Nat) :
    judge [(decide (args.length < 11), .invalid, args.length), (refBad (argN args 0), .invalid, 0), (decide (512 ≤ argN args 1), .invalid, 1),
      (bitOf (argN args 1) 0 && decide (65536 ≤ argN args 2), .invalid, 2), (s.loopThere (argN args 0) && bad.isSome, .invalid, 2 + bad.getD 0),
      (s.loopThere (argN args 0) && size.isNone, .invalid, 2), (!s.loopThere (argN args 0), .absent, 0)] =
    judge [(bad.isSome, .invalid, 2 + bad.getD 0), (size.isNone, .invalid, 2)] := by
  have tab : (bitOf (argN args 1) 0 && decide (65536 ≤ argN args 2)) = false := by simpa using tabWord
  cases bad <;> cases size <;> simp [judge, own.1, there, Nat.not_lt.mpr words, Nat.not_le.mpr mask, tab]

variable {c : Coefs} (due : coefsUnder (argN args 1) (s.coefsDue (idCell (argN args 0)) (refObj (argN args 0))) (coefArgs args) = c)
include due

/-- A set out of range is refused at once, by its first coefficient that is. -/
theorem exec_loopSetCoef_invalid {i : Nat} (bad : coefsBad c = some i) :
    exec (.loopSetCoef ref args) s = .next (s.complete (longRef ref 0x0302) .invalid (2 + i)) := by
  subst due
  refine congrArg Host.Outcome.next ((State.here_own _ _ _ _ _ own.2).trans (s.commandLong_refused_now (judge_pre ?_) (.inl rfl)))
  rw [loopSetCoef_judge own there words mask tabWord, bad]
  rfl

variable {d : LoopDef} (adm : Admitted s 0x0302) (defined : s.loopDef (idCell (argN args 0)) (refObj (argN args 0)) = some d)
  (good : coefsBad c = none) {n : Nat} (size : s.gainSize (idCell (argN args 0)) c.gainTab = some n)
include adm defined good size

/-- A set in range that needs no longer table than the charged one is acknowledged and latched. -/
theorem exec_loopSetCoef_latches (fits : n ≤ (s.gainSize (idCell (argN args 0)) d.gainTab).getD 0) :
    exec (.loopSetCoef ref args) s = .next ((s.accept (longRef ref 0x0302)).latch (loopLatch args 0x0302 (longRef ref 0x0302))) := by
  subst due
  refine congrArg Host.Outcome.next ((State.here_own _ _ _ _ _ own.2).trans (s.commandLong_ok _ _ _ _ _ adm ?_ ?_))
  · rw [loopSetCoef_judge own there words mask tabWord, good, size]
    rfl
  · simp [judge, defined, size, Nat.not_lt.mpr fits]

/-- One that needs a longer table is not certified. -/
theorem exec_loopSetCoef_certFail (longer : (s.gainSize (idCell (argN args 0)) d.gainTab).getD 0 < n) :
    exec (.loopSetCoef ref args) s = .next ((s.accept (longRef ref 0x0302)).complete (longRef ref 0x0302) .certFail 0x000F) := by
  subst due
  refine congrArg Host.Outcome.next ((State.here_own _ _ _ _ _ own.2).trans (s.commandLong_refused_late (judge_suf adm ?_ ?_) (by decide)))
  · rw [loopSetCoef_judge own there words mask tabWord, good, size]
    rfl
  · simp [judge, defined, size, longer]

end

/-! LOOP_DISABLE and LOOP_ENABLE (R151, R152). -/

section
variable {op : Nat} (adm : Admitted s op) (en : Bool)
include adm

/-- A disable or enable that nothing refuses is acknowledged, and then goes by the executing cell. -/
theorem State.loopAble_takes : s.loopAble ref op en args =
    let t := s.accept (longRef ref op)
    let l := loopLatch args op (longRef ref op)
    if !s.cellSafe (s.execOf (idCell (argN args 0))) then t.latch l
    else if (s.fab.cells.at' (s.execOf (idCell (argN args 0))) {}).firstSafe then (t.complete (longRef ref op) .ok).latch { l with ref := { longRef ref op with replayed := true } }
    else t.markLoopAble l en := by
  rw [State.loopAble, State.here_own _ _ _ _ _ own.2, s.commandLong_ok _ _ _ _ _ adm (by simp [judge, own.1, there]) rfl]
  simp only [State.cellSafe_congr (State.accept_regs _ _), State.execOf_congr (State.accept_regs _ _), State.accept_fab]
  rfl

theorem State.loopAble_latches (running : s.cellSafe (s.execOf (idCell (argN args 0))) = false) :
    s.loopAble ref op en args = (s.accept (longRef ref op)).latch (loopLatch args op (longRef ref op)) := by
  rw [State.loopAble_takes own there adm]
  exact if_pos (by rw [running, Bool.not_false])

variable (safe : s.cellSafe (s.execOf (idCell (argN args 0))) = true)
include safe

/-- In the first cycle of SAFE it is answered at once and still latched. -/
theorem State.loopAble_firstSafe (first : (s.fab.cells.at' (s.execOf (idCell (argN args 0))) {}).firstSafe = true) :
    s.loopAble ref op en args = ((s.accept (longRef ref op)).complete (longRef ref op) .ok).latch (loopLatch args op { longRef ref op with replayed := true }) := by
  rw [State.loopAble_takes own there adm]
  exact (if_neg (by simp [safe])).trans (if_pos first)

/-- In a later cycle of SAFE it is recorded in the loop and answered at once. -/
theorem State.loopAble_records (later : (s.fab.cells.at' (s.execOf (idCell (argN args 0))) {}).firstSafe = false) :
    ∃ u : State, s.loopAble ref op en args = u.complete (longRef ref op) .ok ∧
      (u.loopSt (idCell (argN args 0)) (refObj (argN args 0))).able = (s.loopSt (idCell (argN args 0)) (refObj (argN args 0))).able ++ [(en, none)] ∧
      u = { (s.accept (longRef ref op)) with loops := u.loops } := by
  have recorded : s.loopAble ref op en args = (s.accept (longRef ref op)).markLoopAble (loopLatch args op (longRef ref op)) en := by
    rw [State.loopAble_takes own there adm]
    exact (if_neg (by simp [safe])).trans (if_neg (by simp [later]))
  have still : (s.accept (longRef ref op)).cellSafe ((s.accept (longRef ref op)).execOf (idCell (argN args 0))) = true := by
    rw [State.cellSafe_congr (State.accept_regs _ _), State.execOf_congr (State.accept_regs _ _), safe]
  refine ⟨_, recorded.trans (if_pos still), ?_, rfl⟩
  simp [loopLatch, State.loopSt_congr (s := s.accept (longRef ref op)) (t := s) _ _ (State.accept_loops _ _) (State.accept_img _ _)]

end

end

end Sys2Proof.Machine
end

section
/-! PROOFS. LOOP_READ: loops of one cell at the sealed cut, and a reference wider than a word (R154, R160; O40). -/

namespace Sys2Proof.Machine

open Sys2Proof.Claims

/-- A word in form of 32 bits is named above bit 10 by its device and cell. -/
theorem refWord_div {x : Nat} (form : refBad x = false) (word : x < 2 ^ 32) : x / 2048 = 64 * idDev x + idCell x := by
  have high : bitsOf x 31 25 = 0 := And.left (by simpa [refBad] using form)
  simp only [bitsOf, Nat.reduceSub, Nat.reduceAdd, Nat.reducePow] at high
  simp only [idDev, idCell, bitsOf, Nat.reduceSub, Nat.reduceAdd, Nat.reducePow]
  omega

section
variable {ref : CmdRef} {args : List Nat} {s : State}

/-- The reference words of a LOOP_READ. -/
def loopReadRefs (args : List Nat) : List Nat := (args.drop 1).take (argN args 0)

/-- What LOOP_READ returns of a loop: nodes and status from the last sealed cut. -/
def State.loopReadBytes (s : State) (x : Nat) : List Byte :=
  let t := s.cut.loops.at' (idCell x * 256 + refObj x) (s.loopSt (idCell x) (refObj x))
  wordsBytes t.nodes ++ leBytes 4 (loopStat t)

theorem loopReadRefs_shape (counted : badCount args 16 = (false, .invalid, 0)) :
    (loopReadRefs args).length = argN args 0 ∧ (loopReadRefs args).headD 0 = argN args 1 ∧ argN args 1 ∈ loopReadRefs args := by
  have inRange : ¬ (argN args 0 < 1 ∨ 16 < argN args 0 ∨ args.length < argN args 0 + 1) := by simpa [badCount] using counted
  match args, inRange with
  | n :: x :: rest, inRange =>
    obtain ⟨m, rfl⟩ : ∃ m, n = m + 1 := ⟨n - 1, by simp [argN] at inRange; omega⟩
    simp [argN] at inRange
    simp [loopReadRefs, argN]
    omega
  | [n], inRange => simp [argN] at inRange; omega
  | [], inRange => simp [argN] at inRange

/-- The refusals of a LOOP_READ before the gates (R160, R464, R568). -/
def State.loopReadPre (s : State) (ref : CmdRef) (args : List Nat) : List Check :=
  let l := loopReadRefs args
  [badCount args 16, badAt (fun x => !refBad x) l .invalid, badAt (fun x => decide (x / 2048 = l.headD 0 / 2048)) l .invalid,
    noRoom ref (68 * l.length), badAt s.loopThere l .absent]

section
variable (counted : badCount args 16 = (false, .invalid, 0)) (own : ∀ x ∈ loopReadRefs args, OwnRef s x)
include counted own

/-- A LOOP_READ of this device is judged here. -/
theorem execLoopRead_here : execLoopRead ref args s = .next (s.command ref 0x0301 (s.loopReadPre ref args) []
    (fun ref s => s.complete ref .ok 0 0 ((loopReadRefs args).map s.loopReadBytes).flatten)) := by
  obtain ⟨-, head, first⟩ := loopReadRefs_shape counted
  exact congrArg Host.Outcome.next (State.here_own _ _ _ _ _ (head ▸ (own _ first).2))

/-- A reference whose word lies elsewhere than the first above its bit 10 is refused by its place. -/
theorem execLoopRead_otherCell {i : Nat} (other : firstBad (fun x => decide (x / 2048 = argN args 1 / 2048)) (loopReadRefs args) = some i) :
    execLoopRead ref args s = .next (s.complete (opRef ref 0x0301) .invalid i) := by
  obtain ⟨-, head, -⟩ := loopReadRefs_shape counted
  have form := badAt_passes (p := fun x => !refBad x) (l := loopReadRefs args) .invalid 0 (fun x hx => by simp [(own x hx).1])
  have cells := badAt_fails .invalid 0 other
  have refused : judge (s.loopReadPre ref args) = some (.invalid, i) := by
    simp only [State.loopReadPre, counted, form, head, cells, judge, Nat.zero_add]
  rw [execLoopRead_here counted own, s.command_refused (judge_pre refused)]

/-- Loops of one cell of this device are read at the last sealed cut, where no reference word lies above the others' bit 10. -/
theorem execLoopRead_reads (room : 68 * argN args 0 ≤ ref.bufLen) (adm : Admitted s 0x0301) (there : ∀ x ∈ loopReadRefs args, s.loopThere x = true)
    (cell : ∀ x ∈ loopReadRefs args, x / 2048 = argN args 1 / 2048) :
    execLoopRead ref args s = .next (s.complete (opRef ref 0x0301) .ok 0 0 ((loopReadRefs args).map s.loopReadBytes).flatten) := by
  obtain ⟨len, head, -⟩ := loopReadRefs_shape counted
  have passes : judge (s.loopReadPre ref args) = none := by
    have form := badAt_passes (p := fun x => !refBad x) (l := loopReadRefs args) .invalid 0 (fun x hx => by simp [(own x hx).1])
    have cells := badAt_passes (p := fun x => decide (x / 2048 = argN args 1 / 2048)) .invalid 0 (fun x hx => decide_eq_true (cell x hx))
    have loops := badAt_passes .absent 0 there
    simp only [State.loopReadPre, counted, form, head, cells, loops, noRoom, len, Nat.not_lt.mpr room, decide_false, judge]
  rw [execLoopRead_here counted own, s.command_ok _ _ _ _ _ adm passes rfl]
  rfl

/-- Loops of one cell of this device are read where the argument words have 32 bits (R154, R160). -/
theorem execLoopRead_ofWords (words : wfWords args = true) (room : 68 * argN args 0 ≤ ref.bufLen) (adm : Admitted s 0x0301)
    (there : ∀ x ∈ loopReadRefs args, s.loopThere x = true) (cell : ∀ x ∈ loopReadRefs args, idCell x = idCell (argN args 1)) :
    execLoopRead ref args s = .next (s.complete (opRef ref 0x0301) .ok 0 0 ((loopReadRefs args).map s.loopReadBytes).flatten) := by
  obtain ⟨-, -, first⟩ := loopReadRefs_shape counted
  have word : ∀ x ∈ loopReadRefs args, x < 2 ^ 32 := fun x hx =>
    of_decide_eq_true (List.all_eq_true.mp words x (List.mem_of_mem_drop (List.mem_of_mem_take hx)))
  refine execLoopRead_reads counted own room adm there (fun x hx => ?_)
  rw [refWord_div (own x hx).1 (word x hx), refWord_div (own _ first).1 (word _ first), (own x hx).2, (own _ first).2, cell x hx]

end

end

/-! A LOOP_READ whose second word names loop 0 of cell 0 as the first, with bit 32 set besides. -/

/-- Device 0 with one loop, in cell 0. -/
def oneLoop : State := { State.reset with img := { run := some { roles := [roleLoop], loops := [(0, loopDefOf [])] } } }

/-- A reference of the maintenance port with room for two loops. -/
def portRef : CmdRef := { ring := 255, handle := 0, tag := 0, bufLen := 136 }

/-- The words 0 and 2^32 name the same loop of this device by the fields of R160. -/
theorem oneLoop_words : ∀ x ∈ loopReadRefs [2, 0, 2 ^ 32], OwnRef oneLoop x ∧ oneLoop.loopThere x = true ∧ idCell x = idCell (argN [2, 0, 2 ^ 32] 1) := by
  unfold OwnRef
  decide

/-- They differ above bit 10, so the second is refused. -/
theorem oneLoop_refused : exec (.loopRead portRef [2, 0, 2 ^ 32]) oneLoop = .next (oneLoop.complete (opRef portRef 0x0301) .invalid 1) :=
  execLoopRead_otherCell (by decide) (fun x hx => (oneLoop_words x hx).1) (by decide)

/-- A record at the maintenance port shows its status. -/
theorem complete_mnt_status (s : State) (st : Status) (d n : Nat) (l : List Byte) :
    (s.complete (opRef portRef 0x0301) st d n l).host.mnt.map (·.status) = s.host.mnt.map (·.status) ++ [st] := by
  simp [State.complete, State.post, opRef, portRef]

/-- The clause of LOOP_READ fails for a reference that is wider than a word. -/
theorem not_loopCommandsLatchReadAndArm : ¬ Claims.LoopCommandsLatchReadAndArm := by
  intro h
  obtain ⟨reads, -⟩ := h portRef [2, 0, 2 ^ 32] oneLoop
  have answers := (reads (by unfold Admitted; decide) (by decide) (by decide) oneLoop_words).symm.trans oneLoop_refused
  have statuses := congrArg (fun t : State => t.host.mnt.map (·.status)) (Host.Outcome.next.inj answers)
  simp only [complete_mnt_status] at statuses
  exact absurd statuses (by decide)

/-- Refutes O40: its LOOP_READ clause bounds no argument word. A reference with bit 32 set is in form and names the same loop by the fields of R160, but LOOP_READ compares whole numbers and answers INVALID. With words of 32 bits (log entry 2) the clause holds (`execLoopRead_ofWords`), and so does every other clause, by the lemmas above. -/
theorem not_loopCommandsAndTraces : ¬ Obligations.LoopCommandsAndTraces := fun h => not_loopCommandsLatchReadAndArm h.1

end Sys2Proof.Machine
end

section
/-! PROOFS. The state of axes and generators: what a replaced one reads as, and what a command on an axis changes (R73, R75; O41). -/

namespace Sys2Proof.Machine

section
variable (s : State) (h k : Nat)

@[simp] theorem State.axisSt_setAxis (x : AxisState) : (s.setAxis h k x).axisSt h k = x := by
  simp [State.axisSt, State.setAxis]

@[simp] theorem State.pgSt_setPg (x : PgState) : (s.setPg h k x).pgSt h k = x := by
  simp [State.pgSt, State.setPg]

/-- The state of a generator depends on the generators' states and the image alone. -/
theorem State.pgSt_congr {s t : State} (pgs : s.pgs = t.pgs) (img : s.img = t.img) : s.pgSt h k = t.pgSt h k := by
  simp only [State.pgSt, State.pgDef, pgs, img]

/-- The state of an axis depends on the axes' states and the image alone. -/
theorem State.axisSt_congr {s t : State} (axes : s.axes = t.axes) (img : s.img = t.img) : s.axisSt h k = t.axisSt h k := by
  simp only [State.axisSt, State.axisDef, State.runPoints, axes, img]

/-- A command's change of an axis stands in the working state, whether the fast half holds the axis or not. -/
theorem State.axisSt_cmdAxis (f : AxisState → AxisState) : (s.cmdAxis h k f).axisSt h k = f (s.axisSt h k) := by
  unfold State.cmdAxis
  dsimp only
  split
  · exact (State.axisSt_congr h k rfl rfl).trans (s.axisSt_setAxis h k _)
  · exact s.axisSt_setAxis h k _

theorem State.cmdAxis_frame (f : AxisState → AxisState) : s.cmdAxis h k f = { s with axes := (s.cmdAxis h k f).axes, fast := (s.cmdAxis h k f).fast } := by
  unfold State.cmdAxis
  dsimp only
  split <;> rfl

/-- What a change of an axis amounts to for a command that answers OK after it. -/
theorem State.cmdAxis_acts {out : Out} {f : AxisState → AxisState} {q : CmdRef} (run : out = .next ((s.cmdAxis h k f).complete q .ok)) :
    ∃ u : State, out = .next (u.complete q .ok) ∧ u = { s with axes := u.axes, fast := u.fast } ∧ u.axisSt h k = f (s.axisSt h k) :=
  ⟨_, run, s.cmdAxis_frame h k f, s.axisSt_cmdAxis h k f⟩

end

/-- Limits that wait are in effect, and nothing waits. -/
theorem PgState.limited_of_pending (g : PgState) (v a j : F32) : PgState.limited { g with limPend := some (v, a, j) } = { g with v := v, a := a, j := j, limPend := none } := rfl

end Sys2Proof.Machine
end

section
/-! PROOFS. Axis and generator commands at the next base mark (R173, R181, R564; O41). -/

namespace Sys2Proof.Machine

section
variable {s : State} {l : Latched}

theorem State.markPgLimits_stopped (stop : s.stoppedNow l.op = true) : s.markPgLimits l = s.complete l.ref .denied 1 := if_pos stop

section
variable (live : s.stoppedNow l.op = false)
include live

theorem State.markPgLimits_live : s.markPgLimits l =
    let g : PgState := { s.pgSt l.home l.obj with limPend := some (BitVec.ofNat 32 (argN l.args 1), BitVec.ofNat 32 (argN l.args 2), BitVec.ofNat 32 (argN l.args 3)) }
    (s.setPg l.home l.obj (if g.st = .idle then g.limited else g)).roleDone l.home l.ref .ok 0 s.time.n :=
  if_neg (by simp [live])

/-- Latched limits go to an IDLE generator at once, and wait in another. -/
theorem State.pgSt_markPgLimits : (s.markPgLimits l).pgSt l.home l.obj =
    let g : PgState := { s.pgSt l.home l.obj with limPend := some (BitVec.ofNat 32 (argN l.args 1), BitVec.ofNat 32 (argN l.args 2), BitVec.ofNat 32 (argN l.args 3)) }
    if g.st = .idle then g.limited else g := by
  rw [State.markPgLimits_live live]
  exact (State.pgSt_congr l.home l.obj rfl rfl).trans (State.pgSt_setPg s _ _ _)

theorem State.markPgLimits_done : (s.markPgLimits l).fab.done =
    s.fab.done ++ [(l.home, { ref := l.ref, status := .ok, final := true, detail := 0, result := s.time.n, data := [] })] := by
  rw [State.markPgLimits_live live]
  rfl

end

end

/-- The part of O41 about the next base mark. -/
theorem latchedAxisCommandsReachTheirAxis : Claims.LatchedAxisCommandsReachTheirAxis := by
  refine ⟨fun s l en => ⟨s.axisSt_setAxis l.home l.obj _, rfl⟩, fun s l live => ⟨fun idle => ?_, fun busy => ?_, State.markPgLimits_done live⟩, fun s l stop => State.markPgLimits_stopped stop⟩
  · rw [State.pgSt_markPgLimits live]
    exact (if_pos idle).trans (PgState.limited_of_pending _ _ _ _)
  · rw [State.pgSt_markPgLimits live]
    exact if_neg busy

end Sys2Proof.Machine
end

section
/-! PROOFS. Axis and generator commands on an axis or generator of this device (R166, R171, R173, R174, R179 to R181, R186; O41). -/

namespace Sys2Proof.Machine

open Sys2Proof.Claims

theorem axisRefBad_own {s : State} {r : Nat} (own : OwnRef s r) (small : refObj r < 32) : axisRefBad r = false := by
  simp [axisRefBad, own.1, small]

theorem pgRefBad_own {s : State} {r : Nat} (own : OwnRef s r) (small : refObj r < 8) : pgRefBad r = false := by
  simp [pgRefBad, own.1, small]

/-- Limits above 0 are not refused. -/
theorem badAt_limitsAbove {args : List Nat} (above : ∀ i ∈ [1, 2, 3], finPos (BitVec.ofNat 32 (argN args i)) = true) :
    badAt finPos [BitVec.ofNat 32 (argN args 1), BitVec.ofNat 32 (argN args 2), BitVec.ofNat 32 (argN args 3)] .invalid 1 = (false, .invalid, 0) :=
  badAt_passes .invalid 1 (l := [1, 2, 3].map (fun i => BitVec.ofNat 32 (argN args i))) (List.forall_mem_map.mpr above)

/-- A command on an axis or generator as it stands latched for the next base mark. -/
def axisLatch (args : List Nat) (op : Nat) (ref : CmdRef) : Latched :=
  { op := op, home := idCell (argN args 0), obj := refObj (argN args 0), args := args, ref := ref }

section
variable {ref : CmdRef} {args : List Nat} {s : State} (own : OwnRef s (argN args 0))
include own

/-! Generators (R171, R173). -/

section
variable (small : refObj (argN args 0) < 8) (there : s.pgThere (argN args 0) = true)
include small there

section
variable (adm : Admitted s 0x0311) (fin : F32.fin (BitVec.ofNat 32 (argN args 1)) = true)
  (ok : s.targetOk (idCell (argN args 0)) (refObj (argN args 0)) (BitVec.ofNat 32 (argN args 1)) = true)
include adm fin ok

/-- A move that the generator accepts is acknowledged and arrives as a request. -/
theorem exec_pgMove_arrives (ready : s.moveReady (idCell (argN args 0)) (refObj (argN args 0)) = true) :
    ∃ u : State, exec (.pgMove ref args) s = .next u ∧ u = { (s.accept (longRef ref 0x0311)) with pgs := u.pgs } ∧
      u.pgSt (idCell (argN args 0)) (refObj (argN args 0)) = { s.pgSt (idCell (argN args 0)) (refObj (argN args 0)) with
        arrived := (s.pgSt (idCell (argN args 0)) (refObj (argN args 0))).arrived ++ [{ target := BitVec.ofNat 32 (argN args 1), ref := some (longRef ref 0x0311) }] } := by
  refine ⟨_, congrArg Host.Outcome.next ((State.here_own _ _ _ _ _ own.2).trans (s.commandLong_ok _ _ _ _ _ adm ?_ ?_)), rfl, ?_⟩
  · simp [judge, pgRefBad_own own small, there, fin, ok]
  · simp [judge, ready]
  · have unmoved : (s.accept (longRef ref 0x0311)).pgSt (idCell (argN args 0)) (refObj (argN args 0)) = s.pgSt (idCell (argN args 0)) (refObj (argN args 0)) :=
      State.pgSt_congr _ _ (State.accept_pgs s _) (State.accept_img s _)
    rw [← unmoved]
    exact State.pgSt_setPg _ _ _ _

theorem exec_pgMove_denied (unready : s.moveReady (idCell (argN args 0)) (refObj (argN args 0)) = false) :
    exec (.pgMove ref args) s = .next ((s.accept (longRef ref 0x0311)).complete (longRef ref 0x0311) .denied 6) := by
  refine congrArg Host.Outcome.next ((State.here_own _ _ _ _ _ own.2).trans (s.commandLong_refused_late (judge_suf adm ?_ ?_) (by decide)))
  · simp [judge, pgRefBad_own own small, there, fin, ok]
  · simp [judge, unready]

end

theorem exec_pgSetLimits_latches (adm : Admitted s 0x0318) (above : ∀ i ∈ [1, 2, 3], finPos (BitVec.ofNat 32 (argN args i)) = true) :
    exec (.pgSetLimits ref args) s = .next (s.latch (axisLatch args 0x0318 (opRef ref 0x0318))) := by
  refine congrArg Host.Outcome.next ((State.here_own _ _ _ _ _ own.2).trans (s.command_ok _ _ _ _ _ adm ?_ rfl))
  simp [judge, pgRefBad_own own small, there, badAt_limitsAbove above]

end

/-! Axes (R166, R174, R179 to R181). -/

section
variable (small : refObj (argN args 0) < 32) (there : s.axisThere (argN args 0) = true)
include small there

/-- AXIS_STOP, AXIS_ENABLE, AXIS_DISABLE and AXIS_RESET refuse nothing else before the gates. -/
theorem judge_axisNamed : judge [(axisRefBad (argN args 0), .invalid, 0), (!s.axisThere (argN args 0), .absent, 0)] = none := by
  simp [judge, axisRefBad_own own small, there]

theorem exec_axisStop_asks (adm : Admitted s 0x0312) :
    exec (.axisStop ref args) s = .next ((s.cmdAxis (idCell (argN args 0)) (refObj (argN args 0)) (fun x => { x with stopReq := true })).complete (opRef ref 0x0312) .ok) :=
  congrArg Host.Outcome.next ((State.here_own _ _ _ _ _ own.2).trans (s.command_ok _ _ _ _ _ adm (judge_axisNamed own small there) rfl))

section
variable {d : AxisDef} (adm : Admitted s 0x0313) (defined : s.axisDef (idCell (argN args 0)) (refObj (argN args 0)) = some d) (mode : argN args 1 < 3)
include adm defined mode

theorem exec_axisSetMode_asks (free : d.modePt = NONE) : exec (.axisSetMode ref args) s =
    .next ((s.cmdAxis (idCell (argN args 0)) (refObj (argN args 0)) (fun x => { x with modeReq := axisModeOf (argN args 1) })).complete (opRef ref 0x0313) .ok) :=
  congrArg Host.Outcome.next ((State.here_own _ _ _ _ _ own.2).trans (s.command_ok _ _ _ _ _ adm
    (by simp [judge, axisRefBad_own own small, there, Nat.not_le.mpr mode]) (by simp [judge, defined, free])))

theorem exec_axisSetMode_denied (led : d.modePt ≠ NONE) : exec (.axisSetMode ref args) s = .next (s.complete (opRef ref 0x0313) .denied 6) :=
  congrArg Host.Outcome.next ((State.here_own _ _ _ _ _ own.2).trans (s.command_refused
    (judge_suf adm (by simp [judge, axisRefBad_own own small, there, Nat.not_le.mpr mode]) (by simp [judge, defined, led]))))

end

/-- AXIS_ENABLE and AXIS_DISABLE are acknowledged and latched. -/
theorem State.axisAbleCmd_latches {op : Nat} (adm : Admitted s op) :
    s.axisAbleCmd ref op args = (s.accept (longRef ref op)).latch (axisLatch args op (longRef ref op)) := by
  rw [State.axisAbleCmd]
  exact (State.here_own ref op args _ _ own.2).trans (s.commandLong_ok _ _ _ _ _ adm (judge_axisNamed own small there) rfl)

section
variable (adm : Admitted s 0x0316)
include adm

theorem exec_axisReset_clears (clear : (s.axisSt (idCell (argN args 0)) (refObj (argN args 0))).causes = []) : exec (.axisReset ref args) s =
    .next ((s.cmdAxis (idCell (argN args 0)) (refObj (argN args 0)) (fun x =>
      { x with faults := [], satRun := 0, st := match x.st with | .halt => .run | .tripped => .off | y => y })).complete (opRef ref 0x0316) .ok) :=
  congrArg Host.Outcome.next ((State.here_own _ _ _ _ _ own.2).trans (s.command_ok _ _ _ _ _ adm (judge_axisNamed own small there) (by rw [clear]; rfl)))

theorem exec_axisReset_denied (caused : (s.axisSt (idCell (argN args 0)) (refObj (argN args 0))).causes ≠ []) :
    exec (.axisReset ref args) s = .next (s.complete (opRef ref 0x0316) .denied 6) :=
  congrArg Host.Outcome.next ((State.here_own _ _ _ _ _ own.2).trans (s.command_refused
    (judge_suf adm (judge_axisNamed own small there) (by simp [judge, List.isEmpty_eq_false_iff.mpr caused]))))

end

section
variable (adm : Admitted s 0x0317) (fin : F32.fin (BitVec.ofNat 32 (argN args 1)) = true)
include adm fin

theorem exec_axisSetPos_takes (off : (s.axisSt (idCell (argN args 0)) (refObj (argN args 0))).st = .off) : exec (.axisSetPos ref args) s =
    .next ((s.cmdAxis (idCell (argN args 0)) (refObj (argN args 0)) (fun y =>
      { y with setPos := some (BitVec.ofNat 32 (argN args 1)), refLost := false })).complete (opRef ref 0x0317) .ok) :=
  congrArg Host.Outcome.next ((State.here_own _ _ _ _ _ own.2).trans (s.command_ok _ _ _ _ _ adm
    (by simp [judge, axisRefBad_own own small, there, fin]) (by simp [judge, off])))

theorem exec_axisSetPos_denied (on : (s.axisSt (idCell (argN args 0)) (refObj (argN args 0))).st ≠ .off) :
    exec (.axisSetPos ref args) s = .next (s.complete (opRef ref 0x0317) .denied 6) :=
  congrArg Host.Outcome.next ((State.here_own _ _ _ _ _ own.2).trans (s.command_refused
    (judge_suf adm (by simp [judge, axisRefBad_own own small, there, fin]) (by simp [judge, on]))))

end

end

end

/-! AXIS_READ (R186). -/

/-- What AXIS_READ returns of an axis: its status, its references and the state of its law from the last sealed cut. -/
def State.axisReadBytes (s : State) (x : Nat) : List Byte :=
  let a := s.cut.axes.at' (idCell x * 32 + refObj x) (s.axisSt (idCell x) (refObj x))
  match s.axisDef (idCell x) (refObj x) with
  | some d =>
    let g := s.cut.pgs.at' (idCell x * 8 + d.pg) (s.pgSt (idCell x) d.pg)
    leBytes 4 (axisStat d a) ++ wordsBytes [a.x, a.vFilt, g.xRef, g.vRef, g.aRef, a.uPrev, a.i]
  | none => []

/-- A list whose count is in range and whose words are there has as many items as it says, and one at least. -/
theorem countedItems_length {args : List Nat} {hi : Nat} (counted : badCount args hi = (false, .invalid, 0)) :
    ((args.drop 1).take (argN args 0)).length = argN args 0 ∧ 0 < argN args 0 := by
  have inRange : ¬ (argN args 0 < 1 ∨ hi < argN args 0 ∨ args.length < argN args 0 + 1) := by simpa [badCount] using counted
  rw [List.length_take, List.length_drop]
  omega

/-- The first of some items is one of them. -/
theorem headD_mem {l : List Nat} (items : 0 < l.length) : l.headD 0 ∈ l := by
  cases l with
  | nil => simp at items
  | cons x xs => exact List.mem_cons_self

theorem execAxisRead_reads {ref : CmdRef} {args : List Nat} {s : State} (adm : Admitted s 0x0310) (counted : badCount args 32 = (false, .invalid, 0))
    (room : 32 * argN args 0 ≤ ref.bufLen) (named : ∀ x ∈ (args.drop 1).take (argN args 0), OwnRef s x ∧ refObj x < 32 ∧ s.axisThere x = true) :
    execAxisRead ref args s = .next (s.complete (opRef ref 0x0310) .ok 0 0 (((args.drop 1).take (argN args 0)).map s.axisReadBytes).flatten) := by
  obtain ⟨len, items⟩ := countedItems_length counted
  have own : ∀ x ∈ (args.drop 1).take (argN args 0), OwnRef s x := fun x hx => (named x hx).1
  have first : idDev (((args.drop 1).take (argN args 0)).headD 0) = s.ownDev := (own _ (headD_mem (items.trans_eq len.symm))).2
  have form := badAt_passes (p := fun x => !axisRefBad x) (l := (args.drop 1).take (argN args 0)) .invalid 0 (fun x hx => by
    obtain ⟨own, small, -⟩ := named x hx
    simp [axisRefBad_own own small])
  have device := badAt_passes (p := fun x => decide (idDev x = idDev (((args.drop 1).take (argN args 0)).headD 0))) .invalid 0
    (fun x hx => decide_eq_true ((own x hx).2.trans first.symm))
  have axes := badAt_passes .absent 0 (fun x hx => (named x hx).2.2)
  refine congrArg Host.Outcome.next ((State.here_own _ _ _ _ _ first).trans (s.command_ok _ _ _ _ _ adm ?_ rfl))
  simp only [counted, form, device, axes, noRoom, len, Nat.not_lt.mpr room, decide_false, judge]

/-- The part of O41 about what the commands do. -/
theorem axisCommandsTakeEffect : Claims.AxisCommandsTakeEffect := by
  intro ref args s r h k lt
  refine ⟨execAxisRead_reads, fun own small there => ⟨?_, exec_pgSetLimits_latches own small there⟩, fun own small there => ⟨?_, ?_, ?_, ?_, ?_, ?_⟩⟩
  · rintro t rfl fin ok adm
    exact ⟨exec_pgMove_arrives own small there adm fin ok, exec_pgMove_denied own small there adm fin ok⟩
  · exact fun adm => s.cmdAxis_acts h k (exec_axisStop_asks own small there adm)
  · exact fun d adm defined mode =>
      ⟨fun free => s.cmdAxis_acts h k (exec_axisSetMode_asks own small there adm defined mode free), exec_axisSetMode_denied own small there adm defined mode⟩
  · exact fun adm => congrArg Host.Outcome.next (State.axisAbleCmd_latches own small there adm)
  · exact fun adm => congrArg Host.Outcome.next (State.axisAbleCmd_latches own small there adm)
  · exact fun adm => ⟨fun clear => s.cmdAxis_acts h k (exec_axisReset_clears own small there adm clear), exec_axisReset_denied own small there adm⟩
  · rintro x rfl fin adm
    exact ⟨fun off => s.cmdAxis_acts h k (exec_axisSetPos_takes own small there adm fin off), exec_axisSetPos_denied own small there adm fin⟩

end Sys2Proof.Machine
end

section
/-! PROOFS. Refusals of axis and generator commands (R186; O41). -/

namespace Sys2Proof.Machine

open Sys2Proof.Claims

/-- A command judged as a long operation, or as one that is not. -/
abbrev State.commandAs (s : State) (long : Bool) (ref : CmdRef) (op : Nat) (pre suf : List Check) (k : CmdRef → State → State) : State :=
  match long with
  | true => s.commandLong ref op pre suf k
  | false => s.command ref op pre suf k

/-- The reference with which such a command's records are posted. -/
def refAs (long : Bool) (ref : CmdRef) (op : Nat) : CmdRef := if long then longRef ref op else opRef ref op

section
variable (s : State) (long : Bool) {ref : CmdRef} {op : Nat} {pre : List Check} (suf : List Check) (k : CmdRef → State → State)

/-- INVALID comes at once. -/
theorem State.commandAs_invalid {d : Nat} (first : judge pre = some (.invalid, d)) : s.commandAs long ref op pre suf k = s.complete (refAs long ref op) .invalid d := by
  cases long
  · exact s.command_refused (judge_pre first)
  · exact s.commandLong_refused_now (judge_pre first) (.inl rfl)

/-- ABSENT comes after the acknowledgement of a long operation. -/
theorem State.commandAs_absent (first : judge pre = some (.absent, 0)) :
    s.commandAs long ref op pre suf k = (if long then s.accept (refAs long ref op) else s).complete (refAs long ref op) .absent := by
  cases long
  · exact s.command_refused (judge_pre first)
  · exact s.commandLong_refused_late (judge_pre first) (by decide)

end

/-- The commands on one axis or generator, each with its opcode, whether it is a long operation, and the number that its object lies below. -/
def axisCommands (ref : CmdRef) (args : List Nat) : List (Instr × Nat × Bool × Nat) :=
  [(.pgMove ref args, 0x0311, true, 8), (.axisStop ref args, 0x0312, false, 32), (.axisSetMode ref args, 0x0313, false, 32), (.axisEnable ref args, 0x0314, true, 32),
    (.axisDisable ref args, 0x0315, true, 32), (.axisReset ref args, 0x0316, false, 32), (.axisSetPos ref args, 0x0317, false, 32), (.pgSetLimits ref args, 0x0318, false, 8)]

/-- No argument behind the reference is INVALID by itself. -/
def AxisArgsValid (op : Nat) (args : List Nat) : Prop :=
  (op = 0x0313 → argN args 1 < 3) ∧ (op = 0x0311 ∨ op = 0x0317 → F32.fin (BitVec.ofNat 32 (argN args 1)) = true) ∧
  (op = 0x0318 → ∀ i ∈ [1, 2, 3], finPos (BitVec.ofNat 32 (argN args i)) = true)

section
variable {ref : CmdRef} {args : List Nat} {c : Instr} {op top : Nat} {long : Bool} (which : (c, op, long, top) ∈ axisCommands ref args)
include which

/-- Each is judged where its object is, first by the form and range of the reference; of valid arguments an object that is not there is then the first refusal. -/
theorem exec_axisCommand :
    ∃ (pre suf : State → List Check) (k : State → CmdRef → State → State),
      (∀ s, exec c s = .next (s.here (idDev (argN args 0)) (!refBad (argN args 0)) ref op args (fun s =>
        s.commandAs long ref op ((refBad (argN args 0) || decide (top ≤ refObj (argN args 0)), .invalid, 0) :: pre s) (suf s) (k s)))) ∧
      ∀ s : State, (if top = 8 then s.pgThere (argN args 0) else s.axisThere (argN args 0)) = false → AxisArgsValid op args → judge (pre s) = some (.absent, 0) := by
  simp only [axisCommands, List.mem_cons, List.not_mem_nil, or_false, Prod.mk.injEq] at which
  rcases which with ⟨rfl, rfl, rfl, rfl⟩ | ⟨rfl, rfl, rfl, rfl⟩ | ⟨rfl, rfl, rfl, rfl⟩ | ⟨rfl, rfl, rfl, rfl⟩ | ⟨rfl, rfl, rfl, rfl⟩ | ⟨rfl, rfl, rfl, rfl⟩ |
    ⟨rfl, rfl, rfl, rfl⟩ | ⟨rfl, rfl, rfl, rfl⟩
  · exact ⟨_, _, _, fun s => rfl, fun s (gone : s.pgThere _ = false) ⟨_, fin, _⟩ => by simp [judge, gone, fin (.inl rfl)]⟩
  · exact ⟨_, _, _, fun s => rfl, fun s (gone : s.axisThere _ = false) _ => by simp [judge, gone]⟩
  · exact ⟨_, _, _, fun s => rfl, fun s (gone : s.axisThere _ = false) ⟨mode, _⟩ => by simp [judge, gone, Nat.not_le.mpr (mode rfl)]⟩
  · exact ⟨_, _, _, fun s => rfl, fun s (gone : s.axisThere _ = false) _ => by simp [judge, gone]⟩
  · exact ⟨_, _, _, fun s => rfl, fun s (gone : s.axisThere _ = false) _ => by simp [judge, gone]⟩
  · exact ⟨_, _, _, fun s => rfl, fun s (gone : s.axisThere _ = false) _ => by simp [judge, gone]⟩
  · exact ⟨_, _, _, fun s => rfl, fun s (gone : s.axisThere _ = false) ⟨_, fin, _⟩ => by simp [judge, gone, fin (.inr rfl)]⟩
  · exact ⟨_, _, _, fun s => rfl, fun s (gone : s.pgThere _ = false) ⟨_, _, above⟩ => by simp [judge, gone, badAt_limitsAbove (above rfl)]⟩

variable {s : State}

theorem exec_axisCommand_beyond (own : OwnRef s (argN args 0)) (high : top ≤ refObj (argN args 0)) : exec c s = .next (s.complete (refAs long ref op) .invalid) := by
  obtain ⟨pre, suf, k, run, -⟩ := exec_axisCommand which
  rw [run, State.here_own _ _ _ _ _ own.2, s.commandAs_invalid long _ _ (d := 0) (by simp [judge, high])]

theorem exec_axisCommand_absent (own : OwnRef s (argN args 0)) (low : refObj (argN args 0) < top)
    (gone : (if top = 8 then s.pgThere (argN args 0) else s.axisThere (argN args 0)) = false) (valid : AxisArgsValid op args) :
    exec c s = .next ((if long then s.accept (refAs long ref op) else s).complete (refAs long ref op) .absent) := by
  obtain ⟨pre, suf, k, run, absent⟩ := exec_axisCommand which
  have first : judge ((refBad (argN args 0) || decide (top ≤ refObj (argN args 0)), .invalid, 0) :: pre s) = some (.absent, 0) := by
    simp [judge, own.1, Nat.not_le.mpr low, absent s gone valid]
  rw [run, State.here_own _ _ _ _ _ own.2, s.commandAs_absent long _ _ first]

theorem exec_axisCommand_other (form : refBad (argN args 0) = false) (run : s.img.run.isSome = true) (other : idDev (argN args 0) ≠ s.ownDev) :
    exec c s = .next (s.relay (idDev (argN args 0)) (opRef ref op) op args) := by
  obtain ⟨pre, suf, k, judged, -⟩ := exec_axisCommand which
  rw [judged, State.here_other _ _ _ _ form run other]

end

/-! Numbers that are not finite or not above 0 (R171, R173). -/

section
variable {ref : CmdRef} {args : List Nat} {s : State} (own : OwnRef s (argN args 0)) (small : refObj (argN args 0) < 8)
include own small

theorem exec_pgMove_notFinite (bad : F32.fin (BitVec.ofNat 32 (argN args 1)) = false) : exec (.pgMove ref args) s = .next (s.complete (longRef ref 0x0311) .invalid 1) :=
  congrArg Host.Outcome.next ((State.here_own _ _ _ _ _ own.2).trans (s.commandLong_refused_now (judge_pre (by simp [judge, pgRefBad_own own small, bad])) (.inl rfl)))

theorem exec_axisSetPos_notFinite (bad : F32.fin (BitVec.ofNat 32 (argN args 1)) = false) : exec (.axisSetPos ref args) s = .next (s.complete (opRef ref 0x0317) .invalid 1) :=
  congrArg Host.Outcome.next ((State.here_own _ _ _ _ _ own.2).trans (s.command_refused (judge_pre (by
    simp [judge, axisRefBad_own own (small.trans (by decide)), bad]))))

theorem exec_pgSetLimits_notAbove {i : Nat} (bad : firstBad finPos [BitVec.ofNat 32 (argN args 1), BitVec.ofNat 32 (argN args 2), BitVec.ofNat 32 (argN args 3)] = some i) :
    exec (.pgSetLimits ref args) s = .next (s.complete (opRef ref 0x0318) .invalid (1 + i)) :=
  congrArg Host.Outcome.next ((State.here_own _ _ _ _ _ own.2).trans (s.command_refused (judge_pre (by
    simp [judge, pgRefBad_own own small, badAt_fails .invalid 1 bad]))))

end

/-- The part of O41 about refusals. -/
theorem axisCommandsAreRefused : Claims.AxisCommandsAreRefused := by
  refine ⟨?_, fun ref args s own small => ⟨fun bad => ⟨exec_pgMove_notFinite own small bad, exec_axisSetPos_notFinite own small bad⟩, fun i bad => exec_pgSetLimits_notAbove own small bad⟩⟩
  intro ref args s c op which r long q top
  have listed : (c, op, long, top) ∈ axisCommands ref args := by
    simp only [List.mem_cons, List.not_mem_nil, or_false, Prod.mk.injEq] at which
    rcases which with ⟨rfl, rfl⟩ | ⟨rfl, rfl⟩ | ⟨rfl, rfl⟩ | ⟨rfl, rfl⟩ | ⟨rfl, rfl⟩ | ⟨rfl, rfl⟩ | ⟨rfl, rfl⟩ | ⟨rfl, rfl⟩ <;> simp [axisCommands, long, top]
  exact ⟨exec_axisCommand_beyond listed, fun own low gone mode fin above => exec_axisCommand_absent listed own low gone ⟨mode, fin, above⟩, exec_axisCommand_other listed⟩

/-- Settles O41: what takes effect, what is refused, and what the next base mark does. The order of the bytes of AXIS_READ is the model's reading (log entry 2). -/
theorem axisCommandsAct : Obligations.AxisCommandsAct := ⟨axisCommandsTakeEffect, axisCommandsAreRefused, latchedAxisCommandsReachTheirAxis⟩

end Sys2Proof.Machine
end

section
/-! PROOFS. Flows of a SEQUENCE cell: what a changed flow or verb reads as, and what an update of sequence state leaves (R193, R196, R197, R200; O42, O43). -/

namespace Sys2Proof

/-- A table whose values change in place reads as the changed value of the same key. -/
theorem Tab.look_map_keys {α : Type} (t : Tab α) (g : Nat × α → Nat × α) (keys : ∀ e, (g e).1 = e.1) (a : Nat) :
    Tab.look (t.map g) a = (t.look a).map (fun x => (g (a, x)).2) := by
  induction t with
  | nil => rfl
  | cons e t ih =>
    obtain ⟨k, x⟩ := e
    have key : (g (k, x)).1 = k := keys (k, x)
    rw [List.map_cons, show g (k, x) = (k, (g (k, x)).2) from Prod.ext key rfl]
    by_cases same : k = a
    · subst same
      simp [Tab.look]
    · simp [Tab.look, same, ih]

theorem Tab.length_le_put {α : Type} (t : Tab α) (a : Nat) (x : α) : t.length ≤ (t.put a x).length := by
  induction t with
  | nil => simp [Tab.put]
  | cons e t ih =>
    unfold Tab.put
    split
    · simp
    · split
      · simp
      · simpa using ih

end Sys2Proof

namespace Sys2Proof.Machine

section
variable (s : State) (h f v : Nat)

/-- The state of a flow depends on its cell's flows and the image alone. -/
theorem State.flow_congr {s t : State} {h : Nat} (f : Nat) (flows : (s.seq h).flows = (t.seq h).flows) (img : s.img = t.img) : s.flow h f = t.flow h f := by
  simp only [State.flow, State.rx, State.recipe, flows, img]

@[simp] theorem State.seq_onSeq (g : SeqState → SeqState) : (s.onSeq h g).seq h = g (s.seq h) := by
  simp [State.seq, State.onSeq]

/-- A flow put into its cell stands there beside the others. -/
@[simp] theorem State.seq_setFlow (x : FlowState) : (s.setFlow h f x).seq h = { s.seq h with flows := (s.seq h).flows.put f x } := s.seq_onSeq h _

/-- A flow that changes leaves its cell's delay list, counts and marks. -/
@[simp] theorem State.seq_onFlow (g : FlowState → FlowState) : (s.onFlow h f g).seq h = { s.seq h with flows := (s.seq h).flows.put f (g (s.flow h f)) } :=
  s.seq_setFlow h f _

@[simp] theorem State.flow_setFlow (x : FlowState) : (s.setFlow h f x).flow h f = x := by
  simp [State.flow]

@[simp] theorem State.flow_onFlow (g : FlowState → FlowState) : (s.onFlow h f g).flow h f = g (s.flow h f) := s.flow_setFlow h f _

theorem State.flow_onFlow_ne (g : FlowState → FlowState) {k : Nat} (other : k ≠ f) : (s.onFlow h f g).flow h k = s.flow h k := by
  simp only [State.flow, State.seq_onFlow, Tab.look_put_ne _ _ _ _ other]
  rfl

/-- A change of its cell that leaves the flows leaves a flow. -/
theorem State.flow_onSeq {g : SeqState → SeqState} (flows : ∀ q, (g q).flows = q.flows) : (s.onSeq h g).flow h f = s.flow h f :=
  State.flow_congr f (by rw [State.seq_onSeq, flows]) rfl

@[simp] theorem State.flow_counted : (s.counted h).flow h f = s.flow h f := s.flow_onSeq h f (fun _ => rfl)

@[simp] theorem State.flow_delay (k due : Nat) : (s.delay h k v due).flow h f = s.flow h f := s.flow_onSeq h f (fun _ => rfl)

@[simp] theorem State.delays_delay (due : Nat) : ((s.delay h f v due).seq h).delays = insertDelay { due := due, flow := f, verb := v } (s.seq h).delays := by
  simp [State.delay]

/-- A verb that changes changes its flow's runs at that verb. -/
@[simp] theorem State.flow_onVerb (g : VerbRun → VerbRun) :
    (s.onVerb h f v g).flow h f = { s.flow h f with verbs := (s.flow h f).verbs.put v (g ((s.flow h f).run v)) } := s.flow_onFlow h f _

@[simp] theorem State.run_onVerb (g : VerbRun → VerbRun) : ((s.onVerb h f v g).flow h f).run v = g ((s.flow h f).run v) := by
  simp [FlowState.run]

@[simp] theorem State.delays_onVerb (g : VerbRun → VerbRun) : ((s.onVerb h f v g).seq h).delays = (s.seq h).delays := by
  simp [State.onVerb]

theorem State.flow_onVerb_ne (g : VerbRun → VerbRun) {k : Nat} (other : k ≠ f) : (s.onVerb h f v g).flow h k = s.flow h k := s.flow_onFlow_ne h f _ other

/-! Resolution (R196, R200). -/

/-- The runs of a step once a verb has resolved: those whose inputs are now resolved become ready. -/
def wakeRuns (x : RecipeSec) (runs : Tab VerbRun) : Tab VerbRun :=
  runs.map (fun e => match x.verbs[e.1]?, e.2.st with
    | some d, .waiting => (e.1, { e.2 with st := readyVerb runs d })
    | _, _ => e)

/-- A run that does not wait is left alone. -/
theorem wakeRuns_look {x : RecipeSec} {runs : Tab VerbRun} {v : Nat} {r : VerbRun} (there : runs.look v = some r) (past : r.st ≠ .waiting) :
    (wakeRuns x runs).look v = some r := by
  rw [wakeRuns, Tab.look_map_keys, there, Option.map_some]
  · split
    · contradiction
    · rfl
  · intro e
    split <;> rfl

/-- A resolution changes the runs of its flow and nothing else of it. -/
theorem State.flow_resolve (st : VerbSt) : (s.resolve h f v st).flow h f =
    { s.flow h f with verbs := wakeRuns (s.rx h) ((s.flow h f).verbs.put v { (s.flow h f).run v with st := st }) } := by
  refine (State.flow_onFlow _ h f _).trans ?_
  rw [State.flow_onVerb]
  rfl

theorem State.run_resolve {st : VerbSt} (past : st ≠ .waiting) : ((s.resolve h f v st).flow h f).run v = { (s.flow h f).run v with st := st } := by
  rw [State.flow_resolve, FlowState.run, Tab.at', wakeRuns_look (Tab.look_put_same _ _ _) past]

theorem State.st_resolve {st : VerbSt} (past : st ≠ .waiting) : (((s.resolve h f v st).flow h f).run v).st = st := by
  rw [s.run_resolve h f v past]

theorem State.flow_resolve_ne (st : VerbSt) {k : Nat} (other : k ≠ f) : (s.resolve h f v st).flow h k = s.flow h k :=
  (State.flow_onFlow_ne _ h f _ other).trans (s.flow_onVerb_ne h f v _ other)

theorem State.fv_resolve (st : VerbSt) : ((s.resolve h f v st).flow h f).fv = (s.flow h f).fv := by rw [State.flow_resolve]

theorem State.calcErr_resolve (st : VerbSt) : ((s.resolve h f v st).flow h f).calcErr = (s.flow h f).calcErr := by rw [State.flow_resolve]

theorem State.delays_resolve (st : VerbSt) : ((s.resolve h f v st).seq h).delays = (s.seq h).delays := by
  simp [State.resolve]

/-! A cancelled flow (R200). -/

/-- No entry of a cancelled flow stays in the delay list. -/
theorem State.delays_cancelFlow : ∀ e ∈ ((s.cancelFlow h f).seq h).delays, e.flow ≠ f := by
  simp [State.cancelFlow]

theorem State.flow_cancelFlow : (s.cancelFlow h f).flow h f = { s.flow h f with verbs := [], live := false, paused := [] } := by
  refine (State.flow_onFlow _ h f _).trans ?_
  rw [State.flow_onSeq]
  exact fun _ => rfl

end

end Sys2Proof.Machine
end

section
/-! PROOFS. Verbs at their dispatch: the rows of the table, what each opcode leaves of its flow, and effects held for their release (R193 to R200; O42). -/

namespace Sys2Proof.Machine

open Sys2Proof.Claims

/-! The rows of the table. -/

/-- The row of each opcode, of a verb of a flow of a cell. -/
def verbRows (cell : Fin 64) (f v : Nat) : List (Instr × VerbOp) :=
  [(.vbGet cell f v, .get), (.vbCalc cell f v, .calc), (.vbDelay cell f v, .delay), (.vbWait cell f v, .wait), (.vbBranch cell f v, .branch), (.vbMerge cell f v, .merge),
    (.vbSeqSet cell f v, .set), (.vbMove cell f v, .move), (.vbRamp cell f v, .ramp), (.vbFork cell f v, .fork), (.vbMark cell f v, .mark), (.vbNext cell f v, .next),
    (.vbSeqEnd cell f v, .finish)]

/-- Each row is the event of a verb of its opcode. -/
theorem exec_verbRow {cell : Fin 64} {f v : Nat} {c : Instr} {op : VerbOp} (which : (c, op) ∈ verbRows cell f v) (s : State) :
    exec c s = .next (s.verbRow cell.val f v op) := by
  simp only [verbRows, List.mem_cons, List.not_mem_nil, or_false, Prod.mk.injEq] at which
  rcases which with ⟨rfl, rfl⟩ | ⟨rfl, rfl⟩ | ⟨rfl, rfl⟩ | ⟨rfl, rfl⟩ | ⟨rfl, rfl⟩ | ⟨rfl, rfl⟩ | ⟨rfl, rfl⟩ | ⟨rfl, rfl⟩ | ⟨rfl, rfl⟩ | ⟨rfl, rfl⟩ | ⟨rfl, rfl⟩ |
    ⟨rfl, rfl⟩ | ⟨rfl, rfl⟩ <;> rfl

section
variable {s : State} {h f v t : Nat} {d : VerbDef}

theorem RecipeSec.opOf_some {x : RecipeSec} (verb : x.verbs[v]? = some d) : x.opOf v = d.op := by
  simp only [RecipeSec.opOf, verb]

theorem State.verbRow_ready (ready : ReadyVerb s h f v t d) : s.verbRow h f v d.op = ((s.vbDispatch h f v t d).counted h).after h f := by
  obtain ⟨recipe, verb, st, active, free⟩ := ready
  simp [State.verbRow, State.handleVerb, recipe, RecipeSec.opOf_some verb, st, verb, active, free]

/-- A ready verb without its tokens is skipped. -/
theorem State.verbRow_skips (recipe : (s.recipe h).isSome = true) (verb : (s.rx h).verbs[v]? = some d) (st : ((s.flow h f).run v).st = .ready t true)
    (active : (s.flow h f).active = true) : s.verbRow h f v d.op = ((s.resolve h f v (.skipped t)).counted h).after h f := by
  simp [State.verbRow, State.handleVerb, recipe, RecipeSec.opOf_some verb, st, verb, active]

/-- A row whose verb cannot be handled changes nothing. -/
theorem State.verbRow_of_handleVerb (idle : s.handleVerb h f v = s) (op : VerbOp) : s.verbRow h f v op = s := by
  rw [State.verbRow, idle, ite_self]

theorem State.verbRow_noRecipe (recipe : s.recipe h = none) (op : VerbOp) : s.verbRow h f v op = s := by
  simp [State.verbRow, recipe]

theorem State.verbRow_otherOp (verb : (s.rx h).verbs[v]? = some d) {op : VerbOp} (other : d.op ≠ op) : s.verbRow h f v op = s := by
  simp [State.verbRow, RecipeSec.opOf_some verb, other]

theorem State.handleVerb_inactive (inactive : (s.flow h f).active = false) : s.handleVerb h f v = s := by
  unfold State.handleVerb
  split
  · simp [inactive]
  · rfl

theorem State.handleVerb_noVerb (verb : (s.rx h).verbs[v]? = none) : s.handleVerb h f v = s := by
  simp [State.handleVerb, verb]

theorem State.handleVerb_notReady (notReady : ∀ t k, ((s.flow h f).run v).st ≠ .ready t k) : s.handleVerb h f v = s := by
  unfold State.handleVerb
  split
  · rename_i st _
    exact absurd st (notReady _ _)
  · rfl

theorem State.handleVerb_blocked (verb : (s.rx h).verbs[v]? = some d) (st : ((s.flow h f).run v).st = .ready t false) (blocked : s.blocked h f d = true) :
    s.handleVerb h f v = s := by
  simp [State.handleVerb, verb, st, blocked]

end

/-! What each opcode leaves of its flow (R193 to R196). -/

section
variable (s : State) (h f v t : Nat) (d : VerbDef)

/-- A dispatch changes sequence state alone. -/
theorem State.vbDispatch_frame : s.vbDispatch h f v t d = { s with seqs := (s.vbDispatch h f v t d).seqs } := by
  unfold State.vbDispatch
  split
  case h_1 =>
    unfold State.vbGet
    dsimp only
    split <;> rfl
  case h_3 =>
    unfold State.vbDelay
    split <;> rfl
  case h_4 =>
    unfold State.vbWait
    dsimp only
    split
    · rfl
    · split <;> rfl
  all_goals rfl

/-- A verb that has an effect holds it at its dispatch. -/
theorem State.vbDispatch_effecting (eff : effecting d.op = true) : s.vbDispatch h f v t d = s.holdEffect h f v t d := by
  unfold State.vbDispatch
  split <;> simp_all [effecting]

section
variable {s h f v t d}

/-- GET of a usable point takes its value. -/
theorem State.vbGet_usable (ok : usable false (s.inp h d.a) = true) : let u := s.vbGet h f v t d
    ((u.flow h f).run v).st = .resolved 0 t ∧ (u.flow h f).fv = (s.flow h f).fv.set d.dst (fromPoint (s.formatOf d.a) (s.inp h d.a).value) := by
  simp only [State.vbGet, ok, if_true]
  exact ⟨State.st_resolve _ h f v (by simp), by rw [State.fv_resolve, State.flow_onFlow]⟩

theorem State.vbGet_unusable (bad : usable false (s.inp h d.a) = false) : let u := s.vbGet h f v t d
    ((u.flow h f).run v).st = .resolved 1 t ∧ (u.flow h f).fv = (s.flow h f).fv := by
  simp only [State.vbGet, bad, Bool.false_eq_true, if_false]
  exact ⟨s.st_resolve h f v (by simp), s.fv_resolve h f v _⟩

theorem State.vbCalc_writes : let u := s.vbCalc h f v t d
    let r := calcOp d.sub ((s.flow h f).fv.getD d.a 0) (operandOf d (s.flow h f))
    ((u.flow h f).run v).st = .resolved 0 t ∧ (u.flow h f).fv = (s.flow h f).fv.set d.dst r.1 ∧ (u.flow h f).calcErr = ((s.flow h f).calcErr || r.2) := by
  simp only [State.vbCalc]
  exact ⟨State.st_resolve _ h f v (by simp), by rw [State.fv_resolve, State.flow_onFlow], by rw [State.calcErr_resolve, State.flow_onFlow]⟩

theorem State.vbDelay_now (none : d.c = 0) : let u := s.vbDelay h f v t d
    ((u.flow h f).run v).st = .resolved 0 t ∧ (u.seq h).delays = (s.seq h).delays := by
  simp only [State.vbDelay, none, if_true]
  exact ⟨s.st_resolve h f v (by simp), s.delays_resolve h f v _⟩

/-- DELAY with a time is in flight until its entry falls due. -/
theorem State.vbDelay_enters (time : 0 < d.c) : let u := s.vbDelay h f v t d
    ((u.flow h f).run v).st = .flight ∧ (u.seq h).delays = insertDelay { due := t + d.c * 10000, flow := f, verb := v } (s.seq h).delays := by
  simp [State.vbDelay, time.ne', FlowState.run]

theorem State.vbWait_true (holds : waitTrue d.sub (s.formatOf d.a) (s.inp h d.a) (operandOf d (s.flow h f)) = true) : let u := s.vbWait h f v t d
    ((u.flow h f).run v).st = .resolved 0 t ∧ (u.seq h).delays = (s.seq h).delays := by
  simp only [State.vbWait, holds, if_true]
  exact ⟨s.st_resolve h f v (by simp), s.delays_resolve h f v _⟩

/-- WAIT whose condition does not hold is in flight, with a timeout where it has one. -/
theorem State.vbWait_false (fails : waitTrue d.sub (s.formatOf d.a) (s.inp h d.a) (operandOf d (s.flow h f)) = false) : let u := s.vbWait h f v t d
    ((u.flow h f).run v).st = .flight ∧
      (u.seq h).delays = if d.c = 0 then (s.seq h).delays else insertDelay { due := t + d.c * 10000, flow := f, verb := v } (s.seq h).delays := by
  simp only [State.vbWait, fails, Bool.false_eq_true, if_false]
  split <;> simp [FlowState.run]

/-- An effecting verb is done, keeps its operand and is not released. -/
theorem State.run_holdEffect : ((s.holdEffect h f v t d).flow h f).run v =
    { (s.flow h f).run v with st := .done t, operand := operandOf d (s.flow h f), rampFrom := if d.op = .ramp then fromPoint (s.formatOf d.a) (s.inp h d.a).value else 0 } :=
  s.run_onVerb h f v _

theorem State.flow_holdEffect : (s.holdEffect h f v t d).flow h f =
    { s.flow h f with verbs := (s.flow h f).verbs.put v (((s.holdEffect h f v t d).flow h f).run v) } := by
  rw [State.run_holdEffect]
  exact s.flow_onVerb h f v _

end

end

/-! The dispatch of a verb that is ready. -/

section
variable {cell : Fin 64} {f v t : Nat} {d : VerbDef} {s : State} {c : Instr}

/-- The row of a ready verb dispatches it, once, and only sequence state changes before the releases. -/
theorem exec_readyVerb (ready : ReadyVerb s cell.val f v t d) (which : (c, d.op) ∈ verbRows cell f v) {u : State} (dispatch : s.vbDispatch cell.val f v t d = u) :
    exec c s = .next ((u.counted cell.val).after cell.val f) ∧ u = { s with seqs := u.seqs } := by
  subst dispatch
  exact ⟨(exec_verbRow which s).trans (congrArg Host.Outcome.next (State.verbRow_ready ready)), s.vbDispatch_frame cell.val f v t d⟩

end

/-- The part of O42 about dispatches. -/
theorem verbsDispatch : Claims.VerbsDispatch := by
  intro cell f v t d s h st
  refine ⟨fun ready => ⟨fun isGet => ?_, fun isCalc => ?_, fun isBranch => ?_, fun isMerge => ?_, fun isDelay => ?_, fun isWait => ?_⟩, fun c op which => ⟨fun recipe verb isOp skip active => ?_, fun idle => ?_⟩⟩
  · obtain ⟨run, frame⟩ := exec_readyVerb (c := .vbGet cell f v) ready (by simp [verbRows, isGet]) (u := s.vbGet h f v t d) (by simp [State.vbDispatch, isGet, h])
    exact ⟨_, run, frame, State.vbGet_usable, State.vbGet_unusable⟩
  · obtain ⟨run, frame⟩ := exec_readyVerb (c := .vbCalc cell f v) ready (by simp [verbRows, isCalc]) (u := s.vbCalc h f v t d) (by simp [State.vbDispatch, isCalc, h])
    exact ⟨_, run, frame, State.vbCalc_writes⟩
  · obtain ⟨run, frame⟩ := exec_readyVerb (c := .vbBranch cell f v) ready (by simp [verbRows, isBranch]) (u := s.vbBranch h f v t d) (by simp [State.vbDispatch, isBranch, h])
    exact ⟨_, run, frame, s.st_resolve h f v (by simp), s.fv_resolve h f v _⟩
  · obtain ⟨run, frame⟩ := exec_readyVerb (c := .vbMerge cell f v) ready (by simp [verbRows, isMerge]) (u := s.resolve h f v (.resolved 0 t)) (by simp [State.vbDispatch, isMerge, h])
    exact ⟨_, run, frame, s.st_resolve h f v (by simp), s.fv_resolve h f v _⟩
  · obtain ⟨run, frame⟩ := exec_readyVerb (c := .vbDelay cell f v) ready (by simp [verbRows, isDelay]) (u := s.vbDelay h f v t d) (by simp [State.vbDispatch, isDelay, h])
    exact ⟨_, run, frame, State.vbDelay_now, State.vbDelay_enters⟩
  · obtain ⟨run, frame⟩ := exec_readyVerb (c := .vbWait cell f v) ready (by simp [verbRows, isWait]) (u := s.vbWait h f v t d) (by simp [State.vbDispatch, isWait, h])
    exact ⟨_, run, frame, State.vbWait_true, State.vbWait_false⟩
  · subst isOp
    exact ⟨s.resolve h f v (.skipped t), (exec_verbRow which s).trans (congrArg Host.Outcome.next (State.verbRow_skips recipe verb skip active)), s.st_resolve h f v (by simp), rfl⟩
  · refine (exec_verbRow which s).trans (congrArg Host.Outcome.next ?_)
    rcases idle with noRecipe | inactive | ⟨verb, otherOp | notReady | ⟨st, blocked⟩⟩ | noVerb
    · exact State.verbRow_noRecipe noRecipe op
    · exact State.verbRow_of_handleVerb (State.handleVerb_inactive inactive) op
    · exact State.verbRow_otherOp verb otherOp
    · exact State.verbRow_of_handleVerb (State.handleVerb_notReady notReady) op
    · exact State.verbRow_of_handleVerb (State.handleVerb_blocked verb st blocked) op
    · exact State.verbRow_of_handleVerb (State.handleVerb_noVerb noVerb) op

end Sys2Proof.Machine
end

section
/-! PROOFS. Releases in their order and their effects, and the head of the delay list (R195, R197, R199 to R201; O42). -/

namespace Sys2Proof.Machine

open Sys2Proof.Claims

/-! The next release of a step (R199). -/

/-- A run was skipped. -/
def VerbSt.isSkipped : VerbSt → Bool
  | .skipped _ => true
  | _ => false

/-- A verb's run awaits its release: it has an effect, is not released and was not skipped. -/
def awaitsRelease (x : RecipeSec) (e : Nat × VerbRun) : Bool := effecting (x.opOf e.1) && !e.2.released && !e.2.st.isSkipped

theorem nextRelease_cons (x : RecipeSec) (e : Nat × VerbRun) (t : Tab VerbRun) :
    nextRelease x (e :: t) = if awaitsRelease x e then some e else nextRelease x t := by
  obtain ⟨v, st, operand, released, rampFrom, t0, len, last⟩ := e
  cases st <;> rfl

/-- What is released next awaits its release. -/
theorem nextRelease_awaits {x : RecipeSec} {runs : Tab VerbRun} {e : Nat × VerbRun} (next : nextRelease x runs = some e) : awaitsRelease x e = true := by
  induction runs with
  | nil => simp [nextRelease] at next
  | cons a t ih =>
    rw [nextRelease_cons] at next
    split at next
    · obtain rfl := Option.some.inj next
      assumption
    · exact ih next

/-- A run that takes the place of the one released next is released next, where it awaits its release too. -/
theorem nextRelease_put {x : RecipeSec} {runs : Tab VerbRun} {v : Nat} {q r : VerbRun} (next : nextRelease x runs = some (v, q)) (awaits : awaitsRelease x (v, r) = true) :
    nextRelease x (runs.put v r) = some (v, r) := by
  induction runs with
  | nil => simp [nextRelease] at next
  | cons a t ih =>
    obtain ⟨k, p⟩ := a
    unfold Tab.put
    split
    · rw [nextRelease_cons, if_pos awaits]
    · rename_i other
      split
      · rw [nextRelease_cons, if_pos awaits]
      · rw [nextRelease_cons] at next ⊢
        split at next
        · exact absurd (congrArg Prod.fst (Option.some.inj next)) other
        · rename_i passed
          rw [if_neg passed]
          exact ih next

section
variable (s : State) (h f v t : Nat)

/-- A verb is released, at a time that is then its flow's last release. -/
def State.markReleased : State := (s.onFlow h f (fun e => { e with tLast := t })).onVerb h f v (fun r => { r with released := true })

theorem State.tLast_markReleased : ((s.markReleased h f v t).flow h f).tLast = t := by
  rw [State.markReleased, State.flow_onVerb, State.flow_onFlow]

theorem State.released_markReleased : (((s.markReleased h f v t).flow h f).run v).released = true := by
  rw [State.markReleased, State.run_onVerb]

variable {s h f v}

/-- The releases of a live flow begin with that of the next verb, once that is done, at the later of its time and the flow's last release. -/
theorem State.after_releases {r : VerbRun} {td : Nat} (active : (s.flow h f).active = true) (live : (s.flow h f).live = true)
    (next : nextRelease (s.rx h) (s.flow h f).verbs = some (v, r)) (done : r.st = .done td) (last : max td (s.flow h f).tLast = t) :
    s.after h f = (((s.markReleased h f v t).releaseEffect h f v r t).releaseN h f (s.flow h f).verbs.length).deadEnd h f := by
  simp [State.after, active, State.release, State.releaseN, live, next, done, last, State.markReleased]

/-- A verb that awaits its release awaits it with its effect held. -/
theorem State.awaitsRelease_holdEffect {x : RecipeSec} {d : VerbDef} (awaits : awaitsRelease x (v, (s.flow h f).run v) = true) :
    awaitsRelease x (v, ((s.holdEffect h f v t d).flow h f).run v) = true := by
  obtain ⟨⟨eff, unreleased⟩, -⟩ : (effecting (x.opOf v) = true ∧ ((s.flow h f).run v).released = false) ∧ _ := by simpa [awaitsRelease] using awaits
  simp [awaitsRelease, State.run_holdEffect, VerbSt.isSkipped, eff, unreleased]

/-- A dispatched verb that is the next of its live flow to be released is released at once. -/
theorem State.holdEffect_releases {d : VerbDef} (active : (s.flow h f).active = true) (live : (s.flow h f).live = true)
    (next : nextRelease (s.rx h) (s.flow h f).verbs = some (v, (s.flow h f).run v)) :
    let u := (s.holdEffect h f v t d).counted h
    let at_ := max t (s.flow h f).tLast
    u.after h f = (((u.markReleased h f v at_).releaseEffect h f v (((s.holdEffect h f v t d).flow h f).run v) at_).releaseN h f (u.flow h f).verbs.length).deadEnd h f := by
  have flow : ((s.holdEffect h f v t d).counted h).flow h f = _ := (State.flow_counted _ h f).trans State.flow_holdEffect
  have released := nextRelease_put next (State.awaitsRelease_holdEffect t (d := d) (nextRelease_awaits next))
  refine State.after_releases _ (td := t) ?_ ?_ ?_ (by rw [State.run_holdEffect]) ?_ <;> rw [flow]
  · exact active
  · exact live
  · exact released

end

/-- The rows of verbs that have an effect. -/
def effectRows (cell : Fin 64) (f v : Nat) : List (Instr × VerbOp) := (verbRows cell f v).drop 6

theorem effectRows_effecting {cell : Fin 64} {f v : Nat} {c : Instr} {op : VerbOp} (which : (c, op) ∈ effectRows cell f v) : effecting op = true := by
  simp only [effectRows, verbRows, List.drop_succ_cons, List.drop_zero, List.mem_cons, List.not_mem_nil, or_false, Prod.mk.injEq] at which
  rcases which with ⟨-, rfl⟩ | ⟨-, rfl⟩ | ⟨-, rfl⟩ | ⟨-, rfl⟩ | ⟨-, rfl⟩ | ⟨-, rfl⟩ | ⟨-, rfl⟩ <;> rfl

/-- The part of O42 about effects that are held and released in order. -/
theorem effectsAreHeldAndReleased : Claims.EffectsAreHeldAndReleased := by
  intro cell f v t d s c h which ready
  obtain ⟨run, frame⟩ := exec_readyVerb ready (List.mem_of_mem_drop (i := 6) which) (s.vbDispatch_effecting h f v t d (effectRows_effecting which))
  have held : ((s.holdEffect h f v t d).flow h f).run v = _ := State.run_holdEffect
  refine ⟨⟨_, run, frame, by rw [held], by rw [held], by rw [State.flow_holdEffect]⟩, fun live next => ?_⟩
  obtain ⟨-, -, -, active, -⟩ := ready
  refine ⟨_, _, _, run.trans (congrArg Host.Outcome.next (State.holdEffect_releases t active live next)), ?_, by rw [held],
    State.tLast_markReleased _ h f v _, State.released_markReleased _ h f v _, rfl⟩
  rw [State.flow_counted, State.flow_holdEffect]
  exact Tab.length_le_put _ _ _

/-! The effects of releases (R193, R195, R199, R200). -/

section
variable {s : State} {h f v t : Nat} {d : VerbDef}

section
variable {g : StepDef} (named : (s.rx h).named d.a d.b.toNat = some g) (stands : g.retired = false)
include named stands

/-- FORK starts an IDLE flow other than its own at the step it names. -/
theorem State.forkEffect_idle (idle : (s.flow h d.a).st = .idle) (other : d.a ≠ f) : let u := s.forkEffect h f v d t
    (u.flow h d.a).st = .running ∧ (u.flow h d.a).pending = some g.stepId ∧ ((u.flow h f).run v).st = .resolved 0 t := by
  simp only [State.forkEffect, named, stands, Bool.false_eq_true, if_false, idle, if_true]
  rw [State.flow_resolve_ne _ _ _ _ _ other, State.flow_onFlow]
  exact ⟨rfl, rfl, State.st_resolve _ h f v (by simp)⟩

theorem State.forkEffect_busy (busy : (s.flow h d.a).st ≠ .idle) : s.forkEffect h f v d t = s.resolve h f v (.resolved 1 t) := by
  simp [State.forkEffect, named, stands, busy]

end

section
variable {target : F32}

/-- MOVE hands its target to a generator that accepts it, and is in flight. -/
theorem State.moveEffect_accepted (there : s.pgThere d.a = true) (inLimits : s.targetOk (idCell d.a) (refObj d.a) target = true)
    (accepts : s.moveReady (idCell d.a) (refObj d.a) = true) (key : s.keyStopped = false) : let u := s.moveEffect h f v d target t
    (u.pgSt (idCell d.a) (refObj d.a)).arrived = (s.pgSt (idCell d.a) (refObj d.a)).arrived ++ [{ target := target, verb := some (h, f, v, (s.flow h f).entry) }] ∧
      ((u.flow h f).run v).st = .flight ∧ u = { s with pgs := u.pgs, seqs := u.seqs } := by
  simp only [State.moveEffect, there, inLimits, accepts, key, Bool.not_false, Bool.and_self, if_true]
  refine ⟨?_, by rw [State.run_onVerb], rfl⟩
  exact congrArg PgState.arrived ((State.pgSt_congr _ _ rfl rfl).trans (s.pgSt_setPg _ _ _))

theorem State.moveEffect_refused (refused : (s.pgThere d.a && s.targetOk (idCell d.a) (refObj d.a) target && s.moveReady (idCell d.a) (refObj d.a) && !s.keyStopped) = false) :
    s.moveEffect h f v d target t = s.resolve h f v (.resolved 1 t) := by
  simp only [State.moveEffect, refused, Bool.false_eq_true, if_false]

end

/-- A role's write of a point changes points alone. -/
theorem State.roleWriteId_frame (id : Nat) (w : Word) : s.roleWriteId id w = { s with pts := (s.roleWriteId id w).pts } := by
  unfold State.roleWriteId
  split <;> rfl

theorem State.seq_roleWriteId (id : Nat) (w : Word) : (s.roleWriteId id w).seq h = s.seq h := by
  rw [State.roleWriteId_frame]
  rfl

theorem State.flow_roleWriteId (id : Nat) (w : Word) : (s.roleWriteId id w).flow h f = s.flow h f := by
  rw [State.roleWriteId_frame]
  rfl

/-- A release's write leaves the flows and the delay list of its cell. -/
theorem State.keyedWrite_keeps (k : Nat × Nat × Nat) (id : Nat) (w : Word) :
    (s.keyedWrite h k id w).flow h f = s.flow h f ∧ ((s.keyedWrite h k id w).seq h).delays = (s.seq h).delays := by
  unfold State.keyedWrite
  split_ifs
  · exact ⟨rfl, rfl⟩
  · rw [State.flow_onSeq, State.flow_roleWriteId, State.seq_onSeq, State.seq_roleWriteId]
    · exact ⟨rfl, rfl⟩
    · exact fun _ => rfl

/-- A released value's write leaves the runs of its flow and the delay list. -/
theorem State.flowRelease_keeps (k : Nat × Nat × Nat) (id : Nat) (x : F32) :
    ((s.flowRelease h k id x).flow h k.2.1).verbs = (s.flow h k.2.1).verbs ∧ ((s.flowRelease h k id x).seq h).delays = (s.seq h).delays := by
  unfold State.flowRelease
  split
  · exact ⟨congrArg FlowState.verbs (State.keyedWrite_keeps k id _).1, (State.keyedWrite_keeps (f := k.2.1) k id _).2⟩
  · simp

theorem State.rampEffect_now {target : F32} (none : d.c = 0) : s.rampEffect h f v d target t = (s.flowRelease h (t, f, v) d.a target).resolve h f v (.resolved 0 t) :=
  if_pos none

/-- RAMP with a time is in flight from its release, and its end enters the delay list. -/
theorem State.rampEffect_enters {target : F32} (time : 0 < d.c) : let u := s.rampEffect h f v d target t
    (u.flow h f).run v = { (s.flow h f).run v with st := .flight, rampT0 := t, rampLen := d.c * 10000, rampLast := ((s.flow h f).run v).rampFrom } ∧
      (u.seq h).delays = insertDelay { due := t + d.c * 10000, flow := f, verb := v } (s.seq h).delays := by
  simp only [State.rampEffect, time.ne', if_false]
  split
  · obtain ⟨runs, delays⟩ := State.flowRelease_keeps (h := h) (t, f, v) d.a ((s.flow h f).run v).rampFrom
    exact ⟨(congrArg (fun l : Tab VerbRun => l.at' v {}) runs).trans (by simp), delays.trans (by simp)⟩
  · simp [FlowState.run]

/-- A flow whose step a release closes: what the release sets of it, and what is cancelled. -/
theorem State.closes_step {g : FlowState → FlowState} (verbs : ∀ e, (g e).verbs = e.verbs) (live : ∀ e, (g e).live = e.live) :
    let u := (s.cancelFlow h f).onFlow h f g
    (u.flow h f).verbs = [] ∧ (u.flow h f).live = false ∧ (∀ e ∈ (u.seq h).delays, e.flow ≠ f) ∧ u = { s with seqs := u.seqs } := by
  simp only [State.flow_onFlow, verbs, live, State.flow_cancelFlow, State.seq_onFlow]
  exact ⟨trivial, trivial, s.delays_cancelFlow h f, rfl⟩

end

/-- The part of O42 about releases. -/
theorem releasesTakeEffect : Claims.ReleasesTakeEffect := by
  intro s h f v t d r verb u
  refine ⟨fun isSet => ?_, fun isMark fd flow => ?_, fun isFork g named stands => ?_, fun isMove => ?_, fun isRamp => ?_, fun isNext => ?_, fun isFinish => ?_⟩
  · simp only [u, State.releaseEffect, verb, isSet]
  · simp only [u, State.releaseEffect, verb, isMark, flow]
  · simp only [u, State.releaseEffect, verb, isFork]
    exact ⟨State.forkEffect_idle named stands, State.forkEffect_busy named stands⟩
  · simp only [u, State.releaseEffect, verb, isMove]
    exact ⟨State.moveEffect_accepted, State.moveEffect_refused⟩
  · simp only [u, State.releaseEffect, verb, isRamp]
    refine ⟨State.rampEffect_now, fun time => ?_⟩
    obtain ⟨run, delays⟩ := State.rampEffect_enters (s := s) (h := h) (f := f) (v := v) (t := t) (target := r.operand) time
    exact ⟨by rw [run], by rw [run], by rw [run], delays⟩
  · simp only [u, State.releaseEffect, verb, isNext]
    exact ⟨by rw [State.flow_onFlow], by rw [State.flow_onFlow], State.closes_step (fun _ => rfl) (fun _ => rfl)⟩
  · simp only [u, State.releaseEffect, verb, isFinish]
    exact ⟨by rw [State.flow_onFlow], by rw [State.flow_onFlow], State.closes_step (fun _ => rfl) (fun _ => rfl)⟩

/-! The head of the delay list (R197, R201). -/

section
variable {s : State} {h : Nat} {e : DelayEntry} {rest : List DelayEntry}

/-- The state once its cell's head has left the delay list, as a dispatch. -/
def State.headTaken (s : State) (h : Nat) (rest : List DelayEntry) : State := (s.onSeq h (fun q => { q with delays := rest })).counted h

/-- What an entry of a verb does when it falls due (R195, R197, R198). -/
def State.entryDue (s : State) (h : Nat) (d : VerbDef) (e : DelayEntry) : State :=
  match d.op with
  | .wait => s.resolve h e.flow e.verb (.resolved 1 e.due)
  | .ramp => (s.flowRelease h (e.due, e.flow, e.verb) d.a ((s.flow h e.flow).run e.verb).operand).resolve h e.flow e.verb (.resolved 0 e.due)
  | _ => s.resolve h e.flow e.verb (.resolved 0 e.due)

/-- The head is taken, and only sequence state changes by that. -/
theorem State.headTaken_takes : let u := s.headTaken h rest
    u = { s with seqs := u.seqs } ∧ (u.seq h).delays = rest ∧ (u.seq h).disp = (s.seq h).disp + 1 := by
  refine ⟨rfl, ?_, ?_⟩ <;> simp [State.headTaken, State.counted]

section
variable (queue : (s.seq h).delays = e :: rest)
include queue

/-- A step timer that falls due ends its flow's step in fault. -/
theorem State.handleHead_stepTimer (timer : e.verb = 16384) : s.handleHead h = (s.headTaken h rest).stepFault h e.flow e.due true := by
  simp [State.handleHead, queue, timer, State.headTaken]

/-- An entry of a verb that falls due resolves its verb, a ramp's after the write of its target. -/
theorem State.handleHead_verb {d : VerbDef} (verb : (s.rx h).verbs[e.verb]? = some d) (noTimer : e.verb ≠ 16384) :
    s.handleHead h = ((s.headTaken h rest).entryDue h d e).after h e.flow := by
  have verb : ((s.headTaken h rest).rx h).verbs[e.verb]? = some d := verb
  simp only [State.headTaken] at verb
  simp only [State.handleHead, queue, noTimer, if_false, verb]
  rfl

/-! The two rows of the list's head. -/

variable {cell : Fin 64} (here : cell.val = h)
include here

theorem exec_delayListExpiry_head : exec (.delayListExpiry cell) s = .next (if e.verb = 16384 then s else s.handleHead h) := by
  subst here
  exact congrArg Host.Outcome.next (by rw [queue])

theorem exec_stepTimeout_head (f : Nat) : exec (.stepTimeout cell f) s = .next (if e.verb = 16384 ∧ e.flow = f then s.handleHead h else s) := by
  subst here
  exact congrArg Host.Outcome.next (by rw [queue])

end

end

/-- The part of O42 about the delay list. -/
theorem delayHeadsFallDue : Claims.DelayHeadsFallDue := by
  intro cell f s h
  refine ⟨fun empty => ⟨congrArg Host.Outcome.next (by rw [empty]), congrArg Host.Outcome.next (by rw [empty])⟩, fun e rest queue => ?_⟩
  have expiry := exec_delayListExpiry_head queue (cell := cell) rfl
  have timeout := exec_stepTimeout_head queue (cell := cell) rfl f
  obtain ⟨frame, delays, disp⟩ := State.headTaken_takes (s := s) (h := h) (rest := rest)
  refine ⟨fun noTimer => ⟨?_, fun d verb => ⟨s.headTaken h rest, frame, delays, disp, fun isDelay => ?_, fun isWait => ?_, fun isRamp => ?_⟩⟩,
    fun timer => ⟨?_, fun other => ?_, fun own => ⟨s.headTaken h rest, ?_, delays, disp, frame⟩⟩⟩
  · rw [timeout, if_neg (fun both => noTimer both.1)]
  · simp only [expiry, if_neg noTimer, State.handleHead_verb queue verb noTimer, State.entryDue, isDelay]
  · simp only [expiry, if_neg noTimer, State.handleHead_verb queue verb noTimer, State.entryDue, isWait]
  · simp only [expiry, if_neg noTimer, State.handleHead_verb queue verb noTimer, State.entryDue, isRamp]
  · rw [expiry, if_pos timer]
  · rw [timeout, if_neg (fun both => other both.2)]
  · rw [timeout, if_pos ⟨timer, own⟩, State.handleHead_stepTimer queue timer, own]

/-- Settles O42: dispatches, effects held and released in order, what a release does, and the head of the delay list. -/
theorem verbsResolveAsTheirRowsSay : Obligations.VerbsResolveAsTheirRowsSay := ⟨verbsDispatch, effectsAreHeldAndReleased, releasesTakeEffect, delayHeadsFallDue⟩

end Sys2Proof.Machine
end

section
/-! PROOFS. Flow commands: their references, what is latched, FLOW_READ at the sealed cut, and the state table at the mark (R202, R203, R205, R211, R564; O43). -/

namespace Sys2Proof.Machine

open Sys2Proof.Claims

/-! References and latches (R202, R211). -/

/-- The flow commands that wait for a mark. -/
def flowCommands (ref : CmdRef) (args : List Nat) : List (Instr × Nat) :=
  [(.flowStart ref args, 0x0401), (.flowHold ref args, 0x0402), (.flowResume ref args, 0x0403), (.flowAbort ref args, 0x0404), (.flowDisable ref args, 0x0405),
    (.flowEnable ref args, 0x0406)]

theorem exec_flowCommand {ref : CmdRef} {args : List Nat} {c : Instr} {op : Nat} (which : (c, op) ∈ flowCommands ref args) (s : State) :
    exec c s = .next (s.flowCmd ref op args) := by
  simp only [flowCommands, List.mem_cons, List.not_mem_nil, or_false, Prod.mk.injEq] at which
  rcases which with ⟨rfl, rfl⟩ | ⟨rfl, rfl⟩ | ⟨rfl, rfl⟩ | ⟨rfl, rfl⟩ | ⟨rfl, rfl⟩ | ⟨rfl, rfl⟩ <;> rfl

section
variable {s : State} {ref : CmdRef} {op : Nat} {args : List Nat}

/-- A reference with a reserved bit set is INVALID, of whatever device. -/
theorem State.flowCmd_refBad (bad : flowRefBad (argN args 0) = true) : s.flowCmd ref op args = s.complete (longRef ref op) .invalid :=
  (if_neg (by simp [bad])).trans (s.commandLong_refused_now (judge_pre (by simp [judge, bad])) (.inl rfl))

theorem State.flowCmd_other (form : flowRefBad (argN args 0) = false) (run : s.img.run.isSome = true) (other : idDev (argN args 0) ≠ s.ownDev) :
    s.flowCmd ref op args = s.relay (idDev (argN args 0)) (opRef ref op) op args :=
  if_pos ⟨by simp [form], run, other⟩

/-- The refusals of a flow command before the gates (R211, R568). -/
def State.flowPre (s : State) (op : Nat) (args : List Nat) : List Check :=
  [(flowRefBad (argN args 0), .invalid, 0), (decide (op = 0x0401 ∧ 65536 ≤ argN args 1), .invalid, 1), (!s.flowThere (argN args 0), .absent, 0)]

/-- A reference in form to a step in range leaves the judgement to whether the flow is there. -/
theorem State.judge_flowPre (form : flowRefBad (argN args 0) = false) (step : op = 0x0401 → argN args 1 < 65536) :
    judge (s.flowPre op args) = if s.flowThere (argN args 0) then none else some (.absent, 0) := by
  have inRange : ¬ (op = 0x0401 ∧ 65536 ≤ argN args 1) := fun both => absurd (step both.1) (Nat.not_lt.mpr both.2)
  cases there : s.flowThere (argN args 0) <;> simp [State.flowPre, judge, form, inRange, there]

/-- A command whose reference is of this device is judged here, and latched where nothing refuses it. -/
theorem State.flowCmd_own (own : idDev (argN args 0) = s.ownDev) : s.flowCmd ref op args = s.commandLong ref op (s.flowPre op args) []
    (fun ref s => s.latch { op := op, home := idCell (argN args 0), obj := flowNum (argN args 0), args := args, ref := ref }) := by
  rw [State.flowCmd]
  exact State.here_own _ _ _ _ _ own

section
variable (form : flowRefBad (argN args 0) = false) (own : idDev (argN args 0) = s.ownDev)
include form own

theorem State.flowCmd_stepBeyond (isStart : op = 0x0401) (beyond : 65536 ≤ argN args 1) : s.flowCmd ref op args = s.complete (longRef ref op) .invalid 1 := by
  have first : judge (s.flowPre op args) = some (.invalid, 1) := by simp [State.flowPre, judge, form, isStart, beyond]
  rw [State.flowCmd_own own, s.commandLong_refused_now (judge_pre first) (.inl rfl)]

section
variable (step : op = 0x0401 → argN args 1 < 65536)
include step

/-- A command of a defined flow is acknowledged and latched, whatever the flow's state. -/
theorem State.flowCmd_latches (there : s.flowThere (argN args 0) = true) (adm : Admitted s op) : s.flowCmd ref op args =
    (s.accept (longRef ref op)).latch { op := op, home := idCell (argN args 0), obj := flowNum (argN args 0), args := args, ref := longRef ref op } := by
  have passes : judge (s.flowPre op args) = none := (State.judge_flowPre form step).trans (if_pos there)
  rw [State.flowCmd_own own, s.commandLong_ok _ _ _ _ _ adm passes rfl]
  rfl

theorem State.flowCmd_absent (gone : s.flowThere (argN args 0) = false) : s.flowCmd ref op args = (s.accept (longRef ref op)).complete (longRef ref op) .absent := by
  have first : judge (s.flowPre op args) = some (.absent, 0) := (State.judge_flowPre form step).trans (if_neg (by simp [gone]))
  rw [State.flowCmd_own own, s.commandLong_refused_late (judge_pre first) (by decide)]

end

end

end

/-! FLOW_READ (R211). -/

/-- What FLOW_READ returns of a flow: status, variables and entry time from the last sealed cut. -/
def State.flowReadBytes (s : State) (x : Nat) : List Byte :=
  let st := match s.cut.seqs.look (idCell x) with
    | some q => q.flows.at' (flowNum x) (s.flow (idCell x) (flowNum x))
    | none => s.flow (idCell x) (flowNum x)
  leBytes 4 (flowStat st) ++ wordsBytes st.fv ++ leBytes 8 st.entry

/-- The references of a list command with an admitted count: as many as it says, the first among them. -/
theorem listRefs_shape {args : List Nat} {most : Nat} (counted : badCount args most = (false, .invalid, 0)) :
    let l := (args.drop 1).take (argN args 0)
    l.length = argN args 0 ∧ l.headD 0 = argN args 1 ∧ argN args 1 ∈ l := by
  have inRange : ¬ (argN args 0 < 1 ∨ most < argN args 0 ∨ args.length < argN args 0 + 1) := by simpa [badCount] using counted
  have first : ((args.drop 1).take (argN args 0))[0]? = some (argN args 1) := by
    rw [List.getElem?_take_of_lt (by omega), List.getElem?_drop, List.getElem?_eq_getElem (by omega), argN, List.getD_eq_getElem _ _ (by omega)]
  refine ⟨by simp; omega, ?_, List.mem_of_getElem? first⟩
  rw [List.headD_eq_head?_getD, List.head?_eq_getElem?, first, Option.getD_some]

/-- Flows of one cell of this device are read at the last sealed cut. -/
theorem exec_flowRead_reads {ref : CmdRef} {args : List Nat} {s : State} (adm : Admitted s 0x0407) (counted : badCount args 64 = (false, .invalid, 0))
    (room : 44 * argN args 0 ≤ ref.bufLen)
    (each : ∀ x ∈ (args.drop 1).take (argN args 0), flowRefBad x = false ∧ idDev x = s.ownDev ∧ s.flowThere x = true ∧ x / 2048 = argN args 1 / 2048) :
    exec (.flowRead ref args) s = .next (s.complete (opRef ref 0x0407) .ok 0 0 (((args.drop 1).take (argN args 0)).map s.flowReadBytes).flatten) := by
  obtain ⟨len, head, first⟩ := listRefs_shape counted
  obtain ⟨-, own, -, -⟩ := each _ first
  refine congrArg Host.Outcome.next ((State.here_own _ _ _ _ _ (head ▸ own)).trans (s.command_ok _ _ _ _ _ adm ?_ rfl))
  have form := badAt_passes (p := fun x => !flowRefBad x) (l := (args.drop 1).take (argN args 0)) .invalid 0 (fun x hx => by simp [(each x hx).1])
  have cells := badAt_passes (p := fun x => decide (x / 2048 = argN args 1 / 2048)) (l := (args.drop 1).take (argN args 0)) .invalid 0 (fun x hx => decide_eq_true (each x hx).2.2.2)
  have flows := badAt_passes (p := s.flowThere) (l := (args.drop 1).take (argN args 0)) .absent 0 (fun x hx => (each x hx).2.2.1)
  simp only [counted, form, head, cells, flows, noRoom, len, Nat.not_lt.mpr room, decide_false, judge]

/-- The part of O43 about commands as they arrive. -/
theorem flowCommandsLatch : Claims.FlowCommandsLatch := by
  refine ⟨?_, fun ref args s adm counted room each => exec_flowRead_reads adm counted room each⟩
  intro ref args s c op which r
  rw [exec_flowCommand which s]
  exact ⟨fun bad => congrArg Host.Outcome.next (State.flowCmd_refBad bad),
    fun form own step => ⟨fun there adm => congrArg Host.Outcome.next (State.flowCmd_latches form own step there adm),
      fun gone => congrArg Host.Outcome.next (State.flowCmd_absent form own step gone)⟩,
    fun form own isStart beyond => congrArg Host.Outcome.next (State.flowCmd_stepBeyond form own isStart beyond),
    fun form run other => congrArg Host.Outcome.next (State.flowCmd_other form run other)⟩

/-! The state table (R202, R203, R205). -/

section
variable {s : State} {h f arg : Nat}

/-- In STOP every flow command but HOLD and ABORT is refused (R564). -/
theorem State.flowOutcome_stopped {op : Nat} (least : 0x0401 ≤ op) (most : op ≤ 0x0406) (stop : s.keyStopped = true) (noHold : op ≠ 0x0402) (noAbort : op ≠ 0x0404) :
    s.flowOutcome op h f arg = (.denied, 1, s) := by
  have named : op = 0x0401 ∨ op = 0x0403 ∨ op = 0x0405 ∨ op = 0x0406 := by omega
  have stopped : s.stoppedNow op = true := by
    rcases named with rfl | rfl | rfl | rfl <;> simp [State.stoppedNow, stop, keyCmds, stopCmds]
  exact if_pos stopped

/-- A flow that is held, and one that is disabled, read so. -/
theorem State.st_holdFlow (r : Nat) : ((s.holdFlow h f r).flow h f).st = .holding := by
  rw [State.holdFlow, State.flow_onFlow]

theorem State.st_disableFlow : ((s.disableFlow h f).flow h f).st = .disabled := by
  rw [State.disableFlow, State.flow_onFlow]

/-! FLOW_START. -/

section
variable (free : s.stoppedNow 0x0401 = false)
include free

theorem State.flowStart_busy (busy : (s.flow h f).st ≠ .idle) : s.flowOutcome 0x0401 h f arg = (.busy, 0, s) := by
  simp [State.flowOutcome, free, busy]

section
variable (idle : (s.flow h f).st = .idle)
include idle

theorem State.flowStart_starts {d : StepDef} (named : (s.rx h).named f arg = some d) (stands : d.retired = false) :
    s.flowOutcome 0x0401 h f arg = (.ok, 0, s.onFlow h f (fun e => { e with st := .running, pending := some d.stepId })) := by
  simp [State.flowOutcome, free, idle, named, stands]

theorem State.flowStart_retired {d : StepDef} (named : (s.rx h).named f arg = some d) (retired : d.retired = true) : s.flowOutcome 0x0401 h f arg = (.invalid, 1, s) := by
  simp [State.flowOutcome, free, idle, named, retired]

theorem State.flowStart_noStep (none : (s.rx h).named f arg = none) : s.flowOutcome 0x0401 h f arg = (.invalid, 1, s) := by
  simp [State.flowOutcome, free, idle, none]

/-- An IDLE flow is started, or its step is refused. -/
theorem State.flowStart_idle : (s.flowOutcome 0x0401 h f arg).1 ≠ .busy ∧ ((s.flowOutcome 0x0401 h f arg).1 ≠ .ok → (s.flowOutcome 0x0401 h f arg).2.2 = s) := by
  cases named : (s.rx h).named f arg with
  | none => simp [State.flowStart_noStep free idle named]
  | some d =>
    cases stands : d.retired with
    | false => simp [State.flowStart_starts free idle named stands]
    | true => simp [State.flowStart_retired free idle named stands]

end

end

/-- FLOW_START away from STOP: BUSY on a flow that is not IDLE; on an IDLE one its step decides. -/
theorem State.flowStart_follows (free : s.stoppedNow 0x0401 = false) : let r := s.flowOutcome 0x0401 h f arg
    (r.1 = .busy ↔ (s.flow h f).st ≠ .idle) ∧ (r.1 ≠ .ok → r.2.2 = s) := by
  intro r
  by_cases idle : (s.flow h f).st = .idle
  · obtain ⟨notBusy, keeps⟩ := State.flowStart_idle (arg := arg) free idle
    exact ⟨iff_of_false notBusy (fun busy => busy idle), keeps⟩
  · simp [r, State.flowStart_busy free idle, idle]

/-! The commands that the state alone decides. -/

theorem State.flowHold_follows (free : s.stoppedNow 0x0402 = false) : let st := (s.flow h f).st
    let r := s.flowOutcome 0x0402 h f arg
    ((r.1 = .invalid ↔ st = .idle ∨ st = .disabled) ∧ (r.1 = .denied ↔ st = .aborting) ∧ (st = .running → (r.2.2.flow h f).st = .holding)) ∧ (r.1 ≠ .ok → r.2.2 = s) := by
  intro st r
  simp only [r, State.flowOutcome, free, Bool.false_eq_true, if_false]
  cases is : (s.flow h f).st <;> simp [st, is, State.st_holdFlow]

theorem State.flowResume_follows (free : s.stoppedNow 0x0403 = false) : let st := (s.flow h f).st
    let r := s.flowOutcome 0x0403 h f arg
    ((r.1 = .invalid ↔ st ≠ .holding ∧ st ≠ .held ∧ st ≠ .running) ∧ (st = .running → r.2.2 = s)) ∧ (r.1 ≠ .ok → r.2.2 = s) := by
  intro st r
  simp only [r, State.flowOutcome, free, Bool.false_eq_true, if_false]
  cases is : (s.flow h f).st <;> simp [st, is]

theorem State.flowAbort_follows (free : s.stoppedNow 0x0404 = false) : let r := s.flowOutcome 0x0404 h f arg
    (r.1 = .invalid ↔ (s.flow h f).st = .disabled) ∧ (r.1 ≠ .ok → r.2.2 = s) := by
  intro r
  simp only [r, State.flowOutcome, free, Bool.false_eq_true, if_false]
  cases (s.flow h f).st <;> simp

theorem State.flowDisable_follows (free : s.stoppedNow 0x0405 = false) : let st := (s.flow h f).st
    let r := s.flowOutcome 0x0405 h f arg
    ((r.1 = .invalid ↔ st = .disabled) ∧ (st ≠ .disabled → (r.2.2.flow h f).st = .disabled)) ∧ (r.1 ≠ .ok → r.2.2 = s) := by
  intro st r
  simp only [r, State.flowOutcome, free, Bool.false_eq_true, if_false]
  by_cases is : (s.flow h f).st = .disabled <;> simp [st, is, State.st_disableFlow]

theorem State.flowEnable_follows (free : s.stoppedNow 0x0406 = false) : let st := (s.flow h f).st
    let r := s.flowOutcome 0x0406 h f arg
    ((r.1 = .invalid ↔ st ≠ .disabled) ∧ (st = .disabled → (r.2.2.flow h f).st = .idle)) ∧ (r.1 ≠ .ok → r.2.2 = s) := by
  intro st r
  simp only [r, State.flowOutcome, free, Bool.false_eq_true, if_false]
  by_cases is : (s.flow h f).st = .disabled <;> simp [st, is]

/-- Away from STOP a flow command that is not OK leaves every block as it was. -/
theorem State.flowOutcome_refused {op : Nat} (least : 0x0401 ≤ op) (most : op ≤ 0x0406) (free : s.stoppedNow op = false)
    (refused : (s.flowOutcome op h f arg).1 ≠ .ok) : (s.flowOutcome op h f arg).2.2 = s := by
  have named : op = 0x0401 ∨ op = 0x0402 ∨ op = 0x0403 ∨ op = 0x0404 ∨ op = 0x0405 ∨ op = 0x0406 := by omega
  rcases named with rfl | rfl | rfl | rfl | rfl | rfl
  · exact (State.flowStart_follows free).2 refused
  · exact (State.flowHold_follows free).2 refused
  · exact (State.flowResume_follows free).2 refused
  · exact (State.flowAbort_follows free).2 refused
  · exact (State.flowDisable_follows free).2 refused
  · exact (State.flowEnable_follows free).2 refused

end

/-- The part of O43 about the mark. -/
theorem flowOutcomesFollowTheTable : Claims.FlowOutcomesFollowTheTable := by
  intro s h f arg op least most st r
  refine ⟨fun l isOp home obj step => ?_, fun stop noHold noAbort => State.flowOutcome_stopped least most stop noHold noAbort, fun free => ⟨?_, ?_, ?_, ?_, ?_, ?_, ?_, ?_⟩⟩
  · subst isOp home obj step
    rfl
  · rintro rfl
    exact (State.flowStart_follows free).1
  · rintro rfl idle
    refine ⟨fun d named => ⟨fun stands => ?_, fun retired => ?_⟩, fun none => ?_⟩
    · simp only [r, State.flowStart_starts free idle named stands, State.flow_onFlow, and_self]
    · simp only [r, State.flowStart_retired free idle named retired]
    · simp only [r, State.flowStart_noStep free idle none]
  · rintro rfl
    exact (State.flowHold_follows free).1
  · rintro rfl
    exact (State.flowResume_follows free).1
  · rintro rfl
    exact (State.flowAbort_follows free).1
  · rintro rfl
    exact (State.flowDisable_follows free).1
  · rintro rfl
    exact (State.flowEnable_follows free).1
  · exact State.flowOutcome_refused least most free

/-- Settles O43: flow commands as they arrive, and the state table at their mark. The order of the bytes of FLOW_READ and what a resume does are the model's reading (log entries 2 and 40). -/
theorem flowCommandsFollowTheStateTable : Obligations.FlowCommandsFollowTheStateTable := ⟨flowCommandsLatch, flowOutcomesFollowTheTable⟩

end Sys2Proof.Machine
end

section
/-! PROOFS. Bit and stack instructions: one instruction of the table on the logic state of one cell (R218 to R220; O44). -/

namespace Sys2Proof.Machine

open Sys2Proof.Claims

/-! One instruction in one cell. -/

section
variable (s : State)

@[simp] theorem State.logic_onLogic (h : Nat) (f : LogicState → LogicState) : (s.onLogic h f).logic h = f (s.logic h) := by
  simp [State.logic, State.onLogic]

theorem State.onLogic_only (cell : Fin 64) (f : LogicState → LogicState) : LogicOnly s (s.onLogic cell.val f) cell (f (s.logic cell.val)) :=
  ⟨s.logic_onLogic _ f, fun _ other => Tab.look_put_ne _ _ _ _ other, rfl⟩

end

section
variable {s : State} {cell : Fin 64}

/-- In a cell with a program an instruction changes the logic state of its cell alone, and as its meaning does. -/
theorem State.lgRow_only {x : LogicSec} (prog : s.logicSec cell.val = some x) (f : LogicSec → Word → LogicState → LogicState) (w : Word)
    {q : LogicState} (does : f x w (s.logic cell.val) = q) : ∃ t', (Host.Outcome.next (s.lgRow cell.val f w) : Out) = .next t' ∧ LogicOnly s t' cell q := by
  subst does
  have row : s.lgRow cell.val f w = s.onLogic cell.val (f x w) := by rw [State.lgRow, prog]
  exact ⟨_, rfl, row ▸ s.onLogic_only cell (f x w)⟩

/-- In a cell without a program an instruction changes nothing. -/
theorem State.lgRow_noProgram (noProg : s.logicSec cell.val = none) (f : LogicSec → Word → LogicState → LogicState) (w : Word) : s.lgRow cell.val f w = s := by
  rw [State.lgRow, noProg]

/-- Commands that are rows of the instruction table have no effect in a cell without a program. -/
theorem exec_of_noProgram {w : Word} {rows : List (Instr × (LogicSec → Word → LogicState → LogicState))}
    (means : ∀ r ∈ rows, exec r.1 s = .next (s.lgRow cell.val r.2 w)) (noProg : s.logicSec cell.val = none) : ∀ c ∈ rows.map Prod.fst, exec c s = .next s := by
  intro c hc
  obtain ⟨r, mem, rfl⟩ := List.mem_map.mp hc
  rw [means r mem, State.lgRow_noProgram noProg]

end

/-- The bit and stack instructions and their meanings. -/
def bitRows (cell : Fin 64) (w : Word) : List (Instr × (LogicSec → Word → LogicState → LogicState)) :=
  [(.lgNop cell w, lgNop), (.lgLd cell w, lgLd), (.lgAnd cell w, lgAnd), (.lgOr cell w, lgOr), (.lgXor cell w, lgXor), (.lgSt cell w, lgSt), (.lgSet cell w, lgSet),
    (.lgRst cell w, lgRst), (.lgNot cell w, lgNot), (.lgAndp cell w, lgAndp), (.lgOrp cell w, lgOrp), (.lgPop cell w, lgPop), (.lgDup cell w, lgDup),
    (.lgPeek cell w, lgPeek), (.lgDrop cell w, lgDrop)]

theorem exec_bitRow (cell : Fin 64) (w : Word) (s : State) : ∀ r ∈ bitRows cell w, exec r.1 s = .next (s.lgRow cell.val r.2 w) := by
  refine List.forall_iff_forall_mem.mp ?_
  and_intros <;> rfl

/-! Bit operands (R219). -/

section
variable (q : LogicState) (x : LogicSec) (w : Word) (b : Bool)

/-- A written bit operand leaves ACC. -/
@[simp] theorem LogicState.bitWrite_acc : (q.bitWrite x w b).scan.acc = q.scan.acc := by
  unfold LogicState.bitWrite
  dsimp only
  split <;> rfl

/-- A bit of a word with one bit replaced. -/
theorem bitOf_withBit (v : Word) {i : Nat} (j : Nat) (inWord : i < 32) : bitOf (withBit v i b).toNat j = if j = i then b else bitOf v.toNat j := by
  have fits : setBits v.toNat i i (b2n b) < 2 ^ 32 := setBits_lt _ _ _ _ 32 inWord (by omega) v.isLt
  rw [bitOf_eq_testBit, bitOf_eq_testBit, withBit, BitVec.toNat_ofNat, Nat.mod_eq_of_lt fits, testBit_setBits _ _ _ _ _ (by omega)]
  rcases Nat.lt_trichotomy j i with below | rfl | above
  · rw [if_pos below, if_neg below.ne]
  · cases b <;> simp [b2n]
  · rw [if_neg above.not_gt, if_neg above.not_ge, if_neg above.ne']

theorem LogicState.bitRead_marker (marker : wArea w = 1) : q.bitRead x w = bitOf (q.marks (wIdx w / 32)).toNat (wIdx w % 32) := by
  simp only [LogicState.bitRead, marker]

/-- A written marker replaces its bit of its group. -/
theorem LogicState.marks_bitWrite (marker : wArea w = 1) (g : Nat) :
    (q.bitWrite x w b).marks g = if g = wIdx w / 32 then withBit (q.marks g) (wIdx w % 32) b else q.marks g := by
  simp only [LogicState.bitWrite, marker, LogicState.marks]
  split_ifs with same
  · rw [same, Tab.at_put_same]
  · exact Tab.at_put_ne _ _ _ _ _ same

/-- A written marker makes exactly that marker read so. -/
theorem LogicState.bitRead_bitWrite_marker (w2 : Word) (written : wArea w = 1) (read : wArea w2 = 1) :
    (q.bitWrite x w b).bitRead x w2 = if wIdx w2 = wIdx w then b else q.bitRead x w2 := by
  rw [LogicState.bitRead_marker _ x w2 read, LogicState.bitRead_marker _ x w2 read, LogicState.marks_bitWrite q x w b written]
  by_cases group : wIdx w2 / 32 = wIdx w / 32
  · have place : wIdx w2 = wIdx w ↔ wIdx w2 % 32 = wIdx w % 32 := by omega
    rw [if_pos group, bitOf_withBit b _ _ (Nat.mod_lt _ (by decide)), if_congr place rfl rfl]
  · rw [if_neg group, if_neg (fun same => group (by rw [same]))]

end

/-- An instruction that leaves ACC goes on with the next word. -/
theorem LogicState.step1_of_acc {q : LogicState} {a : Bool} (acc : q.scan.acc = a) : q.step1 = accGoes q a := by
  subst acc
  rfl

/-! What the entries on the stack give (R220). -/

/-- What POP leaves in ACC of an entry. -/
def StackOp.combine (o : StackOp) (s acc : Bool) : Bool :=
  match o with
  | .and => s && acc
  | .or => s || acc
  | .none => acc

section
variable {q : LogicState} {b : Bool} {o : StackOp} {rest : List (Bool × StackOp)} (top : q.scan.stack = (b, o) :: rest) (x : LogicSec) (w : Word)
include top

theorem lgPop_top : lgPop x w q = { q with scan := { q.scan with stack := rest, pc := q.scan.pc + 1, acc := o.combine b q.scan.acc } } := by
  simp only [lgPop, top]
  rfl

theorem lgPeek_top : lgPeek x w q = accGoes q b := by
  simp only [lgPeek, top]
  rfl

theorem lgDrop_top : lgDrop x w q = { q with scan := { q.scan with stack := rest, pc := q.scan.pc + 1 } } := by
  simp only [lgDrop, LogicState.step1, LogicState.onScan, top, List.drop_one, List.tail_cons]

end

/-- Settles O44: each instruction is its meaning on the logic state of its cell, and its meaning is its row of R220. -/
theorem bitInstructionsFollowTheirRows : Obligations.BitInstructionsFollowTheirRows := by
  refine ⟨fun cell w s x prog => ?_, fun cell w s noProg => exec_of_noProgram (exec_bitRow cell w s) noProg⟩
  intro q a v pushed
  have stores : lgSt x w q = accGoes (q.bitWrite x w (xor a (wNeg w))) a := LogicState.step1_of_acc (by simp [a])
  have sets : lgSet x w q = accGoes (if a then q.bitWrite x w true else q) a := LogicState.step1_of_acc (by split_ifs <;> simp [a])
  have resets : lgRst x w q = accGoes (if a then q.bitWrite x w false else q) a := LogicState.step1_of_acc (by split_ifs <;> simp [a])
  refine ⟨State.lgRow_only prog lgNop w rfl, State.lgRow_only prog lgLd w rfl, State.lgRow_only prog lgAnd w rfl, State.lgRow_only prog lgOr w rfl,
    State.lgRow_only prog lgXor w rfl, State.lgRow_only prog lgSt w stores, State.lgRow_only prog lgSet w sets, State.lgRow_only prog lgRst w resets,
    State.lgRow_only prog lgNot w rfl, State.lgRow_only prog lgAndp w rfl, State.lgRow_only prog lgOrp w rfl, State.lgRow_only prog lgDup w rfl, ?_, ?_⟩
  · intro b o rest top
    exact ⟨State.lgRow_only prog lgPop w (lgPop_top top x w), State.lgRow_only prog lgPeek w (lgPeek_top top x w), State.lgRow_only prog lgDrop w (lgDrop_top top x w)⟩
  · exact fun written w2 read => q.bitRead_bitWrite_marker x w _ w2 written read

end Sys2Proof.Machine
end

section
/-! PROOFS. Word and control instructions: wrapping sums, float results, comparison, conversion and jumps (R17, R218, R220; O45). -/

namespace Sys2Proof.Machine

open Sys2Proof.Claims

/-! INT32 patterns (R17). -/

section
variable (u v : Word)

/-- A sum of patterns is the pattern of the sum of the numbers. -/
theorem ofInt_toInt_add : BitVec.ofInt 32 (u.toInt + v.toInt) = u + v := by
  rw [BitVec.ofInt_add, BitVec.ofInt_toInt, BitVec.ofInt_toInt]

theorem ofInt_toInt_sub : BitVec.ofInt 32 (u.toInt - v.toInt) = u - v := by
  rw [Int.sub_eq_add_neg, BitVec.ofInt_add, BitVec.ofInt_neg, BitVec.ofInt_toInt, BitVec.ofInt_toInt, BitVec.sub_eq_add_neg]

theorem ofInt_toInt_mul : BitVec.ofInt 32 (u.toInt * v.toInt) = u * v := by
  rw [BitVec.ofInt_mul, BitVec.ofInt_toInt, BitVec.ofInt_toInt]

/-- The two's complement pattern of an integer is its word. -/
theorem ofNat_twos (n : Int) : BitVec.ofNat 32 (twos 32 n) = BitVec.ofInt 32 n := by
  apply BitVec.eq_of_toNat_eq
  have fits : (n % ((2 ^ 32 : Nat) : Int)).toNat < 2 ^ 32 := by omega
  rw [BitVec.toNat_ofNat, BitVec.toNat_ofInt, twos, Nat.mod_eq_of_lt fits]

end

/-! Words, arithmetic, comparison and conversion (R219, R220). -/

/-- An instruction that leaves WACC goes on with the next word. -/
theorem LogicState.step1_of_wacc {q : LogicState} {v : Word} (wacc : q.scan.wacc = v) : q.step1 = waccGoes q v := by
  subst wacc
  rfl

section
variable (x : LogicSec) (w : Word) (q : LogicState)

/-- What an arithmetic error leaves: ARITH_ERR set and 0 in WACC. -/
def LogicState.zeroed : LogicState := waccGoes (arithSet q x) 0

/-- What a float operation leaves of its result. -/
def LogicState.floatLeft (r : F32) : LogicState := if F32.fin r then waccGoes q r else q.zeroed x

/-- A written word operand leaves WACC. -/
@[simp] theorem LogicState.wordWrite_wacc (v : Word) : (q.wordWrite w v).scan.wacc = q.scan.wacc := by
  unfold LogicState.wordWrite
  dsimp only
  split <;> rfl

theorem lgStw_eq : lgStw x w q = waccGoes (q.wordWrite w q.scan.wacc) q.scan.wacc := LogicState.step1_of_wacc (q.wordWrite_wacc w _)

theorem lgAdd_eq : lgAdd x w q = if wFlt w then q.floatLeft x (F32.add q.scan.wacc (q.wordOperand x w))
    else waccGoes q (BitVec.ofInt 32 (q.scan.wacc.toInt + (q.wordOperand x w).toInt)) := by
  rw [ofInt_toInt_add]
  rfl

theorem lgSub_eq : lgSub x w q = if wFlt w then q.floatLeft x (F32.sub q.scan.wacc (q.wordOperand x w))
    else waccGoes q (BitVec.ofInt 32 (q.scan.wacc.toInt - (q.wordOperand x w).toInt)) := by
  rw [ofInt_toInt_sub]
  rfl

theorem lgMul_eq : lgMul x w q = if wFlt w then q.floatLeft x (F32.mul q.scan.wacc (q.wordOperand x w))
    else waccGoes q (BitVec.ofInt 32 (q.scan.wacc.toInt * (q.wordOperand x w).toInt)) := by
  rw [ofInt_toInt_mul]
  rfl

theorem lgDiv_eq : lgDiv x w q =
    if wFlt w then (if F32.eq (q.wordOperand x w) 0 then q.zeroed x else q.floatLeft x (F32.div q.scan.wacc (q.wordOperand x w)))
    else if q.wordOperand x w = 0 then q.zeroed x else waccGoes q (BitVec.ofInt 32 (Int.tdiv q.scan.wacc.toInt (q.wordOperand x w).toInt)) := by
  rw [← ofNat_twos]
  rfl

/-- CMP compares the numbers that the words stand for. -/
theorem lgCmp_eq : lgCmp x w q = accGoes q (let u := q.scan.wacc
    let v := q.wordOperand x w
    if wFlt w then cmpCode (wBit w) (F32.lt u v) (F32.eq u v) (F32.lt v u)
    else cmpCode (wBit w) (decide (u.toInt < v.toInt)) (decide (u.toInt = v.toInt)) (decide (v.toInt < u.toInt))) := by
  simp only [BitVec.toInt_inj]
  rfl

theorem lgCvt_toFloat (toFloat : wBit w = 0) : lgCvt x w q = waccGoes q (F32.ofInt q.scan.wacc.toInt) := if_pos toFloat

/-- A conversion to INT32 leaves its number, and an arithmetic error of a NaN. -/
theorem lgCvt_toInt (toInt : wBit w ≠ 0) : lgCvt x w q = (F32.toInt32 q.scan.wacc).elim (q.zeroed x) (waccGoes q) := by
  rw [lgCvt, if_neg toInt]
  cases F32.toInt32 q.scan.wacc <;> rfl

/-! RET (R220). -/

theorem lgRet_returns {r : Nat} {rest : List Nat} (called : q.scan.calls = r :: rest) :
    lgRet x w q = { q with scan := { q.scan with calls := rest, pc := r } } := by
  simp only [lgRet, LogicState.onScan, called]

end

end Sys2Proof.Machine
end

section
/-! PROOFS. Object instructions: edges, timers, counters, and the rows of R220 for words, objects and control (R220, R223 to R226; O45). -/

namespace Sys2Proof.Machine

open Sys2Proof.Claims

/-! Edges and timers (R220, R224, R226). -/

section
variable {q : LogicState} {x : LogicSec} {w : Word}

theorem lgEdg_edge {e : EdgeSt} (is : q.obj x (wIdx w) = .edge e) : let r := edgStep (x.kind (wIdx w)) e q.scan.acc
    lgEdg x w q = accGoes { q with objs := q.objs.put (wIdx w) (.edge r.1) } r.2 := by
  simp only [lgEdg, is]
  rfl

section
variable {t : TimerSt} (is : q.obj x (wIdx w) = .timer t)
include is

theorem lgTmr_timer : let r := tmrStep (x.kind (wIdx w)) (x.ms (wIdx w)) t q.scan.acc q.scan.ts
    lgTmr x w q = accGoes { q with objs := q.objs.put (wIdx w) (.timer r) } r.q := by
  simp only [lgTmr, is]
  rfl

/-- A time that is not negative is stored. -/
theorem lgTpt_stores (time : 0 ≤ q.scan.wacc.toInt) :
    lgTpt x w q = accGoes { q with objs := q.objs.put (wIdx w) (.timer { t with pt := q.scan.wacc.toNat, newPt := none }) } q.scan.acc := by
  simp only [lgTpt, is, if_neg (Int.not_lt.mpr time)]
  rfl

end

theorem lgTpt_negative (negative : q.scan.wacc.toInt < 0) : lgTpt x w q = q.zeroed x := if_pos negative

end

/-! Counters (R225). -/

/-- One evaluation of a counter by the counts that its inputs ask for, up and down: a count that would pass a limit stays there and is an error. -/
theorem cntStep_counts {k : ObjKind} {c : CounterSt} {cu cd up dn : Bool}
    (ups : (cu && !c.cu && decide (k ≠ .ctd) && !(cd && !c.cd && decide (k ≠ .ctu))) = up)
    (downs : (cd && !c.cd && decide (k ≠ .ctu) && !(cu && !c.cu && decide (k ≠ .ctd))) = dn) :
    cntStep k c cu cd = ({ cv := satInt32 (c.cv.toInt + (if up then 1 else 0) - (if dn then 1 else 0)), pv := c.pv, cu := cu, cd := cd },
      (up && decide (c.cv.toInt = 2147483647)) || (dn && decide (c.cv.toInt = -2147483648))) := by
  have least := c.cv.le_toInt
  have most := c.cv.toInt_lt
  subst ups downs
  simp only [cntStep]
  generalize (cu && !c.cu && decide (k ≠ .ctd)) = rise
  generalize (cd && !c.cd && decide (k ≠ .ctu)) = fall
  rw [Prod.mk.injEq]
  refine ⟨?_, ?_⟩
  · cases rise <;> cases fall <;> simp [Int.sub_eq_add_neg]
  · rw [Bool.eq_iff_iff]
    cases rise <;> cases fall <;> simp <;> omega

theorem cntStep_ctu (c : CounterSt) (a : Bool) : cntStep .ctu c a c.cd =
    ({ cv := satInt32 (c.cv.toInt + if a && !c.cu then 1 else 0), pv := c.pv, cu := a, cd := c.cd }, a && !c.cu && decide (c.cv.toInt = 2147483647)) := by
  rw [cntStep_counts (up := a && !c.cu) (dn := false) (by simp) (by simp)]
  simp

theorem cntStep_ctd (c : CounterSt) (a : Bool) : cntStep .ctd c c.cu a =
    ({ cv := satInt32 (c.cv.toInt - if a && !c.cd then 1 else 0), pv := c.pv, cu := c.cu, cd := a }, a && !c.cd && decide (c.cv.toInt = -2147483648)) := by
  rw [cntStep_counts (up := false) (dn := a && !c.cd) (by simp) (by simp)]
  simp

theorem cntStep_ctud (c : CounterSt) (a b : Bool) : let up := a && !c.cu && !(b && !c.cd)
    let dn := b && !c.cd && !(a && !c.cu)
    cntStep .ctud c a b = ({ cv := satInt32 (c.cv.toInt + (if up then 1 else 0) - (if dn then 1 else 0)), pv := c.pv, cu := a, cd := b },
      (up && decide (c.cv.toInt = 2147483647)) || (dn && decide (c.cv.toInt = -2147483648))) :=
  cntStep_counts (by simp) (by simp)

/-- What CNT leaves of the evaluation of its counter. -/
def LogicState.counted (q : LogicState) (x : LogicSec) (i : Nat) (r : CounterSt × Bool) : LogicState :=
  let y : LogicState := { q with objs := q.objs.put i (.counter r.1) }
  if r.2 then arithSet y x else y

section
variable {q : LogicState} {x : LogicSec} {w : Word} {c : CounterSt} (is : q.obj x (wIdx w) = .counter c)
include is

theorem lgCnt_ctu (kind : x.kind (wIdx w) = .ctu) : let r := cntStep .ctu c q.scan.acc c.cd
    lgCnt x w q = accGoes (q.counted x (wIdx w) r) (decide (r.1.pv.toInt ≤ r.1.cv.toInt)) := by
  simp only [lgCnt, is, kind]
  rfl

theorem lgCnt_ctd (kind : x.kind (wIdx w) = .ctd) : let r := cntStep .ctd c c.cu q.scan.acc
    lgCnt x w q = accGoes (q.counted x (wIdx w) r) (decide (r.1.cv.toInt ≤ 0)) := by
  simp only [lgCnt, is, kind]
  rfl

theorem lgCnt_ctud (kind : x.kind (wIdx w) = .ctud) {b : Bool} {o : StackOp} {rest : List (Bool × StackOp)} (top : q.scan.stack = (b, o) :: rest) :
    let r := cntStep .ctud c q.scan.acc b
    lgCnt x w q = accGoes (q.counted x (wIdx w) r) (decide (r.1.pv.toInt ≤ r.1.cv.toInt)) := by
  simp only [lgCnt, is, kind, top]
  rfl

theorem lgCrst_restores (on : q.scan.acc = true) :
    lgCrst x w q = accGoes { q with objs := q.objs.put (wIdx w) (.counter { c with cv := if x.kind (wIdx w) = .ctd then c.pv else 0 }) } q.scan.acc := by
  simp only [lgCrst, is, on]
  exact LogicState.step1_of_acc on

end

theorem lgCrst_off {q : LogicState} (x : LogicSec) (w : Word) (off : q.scan.acc = false) : lgCrst x w q = accGoes q q.scan.acc := by
  simp only [lgCrst, off]
  exact LogicState.step1_of_acc off

/-! The rows (R220). -/

/-- The word, object and control instructions and their meanings. -/
def wordRows (cell : Fin 64) (w : Word) : List (Instr × (LogicSec → Word → LogicState → LogicState)) :=
  [(.lgEdg cell w, lgEdg), (.lgTmr cell w, lgTmr), (.lgTpt cell w, lgTpt), (.lgCnt cell w, lgCnt), (.lgCrst cell w, lgCrst), (.lgLdw cell w, lgLdw), (.lgStw cell w, lgStw),
    (.lgAdd cell w, lgAdd), (.lgSub cell w, lgSub), (.lgMul cell w, lgMul), (.lgDiv cell w, lgDiv), (.lgCmp cell w, lgCmp), (.lgCvt cell w, lgCvt), (.lgAndw cell w, lgAndw),
    (.lgOrw cell w, lgOrw), (.lgXorw cell w, lgXorw), (.lgJmp cell w, lgJmp), (.lgJmpc cell w, lgJmpc), (.lgJmpcn cell w, lgJmpcn), (.lgCall cell w, lgCall),
    (.lgRet cell w, lgRet), (.lgEnd cell w, lgEnd)]

theorem exec_wordRow (cell : Fin 64) (w : Word) (s : State) : ∀ r ∈ wordRows cell w, exec r.1 s = .next (s.lgRow cell.val r.2 w) := by
  refine List.forall_iff_forall_mem.mp ?_
  and_intros <;> rfl

/-- The part of O45 about the rows. -/
theorem wordAndObjectRows : Claims.WordAndObjectRows := by
  refine ⟨fun cell w s x prog => ?_, fun cell w s noProg => exec_of_noProgram (exec_wordRow cell w s) noProg⟩
  intro q a u v jumped zeroed fl
  refine ⟨State.lgRow_only prog lgLdw w rfl, State.lgRow_only prog lgStw w (lgStw_eq x w q), State.lgRow_only prog lgAndw w rfl, State.lgRow_only prog lgOrw w rfl,
    State.lgRow_only prog lgXorw w rfl, State.lgRow_only prog lgAdd w (lgAdd_eq x w q), State.lgRow_only prog lgSub w (lgSub_eq x w q),
    State.lgRow_only prog lgMul w (lgMul_eq x w q), State.lgRow_only prog lgDiv w (lgDiv_eq x w q), State.lgRow_only prog lgCmp w (lgCmp_eq x w q),
    fun toFloat => State.lgRow_only prog lgCvt w (lgCvt_toFloat x w q toFloat), fun toInt => State.lgRow_only prog lgCvt w ((lgCvt_toInt x w q toInt).trans ?_),
    fun e is => State.lgRow_only prog lgEdg w (lgEdg_edge is), fun t is => ⟨State.lgRow_only prog lgTmr w (lgTmr_timer is), fun time => State.lgRow_only prog lgTpt w (lgTpt_stores is time)⟩,
    fun negative => State.lgRow_only prog lgTpt w (lgTpt_negative negative),
    fun c is => ⟨fun kind => ?_, fun kind => ?_, fun b o rest kind top => ?_, fun on => State.lgRow_only prog lgCrst w (lgCrst_restores is on)⟩,
    fun off => State.lgRow_only prog lgCrst w (lgCrst_off x w off), State.lgRow_only prog lgJmp w rfl, State.lgRow_only prog lgJmpc w rfl, State.lgRow_only prog lgJmpcn w rfl,
    State.lgRow_only prog lgCall w rfl, fun r rest called => State.lgRow_only prog lgRet w (lgRet_returns x w q called), State.lgRow_only prog lgEnd w rfl⟩
  · cases F32.toInt32 u <;> rfl
  · exact ⟨⟨satInt32 _, c.pv, a, c.cd⟩, rfl, rfl, rfl, rfl, State.lgRow_only prog lgCnt w (by rw [lgCnt_ctu is kind, cntStep_ctu]; rfl)⟩
  · exact ⟨⟨satInt32 _, c.pv, c.cu, a⟩, rfl, rfl, rfl, rfl, State.lgRow_only prog lgCnt w (by rw [lgCnt_ctd is kind, cntStep_ctd]; rfl)⟩
  · exact ⟨⟨satInt32 _, c.pv, a, b⟩, rfl, rfl, rfl, rfl, State.lgRow_only prog lgCnt w (by rw [lgCnt_ctud is kind top, cntStep_ctud]; rfl)⟩

/-! Timers (R223, R224, R235). -/

/-- A timer that takes a new PT is otherwise as it was. -/
theorem TimerSt.takePt_keeps (t : TimerSt) : t.takePt.running = t.running ∧ t.takePt.q = t.q ∧ t.takePt.inPrev = t.inPrev ∧ t.takePt.done = t.done ∧ t.takePt.start = t.start := by
  unfold TimerSt.takePt
  split <;> exact ⟨rfl, rfl, rfl, rfl, rfl⟩

section
variable (ms : Bool) (t : TimerSt) (inp : Bool) (ts : Nat)

/-- A running timer has reached its PT at a scan time (R224). -/
def TimerSt.due : Bool := t.running && decide (ptUs ms t ≤ etUs t ts)

/-- A timer that starts at a scan time. -/
def TimerSt.started (q : Bool) : TimerSt := { t with start := ts, running := true, done := false, q := q }

/-- A timer that ends at its PT. -/
def TimerSt.ended (q : Bool) : TimerSt := { t with q := q, running := false, done := true }

/-- A timer after an evaluation of its input. -/
def TimerSt.seen : TimerSt := { t with inPrev := inp, kept := none }

/-- The rows of a TON, on the timer with its PT taken. -/
theorem tmrStep_ton : let u := t.takePt
    tmrStep .ton ms t inp ts = TimerSt.seen (if !inp then { u with running := false, q := false, done := false }
      else if !u.inPrev then u.started ts (decide (ptUs ms u = 0))
      else if u.due ms ts then u.ended true else u) inp := rfl

/-- The rows of a TOF. -/
theorem tmrStep_tof : let u := t.takePt
    tmrStep .tof ms t inp ts = TimerSt.seen (if inp then { u with running := false, q := true, done := false }
      else if u.inPrev then u.started ts (decide (0 < ptUs ms u))
      else if u.due ms ts then u.ended false else u) inp := rfl

/-- The rows of a TP. -/
theorem tmrStep_tp : let u := t.takePt
    tmrStep .tp ms t inp ts = TimerSt.seen (if inp && !u.inPrev && !u.running then u.started ts (decide (0 < ptUs ms u))
      else if u.due ms ts then u.ended false
      else if !inp && !u.running then { u with done := false } else u) inp := rfl

theorem tmrStep_pt (k : ObjKind) : (tmrStep k ms t inp ts).pt = t.takePt.pt := by
  unfold tmrStep
  dsimp only
  split <;> split_ifs <;> rfl

/-- A timer with its PT taken is due when the timer runs and has reached that PT. -/
theorem TimerSt.due_takePt : t.takePt.due ms ts = decide (t.running = true ∧ ptUs ms t.takePt ≤ etUs t.takePt ts) := by
  rw [TimerSt.due, t.takePt_keeps.1, Bool.decide_and, Bool.decide_eq_true]

end

/-- The part of O45 about timers. -/
theorem timersFollowTheirTable : Claims.TimersFollowTheirTable := by
  intro ms t inp ts k kinds u due r starts ends keeps
  obtain ⟨run, out, prev, done, start⟩ := t.takePt_keeps
  have isDue : u.due ms ts = decide due := t.due_takePt ms ts
  refine ⟨rfl, tmrStep_pt ms t inp ts k, ?_, ?_, ?_⟩
  · rintro rfl
    have row : r = _ := tmrStep_ton ms t inp ts
    simp only [isDue, prev, u] at row
    refine ⟨fun off => ?_, fun on rise => ?_, fun on held => ⟨fun yes => ?_, fun no => ?_⟩⟩
    · simp [row, off, TimerSt.seen]
    · simp [starts, row, on, rise, TimerSt.seen, TimerSt.started, u]
    · simp [ends, row, on, held, yes, TimerSt.seen, TimerSt.ended, start]
    · simp [keeps, row, on, held, no, TimerSt.seen, run, out, done, start]
  · rintro rfl
    have row : r = _ := tmrStep_tof ms t inp ts
    simp only [isDue, prev, u] at row
    refine ⟨fun on => ?_, fun off fall => ?_, fun off low => ⟨fun yes => ?_, fun no => ?_⟩⟩
    · simp [row, on, TimerSt.seen]
    · simp [starts, row, off, fall, TimerSt.seen, TimerSt.started, u]
    · simp [ends, row, off, low, yes, TimerSt.seen, TimerSt.ended, start]
    · simp [keeps, row, off, low, no, TimerSt.seen, run, out, done, start]
  · rintro rfl
    have row : r = _ := tmrStep_tp ms t inp ts
    simp only [isDue, prev, run, u] at row
    refine ⟨fun on rise idle => ?_, fun noStart => ?_⟩
    · simp [starts, row, on, rise, idle, TimerSt.seen, TimerSt.started, u]
    · have stays : (inp && !t.inPrev && !t.running) = false := by simpa using noStart
      simp only [stays, Bool.false_eq_true, if_false] at row
      refine ⟨fun yes => ?_, fun no off idle => ?_, fun no active => ?_⟩
      · simp [ends, row, yes, TimerSt.seen, TimerSt.ended, start]
      · simp [row, no, off, idle, TimerSt.seen, out]
      · have running : (!inp && !t.running) = false := by rcases active with on | on <;> simp [on]
        simp [keeps, row, no, running, TimerSt.seen, run, out, done, start]

/-- Settles O45: each instruction is its meaning on the logic state of its cell, its meaning is its row of R220, and a timer's evaluation is the rows of R224. -/
theorem wordAndObjectInstructionsFollowTheirRows : Obligations.WordAndObjectInstructionsFollowTheirRows := ⟨wordAndObjectRows, timersFollowTheirTable⟩

end Sys2Proof.Machine
end

section
/-! PROOFS. Logic commands as they arrive: their references, what is latched, and TASK_READ and MEM_READ at the sealed cut (R233, R241, R360, R568; O46). -/

namespace Sys2Proof.Machine

open Sys2Proof.Claims

/-! Latched commands on a task (R233, R241). -/

/-- What the logic commands latch. -/
def taskLatch (args : List Nat) (op : Nat) (ref : CmdRef) : Latched :=
  { op := op, home := idCell (argN args 0), obj := taskNum (argN args 0), args := args, ref := ref }

section
variable {s : State} {ref : CmdRef} {op : Nat} {args : List Nat} {pre : List Check}

/-- A reference with a reserved bit set is INVALID, of whatever device. -/
theorem State.taskCmd_refBad (bad : taskRefBad (argN args 0) = true) : s.taskCmd ref op args pre = s.complete (longRef ref op) .invalid :=
  (if_neg (by simp [bad])).trans (s.commandLong_refused_now (judge_pre (by simp [judge, bad])) (.inl rfl))

theorem State.taskCmd_other (form : taskRefBad (argN args 0) = false) (run : s.img.run.isSome = true) (other : idDev (argN args 0) ≠ s.ownDev) :
    s.taskCmd ref op args pre = s.relay (idDev (argN args 0)) (opRef ref op) op args :=
  if_pos ⟨by simp [form], run, other⟩

/-- The refusals of a command on a task before the gates: its form, its own, and a task that is not there (R241, R568). -/
def State.taskPre (s : State) (args : List Nat) (pre : List Check) : List Check :=
  (taskRefBad (argN args 0), .invalid, 0) :: pre ++ [(!s.taskThere (argN args 0), .absent, 0)]

/-- A command whose reference is of this device is judged here. -/
theorem State.taskCmd_own (own : idDev (argN args 0) = s.ownDev) :
    s.taskCmd ref op args pre = s.commandLong ref op (s.taskPre args pre) [] (fun ref s => s.latch (taskLatch args op ref)) := by
  rw [State.taskCmd]
  exact State.here_own _ _ _ _ _ own

section
variable (form : taskRefBad (argN args 0) = false) (own : idDev (argN args 0) = s.ownDev)
include form

/-- A reference in form leaves the judgement to the command's own refusals, and then to whether the task is there. -/
theorem State.judge_taskPre : judge (s.taskPre args pre) = (judge pre).or (if s.taskThere (argN args 0) then none else some (.absent, 0)) := by
  rw [State.taskPre, List.cons_append, form, judge, judge_append]
  cases judge pre with
  | some r => rfl
  | none => cases s.taskThere (argN args 0) <;> rfl

include own

theorem State.taskCmd_invalid {d : Nat} (first : judge pre = some (.invalid, d)) : s.taskCmd ref op args pre = s.complete (longRef ref op) .invalid d := by
  have refused : judge (s.taskPre args pre) = some (.invalid, d) := by rw [State.judge_taskPre form, first, Option.some_or]
  rw [State.taskCmd_own own, s.commandLong_refused_now (judge_pre refused) (.inl rfl)]

theorem State.taskCmd_absent {d : Nat} (first : judge pre = some (.absent, d)) :
    s.taskCmd ref op args pre = (s.accept (longRef ref op)).complete (longRef ref op) .absent d := by
  have refused : judge (s.taskPre args pre) = some (.absent, d) := by rw [State.judge_taskPre form, first, Option.some_or]
  rw [State.taskCmd_own own, s.commandLong_refused_late (judge_pre refused) (by decide)]

section
variable (passes : judge pre = none)
include passes

theorem State.taskCmd_gone (gone : s.taskThere (argN args 0) = false) : s.taskCmd ref op args pre = (s.accept (longRef ref op)).complete (longRef ref op) .absent := by
  have refused : judge (s.taskPre args pre) = some (.absent, 0) := by rw [State.judge_taskPre form, passes, gone, Option.none_or, if_neg Bool.false_ne_true]
  rw [State.taskCmd_own own, s.commandLong_refused_late (judge_pre refused) (by decide)]

/-- A command that nothing refuses is acknowledged and latched. -/
theorem State.taskCmd_latches (there : s.taskThere (argN args 0) = true) (adm : Admitted s op) :
    s.taskCmd ref op args pre = (s.accept (longRef ref op)).latch (taskLatch args op (longRef ref op)) := by
  have pass : judge (s.taskPre args pre) = none := by rw [State.judge_taskPre form, passes, if_pos there, Option.none_or]
  rw [State.taskCmd_own own, s.commandLong_ok _ _ _ _ _ adm pass rfl]
  rfl

end

end

end

/-- TASK_DISABLE and TASK_ENABLE. -/
def ableCommands (ref : CmdRef) (args : List Nat) : List (Instr × Nat) := [(.taskDisable ref args, 0x0502), (.taskEnable ref args, 0x0503)]

theorem exec_ableCommand {ref : CmdRef} {args : List Nat} {c : Instr} {op : Nat} (which : (c, op) ∈ ableCommands ref args) (s : State) :
    exec c s = .next (s.taskCmd ref op args []) := by
  simp only [ableCommands, List.mem_cons, List.not_mem_nil, or_false, Prod.mk.injEq] at which
  rcases which with ⟨rfl, rfl⟩ | ⟨rfl, rfl⟩ <;> rfl

/-- A number from one bound to another passes the test of both. -/
theorem not_beyond {n least most : Nat} (low : least ≤ n) (high : n ≤ most) : ¬(n < least ∨ most < n) := fun beyond =>
  beyond.elim (Nat.not_lt.mpr low) (Nat.not_lt.mpr high)

/-! Commands on a defined task of this device (R241). -/

section
variable {ref : CmdRef} {args : List Nat} {s : State} {x : LogicSec} (form : taskRefBad (argN args 0) = false) (own : idDev (argN args 0) = s.ownDev)
  (there : s.taskThere (argN args 0) = true) (prog : s.logicSec (idCell (argN args 0)) = some x)
include form own there prog

/-! MEM_READ. -/

/-- What MEM_READ returns: the units asked for from the last sealed cut. -/
def State.memData (s : State) (x : LogicSec) (args : List Nat) : List Byte :=
  ((List.range (argN args 3)).map (fun i => memBytes x (s.logicCut (idCell (argN args 0))) (argN args 1) (argN args 2 + i))).flatten

/-- The refusals of MEM_READ before the gates, on a defined task of this device. -/
def memReadPre (ref : CmdRef) (args : List Nat) (x : LogicSec) (data : List Byte) : List Check :=
  [(false, .invalid, 0), (decide (argN args 1 < 1 ∨ 3 < argN args 1), .invalid, 1),
    (decide (argN args 3 < 1 ∨ (if argN args 1 = 3 then 64 else 256) < argN args 3), .invalid, 3),
    (decide (areaSize x (argN args 1) < argN args 2 + argN args 3), .invalid, 2), (decide (ref.bufLen < data.length), .invalid, 0), (false, .absent, 0)]

theorem execMemRead_judged : execMemRead ref args s = .next (s.command ref 0x0504 (memReadPre ref args x (s.memData x args)) []
    (fun ref s' => s'.complete ref .ok 0 0 (s.memData x args))) := by
  refine congrArg Host.Outcome.next ((State.here_own _ _ _ _ _ own).trans ?_)
  simp only [prog, form, there, Bool.true_and, Bool.not_true]
  rfl

section
variable (least : 1 ≤ argN args 1) (most : argN args 1 ≤ 3) (one : 1 ≤ argN args 3) (few : argN args 3 ≤ if argN args 1 = 3 then 64 else 256)
include least most one few

theorem execMemRead_reads (adm : Admitted s 0x0504) (inside : argN args 2 + argN args 3 ≤ areaSize x (argN args 1)) (room : (s.memData x args).length ≤ ref.bufLen) :
    execMemRead ref args s = .next (s.complete (opRef ref 0x0504) .ok 0 0 (s.memData x args)) := by
  have pass : judge (memReadPre ref args x (s.memData x args)) = none := by
    simp only [memReadPre, judge, decide_eq_false (not_beyond least most), decide_eq_false (not_beyond one few), decide_eq_false (Nat.not_lt.mpr inside),
      decide_eq_false (Nat.not_lt.mpr room)]
  rw [execMemRead_judged form own there prog, s.command_ok _ _ _ _ _ adm pass rfl]
  rfl

theorem execMemRead_past (past : areaSize x (argN args 1) < argN args 2 + argN args 3) :
    execMemRead ref args s = .next (s.complete (opRef ref 0x0504) .invalid 2) := by
  have first : judge (memReadPre ref args x (s.memData x args)) = some (.invalid, 2) := by
    simp only [memReadPre, judge, decide_eq_false (not_beyond least most), decide_eq_false (not_beyond one few), decide_eq_true past]
  rw [execMemRead_judged form own there prog, s.command_refused (judge_pre first)]

end

/-! MEM_WRITE. -/

section
variable (least : 1 ≤ argN args 1) (most : argN args 1 ≤ 2) (one : 1 ≤ argN args 3) (few : argN args 3 ≤ 64)
  (given : 4 + (if argN args 1 = 1 then 2 * argN args 3 else argN args 3) ≤ args.length)
include least most one few given

theorem execMemWrite_latches (adm : Admitted s 0x0505) (inside : argN args 2 + argN args 3 ≤ areaSize x (argN args 1)) :
    execMemWrite ref args s = .next ((s.accept (longRef ref 0x0505)).latch (taskLatch args 0x0505 (longRef ref 0x0505))) := by
  refine congrArg Host.Outcome.next (State.taskCmd_latches form own ?_ there adm)
  simp only [judge, prog, there, Bool.true_and, decide_eq_false (not_beyond least most), decide_eq_false (not_beyond one few), decide_eq_false (Nat.not_lt.mpr given),
    decide_eq_false (Nat.not_lt.mpr inside)]

theorem execMemWrite_past (past : areaSize x (argN args 1) < argN args 2 + argN args 3) :
    execMemWrite ref args s = .next (s.complete (longRef ref 0x0505) .invalid 2) := by
  refine congrArg Host.Outcome.next (State.taskCmd_invalid form own ?_)
  simp only [judge, prog, there, Bool.true_and, decide_eq_false (not_beyond least most), decide_eq_false (not_beyond one few), decide_eq_false (Nat.not_lt.mpr given),
    decide_eq_true past]

end

/-! OBJ_SET. -/

section
variable (field : argN args 2 ≤ 2)
include field

theorem execObjSet_latches {i : Nat} (named : x.objIndex (argN args 1) = some i) (adm : Admitted s 0x0506)
    (fits : objSetBad x i (argN args 2) (argN args 3) = false) :
    execObjSet ref args s = .next ((s.accept (longRef ref 0x0506)).latch (taskLatch args 0x0506 (longRef ref 0x0506))) := by
  refine congrArg Host.Outcome.next (State.taskCmd_latches form own ?_ there adm)
  simp [judge, prog, named, fits, Nat.not_lt.mpr field]

theorem execObjSet_bad {i : Nat} (named : x.objIndex (argN args 1) = some i) (bad : objSetBad x i (argN args 2) (argN args 3) = true) :
    execObjSet ref args s = .next (s.complete (longRef ref 0x0506) .invalid 2) := by
  refine congrArg Host.Outcome.next (State.taskCmd_invalid form own ?_)
  simp [judge, prog, named, bad, there, Nat.not_lt.mpr field]

theorem execObjSet_absent (unnamed : x.objIndex (argN args 1) = none) :
    execObjSet ref args s = .next ((s.accept (longRef ref 0x0506)).complete (longRef ref 0x0506) .absent 1) := by
  refine congrArg Host.Outcome.next (State.taskCmd_absent form own ?_)
  simp [judge, prog, unnamed, there, Nat.not_lt.mpr field]

end

end

/-- A field and value fit a timer's PT and a counter's CV or PV. -/
theorem objSetBad_fits {x : LogicSec} {i field value : Nat} (fits : (isTimer (x.kind i) = true ∧ field = 0 ∧ value ≤ 2147483647) ∨
    (isTimer (x.kind i) = false ∧ isCounter (x.kind i) = true ∧ 1 ≤ field)) (most : field ≤ 2) : objSetBad x i field value = false := by
  rcases fits with ⟨timer, pt, time⟩ | ⟨noTimer, counter, least⟩
  · simp [objSetBad, timer, pt, time]
  · simp [objSetBad, noTimer, counter]
    omega

theorem objSetBad_other {x : LogicSec} {i field value : Nat} (other : (isTimer (x.kind i) = false ∧ isCounter (x.kind i) = false) ∨
    (isTimer (x.kind i) = true ∧ field ≠ 0)) : objSetBad x i field value = true := by
  rcases other with ⟨noTimer, noCounter⟩ | ⟨timer, noPt⟩
  · simp [objSetBad, noTimer, noCounter]
  · simp [objSetBad, timer, noPt]

/-! TASK_READ. -/

/-- What TASK_READ returns of a task: status and N of its last scan from the last sealed cut. -/
def State.taskReadBytes (s : State) (r : Nat) : List Byte :=
  match s.logicSec (idCell r) with
  | some x => (match x.tasks[taskNum r]? with
    | some d => leBytes 4 (taskStat d ((s.logicCut (idCell r)).task x (taskNum r))) ++ leBytes 8 ((s.logicCut (idCell r)).task x (taskNum r)).lastN
    | none => [])
  | none => []

/-- Tasks of one cell of this device are read at the last sealed cut. -/
theorem exec_taskRead_reads {ref : CmdRef} {args : List Nat} {s : State} (adm : Admitted s 0x0501) (counted : badCount args 64 = (false, .invalid, 0))
    (room : 12 * argN args 0 ≤ ref.bufLen)
    (each : ∀ r ∈ (args.drop 1).take (argN args 0), taskRefBad r = false ∧ idDev r = s.ownDev ∧ s.taskThere r = true ∧ r / 2048 = argN args 1 / 2048) :
    exec (.taskRead ref args) s = .next (s.complete (opRef ref 0x0501) .ok 0 0 (((args.drop 1).take (argN args 0)).map s.taskReadBytes).flatten) := by
  obtain ⟨len, head, first⟩ := listRefs_shape counted
  obtain ⟨-, own, -, -⟩ := each _ first
  refine congrArg Host.Outcome.next ((State.here_own _ _ _ _ _ (head ▸ own)).trans (s.command_ok _ _ _ _ _ adm ?_ rfl))
  have form := badAt_passes (p := fun r => !taskRefBad r) (l := (args.drop 1).take (argN args 0)) .invalid 0 (fun r hr => by simp [(each r hr).1])
  have cells := badAt_passes (p := fun r => decide (r / 2048 = argN args 1 / 2048)) (l := (args.drop 1).take (argN args 0)) .invalid 0 (fun r hr => decide_eq_true (each r hr).2.2.2)
  have tasks := badAt_passes (p := s.taskThere) (l := (args.drop 1).take (argN args 0)) .absent 0 (fun r hr => (each r hr).2.2.1)
  simp only [counted, form, head, cells, tasks, noRoom, len, Nat.not_lt.mpr room, decide_false, judge]

/-- The part of O46 about commands as they arrive. -/
theorem logicCommandsAnswerOrLatch : Claims.LogicCommandsAnswerOrLatch := by
  refine ⟨fun ref args s adm counted room each => exec_taskRead_reads adm counted room each, ?_, ?_⟩
  · intro ref args s x form own there prog area n lt
    refine ⟨fun adm => congrArg Host.Outcome.next (State.taskCmd_latches form own rfl there adm),
      fun adm => congrArg Host.Outcome.next (State.taskCmd_latches form own rfl there adm), fun least most one few => ?_, fun least most one few given => ?_,
      fun i named field => ?_, fun unnamed field => execObjSet_absent form own there prog field unnamed⟩
    · exact ⟨fun adm inside room => execMemRead_reads form own there prog least most one few adm inside room,
        fun past => execMemRead_past form own there prog least most one few past⟩
    · exact ⟨fun adm inside => execMemWrite_latches form own there prog least most one few given adm inside,
        fun past => execMemWrite_past form own there prog least most one few given past⟩
    · exact ⟨fun adm fits => execObjSet_latches form own there prog field named adm (objSetBad_fits fits field),
        fun other => execObjSet_bad form own there prog field named (objSetBad_other other)⟩
  · intro ref args s c op which
    rw [exec_ableCommand which s]
    exact ⟨fun bad => congrArg Host.Outcome.next (State.taskCmd_refBad bad), fun form own gone => congrArg Host.Outcome.next (State.taskCmd_gone form own rfl gone),
      fun form run other => congrArg Host.Outcome.next (State.taskCmd_other form run other)⟩

end Sys2Proof.Machine
end

section
/-! PROOFS. Logic commands at their mark, and the key switch (R229, R230, R233, R241, R564; O46). -/

namespace Sys2Proof.Machine

open Sys2Proof.Claims

/-! Tasks and objects of a logic state. -/

section
variable (q : LogicState) (x : LogicSec)

@[simp] theorem LogicState.task_onTask (t : Nat) (f : TaskState → TaskState) : (q.onTask x t f).task x t = f (q.task x t) := by
  simp [LogicState.task, LogicState.onTask]

@[simp] theorem LogicState.obj_setObj (i : Nat) (o : ObjState) : (q.setObj i o).obj x i = o := by
  simp [LogicState.obj, LogicState.setObj]

/-- OBJ_SET gives a timer its PT. -/
theorem obj_objSet_timer {i field value : Nat} {t : TimerSt} (is : q.obj x i = .timer t) :
    (objSet x i field value q).obj x i = .timer { t with pt := value, newPt := none } := by
  simp only [objSet, is, LogicState.obj_setObj]

/-- OBJ_SET gives a counter its CV or PV. -/
theorem obj_objSet_counter {i field value : Nat} {c : CounterSt} (is : q.obj x i = .counter c) : (objSet x i field value q).obj x i =
    .counter (if field = 1 then { c with cv := BitVec.ofNat 32 value } else { c with pv := BitVec.ofNat 32 value }) := by
  simp only [objSet, is, LogicState.obj_setObj]

end

/-! TASK_DISABLE and TASK_ENABLE at their mark (R233). -/

section
variable (s : State) (h : Nat) (x : LogicSec) (d : TaskDef)

theorem State.roleWriteId_logics (id : Nat) (v : Word) : (s.roleWriteId id v).logics = s.logics := by
  rw [State.roleWriteId_frame]

theorem State.report_logics (id : Nat) : (s.report h id).logics = s.logics := by
  unfold State.report
  split <;> rfl

/-- The OFF_VAL of outputs is written to points alone. -/
theorem State.taskOff_logics : (s.taskOff h x d).logics = s.logics := by
  refine forL_keep (fun t : State => t.logics = s.logics) _ _ s rfl (fun r t _ kept => ?_)
  split_ifs
  · exact (t.roleWriteId_logics _ _).trans kept
  · exact kept

/-- A disable keeps the clocks. -/
theorem State.taskDisable_time : (s.taskDisable h x d).time = s.time :=
  State.time_of_roleFrame (by simp [State.taskDisable, State.roleFrame_ite])

/-- A disabled task is left as it is. -/
theorem State.taskDisable_disabled (off : ((s.logic h).task x d.task).enabled = false) : s.taskDisable h x d = s := by
  rw [State.taskDisable, off, if_neg Bool.false_ne_true]

/-- A logic state with a task disabled and its timers paused. -/
def LogicState.withTaskOff (q : LogicState) (x : LogicSec) (d : TaskDef) : LogicState :=
  (pauseTimers x (x.objsOf 0x11 d) q.rk q).onTask x d.task (fun t => { t with enabled := false })

/-- A disable of an enabled task changes the logic state of its cell alone. -/
theorem State.taskDisable_logics (on : ((s.logic h).task x d.task).enabled = true) :
    (s.taskDisable h x d).logics = (s.onLogic h (fun q => q.withTaskOff x d)).logics := by
  rw [State.taskDisable, if_pos on]
  refine forL_keep (fun u : State => u.logics = _) _ _ _ (State.taskOff_logics _ _ _ _) (fun r u _ kept => ?_)
  split_ifs
  · exact (u.report_logics _ _).trans kept
  · exact kept

/-- A disable leaves the task disabled. -/
theorem State.taskDisable_disables : (((s.taskDisable h x d).logic h).task x d.task).enabled = false := by
  cases on : ((s.logic h).task x d.task).enabled with
  | false => rwa [State.taskDisable_disabled s h x d on]
  | true =>
    have reads : (s.taskDisable h x d).logic h = (s.logic h).withTaskOff x d := by
      rw [State.logic, State.taskDisable_logics s h x d on]
      exact s.logic_onLogic h _
    rw [reads, LogicState.withTaskOff, LogicState.task_onTask]

/-- An enabled task is left as it is. -/
theorem State.taskEnable_enabled (on : ((s.logic h).task x d.task).enabled = true) : s.taskEnable h x d = s := if_pos on

/-- An enable of a disabled task leaves it enabled with FIRST_SCAN due, and changes logic state alone. -/
theorem State.taskEnable_enables (off : ((s.logic h).task x d.task).enabled = false) : let u := s.taskEnable h x d
    ((u.logic h).task x d.task).enabled = true ∧ ((u.logic h).task x d.task).first = true ∧ u = { s with logics := u.logics } := by
  intro u
  have is : u = s.onLogic h _ := if_neg (by rw [off]; exact Bool.false_ne_true)
  rw [is]
  simp only [State.logic_onLogic, LogicState.task_onTask]
  exact ⟨trivial, trivial, rfl⟩

theorem State.taskEnable_frame : s.taskEnable h x d = { s with logics := (s.taskEnable h x d).logics } := by
  unfold State.taskEnable
  split <;> rfl

end

/-! Latched logic commands (R233, R241, R564). -/

section
variable {s : State} {l : Latched} {x : LogicSec} {d : TaskDef} (prog : s.logicSec l.home = some x) (free : s.stoppedNow l.op = false)
include free

theorem State.markLogic_overtaken : s.markLogic l true = s.roleDone l.home l.ref .ok 0 s.time.n := by
  simp only [State.markLogic, free, Bool.false_eq_true, if_false, if_true]

include prog

theorem State.markLogic_disable (op : l.op = 0x0502) (named : x.tasks[l.obj]? = some d) :
    s.markLogic l false = (s.taskDisable l.home x d).roleDone l.home l.ref .ok 0 s.time.n := by
  rw [op] at free
  rw [← s.taskDisable_time l.home x d]
  simp only [State.markLogic, op, free, Bool.false_eq_true, if_false, prog, named]

theorem State.markLogic_enable (op : l.op = 0x0503) (named : x.tasks[l.obj]? = some d) :
    s.markLogic l false = (s.taskEnable l.home x d).roleDone l.home l.ref .ok 0 s.time.n := by
  have clock : (s.taskEnable l.home x d).time = s.time := by rw [State.taskEnable_frame]
  rw [op] at free
  rw [← clock]
  simp only [State.markLogic, op, free, Bool.false_eq_true, if_false, prog, named]

theorem State.markLogic_objSet {i : Nat} (op : l.op = 0x0506) (named : x.objIndex (argN l.args 1) = some i) :
    s.markLogic l false = (s.onLogic l.home (objSet x i (argN l.args 2) (argN l.args 3))).roleDone l.home l.ref .ok 0 s.time.n := by
  rw [op] at free
  simp only [State.markLogic, op, free, Bool.false_eq_true, if_false, prog, named]
  rfl

end

/-- The part of O46 about the mark. -/
theorem latchedLogicCommandsAct : Claims.LatchedLogicCommandsAct := by
  intro s l x prog done
  refine ⟨fun b stopped => if_pos stopped, fun free => State.markLogic_overtaken free, fun free d named => ⟨fun op => ?_, fun op => ?_⟩, fun free op i named => ?_⟩
  · exact ⟨_, State.markLogic_disable prog free op named, s.taskDisable_disables _ _ _, s.taskDisable_disabled _ _ _⟩
  · refine ⟨_, State.markLogic_enable prog free op named, ?_, s.taskEnable_enabled _ _ _, fun off => (s.taskEnable_enables _ _ _ off).2⟩
    cases on : ((s.logic l.home).task x d.task).enabled with
    | false => exact (s.taskEnable_enables _ _ _ on).1
    | true => rwa [s.taskEnable_enabled _ _ _ on]
  · refine ⟨_, State.markLogic_objSet prog free op named, rfl, fun t is => ?_, fun c is cv => ?_, fun c is pv => ?_⟩
    · rw [State.logic_onLogic, obj_objSet_timer _ _ is]
    · rw [State.logic_onLogic, obj_objSet_counter _ _ is, if_pos cv]
    · rw [State.logic_onLogic, obj_objSet_counter _ _ is, if_neg (by omega)]

/-! The key switch (R229, R230). -/

section
variable (s : State)

/-- What GLB_KEY shows after a sample: both pairs, and whether the key is between positions. -/
def State.showKey (a b : Fin 4) (k : KeyState) : State :=
  ((({ s with key := k } : State).wr Reg.GLB_KEY_RAW_A a.val).wr Reg.GLB_KEY_RAW_B b.val).wrb Reg.GLB_KEY_BETWEEN k.between

theorem State.showKey_shows (a b : Fin 4) (k : KeyState) : let t := s.showKey a b k
    t.rd Reg.GLB_KEY_RAW_A = a.val ∧ t.rd Reg.GLB_KEY_RAW_B = b.val ∧ t.rd Reg.GLB_KEY_EFFECTIVE = s.rd Reg.GLB_KEY_EFFECTIVE ∧
      t.flag Reg.GLB_KEY_BETWEEN = t.key.between := by
  refine ⟨?_, ?_, ?_, State.flag_wrb_same _ _ _ _ (by decide) rfl⟩
  · rw [State.showKey, State.wrb, State.rd_wr_apart _ _ _ _ _ _ (by decide), State.rd_wr_apart _ _ _ _ _ _ (by decide), State.rd_wr_same _ _ _ _ (by decide) (by decide)]
    exact Nat.mod_eq_of_lt a.isLt
  · rw [State.showKey, State.wrb, State.rd_wr_apart _ _ _ _ _ _ (by decide), State.rd_wr_same _ _ _ _ (by decide) (by decide)]
    exact Nat.mod_eq_of_lt b.isLt
  · rw [State.showKey, State.wrb, State.rd_wr_apart _ _ _ _ _ _ (by decide), State.rd_wr_apart _ _ _ _ _ _ (by decide), State.rd_wr_apart _ _ _ _ _ _ (by decide)]
    rfl

/-- A sample of both pairs leaves the key by the code that they show: the third equal one agrees it, an earlier one counts, an inconsistent one agrees nothing. -/
theorem exec_keySample (a b : Fin 4) : ∃ k : KeyState, exec (.keySample a b) s = .next (s.showKey a b k) ∧
    (∀ c, keyCode a.val b.val = some c →
      (s.key.run = 2 → s.key.runCode = c → k.agreed = some c ∧ k.between = false ∧ (s.rd Reg.GLB_KEY_EFFECTIVE ≠ c → k.pending = some c ∧ k.pendingTick = s.runNs)) ∧
      (s.key.run < 2 ∨ s.key.runCode ≠ c → k.agreed = s.key.agreed ∧ k.pending = s.key.pending ∧ k.run = (if s.key.run ≠ 0 ∧ s.key.runCode = c then s.key.run + 1 else 1) ∧
        k.runCode = c ∧ k.between = (s.key.between || decide (s.key.agreed ≠ some c)))) ∧
    (keyCode a.val b.val = none → k.run = 0 ∧ k.between = true ∧ k.agreed = s.key.agreed ∧ k.pending = s.key.pending) := by
  refine ⟨_, rfl, fun c code => ⟨fun two same => ?_, fun early => ?_⟩, fun unclear => ?_⟩
  · have third : (if s.key.run ≠ 0 ∧ s.key.runCode = c then s.key.run + 1 else 1) = 3 := by rw [if_pos ⟨by omega, same⟩, two]
    simp only [code, third]
    exact ⟨rfl, rfl, fun ineffective => ⟨if_neg (fun settled => ineffective settled.2.2), rfl⟩⟩
  · have few : ¬ 3 ≤ (if s.key.run ≠ 0 ∧ s.key.runCode = c then s.key.run + 1 else 1) := by split_ifs <;> omega
    simp only [code, if_neg few]
    refine ⟨trivial, trivial, Nat.min_eq_left (Nat.le_of_not_le few), rfl, ?_⟩
    cases s.key.agreed with
    | none => simp
    | some y => simp [eq_comm]
  · simp [unclear]

/-- A key between positions is logged and shown as a discrepancy. -/
theorem exec_keyDiscrepancy (between : s.key.between = true) : exec .keyDiscrepancy s = .next ((s.wrCause Reg.GLB_KEY_DISC 1 11).logEvent 0x404) :=
  congrArg Host.Outcome.next (if_pos between)

/-- The waiting position takes effect at a mark after the tick of its sample. -/
theorem State.keyMark_takes {c : Nat} (waits : s.key.pending = some c) (later : s.key.pendingTick < s.runNs) :
    s.keyMark = ({ s with key := { s.key with pending := none } } : State).wrCause Reg.GLB_KEY_EFFECTIVE c 11 := by
  simp only [State.keyMark, waits, if_pos later]

end

/-- The part of O46 about the key. -/
theorem keySamplesAgreeAPosition : Claims.KeySamplesAgreeAPosition := by
  refine ⟨fun a b s => ?_, fun s => ⟨fun between => ?_, fun settled => ?_⟩, fun s c waits => ⟨fun later fits => ?_, fun early => ?_⟩⟩
  · obtain ⟨k, sample, consistent, inconsistent⟩ := exec_keySample s a b
    obtain ⟨rawA, rawB, effective, between⟩ := s.showKey_shows a b k
    exact ⟨_, sample, rawA, rawB, effective, between, consistent, inconsistent, rfl⟩
  · refine ⟨_, exec_keyDiscrepancy s between, ?_, s.wrCause_key _ _ _ _,
      s.rd_wrCause_apart _ _ _ _ _ _ (by decide) (by decide)⟩
    have isSet : (s.wrCause Reg.GLB_KEY_DISC 1 11).rd Reg.GLB_KEY_DISC = 1 := s.rd_wrCause_same _ _ _ _ (by decide) (by decide) (by decide) (by decide)
    exact decide_eq_true (by rw [State.rd_congr _ _ (State.logEvent_regs _ _ _), isSet]; decide)
  · exact congrArg Host.Outcome.next (if_neg (by rw [settled]; exact Bool.false_ne_true))
  · rw [s.keyMark_takes waits later]
    refine ⟨State.rd_wrCause_same _ _ _ _ _ (by decide) (by decide) fits (by decide), ?_⟩
    rw [State.wrCause_key]
  · simp only [State.keyMark, waits, if_neg (Nat.not_lt.mpr early)]

/-- Settles O46: what a command answers or latches, what it does at its mark, and the key's samples. The layout of what TASK_READ and MEM_READ return is the model's (log entry 2). -/
theorem logicCommandsAndTheKeySwitch : Obligations.LogicCommandsAndTheKeySwitch := ⟨logicCommandsAnswerOrLatch, latchedLogicCommandsAct, keySamplesAgreeAPosition⟩

end Sys2Proof.Machine
end

section
/-! PROOFS. Historian commands: drains and their ends, release by age, cuts, the reads, and policies at their mark (R253, R256 to R259, R261, R266, R568; O47). -/

namespace Sys2Proof.Machine

open Sys2Proof.Claims

/-! Lists and sparse tables. -/

/-- The first item that fails a test stands after those that pass it. -/
theorem findIdx'_append {α : Type} {p : α → Bool} {before : List α} {x : α} (after : List α) (n : Nat) (pass : ∀ y ∈ before, p y = false) (hit : p x = true) :
    findIdx' p (before ++ x :: after) n = some (n + before.length, x) := by
  induction before generalizing n with
  | nil => exact if_pos hit
  | cons y t ih =>
    obtain ⟨first, rest⟩ := List.forall_mem_cons.mp pass
    rw [List.cons_append, findIdx', first, if_neg Bool.false_ne_true, ih (n + 1) rest, List.length_cons, Nat.add_right_comm, Nat.add_assoc]

theorem firstBad_append {α : Type} {p : α → Bool} {before : List α} {x : α} (after : List α) (pass : ∀ y ∈ before, p y = true) (fails : p x = false) :
    firstBad p (before ++ x :: after) = some before.length := by
  have found : findIdx' (fun y => !p y) (before ++ x :: after) 0 = some (0 + before.length, x) :=
    findIdx'_append after 0 (fun y hy => by simp [pass y hy]) (by simp [fails])
  simp only [firstBad, found, Nat.zero_add]

/-- Rows of one size fill their number times it. -/
theorem length_flatten_of_each {α : Type} {rows : List (List α)} {n : Nat} (each : ∀ r ∈ rows, r.length = n) : rows.flatten.length = n * rows.length := by
  have sizes : ∀ k ∈ rows.map List.length, k = n := List.forall_mem_map.mpr each
  rw [List.length_flatten, List.sum_eq_card_nsmul _ n sizes, List.length_map, smul_eq_mul, Nat.mul_comm]

/-- A table without some keys holds what it held at the others. -/
theorem Tab.look_drops {α : Type} (keys : List Nat) (t : Tab α) (k : Nat) :
    (forL keys (fun i (t : Tab α) => t.drop' i) t).look k = if k ∈ keys then none else t.look k := by
  induction keys generalizing t with
  | nil => rfl
  | cons a keys ih =>
    refine (ih (t.drop' a)).trans ?_
    by_cases here : k = a
    · simp [here]
    · simp [here, Tab.look_drop_ne t a k here]

/-! Drains (R257, R258). -/

/-- The ring after a segment takes a state of its own and its command joins those in flight. -/
def HistState.drainBegun (h : HistState) (i : Nat) (g : SegState) (ref : CmdRef) : HistState := { h with segs := h.segs.put i g, drains := h.drains ++ [(i, ref)] }

/-- The ring after a segment takes a state of its own and its drain is in flight no longer. -/
def HistState.drainEnded (h : HistState) (i : Nat) (g : SegState) : HistState := { h with drains := h.drains.filter (fun e => !(e.1 == i)), segs := h.segs.put i g }

section
variable (h : HistState) (i : Nat) (g : SegState) (ref : CmdRef)

@[simp] theorem HistState.drainBegun_seg : (h.drainBegun i g ref).seg i = g := Tab.at_put_same _ _ _ _

@[simp] theorem HistState.drainEnded_seg : (h.drainEnded i g).seg i = g := Tab.at_put_same _ _ _ _

theorem HistState.drainBegun_look {k : Nat} (other : k ≠ i) : (h.drainBegun i g ref).segs.look k = h.segs.look k := Tab.look_put_ne _ _ _ _ other

theorem HistState.drainEnded_look {k : Nat} (other : k ≠ i) : (h.drainEnded i g).segs.look k = h.segs.look k := Tab.look_put_ne _ _ _ _ other

end

section
variable {s : State} {ref : CmdRef} {q i : Nat} {g : SegState}

theorem State.drainBegin_absent (gone : s.hist.findSeq q = none) : s.drainBegin ref q = s.complete ref .absent := by
  simp only [State.drainBegin, gone]

section
variable (found : s.hist.findSeq q = some (i, g))
include found

theorem State.drainBegin_tooSmall (small : ref.bufLen < g.bytes) : s.drainBegin ref q = s.complete ref .invalid := by
  simp only [State.drainBegin, found, if_pos small]

section
variable (room : g.bytes ≤ ref.bufLen)
include room

theorem State.drainBegin_busy (busy : 4 ≤ s.hist.drains.length ∨ g.st = .draining) : s.drainBegin ref q = s.complete ref .busy := by
  simp only [State.drainBegin, found, if_neg (Nat.not_lt.mpr room), if_pos busy]

theorem State.drainBegin_begins (free : ¬(4 ≤ s.hist.drains.length ∨ g.st = .draining)) :
    s.drainBegin ref q = (s.onHist (fun h => h.drainBegun i { g with st := .draining } ref)).histRegs := by
  simp only [State.drainBegin, found, if_neg (Nat.not_lt.mpr room), if_neg free]
  rfl

end

end

end

section
variable {s : State} {ref : CmdRef} {i : Nat}

/-- An end of no drain changes nothing. -/
theorem State.drainEnd_none {st : Status} (idle : s.hist.drains.find? (fun e => e.1 = i) = none) : s.drainEnd i st = s := by
  simp only [State.drainEnd, idle]

section
variable (flying : s.hist.drains.find? (fun e => e.1 = i) = some (i, ref))
include flying

theorem State.drainEnd_ok : s.drainEnd i .ok = (((s.onHist (fun h => h.drainEnded i { s.hist.seg i with st := .sealed, drained := true })).count 0x3C5).complete ref .ok 0
    ((s.hist.seg i).seq + 2 ^ 32 * (s.hist.seg i).bytes) (segBytes s.hist (s.hist.seg i))).histRegs := by
  simp only [State.drainEnd, flying, decide_true, if_true, Bool.or_true]
  rfl

theorem State.drainEnd_aborted :
    s.drainEnd i .aborted = ((s.onHist (fun h => h.drainEnded i { s.hist.seg i with st := .sealed })).complete ref .aborted).histRegs := by
  have failed : decide (Status.aborted = .ok) = false := rfl
  simp only [State.drainEnd, flying, failed, Bool.or_false, if_neg Bool.false_ne_true]
  rfl

end

end

/-- An admitted SEG_DRAIN is acknowledged, and then its drain begins or is refused. -/
theorem exec_segDrain {ref : CmdRef} {args : List Nat} {s : State} (adm : Admitted s 0x0601) :
    exec (.segDrain ref args) s = .next ((s.accept (longRef ref 0x0601)).drainBegin (longRef ref 0x0601) (argN args 0)) :=
  congrArg Host.Outcome.next (s.commandLong_ok _ _ _ _ _ adm rfl rfl)

/-- The part of O47 about drains. -/
theorem segmentsDrain : Claims.SegmentsDrain := by
  refine ⟨fun ref args s adm => ?_, fun seg s => ?_⟩
  · intro l
    have ring : (s.accept l).hist = s.hist := s.accept_hist l
    rw [exec_segDrain adm]
    refine ⟨fun gone => congrArg Host.Outcome.next (State.drainBegin_absent (ring ▸ gone)), fun i g found => ?_⟩
    rw [← ring] at found ⊢
    refine ⟨fun small => congrArg Host.Outcome.next (State.drainBegin_tooSmall found small),
      fun room busy => congrArg Host.Outcome.next (State.drainBegin_busy found room busy), fun room few closed => ?_⟩
    have free : ¬(4 ≤ (s.accept l).hist.drains.length ∨ g.st = .draining) := by
      rintro (many | draining)
      · exact Nat.not_lt.mpr many few
      · rw [closed] at draining
        cases draining
    exact ⟨(s.accept l).onHist (fun h => h.drainBegun i { g with st := .draining } l), congrArg Host.Outcome.next (State.drainBegin_begins found room free), rfl, rfl,
      HistState.drainBegun_seg .., fun k other => HistState.drainBegun_look _ _ _ _ other⟩
  · intro g
    refine ⟨fun idle => ⟨congrArg Host.Outcome.next (State.drainEnd_none idle), congrArg Host.Outcome.next (State.drainEnd_none idle)⟩, fun ref flying => ⟨?_, ?_⟩⟩
    · exact ⟨s.onHist (fun h => h.drainEnded seg.val { g with st := .sealed, drained := true }), congrArg Host.Outcome.next (State.drainEnd_ok flying), rfl,
        HistState.drainEnded_seg .., fun k other => HistState.drainEnded_look _ _ _ other⟩
    · exact ⟨s.onHist (fun h => h.drainEnded seg.val { g with st := .sealed }), congrArg Host.Outcome.next (State.drainEnd_aborted flying), rfl,
        HistState.drainEnded_seg .., fun k other => HistState.drainEnded_look _ _ _ other⟩

/-! SEG_RELEASE (R259). The kernel cannot reduce `HistState.seqAge` of a state not known, so the lemmas speak of any measure of age. -/

/-- The segments of a list of an age or older, by a measure of the age of a SEQ. -/
def olderSegs (age : Nat → Option Nat) (a : Nat) (l : Tab SegState) : Tab SegState := l.filter (fun e => (age e.2.seq).any (fun b => decide (a ≤ b)))

theorem mem_olderSegs {age : Nat → Option Nat} {a : Nat} {l : Tab SegState} {e : Nat × SegState} :
    e ∈ olderSegs age a l ↔ e ∈ l ∧ ∃ b, age e.2.seq = some b ∧ a ≤ b := by
  simp only [olderSegs, List.mem_filter, Option.any_eq_true, decide_eq_true_eq]

/-- The ring without the segments of a list. -/
def HistState.without (h : HistState) (l : Tab SegState) : HistState := { h with segs := forL (l.map (·.1)) (fun i t => t.drop' i) h.segs }

theorem HistState.without_look_mem {h : HistState} {l : Tab SegState} {e : Nat × SegState} (freed : e ∈ l) : (h.without l).segs.look e.1 = none :=
  (Tab.look_drops _ _ _).trans (if_pos (List.mem_map_of_mem freed))

theorem HistState.without_look_other {h : HistState} {l : Tab SegState} {k : Nat} (kept : ∀ e ∈ l, e.1 ≠ k) : (h.without l).segs.look k = h.segs.look k := by
  refine (Tab.look_drops _ _ _).trans (if_neg fun freed => ?_)
  obtain ⟨e, he, key⟩ := List.mem_map.mp freed
  exact kept e he key

/-- A release of some segments: BUSY where one of them is DRAINING, and otherwise it frees them. -/
def State.releaseAll (s : State) (ref : CmdRef) (l : Tab SegState) : State :=
  if l.any (fun e => e.2.st = .draining) then s.complete ref .busy else (s.onHist (fun h => h.without l)).histRegs.complete ref .ok

/-- A release by a measure of age: INVALID of a SEQ without an age, and otherwise of the sealed segments of its age or older. -/
def State.releaseBy (s : State) (ref : CmdRef) (age : Nat → Option Nat) (q : Nat) : State :=
  match age q with
  | none => s.complete ref .invalid
  | some a => s.releaseAll ref (olderSegs age a s.hist.sealedSegs)

/-- SEG_RELEASE goes by the ages of the ring. Its definition is unfolded as a function, before it meets a state, and the measure is named, so that the kernel compares no ages. -/
theorem State.releaseTo_eq (s : State) (ref : CmdRef) (q : Nat) : s.releaseTo ref q = s.releaseBy ref s.hist.seqAge q := by
  obtain ⟨age, measure⟩ : ∃ age, s.hist.seqAge = age := ⟨_, rfl⟩
  generalize unfolded : State.releaseTo = release
  delta State.releaseTo at unfolded
  subst unfolded
  beta_reduce
  rw [measure]
  unfold State.releaseBy
  cases age q with
  | none => rfl
  | some a =>
    refine congrArg (s.releaseAll ref) (List.filter_congr fun e _ => ?_)
    beta_reduce
    cases age e.2.seq <;> rfl

section
variable {s : State} {ref : CmdRef} {l : Tab SegState}

theorem State.releaseAll_busy {e : Nat × SegState} (freed : e ∈ l) (draining : e.2.st = .draining) : s.releaseAll ref l = s.complete ref .busy :=
  if_pos (List.any_eq_true.mpr ⟨e, freed, decide_eq_true draining⟩)

theorem State.releaseAll_frees (idle : ∀ e ∈ l, e.2.st ≠ .draining) : s.releaseAll ref l = (s.onHist (fun h => h.without l)).histRegs.complete ref .ok := by
  refine if_neg fun busy => ?_
  obtain ⟨e, freed, draining⟩ := List.any_eq_true.mp busy
  exact idle e freed (of_decide_eq_true draining)

variable {age : Nat → Option Nat} {q a : Nat}

theorem State.releaseBy_newer (newer : age q = none) : s.releaseBy ref age q = s.complete ref .invalid := by
  simp only [State.releaseBy, newer]

theorem State.releaseBy_aged (aged : age q = some a) : s.releaseBy ref age q = s.releaseAll ref (olderSegs age a s.hist.sealedSegs) := by
  simp only [State.releaseBy, aged]

end

/-- An admitted SEG_RELEASE is judged by the ages of the ring alone. -/
theorem exec_segRelease {ref : CmdRef} {args : List Nat} {s : State} (adm : Admitted s 0x0602) :
    exec (.segRelease ref args) s = .next (s.releaseBy (opRef ref 0x0602) s.hist.seqAge (argN args 0)) :=
  congrArg Host.Outcome.next ((s.command_ok _ _ _ _ _ adm rfl rfl).trans (s.releaseTo_eq _ _))

/-! SEG_CUT (R256). -/

/-- An admitted SEG_CUT waits for the mark where a segment fills, and is OK where none does. -/
theorem exec_segCut {ref : CmdRef} {args : List Nat} {s : State} (adm : Admitted s 0x0603) : exec (.segCut ref args) s =
    .next (if (s.hist.seg s.hist.idx).st = .filling then s.onHist (fun h => { h with cutRefs := h.cutRefs ++ [opRef ref 0x0603] }) else s.complete (opRef ref 0x0603) .ok) :=
  congrArg Host.Outcome.next (s.command_ok _ _ _ _ _ adm rfl rfl)

/-! GROUP_READ and POLICY_READ (R253, R266). -/

/-- A command that reads the entries that its items name of a list of some length, the answer as given. -/
def State.readItems (s : State) (ref : CmdRef) (op most : Nat) (args : List Nat) (size : Nat) (data : List Byte) : State :=
  s.command ref op [badCount args most, badAt (fun i => decide (i < size)) ((args.drop 1).take (argN args 0)) .absent, noRoom ref data.length] []
    (fun ref s => s.complete ref .ok 0 0 data)

theorem exec_groupRead (ref : CmdRef) (args : List Nat) (s : State) :
    exec (.groupRead ref args) s = .next (s.readItems ref 0x0604 256 args s.hist.groups.length (listed s.hist.groups args groupBytes)) :=
  congrArg (fun data => Host.Outcome.next (s.readItems ref 0x0604 256 args s.hist.groups.length data))
    (congrArg List.flatten (List.map_congr_left fun i _ => by cases s.hist.groups[i]? <;> rfl))

theorem exec_policyRead (ref : CmdRef) (args : List Nat) (s : State) :
    exec (.policyRead ref args) s = .next (s.readItems ref 0x0605 64 args s.hist.policies.length (listed s.hist.policies args policyBytes)) :=
  congrArg (fun data => Host.Outcome.next (s.readItems ref 0x0605 64 args s.hist.policies.length data))
    (congrArg List.flatten (List.map_congr_left fun i _ => by cases s.hist.policies[i]? <;> rfl))

section
variable {s : State} {ref : CmdRef} {op most size : Nat} {args : List Nat} {data : List Byte}

theorem State.readItems_badCount (bad : (badCount args most).1 = true) : s.readItems ref op most args size data = s.complete (opRef ref op) .invalid := by
  have first : badCount args most = (true, .invalid, 0) := Prod.ext bad rfl
  exact s.command_refused (judge_pre (by rw [first, judge]))

section
variable (counted : (badCount args most).1 = false)
include counted

/-- The answer is given where all items are there and the buffer takes them. -/
theorem State.readItems_ok (adm : Admitted s op) (named : ∀ k ∈ (args.drop 1).take (argN args 0), k < size) (room : data.length ≤ ref.bufLen) :
    s.readItems ref op most args size data = s.complete (opRef ref op) .ok 0 0 data := by
  have count : badCount args most = (false, .invalid, 0) := Prod.ext counted rfl
  have inside := badAt_passes .absent 0 (fun k hk => decide_eq_true (named k hk))
  refine s.command_ok _ _ _ _ _ adm ?_ rfl
  simp only [count, inside, noRoom, Nat.not_lt.mpr room, decide_false, judge]

/-- An item past the list is ABSENT at its place. -/
theorem State.readItems_past {before after : List Nat} {k : Nat} (items : (args.drop 1).take (argN args 0) = before ++ k :: after)
    (named : ∀ m ∈ before, m < size) (past : size ≤ k) : s.readItems ref op most args size data = s.complete (opRef ref op) .absent before.length := by
  have count : badCount args most = (false, .invalid, 0) := Prod.ext counted rfl
  have first := badAt_fails (st := .absent) (base := 0) (firstBad_append after (fun m hm => decide_eq_true (named m hm)) (decide_eq_false (Nat.not_lt.mpr past)))
  rw [Nat.zero_add] at first
  refine s.command_refused (judge_pre ?_)
  simp only [count, items, first, judge]

end

end

theorem length_policyBytes (p : PolicyDef) : (policyBytes p).length = 16 := by
  simp [policyBytes]

/-- Policy records that are there take 16 bytes each. -/
theorem length_listed_policies {l : List PolicyDef} {args : List Nat} {most : Nat} (counted : (badCount args most).1 = false)
    (named : ∀ k ∈ (args.drop 1).take (argN args 0), k < l.length) : (listed l args policyBytes).length = 16 * argN args 0 := by
  obtain ⟨count, -⟩ := countedItems_length (args := args) (hi := most) (Prod.ext counted rfl)
  refine (length_flatten_of_each (List.forall_mem_map.mpr fun k hk => ?_)).trans (by rw [List.length_map, count])
  rw [List.getElem?_eq_getElem (named k hk)]
  exact length_policyBytes _

/-! SEG_LIST (R266). -/

/-- The rows that SEG_LIST returns: the segments not free from a SEQ on. -/
def HistState.segRows (h : HistState) (q n : Nat) : List (List Byte) :=
  ((List.range (min 64 n)).map (fun k => ((h.segs.filter (fun e => decide (e.2.st ≠ .free))).filter (fun e => e.2.seq = (q + k) % 2 ^ 32)).map (fun e => segRow e.2))).flatten

theorem length_segRow (g : SegState) : (segRow g).length = 24 := by
  simp [segRow]

theorem HistState.length_segRows (h : HistState) (q n : Nat) : (h.segRows q n).flatten.length = 24 * (h.segRows q n).length := by
  refine length_flatten_of_each fun row there => ?_
  obtain ⟨rows, one, inRows⟩ := List.mem_flatten.mp there
  obtain ⟨k, -, rfl⟩ := List.mem_map.mp one
  obtain ⟨e, -, rfl⟩ := List.mem_map.mp inRows
  exact length_segRow e.2

/-- SEG_LIST is refused only for want of room. -/
theorem exec_segList (ref : CmdRef) (args : List Nat) (s : State) : exec (.segList ref args) s =
    .next (s.command ref 0x0607 [noRoom ref (s.hist.segRows (argN args 0) (argN args 1)).flatten.length] []
      (fun ref s' => s'.complete ref .ok 0 0 (s.hist.segRows (argN args 0) (argN args 1)).flatten)) := by
  rw [HistState.length_segRows]
  rfl

/-- The part of O47 about release, cuts and the reads. -/
theorem segmentsAreReleasedCutAndListed : Claims.SegmentsAreReleasedCutAndListed := by
  refine ⟨fun ref args s adm => ?_, fun ref args s adm => ?_, fun s => rfl, fun ref args s adm => ?_, fun ref args s adm => ?_, fun ref args s k l1 l2 items => ?_,
    fun ref args s adm => ?_⟩
  · rw [exec_segRelease adm]
    refine ⟨fun newer => congrArg Host.Outcome.next (State.releaseBy_newer newer), fun a age => ⟨?_, fun idle => ?_⟩⟩
    · rintro ⟨e, isSealed, old, draining⟩
      exact congrArg Host.Outcome.next ((State.releaseBy_aged age).trans (State.releaseAll_busy (mem_olderSegs.mpr ⟨isSealed, old⟩) draining))
    · refine ⟨s.onHist (fun h => h.without (olderSegs s.hist.seqAge a s.hist.sealedSegs)), congrArg Host.Outcome.next ((State.releaseBy_aged age).trans (State.releaseAll_frees fun e freed => ?_)), rfl,
        fun e isSealed old => HistState.without_look_mem (mem_olderSegs.mpr ⟨isSealed, old⟩), fun k kept => HistState.without_look_other fun e freed => ?_⟩
      · obtain ⟨isSealed, old⟩ := mem_olderSegs.mp freed
        exact idle e isSealed old
      · obtain ⟨isSealed, old⟩ := mem_olderSegs.mp freed
        exact kept e isSealed old
  · rw [exec_segCut adm]
    exact ⟨fun fills => congrArg Host.Outcome.next (if_pos fills), fun idle => congrArg Host.Outcome.next (if_neg idle)⟩
  · rw [exec_groupRead]
    exact ⟨fun bad => congrArg Host.Outcome.next (State.readItems_badCount bad),
      fun counted named room => congrArg Host.Outcome.next (State.readItems_ok counted adm named room)⟩
  · rw [exec_policyRead]
    exact ⟨fun bad => congrArg Host.Outcome.next (State.readItems_badCount bad),
      fun counted named room => congrArg Host.Outcome.next (State.readItems_ok counted adm named ((length_listed_policies counted named).trans_le room))⟩
  · rw [exec_groupRead, exec_policyRead]
    exact ⟨fun counted named past => congrArg Host.Outcome.next (State.readItems_past counted items named past),
      fun counted named past => congrArg Host.Outcome.next (State.readItems_past counted items named past)⟩
  · rw [exec_segList]
    refine ⟨fun room => congrArg Host.Outcome.next (s.command_ok _ _ _ _ _ adm ?_ rfl), fun small => congrArg Host.Outcome.next (s.command_refused (judge_pre ?_))⟩
    · exact (judge_none _).mpr (List.forall_mem_singleton.mpr (decide_eq_false (Nat.not_lt.mpr room)))
    · exact (congrArg (fun b => judge [(b, Status.invalid, 0)]) (decide_eq_true small))

/-! POLICY_SET (R261, R564). -/

/-- The refusals of POLICY_SET: a bound outside the ranges of its policy's mode (R246), and a policy that is not there. -/
def policySetPre (l : List PolicyDef) (args : List Nat) : List Check :=
  [(match l[argN args 0]? with | some p => !boundOk p.mode (BitVec.ofNat 32 (argN args 1)) (argN args 2) | none => false, .invalid, 1),
    (decide (l.length ≤ argN args 0), .absent, 0)]

theorem exec_policySet (ref : CmdRef) (args : List Nat) (s : State) :
    exec (.policySet ref args) s = .next (s.commandLong ref 0x0606 (policySetPre s.hist.policies args) []
      (fun ref s => s.onHist (fun h => { h with sets := h.sets ++ [(argN args 0, BitVec.ofNat 32 (argN args 1), argN args 2, ref)] }))) := rfl

section
variable {l : List PolicyDef} {args : List Nat}

theorem judge_policySetPre_some {p : PolicyDef} (there : l[argN args 0]? = some p) : judge (policySetPre l args) =
    if boundOk p.mode (BitVec.ofNat 32 (argN args 1)) (argN args 2) then none else some (.invalid, 1) := by
  have inside : ¬ l.length ≤ argN args 0 := Nat.not_le.mpr (List.getElem?_eq_some_iff.mp there).1
  simp only [policySetPre, there, decide_eq_false inside]
  cases boundOk p.mode (BitVec.ofNat 32 (argN args 1)) (argN args 2) <;> rfl

theorem judge_policySetPre_none (gone : l[argN args 0]? = none) : judge (policySetPre l args) = some (.absent, 0) := by
  simp only [policySetPre, gone, judge, decide_eq_true (List.getElem?_eq_none_iff.mp gone)]

end

/-- One latched POLICY_SET takes effect. -/
def State.applyPolicySet (s : State) (i : Nat) (b : F32) (g : Nat) (ref : CmdRef) : State :=
  if s.keyStopped then s.complete ref .denied 1
  else match s.hist.policies[i]? with
    | none => s.complete ref .absent
    | some p =>
      if !boundOk p.mode b g then s.complete ref .invalid
      else (s.onHist (fun h => { h with policies := h.policies.set i { p with bound := b, maxGap := g }, marks := h.marks ++ [devMark 0x0009 i s.time.n b.toNat] })).complete ref .ok 0 s.time.n

section
variable {s : State} {i : Nat} {b : F32} {g : Nat} {ref : CmdRef}

theorem State.applyPolicySets_one (latched : s.hist.sets = [(i, b, g, ref)]) :
    s.applyPolicySets = (s.onHist (fun h => { h with sets := [] })).applyPolicySet i b g ref := by
  rw [State.applyPolicySets, latched]
  rfl

theorem State.applyPolicySet_stop (stop : s.keyStopped = true) : s.applyPolicySet i b g ref = s.complete ref .denied 1 := if_pos stop

section
variable (free : s.keyStopped = false)
include free

theorem State.applyPolicySet_gone (gone : s.hist.policies[i]? = none) : s.applyPolicySet i b g ref = s.complete ref .absent := by
  simp only [State.applyPolicySet, free, gone, if_neg Bool.false_ne_true]

theorem State.applyPolicySet_sets {p : PolicyDef} (there : s.hist.policies[i]? = some p) (fits : boundOk p.mode b g = true) : s.applyPolicySet i b g ref =
    (s.onHist (fun h => { h with policies := h.policies.set i { p with bound := b, maxGap := g }, marks := h.marks ++ [devMark 0x0009 i s.time.n b.toNat] })).complete
      ref .ok 0 s.time.n := by
  simp only [State.applyPolicySet, free, there, fits, Bool.not_true, if_neg Bool.false_ne_true]

end

end

/-- The part of O47 about policies. -/
theorem policiesChangeAtTheMark : Claims.PoliciesChangeAtTheMark := by
  refine ⟨fun ref args s p there => ?_, fun ref args s gone => ?_, fun s i b g ref latched => ?_⟩
  · rw [exec_policySet]
    refine ⟨fun adm fits => congrArg Host.Outcome.next ?_, fun unfit => congrArg Host.Outcome.next (s.commandLong_refused_now (judge_pre ?_) (.inl rfl))⟩
    · have pass : judge (policySetPre s.hist.policies args) = none := by rw [judge_policySetPre_some there, if_pos fits]
      rw [s.commandLong_ok _ _ _ _ _ adm pass rfl, State.onHist, State.accept_hist]
      rfl
    · rw [judge_policySetPre_some there, unfit, if_neg Bool.false_ne_true]
  · exact congrArg Host.Outcome.next (s.commandLong_refused_late (judge_pre (judge_policySetPre_none gone)) (by decide))
  · intro u
    rw [State.applyPolicySets_one latched]
    exact ⟨fun stop => State.applyPolicySet_stop (s := u) stop, fun free gone => State.applyPolicySet_gone (s := u) free gone,
      fun p free there fits => State.applyPolicySet_sets (s := u) free there fits⟩

/-- Settles O47: drains begin and end, a release frees by age, the reads answer, and a policy changes at its mark. The states' codes and the padding of a SEG_LIST row, and the layout of what GROUP_READ returns, are the model's (log entry 2). -/
theorem historianCommandsKeepTheRing : Obligations.HistorianCommandsKeepTheRing := ⟨segmentsDrain, segmentsAreReleasedCutAndListed, policiesChangeAtTheMark⟩

end Sys2Proof.Machine
end
